-- ==== Sys2Proof/Word.lean ====
section
/-! DEFINITION. The byte, the one word the station protocol is written in. Everything wider is a
number with a range (see WellFormed.lean) and is laid out as bytes in Decode.lean alone. -/

namespace Sys2Proof

/-- One byte of a station frame or of a typed field list (R19). -/
abbrev Byte := BitVec 8

end Sys2Proof
end

