-- ==== Sys2Proof/Syntax.lean ====
section
/-! DEFINITION. The commands of the part: one constructor of `Instr` for each row of
spec/opcode_table.json, with the operands the spec gives that operation or event, and the types of
those operands (the frame bodies of R19, the members of a trip demand set, the restart blocks). -/

namespace Sys2Proof

/-- The two station links (R1). -/
inductive Link where
  | a
  | b
  deriving DecidableEq, Repr, Inhabited

/-- The three sources: entries 0, 1 and 2 of the SOURCE table (R119). -/
inductive SourceId where
  | u1
  | u2
  | gen
  deriving DecidableEq, Repr, Inhabited

/-- A member of a trip demand set (R110). -/
inductive Member where
  | element (e : Nat)
  | stationTrip
  | backup (b : Nat)
  | parallelLimit
  deriving DecidableEq, Repr, Inhabited

/-- The blocks that carry out a part of the warm restart of their own (R188). -/
inductive Block where
  | streams
  | protection
  | breakers
  | sequencer
  | paralleling
  | capture
  | management
  deriving DecidableEq, Repr, Inhabited

/-- The frame classes of R19, in the order of their class codes. -/
inductive FrameClass where
  | sample
  | position
  | command
  | genstatus
  | genset
  | ability
  | time
  | mgmtReq
  | mgmtRsp
  | event
  deriving DecidableEq, Repr, Inhabited

/-- The Ethernet part of a received frame that the first test of 1.1 reads: whether its frame check is good, and its
protocol type (R4). -/
structure Ether where
  good : Bool
  ptype : Nat
  deriving DecidableEq, Repr, Inhabited

/-- A received frame as its bytes: its Ethernet part and its payload (R4, R5). -/
structure RawFrame where
  eth : Ether
  payload : List Byte
  deriving DecidableEq, Repr, Inhabited

/-- A received frame beside its class, length and body: its Ethernet part, and the source, the destination and the
sequence number of its common header (R19). -/
structure Header where
  eth : Ether
  src : Nat
  dst : Nat
  seq : Nat
  deriving DecidableEq, Repr, Inhabited

/-- SAMPLE body (R19). The quality of Qq stands in bits 2q+1 and 2q. -/
structure SampleBody where
  stream : Nat
  second : Nat
  index : Nat
  quality : BitVec 16
  samples : List Int
  deriving DecidableEq, Repr, Inhabited

/-- The position field of a POSITION body: all four values are listed (R19). -/
inductive Reported where
  | travel
  | opened
  | closed
  | invalid
  deriving DecidableEq, Repr, Inhabited

/-- The health flags of a POSITION body (R19, R99). -/
structure Health where
  tripCircuit : Bool
  spring : Bool
  localControl : Bool
  deriving DecidableEq, Repr, Inhabited

/-- The response field of a POSITION body (R19). -/
inductive Response where
  | none
  | accepted
  | refused
  deriving DecidableEq, Repr, Inhabited

/-- The refusal reason field of a POSITION body (R19). -/
inductive BiuReason where
  | localControl
  | spring
  | already
  | other
  deriving DecidableEq, Repr, Inhabited

/-- POSITION body (R19). -/
structure PositionBody where
  biuNumber : Nat
  position : Reported
  health : Health
  tag : Nat
  response : Response
  reason : BiuReason
  deriving DecidableEq, Repr, Inhabited

/-- GENSTATUS body (R19). -/
structure GenStatus where
  running : Bool
  atRated : Bool
  biasMode : Bool
  loadMode : Bool
  fault : Bool
  kw : Int
  deriving DecidableEq, Repr, Inhabited

/-- An ability set (R19, ABILITY body). -/
structure Abilities where
  remoteStart : Bool
  biasControl : Bool
  loadControl : Bool
  softLoad : Bool
  closedTransition : Bool
  deriving DecidableEq, Repr, Inhabited

/-- The message codes of NEXT and ACK pages (R19, R151). -/
inductive AbilityCode where
  | rampRate
  | minLoad
  | rating
  | maxBias
  deriving DecidableEq, Repr, Inhabited

/-- What a page carries after its flags: the ability set of a BASE page, the message code and value
of a NEXT page, or those acknowledged by an ACK page (R19). -/
inductive PageBody where
  | base (set : Abilities)
  | next (code : AbilityCode) (value : Nat)
  | ack (code : AbilityCode) (value : Nat)
  deriving DecidableEq, Repr, Inhabited

/-- ABILITY body: one page (R19). -/
structure Page where
  toggle : Bool
  more : Bool
  ack : Bool
  body : PageBody
  deriving DecidableEq, Repr, Inhabited

/-- TIME body (R19). -/
structure TimeBody where
  second : Nat
  locked : Bool
  deriving DecidableEq, Repr, Inhabited

/-- A MGMT-REQ frame but for its request kind, which the command's constructor gives (R19, R178). -/
structure Request where
  eth : Ether
  src : Nat
  dst : Nat
  seq : Nat
  number : Nat
  target : Nat
  argA : Nat
  argB : Nat
  data : List Byte
  deriving DecidableEq, Repr, Inhabited

/-- The header of a request. -/
def Request.header (q : Request) : Header := ⟨q.eth, q.src, q.dst, q.seq⟩

/-- The commands: the operations and events of spec/opcode_table.json, in its order. A frame command
carries the link it arrived on; an event that the part itself brings about (a timer reaching its
limit, a change taken by its reader) carries the number of the object it concerns. -/
inductive Instr where
  | powerOn
  | malformedFrame (l : Link) (f : RawFrame)
  | ignoredFrame (l : Link) (f : RawFrame)
  | secondCopy (l : Link) (f : RawFrame)
  | linkDown (l : Link)
  | transmitFrame (l : Link)
  | sampleFrame (l : Link) (h : Header) (f : SampleBody)
  | timeFrame (l : Link) (h : Header) (f : TimeBody)
  | timeHoldover
  | instantAdvance
  | sourceFailDelayExpiry (x : SourceId)
  | sourceRestoreDelayExpiry (x : SourceId)
  | instantClosure (lockoutPin : Bool)
  | captureTrigger (p : Nat)
  | positionFrame (l : Link) (h : Header) (f : PositionBody)
  | tripDemandAdd (b : Nat) (m : Member)
  | tripDemandRemove (b : Nat) (m : Member)
  | responseTimeout (b : Nat)
  | limitTimeout (b : Nat)
  | simulatedCompletion (b : Nat)
  | bfRetrip (b : Nat)
  | bfBackup (b : Nat)
  | stationTripEdge
  | seqLockoutChange
  | lineupChange
  | stepTimeout
  | waitTimeExpiry
  | waitPointMet
  | deadTermHolds
  | syncRetry
  | parallelLimit
  | genstatusFrame (l : Link) (h : Header) (f : GenStatus)
  | abilityFrame (l : Link) (h : Header) (f : Page)
  | genAbsentTimeout (g : Nat)
  | abilityGapTimeout (g : Nat)
  | gensetRefresh (g : Nat)
  | demandEvaluation
  | startTimeout (g : Nat)
  | retryTimerExpiry (g : Nat)
  | deadCheckTimeout (g : Nat)
  | syncCorrection (c : Nat)
  | loadSharing
  | readTable (l : Link) (q : Request)
  | writeSegment (l : Link) (q : Request)
  | commit (l : Link) (q : Request)
  | discard (l : Link) (q : Request)
  | readState (l : Link) (q : Request) (lockoutPin : Bool)
  | readLatches (l : Link) (q : Request)
  | readEvents (l : Link) (q : Request)
  | readCapture (l : Link) (q : Request)
  | store (l : Link) (q : Request)
  | storeComplete (readBack : Nat)
  | restart (l : Link) (q : Request)
  | blockRestart (k : Block)
  | breakerOpen (l : Link) (q : Request)
  | breakerClose (l : Link) (q : Request)
  | runPlan (l : Link) (q : Request)
  | setAuto (l : Link) (q : Request)
  | startGens (l : Link) (q : Request)
  | stopGens (l : Link) (q : Request)
  | acknowledgeHalt (l : Link) (q : Request)
  | clearStationTrip (l : Link) (q : Request)
  | clearGenFault (l : Link) (q : Request)
  | renegotiate (l : Link) (q : Request)
  | setPoint (l : Link) (q : Request)
  | releaseCapture (l : Link) (q : Request)
  | stationTripPinReturnsHigh
  | operateKindNotListed (l : Link) (q : Request)
  deriving DecidableEq, Repr, Inhabited

end Sys2Proof
end

