-- ==== Sys2Proof/Config.lean ====
section
/-! DEFINITION. What is fixed in the part, and what the spec leaves open. The capacities and the fixed
arithmetic constants are numbers of the spec; the `opaque` constants are values the spec does not give:
they have no body, so nothing can be proved of them and a statement holds whatever they are. -/

namespace Sys2Proof.Config

/-! ### Capacities -/

/-- Entries of a duplicate window (R8). -/
def windowPairs : Nat := 8
/-- Places of the bulk queue; a queued frame and a reservation take one each (R12, R17). -/
def bulkPlaces : Nat := 64
/-- ABILITY and EVENT frames that a normal queue admits of each class (R16). -/
def normalClassLimit : Nat := 8
/-- The silence count at which a link goes DOWN (R1). -/
def silenceLimit : Nat := 24
/-- Records of the event queue (R170). -/
def eventRecords : Nat := 128
/-- Records of one EVENT frame (R171). -/
def recordsPerFrame : Nat := 8
/-- Instants that the receive buffer covers from the closing point on (R24). -/
def openInstants : Nat := 16
/-- Records of the pre-trigger ring (R174). -/
def ringRecords : Nat := 240
/-- Bytes of data in one MGMT-RSP frame (R19). -/
def responseBytes : Nat := 1470

/-! ### Fixed arithmetic and timing constants -/

/-- Samples of a window, and the fresh count at which a phasor is valid (R32, R39, R43). -/
def windowLength : Nat := 48
/-- The first quadrant of the coefficient tables (R40). -/
def coefficientBase : List Int :=
  [16384, 16244, 15826, 15137, 14189, 12998, 11585, 9974, 8192, 6270, 4240, 2139, 0]
/-- The divisor of the phasor sums (R41). -/
def phasorDivisor : Nat := 49152
/-- The divisor of the power sum (R50). -/
def powerDivisor : Nat := 131072
/-- The least and the greatest accepted period, in 1/256 instant (R47). -/
def periodMin : Nat := 8192
def periodMax : Nat := 18432
/-- Closures without an accepted period after which the frequency is not valid (R48). -/
def trackerSilence : Nat := 144
/-- The full accumulator of a TOC element (R72). -/
def fullAccumulator : Nat := 16777216
/-- Closures that an element may decide on held input (R64). -/
def holdClosures : Nat := 48
/-- Instants without GENSTATUS after which a generator is ABSENT, and between GENSET frames (R149, R153). -/
def absentInstants : Nat := 2880
/-- Instants without a page after which an ability exchange ends UNDECLARED (R150). -/
def gapInstants : Nat := 720
/-- Instants allowed to the dead check of a DEAD close (R159). -/
def deadCheckInstants : Nat := 288
/-- "None" in a table field that names an object. -/
def noneField : Nat := 0xFFFF
/-- "None" in a field of a READ-STATE response (R179). -/
def noneValue : Nat := 0xFFFFFFFF

/-- The Ethernet broadcast destination (R4). -/
def broadcast : BitVec 48 := BitVec.allOnes 48

/-! ### The model's own bound -/

/-- How many pieces of internal work one command may bring before what is left waits for the next
command (DESIGN CHOICE, log entry 6). -/
def workBound : Nat := 4096

/-! ### Values the spec does not give -/

/-- What a position field of 4 to 255 reports: R19 excepts the field from the rule that an unlisted code
makes a frame ignored, and lists the values 0 to 3 alone (log entry 9). -/
opaque unlistedPosition : Nat → Reported

/-- The fixed Ethernet source address of each port, which the spec does not give (R4, log entry 7). -/
opaque portAddress : Link → BitVec 48

/-- A value that a rule calls for and does not state. The argument is the count of such values drawn so
far, so that no two of them are known to be equal (log entry 8). -/
opaque freeWord : Nat → BitVec 32

end Sys2Proof.Config
end

