-- ==== Sys2Proof/WellFormed.lean ====
section
/-! DEFINITION. Which commands are well formed: every operand lies in the range its field has in the
frame formats of R19 or in the numbering of the introduction (5.3). A command that is not well formed
cannot arise at the part; `exec` is total all the same. -/

namespace Sys2Proof

/-- The protocol type of an Ethernet frame fills two bytes. -/
def Ether.wf (e : Ether) : Bool := e.ptype < 65536

/-- Source and destination fill 12 bits and 0 is not used (R19, 5.3). -/
def Header.wf (h : Header) : Bool :=
  h.eth.wf && 1 ≤ h.src && h.src ≤ 4094 && 1 ≤ h.dst && h.dst ≤ 4095 && h.seq < 65536

/-- Eight signed 16-bit samples; the range of the instant index is the intake's own test (R23). -/
def SampleBody.wf (f : SampleBody) : Bool :=
  f.stream < 256 && f.second < 2 ^ 32 && f.index < 65536 && f.samples.length == 8 &&
    f.samples.all (fun x => -32768 ≤ x && x ≤ 32767)

def PositionBody.wf (f : PositionBody) : Bool :=
  f.biuNumber < 256 && f.tag < 256

def GenStatus.wf (f : GenStatus) : Bool :=
  -32768 ≤ f.kw && f.kw ≤ 32767

def Page.wf (f : Page) : Bool :=
  match f.body with
  | .base _ => true
  | .next _ v => v < 2 ^ 32
  | .ack _ v => v < 2 ^ 32

def TimeBody.wf (f : TimeBody) : Bool :=
  f.second < 2 ^ 32

/-- The fields of a MGMT-REQ body (R19). -/
def Request.wf (q : Request) : Bool :=
  q.header.wf && q.number < 65536 && q.target < 65536 && q.argA < 2 ^ 32 && q.argB < 2 ^ 32 &&
    q.data.length ≤ 1470

/-- An OPERATE request of the kind with code `k` (R185). -/
def Request.wfOperate (q : Request) (k : Nat) : Bool :=
  q.wf && q.target == k

def Member.wf : Member → Bool
  | .element e => e < 64
  | .stationTrip => true
  | .backup b => b < 24
  | .parallelLimit => true

/-- The well-formedness of a command. -/
def Instr.wf : Instr → Bool
  | .powerOn => true
  | .malformedFrame _ f => f.eth.wf
  | .ignoredFrame _ f => f.eth.wf
  | .secondCopy _ f => f.eth.wf
  | .linkDown _ => true
  | .transmitFrame _ => true
  | .sampleFrame _ h f => h.wf && f.wf
  | .timeFrame _ h f => h.wf && f.wf
  | .timeHoldover => true
  | .instantAdvance => true
  | .sourceFailDelayExpiry _ => true
  | .sourceRestoreDelayExpiry _ => true
  | .instantClosure _ => true
  | .captureTrigger p => p < 256
  | .positionFrame _ h f => h.wf && f.wf
  | .tripDemandAdd b m => b < 24 && m.wf
  | .tripDemandRemove b m => b < 24 && m.wf
  | .responseTimeout b => b < 24
  | .limitTimeout b => b < 24
  | .simulatedCompletion b => b < 24
  | .bfRetrip b => b < 24
  | .bfBackup b => b < 24
  | .stationTripEdge => true
  | .seqLockoutChange => true
  | .lineupChange => true
  | .stepTimeout => true
  | .waitTimeExpiry => true
  | .waitPointMet => true
  | .deadTermHolds => true
  | .syncRetry => true
  | .parallelLimit => true
  | .genstatusFrame _ h f => h.wf && f.wf
  | .abilityFrame _ h f => h.wf && f.wf
  | .genAbsentTimeout g => g < 8
  | .abilityGapTimeout g => g < 8
  | .gensetRefresh g => g < 8
  | .demandEvaluation => true
  | .startTimeout g => g < 8
  | .retryTimerExpiry g => g < 8
  | .deadCheckTimeout g => g < 8
  | .syncCorrection c => c < 4
  | .loadSharing => true
  | .readTable _ q => q.wf
  | .writeSegment _ q => q.wf
  | .commit _ q => q.wf
  | .discard _ q => q.wf
  | .readState _ q _ => q.wf
  | .readLatches _ q => q.wf
  | .readEvents _ q => q.wf
  | .readCapture _ q => q.wf
  | .store _ q => q.wf
  | .storeComplete r => r < 2 ^ 32
  | .restart _ q => q.wf
  | .blockRestart _ => true
  | .breakerOpen _ q => q.wfOperate 1
  | .breakerClose _ q => q.wfOperate 2
  | .runPlan _ q => q.wfOperate 3
  | .setAuto _ q => q.wfOperate 4
  | .startGens _ q => q.wfOperate 5
  | .stopGens _ q => q.wfOperate 6
  | .acknowledgeHalt _ q => q.wfOperate 7
  | .clearStationTrip _ q => q.wfOperate 8
  | .clearGenFault _ q => q.wfOperate 9
  | .renegotiate _ q => q.wfOperate 10
  | .setPoint _ q => q.wfOperate 11
  | .releaseCapture _ q => q.wfOperate 12
  | .stationTripPinReturnsHigh => true
  | .operateKindNotListed _ q => q.wf && (q.target == 0 || 12 < q.target)

end Sys2Proof
end

