-- ==== Sys2Proof/Decode.lean ====
section
/-! DEFINITION. From bytes to commands. A block has no instruction words: the opcode table gives no row
any bits, so `decodeTableWord` reads none. What the part does decode is its station frames: this file
reads the payload of a received frame by R5, R6 and R19 and says which command the frame is, writes the
received frames back as bytes, and holds the byte-order helpers that the frames sent by the part
(Machine/Wire.lean) and the typed field lists use. -/

namespace Sys2Proof

/-- The table gives no row any bits, so no word spells a command. -/
def decodeTableWord (_nbits _w : Nat) : Option Instr := none

/-! ### Numbers as bytes (R19: most significant byte first) -/

/-- The unsigned value of a run of bytes. -/
def beNat (bs : List Byte) : Nat := bs.foldl (fun n b => 256 * n + b.toNat) 0

/-- The low `k` bytes of `n`, most significant first. -/
def beBytes : Nat → Nat → List Byte
  | 0, _ => []
  | k + 1, n => BitVec.ofNat 8 (n / 256 ^ k) :: beBytes k n

/-- The `k` bytes at offset `o`. -/
def sliceBytes (bs : List Byte) (o k : Nat) : List Byte := (bs.drop o).take k

/-- The unsigned `k`-byte field at offset `o`. -/
def fieldAt (bs : List Byte) (o k : Nat) : Nat := beNat (sliceBytes bs o k)

/-- Two's complement reading of a `w`-bit field (R19). -/
def signedOf (w n : Nat) : Int := if n < 2 ^ (w - 1) then (n : Int) else (n : Int) - 2 ^ w

/-- Two's complement writing of a signed value in `w` bits. -/
def unsignedOf (w : Nat) (x : Int) : Nat := (x % (2 ^ w : Int)).toNat

/-- Bit `k` of an unsigned field. -/
def bitOf (n k : Nat) : Bool := n / 2 ^ k % 2 == 1

/-- A Bool as bit `k` of a flags byte. -/
def bitVal (b : Bool) (k : Nat) : Nat := if b then 2 ^ k else 0

/-! ### Class codes and lengths (R19) -/

def FrameClass.code : FrameClass → Nat
  | .sample => 1
  | .position => 2
  | .command => 3
  | .genstatus => 4
  | .genset => 5
  | .ability => 6
  | .time => 7
  | .mgmtReq => 8
  | .mgmtRsp => 9
  | .event => 10

def FrameClass.ofCode : Nat → Option FrameClass
  | 1 => some .sample
  | 2 => some .position
  | 3 => some .command
  | 4 => some .genstatus
  | 5 => some .genset
  | 6 => some .ability
  | 7 => some .time
  | 8 => some .mgmtReq
  | 9 => some .mgmtRsp
  | 10 => some .event
  | _ => none

/-- The body length a class that the part receives must have; `none` for every other class (R5). For
MGMT-REQ it is 15 bytes plus the data length field, with a data length of at most 1470. -/
def bodyLengthOk (c : Option FrameClass) (bodyLen : Nat) (body : List Byte) : Bool :=
  match c with
  | some .sample => bodyLen == 25
  | some .position => bodyLen == 6
  | some .genstatus => bodyLen == 3
  | some .ability => bodyLen == 7
  | some .time => bodyLen == 5
  | some .mgmtReq =>
    15 ≤ bodyLen && fieldAt body 13 2 ≤ 1470 && bodyLen == 15 + fieldAt body 13 2
  | _ => true

/-- The malformed test of R5 on the payload of a frame. -/
def malformedPayload (p : List Byte) : Bool :=
  p.length < 10 || fieldAt p 0 1 != 1 || 4096 ≤ fieldAt p 2 2 || 4096 ≤ fieldAt p 4 2 ||
    p.length < 10 + fieldAt p 8 2 ||
    !bodyLengthOk (FrameClass.ofCode (fieldAt p 1 1)) (fieldAt p 8 2) (p.drop 10)

/-! ### Bodies of the classes the part receives (R19) -/

/-- A received frame as its bytes read. `unlisted` is a frame that passes R5 but is ignored whatever the
tables hold: its class is one the part sends or is not listed (R6), or a code field holds a value outside
its listed values (R19). -/
inductive RxFrame where
  | malformed
  | unlisted (h : Header)
  | sample (h : Header) (f : SampleBody)
  | position (h : Header) (f : PositionBody)
  | genstatus (h : Header) (f : GenStatus)
  | ability (h : Header) (f : Page)
  | time (h : Header) (f : TimeBody)
  | mgmt (kind : Nat) (q : Request)
  deriving DecidableEq, Repr, Inhabited

def parseHeader (e : Ether) (p : List Byte) : Header := ⟨e, fieldAt p 2 2, fieldAt p 4 2, fieldAt p 6 2⟩

def parseSample (b : List Byte) : SampleBody where
  stream := fieldAt b 0 1
  second := fieldAt b 1 4
  index := fieldAt b 5 2
  quality := BitVec.ofNat 16 (fieldAt b 7 2)
  samples := (List.range 8).map (fun q => signedOf 16 (fieldAt b (9 + 2 * q) 2))

def Reported.ofCode : Nat → Reported
  | 0 => .travel
  | 1 => .opened
  | 2 => .closed
  | _ => .invalid

def Reported.code : Reported → Nat
  | .travel => 0
  | .opened => 1
  | .closed => 2
  | .invalid => 3

def Response.ofCode : Nat → Option Response
  | 0 => some .none
  | 1 => some .accepted
  | 2 => some .refused
  | _ => none

def Response.code : Response → Nat
  | .none => 0
  | .accepted => 1
  | .refused => 2

def BiuReason.ofCode : Nat → Option BiuReason
  | 0 => some .localControl
  | 1 => some .spring
  | 2 => some .already
  | 3 => some .other
  | _ => none

def BiuReason.code : BiuReason → Nat
  | .localControl => 0
  | .spring => 1
  | .already => 2
  | .other => 3

/-- The health flags byte; bits not assigned are not examined (R19). -/
def Health.ofByte (n : Nat) : Health := ⟨bitOf n 0, bitOf n 1, bitOf n 2⟩

def Health.byte (h : Health) : Nat :=
  bitVal h.tripCircuit 0 + bitVal h.spring 1 + bitVal h.localControl 2

/-- The reported position. The field is excepted from the rule for unlisted codes, and its values 4 to
255 are given no meaning (R19): they report an open value (log entry 9). -/
def reportedOf (n : Nat) : Reported :=
  if n ≤ 3 then Reported.ofCode n else Config.unlistedPosition n

/-- A POSITION body, or `none` where the response or the refusal reason is not a listed value (R19). -/
def parsePosition (b : List Byte) : Option PositionBody :=
  match Response.ofCode (fieldAt b 4 1), BiuReason.ofCode (fieldAt b 5 1) with
  | some r, some y =>
    some ⟨fieldAt b 0 1, reportedOf (fieldAt b 1 1), Health.ofByte (fieldAt b 2 1),
      fieldAt b 3 1, r, y⟩
  | _, _ => none

def parseGenStatus (b : List Byte) : GenStatus where
  running := bitOf (fieldAt b 0 1) 0
  atRated := bitOf (fieldAt b 0 1) 1
  biasMode := bitOf (fieldAt b 0 1) 2
  loadMode := bitOf (fieldAt b 0 1) 3
  fault := bitOf (fieldAt b 0 1) 4
  kw := signedOf 16 (fieldAt b 1 2)

def Abilities.ofByte (n : Nat) : Abilities :=
  ⟨bitOf n 0, bitOf n 1, bitOf n 2, bitOf n 3, bitOf n 4⟩

def Abilities.byte (a : Abilities) : Nat :=
  bitVal a.remoteStart 0 + bitVal a.biasControl 1 + bitVal a.loadControl 2 + bitVal a.softLoad 3 +
    bitVal a.closedTransition 4

def AbilityCode.ofCode : Nat → Option AbilityCode
  | 1 => some .rampRate
  | 2 => some .minLoad
  | 3 => some .rating
  | 4 => some .maxBias
  | _ => none

def AbilityCode.code : AbilityCode → Nat
  | .rampRate => 1
  | .minLoad => 2
  | .rating => 3
  | .maxBias => 4

/-- An ABILITY body, or `none` where the page kind or the message code is not listed. -/
def parsePage (b : List Byte) : Option Page :=
  match fieldAt b 0 1 with
  | 0 => some (flagged (.base (Abilities.ofByte (fieldAt b 2 1))))
  | 1 => (AbilityCode.ofCode (fieldAt b 2 1)).map (fun c => flagged (.next c (fieldAt b 3 4)))
  | 2 => (AbilityCode.ofCode (fieldAt b 2 1)).map (fun c => flagged (.ack c (fieldAt b 3 4)))
  | _ => none
where
  flagged (x : PageBody) : Page :=
    ⟨bitOf (fieldAt b 1 1) 0, bitOf (fieldAt b 1 1) 1, bitOf (fieldAt b 1 1) 2, x⟩

def parseTime (b : List Byte) : TimeBody := ⟨fieldAt b 0 4, bitOf (fieldAt b 4 1) 0⟩

def parseRequest (h : Header) (b : List Byte) : Request where
  eth := h.eth
  src := h.src
  dst := h.dst
  seq := h.seq
  number := fieldAt b 0 2
  target := fieldAt b 3 2
  argA := fieldAt b 5 4
  argB := fieldAt b 9 4
  data := sliceBytes b 15 (fieldAt b 13 2)

/-- The frame that a payload holds (R5, R6, R19), with the Ethernet part that came before it. Bytes beyond 10 plus the
body length are padding. -/
def parseFrame (e : Ether) (p : List Byte) : RxFrame :=
  if malformedPayload p then .malformed
  else
    let h := parseHeader e p
    let b := sliceBytes p 10 (fieldAt p 8 2)
    match FrameClass.ofCode (fieldAt p 1 1) with
    | some .sample => .sample h (parseSample b)
    | some .position => (parsePosition b).elim (.unlisted h) (.position h)
    | some .genstatus => .genstatus h (parseGenStatus b)
    | some .ability => (parsePage b).elim (.unlisted h) (.ability h)
    | some .time => .time h (parseTime b)
    | some .mgmtReq =>
      let k := fieldAt b 2 1
      if 1 ≤ k && k ≤ 11 then .mgmt k (parseRequest h b) else .unlisted h
    | _ => .unlisted h

/-- The command that a MGMT-REQ of request kind `k` is (R19, R178, R185). The READ-STATE command also
carries the level at which the LOCKOUT pin stands, which that request reports (R95). -/
def requestCommand (l : Link) (pin : Bool) (k : Nat) (q : Request) : Instr :=
  match k with
  | 1 => .readTable l q
  | 2 => .writeSegment l q
  | 3 => .commit l q
  | 4 => .discard l q
  | 5 => .readState l q pin
  | 6 => .readLatches l q
  | 7 =>
    match q.target with
    | 1 => .breakerOpen l q
    | 2 => .breakerClose l q
    | 3 => .runPlan l q
    | 4 => .setAuto l q
    | 5 => .startGens l q
    | 6 => .stopGens l q
    | 7 => .acknowledgeHalt l q
    | 8 => .clearStationTrip l q
    | 9 => .clearGenFault l q
    | 10 => .renegotiate l q
    | 11 => .setPoint l q
    | 12 => .releaseCapture l q
    | _ => .operateKindNotListed l q
  | 8 => .readEvents l q
  | 9 => .readCapture l q
  | 10 => .store l q
  | _ => .restart l q

/-- The command that the arrival of a frame is, from its bytes alone. A frame that is not seen at all
(R4), that the tables make the part ignore, or that is a second copy, is found to be so by the command's
own meaning. -/
def frameCommand (l : Link) (pin : Bool) (e : Ether) (p : List Byte) : Instr :=
  match parseFrame e p with
  | .malformed => .malformedFrame l ⟨e, p⟩
  | .unlisted _ => .ignoredFrame l ⟨e, p⟩
  | .sample h f => .sampleFrame l h f
  | .position h f => .positionFrame l h f
  | .genstatus h f => .genstatusFrame l h f
  | .ability h f => .abilityFrame l h f
  | .time h f => .timeFrame l h f
  | .mgmt k q => requestCommand l pin k q

/-! ### The same frames as bytes, as a partner sends them -/

/-- The common header and a body (R19). -/
def stationBytes (c : FrameClass) (src dst seq : Nat) (body : List Byte) : List Byte :=
  beBytes 1 1 ++ beBytes 1 c.code ++ beBytes 2 src ++ beBytes 2 dst ++ beBytes 2 seq ++
    beBytes 2 body.length ++ body

/-- The payload of a frame with a given header and body. -/
def frameBytes (c : FrameClass) (h : Header) (body : List Byte) : List Byte :=
  stationBytes c h.src h.dst h.seq body

def sampleBytes (f : SampleBody) : List Byte :=
  beBytes 1 f.stream ++ beBytes 4 f.second ++ beBytes 2 f.index ++ beBytes 2 f.quality.toNat ++
    f.samples.flatMap (fun x => beBytes 2 (unsignedOf 16 x))

def positionBytes (f : PositionBody) : List Byte :=
  beBytes 1 f.biuNumber ++ beBytes 1 f.position.code ++ beBytes 1 f.health.byte ++ beBytes 1 f.tag ++
    beBytes 1 f.response.code ++ beBytes 1 f.reason.code

def genStatusBytes (f : GenStatus) : List Byte :=
  beBytes 1 (bitVal f.running 0 + bitVal f.atRated 1 + bitVal f.biasMode 2 + bitVal f.loadMode 3 +
    bitVal f.fault 4) ++ beBytes 2 (unsignedOf 16 f.kw)

def pageBytes (f : Page) : List Byte :=
  let flags := beBytes 1 (bitVal f.toggle 0 + bitVal f.more 1 + bitVal f.ack 2)
  match f.body with
  | .base s => beBytes 1 0 ++ flags ++ beBytes 1 s.byte ++ beBytes 4 0
  | .next c v => beBytes 1 1 ++ flags ++ beBytes 1 c.code ++ beBytes 4 v
  | .ack c v => beBytes 1 2 ++ flags ++ beBytes 1 c.code ++ beBytes 4 v

def timeBytes (f : TimeBody) : List Byte := beBytes 4 f.second ++ beBytes 1 (bitVal f.locked 0)

def requestBytes (k : Nat) (q : Request) : List Byte :=
  beBytes 2 q.number ++ beBytes 1 k ++ beBytes 2 q.target ++ beBytes 4 q.argA ++ beBytes 4 q.argB ++
    beBytes 2 q.data.length ++ q.data

end Sys2Proof
end

