-- ==== Sys2Proof/Machine/Tables.lean ====
section
/-! DEFINITION. The thirteen tables as data: their numbers, entries and field ids, defaults and
unconfigured content, the checks that COMMIT makes of each field, the typed field list and the CRC. A
table is held as the typed field list of each of its entries, so that reading, comparing, committing and
storing one are the same operation for all thirteen. -/

namespace Sys2Proof.Machine

/-- The tables, in table-number order (R19). -/
inductive TableId where
  | station
  | stream
  | element
  | curve
  | interlock
  | breaker
  | source
  | lineup
  | plan
  | autorule
  | generator
  | sync
  | capture
  deriving DecidableEq, Repr, Inhabited

def TableId.all : List TableId :=
  [.station, .stream, .element, .curve, .interlock, .breaker, .source, .lineup, .plan, .autorule,
    .generator, .sync, .capture]

def TableId.number : TableId → Nat
  | .station => 0
  | .stream => 1
  | .element => 2
  | .curve => 3
  | .interlock => 4
  | .breaker => 5
  | .source => 6
  | .lineup => 7
  | .plan => 8
  | .autorule => 9
  | .generator => 10
  | .sync => 11
  | .capture => 12

def TableId.ofNumber (n : Nat) : Option TableId := TableId.all[n]?

/-- One entry: its fields as (field id, value) in id order. -/
abbrev Entry := List (Nat × Nat)
/-- One table: its entries in index order. -/
abbrev Table := List Entry

/-- The value of a field of an entry; 0 where the entry has no such field. -/
def Entry.get (e : Entry) (id : Nat) : Nat := (e.lookup id).getD 0

/-! ### Entries, field ids and content without configuration -/

/-- How many entries a table has (R21, R54, R56, R87, R96, R119, R123, R126, R136, R146, R147, R173). -/
def TableId.entries : TableId → Nat
  | .station => 1
  | .stream => 16
  | .element => 64
  | .curve => 8
  | .interlock => 32
  | .breaker => 24
  | .source => 3
  | .lineup => 8
  | .plan => 16
  | .autorule => 12
  | .generator => 8
  | .sync => 9
  | .capture => 1

/-- `k` consecutive field ids from `a` on. -/
def idRun (a k : Nat) : List Nat := (List.range k).map (a + ·)

/-- The field ids of a table's entries, rising. -/
def TableId.fieldIds : TableId → List Nat
  | .station => idRun 1 10
  | .stream => idRun 1 4
  | .element => idRun 1 8 ++ idRun 16 6 ++ idRun 32 6
  | .curve => idRun 1 64
  | .interlock => idRun 1 10
  | .breaker => idRun 1 21
  | .source => idRun 1 8
  | .lineup => idRun 1 25
  | .plan => idRun 1 5 ++ (List.range 12).flatMap (fun i => idRun (16 + 8 * i) 5)
  | .autorule => idRun 1 5
  | .generator => idRun 1 15
  | .sync => idRun 1 11
  | .capture => idRun 1 17

/-- The default of a field that a written entry does not carry. For STATION it is the unconfigured
default (R182). -/
def TableId.default? (t : TableId) (id : Nat) : Option Nat :=
  match t with
  | .station =>
    [(1, 4093), (2, 0xB7D4), (3, 0), (4, 0), (5, 0), (6, 0), (7, 50), (8, 3), (9, 0), (10, 0)].lookup id
  | .breaker =>
    [(1, 0), (5, 0), (6, 0xFFFF), (9, 36), (10, 288), (11, 432), (12, 144), (13, 432), (14, 0xFFFF),
      (15, 0), (16, 1), (17, 0xFFFF), (18, 0xFFFF), (19, 0xFFFF), (20, 0xFFFF), (21, 0)].lookup id
  | .plan => if 16 ≤ id then some 0 else none
  | .generator =>
    [(1, 0), (7, 0), (9, 500), (10, 50), (11, 0x1F), (12, 0xFFFF), (13, 57600), (15, 500)].lookup id
  | .sync => [(1, 1000), (2, 0), (3, 200), (7, 48), (8, 200), (9, 64), (10, 32), (11, 144)].lookup id
  | _ => none

/-- The value of a field in a table's unconfigured content: the one its rule gives, else the default, else
0 (R187). ELEMENT entries name no points (R54) and SOURCE entries no failure elements (R119). -/
def TableId.unconfiguredValue (t : TableId) (id : Nat) : Nat :=
  match t with
  | .element => if id == 5 || id == 6 then 0xFFFF else 0
  | .source => if 3 ≤ id && id ≤ 6 then 0xFFFF else 0
  | _ => (t.default? id).getD 0

def TableId.unconfiguredEntry (t : TableId) : Entry :=
  t.fieldIds.map (fun id => (id, t.unconfiguredValue id))

def TableId.unconfigured (t : TableId) : Table := List.replicate t.entries t.unconfiguredEntry

/-- The unconfigured content of all thirteen tables, in table-number order. -/
def unconfiguredTables : List Table := TableId.all.map TableId.unconfigured

/-! ### The new content that a commit forms (R182) -/

/-- Staged entries: index and fields as written. -/
abbrev Staged := List (Nat × Entry)

/-- A content under check: the value of each field, or none. -/
abbrev Candidate := List (List (Nat × Option Nat))

def Candidate.val? (c : Candidate) (e id : Nat) : Option Nat :=
  ((c.getD e []).lookup id).join

def Candidate.val (c : Candidate) (e id : Nat) : Nat := (c.val? e id).getD 0

/-- The value that a staged entry gives a field: the one written, else the default, else 0 where the entry
has configured 0, else none (R182). -/
def stagedField (t : TableId) (w : Entry) (id : Nat) : Option Nat :=
  match w.lookup id with
  | some v => some v
  | none =>
    match t.default? id with
    | some d => some d
    | none =>
      if (t == .breaker || t == .generator) && w.get 1 == 0 then some 0 else none

def candidateEntry (t : TableId) (staged : Staged) (e : Nat) : List (Nat × Option Nat) :=
  match staged.lookup e with
  | some w => t.fieldIds.map (fun id => (id, stagedField t w id))
  | none => t.fieldIds.map (fun id => (id, some (t.unconfiguredValue id)))

def candidate (t : TableId) (staged : Staged) : Candidate :=
  (List.range t.entries).map (candidateEntry t staged)

/-- A checked content as a table. -/
def Candidate.table (c : Candidate) : Table := c.map (fun e => e.map (fun f => (f.1, f.2.getD 0)))

/-- A table as a content under check. -/
def Table.candidate (t : Table) : Candidate := t.map (fun e => e.map (fun f => (f.1, some f.2)))

/-! ### The checks of each field -/

/-- A value is present and lies in a range. -/
def within (lo hi : Nat) : Option Nat → Bool
  | some v => lo ≤ v && v ≤ hi
  | none => false

/-- A value is in a range or names no object. -/
def withinOrNone (lo hi : Nat) (v : Option Nat) : Bool := within lo hi v || v == some Config.noneField

/-- Every bit of the value lies in the mask. -/
def subsetOf (mask v : Nat) : Bool := v &&& mask == v

/-- A 32-bit field read as signed. -/
def signed32 (v : Nat) : Int := signedOf 32 v

/-- A signed field in a range. -/
def withinSigned (lo hi : Int) : Option Nat → Bool
  | some v => lo ≤ signed32 v && signed32 v ≤ hi
  | none => false

/-- R4, R25, R30, R92, R138. -/
def stationFieldOk (c : Candidate) (e id : Nat) : Bool :=
  let v := c.val? e id
  match id with
  | 1 => within 1 4093 v
  | 2 => within 0x600 0xFFFF v
  | 7 => v == some 50 || v == some 60
  | 8 => within 1 8 v
  | 9 => within 0 0xFFFFFF v
  | 10 => within 0 1 v
  | _ => within 0 4094 v

/-- R21. Two enabled entries with one source address and unit stream number fail at field 3 of the higher. -/
def streamFieldOk (c : Candidate) (e id : Nat) : Bool :=
  let v := c.val? e id
  match id with
  | 1 => within 0 1 v
  | 2 => within 1 4094 v
  | 3 =>
    within 0 255 v &&
      !(c.val e 1 == 1 && (List.range e).any (fun d =>
        c.val d 1 == 1 && c.val d 2 == c.val e 2 && c.val d 3 == c.val e 3))
  | _ => within 1 502244 v

/-- The phase sets that an element type permits (R54). -/
def phaseSetOk (type set : Nat) : Bool :=
  match type with
  | 0 => set == 0x80 || (set != 0 && subsetOf 0x70 set)
  | 1 => set == 0x80 || (set != 0 && subsetOf 0x70 set)
  | 2 => set != 0 && subsetOf 0x07 set
  | 3 => set != 0 && subsetOf 0x07 set
  | 4 => set == 0x01
  | 5 => set == 0x01
  | 6 => set == 0x77
  | _ => set == 0x08

/-- The pickup range of an element type (R55). A bank with enable 0 may hold pickup 0. -/
def pickupOk (type : Nat) (enable : Nat) (v : Option Nat) : Bool :=
  (enable == 0 && v == some 0) ||
    match type with
    | 4 => within 20000 120000 v
    | 5 => within 20000 120000 v
    | 6 => within 1 5085124 v
    | _ => within 1 502244 v

/-- A bank field by its place in the bank, 0 to 5 (R55). -/
def bankFieldOk (c : Candidate) (e bank place : Nat) : Bool :=
  let v := c.val? e (bank + place)
  let type := c.val e 1
  match place with
  | 0 => within 0 1 v
  | 1 => pickupOk type (c.val e bank) v
  | 2 => within 0 1048576 v && (type != 1 || v == some 0)
  | 3 => within 0 7 v && (type == 1 || v == some 0)
  | 4 => within 0 16777216 v && (type == 1 || v == some 0)
  | _ => within 0 502244 v && (type == 4 || type == 5 || v == some 0)

/-- R54, R55. -/
def elementFieldOk (c : Candidate) (e id : Nat) : Bool :=
  let v := c.val? e id
  let type := c.val e 1
  match id with
  | 1 => within 0 7 v
  | 2 => within 0 15 v
  | 3 => within 0 0xFF v && phaseSetOk type (c.val e 3)
  | 4 => within 0 1 v && (type == 2 || type == 3 || v == some 0)
  | 5 => withinOrNone 0 255 v
  | 6 => withinOrNone 0 255 v
  | 7 => within 0 1 v
  | 8 => within 0 0xFFFFFF v
  | _ => if id < 32 then bankFieldOk c e 16 (id - 16) else bankFieldOk c e 32 (id - 32)

/-- R87. Term fields beyond their group's count hold 0. -/
def interlockFieldOk (c : Candidate) (e id : Nat) : Bool :=
  let v := c.val? e id
  match id with
  | 1 => within 0 4 v
  | 2 => within 0 4 v
  | _ =>
    let inCount := if id ≤ 6 then id - 2 ≤ c.val e 1 else id - 6 ≤ c.val e 2
    within 0 511 v && (inCount || v == some 0)

/-- R96. An entry with configured 0 is checked in field 1 alone. -/
def breakerFieldOk (c : Candidate) (e id : Nat) : Bool :=
  let v := c.val? e id
  if id == 1 then within 0 1 v
  else if c.val e 1 == 0 then true
  else
    match id with
    | 2 => within 1 4094 v
    | 3 =>
      within 0 255 v && !((List.range e).any (fun d =>
        c.val d 1 == 1 && c.val d 2 == c.val e 2 && c.val d 3 == c.val e 3))
    | 4 => within 0 4 v
    | 5 => within 0 1 v
    | 6 => withinOrNone 0 31 v
    | 7 => within 1 2880 v
    | 8 => within 1 2880 v
    | 9 => within 6 288 v
    | 10 => within 12 2880 v
    | 11 => within 12 2880 v
    | 12 => within 12 2880 v
    | 13 => within 24 5760 v && c.val e 12 < c.val e 13
    | 14 => withinOrNone 0 15 v
    | 15 =>
      within 0 0xF0 v && subsetOf 0xF0 (c.val e 15) &&
        ((c.val e 14 == Config.noneField) == (c.val e 15 == 0))
    | 16 => within 1 502244 v
    | 21 => within 0 1 v
    | _ =>
      v == some Config.noneField ||
        (within 0 23 v && c.val e id != e &&
          !((idRun 17 (id - 17)).any (fun j => c.val e j == c.val e id)))

/-- R119. -/
def sourceFieldOk (c : Candidate) (e id : Nat) : Bool :=
  let v := c.val? e id
  match id with
  | 1 => within 0 15 v
  | 2 => within 0 63 v
  | 7 => within 0 1048576 v
  | 8 => within 0 4294967295 v
  | _ =>
    v == some Config.noneField ||
      (within 0 63 v && c.val e id != c.val e 2 &&
        !((idRun 3 (id - 3)).any (fun j => c.val e j == c.val e id)))

/-- R123. -/
def lineupFieldOk (c : Candidate) (e id : Nat) : Bool :=
  let v := c.val? e id
  if id == 1 then within 0 24 v
  else if id - 1 ≤ c.val e 1 then
    (within 0 23 v || within 256 279 v) &&
      !((idRun 2 (id - 2)).any (fun j => c.val e j % 256 == c.val e id % 256))
  else v == some 0

/-- The arguments A, B and C of a step by its kind (R126). -/
def stepArgumentOk (kind arg : Nat) (v : Option Nat) (b : Nat) : Bool :=
  match kind, arg with
  | 1, 1 => within 0 23 v
  | 2, 1 => within 0 23 v
  | 3, 1 => within 0 23 v
  | 3, 2 => within 0 15 v
  | 3, 3 => within 0 15 v && v != some b
  | 4, 1 => within 0 23 v
  | 4, 2 => within 0 511 v
  | 5, 1 => within 0 511 v
  | 6, 1 => within 1 1048576 v
  | 7, 1 => within 1 8 v
  | 8, 1 => within 0 8 v
  | 9, 1 => within 0 23 v
  | 11, 1 => within 0 3 v
  | 11, 2 => within 0 1 v
  | _, _ => v == some 0

/-- The kind of step `i` of a plan entry under check. -/
def candidateKind (c : Candidate) (e i : Nat) : Nat := c.val e (16 + 8 * i)

/-- Whether a step within the count has a kind. -/
def kindAmong (c : Candidate) (e kind : Nat) (steps : List Nat) : Bool :=
  steps.any (fun i => candidateKind c e i == kind)

/-- Whether step `i`, a PARALLEL_BEGIN or PARALLEL_END, stands where R126 lets it stand: one BEGIN, an END
later than it, and one END, later than the BEGIN. -/
def parallelStepOk (c : Candidate) (e i : Nat) : Bool :=
  let earlier := List.range i
  let later := idRun (i + 1) (c.val e 5 - (i + 1))
  match candidateKind c e i with
  | 9 => !kindAmong c e 9 earlier && kindAmong c e 10 later
  | 10 => kindAmong c e 9 earlier && !kindAmong c e 10 earlier
  | _ => true

/-- R126. -/
def planFieldOk (c : Candidate) (e id : Nat) : Bool :=
  let v := c.val? e id
  match id with
  | 1 => within 0 8 v
  | 2 => within 0 8 v
  | 3 => withinOrNone 0 15 v && v != some e
  | 4 => within 48 288000 v
  | 5 => within 0 12 v
  | _ =>
    let i := (id - 16) / 8
    let place := (id - 16) % 8
    let kind := candidateKind c e i
    if c.val e 5 ≤ i then v == some 0
    else
      match place with
      | 0 => within 1 11 v && parallelStepOk c e i
      | 4 => within 0 1048576 v && (kind != 6 || v == some 0)
      | _ => stepArgumentOk kind place v (c.val e (18 + 8 * i))

/-- R136. -/
def autoruleFieldOk (c : Candidate) (e id : Nat) : Bool :=
  let v := c.val? e id
  match id with
  | 2 => within 0 7 v
  | 3 => within 0 2 v
  | 5 => within 0 15 v
  | _ => within 0 1 v

/-- A lower configured entry has the same value in a field. -/
def sharedBelow (c : Candidate) (e id : Nat) : Bool :=
  (List.range e).any (fun d => c.val d 1 == 1 && c.val d id == c.val e id)

/-- R146. -/
def generatorFieldOk (c : Candidate) (e id : Nat) : Bool :=
  let v := c.val? e id
  if id == 1 then within 0 1 v
  else if c.val e 1 == 0 then true
  else
    match id with
    | 2 => within 1 4094 v && !sharedBelow c e 2
    | 3 => within 0 23 v && !sharedBelow c e 3
    | 4 => within 0 15 v
    | 5 => within 0 15 v && v != c.val? e 4
    | 6 => within 1 65535 v
    | 7 => within 0 65535 v && c.val e 7 ≤ c.val e 6
    | 8 => within 1 65535 v
    | 9 => within 0 5000 v
    | 10 => within 0 100 v
    | 11 => within 0 0x1F v
    | 12 => v == some Config.noneField || (within 0 7 v && !sharedBelow c e 12)
    | 13 => within 2880 1048576 v
    | 14 => within 1 502244 v
    | _ => within 0 5000 v

/-- R147. -/
def syncFieldOk (c : Candidate) (e id : Nat) : Bool :=
  let v := c.val? e id
  match id with
  | 1 => within 0 18000 v
  | 2 => withinSigned (-5000) 5000 v
  | 3 => withinSigned (-5000) 5000 v && signed32 (c.val e 2) < signed32 (c.val e 3)
  | 4 => within 0 502244 v
  | 5 => within 1 502244 v
  | 6 => within 0 502243 v && c.val e 6 < c.val e 5
  | 7 => within 1 2880 v
  | 8 => within 0 2000 v
  | 9 => within 0 65535 v
  | 10 => within 0 65535 v
  | _ => within 48 2880 v

/-- One of the counted name fields of CAPTURE: `first` is the id of the first of them. -/
def namedFieldOk (c : Candidate) (e id first count hi : Nat) : Bool :=
  let v := c.val? e id
  if id - first < count then
    within 0 hi v && !((idRun first (id - first)).any (fun j => c.val e j == c.val e id))
  else v == some 0

/-- R173. -/
def captureFieldOk (c : Candidate) (e id : Nat) : Bool :=
  let v := c.val? e id
  if id == 1 then within 0 1 v
  else if id == 2 then within 0 4 v && !(c.val e 1 == 1 && v == some 0)
  else if id ≤ 6 then namedFieldOk c e id 3 (c.val e 2) 15
  else if id == 7 then within 0 8 v && !(c.val e 1 == 1 && v == some 0)
  else if id ≤ 15 then namedFieldOk c e id 8 (c.val e 7) 255
  else if id == 16 then within 1 240 v
  else within 48 (6144 - c.val e 16) v

/-- Whether a field of an entry passes its table's checks, each check being made at the field that the
table's rule names for it. -/
def fieldOk (t : TableId) (c : Candidate) (e id : Nat) : Bool :=
  match t with
  | .station => stationFieldOk c e id
  | .stream => streamFieldOk c e id
  | .element => elementFieldOk c e id
  | .curve => within 0 65535 (c.val? e id)
  | .interlock => interlockFieldOk c e id
  | .breaker => breakerFieldOk c e id
  | .source => sourceFieldOk c e id
  | .lineup => lineupFieldOk c e id
  | .plan => planFieldOk c e id
  | .autorule => autoruleFieldOk c e id
  | .generator => generatorFieldOk c e id
  | .sync => syncFieldOk c e id
  | .capture => captureFieldOk c e id

/-- The first failing field in canonical order among the entries that are checked (R182). -/
def firstFailure (t : TableId) (c : Candidate) (checked : List Nat) : Option (Nat × Nat) :=
  ((List.range t.entries).filter checked.contains).findSome? (fun e =>
    (t.fieldIds.find? (fun id => !fieldOk t c e id)).map (fun id => (e, id)))

/-- The indices of the entries in which two contents of a table differ (R183). -/
def changedEntries (old new : Table) : List Nat :=
  (List.range (max old.length new.length)).filter (fun e => old.getD e [] != new.getD e [])

/-! ### Typed field lists (R19) and the CRC (R182) -/

/-- One entry of a typed field list. -/
def entryBytes (index : Nat) (fields : Entry) : List Byte :=
  beBytes 2 index ++ beBytes 1 fields.length ++
    fields.flatMap (fun f => beBytes 1 f.1 ++ beBytes 4 f.2)

def fieldListBytes (es : Staged) : List Byte := es.flatMap (fun e => entryBytes e.1 e.2)

/-- Insertion by key into a list in rising key order. -/
def insertByKey {α : Type} (x : Nat × α) : List (Nat × α) → List (Nat × α)
  | [] => [x]
  | y :: ys => if x.1 ≤ y.1 then x :: y :: ys else y :: insertByKey x ys

/-- A list of pairs in rising key order. -/
def sortByKey {α : Type} (xs : List (Nat × α)) : List (Nat × α) := xs.foldr insertByKey []

/-- The canonical encoding of staged entries: entries in index order, written fields in id order (R182). -/
def canonicalBytes (es : Staged) : List Byte :=
  fieldListBytes (sortByKey (es.map (fun e => (e.1, sortByKey e.2))))

/-- A table's entries with their indices. -/
def Table.indexed (t : Table) : Staged := (List.range t.length).zip t

/-- One bit of the reflected CRC with polynomial 04C11DB7H. -/
def crcBit (c : Nat) : Nat := if c % 2 == 1 then Nat.xor 0xEDB88320 (c / 2) else c / 2

def crcByte (c : Nat) (b : Byte) : Nat := Nat.repeat crcBit 8 (Nat.xor c b.toNat)

/-- CRC-32: reflected input and output, initial value and final XOR 0FFFFFFFFH (R182). -/
def crc32 (bs : List Byte) : Nat := Nat.xor 0xFFFFFFFF (bs.foldl crcByte 0xFFFFFFFF)

/-- The CRC of a table store image: every table in number order, every entry with every field (R186). -/
def imageCrc (ts : List Table) : Nat := crc32 (ts.flatMap (fun t => fieldListBytes t.indexed))

/-! ### Segments (R180) -/

/-- What reading a segment finds first that is not well formed. The field is `none` where the failing thing
is an entry and not one of its fields. -/
structure SegmentFault where
  entry : Nat
  field : Option Nat
  deriving DecidableEq, Repr, Inhabited

/-- The pairs of one entry: `k` of them from the bytes, each id a field of the table and new to the entry (R180). Data that ends
inside a pair is named as such before the pair's id is looked at (DESIGN CHOICE, log entry 25). -/
def readFields (t : TableId) (e : Nat) :
    Nat → List Byte → Entry → Except SegmentFault (Entry × List Byte)
  | 0, bs, acc => .ok (acc, bs)
  | k + 1, bs, acc =>
    if bs.length < 5 then .error ⟨Config.noneField, some 0⟩
    else
      let id := fieldAt bs 0 1
      if !t.fieldIds.contains id || (acc.lookup id).isSome then .error ⟨e, some id⟩
      else readFields t e k (bs.drop 5) (acc ++ [(id, fieldAt bs 1 4)])

/-- The entries of a segment, in the order of the data, beside those already staged (R180). Data that ends inside an entry's
header is named as such before the index is looked at (DESIGN CHOICE, log entry 25). The first argument bounds the entries
that the data can hold. -/
def readEntries (t : TableId) : Nat → List Byte → Staged → Except SegmentFault Staged
  | 0, bs, acc => if bs.isEmpty then .ok acc else .error ⟨Config.noneField, some 0⟩
  | k + 1, bs, acc =>
    if bs.isEmpty then .ok acc
    else if bs.length < 3 then .error ⟨Config.noneField, some 0⟩
    else
      let e := fieldAt bs 0 2
      if t.entries ≤ e || (acc.lookup e).isSome then .error ⟨e, none⟩
      else
        match readFields t e (fieldAt bs 2 1) (bs.drop 3) [] with
        | .error f => .error f
        | .ok (fs, rest) => readEntries t k rest (acc ++ [(e, fs)])

/-- The staged entries with a segment's entries added. -/
def readSegment (t : TableId) (staged : Staged) (bs : List Byte) : Except SegmentFault Staged :=
  readEntries t bs.length bs staged

end Sys2Proof.Machine
end

