-- ==== Sys2Proof/Machine/Blocks.lean ====
section
/-! DEFINITION. The state that each block of the part owns (introduction, 3), as plain data, with the
values each holds at power-on. `State` puts the blocks together. -/

namespace Sys2Proof.Machine

/-- An instant: second count and instant index (5.1). -/
structure Label where
  second : Nat
  index : Nat
  deriving DecidableEq, Repr, Inhabited

/-! ### Breaker vocabulary (R96 to R110) -/

inductive Action where
  | opening
  | closing
  deriving DecidableEq, Repr, Inhabited

/-- The kinds of a CLOSE (R97). -/
inductive CloseKind where
  | plain
  | sync
  | dead
  deriving DecidableEq, Repr, Inhabited

/-- Who may hold the dead-bus token or run a sync channel (R158, R161). -/
inductive Party where
  | sequencer
  | generator (g : Nat)
  deriving DecidableEq, Repr, Inhabited

/-- The requester of a CLOSE (R97). -/
inductive Requester where
  | party (p : Party)
  | operator
  deriving DecidableEq, Repr, Inhabited

/-- A set of origins, one mark for each, in the order of the origin class byte (R19). -/
structure Origins where
  protection : Bool := false
  stationTrip : Bool := false
  backup : Bool := false
  parallelLimit : Bool := false
  changeover : Bool := false
  paralleling : Bool := false
  operator : Bool := false
  deriving DecidableEq, Repr, Inhabited

/-- The confirmed position of a breaker (R97). -/
inductive Position where
  | travel
  | opened
  | closed
  | unknown
  deriving DecidableEq, Repr, Inhabited

/-- The phases of a command in the slot (R97). -/
inductive Phase where
  | queued
  | sent
  | accepted
  deriving DecidableEq, Repr, Inhabited

/-- The reasons of a refusal (R102, R109). -/
inductive Reason where
  | tripDemand
  | stationTrip
  | lockout
  | unknownPosition
  | travel
  | guarded
  | token
  | interlock
  | unresponsive
  | tripCircuit
  | biu (r : BiuReason)
  | notConfigured
  | already
  | spring
  | localControl
  deriving DecidableEq, Repr, Inhabited

/-- The outcomes of a command (R109). -/
inductive Outcome where
  | done
  | superseded
  | refused (r : Reason)
  | noResponse
  | failed
  | withdrawn
  deriving DecidableEq, Repr, Inhabited

/-- The answers to a request (R100). -/
inductive Answer where
  | taken (tag : Nat)
  | merged (tag : Nat)
  | done
  | already
  | busy
  | refused (r : Reason)
  deriving DecidableEq, Repr, Inhabited

/-! ### Event records (R20, R170) -/

inductive EventClass where
  | protection
  | breaker
  | transfer
  | generator
  | stream
  | link
  | time
  | management
  | capture
  deriving DecidableEq, Repr, Inhabited

/-- One event record with its sent mark (R170). An absent value is `none`. -/
structure EventRecord where
  seq : Nat
  at_ : Label
  cls : EventClass
  priority : Nat
  object : Nat
  code : Nat
  value : Option Nat
  sent : Bool
  deriving DecidableEq, Repr, Inhabited

/-! ### Frames the part sends, and the link ports (R1 to R18) -/

/-- GENSET body (R19); also the setpoint record it is built from (R153). -/
structure Setpoint where
  start : Bool
  baseLoaded : Bool
  speedBias : Int
  voltageBias : Int
  target : Nat
  ramp : Nat
  deriving DecidableEq, Repr, Inhabited

/-- The bodies of the frames the part sends. A COMMAND carries, beside its body, the number of its breaker
record, a GENSET or an ABILITY that of its generator: the queues tell them apart by it (R14, R16). -/
inductive OutBody where
  | command (b biuNumber : Nat) (action : Action) (tag : Nat) (origins : Origins)
  | genset (g : Nat) (p : Setpoint)
  | ability (g : Nat) (p : Page)
  | event (records : List EventRecord)
  | response (number kind status target detailA detailB : Nat) (data : List Byte)
  deriving DecidableEq, Repr, Inhabited

/-- A frame built by the part. `mirror` marks a mirror copy (R13); `left` marks a copy of an EVENT frame that
has begun transmission on the other link (R171). -/
structure OutFrame where
  src : Nat
  dst : Nat
  seq : Nat
  body : OutBody
  mirror : Bool := false
  left : Bool := false
  deriving DecidableEq, Repr, Inhabited

/-- A place of the bulk queue: a frame, or the reservation for the response to a taken request (R17). -/
inductive BulkPlace where
  | frame (f : OutFrame)
  | reserved (ticket : Nat)
  deriving DecidableEq, Repr, Inhabited

/-- What R11 returns to the producing block. -/
inductive Placing where
  | placed
  | notPlaced
  deriving DecidableEq, Repr, Inhabited

/-- A frame on the wire (R4): its Ethernet destination and source, the protocol type in force as its transmission
began, and the payload of R19. -/
structure Sent where
  destination : BitVec 48
  source : BitVec 48
  ptype : Nat
  payload : List Byte
  deriving DecidableEq, Repr, Inhabited

/-- One link port (1.1, R18). `wire` holds the frame whose transmission began last. -/
structure LinkPort where
  up : Bool := false
  silence : Nat := Config.silenceLimit
  latch : Bool := false
  urgent : List OutFrame := []
  normal : List OutFrame := []
  bulk : List BulkPlace := []
  wire : Option Sent := none
  taken : Nat := 0
  malformed : Nat := 0
  ignored : Nat := 0
  second : Nat := 0
  mirrorDropped : Nat := 0
  withheld : Nat := 0
  deriving DecidableEq, Repr, Inhabited

/-- A duplicate window (R7, R8): its pairs oldest first. -/
structure DupWindow where
  address : Nat
  classes : List FrameClass
  pairs : List (FrameClass × Nat)
  deriving DecidableEq, Repr, Inhabited

/-- The link ports with what they share: the windows and the sequence counters (1.1, R10). -/
structure Links where
  a : LinkPort := {}
  b : LinkPort := {}
  windows : List DupWindow := []
  commandSeq : Nat := 0
  gensetSeq : Nat := 0
  abilitySeq : Nat := 0
  responseSeq : Nat := 0
  eventSeq : Nat := 0
  deriving DecidableEq, Repr, Inhabited

/-! ### Streams and instants (R21 to R38) -/

inductive TimeState where
  | unset
  | tracking
  | holdover
  deriving DecidableEq, Repr, Inhabited

/-- The pending slew (R27). -/
inductive Slew where
  | none
  | withhold
  | double
  deriving DecidableEq, Repr, Inhabited

/-- The aligner (R25 to R30, R36, R38). `closingPoint` is a position; `nominal` is the f_nom in force. -/
structure Aligner where
  counter : Label := ⟨0, 0⟩
  closingPoint : Nat := 0
  time : TimeState := .unset
  timeout : Nat := 0
  slew : Slew := .none
  nominal : Nat := 50
  timeLatch : Bool := false
  unlocked : Nat := 0
  steps : Nat := 0
  seedings : Nat := 0
  lastClosed : Option Label := none
  deriving DecidableEq, Repr, Inhabited

inductive StreamState where
  | disabled
  | acquiring
  | locked
  | holding
  | stale
  deriving DecidableEq, Repr, Inhabited

/-- The condition of a quantity (R31). -/
inductive Condition where
  | fresh
  | held
  | invalid
  deriving DecidableEq, Repr, Inhabited

/-- What a stream record holds per quantity (2.1), with the value entered at the last closure. -/
structure Quantity where
  condition : Condition := .invalid
  missing : Nat := 3
  fresh : Nat := 0
  questionable : Bool := false
  value : Int := 0
  deriving DecidableEq, Repr, Inhabited

/-- A delivered frame in the receive buffer, by its position. -/
structure Delivered where
  position : Nat
  quality : BitVec 16
  samples : List Int
  deriving DecidableEq, Repr, Inhabited

/-- The run-time part of a stream record (2.1, R24, R34, R35). -/
structure StreamRec where
  state : StreamState := .disabled
  buffer : List Delivered := []
  lastDelivered : Option Label := none
  lastSeq : Option Nat := none
  quantities : List Quantity := List.replicate 8 {}
  valid : Bool := false
  staleSeen : Bool := false
  delivered : Nat := 0
  duplicate : Nat := 0
  late : Nat := 0
  early : Nat := 0
  gaps : Nat := 0
  deriving DecidableEq, Repr, Inhabited

structure Intake where
  streams : List StreamRec := List.replicate 16 {}
  unmatched : Nat := 0
  outOfRange : Nat := 0
  deriving DecidableEq, Repr, Inhabited

/-! ### The measurement store (R39 to R53) -/

/-- The mark of a window entry (R39). -/
inductive WindowMark where
  | none
  | held
  | invalid
  deriving DecidableEq, Repr, Inhabited

structure WindowEntry where
  value : Int := 0
  mark : WindowMark := .invalid
  deriving DecidableEq, Repr, Inhabited

structure Phasor where
  re : Int := 0
  im : Int := 0
  magnitude : Nat := 0
  valid : Bool := false
  asOf : Option Label := none
  deriving DecidableEq, Repr, Inhabited

/-- The frequency tracker (3.5). -/
structure Tracker where
  closures : Nat := 0
  reference : Option Nat := none
  silence : Nat := Config.trackerSilence
  frequency : Nat := 0
  valid : Bool := false
  accepted : Nat := 0
  discarded : Nat := 0
  deriving DecidableEq, Repr, Inhabited

/-- A window emptied: 48 entries of value 0, each marked invalid (R39). -/
def emptyWindow : List WindowEntry := List.replicate Config.windowLength {}

/-- One stream's windows and its entries of the measurement store (3.1). -/
structure StreamMeasure where
  windows : List (List WindowEntry) := List.replicate 8 emptyWindow
  phasors : List Phasor := List.replicate 8 {}
  tracker : Tracker := {}
  power : Int := 0
  powerValid : Bool := false
  deriving DecidableEq, Repr, Inhabited

/-! ### Protection elements (R57) -/

inductive BlockCause where
  | point
  | input
  | supervision
  deriving DecidableEq, Repr, Inhabited

inductive ElementState where
  | disabled
  | settling
  | armed
  | pickedUp
  | operated
  | blocked (c : BlockCause)
  deriving DecidableEq, Repr, Inhabited

inductive Bank where
  | a
  | b
  deriving DecidableEq, Repr, Inhabited

structure ElementRec where
  state : ElementState := .disabled
  bank : Bank := .a
  delay : Nat := 0
  accumulator : Nat := 0
  settle : Nat := 0
  hold : Nat := 0
  operations : Nat := 0
  lastX : Int := 0
  deriving DecidableEq, Repr, Inhabited

/-! ### Hardwired lines (R90 to R94) -/

/-- The pins, the LOCKOUT debounce, the STATION TRIP latch and the changes of LOCKOUT that the sequencer has
yet to take (R139), oldest first. -/
structure Lines where
  lockoutPin : Bool := true
  lastSample : Option Bool := none
  lockout : Bool := true
  tripPin : Bool := true
  tripLatch : Bool := false
  tripEdges : Nat := 0
  healthy : Bool := false
  lockoutChanges : List Bool := []
  deriving DecidableEq, Repr, Inhabited

/-! ### The breaker controller (R97) -/

/-- The command in a slot. `closeKind` and `requester` belong to a CLOSE; `generator` is the generator behind
a PARALLELING origin; `timer` is the response timer in SENT and the limit or simulation timer in ACCEPTED. -/
structure Command where
  action : Action
  closeKind : CloseKind := .plain
  requester : Requester := .operator
  tag : Nat := 0
  origins : Origins := {}
  generator : Option Nat := none
  phase : Phase := .queued
  left : Bool := false
  timer : Nat := 0
  resendDone : Bool := false
  deriving DecidableEq, Repr, Inhabited

inductive BfState where
  | idle
  | timing
  | retripped
  | backupIssued
  deriving DecidableEq, Repr, Inhabited

structure BreakerRec where
  position : Position := .unknown
  candidate : Option Reported := none
  fieldPosition : Position := .unknown
  fieldCandidate : Option Reported := none
  health : Health := ⟨false, false, false⟩
  unresponsive : Bool := false
  tagCounter : Nat := 0
  slot : Option Command := none
  trips : List Member := []
  bf : BfState := .idle
  bfTimer : Nat := 0
  bfOrigins : Origins := {}
  bfOccurred : Bool := false
  lastOutcome : Option Outcome := none
  issued : Nat := 0
  outcomes : List Nat := List.replicate 6 0
  reports : Nat := 0
  refusals : Nat := 0
  deriving DecidableEq, Repr, Inhabited

/-- An addition to or a removal from a trip demand set that the breaker controller has been asked for and has
yet to take (R75, R110). -/
structure DemandRequest where
  add : Bool
  breaker : Nat
  member : Member
  deriving DecidableEq, Repr, Inhabited

structure BreakerCtl where
  recs : List BreakerRec := List.replicate 24 {}
  unmatched : Nat := 0
  requests : List DemandRequest := []
  deriving DecidableEq, Repr, Inhabited

/-! ### The changeover sequencer (R119 to R144) -/

inductive SourceState where
  | unverified
  | available
  | failing
  | failed
  | restoring
  deriving DecidableEq, Repr, Inhabited

/-- A source record (R120 to R122), with its two points, which it keeps while UNVERIFIED (R83). -/
structure SourceRec where
  state : SourceState := .unverified
  previous : Option SourceState := none
  delay : Nat := 0
  availablePoint : Bool := false
  failedPoint : Bool := false
  deriving DecidableEq, Repr, Inhabited

/-- The current line-up (R124). -/
inductive Lineup where
  | is (k : Nat)
  | none
  | unknown
  deriving DecidableEq, Repr, Inhabited

/-- What started a plan (R127). -/
inductive Cause where
  | operator
  | auto (rule : Nat)
  | abort (plan : Nat)
  deriving DecidableEq, Repr, Inhabited

/-- What the running step waits for (R129 to R133). -/
inductive StepWait where
  | nothing
  | command
  | token
  | deadTerm
  | sync
  | retry (instants : Nat)
  | point
  | time
  | gensOnline
  | gensOffline
  | departing
  deriving DecidableEq, Repr, Inhabited

/-- The run record (R127). The parallel timer is stopped when `none`. `limitRaised` says that the expiry of
the parallel timer has raised its demand already (R135). -/
structure PlanRun where
  plan : Nat
  cause : Cause
  step : Nat := 0
  timer : Nat := 0
  parallel : Option Nat := none
  departing : Option Nat := none
  stopMark : Bool := false
  limitRaised : Bool := false
  wait : StepWait := .nothing
  deriving DecidableEq, Repr, Inhabited

inductive HaltReason where
  | stationTrip
  | stepFailed
  | abortFailed
  | abortNotApplicable
  | abortCompleted
  deriving DecidableEq, Repr, Inhabited

/-- The sequencer states (R125). `running` is TRANSFERRING while the parallel timer is stopped and PARALLEL
while it runs. -/
inductive SeqState where
  | init
  | idle (k : Nat)
  | noLineup
  | running (r : PlanRun)
  | halted (r : HaltReason)
  | lockedOut
  deriving DecidableEq, Repr, Inhabited

/-- An auto request in the pending slot (R137). -/
structure AutoRequest where
  rule : Nat
  plan : Nat
  source : Nat
  condition : Nat
  deriving DecidableEq, Repr, Inhabited

/-- The sequencer (R122, R124, R125, R137, R144). `lineupDue` says that a change of a watched position stands that LINEUP_CHANGE
has yet to take. The value of the last STEP_FAILED event is none until one is recorded after power-on (DESIGN CHOICE, log entry
3). -/
structure Sequencer where
  state : SeqState := .init
  sources : List SourceRec := List.replicate 3 {}
  lineup : Lineup := .unknown
  lineupDue : Bool := false
  slot : Option AutoRequest := none
  autoEffective : Bool := false
  flags : List Bool := List.replicate 4 false
  lastPlan : Option Nat := none
  lastStepFailed : Option Nat := none
  deriving DecidableEq, Repr, Inhabited

/-! ### The paralleling unit (R145 to R169) -/

inductive GenState where
  | absent
  | negotiating
  | standby
  | starting
  | ready
  | claiming
  | syncing
  | closing
  | online
  | unloading
  | stopping
  | fault
  deriving DecidableEq, Repr, Inhabited

inductive ExchangeState where
  | none
  | awaitBase
  | receiving
  | done
  | undeclared
  deriving DecidableEq, Repr, Inhabited

def noAbilities : Abilities := ⟨false, false, false, false, false⟩

/-- The exchange record (R150). -/
structure Exchange where
  state : ExchangeState := .none
  expected : Bool := false
  lastApplied : Option Bool := none
  controllerSet : Abilities := noAbilities
  gap : Nat := 0
  deriving DecidableEq, Repr, Inhabited

/-- The negotiated parameters (R151). -/
structure Parameters where
  rating : Nat := 0
  minLoad : Nat := 0
  ramp : Nat := 0
  biasLimit : Nat := 0
  deriving DecidableEq, Repr, Inhabited

def noStatus : GenStatus := ⟨false, false, false, false, false, 0⟩

/-- The run-time record of a generator (R148), with the parts of its setpoint record that do not follow from
its state (R153). `absentTaken` says that the expiry of the ABSENT timer has been taken, and `retryDue` that
the retry timer has reached 0 and its event has yet to be taken. -/
structure GenRec where
  state : GenState := .absent
  absentTimer : Nat := 0
  absentTaken : Bool := false
  status : GenStatus := noStatus
  exchange : Exchange := {}
  common : Abilities := noAbilities
  params : Parameters := {}
  deferred : Bool := false
  startTimer : Nat := 0
  retryTimer : Nat := 0
  retryDue : Bool := false
  onlineTimer : Nat := 0
  unloadTimer : Nat := 0
  deadTimer : Nat := 0
  refreshTimer : Nat := 0
  deadFailures : Nat := 0
  closeFailures : Nat := 0
  speedBias : Int := 0
  voltageBias : Int := 0
  target : Nat := 0
  baseLoaded : Bool := false
  soft : Bool := false
  unloadFrom : Nat := 0
  unloadAsked : Bool := false
  deriving DecidableEq, Repr, Inhabited

inductive RunPhase where
  | running
  | released
  deriving DecidableEq, Repr, Inhabited

/-- A sync run (R161, R162), with the generators whose biases it wrote and the angle, slip and advance of its
last evaluation (R169). -/
structure SyncRun where
  client : Party
  breaker : Nat
  gStream : Nat
  bStream : Nat
  entry : Nat
  qualify : Nat := 0
  ready : Bool := false
  timer : Nat := 0
  phase : RunPhase := .running
  wrote : List Nat := []
  theta : Option Int := none
  slip : Option Int := none
  advance : Option Int := none
  deriving DecidableEq, Repr, Inhabited

structure Paralleling where
  gens : List GenRec := List.replicate 8 {}
  demand : Nat := 0
  demandDue : Bool := false
  token : Option Party := none
  tokenList : List Party := []
  channels : List (Option SyncRun) := List.replicate 4 none
  waitList : List Nat := []
  shareTimer : Nat := 0
  deriving DecidableEq, Repr, Inhabited

/-! ### Events and capture (R170 to R176) -/

structure EventQueue where
  records : List EventRecord := []
  nextSeq : Nat := 0
  overwritten : Nat := 0
  overwriteLatch : Bool := false
  deriving DecidableEq, Repr, Inhabited

/-- The mark of a value in an instant record (R174). -/
inductive SampleMark where
  | taken
  | questionable
  | held
  | invalid
  deriving DecidableEq, Repr, Inhabited

/-- An instant record: for each selected stream its eight values with their marks (R174). -/
structure InstantRecord where
  label : Label
  streams : List (List (Int × SampleMark))
  deriving DecidableEq, Repr, Inhabited

inductive BufferState where
  | empty
  | recording
  | held
  deriving DecidableEq, Repr, Inhabited

/-- Capture (9.2). `copied` counts the records copied from the ring; `edges` holds the rises of trigger points
that capture has yet to take, oldest first (R175). -/
structure Capture where
  state : BufferState := .empty
  buffer : List InstantRecord := []
  copied : Nat := 0
  triggerPoint : Option Nat := none
  triggerLabel : Option Label := none
  triggerIndex : Option Nat := none
  ring : List InstantRecord := []
  refused : Nat := 0
  edges : List Nat := []
  deriving DecidableEq, Repr, Inhabited

/-! ### The management unit and the table store (R177 to R189) -/

/-- What the response to a taken request needs of it: its reservation and the fields it echoes (R177). -/
structure Ticket where
  number : Nat
  source : Nat
  request : Nat
  kind : Nat
  target : Nat
  deriving DecidableEq, Repr, Inhabited

/-- A commit that waits for its activating closure (R183). -/
structure CommitWait where
  ticket : Ticket
  crc : Nat
  content : Table
  deriving DecidableEq, Repr, Inhabited

/-- The states of a staging area (10.3). -/
inductive StagingState where
  | empty
  | filling (n : Nat)
  | complete
  | committing (w : CommitWait)
  deriving DecidableEq, Repr, Inhabited

structure Staging where
  state : StagingState := .empty
  entries : Staged := []
  deriving DecidableEq, Repr, Inhabited

/-- A STORE in flight: its ticket, the snapshot and the CRC computed at acceptance (R186). -/
structure StoreWait where
  ticket : Ticket
  snapshot : List Table
  crc : Nat
  deriving DecidableEq, Repr, Inhabited

/-- The table store: what survives a loss of supply (11.1). -/
structure TableStore where
  valid : Bool := false
  crc : Nat := 0
  content : List Table := []
  deriving DecidableEq, Repr, Inhabited

/-- The statuses of a response (R19). -/
inductive Status where
  | done
  | busy
  | invalid
  | sequence
  | notPermitted
  | locked
  | unknownTable
  deriving DecidableEq, Repr, Inhabited

/-- The management unit. `store` is the STORE in flight (store phase WRITING), `restart` the blocks that have
yet to carry out the warm restart in flight. `statusCounts` counts the responses that are not DONE, by status
from BUSY on. -/
structure Management where
  tables : List Table := unconfiguredTables
  staging : List Staging := List.replicate 13 {}
  configured : Bool := false
  soft : List Bool := List.replicate 16 false
  image : TableStore := {}
  store : Option StoreWait := none
  storesCompleted : Nat := 0
  restart : Option (List Block) := none
  taken : Nat := 0
  statusCounts : List Nat := List.replicate 6 0
  nextTicket : Nat := 0
  deriving DecidableEq, Repr, Inhabited

/-! ### Work between the blocks -/

/-- A piece of work that one block hands to another inside a step: an outcome returned, a change of position
handed on, a step of a plan to begin. It is taken in the same step (DESIGN CHOICE, log entry 6). -/
inductive Work where
  /-- An outcome returned to the sequencer (R109). -/
  | seqOutcome (b : Nat) (a : Action) (o : Outcome)
  /-- An outcome returned to the paralleling unit (R109). -/
  | genOutcome (g b : Nat) (a : Action) (k : CloseKind) (o : Outcome)
  /-- A change of position handed to the paralleling unit (R164): `own` that the generator's own OPEN
  concludes by it, `tripped` that the trip demand set was not empty. -/
  | genPosition (b : Nat) (old new : Position) (own tripped : Bool)
  /-- A change of position handed to the sequencer (R133). -/
  | seqPosition (b : Nat)
  /-- The issue of an OPEN that superseded a CLOSE, after the CLOSE's outcome is returned (R101). -/
  | issue (b : Nat)
  /-- The release of a queued CLOSE (R103). -/
  | release (b : Nat)
  /-- The grant of the free token at the end of the unit's event (R158). -/
  | tokenGrant
  | seqTokenGranted
  | genTokenGranted (g : Nat)
  /-- A channel 0 run has aborted (R163). -/
  | seqSyncAborted
  /-- The number of generators ONLINE or UNLOADING has changed (R154). -/
  | gensReport
  /-- A channel among 1 to 3 has become free (R160). -/
  | channelFree
  /-- Step of the running plan: begin, completion, failure with its code and reason code (R128). -/
  | seqBegin
  | seqComplete
  | seqFail (code reason : Nat)
  /-- IDLE(k) has been entered (R125). -/
  | idleEntered (k : Nat)
  /-- The dead check at TAKEN (R159). -/
  | genDeadCheck (g : Nat)
  /-- The position and health of a matched report, after its response fields (R98). -/
  | report (b : Nat) (p : Reported) (h : Health)
  deriving DecidableEq, Repr, Inhabited

/-! ### Power-on values that depend on the tables in force -/

/-- A field of a table among `ts`. -/
def tableField (ts : List Table) (t : TableId) (e id : Nat) : Nat :=
  Entry.get ((ts.getD t.number []).getD e []) id

/-- A stream record at power-on (R22). -/
def powerOnStream (ts : List Table) (k : Nat) : StreamRec :=
  { state := if tableField ts .stream k 1 == 1 then .acquiring else .disabled }

/-- A stream's measurements at power-on: the frequency value is 1000·f_nom (R39, R49, R50). -/
def powerOnMeasure (ts : List Table) : StreamMeasure :=
  { tracker := { frequency := 1000 * tableField ts .station 0 7 } }

/-- The table values of a generator's parameters (R151). -/
def tableParameters (ts : List Table) (g : Nat) : Parameters :=
  ⟨tableField ts .generator g 6, tableField ts .generator g 7, tableField ts .generator g 8,
    tableField ts .generator g 9⟩

/-- A generator record at power-on, RESTART and activation (R148). -/
def powerOnGen (ts : List Table) (g : Nat) : GenRec := { params := tableParameters ts g }

/-- The addresses that the active tables name, with the classes each may send (R7). The commissioning address
is accepted while CONFIGURED is 0. -/
def namedAddresses (ts : List Table) (configured : Bool) : List (Nat × List FrameClass) :=
  (List.range 24).map (fun b => (tableField ts .breaker b 2, [FrameClass.position])) ++
  (List.range 8).map (fun g =>
    (tableField ts .generator g 2, [FrameClass.genstatus, FrameClass.ability])) ++
  [(tableField ts .station 0 4, [FrameClass.mgmtReq]), (tableField ts .station 0 5, [FrameClass.mgmtReq]),
    (tableField ts .station 0 6, [FrameClass.time])] ++
  (if configured then [] else [(4094, [FrameClass.mgmtReq])])

/-- The class list of an address: the union of what each of its roles may send. -/
def classesOf (named : List (Nat × List FrameClass)) (a : Nat) : List FrameClass :=
  ((named.filter (fun n => n.1 == a)).flatMap (·.2)).dedup

/-- The window set for the addresses named: a window still named keeps its pairs, a new one is empty, and
address 0 names no station (R7). -/
def rebuildWindows (named : List (Nat × List FrameClass)) (old : List DupWindow) : List DupWindow :=
  ((named.map (·.1)).filter (· != 0)).dedup.map (fun a =>
    ⟨a, classesOf named a, ((old.find? (·.address == a)).map (·.pairs)).getD []⟩)

/-- The watched breakers: those named in a defined line-up (R124). -/
def watchedBreakers (ts : List Table) : List Nat :=
  (List.range 8).flatMap (fun k =>
    (idRun 2 (tableField ts .lineup k 1)).map (fun id => tableField ts .lineup k id % 256))

/-- The current line-up while every position is UNKNOWN (R124): none with no watched breaker. -/
def powerOnLineup (ts : List Table) : Lineup :=
  if (watchedBreakers ts).isEmpty then .none else .unknown

end Sys2Proof.Machine
end

