-- ==== Sys2Proof/Machine/State.lean ====
section
/-! DEFINITION. The state of the part: the blocks with what each owns, the queue of commands that wait, and
the reasons a step can stop. Plain data throughout. -/

namespace Sys2Proof.Machine

/-- Why the part stops. Nothing of the spec stops it: every command has an effect, or finds its event not
standing and has none, so there is no fault. -/
inductive Fault where
  deriving DecidableEq, Repr

/-- Why a command has no meaning in the model. -/
inductive Refusal where
  /-- Raised by `exec` alone, for a command whose meaning is not written yet. Safe: a claim about such a
  command cannot be proved. No arm raises it. -/
  | notModelled (mnemonic : String)
  deriving DecidableEq, Repr

/-- The state. `pending` is the queue of commands, first in, first out. `work` is internal work that outran
the bound of a step, empty as a rule (log entry 6). `risen` holds the rises of trigger points noted within the command
that runs (log entry 11); it is empty between commands. `closing` is the label of the closure whose work is
running, by which its events are labelled (R170); it is none between commands. `hushed` stands while a block carries out its
part of a RESTART, which sends no frame to a generator controller (R148); it is false between commands. `free` counts the values drawn
that the spec does not give (log entry 8). -/
structure State where
  pending : List Instr := []
  work : List Work := []
  risen : List Nat := []
  closing : Option Label := none
  hushed : Bool := false
  free : Nat := 0
  links : Links := {}
  aligner : Aligner := {}
  intake : Intake := {}
  measures : List StreamMeasure := List.replicate 16 {}
  elements : List ElementRec := List.replicate 64 {}
  lines : Lines := {}
  breakers : BreakerCtl := {}
  seq : Sequencer := {}
  par : Paralleling := {}
  events : EventQueue := {}
  capture : Capture := {}
  mgmt : Management := {}
  deriving DecidableEq, Repr, Inhabited

/-- Every block at its power-on values under the tables in force, before the events of power-on (R187).
Point LOCKOUT is 1, so the sequencer, INIT at power-on, is LOCKED_OUT at once (R143). -/
def State.fresh (tables : List Table) (configured : Bool) (image : TableStore) : State where
  links := { windows := rebuildWindows (namedAddresses tables configured) [] }
  aligner := { nominal := tableField tables .station 0 7 }
  intake := { streams := (List.range 16).map (powerOnStream tables) }
  measures := List.replicate 16 (powerOnMeasure tables)
  seq := { state := .lockedOut, lineup := powerOnLineup tables }
  par := { gens := (List.range 8).map (powerOnGen tables) }
  mgmt := { tables := tables, configured := configured, image := image }

/-- The part right after power-on with no valid image in its table store: unconfigured (R187). STORE_INVALID
is its first event record, and SEQ_LOCKED_OUT its second (R139, R143). -/
def State.reset : State :=
  { State.fresh unconfiguredTables false {} with
    events := {
      records := [⟨0, ⟨0, 0⟩, .management, 12, 0, 12, none, false⟩,
        ⟨1, ⟨0, 0⟩, .transfer, 9, 0, 13, none, false⟩]
      nextSeq := 2 } }

end Sys2Proof.Machine
end

