-- ==== Sys2Proof/Machine/Ops.lean ====
section
/-! DEFINITION. The named operations over the state that every family of commands uses: one accessor and
one update for each kind of record, the fields of the active tables, instants and positions, counters that
wrap, requests to a trip demand set and work handed from block to block. -/

namespace Sys2Proof

/-! ### Numbers of the parts named in commands -/

def Link.other : Link → Link
  | .a => .b
  | .b => .a

/-- The object number of a link in LINK events (R2). -/
def Link.number : Link → Nat
  | .a => 0
  | .b => 1

def SourceId.number : SourceId → Nat
  | .u1 => 0
  | .u2 => 1
  | .gen => 2

end Sys2Proof

namespace Sys2Proof.Machine

/-! ### Small arithmetic -/

/-- A 32-bit counter stepped by one (R18, R24 and others: 32 bits, wrapping to 0). -/
def step32 (n : Nat) : Nat := (n + 1) % 2 ^ 32

/-- A 16-bit sequence number stepped by one (R10, R170). -/
def step16 (n : Nat) : Nat := (n + 1) % 65536

/-- Exact division rounded half away from zero (5.4). -/
def roundDiv (n : Int) (d : Nat) : Int :=
  if 0 ≤ n then ((2 * n.natAbs + d) / (2 * d) : Nat) else -((2 * n.natAbs + d) / (2 * d) : Nat)

/-- Division rounded toward zero (5.4). -/
def truncDiv (n : Int) (d : Nat) : Int :=
  if 0 ≤ n then (n.natAbs / d : Nat) else -(n.natAbs / d : Nat)

/-- A value limited to the range from −L to L (5.4). -/
def clampInt (x : Int) (l : Nat) : Int := max (-(l : Int)) (min x l)

/-- A value limited to a range of numbers. -/
def clampNat (lo hi x : Nat) : Nat := max lo (min x hi)

/-! ### Records by number -/

/-- Read a numbered record; a number beyond the records reads as a record at its defaults. -/
def nth {α : Type} [Inhabited α] (l : List α) (i : Nat) : α := l.getD i default

def State.port (s : State) : Link → LinkPort
  | .a => s.links.a
  | .b => s.links.b

def State.setPort (s : State) (l : Link) (p : LinkPort) : State :=
  match l with
  | .a => { s with links := { s.links with a := p } }
  | .b => { s with links := { s.links with b := p } }

def State.modPort (s : State) (l : Link) (f : LinkPort → LinkPort) : State := s.setPort l (f (s.port l))

def State.stream (s : State) (k : Nat) : StreamRec := nth s.intake.streams k

def State.modStream (s : State) (k : Nat) (f : StreamRec → StreamRec) : State :=
  { s with intake := { s.intake with streams := s.intake.streams.modify k f } }

def State.measure (s : State) (k : Nat) : StreamMeasure := nth s.measures k

def State.modMeasure (s : State) (k : Nat) (f : StreamMeasure → StreamMeasure) : State :=
  { s with measures := s.measures.modify k f }

/-- The store's phasor of quantity `q` of stream `k`. -/
def State.phasor (s : State) (k q : Nat) : Phasor := nth (s.measure k).phasors q

def State.element (s : State) (e : Nat) : ElementRec := nth s.elements e

def State.modElement (s : State) (e : Nat) (f : ElementRec → ElementRec) : State :=
  { s with elements := s.elements.modify e f }

def State.brk (s : State) (b : Nat) : BreakerRec := nth s.breakers.recs b

def State.modBrk (s : State) (b : Nat) (f : BreakerRec → BreakerRec) : State :=
  { s with breakers := { s.breakers with recs := s.breakers.recs.modify b f } }

def State.modLines (s : State) (f : Lines → Lines) : State := { s with lines := f s.lines }

def State.modAligner (s : State) (f : Aligner → Aligner) : State := { s with aligner := f s.aligner }

def State.modSeq (s : State) (f : Sequencer → Sequencer) : State := { s with seq := f s.seq }

def State.source (s : State) (x : Nat) : SourceRec := nth s.seq.sources x

def State.modSource (s : State) (x : Nat) (f : SourceRec → SourceRec) : State :=
  s.modSeq (fun q => { q with sources := q.sources.modify x f })

def State.modPar (s : State) (f : Paralleling → Paralleling) : State := { s with par := f s.par }

def State.gen (s : State) (g : Nat) : GenRec := nth s.par.gens g

def State.modGen (s : State) (g : Nat) (f : GenRec → GenRec) : State :=
  s.modPar (fun p => { p with gens := p.gens.modify g f })

/-- The run on a sync channel, if it holds one. -/
def State.channel (s : State) (c : Nat) : Option SyncRun := (s.par.channels.getD c none)

def State.setChannel (s : State) (c : Nat) (r : Option SyncRun) : State :=
  s.modPar (fun p => { p with channels := p.channels.set c r })

def State.modCapture (s : State) (f : Capture → Capture) : State := { s with capture := f s.capture }

def State.modMgmt (s : State) (f : Management → Management) : State := { s with mgmt := f s.mgmt }

/-- A fold of a state operation over numbers. -/
def State.forEach (s : State) (ns : List Nat) (f : Nat → State → State) : State :=
  ns.foldl (fun t n => f n t) s

/-- Hand a piece of work to its block within the step (log entry 6). -/
def State.post (s : State) (w : Work) : State := { s with work := s.work ++ [w] }

/-- A value that the spec calls for and does not state (log entry 8). -/
def State.drawn (s : State) : Nat := (Config.freeWord s.free).toNat

/-- The count of such values after one is drawn. -/
def State.draw (s : State) : State := { s with free := s.free + 1 }

/-! ### The active tables -/

def State.table (s : State) (t : TableId) : Table := s.mgmt.tables.getD t.number []

/-- A field of an active table. -/
def State.fld (s : State) (t : TableId) (e id : Nat) : Nat := tableField s.mgmt.tables t e id

/-- A signed field of an active table. -/
def State.sfld (s : State) (t : TableId) (e id : Nat) : Int := signed32 (s.fld t e id)

def State.setTable (s : State) (t : TableId) (c : Table) : State :=
  s.modMgmt (fun m => { m with tables := m.tables.set t.number c })

/-- A STATION field (R4, R25, R30, R92, R138). -/
def State.station (s : State) (id : Nat) : Nat := s.fld .station 0 id

def State.ownAddress (s : State) : Nat := s.station 1
/-- The Ethernet protocol type of station frames (R4). -/
def State.protocolType (s : State) : Nat := s.station 2

def State.mirrorAddress (s : State) : Nat := s.station 3

/-- Breaker `b` is configured (R96). -/
def State.brkConfigured (s : State) (b : Nat) : Bool := s.fld .breaker b 1 == 1
/-- Breaker `b` is in ISOLATED mode (R116). -/
def State.isolated (s : State) (b : Nat) : Bool := s.fld .breaker b 21 == 1
/-- DEAD closes of breaker `b` need the dead-bus token (R96). -/
def State.guarded (s : State) (b : Nat) : Bool := s.fld .breaker b 5 == 1
/-- The breakers adjacent to `b` (R96). -/
def State.adjacent (s : State) (b : Nat) : List Nat :=
  ((idRun 17 4).map (s.fld .breaker b)).filter (· != Config.noneField)

/-- Generator `g` is configured (R146). -/
def State.genConfigured (s : State) (g : Nat) : Bool := s.fld .generator g 1 == 1
/-- The breaker of generator `g` (R146). -/
def State.genBreaker (s : State) (g : Nat) : Nat := s.fld .generator g 3
/-- The generator whose breaker is `b`; no two configured entries share one (R146). -/
def State.genOf (s : State) (b : Nat) : Option Nat :=
  (List.range 8).find? (fun g => s.genConfigured g && s.genBreaker g == b)

/-- A set of objects given as a value's bits. -/
def bitSet (n width : Nat) : List Nat := (List.range width).filter (bitOf n)

/-! ### Instants, labels and positions (R24, R25) -/

/-- Instants in a second at the f_nom in force. -/
def State.perSecond (s : State) : Nat := 48 * s.aligner.nominal

/-- The range that positions wrap over. -/
def State.span (s : State) : Nat := 2 ^ 32 * s.perSecond

/-- The position of an instant: second count × 48·f_nom + instant index. -/
def State.positionOf (s : State) (l : Label) : Nat := l.second * s.perSecond + l.index

/-- The instant at a position. -/
def State.labelOf (s : State) (p : Nat) : Label := ⟨p / s.perSecond, p % s.perSecond⟩

/-- A position moved by a signed shift, within the wrapped range. -/
def State.shifted (s : State) (p : Nat) (d : Int) : Nat := (((p : Int) + d) % (s.span : Int)).toNat

/-- How far position `p` stands beyond position `q`, modulo the wrapped range (R25): the nearest signed distance, exactly
half the range counting as behind (DESIGN CHOICE, log entry 28). -/
def State.beyond (s : State) (p q : Nat) : Int :=
  let d := (((p : Int) - q) % (s.span : Int))
  if 2 * d < s.span then d else d - s.span

/-- How far the local counter stands beyond a position. -/
def State.counterBeyond (s : State) (q : Nat) : Int := s.beyond (s.positionOf s.aligner.counter) q

/-! ### Trip demand requests (R75, R110) -/

/-- Ask the breaker controller to add a member to a set. -/
def State.askAdd (s : State) (b : Nat) (m : Member) : State :=
  { s with breakers := { s.breakers with requests := s.breakers.requests ++ [⟨true, b, m⟩] } }

/-- Ask the breaker controller to remove a member from a set. -/
def State.askRemove (s : State) (b : Nat) (m : Member) : State :=
  { s with breakers := { s.breakers with requests := s.breakers.requests ++ [⟨false, b, m⟩] } }

end Sys2Proof.Machine
end

