-- ==== Sys2Proof/Machine/Flags.lean ====
section
/-! DEFINITION. The point image (R80 to R89), the rises of trigger points (R175), the HEALTHY output (R94) and the
latched bits (R184). The points are a view of their owners' state: each is computed from the one place where its owner
holds it. -/

namespace Sys2Proof.Machine

/-- A plan runs: TRANSFERRING or PARALLEL (R125). -/
def State.run? (s : State) : Option PlanRun :=
  match s.seq.state with
  | .running r => some r
  | _ => none

/-- The sequencer is PARALLEL: its parallel timer runs (R125, R133). -/
def State.parallelRuns (s : State) : Bool := s.run?.any (fun r => r.parallel.isSome)

/-- Whether a generator state counts as READY for its point (R84). -/
def GenState.pointReady : GenState → Bool
  | .ready | .claiming | .syncing | .closing => true
  | _ => false

/-- The value of point `n` (R80): the row of owners, from point 0 up. -/
def State.point (s : State) (n : Nat) : Bool :=
  if n < 24 then (s.brk n).position == .closed
  else if n < 48 then (s.brk (n - 24)).position == .opened
  else if n < 112 then (s.element (n - 48)).state == .operated
  else if n < 176 then (s.element (n - 112)).state == .pickedUp || (s.element (n - 112)).state == .operated
  else if n < 184 then s.seq.lineup == .is (n - 176)
  else if n == 184 then s.run?.isSome
  else if n == 185 then s.parallelRuns
  else if n == 186 then (match s.seq.state with | .halted _ => true | _ => false)
  else if n == 187 then s.seq.state == .lockedOut
  else if n < 192 then s.seq.flags.getD (n - 188) false
  else if n < 200 then (s.gen (n - 192)).state == .online
  else if n < 208 then (s.gen (n - 200)).state.pointReady
  else if n < 224 then (s.stream (n - 208)).valid
  else if n == 224 then s.lines.lockout
  else if n == 225 then s.lines.tripLatch
  else if n == 226 then s.aligner.time == .tracking
  else if n == 227 then s.links.a.up
  else if n == 228 then s.links.b.up
  else if n == 229 then s.mgmt.configured
  else if n < 233 then (s.source (n - 230)).availablePoint
  else if n < 236 then (s.source (n - 233)).failedPoint
  else if n == 236 then s.capture.state == .recording
  else if n == 237 then s.par.token.isSome
  else if n == 238 then s.seq.autoEffective
  else if n == 239 then (s.channel 0).isSome
  else if n < 256 then s.mgmt.soft.getD (n - 240) false
  else false

/-- The whole image, read at one moment (R61). -/
def State.image (s : State) : List Bool := (List.range 256).map s.point

/-! ### Rises of trigger points (R175) -/

/-- The CAPTURE table's fields (R173). -/
def State.captureField (s : State) (id : Nat) : Nat := s.fld .capture 0 id

/-- The trigger points, in table order. -/
def State.captureTriggers (s : State) : List Nat := (idRun 8 (s.captureField 7)).map s.captureField

/-- The points that their owner may set to 1 more than once within one command: those of the sequencer but for
AUTO_TRANSFER_EFFECTIVE, and those of the paralleling unit. Each such setting is noted where it is made. -/
def movingPoint (n : Nat) : Bool :=
  (176 ≤ n && n < 208) || (230 ≤ n && n < 236) || n == 237 || n == 239

/-- `t`, with the rises of moving trigger points from `s` to it noted: the owner's setting that leads from `s` to `t`
(R175, log entry 11). -/
def State.noting (s t : State) : State :=
  { t with risen := t.risen ++ t.captureTriggers.filter (fun p => movingPoint p && !s.point p && t.point p) }

/-! ### Terms and interlock expressions (R87, R88) -/

/-- A term names point t − 256·floor(t/256) and requires the value floor(t/256). -/
def State.termHolds (s : State) (t : Nat) : Bool := s.point (t % 256) == (t / 256 == 1)

/-- The terms of a group: its first count term fields. -/
def State.groupTerms (s : State) (x first count : Nat) : List Nat :=
  (idRun first count).map (s.fld .interlock x)

/-- A group with terms holds when each does; a group with none does not hold. -/
def State.groupHolds (s : State) (terms : List Nat) : Bool := !terms.isEmpty && terms.all s.termHolds

/-- The value of interlock expression `x`. -/
def State.expression (s : State) (x : Nat) : Bool :=
  let g1 := s.groupTerms x 3 (s.fld .interlock x 1)
  let g2 := s.groupTerms x 7 (s.fld .interlock x 2)
  (g1.isEmpty && g2.isEmpty) || s.groupHolds g1 || s.groupHolds g2

/-- The close interlock of breaker `b`; true where its record names none (R89). -/
def State.interlockTrue (s : State) (b : Nat) : Bool :=
  s.fld .breaker b 6 == Config.noneField || s.expression (s.fld .breaker b 6)

/-! ### HEALTHY (R94) -/

/-- The conditions on which the HEALTHY output is driven on. -/
def State.healthyNow (s : State) : Bool :=
  s.mgmt.configured && (s.links.a.up || s.links.b.up) && s.mgmt.restart.isNone && s.mgmt.store.isNone

/-! ### Latched bits (R3, R35, R36, R115, R170, R184) -/

/-- The next event would lose an unsent record: the queue is full and its oldest record is unsent (R170). -/
def EventQueue.wouldLose (q : EventQueue) : Bool :=
  q.records.length == Config.eventRecords && q.records.head?.any (fun r => !r.sent)

/-- Detail A of a READ-LATCHES response. -/
def State.latchesA (s : State) : Nat :=
  bitVal s.links.a.latch 0 + bitVal s.links.b.latch 1 + bitVal s.aligner.timeLatch 2 +
    bitVal s.events.overwriteLatch 3 +
    ((List.range 16).map (fun k => bitVal (s.stream k).staleSeen (16 + k))).sum

/-- Detail B of a READ-LATCHES response. -/
def State.latchesB (s : State) : Nat :=
  ((List.range 24).map (fun b => bitVal (s.brk b).bfOccurred b)).sum

/-- Every latched bit re-armed to its present condition. -/
def State.rearm (s : State) : State :=
  { s with
    links := { s.links with
      a := { s.links.a with latch := s.links.a.up }
      b := { s.links.b with latch := s.links.b.up } }
    aligner := { s.aligner with timeLatch := s.aligner.time == .tracking }
    events := { s.events with overwriteLatch := s.events.wouldLose }
    intake := { s.intake with
      streams := s.intake.streams.map (fun r => { r with staleSeen := r.state == .stale }) }
    breakers := { s.breakers with
      recs := s.breakers.recs.map (fun r => { r with bfOccurred := r.bf == .backupIssued }) } }

end Sys2Proof.Machine
end

