-- ==== Sys2Proof/Machine/Wire.lean ====
section
/-! DEFINITION. The frames that the part sends, as bytes (R10, R19). -/

namespace Sys2Proof.Machine

/-- The origin class byte of a COMMAND body (R19). -/
def Origins.byte (o : Origins) : Nat :=
  bitVal o.protection 0 + bitVal o.stationTrip 1 + bitVal o.backup 2 + bitVal o.parallelLimit 3 +
    bitVal o.changeover 4 + bitVal o.paralleling 5 + bitVal o.operator 6

def Action.code : Action → Nat
  | .opening => 1
  | .closing => 2

def EventClass.code : EventClass → Nat
  | .protection => 0
  | .breaker => 1
  | .transfer => 2
  | .generator => 3
  | .stream => 4
  | .link => 5
  | .time => 6
  | .management => 7
  | .capture => 8

/-- The 19 bytes of an event record (R19). -/
def EventRecord.bytes (r : EventRecord) : List Byte :=
  beBytes 2 r.seq ++ beBytes 4 r.at_.second ++ beBytes 2 r.at_.index ++ beBytes 1 r.cls.code ++
    beBytes 1 r.priority ++ beBytes 2 r.object ++ beBytes 2 r.code ++
    beBytes 1 (bitVal r.value.isSome 0) ++ beBytes 4 (r.value.getD 0)

/-- GENSET body: run demand 1 START or 2 STOP (R19). -/
def Setpoint.bytes (p : Setpoint) : List Byte :=
  beBytes 1 (if p.start then 1 else 2) ++ beBytes 1 (bitVal p.baseLoaded 0) ++
    beBytes 2 (unsignedOf 16 p.speedBias) ++ beBytes 2 (unsignedOf 16 p.voltageBias) ++
    beBytes 2 p.target ++ beBytes 2 p.ramp

def OutBody.class_ : OutBody → FrameClass
  | .command _ _ _ _ _ => .command
  | .genset _ _ => .genset
  | .ability _ _ => .ability
  | .event _ => .event
  | .response _ _ _ _ _ _ _ => .mgmtRsp

def OutBody.bytes : OutBody → List Byte
  | .command _ n a tag o => beBytes 1 n ++ beBytes 1 a.code ++ beBytes 1 tag ++ beBytes 1 o.byte
  | .genset _ p => p.bytes
  | .ability _ p => pageBytes p
  | .event rs => beBytes 1 rs.length ++ rs.flatMap EventRecord.bytes
  | .response n k st t a b d =>
    beBytes 2 n ++ beBytes 1 k ++ beBytes 1 st ++ beBytes 2 t ++ beBytes 4 a ++ beBytes 4 b ++
      beBytes 2 d.length ++ d

/-- The payload of a frame: header and body (R10, R19). -/
def OutFrame.bytes (f : OutFrame) : List Byte := stationBytes f.body.class_ f.src f.dst f.seq f.body.bytes

end Sys2Proof.Machine
end

