-- ==== Sys2Proof/Machine/Queues.lean ====
section
/-! DEFINITION. The transmit queues of the link ports (R11 to R17): how each admits a frame, and how frames
are built, withdrawn and reserved for. -/

namespace Sys2Proof.Machine

/-! ### What a frame is to the queues -/

/-- A COMMAND frame for breaker `b`: its BIU frame or a mirror copy (R14). -/
def OutFrame.commandFor (f : OutFrame) (b : Nat) : Bool :=
  match f.body with
  | .command c _ _ _ _ => c == b
  | _ => false

/-- The BIU frame of breaker `b` with a given tag. -/
def OutFrame.biuFrame (f : OutFrame) (b tag : Nat) : Bool :=
  match f.body with
  | .command c _ _ t _ => c == b && t == tag && !f.mirror
  | _ => false

def OutFrame.gensetFor (f : OutFrame) (g : Nat) : Bool :=
  match f.body with
  | .genset k _ => k == g
  | _ => false

def OutFrame.isAbility (f : OutFrame) : Bool :=
  match f.body with
  | .ability _ _ => true
  | _ => false

def OutFrame.isEvent (f : OutFrame) : Bool :=
  match f.body with
  | .event _ => true
  | _ => false

/-- A frame for a generator controller: a GENSET or an ABILITY (R150, R153). -/
def OutFrame.toController (f : OutFrame) : Bool :=
  match f.body with
  | .genset _ _ => true
  | .ability _ _ => true
  | _ => false

def BulkPlace.frame? : BulkPlace → Option OutFrame
  | .frame f => some f
  | .reserved _ => none

def BulkPlace.holds (p : BulkPlace) (t : OutFrame → Bool) : Bool :=
  match p with
  | .frame f => t f
  | .reserved _ => false

/-- Every frame in the queues of a link. -/
def LinkPort.frames (p : LinkPort) : List OutFrame := p.urgent ++ p.normal ++ p.bulk.filterMap BulkPlace.frame?

/-! ### Admission -/

/-- The bulk queue has room while its frames and reservations are below 64 (R17). -/
def LinkPort.bulkRoom (p : LinkPort) : Bool := p.bulk.length < Config.bulkPlaces

def LinkPort.bulkAdd (p : LinkPort) (x : BulkPlace) : LinkPort := { p with bulk := p.bulk ++ [x] }

/-- Remove every COMMAND frame for breaker `b`; a removed mirror copy steps the mirror-dropped count (R14). -/
def LinkPort.removeCommand (p : LinkPort) (b : Nat) : LinkPort :=
  let mine := fun f : OutFrame => f.commandFor b
  { p with
    urgent := p.urgent.filter (fun f => !mine f)
    normal := p.normal.filter (fun f => !mine f)
    bulk := p.bulk.filter (fun x => !x.holds mine)
    mirrorDropped := (p.mirrorDropped + (p.bulk.filter (·.holds mine)).length) % 2 ^ 32 }

/-- A new BIU frame for a breaker, after the removal of R14: an OPEN to the urgent queue, a CLOSE to the
normal queue, always admitted (R11, R14, R16). -/
def LinkPort.admitCommand (b : Nat) (a : Action) (f : OutFrame) (p : LinkPort) : LinkPort × Bool :=
  let q := p.removeCommand b
  match a with
  | .opening => ({ q with urgent := q.urgent ++ [f] }, true)
  | .closing => ({ q with normal := q.normal ++ [f] }, true)

/-- A GENSET takes the place of one still queued for its generator (R16). -/
def LinkPort.admitGenset (g : Nat) (f : OutFrame) (p : LinkPort) : LinkPort × Bool :=
  if p.normal.any (·.gensetFor g) then
    ({ p with normal := p.normal.map (fun x => if x.gensetFor g then f else x) }, true)
  else ({ p with normal := p.normal ++ [f] }, true)

/-- The count of a class in the normal queue. -/
def LinkPort.normalCount (p : LinkPort) (t : OutFrame → Bool) : Nat := (p.normal.filter t).length

/-- A normal queue admits a frame of a class while it holds fewer than 8 of it (R16). -/
def LinkPort.admitNormal (t : OutFrame → Bool) (f : OutFrame) (p : LinkPort) : LinkPort × Bool :=
  if p.normalCount t < Config.normalClassLimit then ({ p with normal := p.normal ++ [f] }, true)
  else (p, false)

/-- A low-priority EVENT frame is placed if there is room (R17). -/
def LinkPort.admitBulk (f : OutFrame) (p : LinkPort) : LinkPort × Bool :=
  if p.bulkRoom then (p.bulkAdd (.frame f), true) else (p, false)

/-- A mirror copy is placed if there is room and dropped otherwise (R13). -/
def LinkPort.offerMirror (f : OutFrame) (p : LinkPort) : LinkPort :=
  if p.bulkRoom then p.bulkAdd (.frame { f with mirror := true })
  else { p with mirrorDropped := step32 p.mirrorDropped }

/-- Drop the oldest mirror copy of a bulk queue. -/
def dropOldestMirror : List BulkPlace → List BulkPlace
  | [] => []
  | x :: xs => if x.holds (·.mirror) then xs else x :: dropOldestMirror xs

/-- Reserve a place for a response (R17): where there is room, or by removing the oldest mirror copy. Either way the
reservation stands at the tail, behind what was placed before it (DESIGN CHOICE, log entry 20). -/
def LinkPort.reserve (ticket : Nat) (p : LinkPort) : LinkPort × Bool :=
  if p.bulkRoom then (p.bulkAdd (.reserved ticket), true)
  else if p.bulk.any (·.holds (·.mirror)) then
    ({ p with
        bulk := dropOldestMirror p.bulk ++ [.reserved ticket]
        mirrorDropped := step32 p.mirrorDropped }, true)
  else (p, false)

/-- Fill the reservation of a request with its response; the frame stands at the reservation's place (R17). -/
def LinkPort.fill (ticket : Nat) (f : OutFrame) (p : LinkPort) : LinkPort × Bool :=
  (match p.bulk.contains (.reserved ticket) with
  | true => ({ p with bulk := p.bulk.map (fun x => if x == .reserved ticket then .frame f else x) }, true)
  | false => (p, false))

/-! ### On both links -/

/-- Do something with the port of each link that is UP, and say whether any admitted (R11). -/
def State.onUpLinks (s : State) (f : LinkPort → LinkPort × Bool) : State × Placing :=
  let ra := if s.links.a.up then f s.links.a else (s.links.a, false)
  let rb := if s.links.b.up then f s.links.b else (s.links.b, false)
  ({ s with links := { s.links with a := ra.1, b := rb.1 } },
    if ra.2 || rb.2 then .placed else .notPlaced)

/-- Do something with both ports. -/
def State.onBothPorts (s : State) (f : LinkPort → LinkPort) : State :=
  { s with links := { s.links with a := f s.links.a, b := f s.links.b } }

/-- Build a COMMAND frame and hand it over (R10, R11, R19). -/
def State.sendCommand (s : State) (b : Nat) (a : Action) (tag : Nat) (o : Origins) : State :=
  let f : OutFrame := ⟨s.ownAddress, s.fld .breaker b 2, s.links.commandSeq,
    .command b (s.fld .breaker b 3) a tag o, false, false⟩
  ({ s with links := { s.links with commandSeq := step16 s.links.commandSeq } }.onUpLinks
    (LinkPort.admitCommand b a f)).1

/-- Build a GENSET frame and hand it over (R10, R16, R153). -/
def State.sendGenset (s : State) (g : Nat) (p : Setpoint) : State :=
  let f : OutFrame := ⟨s.ownAddress, s.fld .generator g 2, s.links.gensetSeq, .genset g p, false, false⟩
  ({ s with links := { s.links with gensetSeq := step16 s.links.gensetSeq } }.onUpLinks
    (LinkPort.admitGenset g f)).1

/-- Build an ABILITY frame and hand it over (R10, R16, R150), but within a part of a RESTART (R148). -/
def State.sendPage (s : State) (g : Nat) (p : Page) : State :=
  let f : OutFrame := ⟨s.ownAddress, s.fld .generator g 2, s.links.abilitySeq, .ability g p, false, false⟩
  if s.hushed then s
  else
    ({ s with links := { s.links with abilitySeq := step16 s.links.abilitySeq } }.onUpLinks
      (LinkPort.admitNormal OutFrame.isAbility f)).1

/-- Withdraw a command's BIU frame from the queues of both links; a queued mirror copy stays (R14). -/
def State.withdrawFrame (s : State) (b tag : Nat) : State :=
  s.onBothPorts (fun p =>
    { p with
      urgent := p.urgent.filter (fun f => !f.biuFrame b tag)
      normal := p.normal.filter (fun f => !f.biuFrame b tag) })

def Status.code : Status → Nat
  | .done => 0
  | .busy => 1
  | .invalid => 2
  | .sequence => 3
  | .notPermitted => 4
  | .locked => 5
  | .unknownTable => 6

/-- Build the response to a taken request and fill its reservations (R17, R177). A response that is not DONE
steps the count of its status. -/
def State.respond (s : State) (t : Ticket) (st : Status) (detailA detailB : Nat) (data : List Byte) : State :=
  let f : OutFrame := ⟨s.ownAddress, t.source, s.links.responseSeq,
    .response t.request t.kind st.code t.target detailA detailB data, false, false⟩
  let s1 := { s with links := { s.links with responseSeq := step16 s.links.responseSeq } }
  let s2 := if st == .done then s1
    else s1.modMgmt (fun m => { m with statusCounts := m.statusCounts.modify (st.code - 1) step32 })
  s2.onBothPorts (fun p => (p.fill t.number f).1)

end Sys2Proof.Machine
end

