-- ==== Sys2Proof/Machine/Events.lean ====
section
/-! DEFINITION. The event queue (R170, R171): recording an event, sending unsent records in EVENT frames and
taking back the records of frames that were emptied. -/

namespace Sys2Proof.Machine

/-! ### Sending -/

def State.unsent (s : State) (urgent : Bool) : List EventRecord :=
  (s.events.records.filter (fun r => !r.sent && (decide (12 ≤ r.priority) == urgent))).take
    Config.recordsPerFrame

/-- Set the sent marks of the records with the given sequence numbers. -/
def EventQueue.markSent (q : EventQueue) (seqs : List Nat) : EventQueue :=
  { q with records := q.records.map (fun r => if seqs.contains r.seq then { r with sent := true } else r) }

/-- Some link that is UP can admit an EVENT frame (R171). -/
def State.eventRoom (s : State) (urgent : Bool) : Bool :=
  let can := fun p : LinkPort =>
    p.up && (if urgent then decide (p.normalCount OutFrame.isEvent < Config.normalClassLimit) else p.bulkRoom)
  can s.links.a || can s.links.b

/-- Build one event frame of the oldest unsent records of its kind and offer it (R11, R171). -/
def State.sendEvents (s : State) (urgent : Bool) : State :=
  let rs := s.unsent urgent
  if rs.isEmpty || !s.eventRoom urgent then s
  else
    let f : OutFrame := ⟨s.ownAddress, 4095, s.links.eventSeq, .event rs, false, false⟩
    let s1 := { s with links := { s.links with eventSeq := step16 s.links.eventSeq } }
    let r := s1.onUpLinks
      (if urgent then LinkPort.admitNormal OutFrame.isEvent f else LinkPort.admitBulk f)
    match r.2 with
    | .placed => { r.1 with events := r.1.events.markSent (rs.map (·.seq)) }
    | .notPlaced => r.1

/-- A send attempt: at most one urgent and one ordinary event frame (R171). -/
def State.sendAttempt (s : State) : State := (s.sendEvents true).sendEvents false

/-! ### Recording -/

/-- The label of an event: of the closure whose work requests it, else of the local counter (R170). -/
def State.eventLabel (s : State) : Label := s.closing.getD s.aligner.counter

/-- A record joins the tail; with 128 held the oldest is removed first, and its loss unsent is latched (R170). The
overwritten count wraps from 2^48 - 1 to 0 (DESIGN CHOICE, log entry 28). -/
def EventQueue.append (q : EventQueue) (r : EventRecord) : EventQueue :=
  if q.records.length < Config.eventRecords then
    { q with records := q.records ++ [r], nextSeq := step16 q.nextSeq }
  else
    { q with
      records := q.records.tail ++ [r]
      nextSeq := step16 q.nextSeq
      overwritten := (q.overwritten + 1) % 2 ^ 48
      overwriteLatch := q.overwriteLatch || q.records.head?.any (fun r => !r.sent) }

/-- Record an event, and make the send attempt that its appending brings (R170, R171). -/
def State.event (s : State) (c : EventClass) (priority object code : Nat) (value : Option Nat) : State :=
  State.sendAttempt
    { s with
      events := s.events.append
        ⟨s.events.nextSeq, s.eventLabel, c, priority, object, code, value, false⟩ }

/-! ### Emptied frames (R171) -/

/-- A frame of the other link that carries the same EVENT. -/
def LinkPort.holdsEvent (p : LinkPort) (seq : Nat) : Bool :=
  p.frames.any (fun f => f.isEvent && f.seq == seq)

/-- The records of an emptied EVENT frame that is reported back: it left on no link, and this was its last
queued copy. -/
def reportedBack (other : LinkPort) (f : OutFrame) : List EventRecord :=
  match f.body with
  | .event rs => if f.left || other.holdsEvent f.seq then [] else rs
  | _ => []

/-- Set to 0 the sent marks of the held records among those of emptied frames. -/
def EventQueue.unmark (q : EventQueue) (rs : List EventRecord) : EventQueue :=
  { q with records := q.records.map (fun r =>
      if rs.contains { r with sent := false } then { r with sent := false } else r) }

/-- Mark the other link's copy of an EVENT frame that begins transmission. -/
def LinkPort.markLeft (p : LinkPort) (seq : Nat) : LinkPort :=
  let mark := fun f : OutFrame => if f.isEvent && f.seq == seq then { f with left := true } else f
  { p with
    normal := p.normal.map mark
    bulk := p.bulk.map (fun x => match x with | .frame f => .frame (mark f) | .reserved t => .reserved t) }

end Sys2Proof.Machine
end

