-- ==== Sys2Proof/Machine/CaptureOps.lean ====
section
/-! DEFINITION. Disturbance capture (R173 to R176): instant records, the ring, triggers, release and reading. -/

namespace Sys2Proof.Machine

def State.captureArmed (s : State) : Bool := s.captureField 1 == 1

/-- The selected streams, in table order. -/
def State.captureStreams (s : State) : List Nat := (idRun 3 (s.captureField 2)).map s.captureField

/-- The mark of an entered value (R174). -/
def Quantity.mark (q : Quantity) : SampleMark :=
  match q.condition with
  | .fresh => if q.questionable then .questionable else .taken
  | .held => .held
  | .invalid => .invalid

/-- A selected stream's part of an instant record; a DISABLED stream gives zeros marked INVALID. -/
def State.recordStream (s : State) (k : Nat) : List (Int × SampleMark) :=
  if (s.stream k).state == .disabled then List.replicate 8 (0, .invalid)
  else (s.stream k).quantities.map (fun q => (q.value, q.mark))

def State.instantRecord (s : State) (l : Label) : InstantRecord := ⟨l, s.captureStreams.map s.recordStream⟩

/-- A record joins the ring; with 240 held the oldest is removed first (R174). -/
def pushRing (ring : List InstantRecord) (r : InstantRecord) : List InstantRecord :=
  (if ring.length < Config.ringRecords then ring else ring.tail) ++ [r]

/-- The ring at a closure. -/
def State.captureRing (s : State) (r : InstantRecord) : State :=
  s.modCapture (fun c => { c with ring := if s.captureArmed then pushRing c.ring r else [] })

/-- A RECORDING buffer takes a closure's record, and is HELD at the post length (R175). -/
def State.captureAppend (s : State) (r : InstantRecord) : State :=
  if s.capture.state != .recording then s
  else
    let t := s.modCapture (fun c => { c with buffer := c.buffer ++ [r] })
    if s.captureField 17 ≤ t.capture.buffer.length - t.capture.copied then
      (t.modCapture (fun c => { c with state := .held })).event .capture 8 0 3 (some t.capture.buffer.length)
    else t

/-- Capture's work at the closure of an instant (R174, R175). -/
def State.captureWork (s : State) (l : Label) : State :=
  let r := s.instantRecord l
  (s.captureRing r).captureAppend r

/-- A capture begins (R175). -/
def State.captureBegin (s : State) (p : Nat) : State :=
  let ring := s.capture.ring
  let copied := ring.drop (ring.length - s.captureField 16)
  let t := s.modCapture (fun c =>
    { c with
      state := .recording
      buffer := copied
      copied := copied.length
      triggerPoint := some p
      triggerLabel := s.aligner.lastClosed
      triggerIndex := if copied.isEmpty then none else some (copied.length - 1) })
  t.event .capture 9 0 2 (some p)

/-- The rise of a trigger point is taken (R175). A rise noted before a CAPTURE activation is taken as a trigger after it, even
where the new table no longer names the point. A rise of point 236 that finds the buffer EMPTY again, since RELEASE-CAPTURE or
capture's part of a RESTART was taken before it, is a trigger by the rows of the table like any other (DESIGN CHOICE, log entry
11). -/
def State.captureTrigger (s : State) (p : Nat) : State :=
  if !s.capture.edges.contains p then s
  else
    let t := s.modCapture (fun c => { c with edges := c.edges.erase p })
    match s.capture.state with
    | .empty => if s.captureArmed then t.captureBegin p else t
    | _ =>
      (t.modCapture (fun c => { c with refused := step32 c.refused })).event .capture 4 0 1 (some p)

def BufferState.code : BufferState → Nat
  | .empty => 0
  | .recording => 1
  | .held => 2

/-- The buffer is released (R176). The trigger point, its label and the index of its record are cleared with it (DESIGN
CHOICE, log entry 11). -/
def State.releaseCapture (s : State) : State :=
  if s.capture.state == .empty then s
  else
    (s.modCapture (fun c =>
      { c with
        state := .empty, buffer := [], copied := 0, triggerPoint := none, triggerLabel := none
        triggerIndex := none })).event .capture 5 0 4 (some s.capture.buffer.length)

/-- Capture at RESTART: released, and the ring emptied (R176). -/
def State.restartCapture (s : State) : State := s.releaseCapture.modCapture (fun c => { c with ring := [] })

def SampleMark.code : SampleMark → Nat
  | .taken => 0
  | .questionable => 1
  | .held => 2
  | .invalid => 3

/-- A stream's values and marks in a READ-CAPTURE record (R176). -/
def recordStreamBytes (vs : List (Int × SampleMark)) : List Byte :=
  vs.flatMap (fun v => beBytes 2 (unsignedOf 16 v.1)) ++
    beBytes 2 ((vs.zip (List.range vs.length)).map (fun x => x.1.2.code * 4 ^ x.2)).sum

/-- A record in the data of READ-CAPTURE (R176). -/
def InstantRecord.bytes (r : InstantRecord) : List Byte :=
  beBytes 4 r.label.second ++ beBytes 2 r.label.index ++ r.streams.flatMap recordStreamBytes

end Sys2Proof.Machine
end

