-- ==== Sys2Proof/Machine/Elements.lean ====
section
/-! DEFINITION. The protection elements (R54 to R78): their settings and inputs, the stages of an element's
work at a closure, and what a change of state hands on. -/

namespace Sys2Proof.Machine

/-! ### Settings and inputs -/

/-- An element's settings with those of its active bank (R54, R55). -/
structure Settings where
  type : Nat
  stream : Nat
  set : Nat
  mode : Nat
  hold : Bool
  enabled : Bool
  pickup : Nat
  delay : Nat
  curve : Nat
  decrement : Nat
  supervision : Nat
  deriving DecidableEq, Repr, Inhabited

/-- What an element reads at a closure. -/
structure ElementInput where
  block : Bool
  valid : Bool
  x : Int
  q0 : Nat
  increment : Nat
  deriving DecidableEq, Repr, Inhabited

/-- The first field id of a bank (R55). -/
def Bank.base : Bank → Nat
  | .a => 16
  | .b => 32

def State.settings (s : State) (e : Nat) (k : Bank) : Settings where
  type := s.fld .element e 1
  stream := s.fld .element e 2
  set := s.fld .element e 3
  mode := s.fld .element e 4
  hold := s.fld .element e 7 == 1
  enabled := s.fld .element e k.base == 1
  pickup := s.fld .element e (k.base + 1)
  delay := s.fld .element e (k.base + 2)
  curve := s.fld .element e (k.base + 3)
  decrement := s.fld .element e (k.base + 4)
  supervision := s.fld .element e (k.base + 5)

/-- A point of an image reading; a field that names none reads 0 (R54, R61). -/
def imagePoint (image : List Bool) (n : Nat) : Bool := image.getD n false

/-- The active bank by the bank-select point (R60). -/
def State.activeBank (s : State) (image : List Bool) (e : Nat) : Bank :=
  if imagePoint image (s.fld .element e 5) then .b else .a

/-- The validity of an element's input (R62). -/
def State.inputValid (s : State) (c : Settings) : Bool :=
  let m := s.measure c.stream
  match c.type with
  | 4 => m.tracker.valid && (s.phasor c.stream 0).valid
  | 5 => m.tracker.valid && (s.phasor c.stream 0).valid
  | 6 => m.powerValid
  | 7 => (s.phasor c.stream 3).valid
  | _ => (bitSet c.set 8).all (fun q => (s.phasor c.stream q).valid)

def largest (ms : List Nat) : Nat := ms.foldl max 0
def smallest (ms : List Nat) : Nat :=
  match ms with
  | [] => 0
  | m :: rest => rest.foldl min m

/-- The operating quantity X (R67). -/
def State.operatingQuantity (s : State) (c : Settings) : Int :=
  let m := s.measure c.stream
  let ms := (bitSet c.set 8).map (fun q => (s.phasor c.stream q).magnitude)
  match c.type with
  | 2 => if c.mode == 0 then smallest ms else largest ms
  | 3 => if c.mode == 0 then largest ms else smallest ms
  | 4 => m.tracker.frequency
  | 5 => m.tracker.frequency
  | 6 => -m.power
  | 7 => (s.phasor c.stream 3).magnitude
  | _ => largest ms

/-- The curve index of R71: floor(16·X / P) limited to 16 to 79, less 16. -/
def curveIndex (x : Int) (pickup : Nat) : Nat := clampNat 16 79 (16 * x.toNat / pickup) - 16

def State.elementInput (s : State) (image : List Bool) (e : Nat) (c : Settings) : ElementInput :=
  let x := s.operatingQuantity c
  { block := imagePoint image (s.fld .element e 6)
    valid := s.inputValid c
    x := x
    q0 := (s.phasor c.stream 0).magnitude
    increment := s.fld .curve c.curve (curveIndex x c.pickup + 1) }

/-! ### Bands (R68, R69) -/

inductive Band where
  | pickup
  | hysteresis
  | dropout
  deriving DecidableEq, Repr, Inhabited

def bandOf (type : Nat) (p : Nat) (x : Int) : Band :=
  match type with
  | 2 => if x ≤ p then .pickup else if 33 * (p : Int) < 32 * x then .dropout else .hysteresis
  | 4 => if x ≤ p then .pickup else if (p : Int) + 20 < x then .dropout else .hysteresis
  | 5 => if (p : Int) ≤ x then .pickup else if x < (p : Int) - 20 then .dropout else .hysteresis
  | _ => if (p : Int) ≤ x then .pickup else if 32 * x < 31 * (p : Int) then .dropout else .hysteresis

/-! ### The stages of R58 -/

/-- Entry into DISABLED clears the counts (R59). -/
def ElementRec.disable (r : ElementRec) : ElementRec :=
  if r.state == .disabled then r
  else { r with state := .disabled, delay := 0, accumulator := 0, settle := 0, hold := 0 }

/-- A reset element: SETTLING with every count 0 (R58, R77). -/
def ElementRec.startSettling (r : ElementRec) : ElementRec :=
  { r with state := .settling, delay := 0, accumulator := 0, settle := 0, hold := 0 }

/-- One more closure with valid input toward a full window (R61, R66). -/
def stepSettle (n : Nat) : Nat := min (n + 1) Config.windowLength

/-- BLOCKED with cause POINT (R61). -/
def ElementRec.blockByPoint (r : ElementRec) (valid : Bool) : ElementRec :=
  { r with state := .blocked .point, hold := 0, settle := if valid then stepSettle r.settle else 0 }

/-- BLOCKED with cause INPUT under BLOCK (R63). The hold count, above 0 where an ELEMENT activation has changed HOLD to BLOCK
in mid-hold, stands as it is until valid input (DESIGN CHOICE, log entry 26). -/
def ElementRec.blockByInput (r : ElementRec) : ElementRec := { r with state := .blocked .input, settle := 0 }

/-- BLOCKED with cause INPUT, the hold having run out or having nothing to hold (R64). -/
def ElementRec.endHold (r : ElementRec) : ElementRec := { r.blockByInput with hold := 0 }

/-- A SETTLING element with valid input (R66). -/
def ElementRec.settleStep (r : ElementRec) : ElementRec :=
  let n := stepSettle r.settle
  { r with settle := n, state := if n == Config.windowLength then .armed else .settling }

/-- A definite-time decision (R70). -/
def ElementRec.definite (c : Settings) (band : Band) (r : ElementRec) : ElementRec :=
  match band with
  | .dropout => { r with state := .armed, delay := 0 }
  | .hysteresis =>
    if r.state == .pickedUp then counted else r
  | .pickup =>
    match r.state with
    | .pickedUp => counted
    | .operated => r
    | _ => { r with state := if c.delay ≤ r.delay then .operated else .pickedUp }
where
  counted : ElementRec :=
    let n := if r.delay < c.delay then r.delay + 1 else r.delay
    { r with delay := n, state := if c.delay ≤ n then .operated else .pickedUp }

/-- An inverse-time decision (R72, R73). -/
def ElementRec.inverse (c : Settings) (increment : Nat) (band : Band) (r : ElementRec) : ElementRec :=
  match band with
  | .dropout => { r with state := .armed, accumulator := r.accumulator - c.decrement }
  | .hysteresis => r
  | .pickup =>
    let a := min (r.accumulator + increment) Config.fullAccumulator
    { r with
      accumulator := a
      state := if r.state == .operated || a == Config.fullAccumulator then .operated else .pickedUp }

/-- Stage 6: a deciding element acts on the band of X; an entry into OPERATED steps its operations. -/
def ElementRec.decideOn (c : Settings) (i : ElementInput) (r : ElementRec) : ElementRec :=
  let band := bandOf c.type c.pickup i.x
  let d := if c.type == 1 then r.inverse c i.increment band else r.definite c band
  { d with
    lastX := i.x
    operations := if d.state == .operated && r.state != .operated then step32 r.operations else r.operations }

/-- Stage 5: the voltage supervision of UF and OF elements (R65). -/
def ElementRec.supervise (c : Settings) (i : ElementInput) (r : ElementRec) : ElementRec :=
  if (c.type == 4 || c.type == 5) && i.q0 < c.supervision then { r with state := .blocked .supervision }
  else ({ r with state := if r.state == ElementState.blocked .supervision then .armed else r.state }).decideOn c i

/-- Stage 4 with valid input (R63, R66). -/
def ElementRec.onValid (c : Settings) (i : ElementInput) (r : ElementRec) : ElementRec :=
  match r.state with
  | .settling => r.settleStep
  | .blocked .supervision => ({ r with hold := 0 }).supervise c i
  | .blocked _ =>
    if r.settle == Config.windowLength then ({ r with hold := 0, state := .armed }).supervise c i
    else ({ r with hold := 0 }).settleStep
  | _ => ({ r with hold := 0 }).supervise c i

/-- Stage 4 under HOLD with invalid input (R64). -/
def ElementRec.onHold (c : Settings) (i : ElementInput) (r : ElementRec) : ElementRec :=
  match r.state with
  | .blocked .input => r
  | .blocked .point => r.endHold
  | _ =>
    if r.hold < Config.holdClosures then ({ r with hold := r.hold + 1 }).supervise c i
    else r.endHold

/-- Stage 4 with invalid input (R63, R66). -/
def ElementRec.onInvalid (c : Settings) (i : ElementInput) (r : ElementRec) : ElementRec :=
  if r.state == .settling then { r with settle := 0 }
  else if c.hold then r.onHold c i
  else r.blockByInput

/-- An element's work at a closure, stages 1 to 6 (R58). -/
def ElementRec.work (c : Settings) (bank : Bank) (i : ElementInput) (old : ElementRec) : ElementRec :=
  let r := { old with bank := bank }
  if !c.enabled then r.disable
  else
    let t := if r.state == .disabled then r.startSettling else r
    if i.block then t.blockByPoint i.valid
    else if i.valid then t.onValid c i
    else t.onInvalid c i

/-! ### Outputs (R75, R76) -/

/-- The trip set of element `e`. -/
def State.tripSet (s : State) (e : Nat) : List Nat := bitSet (s.fld .element e 8) 24

/-- What a change of state hands on: the trip demand requests and the events (R75, R76). An element that goes from
OPERATED into BLOCKED records ELEMENT_RESET before ELEMENT_BLOCKED, an order that no rule gives (DESIGN CHOICE, log
entry 26). -/
def State.elementOutputs (s : State) (e : Nat) (trips : List Nat) (old new : ElementState) (x : Int) : State :=
  let entered :=
    if new == .operated && old != .operated then
      (s.forEach trips (fun b t => t.askAdd b (.element e))).event .protection 13 e 1 (some (unsignedOf 32 x))
    else s
  let left :=
    if old == .operated && new != .operated then
      (entered.forEach trips (fun b t => t.askRemove b (.element e))).event .protection 7 e 2
        (if new == .armed then none else some 1)
    else entered
  if new == .blocked .input && old != new then left.event .protection 9 e 3 (some 2)
  else if new == .blocked .supervision && old != new then left.event .protection 9 e 3 (some 3)
  else left

/-- One element's work at a closure with its outputs (R58). -/
def State.elementWork (image : List Bool) (e : Nat) (s : State) : State :=
  let bank := s.activeBank image e
  let c := s.settings e bank
  let old := s.element e
  let new := old.work c bank (s.elementInput image e c)
  (s.modElement e (fun _ => new)).elementOutputs e (s.tripSet e) old.state new.state new.lastX

/-- The protection work at a closure: every element, on one reading of the image (R58, R61). -/
def State.protectionWork (s : State) (image : List Bool) : State :=
  s.forEach (List.range 64) (State.elementWork image)

/-! ### Activation and restart (R77, R78) -/

/-- The fields of R54 whose change resets an element. -/
def elementReset (old new : Entry) : Bool := (idRun 1 4).any (fun id => old.get id != new.get id)

/-- What an ELEMENT activation does to element `e`, its table being already the new one (R77). -/
def State.activateElement (s : State) (old : Table) (e : Nat) : State :=
  let before : Entry := old.getD e []
  let after : Entry := (s.table .element).getD e []
  let oldTrips := bitSet (before.get 8) 24
  let newTrips := bitSet (after.get 8) 24
  let r := s.element e
  if before == after then s
  else if elementReset before after then
    (s.modElement e ElementRec.startSettling).elementOutputs e oldTrips r.state .settling 0
  else if r.state == .operated then
    let t := s.forEach (oldTrips.filter (fun b => !newTrips.contains b)) (fun b t => t.askRemove b (.element e))
    t.forEach (newTrips.filter (fun b => !oldTrips.contains b)) (fun b t => t.askAdd b (.element e))
  else s

/-- An ELEMENT activation, by rising element number (DESIGN CHOICE, log entry 5). -/
def State.activateElements (s : State) (new : Table) : State :=
  let old := s.table .element
  (s.setTable .element new).forEach (List.range 64) (fun e t => t.activateElement old e)

/-- An element at RESTART (R78). -/
def State.restartElement (e : Nat) (s : State) : State :=
  let r := s.element e
  let enabled := s.fld .element e r.bank.base == 1
  let new : ElementRec := { r.startSettling with
    state := if enabled then .settling else .disabled, lastX := 0 }
  (s.modElement e (fun _ => new)).elementOutputs e (s.tripSet e) r.state new.state 0

/-- Protection at RESTART: the elements record ELEMENT_RESET and ask for the removal of their demands by rising element number
(DESIGN CHOICE, log entry 5). -/
def State.restartProtection (s : State) : State := s.forEach (List.range 64) State.restartElement

end Sys2Proof.Machine
end

