-- ==== Sys2Proof/Machine/Tokens.lean ====
section
/-! DEFINITION. The dead-bus token and the ends of sync runs (R158, R160, R163): what the breaker controller
and the sequencer need of the paralleling unit. -/

namespace Sys2Proof.Machine

/-! ### The start-order list (R146) -/

/-- The configured generators that have a start rank, in rank order. -/
def State.startOrder (s : State) : List Nat :=
  (List.range 8).flatMap (fun rank =>
    (List.range 8).filter (fun g => s.genConfigured g && s.fld .generator g 12 == rank))

/-- The configured generators that are not in the start-order list, in number order. -/
def State.unlisted (s : State) : List Nat :=
  (List.range 8).filter (fun g => s.genConfigured g && !s.startOrder.contains g)

/-- Every configured generator, start order first and then by number. -/
def State.genOrder (s : State) : List Nat := s.startOrder ++ s.unlisted

/-! ### The token (R158) -/

/-- The object number of a party: the generator, or 8 for the sequencer. -/
def Party.number : Party → Nat
  | .sequencer => 8
  | .generator g => g

/-- A party asks for the token: it joins the tail of the list. -/
def State.requestToken (s : State) (p : Party) : State :=
  if s.par.token == some p || s.par.tokenList.contains p then s.post .tokenGrant
  else (s.modPar (fun u => { u with tokenList := u.tokenList ++ [p] })).post .tokenGrant

/-- A party withdraws its request. -/
def State.dropRequest (s : State) (p : Party) : State :=
  s.modPar (fun u => { u with tokenList := u.tokenList.filter (· != p) })

/-- The token is freed if the party holds it, and a grant follows. -/
def State.freeToken (s : State) (p : Party) : State :=
  if s.par.token == some p then (s.modPar (fun u => { u with token := none })).post .tokenGrant else s

/-- A party withdraws its request or gives back the token. -/
def State.leaveToken (s : State) (p : Party) : State := (s.dropRequest p).freeToken p

/-- Who is granted the free token: the sequencer, else the highest waiting generator. -/
def State.grantee (s : State) : Option Party :=
  if s.par.tokenList.contains .sequencer then some .sequencer
  else
    match s.genOrder.find? (fun g => s.par.tokenList.contains (.generator g)) with
    | some g => some (.generator g)
    | none => s.par.tokenList.head?

/-- The grant at the end of a unit event. -/
def State.grantToken (s : State) : State :=
  match s.par.token, s.grantee with
  | none, some p =>
    let t := (s.noting ((s.dropRequest p).modPar (fun u => { u with token := some p }))).event .generator 5 p.number 6 none
    t.post (match p with | .sequencer => .seqTokenGranted | .generator g => .genTokenGranted g)
  | _, _ => s

/-! ### Ends of sync runs (R162, R163) -/

/-- The biases that a run wrote are set to 0. -/
def State.clearBiases (s : State) (gs : List Nat) : State :=
  s.forEach gs (fun g t => t.modGen g (fun r => { r with speedBias := 0, voltageBias := 0 }))

/-- A run ends: its biases go to 0 and its channel is freed. -/
def State.endRun (s : State) (c : Nat) : State :=
  match s.channel c with
  | none => s
  | some r =>
    let t := (s.clearBiases r.wrote).setChannel c none
    if c == 0 then t else t.post .channelFree

/-- The channel that holds a run of a client. -/
def State.channelOf (s : State) (p : Party) : Option Nat :=
  (List.range 4).find? (fun c => (s.channel c).any (fun r => r.client == p))

/-- The channel that holds the run of a client for breaker `b`. -/
def State.channelFor (s : State) (p : Party) (b : Nat) : Option Nat :=
  (List.range 4).find? (fun c => (s.channel c).any (fun r => r.client == p && r.breaker == b))

/-- The run of a client for breaker `b` ends, if there is one: a run whose close is that of another breaker goes on (R163). -/
def State.endRunOf (s : State) (p : Party) (b : Nat) : State :=
  match s.channelFor p b with
  | none => s
  | some c => s.endRun c

/-- The record of an abort (R163). -/
def State.abortEvent (s : State) (c : Nat) : State := s.event .generator 9 c 8 none

end Sys2Proof.Machine
end

