-- ==== Sys2Proof/Machine/Breakers.lean ====
section
/-! DEFINITION. The breaker controller (R97 to R118): the arbitration and issue of commands, their outcomes,
positions, trip demand sets, breaker failure and ISOLATED mode. -/

namespace Sys2Proof.Machine

/-! ### Origins -/

/-- The union of two origin sets. -/
def Origins.union (a o : Origins) : Origins where
  protection := a.protection || o.protection
  stationTrip := a.stationTrip || o.stationTrip
  backup := a.backup || o.backup
  parallelLimit := a.parallelLimit || o.parallelLimit
  changeover := a.changeover || o.changeover
  paralleling := a.paralleling || o.paralleling
  operator := a.operator || o.operator

/-- The trip-class part of an origin set (6.3). -/
def Origins.tripPart (o : Origins) : Origins :=
  { o with changeover := false, paralleling := false, operator := false }

/-- The set holds a trip-class origin. -/
def Origins.trip (o : Origins) : Bool := o.protection || o.stationTrip || o.backup || o.parallelLimit

/-- The set holds a trip-class origin other than BACKUP (R114). -/
def Origins.beyondBackup (o : Origins) : Bool := o.protection || o.stationTrip || o.parallelLimit

/-- The origin of a member (R110). -/
def Member.origin : Member → Origins
  | .element _ => { protection := true }
  | .stationTrip => { stationTrip := true }
  | .backup _ => { backup := true }
  | .parallelLimit => { parallelLimit := true }

/-- The origins of the members of a set (R111). -/
def originsOf (ms : List Member) : Origins := ms.foldl (fun o m => o.union (Member.origin m)) {}

/-- The command is a trip-class OPEN (6.3). -/
def Command.tripOpen (c : Command) : Bool := c.action == .opening && c.origins.trip

/-! ### Codes (R98, R109) -/

/-- The reason codes (R109). R109 lists LOCAL and SPRING under the BIU; the controller's own tests k and l of R102 carry
the same codes (DESIGN CHOICE, log entry 23). -/
def Reason.code : Reason → Nat
  | .tripDemand => 1
  | .stationTrip => 2
  | .lockout => 3
  | .unknownPosition => 4
  | .travel => 5
  | .guarded => 6
  | .token => 7
  | .interlock => 8
  | .unresponsive => 9
  | .tripCircuit => 10
  | .biu .localControl => 11
  | .biu .spring => 12
  | .biu .already => 13
  | .biu .other => 14
  | .localControl => 11
  | .spring => 12
  | .notConfigured => 15
  | .already => 16

def Outcome.code : Outcome → Nat
  | .done => 0
  | .superseded => 1
  | .refused _ => 2
  | .noResponse => 3
  | .failed => 4
  | .withdrawn => 5

/-- The value of a COMMAND_ENDED event (R109). -/
def Outcome.value : Outcome → Nat
  | .refused r => 2 + 256 * r.code
  | o => o.code

/-- The priority of a COMMAND_ENDED event (R109). -/
def Outcome.priority (o : Outcome) (tripOpen : Bool) : Nat :=
  match o with
  | .done => if tripOpen then 12 else 6
  | .superseded => 8
  | .refused _ => 11
  | .noResponse => if tripOpen then 13 else 11
  | .failed => if tripOpen then 13 else 11
  | .withdrawn => 5

def Position.code : Position → Nat
  | .travel => 0
  | .opened => 1
  | .closed => 2
  | .unknown => 3

/-- A confirmed report as a position; INVALID gives UNKNOWN (R98). -/
def reportedPosition : Reported → Position
  | .travel => .travel
  | .opened => .opened
  | .closed => .closed
  | .invalid => .unknown

def Action.target : Action → Position
  | .opening => .opened
  | .closing => .closed

/-! ### Breaker failure (R112 to R115) -/

/-- BF enters TIMING, or a running BF gains origins (R112). -/
def BreakerRec.startBf (r : BreakerRec) (o : Origins) : BreakerRec :=
  if r.bf == .idle then { r with bf := .timing, bfTimer := 0, bfOrigins := o.tripPart }
  else { r with bfOrigins := r.bfOrigins.union o.tripPart }

/-- The failure test (R112). -/
def State.failureTest (s : State) (b : Nat) : Bool :=
  (s.brk b).position != .opened ||
    (!s.isolated b && s.fld .breaker b 14 != Config.noneField &&
      (bitSet (s.fld .breaker b 15) 8).any (fun q =>
        let p := s.phasor (s.fld .breaker b 14) q
        p.valid && s.fld .breaker b 16 ≤ p.magnitude))

/-- A request in the outstanding list that adds a member to a set. -/
def State.addOutstanding (s : State) (b : Nat) (m : Member) : Bool :=
  s.breakers.requests.any (fun q => q.add && q.breaker == b && q.member == m)

/-- BF returns to IDLE (R115). -/
def State.resetBf (s : State) (b : Nat) : State :=
  let issued := (s.brk b).bf == .backupIssued
  let t := s.modBrk b (fun r => { r with bf := .idle, bfTimer := 0, bfOrigins := {} })
  let holders := (List.range 24).filter (fun a =>
    (s.brk a).trips.contains (.backup b) || s.addOutstanding a (.backup b))
  let u := if issued then t.forEach holders (fun a v => v.askRemove a (.backup b)) else t
  u.event .breaker 9 b 9 none

/-- The test of R115 while BF is not IDLE. -/
def State.testBf (s : State) (b : Nat) : State :=
  if (s.brk b).bf != .idle && !s.failureTest b then s.resetBf b else s

/-- The adjacent breakers that backup trips (R114). -/
def State.backupSet (s : State) (b : Nat) : List Nat := (s.adjacent b).filter s.brkConfigured

/-- BF enters BACKUP_ISSUED (R114). -/
def State.issueBackup (s : State) (b : Nat) : State :=
  let t := s.modBrk b (fun r => { r with bf := .backupIssued, bfOccurred := true })
  (t.forEach (s.backupSet b) (fun a u => u.askAdd a (.backup b))).event .breaker 14 b 8
    (some ((s.backupSet b).map (fun a => 2 ^ a)).sum)

/-! ### Issue (R105, R116) -/

/-- Give the slot's command the next tag. -/
def BreakerRec.tagged (r : BreakerRec) (f : Command → Nat → Command) : BreakerRec :=
  { r with slot := r.slot.map (fun c => f c r.tagCounter), tagCounter := (r.tagCounter + 1) % 256 }

/-- The TRIP_ISSUED event of a trip-class OPEN (R105). -/
def State.tripIssued (s : State) (b : Nat) (c : Command) : State :=
  if c.tripOpen then s.event .breaker 13 b 4 (some c.origins.byte) else s

/-- Issue the command in the slot: build and hand over its frame, or simulate it. -/
def State.issueCommand (s : State) (b : Nat) : State :=
  match (s.brk b).slot with
  | none => s
  | some c =>
    if s.isolated b then
      s.modBrk b (fun r => r.tagged (fun c n => { c with tag := n, phase := .accepted, timer := 0 }))
    else
      let t := s.modBrk b (fun r =>
        { r.tagged (fun c n => { c with tag := n, phase := .sent, left := false, timer := 0 }) with
          issued := step32 r.issued })
      (t.sendCommand b c.action (s.brk b).tagCounter c.origins).tripIssued b c

/-! ### Ends of commands (R108, R109) -/

/-- Return an outcome to the blocks behind the origins (R109). -/
def State.returnOutcome (s : State) (b : Nat) (c : Command) (o : Outcome) : State :=
  let t := if c.origins.changeover then s.post (.seqOutcome b c.action o) else s
  match c.origins.paralleling, c.generator with
  | true, some g => t.post (.genOutcome g b c.action c.closeKind o)
  | _, _ => t

/-- What the conclusion of a close of breaker `b` means to the token and to the sync run whose close it is (R158, R163). A
DEAD close frees the token wherever its requester is the holder, a close that an ended plan has left behind among them
(DESIGN CHOICE, log entry 22). -/
def State.concludeClose (s : State) (b : Nat) (c : Command) : State :=
  match c.action, c.requester with
  | .closing, .party p =>
    (match c.closeKind with
    | .plain => s
    | .dead => s.freeToken p
    | .sync => s.endRunOf p b)
  | _, _ => s

/-- The command in the slot ends with an outcome. -/
def State.endCommand (s : State) (b : Nat) (o : Outcome) : State :=
  match (s.brk b).slot with
  | none => s
  | some c =>
    let t := if c.phase == .queued then s else s.withdrawFrame b c.tag
    let u := t.modBrk b (fun r =>
      { r with
        slot := none
        lastOutcome := some o
        outcomes := r.outcomes.modify o.code step32 })
    let v := u.event .breaker (o.priority c.tripOpen) b 6 (some o.value)
    (v.returnOutcome b c o).concludeClose b c

/-! ### Open requests (R101) -/

def State.countRefused (s : State) (b : Nat) : State :=
  s.modBrk b (fun r => { r with refusals := step32 r.refusals })

/-- An OPEN takes the slot: a trip-class OPEN starts BF (R112). -/
def State.takeOpen (s : State) (b : Nat) (o : Origins) (g : Option Nat) : State :=
  s.modBrk b (fun r =>
    let q := { r with slot := some { action := .opening, origins := o, generator := g } }
    if o.trip then q.startBf o else q)

/-- An origin joins the OPEN in the slot. -/
def BreakerRec.mergeOpen (r : BreakerRec) (c : Command) (o : Origins) (g : Option Nat) : BreakerRec :=
  let joins := o.trip && !c.origins.trip
  let q := { r with
    slot := some { c with
      origins := c.origins.union o
      generator := g.or c.generator
      resendDone := if joins then false else c.resendDone } }
  if o.trip && (joins || r.bf != .idle) then q.startBf o else q

/-- The CLOSE in the slot may be closing breaker `b` already, so that an OPEN which supersedes it is issued even if the
position is OPEN: its frame has left (R101), or it is simulated and runs (R116). -/
def State.closeRuns (s : State) (b : Nat) (c : Command) : Bool := c.left || (s.isolated b && c.phase == .accepted)

/-- An OPEN request for breaker `b` with origins `o`, of generator `g` where PARALLELING is among them. The refusal of R100
for a breaker that is not configured steps the count of refused requests too, also where a trip demand brings the OPEN
(DESIGN CHOICE, log entry 23). -/
def State.openRequest (s : State) (b : Nat) (o : Origins) (g : Option Nat) : State × Answer :=
  let r := s.brk b
  if !s.brkConfigured b then (s.countRefused b, .refused .notConfigured)
  else
    match r.slot with
    | none =>
      if r.position == .opened then (s, .done)
      else ((s.takeOpen b o g).issueCommand b, .taken r.tagCounter)
    | some c =>
      (match c.action with
      | .opening => (s.modBrk b (fun r => r.mergeOpen c o g), .merged c.tag)
      | .closing =>
        if !s.closeRuns b c && r.position == .opened then (s.endCommand b .superseded, .done)
        else (((s.endCommand b .superseded).takeOpen b o g).post (.issue b), .taken r.tagCounter))

/-- An OPEN request whose answer no block waits for. -/
def State.openFor (s : State) (b : Nat) (o : Origins) : State := (s.openRequest b o none).1

/-! ### Close requests and release (R102, R103) -/

/-- A party is the holder that a DEAD close of a guarded breaker needs (R102). -/
def State.holdsToken (s : State) (q : Requester) : Bool :=
  match q with
  | .party p => s.par.token == some p
  | .operator => false

/-- Tests a to h of R102 in their order, with the test of a CLOSED position at release. -/
def State.closeTests (s : State) (b : Nat) (k : CloseKind) (q : Requester) : List (Bool × Reason) :=
  let r := s.brk b
  [(!r.trips.isEmpty, .tripDemand), (s.lines.tripLatch, .stationTrip), (s.lines.lockout, .lockout),
    (r.position == .unknown, .unknownPosition), (r.position == .closed, .already),
    (r.position == .travel, .travel), (k == .plain && s.guarded b, .guarded),
    (k == .dead && s.guarded b && !s.holdsToken q, .token), (!s.interlockTrue b, .interlock)]

/-- Tests i to l of R102, made in NORMAL mode. -/
def State.healthTests (s : State) (b : Nat) : List (Bool × Reason) :=
  let r := s.brk b
  if s.isolated b then []
  else
    [(r.unresponsive, .unresponsive), (!r.health.tripCircuit, .tripCircuit), (!r.health.spring, .spring),
      (r.health.localControl, .localControl)]

/-- The reason of the first failing test, if any fails. -/
def firstReason (ts : List (Bool × Reason)) : Option Reason := (ts.find? (·.1)).map (·.2)

def State.closeReason (s : State) (b : Nat) (k : CloseKind) (q : Requester) : Option Reason :=
  firstReason (s.closeTests b k q ++ s.healthTests b)

/-- The release of a queued close (R103). -/
def State.releaseClose (s : State) (b : Nat) : State :=
  match (s.brk b).slot with
  | none => s
  | some c =>
    if c.action == .closing && c.phase == .queued then
      (match s.closeReason b c.closeKind c.requester with
      | some y => s.endCommand b (.refused y)
      | none => s.issueCommand b)
    else s

/-- A CLOSE takes the slot; a PLAIN close is released at once. -/
def State.takeClose (s : State) (b : Nat) (k : CloseKind) (q : Requester) (o : Origins) (g : Option Nat) :
    State :=
  let t := s.modBrk b (fun r =>
    { r with slot := some { action := .closing, closeKind := k, requester := q, origins := o, generator := g } })
  if k == .plain then t.issueCommand b else t

/-- A CLOSE request (R102). -/
def State.closeRequest (s : State) (b : Nat) (k : CloseKind) (q : Requester) (o : Origins) (g : Option Nat) :
    State × Answer :=
  let r := s.brk b
  if !s.brkConfigured b then (s.countRefused b, .refused .notConfigured)
  else if r.slot.isSome then (s, .busy)
  else if r.position == .closed then (s, .already)
  else
    match s.closeReason b k q with
    | some y => (s.countRefused b, .refused y)
    | none => (s.takeClose b k q o g, .taken r.tagCounter)

/-- The requester of a queued close withdraws it (R103). -/
def State.withdrawClose (s : State) (b : Nat) (p : Party) : State :=
  match (s.brk b).slot with
  | none => s
  | some c =>
    if c.action == .closing && c.phase == .queued && c.requester == .party p then s.endCommand b .withdrawn
    else s

/-! ### Changes of position (R98, R108, R111, R164) -/

/-- The generator whose own OPEN concludes when breaker `b` comes to `new` (R167). -/
def BreakerRec.ownOpen (r : BreakerRec) (new : Position) : Bool :=
  new == .opened && r.slot.any (fun c => c.action == .opening && c.phase != .queued && c.origins.paralleling)

/-- Completion of the command in the slot at its target (R108). -/
def State.completeCommand (s : State) (b : Nat) : State :=
  match (s.brk b).slot with
  | none => s
  | some c =>
    if c.phase != .queued && c.action.target == (s.brk b).position then s.endCommand b .done else s

/-- What follows any change of a position in the other blocks: the line-up is due when the breaker is watched
(R124), and the paralleling unit is handed the change (R164). -/
def State.positionMoved (s : State) (b : Nat) (old new : Position) (own tripped : Bool) : State :=
  let t := if (watchedBreakers s.mgmt.tables).contains b then s.modSeq (fun q => { q with lineupDue := true })
    else s
  t.post (.genPosition b old new own tripped)

/-- The check of R111. -/
def State.checkTrips (s : State) (b : Nat) : State :=
  let r := s.brk b
  if (r.position == .closed || r.position == .travel) && !r.trips.isEmpty &&
      !r.slot.any (·.action == .opening) then
    s.openFor b (originsOf r.trips)
  else s

/-- A change of position, confirmed or simulated (R98, R116). The trip demand set that decides between FAULT and STOPPING
(R167) is read before a confirmed OPEN takes PARALLEL_LIMIT out of it (DESIGN CHOICE, log entry 23). The controller makes
its own checks, the completion (R108), the trip demands (R111) and BF (R115), before the other blocks act on the change,
so that R111 sees the slot as the change finds it (DEDUCED, log entry 23). -/
def State.changePosition (s : State) (b : Nat) (new : Position) : State :=
  let r := s.brk b
  let t := (s.modBrk b (fun r =>
    { r with
      position := new
      trips := if new == .opened then r.trips.filter (· != .parallelLimit) else r.trips })).event
        .breaker 9 b 1 (some new.code)
  let u := (t.positionMoved b r.position new (r.ownOpen new) (!r.trips.isEmpty)).completeCommand b
  ((u.checkTrips b).testBf b).post (.seqPosition b)

/-- The position returns to UNKNOWN at an activation or a restart, with no event (R117, R118). The change is handed to the
paralleling unit (R164): a generator that was ONLINE is STOPPING or in FAULT by it, at a RESTART too, which then builds no
GENSET (R148). -/
def State.losePosition (s : State) (b : Nat) : State :=
  let r := s.brk b
  let t := s.modBrk b (fun r => { r with position := .unknown, candidate := none })
  if r.position == .unknown then t
  else (t.positionMoved b r.position .unknown false (!r.trips.isEmpty)).post (.seqPosition b)

/-! ### POSITION frames (R98, R99, R106) -/

/-- The configured entry that a report matches. -/
def State.matchBreaker (s : State) (src number : Nat) : Option Nat :=
  (List.range 24).find? (fun b =>
    s.brkConfigured b && s.fld .breaker b 2 == src && s.fld .breaker b 3 == number)

/-- The response fields of a matched report (R106). In ISOLATED mode they are ignored (R116). -/
def State.handleResponse (s : State) (b : Nat) (f : PositionBody) : State :=
  match (s.brk b).slot with
  | none => s
  | some c =>
    if s.isolated b || c.phase != .sent || c.tag != f.tag then s
    else
      (match f.response with
      | .none => s
      | .accepted => s.modBrk b (fun r => { r with slot := some { c with phase := .accepted, timer := 0 } })
      | .refused => s.endCommand b (.refused (.biu f.reason)))

/-- The health flags of a matched report (R99). -/
def State.handleHealth (s : State) (b : Nat) (h : Health) : State :=
  let old := (s.brk b).health.tripCircuit
  let t := s.modBrk b (fun r => { r with health := h, unresponsive := false })
  if old && !h.tripCircuit then t.event .breaker 12 b 2 none
  else if !old && h.tripCircuit then t.event .breaker 6 b 3 none
  else t

/-- The position of a matched report: the two-report debounce (R98, R116). -/
def State.handlePosition (s : State) (b : Nat) (p : Reported) : State :=
  let r := s.brk b
  if s.isolated b then
    s.modBrk b (fun r =>
      { r with
        fieldPosition := if r.fieldCandidate == some p then reportedPosition p else r.fieldPosition
        fieldCandidate := some p })
  else
    let t := s.modBrk b (fun r => { r with candidate := some p })
    if r.candidate == some p && r.position != reportedPosition p then t.changePosition b (reportedPosition p) else t

/-- The second part of a matched report: its health flags, with their event, before its position (DESIGN CHOICE, log
entry 23). -/
def State.handleReport (s : State) (b : Nat) (p : Reported) (h : Health) : State :=
  (s.handleHealth b h).handlePosition b p

/-- A POSITION frame handed to the breaker controller. -/
def State.takePosition (h : Header) (f : PositionBody) (s : State) : State :=
  match s.matchBreaker h.src f.biuNumber with
  | none => { s with breakers := { s.breakers with unmatched := step32 s.breakers.unmatched } }
  | some b =>
    ((s.modBrk b (fun r => { r with reports := step32 r.reports })).handleResponse b f).post
      (.report b f.position f.health)

/-! ### Trip demand sets (R110) -/

/-- The outstanding requests after one of them is taken: it and earlier ones for its member go. -/
def settleRequests (qs : List DemandRequest) (q : DemandRequest) : List DemandRequest :=
  ((qs.zip (List.range qs.length)).filter (fun x =>
    !(x.1.breaker == q.breaker && x.1.member == q.member && x.2 ≤ qs.idxOf q))).map (·.1)

/-- A member joins a set: its OPEN request follows, and a PARALLEL_LIMIT that nothing waits for goes at once. -/
def State.addMember (s : State) (b : Nat) (m : Member) : State :=
  if (s.brk b).trips.contains m then s
  else
    let t := (s.modBrk b (fun r => { r with trips := r.trips ++ [m] })).openFor b (Member.origin m)
    if m == .parallelLimit && (!s.brkConfigured b || (s.brk b).position == .opened) then
      t.modBrk b (fun r => { r with trips := r.trips.filter (· != .parallelLimit) })
    else t

def State.removeMember (s : State) (b : Nat) (m : Member) : State :=
  s.modBrk b (fun r => { r with trips := r.trips.filter (· != m) })

/-- The breaker controller takes an outstanding request. -/
def State.takeDemand (s : State) (q : DemandRequest) : State :=
  if s.breakers.requests.contains q then
    let t := { s with breakers := { s.breakers with requests := settleRequests s.breakers.requests q } }
    if q.add then t.addMember q.breaker q.member else t.removeMember q.breaker q.member
  else s

/-! ### Timers (R107, R108, R113, R114, R116) -/

/-- BF goes to BACKUP_ISSUED on a second missing response (R107, R114). -/
def State.escalateBf (s : State) (b : Nat) (o : Origins) : State :=
  let r := s.brk b
  let origins := if r.bf == .idle then o.tripPart else r.bfOrigins
  if r.bf == .backupIssued || !origins.beyondBackup then s
  else
    (s.modBrk b (fun r =>
      { r with bfTimer := if r.bf == .idle then 0 else r.bfTimer, bfOrigins := origins })).issueBackup b

/-- The response timer reaches the response timeout (R107). -/
def State.responseExpiry (s : State) (b : Nat) : State :=
  match (s.brk b).slot with
  | none => s
  | some c =>
    if c.phase != .sent || c.timer < s.fld .breaker b 9 then s
    else if c.tripOpen && !c.resendDone then
      (s.modBrk b (fun r => { r with slot := some { c with resendDone := true } })).issueCommand b
    else if c.tripOpen then
      (((s.endCommand b .noResponse).modBrk b (fun r => { r with unresponsive := true })).event
        .breaker 13 b 5 none).escalateBf b c.origins
    else s.endCommand b .noResponse

/-- The limit of an accepted command (R96). -/
def State.commandLimit (s : State) (b : Nat) (a : Action) : Nat :=
  match a with
  | .opening => s.fld .breaker b 10
  | .closing => s.fld .breaker b 11

/-- The limit timer reaches the open or close limit (R108). -/
def State.limitExpiry (s : State) (b : Nat) : State :=
  match (s.brk b).slot with
  | none => s
  | some c =>
    if s.isolated b || c.phase != .accepted || c.timer < s.commandLimit b c.action then s
    else s.endCommand b .failed

/-- The time of a simulated command (R116). -/
def State.simulationTime (s : State) (b : Nat) (a : Action) : Nat :=
  match a with
  | .opening => s.fld .breaker b 8
  | .closing => s.fld .breaker b 7

/-- A simulated completion (R116). One whose target the position has already, as of an OPEN that has stopped a simulated CLOSE,
goes the same way, POSITION_CHANGED and the checks of R98 among it (DEDUCED, log entry 23). -/
def State.simulatedEnd (s : State) (b : Nat) : State :=
  match (s.brk b).slot with
  | none => s
  | some c =>
    if !s.isolated b || c.phase != .accepted || c.timer < s.simulationTime b c.action then s
    else (s.modBrk b (fun r => { r with candidate := none })).changePosition b c.action.target

/-- The OPEN of a retrip (R113). In ISOLATED mode a slot that holds a simulated CLOSE, which the rule does not name,
receives an OPEN request too, as in NORMAL mode; it supersedes the CLOSE (DESIGN CHOICE, log entry 23). -/
def State.retripOpen (s : State) (b : Nat) : State :=
  match (s.brk b).slot with
  | some c =>
    if c.action == .opening && s.isolated b then s
    else if c.tripOpen then s.issueCommand b
    else s.openFor b (s.brk b).bfOrigins
  | none => s.openFor b (s.brk b).bfOrigins

/-- The BF timer stands at or beyond the retrip time while BF is TIMING (R113). -/
def State.retrip (s : State) (b : Nat) : State :=
  let r := s.brk b
  if r.bf == .timing && s.fld .breaker b 12 ≤ r.bfTimer then
    ((s.modBrk b (fun r => { r with bf := .retripped })).event .breaker 13 b 7 none).retripOpen b
  else s

/-- The BF timer stands at or beyond the backup time while BF is RETRIPPED (R114). -/
def State.backup (s : State) (b : Nat) : State :=
  let r := s.brk b
  if r.bf == .retripped && s.fld .breaker b 13 ≤ r.bfTimer && r.bfOrigins.beyondBackup then s.issueBackup b
  else s

/-- The breaker timers at an advance of the counter. The BF timer counts without bound (DESIGN CHOICE, log entry 23). -/
def BreakerRec.advance (r : BreakerRec) : BreakerRec :=
  { r with
    slot := r.slot.map (fun c => if c.phase == .queued then c else { c with timer := c.timer + 1 })
    bfTimer := if r.bf == .idle then r.bfTimer else r.bfTimer + 1 }

def State.advanceBreakers (s : State) : State :=
  { s with breakers := { s.breakers with recs := s.breakers.recs.map BreakerRec.advance } }

/-! ### The close test of R15 -/

/-- The conditions of R15 for a frame of a CLOSE of breaker `b`, with those of a BIU frame by its tag; the
reason of the first that fails. A slot that does not hold the frame's CLOSE fails without a reason. -/
def State.frameTest (s : State) (b tag : Nat) (mirror : Bool) : Option (Option Reason) :=
  let r := s.brk b
  let common := firstReason
    [(!r.trips.isEmpty, .tripDemand), (s.lines.tripLatch, .stationTrip), (s.lines.lockout, .lockout),
      (!s.interlockTrue b, .interlock)]
  if mirror then common.map some
  else
    match r.slot with
    | none => some none
    | some c =>
      if c.action != .closing || c.tag != tag || c.phase == .queued then some none
      else
        (firstReason
          [(!r.trips.isEmpty, .tripDemand), (s.lines.tripLatch, .stationTrip), (s.lines.lockout, .lockout),
            (c.closeKind == .dead && s.guarded b && !s.holdsToken c.requester, .token),
            (!s.interlockTrue b, .interlock)]).map some

/-- A BIU frame of a CLOSE fails its test: the close is abandoned unless the frame has left already (R15,
R104). -/
def State.abandonClose (s : State) (b : Nat) (reason : Option Reason) : State :=
  match reason, (s.brk b).slot with
  | some y, some c => if c.left then s else s.endCommand b (.refused y)
  | _, _ => s

/-- The frame of a command begins transmission: its left mark is set (R104). -/
def State.markCommandLeft (s : State) (b tag : Nat) : State :=
  s.modBrk b (fun r =>
    { r with slot := r.slot.map (fun c =>
        if c.tag == tag && c.phase != .queued then { c with left := true } else c) })

/-! ### Activation and restart (R117, R118) -/

/-- A changed BREAKER entry is activated, the table being already the new one (R117). BF_OCCURRED, which is no part of
the record of R97, keeps its value (R115). The trip circuit flag of a breaker that becomes configured starts at its
power-on value and records nothing (DESIGN CHOICE, log entry 18). -/
def State.activateBreaker (s : State) (old : Table) (b : Nat) : State :=
  let e : Entry := old.getD b []
  let n : Entry := (s.table .breaker).getD b []
  if e.get 1 == 1 && n.get 1 != 1 then
    let t := (s.losePosition b).modBrk b (fun r =>
      { r with
        fieldPosition := .unknown, fieldCandidate := none
        trips := r.trips.filter (· != .parallelLimit) })
    if (s.brk b).bf == .idle then t else t.resetBf b
  else if e.get 1 != 1 && n.get 1 == 1 then
    (s.losePosition b).modBrk b (fun r =>
      { ({} : BreakerRec) with trips := r.trips, bfOccurred := r.bfOccurred })
  else if n.get 1 == 1 then
    let t := if e.get 2 != n.get 2 || e.get 3 != n.get 3 then
      (s.losePosition b).modBrk b (fun r => { r with unresponsive := false }) else s
    if e.get 21 == 0 && n.get 21 == 1 then
      t.modBrk b (fun r => { r with fieldPosition := .unknown, fieldCandidate := none })
    else if e.get 21 == 1 && n.get 21 == 0 then t.losePosition b
    else t
  else s

/-- One breaker record at RESTART (R118). The trip circuit flag set to 0 here records no TRIP_CIRCUIT_FAIL (R99), since
R118 names no event (DESIGN CHOICE, log entry 18). -/
def State.restartBreaker (b : Nat) (s : State) : State :=
  (s.losePosition b).modBrk b (fun r =>
    { r with
      fieldPosition := .unknown, fieldCandidate := none
      health := ⟨false, false, false⟩, unresponsive := false })

def State.restartBreakers (s : State) : State := s.forEach (List.range 24) State.restartBreaker

end Sys2Proof.Machine
end

