-- ==== Sys2Proof/Machine/Phasor.lean ====
section
/-! DEFINITION. The phasor engine (R39 to R53): the sample windows, the discrete Fourier transform, the
magnitude, the angle and slip of a pair, the frequency tracker and the power. -/

namespace Sys2Proof.Machine

/-! ### Coefficients (R40) -/

def coefficientBaseAt (k : Nat) : Int := Config.coefficientBase.getD k 0

/-- C[j], by quadrant. -/
def cosCoefficient (j : Nat) : Int :=
  if j ≤ 12 then coefficientBaseAt j
  else if j ≤ 24 then -coefficientBaseAt (24 - j)
  else if j ≤ 36 then -coefficientBaseAt (j - 24)
  else coefficientBaseAt (48 - j)

/-- S[j], by quadrant. -/
def sinCoefficient (j : Nat) : Int :=
  if j ≤ 12 then coefficientBaseAt (12 - j)
  else if j ≤ 24 then coefficientBaseAt (j - 12)
  else if j ≤ 36 then -coefficientBaseAt (36 - j)
  else -coefficientBaseAt (j - 36)

/-! ### Sums, components and magnitude (R41, R42) -/

/-- The sum of the window values each times its coefficient. -/
def weightedSum (w : List WindowEntry) (coefficient : Nat → Int) : Int :=
  ((w.zip (List.range Config.windowLength)).map (fun x => x.1.value * coefficient x.2)).sum

def windowRe (w : List WindowEntry) : Int := roundDiv (weightedSum w cosCoefficient) Config.phasorDivisor

def windowIm (w : List WindowEntry) : Int := roundDiv (-weightedSum w sinCoefficient) Config.phasorDivisor

/-- The integer square root found bit by bit: bits `k − 1` down to 0 are tried on top of `r`. -/
def sqrtBits (n : Nat) : Nat → Nat → Nat
  | 0, r => r
  | k + 1, r => if (r + 2 ^ k) * (r + 2 ^ k) ≤ n then sqrtBits n k (r + 2 ^ k) else sqrtBits n k r

/-- floor(√n). -/
def isqrt (n : Nat) : Nat := sqrtBits n (Nat.log2 n / 2 + 1) 0

def magnitudeOf (re im : Int) : Nat := isqrt (re.natAbs * re.natAbs + im.natAbs * im.natAbs)

/-! ### Angle and slip (R44, R45) -/

/-- The scale of the arctangent's fixed-point arithmetic. The true angle is never a tie between two
hundredths, and this precision separates it from each tie for all products of stored components (DEDUCED,
log entry 10). -/
def atanScale : Nat := 2 ^ 200

/-- The sum of Euler's series for the arctangent of `x / y` from term `n` on, `t` being the term before:
each term is the one before times 2n·x² over (2n + 1)·(x² + y²). -/
def atanTerms (x y : Nat) : Nat → Nat → Nat → Nat
  | 0, _, _ => 0
  | fuel + 1, n, t =>
    let u := t * (2 * n * (x * x)) / ((2 * n + 1) * (x * x + y * y))
    u + atanTerms x y fuel (n + 1) u

/-- The arctangent of `x / y` for x ≤ y, times the scale. -/
def atanFixed (x y : Nat) : Nat :=
  let t := x * y * atanScale / (x * x + y * y)
  t + atanTerms x y 220 1 t

/-- The arctangent of `x / y` for x ≤ y in hundredths of a degree, rounded; 4500 at x = y. -/
def octantAngle (x y : Nat) : Nat :=
  (2 * 4500 * atanFixed x y + atanFixed 1 1) / (2 * atanFixed 1 1)

/-- The angle between phasors from their dot and cross products, −18000 to 17999. -/
def angleOf (dot cross : Int) : Int :=
  let x := cross.natAbs
  let y := dot.natAbs
  let quadrant : Nat :=
    if x == 0 && y == 0 then 0 else if x ≤ y then octantAngle x y else 9000 - octantAngle y x
  let turned : Nat := if dot < 0 then 18000 - quadrant else quadrant
  if cross < 0 then -(turned : Int) else if turned == 18000 then -18000 else turned

/-- The angle of G from B. -/
def angleBetween (g b : Phasor) : Int :=
  angleOf (g.re * b.re + g.im * b.im) (g.im * b.re - g.re * b.im)

/-- The slip of a pair: fG − fB. -/
def slipBetween (g b : Tracker) : Int := (g.frequency : Int) - b.frequency

/-! ### Emptying and resetting (R22, R39, R49, R50) -/

/-- A stream's windows are emptied, its valid flags are 0 and its tracker is reset; the values stay. -/
def StreamMeasure.empty (m : StreamMeasure) : StreamMeasure :=
  { m with
    windows := List.replicate 8 emptyWindow
    phasors := m.phasors.map (fun p => { p with valid := false })
    powerValid := false
    tracker := { m.tracker with
      closures := 0, reference := none, silence := Config.trackerSilence, valid := false } }

/-! ### The work at a closure (R51) -/

/-- The mark of an entered value by its condition after the closure (R31, R39). -/
def Condition.mark : Condition → WindowMark
  | .fresh => .none
  | .held => .held
  | .invalid => .invalid

def enterWindow (w : List WindowEntry) (q : Quantity) : List WindowEntry :=
  w.tail ++ [⟨q.value, q.condition.mark⟩]

/-- R43: store what the window gives, or keep what is stored and drop the valid flag. -/
def decidePhasor (label : Label) (p : Phasor) (w : List WindowEntry) (q : Quantity) : Phasor :=
  if q.fresh == Config.windowLength then
    let re := windowRe w
    let im := windowIm w
    ⟨re, im, magnitudeOf re im, true, some label⟩
  else { p with valid := false }

/-- The crossing at this closure, by R46: a < 0 ≤ b, neither marked, Q0 valid and at its level. `n` is the
new closure count. -/
def crossingAt (n level : Nat) (w : List WindowEntry) (p : Phasor) : Option Nat :=
  let a : WindowEntry := nth w 46
  let b : WindowEntry := nth w 47
  if a.value < 0 && 0 ≤ b.value && a.mark == .none && b.mark == .none && p.valid && level ≤ p.magnitude then
    let back := (256 * b.value.natAbs) / (b.value.natAbs + a.value.natAbs)
    some ((256 * n + 2 ^ 32 - back) % 2 ^ 32)
  else none

def Tracker.quiet (t : Tracker) : Tracker :=
  let k := min (t.silence + 1) Config.trackerSilence
  { t with silence := k, valid := t.valid && k < Config.trackerSilence }

/-- R47: a period is accepted, or discarded while the frequency is held. -/
def Tracker.period (t : Tracker) (nominal period : Nat) : Tracker :=
  if Config.periodMin ≤ period && period ≤ Config.periodMax then
    { t with
      frequency := (roundDiv (12288000 * nominal : Nat) period).toNat
      valid := true
      silence := 0
      accepted := step32 t.accepted }
  else { t.quiet with discarded := step32 t.discarded }

/-- The tracker at a closure (R46 to R48). -/
def Tracker.close (t : Tracker) (nominal level : Nat) (w : List WindowEntry) (p : Phasor) : Tracker :=
  let n := (t.closures + 1) % 16777216
  let t1 := { t with closures := n }
  match crossingAt n level w p, t.reference with
  | none, _ => t1.quiet
  | some x, none => { t1.quiet with reference := some x }
  | some x, some r => { t1.period nominal ((x + 2 ^ 32 - r) % 2 ^ 32) with reference := some x }

/-- The pair sum of R50. -/
def powerSum (ps : List Phasor) : Int :=
  ((List.range 3).map (fun k =>
    let v : Phasor := nth ps k
    let i : Phasor := nth ps (k + 4)
    v.re * i.re + v.im * i.im)).sum

/-- All six phasors of the power are valid (R50). -/
def powerInputsValid (ps : List Phasor) : Bool :=
  [0, 1, 2, 4, 5, 6].all (fun k => (nth ps k : Phasor).valid)

/-- One stream's measurements at the closure of an instant. -/
def StreamMeasure.close (m : StreamMeasure) (label : Label) (nominal level : Nat) (qs : List Quantity) :
    StreamMeasure :=
  let windows := m.windows.zipWith enterWindow qs
  let phasors := (List.range 8).map (fun k => decidePhasor label (nth m.phasors k) (nth windows k) (nth qs k))
  let allValid := powerInputsValid phasors
  { windows := windows
    phasors := phasors
    tracker := m.tracker.close nominal level (nth windows 0) (nth phasors 0)
    power := if allValid then roundDiv (powerSum phasors) Config.powerDivisor else m.power
    powerValid := allValid }

/-- The engine's work for every stream that is not DISABLED (R51). -/
def State.phasorWork (s : State) (label : Label) : State :=
  s.forEach (List.range 16) (fun k t =>
    if (t.stream k).state == .disabled then t
    else t.modMeasure k (fun m =>
      m.close label t.aligner.nominal (t.fld .stream k 4) (t.stream k).quantities))

end Sys2Proof.Machine
end

