-- ==== Sys2Proof/Machine/Generators.lean ====
section
/-! DEFINITION. The generators (R145 to R159, R164 to R168): their states and setpoints, the ability exchange,
demand, close attempts, and what positions, outcomes and status frames do to them. -/

namespace Sys2Proof

/-- The abilities that a ramped unload needs (R166). -/
def Abilities.ramped (a : Abilities) : Bool := a.loadControl && a.softLoad

/-- The abilities in both sets (R151). -/
def Abilities.both (a b : Abilities) : Abilities :=
  ⟨a.remoteStart && b.remoteStart, a.biasControl && b.biasControl, a.loadControl && b.loadControl,
    a.softLoad && b.softLoad, a.closedTransition && b.closedTransition⟩

end Sys2Proof

namespace Sys2Proof.Machine

/-! ### States and setpoints (R145, R153) -/

def GenState.code : GenState → Nat
  | .absent => 0
  | .negotiating => 1
  | .standby => 2
  | .starting => 3
  | .ready => 4
  | .claiming => 5
  | .syncing => 6
  | .closing => 7
  | .online => 8
  | .unloading => 9
  | .stopping => 10
  | .fault => 11

/-- The states of a close attempt (R155). -/
def GenState.attempting : GenState → Bool
  | .claiming | .syncing | .closing => true
  | _ => false

/-- The states whose run demand is START (R145). -/
def GenState.startDemand : GenState → Bool
  | .starting | .ready | .claiming | .syncing | .closing | .online | .unloading => true
  | _ => false

/-- ONLINE or UNLOADING (R153, R154). -/
def GenState.loaded : GenState → Bool
  | .online | .unloading => true
  | _ => false

/-- The states in which a renegotiation waits (R152). -/
def GenState.keepsAbilities : GenState → Bool
  | .syncing | .closing | .online | .unloading => true
  | _ => false

/-- The setpoint record of a configured generator that is not ABSENT (R153). A generator that leaves ONLINE keeps the biases
of the channel 0 run that wrote them until that run ends, whatever its state meanwhile (DESIGN CHOICE, log entry 24). -/
def State.setpointOf (s : State) (g : Nat) : Option Setpoint :=
  let r := s.gen g
  if !s.genConfigured g || r.state == .absent then none
  else
    some {
      start := r.state.startDemand
      baseLoaded := r.state.loaded && r.baseLoaded
      speedBias := r.speedBias
      voltageBias := r.voltageBias
      target := if r.state.loaded then r.target else 0
      ramp := r.params.ramp }

/-- Build the GENSET frame of a generator from its record (R153), but within a part of a RESTART (R148). -/
def State.buildGenset (s : State) (g : Nat) : State :=
  match s.setpointOf g with
  | none => s
  | some p => if s.hushed then s else (s.sendGenset g p).modGen g (fun r => { r with refreshTimer := 0 })

/-- The correction interval of a generator's SYNC entry (R147). -/
def State.correctionInterval (s : State) (entry : Nat) : Nat := s.fld .sync entry 11

/-! ### Change of state (R148, R152, R155, R164, R167) -/

/-- An OPEN request of a generator for its breaker. -/
def State.genOpen (s : State) (g : Nat) : State × Answer :=
  s.openRequest (s.genBreaker g) { paralleling := true } (some g)

/-- The position of a generator's breaker. -/
def State.genPosition (s : State) (g : Nat) : Position := (s.brk (s.genBreaker g)).position

/-- A client leaves its run (R163). The run aborts where the sequencer ends it (R135), in either phase, and where a
generator leaves SYNCING; a generator that leaves CLOSING ends its RELEASED run (R155), which is no abort. -/
def State.leaveRun (s : State) (p : Party) : State :=
  match s.channelOf p with
  | none => s
  | some c =>
    if p == .sequencer || (s.channel c).any (fun r => r.phase == .running) then (s.abortEvent c).endRun c
    else s.endRun c

/-- The withdrawals of R155 as a generator leaves a close attempt. -/
def State.leaveAttempt (s : State) (g : Nat) : State :=
  ((s.leaveRun (.generator g)).withdrawClose (s.genBreaker g) (.generator g)).leaveToken (.generator g)

/-- The record on entry into a state: ONLINE clears the failure counts and its timer and starts without a load
target (R164), STARTING clears its start timer (R155). -/
def GenRec.enter (r : GenRec) (new : GenState) : GenRec :=
  match new with
  | .online =>
    { r with
      state := new, deadFailures := 0, closeFailures := 0, onlineTimer := 0, target := 0, baseLoaded := false
      soft := true }
  | .starting => { r with state := new, startTimer := 0 }
  | .absent => { r with state := new, exchange := {} }
  | _ => { r with state := new }

/-- The priority of a GEN_STATE event (R148). -/
def genPriority (old new : GenState) : Nat :=
  match new with
  | .fault => 12
  | .absent => if old.loaded then 10 else 6
  | _ => 6

/-- A generator takes a state, with the effects of leaving the old one and of entering the new. -/
def State.genMove (s : State) (g : Nat) (new : GenState) : State :=
  let old := (s.gen g).state
  if old == new then s
  else
    let t := if old.attempting && !new.attempting then s.leaveAttempt g else s
    let u := t.noting ((t.modGen g (fun r => r.enter new)).modPar (fun p =>
      { p with waitList := p.waitList.filter (· != g), demandDue := true }))
    let v := u.event .generator (genPriority old new) g 1 (some new.code)
    let w := if (new == .fault || new == .stopping) && v.genPosition g != .opened then (v.genOpen g).1 else v
    if old.loaded || new.loaded then w.post .gensReport else w

/-! ### The beginning of an exchange (R150, R152) -/

/-- The unit's BASE page. -/
def State.basePage (s : State) (g : Nat) : Page :=
  ⟨false, false, false, .base (Abilities.ofByte (s.fld .generator g 11))⟩

/-- The exchange begins. The whole exchange record starts anew, the controller's set held from an earlier exchange among it
(DESIGN CHOICE, log entry 24). -/
def State.beginExchange (s : State) (g : Nat) : State :=
  (s.modGen g (fun r =>
    { r with
      exchange := { state := .awaitBase }
      params := tableParameters s.mgmt.tables g })).sendPage g (s.basePage g)

/-- Renegotiation: it clears the deferred mark and keeps a FAULT generator in FAULT (R152). -/
def State.renegotiate (s : State) (g : Nat) : State :=
  let t := s.modGen g (fun r => { r with deferred := false })
  if (t.gen g).state == .fault then t.beginExchange g else (t.genMove g .negotiating).beginExchange g

/-- A generator changes its state. One whose renegotiation is deferred renegotiates as it enters any state other than
SYNCING, CLOSING, ONLINE and UNLOADING (R152). -/
def State.genEnter (s : State) (g : Nat) (new : GenState) : State :=
  let t := s.genMove g new
  if (s.gen g).state != new && (t.gen g).deferred && !new.keepsAbilities then t.renegotiate g else t

/-- Back to READY with the retry timer at the correction interval. -/
def State.genRetry (s : State) (g : Nat) : State :=
  (s.modGen g (fun r => { r with retryTimer := s.correctionInterval g, retryDue := false })).genEnter g .ready

/-- A dead-close failure: at the second the generator enters FAULT (R159). -/
def State.deadFailure (s : State) (g : Nat) : State :=
  let n := (s.gen g).deadFailures + 1
  let t := s.modGen g (fun r => { r with deadFailures := n })
  if 2 ≤ n then t.genEnter g .fault else t.genRetry g

/-- A close failure: at the third the generator enters FAULT (R164). -/
def State.closeFailure (s : State) (g : Nat) : State :=
  let n := (s.gen g).closeFailures + 1
  let t := s.modGen g (fun r => { r with closeFailures := n })
  if 3 ≤ n then t.genEnter g .fault else t.genRetry g

/-- The reasons that do not count against a generator (R159, R160, R164). -/
def Reason.uncounted : Reason → Bool
  | .lockout | .stationTrip | .tripDemand => true
  | _ => false

/-! ### Unloading (R166) -/

/-- The OPEN of an unload, once. -/
def State.unloadOpen (s : State) (g : Nat) : State :=
  let r := (s.modGen g (fun r => { r with unloadAsked := true })).genOpen g
  match r.2 with
  | .done => r.1.genEnter g .stopping
  | .taken _ => r.1
  | .merged _ => r.1
  | _ => r.1.genEnter g .fault

def State.enterUnloading (s : State) (g : Nat) : State :=
  let t := (s.modGen g (fun r =>
    { r with unloadFrom := r.target, unloadTimer := 0, unloadAsked := false })).genEnter g .unloading
  let r := t.gen g
  if r.unloadFrom ≤ r.params.minLoad || !r.common.ramped then t.unloadOpen g else t

/-! ### The ability exchange (R150 to R152) -/

/-- At rated by measurement (R156). -/
def State.atRated (s : State) (g : Nat) : Bool :=
  let k := s.fld .generator g 4
  let f := (s.measure k).tracker
  [0, 1, 2].all (fun q => (s.phasor k q).valid && s.fld .generator g 14 ≤ (s.phasor k q).magnitude) &&
    f.valid && ((f.frequency : Int) - 1000 * s.aligner.nominal).natAbs ≤ s.fld .generator g 15

/-- A generator in NEGOTIATING takes its state from the standing facts (R151). -/
def State.settleNegotiated (s : State) (g : Nat) : State :=
  let r := s.gen g
  match s.genPosition g with
  | .unknown => s
  | .closed => s.genEnter g (if r.status.running then .online else .stopping)
  | _ => s.genEnter g (if r.status.running && s.atRated g then .ready else .standby)

/-- The exchange has ended (R150). -/
def GenRec.exchangeEnded (r : GenRec) : Bool :=
  r.exchange.state == .done || r.exchange.state == .undeclared

/-- The state that the end of an exchange gives a generator in NEGOTIATING. -/
def State.afterExchange (s : State) (g : Nat) : State :=
  if (s.gen g).state == .negotiating && (s.gen g).exchangeEnded then s.settleNegotiated g else s

/-- The record as an exchange ends with a common set: without BIAS_CONTROL in it a generator has biases of 0 (R162), also
where a channel 0 run in progress had written others (DEDUCED, log entry 24). -/
def GenRec.agree (r : GenRec) (common : Abilities) (x : ExchangeState) : GenRec :=
  { r with
    common := common
    exchange := { r.exchange with state := x }
    speedBias := if common.biasControl then r.speedBias else 0
    voltageBias := if common.biasControl then r.voltageBias else 0 }

/-- The exchange ends DONE (R151). -/
def State.exchangeDone (s : State) (g : Nat) : State :=
  let common := (Abilities.ofByte (s.fld .generator g 11)).both (s.gen g).exchange.controllerSet
  let t := s.modGen g (fun r => r.agree common .done)
  (t.event .generator 5 g 3 (some common.byte)).afterExchange g

/-- The exchange ends UNDECLARED (R151). -/
def State.exchangeUndeclared (s : State) (g : Nat) : State :=
  let t := s.modGen g (fun r =>
    { r.agree { noAbilities with remoteStart := true } .undeclared with
      params := tableParameters s.mgmt.tables g })
  (t.event .generator 9 g 4 none).afterExchange g

/-- A NEXT page's value clamped into the limits of the table and of what is negotiated (R151). -/
def Parameters.apply (p table : Parameters) (c : AbilityCode) (v : Nat) : Parameters :=
  match c with
  | .rampRate => { p with ramp := clampNat 1 table.ramp v }
  | .minLoad => { p with minLoad := min p.rating (max table.minLoad v) }
  | .rating =>
    let n := clampNat 1 table.rating v
    { p with rating := n, minLoad := min p.minLoad n }
  | .maxBias => { p with biasLimit := min table.biasLimit v }

/-- An ACK page that echoes a page. Its more and ack flags are not stated (log entry 8). -/
def State.sendAck (s : State) (g : Nat) (toggle : Bool) (c : AbilityCode) (v : Nat) : State :=
  s.draw.sendPage g ⟨toggle, bitOf s.drawn 0, bitOf s.drawn 1, .ack c v⟩

/-- A BASE page taken in AWAIT_BASE (R150). -/
def State.takeBase (s : State) (g : Nat) (f : Page) (set : Abilities) : State :=
  if !f.ack then s.sendPage g (s.basePage g)
  else
    let t := s.modGen g (fun r =>
      { r with exchange := { r.exchange with
          controllerSet := set, state := .receiving, expected := false, lastApplied := none } })
    if f.more then t else t.exchangeDone g

/-- A NEXT page taken in RECEIVING (R150). -/
def State.takeNext (s : State) (g : Nat) (f : Page) (c : AbilityCode) (v : Nat) : State :=
  let x := (s.gen g).exchange
  if f.toggle == x.expected then
    let t := s.modGen g (fun r =>
      { r with
        params := r.params.apply (tableParameters s.mgmt.tables g) c v
        exchange := { r.exchange with expected := !r.exchange.expected, lastApplied := some f.toggle } })
    let u := t.sendAck g f.toggle c v
    if f.more then u else u.exchangeDone g
  else if x.lastApplied == some f.toggle then s.sendAck g f.toggle c v
  else s

/-- The generator whose controller sends from an address (R149). -/
def State.matchGen (s : State) (src : Nat) : Option Nat :=
  (List.range 8).find? (fun g => s.genConfigured g && s.fld .generator g 2 == src)

/-- The exchange runs: its gap timer steps (R150). -/
def ExchangeState.running : ExchangeState → Bool
  | .awaitBase | .receiving => true
  | _ => false

/-- An ABILITY frame handed to the unit (R150). -/
def State.takePage (h : Header) (f : Page) (s : State) : State :=
  match s.matchGen h.src with
  | none => s
  | some g =>
    let x := (s.gen g).exchange.state
    if !x.running then s
    else
      let t := s.modGen g (fun r => { r with exchange := { r.exchange with gap := 0 } })
      match x, f.body with
      | .awaitBase, .base set => t.takeBase g f set
      | .receiving, .next c v => t.takeNext g f c v
      | _, _ => t

/-- The gap timer reaches 720 (R150). -/
def State.gapExpiry (s : State) (g : Nat) : State :=
  let x := (s.gen g).exchange
  if x.state.running && Config.gapInstants ≤ x.gap then s.exchangeUndeclared g else s

/-! ### GENSTATUS (R149, R152, R167) -/

/-- A status in conflict with the common set (R152). -/
def GenRec.inConflict (r : GenRec) : Bool :=
  (r.status.biasMode && !r.common.biasControl) || (r.status.loadMode && !r.common.loadControl)

/-- The conflict test after an ended exchange. -/
def State.testConflict (s : State) (g : Nat) : State :=
  let r := s.gen g
  if !r.exchangeEnded || !r.inConflict then s
  else
    let t := s.event .generator 11 g 5 none
    match r.state with
    | .online => t.modGen g (fun r => { r with deferred := true })
    | .fault => t
    | _ => t.genEnter g .fault

/-- A generator in STOPPING whose engine has stopped and whose breaker is OPEN enters STANDBY (R167). -/
def State.testStopped (s : State) (g : Nat) : State :=
  if (s.gen g).state == .stopping && !(s.gen g).status.running && s.genPosition g == .opened then
    s.genEnter g .standby
  else s

/-- A GENSTATUS frame handed to the unit (R149). -/
def State.takeGenStatus (h : Header) (f : GenStatus) (s : State) : State :=
  match s.matchGen h.src with
  | none => s
  | some g =>
    let t := s.modGen g (fun r => { r with absentTimer := 0, absentTaken := false, status := f })
    let u := if (t.gen g).state == .absent then (t.renegotiate g) else t
    let x := (u.gen g).state
    let v := if f.fault && x != .absent && x != .negotiating && x != .fault then u.genEnter g .fault else u
    (v.testConflict g).testStopped g

/-- The ABSENT timer reaches 2880 (R149). -/
def State.absentExpiry (s : State) (g : Nat) : State :=
  let r := s.gen g
  if Config.absentInstants ≤ r.absentTimer && !r.absentTaken && s.genConfigured g then
    let t := s.modGen g (fun r => { r with absentTaken := true })
    if r.state == .fault then t.event .generator 9 g 2 none else t.genEnter g .absent
  else s

/-! ### The bus and close attempts (R157 to R160) -/

inductive BusState where
  | dead
  | live
  | neither
  deriving DecidableEq, Repr, Inhabited

/-- The bus of generator `g` by its bus stream and its SYNC entry (R157). -/
def State.busState (s : State) (g : Nat) : BusState :=
  let ps := [0, 1, 2].map (s.phasor (s.fld .generator g 5))
  if !ps.all (·.valid) then .neither
  else if ps.all (fun p => p.magnitude < s.fld .sync g 6) then .dead
  else if ps.all (fun p => s.fld .sync g 5 ≤ p.magnitude) then .live
  else .neither

/-- A generator's close waits in the slot of its breaker. -/
def State.closeQueued (s : State) (g : Nat) : Bool :=
  (s.brk (s.genBreaker g)).slot.any (fun c =>
    c.action == .closing && c.phase == .queued && c.requester == .party (.generator g))

/-- The close that waits is a DEAD close (R159). -/
def State.deadQueued (s : State) (g : Nat) : Bool :=
  s.closeQueued g && (s.brk (s.genBreaker g)).slot.any (fun c => c.closeKind == .dead)

/-- A CLOSE request of a generator. -/
def State.genClose (s : State) (g : Nat) (k : CloseKind) : State × Answer :=
  s.closeRequest (s.genBreaker g) k (.party (.generator g)) { paralleling := true } (some g)

/-- The DEAD close of a generator (R159). -/
def State.deadClose (s : State) (g : Nat) : State :=
  let r := s.genClose g .dead
  match r.2 with
  | .taken _ => ((r.1.modGen g (fun x => { x with deadTimer := 0 })).genEnter g .closing).post (.genDeadCheck g)
  | .already => r.1.genEnter g .online
  | .refused y =>
    if y.uncounted then (r.1.leaveToken (.generator g)).genRetry g
    else (r.1.leaveToken (.generator g)).deadFailure g
  | _ => (r.1.leaveToken (.generator g)).genRetry g

/-! ### Sync runs (R160 to R163) -/

/-- The biases of a correction for generator `g` from a run's streams; without BIAS_CONTROL in its common set the generator
receives biases of 0 (R162). -/
def State.writeBiases (s : State) (r : SyncRun) (g : Nat) : State :=
  let mg := (s.phasor r.gStream 0).magnitude
  let mb := (s.phasor r.bStream 0).magnitude
  let slip := slipBetween (s.measure r.gStream).tracker (s.measure r.bStream).tracker
  let target := (s.sfld .sync r.entry 2 + s.sfld .sync r.entry 3) / 2
  let speed := clampInt (truncDiv (s.fld .sync r.entry 9 * (target - slip)) 16) (s.gen g).params.biasLimit
  let voltage := clampInt (truncDiv (s.fld .sync r.entry 10 * ((mb : Int) - mg)) 256) (s.fld .generator g 10)
  s.modGen g (fun x =>
    { x with
      speedBias := if x.common.biasControl then speed else 0
      voltageBias := if x.common.biasControl then voltage else 0 })

/-- The generators that a run's corrections reach: its own, or every ONLINE one for channel 0 (R162). -/
def State.biased (s : State) (r : SyncRun) : List Nat :=
  match r.client with
  | .generator g => [g]
  | .sequencer => (List.range 8).filter (fun g => (s.gen g).state == .online)

/-- The generators that are no longer biased by the run that wrote them last: they leave the list of every channel. -/
def State.disown (s : State) (gs : List Nat) : State :=
  s.modPar (fun p =>
    { p with
      channels := p.channels.map (fun x =>
        x.map (fun r => { r with wrote := r.wrote.filter (fun g => !gs.contains g) })) })

/-- The corrections of the run on channel `c`. The biases that the run wrote, and clears as it ends, are those of the
generators with BIAS_CONTROL. They stand as this run's own: another run that biased such a generator before wrote none of
them, and does not clear them as it ends (R162). -/
def State.correct (s : State) (c : Nat) : State :=
  match s.channel c with
  | none => s
  | some r =>
    let gs := s.biased r
    let own := gs.filter (fun g => (s.gen g).common.biasControl)
    ((s.forEach gs (fun g t => t.writeBiases r g)).disown own).setChannel c
      (some { r with wrote := r.wrote ++ own.filter (fun g => !r.wrote.contains g) })

/-- A run starts on a channel, or the one in progress starts again; its first corrections go out (R161). -/
def State.startRun (s : State) (c : Nat) (client : Party) (b g bus entry : Nat) : State :=
  let wrote := (s.channel c).elim [] (·.wrote)
  (s.noting (s.setChannel c (some { client := client, breaker := b, gStream := g, bStream := bus, entry := entry,
                                    wrote := wrote }))).correct c

/-- A free channel among 1 to 3 (R160). -/
def State.freeChannel (s : State) : Option Nat :=
  [1, 2, 3].find? (fun c => (s.channel c).isNone && c < s.par.channels.length)

/-- A generator takes channel `c` and requests its SYNC close (R160). -/
def State.takeChannel (s : State) (g c : Nat) : State :=
  let r := (s.genEnter g .syncing).genClose g .sync
  match r.2 with
  | .taken _ =>
    r.1.startRun c (.generator g) (s.genBreaker g) (s.fld .generator g 4) (s.fld .generator g 5) g
  | .already => (r.1.genEnter g .online).post .channelFree
  | .refused y => (if y.uncounted then r.1.genRetry g else r.1.closeFailure g).post .channelFree
  | _ => (r.1.genRetry g).post .channelFree

/-- The wait list is served while a channel is free: each head leaves it, and takes the channel if it is still READY on a
live bus; those that are not are passed over (R160). -/
def State.serveWaiting : Nat → State → State
  | 0, s => s
  | fuel + 1, s =>
    match s.freeChannel, s.par.waitList with
    | some c, g :: rest =>
      let t := s.modPar (fun p => { p with waitList := rest })
      State.serveWaiting fuel (if (t.gen g).state == .ready && t.busState g == .live then t.takeChannel g c else t)
    | _, _ => s

/-- A generator seeks a channel: it takes the lowest free one or joins the wait list. A channel that has become free
belongs to those that wait already, so they are served first (R160). Where the generator is one of them and its own turn
comes, that is its attempt, whatever the answer: it does not seek a second time. -/
def State.seekChannel (s : State) (g : Nat) : State :=
  let t := State.serveWaiting 8 s
  if (t.gen g).state != .ready || (s.par.waitList.contains g && !t.par.waitList.contains g) then t
  else
    match t.freeChannel with
    | some c => t.takeChannel g c
    | none =>
      if t.par.waitList.contains g then t else t.modPar (fun p => { p with waitList := p.waitList ++ [g] })

/-- A generator in CLAIMING asks for the token (R158). -/
def State.claimToken (s : State) (g : Nat) : State :=
  if (s.gen g).state == .claiming then s.requestToken (.generator g) else s

/-- The close attempt of a READY generator (R157). With an unguarded breaker it stays READY until its DEAD close is TAKEN,
so that a request refused or answered BUSY records no passage through CLOSING (DESIGN CHOICE, log entry 24). -/
def State.closeAttempt (s : State) (g : Nat) : State :=
  let r := s.gen g
  if r.state != .ready || r.retryTimer != 0 || s.lines.lockout || s.lines.tripLatch ||
      s.genPosition g != .opened then s
  else
    match s.busState g with
    | .dead =>
      if s.guarded (s.genBreaker g) then (s.genEnter g .claiming).claimToken g else s.deadClose g
    | .live => s.seekChannel g
    | .neither => s

/-- The dead check of a queued DEAD close (R159). -/
def State.deadCheck (s : State) (g : Nat) : State :=
  if (s.gen g).state != .closing || !s.deadQueued g then s
  else
    match s.busState g with
    | .dead => s.post (.release (s.genBreaker g))
    | .live => (s.genEnter g .ready).seekChannel g
    | .neither => s

/-- The dead check has not passed within its time (R159). -/
def State.deadCheckExpiry (s : State) (g : Nat) : State :=
  if (s.gen g).state == .closing && s.deadQueued g && Config.deadCheckInstants ≤ (s.gen g).deadTimer then
    (s.withdrawClose (s.genBreaker g) (.generator g)).deadFailure g
  else s

/-- The retry timer has reached 0 (R157). -/
def State.retryExpiry (s : State) (g : Nat) : State :=
  if (s.gen g).retryDue then (s.modGen g (fun r => { r with retryDue := false })).closeAttempt g else s

/-- A run aborts: its client is returned or told (R163). -/
def State.abortRun (s : State) (c : Nat) : State :=
  match s.channel c with
  | none => s
  | some r =>
    match r.client with
    | .generator g => if (s.gen g).state.attempting then s.genRetry g else (s.abortEvent c).endRun c
    | .sequencer => ((s.abortEvent c).endRun c).post .seqSyncAborted

/-- The validity of a run's inputs (R161). -/
def State.runValid (s : State) (r : SyncRun) : Bool :=
  [r.gStream, r.bStream].all (fun k => (s.phasor k 0).valid && (s.measure k).tracker.valid)

/-- The window of R161. -/
def State.windowHolds (s : State) (r : SyncRun) (theta slip : Int) : Bool :=
  let mg := (s.phasor r.gStream 0).magnitude
  let mb := (s.phasor r.bStream 0).magnitude
  s.fld .sync r.entry 5 ≤ mg && s.fld .sync r.entry 5 ≤ mb && theta.natAbs ≤ s.fld .sync r.entry 1 &&
    s.sfld .sync r.entry 2 ≤ slip && slip ≤ s.sfld .sync r.entry 3 &&
    ((mg : Int) - mb).natAbs ≤ s.fld .sync r.entry 4

/-- The evaluation of the run on channel `c` at a closure (R161). At a release SYNC_RELEASED is recorded before the GEN_STATE of
the generator that enters CLOSING, and both before the COMMAND_ENDED of a release that is refused (DESIGN CHOICE, log entry
24). -/
def State.evaluateRun (c : Nat) (s : State) : State :=
  match s.channel c with
  | none => s
  | some r =>
    if r.phase != .running then s
    else if !s.runValid r then s.abortRun c
    else
      let theta := angleBetween (s.phasor r.gStream 0) (s.phasor r.bStream 0)
      let slip := slipBetween (s.measure r.gStream).tracker (s.measure r.bStream).tracker
      let advance := roundDiv (3 * slip * s.fld .breaker r.breaker 7) (4 * s.aligner.nominal)
      let holds := s.windowHolds r theta slip
      let count := if holds then r.qualify + 1 else 0
      let ready := holds && (r.ready || s.fld .sync r.entry 7 ≤ count)
      let release := ready && 0 ≤ theta + advance && theta + advance ≤ s.fld .sync r.entry 8
      let t := s.setChannel c (some { r with
        qualify := count, ready := ready, theta := some theta, slip := some slip, advance := some advance
        phase := if release then .released else .running })
      if release then
        let u := (t.post (.release r.breaker)).event .generator 8 c 7 (some (unsignedOf 32 theta))
        match r.client with
        | .generator g => u.genEnter g .closing
        | .sequencer => u
      else t

/-- The correction timer of a run reaches its interval (R162). -/
def State.correctionExpiry (s : State) (c : Nat) : State :=
  match s.channel c with
  | none => s
  | some r =>
    if r.phase != .running || r.timer < s.correctionInterval r.entry then s
    else
      let t := s.setChannel c (some { r with timer := 0 })
      if r.ready then t else t.correct c

/-! ### Outcomes and positions (R159, R164, R166, R167) -/

/-- The outcome of a generator's close: DONE brings it ONLINE, and a close onto a dead bus does not soft load
(R159, R164, R165). A SYNC release refused without counting sets the retry timer too (DESIGN CHOICE, log entry 24). -/
def State.closeOutcome (s : State) (g : Nat) (k : CloseKind) (o : Outcome) : State :=
  match o with
  | .withdrawn => s
  | .done =>
    let t := s.genEnter g .online
    if k == .dead then t.modGen g (fun r => { r with soft := false }) else t
  | .refused y => if k == .sync && y.uncounted then s.genRetry g else failure
  | _ => failure
where
  failure : State := if k == .dead then s.deadFailure g else s.closeFailure g

/-- An outcome returned to the unit (R109). One that finds no generator waiting for it has no effect. -/
def State.genOutcome (s : State) (g b : Nat) (a : Action) (k : CloseKind) (o : Outcome) : State :=
  let r := s.gen g
  if s.genBreaker g != b then s
  else
    match a with
    | .closing => if r.state == .syncing || r.state == .closing then s.closeOutcome g k o else s
    | .opening =>
      if r.state == .unloading && r.unloadAsked then s.genEnter g (if o == .done then .stopping else .fault)
      else s

/-- A generator finds its breaker CLOSED (R164). -/
def State.genFoundClosed (s : State) (g : Nat) : State :=
  match (s.gen g).state with
  | .fault => (s.genOpen g).1
  | .stopping => (s.genOpen g).1
  | .standby => s.genEnter g .stopping
  | .starting => taken
  | .ready => taken
  | .claiming => taken
  | .syncing => taken
  | .closing => if s.closeQueued g then taken else s
  | _ => s
where
  taken : State := s.genEnter g (if (s.gen g).status.running then .online else .stopping)

/-- A generator's breaker leaves CLOSED (R167). -/
def State.genLeftClosed (s : State) (g : Nat) (own tripped : Bool) : State :=
  let r := s.gen g
  if r.state.loaded then
    if r.state == .unloading && r.unloadAsked && own then s.genEnter g .stopping
    else s.genEnter g (if tripped then .fault else .stopping)
  else s

/-- A change of position handed to the unit (R151, R164, R167). A change to OPEN takes a generator on to STANDBY where it was
in STOPPING before the change; one that the change itself takes from ONLINE or UNLOADING to STOPPING stays there, though its
engine may have stopped already, until the next GENSTATUS or change of position (DESIGN CHOICE, log entry 24). -/
def State.genMoved (s : State) (b : Nat) (old new : Position) (own tripped : Bool) : State :=
  match s.genOf b with
  | none => s
  | some g =>
    if (s.gen g).state == .negotiating then s.afterExchange g
    else if (s.gen g).state == .stopping && new == .opened then s.testStopped g
    else if new == .closed then s.genFoundClosed g
    else if old == .closed then s.genLeftClosed g own tripped
    else s

/-! ### Demand (R154, R155) -/

def State.countGens (s : State) (t : GenState → Bool) : Nat :=
  ((List.range 8).filter (fun g => t (s.gen g).state)).length

def State.onlineCount (s : State) : Nat := s.countGens (· == .online)
def State.loadedCount (s : State) : Nat := s.countGens GenState.loaded

/-- STARTING, READY, CLAIMING, SYNCING or CLOSING (R155). -/
def GenState.pending : GenState → Bool
  | .starting | .ready | .claiming | .syncing | .closing => true
  | _ => false

def State.pendingCount (s : State) : Nat := s.countGens GenState.pending

/-- Write the demand count; an evaluation follows. -/
def State.writeDemand (s : State) (n : Nat) : State := s.modPar (fun p => { p with demand := n, demandDue := true })

/-- The last generator with a property: of the start-order list, else the one with the highest number. -/
def State.lastGen (s : State) (t : GenState → Bool) : Option Nat :=
  match (s.startOrder.filter (fun g => t (s.gen g).state)).getLast? with
  | some g => some g
  | none => (s.unlisted.filter (fun g => t (s.gen g).state)).getLast?

/-- The first generator of the start-order list that may start (R155). -/
def State.startGen? (s : State) : Option Nat :=
  s.startOrder.find? (fun g =>
    (s.gen g).state == .standby && (s.gen g).common.remoteStart && !s.lines.tripLatch)

/-- STARTING, READY, CLAIMING or SYNCING (R155). -/
def GenState.surplus : GenState → Bool
  | .starting | .ready | .claiming | .syncing => true
  | _ => false

def State.startLoop : Nat → State → State
  | 0, s => s
  | fuel + 1, s =>
    if s.onlineCount + s.pendingCount < s.par.demand then
      match s.startGen? with
      | some g => State.startLoop fuel (s.genEnter g .starting)
      | none => s
    else s

def State.unloadLoop : Nat → State → State
  | 0, s => s
  | fuel + 1, s =>
    if s.par.demand < s.onlineCount then
      match s.lastGen (· == .online) with
      | some g => State.unloadLoop fuel (s.enterUnloading g)
      | none => s
    else s

def State.surplusLoop : Nat → State → State
  | 0, s => s
  | fuel + 1, s =>
    if s.par.demand < s.onlineCount + s.pendingCount then
      match s.lastGen GenState.surplus with
      | some g => State.surplusLoop fuel (s.genEnter g .stopping)
      | none => s
    else s

/-- The evaluation of demand (R155), when one is due. -/
def State.evaluateDemand (s : State) : State :=
  if s.par.demandDue then
    State.surplusLoop 8 (State.unloadLoop 8 (State.startLoop 8 (s.modPar (fun p => { p with demandDue := false }))))
  else s

/-- The start timer reaches the start timeout (R156). -/
def State.startExpiry (s : State) (g : Nat) : State :=
  if (s.gen g).state == .starting && s.fld .generator g 13 ≤ (s.gen g).startTimer then s.genEnter g .fault else s

/-! ### Load sharing (R165, R166) -/

/-- Whole seconds of a timer. -/
def State.wholeSeconds (s : State) (n : Nat) : Nat := n / s.perSecond

/-- The share of generator `g`. -/
def State.share (s : State) (g : Nat) (load : Int) (ratings : Nat) : Nat :=
  let p := (s.gen g).params
  clampNat p.minLoad p.rating ((load * p.rating) / ratings).toNat

/-- The load target of an ONLINE generator, and the end of its soft loading, which comes at the first expiry at which the ramp
has reached the share whatever its common set (R165). -/
def State.shareLoad (s : State) (load : Int) (ratings g : Nat) : State :=
  let r := s.gen g
  let share := s.share g load ratings
  let ramped := r.params.ramp * s.wholeSeconds r.onlineTimer
  s.modGen g (fun r =>
    { r with
      target := if !r.common.loadControl then 0 else if r.common.softLoad && r.soft then min share ramped else share
      baseLoaded := !r.common.loadControl
      soft := r.soft && decide (ramped < share) })

/-- The load target of an UNLOADING generator (R166). -/
def State.shedLoad (s : State) (g : Nat) : State :=
  let r := s.gen g
  if r.state != .unloading || !r.common.ramped then s
  else
    let target := max r.params.minLoad (r.unloadFrom - r.params.ramp * s.wholeSeconds r.unloadTimer)
    let t := s.modGen g (fun r => { r with target := target })
    if target == r.params.minLoad && !r.unloadAsked then t.unloadOpen g else t

/-- The load-sharing expiry. -/
def State.loadShare (s : State) : State :=
  if s.par.shareTimer < s.correctionInterval 8 then s
  else
    let t := s.modPar (fun p => { p with shareTimer := 0 })
    let online := (List.range 8).filter (fun g => (t.gen g).state == .online)
    let load := (online.map (fun g => (t.gen g).status.kw)).sum
    let ratings := (online.map (fun g => (t.gen g).params.rating)).sum
    let u := if ratings == 0 then t else t.forEach online (fun g v => v.shareLoad load ratings g)
    u.forEach (List.range 8) (fun g v => v.shedLoad g)

/-! ### Closure work, lockout, station trip and restart (R156, R157, R168, R189) -/

/-- A generator that is not at rated returns to STARTING, but not while STATION_TRIP_LATCHED is 1, when no generator
enters STARTING (R168): it then stays as it is. One that leaves SYNCING for STARTING aborts its run and keeps its retry
timer as it is, since it does not return to READY as R163 has it (DESIGN CHOICE, log entry 24). -/
def State.loseRated (s : State) (g : Nat) : State := if s.lines.tripLatch then s else s.genEnter g .starting

/-- The at-rated test of a generator at a closure (R156). -/
def State.ratedTest (g : Nat) (s : State) : State :=
  if !s.genConfigured g then s
  else
    match (s.gen g).state with
    | .starting => if s.atRated g then s.genEnter g .ready else s
    | .ready => if s.atRated g then s else s.loseRated g
    | .claiming => if s.atRated g then s else s.loseRated g
    | .syncing => if s.atRated g then s else s.loseRated g
    | _ => s

/-- The unit's work after the phasor work of a closure: at-rated tests, by rising generator number (DESIGN CHOICE, log
entry 5); attempts and dead checks by start order and then by number, so that channels are sought in that order (R160); sync
runs, and the grant of the token at its end (R156 to R161). -/
def State.parallelingWork (s : State) : State :=
  let t := s.forEach (List.range 8) State.ratedTest
  let u := t.forEach t.genOrder (fun g v => (v.closeAttempt g).deadCheck g)
  (u.forEach (List.range 4) State.evaluateRun).post .tokenGrant

/-- LOCKOUT rising to 1 sends every generator in CLAIMING or SYNCING back to READY (R157). The run of one in SYNCING
aborts, so its retry timer is at the correction interval (R163). They go by rising number (DESIGN CHOICE, log entry 5). -/
def State.lockoutGens (s : State) : State :=
  s.forEach (List.range 8) (fun g t =>
    match (t.gen g).state with
    | .claiming => t.genEnter g .ready
    | .syncing => t.genRetry g
    | _ => t)

/-- The states that a station trip moves to STOPPING (R168). -/
def GenState.tripStops : GenState → Bool
  | .standby | .starting | .ready | .claiming | .syncing | .closing | .online | .unloading => true
  | _ => false

/-- A station trip in the paralleling unit (R168). The generators move, and record their GEN_STATE, by rising number (DESIGN
CHOICE, log entry 5). -/
def State.stationTripGens (s : State) : State :=
  let t := (s.writeDemand 0).forEach (List.range 4) (fun c u =>
    if (u.channel c).any (fun r => r.phase == .running) then u.abortRun c else u)
  t.forEach (List.range 8) (fun g u => if (u.gen g).state.tripStops then u.genEnter g .stopping else u)

/-- A generator at RESTART or at the activation of its changed entry (R148, R189). Its deferred mark is cleared with the
rest of its record, so it does not renegotiate. -/
def State.resetGen (g : Nat) (s : State) : State :=
  (s.genMove g .absent).modGen g (fun _ => powerOnGen s.mgmt.tables g)

/-- The paralleling unit at RESTART. A channel 0 run, and a token or a token request of the sequencer, are dropped with the
rest: no SYNC_ABORTED is recorded and the sequencer is not told, so that its step waits on (DESIGN CHOICE, log entry 18).
The generators become ABSENT by rising number (DESIGN CHOICE, log entry 5). -/
def State.restartParalleling (s : State) : State :=
  (s.forEach (List.range 8) State.resetGen).modPar (fun p =>
    { p with
      token := none, tokenList := [], channels := List.replicate 4 none, waitList := [], shareTimer := 0 })

/-- A GENERATOR activation, the table being already the new one (R148), by rising number (DESIGN CHOICE, log entry 5). -/
def State.activateGens (s : State) (changed : List Nat) : State := s.forEach changed State.resetGen

/-! ### Timers at an advance of the counter -/

/-- A generator record at an advance. No rule gives the ONLINE timer a width or an end: it counts without bound while the
generator is ONLINE, and so do the others, but for the ABSENT and the retry timer, until their event is taken (DESIGN CHOICE,
log entry 21). -/
def GenRec.advance (r : GenRec) (deadQueued : Bool) : GenRec :=
  { r with
    absentTimer := min (r.absentTimer + 1) Config.absentInstants
    exchange := if r.exchange.state.running then { r.exchange with gap := r.exchange.gap + 1 } else r.exchange
    startTimer := if r.state == .starting then r.startTimer + 1 else r.startTimer
    retryTimer := r.retryTimer - 1
    retryDue := r.retryDue || r.retryTimer == 1
    onlineTimer := if r.state == .online then r.onlineTimer + 1 else r.onlineTimer
    unloadTimer := if r.state == .unloading then r.unloadTimer + 1 else r.unloadTimer
    deadTimer := if r.state == .closing && deadQueued then r.deadTimer + 1 else r.deadTimer
    refreshTimer := if r.state == .absent then r.refreshTimer else r.refreshTimer + 1 }

/-- The unit's timers at an advance. -/
def State.advanceGens (s : State) : State :=
  (s.forEach ((List.range 8).filter s.genConfigured) (fun g t =>
    t.modGen g (fun r => r.advance (s.deadQueued g)))).modPar (fun p =>
      { p with
        shareTimer := p.shareTimer + 1
        channels := p.channels.map (fun c =>
          c.map (fun r => if r.phase == .running then { r with timer := r.timer + 1 } else r)) })

/-- 2880 instants have passed since the last GENSET was built (R153). -/
def State.refresh (s : State) (g : Nat) : State :=
  if Config.absentInstants ≤ (s.gen g).refreshTimer then s.buildGenset g else s

end Sys2Proof.Machine
end

