-- ==== Sys2Proof/Machine/Sequencer.lean ====
section
/-! DEFINITION. The changeover sequencer (R119 to R143): sources, line-ups, plans and their steps, auto-rules and
the pending slot, lockout and station trip. -/

namespace Sys2Proof.Machine

/-! ### Line-ups (R123, R124) -/

/-- A pair of a line-up matches (R124). -/
def State.pairMatches (s : State) (v : Nat) : Bool :=
  (s.brk (v % 256)).position == (if v / 256 == 1 then .closed else .opened)

/-- Every pair of a line-up matches the confirmed positions. -/
def State.lineupMatches (s : State) (k : Nat) : Bool :=
  ((idRun 2 (s.fld .lineup k 1)).map (s.fld .lineup k)).all s.pairMatches

/-- The current line-up, found anew. -/
def State.findLineup (s : State) : Lineup :=
  if (watchedBreakers s.mgmt.tables).any (fun b => (s.brk b).position == .unknown) then .unknown
  else
    match (List.range 8).find? (fun k => s.fld .lineup k 1 != 0 && s.lineupMatches k) with
    | some k => .is k
    | none => .none

/-- The value of a line-up in a LINEUP_CHANGED event. -/
def Lineup.code : Lineup → Nat
  | .is k => k
  | .none => 8
  | .unknown => 9

/-- The line-up is found anew, its points are set and a change is recorded. -/
def State.refreshLineup (s : State) : State :=
  let new := s.findLineup
  let t := s.noting (s.modSeq (fun q => { q with lineup := new, lineupDue := false }))
  if new == s.seq.lineup then t else t.event .transfer 5 0 2 (some new.code)

/-! ### States (R125, R134, R137, R139) -/

/-- The pending slot is emptied; a request that it held is recorded (R137). -/
def State.emptySlot (s : State) : State :=
  match s.seq.slot with
  | none => s
  | some a => (s.modSeq (fun q => { q with slot := none })).event .transfer 7 a.rule 10 none

/-- The sequencer takes a state, and its points follow (R83). -/
def State.setSeqState (s : State) (x : SeqState) : State := s.noting (s.modSeq (fun q => { q with state := x }))

def HaltReason.code : HaltReason → Nat
  | .stationTrip => 1
  | .stepFailed => 2
  | .abortFailed => 3
  | .abortNotApplicable => 4
  | .abortCompleted => 5

/-- Entry into HALTED (R134). -/
def State.halt (s : State) (y : HaltReason) : State :=
  ((s.setSeqState (.halted y)).emptySlot).event .transfer 13 (s.seq.lastPlan.getD Config.noneField) 7
    (some y.code)

/-- Entry into LOCKED_OUT (R139). -/
def State.lockOut (s : State) : State :=
  ((s.setSeqState .lockedOut).emptySlot).event .transfer 9 0 13 none

/-- The state that the current line-up gives, or LOCKED_OUT while LOCKOUT is 1 (R125, R139). -/
def State.goLineup (s : State) : State :=
  if s.lines.lockout then s.lockOut
  else
    match s.seq.lineup with
    | .unknown => s.setSeqState .init
    | .none => s.setSeqState .noLineup
    | .is k => if s.seq.state == .idle k then s else (s.setSeqState (.idle k)).post (.idleEntered k)

/-- INIT, IDLE and NO_LINEUP follow the line-up (R125). -/
def SeqState.follows : SeqState → Bool
  | .init | .idle _ | .noLineup => true
  | _ => false

/-- The line-up is found anew and the sequencer follows it (R124, R125). -/
def State.followLineup (s : State) : State :=
  let t := s.refreshLineup
  if t.seq.state.follows then t.goLineup else t

/-! ### Plans (R126, R127) -/

def State.planDefined (s : State) (p : Nat) : Bool := s.fld .plan p 5 != 0

/-- The from line-up of a plan is ANY or the current line-up. -/
def State.planFrom (s : State) (p : Nat) : Bool :=
  s.fld .plan p 1 == 8 || s.seq.lineup == .is (s.fld .plan p 1)

/-- A step field: place 0 is the kind, 1 to 3 the arguments A to C, 4 the timeout (R126). -/
def State.stepField (s : State) (p i place : Nat) : Nat := s.fld .plan p (16 + 8 * i + place)

/-- The value of a PLAN_STARTED event (R127). -/
def Cause.value : Cause → Nat
  | .operator => 0
  | .auto r => 1 + 256 * r
  | .abort p => 2 + 256 * p

/-- A plan starts: its run record is built and step 0 begins (R127). -/
def State.startPlan (s : State) (p : Nat) (c : Cause) : State :=
  let t := (s.modSeq (fun q => { q with lastPlan := some p })).setSeqState (.running { plan := p, cause := c })
  (t.event .transfer 10 p 3 (some c.value)).post .seqBegin

def State.modRun (s : State) (f : PlanRun → PlanRun) : State :=
  s.modSeq (fun q =>
    { q with state := (match q.state with | .running r => .running (f r) | x => x) })

def State.setWait (s : State) (w : StepWait) : State := s.modRun (fun r => { r with wait := w })

/-- The breaker of a step that commands one. -/
def State.stepBreaker (s : State) (r : PlanRun) : Nat := s.stepField r.plan r.step 1

/-- The running step ends its own requests: its channel 0 run, its queued close and its token, in this order, which R135 leaves
open. The token goes back at the plan's end even where the DEAD close has been issued and has yet to conclude (DESIGN CHOICE
both, log entry 22). -/
def State.endStep (s : State) (r : PlanRun) : State :=
  let t := s.leaveRun .sequencer
  let u := if [2, 3, 4].contains (s.stepField r.plan r.step 0) then t.withdrawClose (s.stepBreaker r) .sequencer
    else t
  u.leaveToken .sequencer

/-- PARALLEL_LIMIT is asked for the departing breaker and recorded (R133, R135). -/
def State.raiseLimit (s : State) (r : PlanRun) : State :=
  match r.departing with
  | none => s
  | some b => (s.askAdd b .parallelLimit).event .transfer 14 b 5 none

/-- A plan ends (R135); its run record stands until the caller gives the sequencer its next state. -/
def State.endRunRecord (s : State) (r : PlanRun) : State :=
  let t := s.endStep r
  let u := if r.parallel.isSome && !r.limitRaised then t.raiseLimit r else t
  u.modRun (fun r => { r with parallel := none, wait := .nothing })

/-- The line-up is current at the end of a plan (log entry 13). -/
def State.currentLineup (s : State) : State := if s.seq.lineupDue then s.refreshLineup else s

/-- A plan fails: where the sequencer goes (R134). -/
def State.failPlan (s : State) (r : PlanRun) : State :=
  let t := (s.endRunRecord r).currentLineup
  let abort := t.fld .plan r.plan 3
  if r.stopMark then t.goLineup
  else
    match r.cause with
    | .abort _ => t.halt .abortFailed
    | _ =>
      if abort == Config.noneField || !t.planDefined abort then t.halt .stepFailed
      else if !t.planFrom abort then t.halt .abortNotApplicable
      else t.startPlan abort (.abort r.plan)

/-- A step fails with a failure code and a reason code (R128). -/
def State.failStep (s : State) (code reason : Nat) : State :=
  match s.run? with
  | none => s
  | some r =>
    let value := r.step + 256 * code + 65536 * reason
    let t := (s.modSeq (fun q => { q with lastStepFailed := some value })).event .transfer 12 r.plan 4 (some value)
    t.failPlan r

/-- A plan that is stopped by the lockout mark (R139), with PLAN_STOPPED and the step index of the run record. A last step ends
its plan here too, without a test of the to line-up (DESIGN CHOICE, log entry 22). -/
def State.stopPlan (s : State) : State :=
  match s.run? with
  | none => s
  | some r => (((s.event .transfer 11 r.plan 12 (some r.step)).endRunRecord r).currentLineup).goLineup

/-- A plan has completed its last step (R134). -/
def State.finishPlan (s : State) : State :=
  match s.run? with
  | none => s
  | some r =>
    let goal := s.fld .plan r.plan 2
    if r.stopMark then s.stopPlan
    else if goal == 8 || s.lineupMatches goal then
      let t := ((s.event .transfer 8 r.plan 6 none).endRunRecord r).currentLineup
      match r.cause with
      | .abort _ => t.halt .abortCompleted
      | _ => t.goLineup
    else s.failStep 9 0

/-- The step of the run completes and the next begins, or the plan ends (R128, R133, R139). A step that ends its plan under the
stop mark leaves the index at itself, which PLAN_STOPPED carries (DESIGN CHOICE, log entry 22). -/
def State.completeStep (s : State) : State :=
  match s.run? with
  | none => s
  | some r =>
    let ended := s.stepField r.plan r.step 0 == 10
    let t := if ended then s.modRun (fun r => { r with parallel := none }) else s
    if r.stopMark && (ended || r.parallel.isNone) then t.stopPlan
    else (t.modRun (fun r => { r with step := r.step + 1, wait := .nothing })).post .seqBegin

/-! ### Steps (R129 to R133) -/

/-- The failure code and reason code of an outcome other than DONE (R128). -/
def Outcome.failure : Outcome → Nat × Nat
  | .superseded => (1, 0)
  | .refused y => (2, y.code)
  | .noResponse => (3, 0)
  | .failed => (4, 0)
  | _ => (0, 0)

def changeover : Origins := { changeover := true }

/-- An OPEN step (R129). -/
def State.stepOpen (s : State) (b : Nat) : State :=
  let r := s.openRequest b changeover none
  match r.2 with
  | .done => r.1.post .seqComplete
  | .refused y => r.1.post (.seqFail 2 y.code)
  | _ => r.1.setWait .command

/-- The answer to a CLOSE of a step; `go` follows a TAKEN close (R129 to R131). A step that ALREADY completes gives
back the token it holds (R131); a step that fails does so as its plan ends (R135). -/
def State.stepClose (s : State) (b : Nat) (k : CloseKind) (go : State → State) : State :=
  let r := s.closeRequest b k (.party .sequencer) changeover none
  match r.2 with
  | .already => (r.1.leaveToken .sequencer).post .seqComplete
  | .busy => r.1.post (.seqFail 6 0)
  | .refused y => r.1.post (.seqFail 2 y.code)
  | _ => go r.1

/-- The sync run of a CLOSE_SYNC step on channel 0 (R130). -/
def State.stepRun (s : State) (r : PlanRun) : State :=
  (s.startRun 0 .sequencer (s.stepBreaker r) (s.stepField r.plan r.step 2) (s.stepField r.plan r.step 3) 8).setWait
    .sync

/-- The dead term of a CLOSE_DEAD step is tested (R131). -/
def State.stepDeadTerm (s : State) (r : PlanRun) : State :=
  if s.termHolds (s.stepField r.plan r.step 2) then (s.post (.release (s.stepBreaker r))).setWait .command
  else s.setWait .deadTerm

/-- The DEAD close of a CLOSE_DEAD step (R131). -/
def State.stepDeadClose (s : State) (r : PlanRun) : State :=
  s.stepClose (s.stepBreaker r) .dead (fun t => t.stepDeadTerm r)

/-- START_GENS and STOP_GENS complete by the counts of the paralleling unit (R132). -/
def State.gensReached (s : State) (r : PlanRun) : Bool :=
  match r.wait with
  | .gensOnline => s.stepField r.plan r.step 1 ≤ s.onlineCount
  | .gensOffline => s.loadedCount ≤ s.stepField r.plan r.step 1
  | _ => false

def State.testGens (s : State) : State :=
  match s.run? with
  | some r => if s.gensReached r then s.post .seqComplete else s
  | none => s

/-- Begin a step of the run by its kind (R129 to R133). -/
def State.beginKind (s : State) (r : PlanRun) : State :=
  let a := s.stepField r.plan r.step 1
  let b := s.stepField r.plan r.step 2
  match s.stepField r.plan r.step 0 with
  | 1 => s.stepOpen a
  | 2 => s.stepClose a .plain (fun t => t.setWait .command)
  | 3 => s.stepClose a .sync (fun t => t.stepRun r)
  | 4 => if s.guarded a then (s.setWait .token).requestToken .sequencer else s.stepDeadClose r
  | 5 => if s.termHolds a then s.post .seqComplete else s.setWait .point
  | 6 => s.setWait .time
  | 7 => ((s.writeDemand a).setWait .gensOnline).testGens
  | 8 => ((s.writeDemand a).setWait .gensOffline).testGens
  | 9 => (s.noting (s.modRun (fun r =>
      { r with departing := some a, parallel := some 0, limitRaised := false }))).post .seqComplete
  | 10 => if r.departing.any (fun d => (s.brk d).position == .opened) then s.post .seqComplete
      else s.setWait .departing
  | 11 => (s.noting (s.modSeq (fun q => { q with flags := q.flags.set a (b == 1) }))).post .seqComplete
  | _ => s.post .seqComplete

/-- Begin the step at the run's index (R128). Under the stop mark only OPEN and PARALLEL_END run (R139). -/
def State.beginStep (s : State) : State :=
  match s.run? with
  | none => s
  | some r =>
    let kind := s.stepField r.plan r.step 0
    if s.fld .plan r.plan 5 ≤ r.step then s.finishPlan
    else if r.stopMark && kind != 1 && kind != 10 then
      (s.modRun (fun r => { r with step := r.step + 1 })).post .seqBegin
    else
      let t := s.modRun (fun r => { r with timer := 0, wait := .nothing })
      t.beginKind { r with timer := 0, wait := .nothing }

/-! ### What comes back to a step -/

/-- The running step waits for an outcome of a command of its breaker. -/
def StepWait.forOutcome : StepWait → Bool
  | .command | .sync | .deadTerm | .retry _ => true
  | _ => false

/-- An outcome returned to the sequencer (R109, R129). One that finds no step waiting for it has no effect. -/
def State.seqOutcome (s : State) (b : Nat) (a : Action) (o : Outcome) : State :=
  match s.run? with
  | none => s
  | some r =>
    let opens := s.stepField r.plan r.step 0 == 1
    if !r.wait.forOutcome || s.stepBreaker r != b || (a == .opening) != opens || o == .withdrawn then s
    else if o == .done then s.completeStep
    else s.failStep o.failure.1 o.failure.2

/-- The token is granted to the sequencer (R131). -/
def State.seqToken (s : State) : State :=
  match s.run? with
  | some r => if r.wait == .token then s.stepDeadClose r else s.leaveToken .sequencer
  | none => s.leaveToken .sequencer

/-- The channel 0 run has aborted (R130). -/
def State.seqAborted (s : State) : State :=
  match s.run? with
  | some r => if r.wait == .sync then s.setWait (.retry 0) else s
  | none => s

/-- A sync retry falls due (R130). -/
def State.seqRetry (s : State) : State :=
  match s.run? with
  | some r =>
    (match r.wait with
    | .retry n =>
      if s.correctionInterval 8 ≤ n && (s.stream (s.stepField r.plan r.step 2)).valid &&
          (s.stream (s.stepField r.plan r.step 3)).valid then s.stepRun r
      else s
    | _ => s)
  | none => s

/-- A position change handed to the sequencer: PARALLEL_END completes at the confirmation of OPEN (R133). -/
def State.seqMoved (s : State) (b : Nat) : State :=
  match s.run? with
  | some r =>
    if r.wait == .departing && r.departing == some b && (s.brk b).position == .opened then s.completeStep else s
  | none => s

/-- The running step reaches its timeout (R128). -/
def State.stepExpiry (s : State) : State :=
  match s.run? with
  | some r =>
    let limit := s.stepField r.plan r.step 4
    if limit != 0 && limit ≤ r.timer && r.step < s.fld .plan r.plan 5 then s.failStep 7 0 else s
  | none => s

/-- A WAIT_TIME step has waited (R132). -/
def State.timeWaited (s : State) : State :=
  match s.run? with
  | some r => if r.wait == .time && s.stepField r.plan r.step 1 ≤ r.timer then s.completeStep else s
  | none => s

/-- A WAIT_POINT step's term holds (R132). -/
def State.pointMet (s : State) : State :=
  match s.run? with
  | some r => if r.wait == .point && s.termHolds (s.stepField r.plan r.step 1) then s.completeStep else s
  | none => s

/-- A CLOSE_DEAD step's dead term holds (R131). -/
def State.deadTermMet (s : State) : State :=
  match s.run? with
  | some r => if r.wait == .deadTerm then s.stepDeadTerm r else s
  | none => s

/-- The parallel timer reaches the parallel limit (R133). -/
def State.limitParallel (s : State) : State :=
  match s.run? with
  | some r =>
    if r.parallel.any (s.fld .plan r.plan 4 ≤ ·) && !r.limitRaised then
      let t := (s.raiseLimit r).modRun (fun r => { r with limitRaised := true })
      t.failStep 8 0
    else s
  | none => s

/-! ### Auto-rules and the pending slot (R136, R137) -/

/-- The governing state of a source (R122). -/
def SourceRec.governing (r : SourceRec) : Option SourceState :=
  if r.state == .unverified then r.previous else some r.state

/-- A source state as the condition of a rule: 0 FAILED, 1 AVAILABLE (R136). -/
def conditionIs (x : Option SourceState) (c : Nat) : Bool :=
  match c with
  | 0 => x == some .failed
  | 1 => x == some .available
  | _ => false

/-- Rule `i` is enabled, with the given source, and its condition is the source's governing state. -/
def State.ruleStands (s : State) (i : Nat) : Bool :=
  s.fld .autorule i 1 == 1 &&
    conditionIs (s.source (s.fld .autorule i 3)).governing (s.fld .autorule i 4)

/-- Rule `i` matches in IDLE(k) (R136). -/
def State.ruleMatches (s : State) (k i : Nat) : Bool :=
  let p := s.fld .autorule i 5
  s.ruleStands i && s.fld .autorule i 2 == k && s.planDefined p &&
    (s.fld .plan p 1 == 8 || s.fld .plan p 1 == k)

/-- The lowest-numbered matching rule among some starts its plan. -/
def State.startRule (s : State) (k : Nat) (among : Nat → Bool) : State :=
  match (List.range 12).find? (fun i => among i && s.ruleMatches k i) with
  | some i => s.startPlan (s.fld .autorule i 5) (.auto i)
  | none => s

/-- A request offered to the pending slot (R137). -/
def State.offerRequest (s : State) (i : Nat) : State :=
  let a : AutoRequest := ⟨i, s.fld .autorule i 5, s.fld .autorule i 3, s.fld .autorule i 4⟩
  match s.seq.slot with
  | none => (s.modSeq (fun q => { q with slot := some a })).event .transfer 6 i 8 none
  | some old =>
    if old.rule == i then s
    else (s.modSeq (fun q => { q with slot := some a })).event .transfer 8 i 9 (some old.rule)

/-- Every rule is evaluated in IDLE (R136). -/
def State.evaluateRules (s : State) : State :=
  match s.seq.state with
  | .idle k => if s.seq.autoEffective then s.startRule k (fun _ => true) else s
  | _ => s

/-- The governing state of source `x` has changed (R136). -/
def State.governingChanged (s : State) (x : Nat) : State :=
  if !s.seq.autoEffective then s
  else
    match s.seq.state with
    | .idle k => s.startRule k (fun i => s.fld .autorule i 3 == x)
    | .halted _ => s
    | .lockedOut => s
    | _ =>
      match (List.range 12).find? (fun i => s.fld .autorule i 3 == x && s.ruleStands i) with
      | some i => s.offerRequest i
      | none => s

/-- On entering IDLE(k): the pending slot is examined, then the rules are evaluated (R125, R137). -/
def State.enteredIdle (s : State) (k : Nat) : State :=
  if s.seq.state != .idle k then s
  else
    match s.seq.slot with
    | none => s.evaluateRules
    | some a =>
      if s.seq.autoEffective && s.ruleMatches k a.rule then
        (s.modSeq (fun q => { q with slot := none })).startPlan (s.fld .autorule a.rule 5) (.auto a.rule)
      else s.emptySlot.evaluateRules

/-- AUTO_TRANSFER_EFFECTIVE is recomputed; a rise evaluates the rules (R83, R136). -/
def State.recomputeAuto (s : State) : State :=
  let new := s.station 10 == 1 && !s.lines.lockout
  let t := s.modSeq (fun q => { q with autoEffective := new })
  if new && !s.seq.autoEffective then t.evaluateRules else t

/-! ### Lockout, station trip and restart (R139, R140, R143) -/

/-- The command of the running step is left to its outcome under the stop mark: it has been issued, or it is an
OPEN in the slot (R139). A running PARALLEL_END is left to run (log entry 14). -/
def State.stepLeft (s : State) (r : PlanRun) : Bool :=
  match s.stepField r.plan r.step 0 with
  | 1 => r.wait == .command
  | 10 => true
  | _ =>
    r.wait.forOutcome && (s.brk (s.stepBreaker r)).slot.any (fun c =>
      c.action == .closing && c.phase != .queued)

/-- The stop mark is set while a plan runs (R139). -/
def State.markStop (s : State) (r : PlanRun) : State :=
  let t := s.modRun (fun r => { r with stopMark := true })
  if s.stepLeft r then t
  else if r.parallel.isNone then t.stopPlan
  else ((t.endStep r).modRun (fun r => { r with step := r.step + 1, wait := .nothing })).post .seqBegin

/-- The sequencer takes a change of LOCKOUT (R139). -/
def State.seqLockout (s : State) (rise : Bool) : State :=
  let t := s.recomputeAuto
  match rise, t.seq.state with
  | true, .running r => t.markStop r
  | true, .halted _ => t
  | true, .lockedOut => t
  | true, _ => t.lockOut
  | false, .lockedOut => if t.lines.lockout then t else t.goLineup
  | false, _ => t

/-- The oldest change of LOCKOUT that the sequencer has yet to take. -/
def State.takeLockoutChange (s : State) : State :=
  match s.lines.lockoutChanges with
  | [] => s
  | rise :: rest => (s.modLines (fun l => { l with lockoutChanges := rest })).seqLockout rise

/-- A plan is abandoned (R140, R189). -/
def State.abandonPlan (s : State) : State :=
  match s.run? with
  | none => s
  | some r => (s.endRunRecord r).event .transfer 12 r.plan 14 (some r.step)

/-- A station trip in the sequencer (R140). -/
def State.stationTripSeq (s : State) : State :=
  let t := s.abandonPlan
  match t.seq.state with
  | .halted _ => t.setSeqState (.halted .stationTrip)
  | _ => t.halt .stationTrip

/-- The sequencer at RESTART (R143, R189). With no watched breaker it remains in INIT all the same, its line-up none, until a
LINEUP activation or a change of LOCKOUT (DESIGN CHOICE, log entry 18). -/
def State.restartSeq (s : State) : State :=
  let t := ((s.abandonPlan.setSeqState .init).emptySlot).writeDemand 0
  let u := t.modSeq (fun q => { q with flags := List.replicate 4 false, lineup := powerOnLineup s.mgmt.tables })
  if u.lines.tripLatch then u.halt .stationTrip
  else if u.lines.lockout then u.lockOut
  else u

/-! ### Sources (R120 to R122) -/

def SourceState.code : SourceState → Nat
  | .unverified => 0
  | .available => 1
  | .failing => 2
  | .failed => 3
  | .restoring => 4

/-- The priority of a SOURCE_STATE event (R121). -/
def SourceState.priority : SourceState → Nat
  | .failed => 12
  | .available => 8
  | _ => 5

/-- A source is healthy (R120). -/
def State.sourceHealthy (s : State) (x : Nat) : Bool :=
  s.point (48 + s.fld .source x 2) &&
    ((idRun 3 4).map (s.fld .source x)).all (fun e => e == Config.noneField || !s.point (48 + e)) &&
    (x != 2 || (List.range 8).any (fun g => s.point (192 + g)))

/-- A source takes a state: its points follow, but for UNVERIFIED, and the change is recorded (R83, R121). -/
def State.setSource (s : State) (x : Nat) (new : SourceState) (delay : Nat) : State :=
  let t := s.noting (s.modSource x (fun r =>
    { r with
      state := new, delay := delay
      availablePoint := if new == .unverified then r.availablePoint else new == .available
      failedPoint := if new == .unverified then r.failedPoint else new == .failed }))
  t.event .transfer new.priority x 1 (some new.code)

/-- A qualified source moves by its health (R121). The state that a delay reaches its end in is left to the
expiry of that delay. -/
def State.moveSource (s : State) (x : Nat) (healthy : Bool) : State :=
  let r := s.source x
  let fail := s.fld .source x 7
  let restore := s.fld .source x 8
  match r.state, healthy with
  | .available, false =>
    (s.setSource x (if fail == 0 then .failed else .failing) 0).governingChanged x
  | .failing, true => if fail ≤ r.delay then s else (s.setSource x .available 0).governingChanged x
  | .failing, false => s.modSource x (fun r => { r with delay := min (r.delay + 1) fail })
  | .failed, true =>
    (s.setSource x (if restore == 0 then .available else .restoring) 0).governingChanged x
  | .restoring, true => s.modSource x (fun r => { r with delay := min (r.delay + 1) restore })
  | .restoring, false => if restore ≤ r.delay then s else (s.setSource x .failed 0).governingChanged x
  | _, _ => s

/-- A source whose delay has run out waits for the expiry command. -/
def State.delayDue (s : State) (x : Nat) : Bool :=
  let r := s.source x
  (r.state == .failing && s.fld .source x 7 ≤ r.delay) || (r.state == .restoring && s.fld .source x 8 ≤ r.delay)

/-- The evaluation of a source at an advance (R121, R122). The previous state stands on once the source has left UNVERIFIED
(DESIGN CHOICE, log entry 22). -/
def State.evaluateSource (x : Nat) (s : State) : State :=
  let r := s.source x
  if s.delayDue x then s
  else if !(s.stream (s.fld .source x 1)).valid then
    if r.state == .unverified then s
    else (s.modSource x (fun r => { r with previous := some r.state })).setSource x .unverified r.delay
  else
    let healthy := s.sourceHealthy x
    if r.state != .unverified then s.moveSource x healthy
    else
      match r.previous with
      | some p => (s.setSource x p r.delay).moveSource x healthy
      | none => (s.setSource x (if healthy then .available else .failed) 0).governingChanged x

/-- The fail delay of a source has run out (R121). -/
def State.failExpiry (s : State) (x : Nat) : State :=
  if (s.source x).state == .failing && s.fld .source x 7 ≤ (s.source x).delay then
    (s.setSource x .failed 0).governingChanged x
  else s

/-- The restore delay of a source has run out (R121). -/
def State.restoreExpiry (s : State) (x : Nat) : State :=
  if (s.source x).state == .restoring && s.fld .source x 8 ≤ (s.source x).delay then
    (s.setSource x .available 0).governingChanged x
  else s

/-- A changed SOURCE entry is activated (R142); a source that comes to UNVERIFIED records it (R121, R122). -/
def State.activateSource (x : Nat) (s : State) : State :=
  let t := s.modSource x (fun _ => {})
  if (s.source x).state == .unverified then t else t.event .transfer SourceState.unverified.priority x 1
    (some SourceState.unverified.code)

/-! ### Timers at an advance (R128, R130, R133) -/

/-- The step and parallel timers and the wait for a sync retry. The step timer of a step with timeout 0 has no end, and no rule
gives these timers a width: they count without bound (DESIGN CHOICE, log entry 21). -/
def PlanRun.advance (r : PlanRun) : PlanRun :=
  { r with
    timer := r.timer + 1
    parallel := r.parallel.map (· + 1)
    wait := (match r.wait with | .retry n => .retry (n + 1) | w => w) }

def State.advanceSeq (s : State) : State := s.modRun PlanRun.advance

end Sys2Proof.Machine
end

