-- ==== Sys2Proof/Machine/Streams.lean ====
section
/-! DEFINITION. The stream intake and the aligner (R21 to R37): frames placed against open instants, station
time, the counter's steps and relabelling, and the stream work at a closure. -/

namespace Sys2Proof.Machine

/-! ### A stream enters ACQUIRING or DISABLED (R22) -/

def StreamRec.cleared (r : StreamRec) (new : StreamState) : StreamRec :=
  { r with
    state := new, buffer := [], lastDelivered := none, lastSeq := none
    quantities := List.replicate 8 {}, valid := false }

/-- Stream `k` enters ACQUIRING or DISABLED by the enabled field of its active entry. -/
def State.enterStream (s : State) (k : Nat) : State :=
  (s.modStream k (fun r =>
    r.cleared (if s.fld .stream k 1 == 1 then .acquiring else .disabled))).modMeasure k StreamMeasure.empty

/-! ### Relabelling (R25, R28, R29) -/

/-- The closing point moves by a shift and every receive buffer is emptied. -/
def State.relabel (s : State) (shift : Int) : State :=
  { s with
    aligner := { s.aligner with closingPoint := s.shifted s.aligner.closingPoint shift }
    intake := { s.intake with streams := s.intake.streams.map (fun r => { r with buffer := [] }) } }

/-! ### TIME frames (R26 to R28) -/

/-- The offset of the counter from the start of second `sec`. -/
def State.timeOffset (s : State) (sec : Nat) : Int := s.counterBeyond (s.positionOf ⟨sec, 0⟩)

/-- A frame that does not agree is adopted as a step (R28). -/
def State.timeStep (s : State) (sec : Nat) : State :=
  let shift := -s.timeOffset sec
  let t := (s.relabel shift).modAligner (fun a =>
    { a with counter := ⟨sec, 0⟩, slew := .none, steps := step32 a.steps })
  t.event .time 8 0 3 (some sec)

/-- The slew that an agreeing frame sets (R27). -/
def slewOf (d : Int) : Slew := if d = 0 then .none else if 0 < d then .withhold else .double

/-- The time state becomes TRACKING, if it was not (R26). -/
def State.track (s : State) : State :=
  let t := s.modAligner (fun a => { a with timeout := 0, time := .tracking })
  if s.aligner.time == .tracking then t else t.event .time 6 0 1 none

/-- A TIME frame taken by the aligner (R26). -/
def State.takeTime (f : TimeBody) (s : State) : State :=
  if !f.locked then s.modAligner (fun a => { a with unlocked := step32 a.unlocked })
  else
    let d := s.timeOffset f.second
    if -24 ≤ d && d ≤ 23 then (s.modAligner (fun a => { a with slew := slewOf d })).track
    else (s.timeStep f.second).track

/-- The timeout count at which TRACKING ends: five seconds of instants (R26). -/
def State.timeLimit (s : State) : Nat := 5 * s.perSecond

/-- The end of TRACKING at the timeout (R26, R36). -/
def State.holdover (s : State) : State :=
  if s.aligner.time == .tracking && s.timeLimit ≤ s.aligner.timeout then
    (s.modAligner (fun a => { a with time := .holdover, timeLatch := false })).event .time 10 0 2 none
  else s

/-! ### SAMPLE frames (R23, R24, R29) -/

/-- The stream record that a frame matches (R23). No two enabled entries share a source and a number (R21). -/
def State.matchStream (s : State) (src number : Nat) : Option Nat :=
  (List.range 16).find? (fun k =>
    s.fld .stream k 1 == 1 && s.fld .stream k 2 == src && s.fld .stream k 3 == number)

/-- While the time state is UNSET a matched frame seeds the counter (R29). -/
def State.seed (s : State) (l : Label) : State :=
  if s.aligner.time == .unset then
    let t := (s.relabel 0).modAligner (fun a =>
      { a with
        counter := l, closingPoint := s.positionOf l, time := .holdover, seedings := step32 a.seedings })
    t.event .time 6 0 4 (some l.second)
  else s

/-- Delivery of a frame for position `p` (R24). -/
def StreamRec.deliver (r : StreamRec) (newer : Label → Bool) (l : Label) (seq : Nat) (d : Delivered) : StreamRec :=
  { r with
    buffer := r.buffer ++ [d]
    delivered := step32 r.delivered
    lastDelivered := if r.lastDelivered.all newer then some l else r.lastDelivered
    gaps := if r.lastSeq.any (fun n => seq != step16 n) then step32 r.gaps else r.gaps
    lastSeq := some seq }

/-- A matched frame is judged against the closing point (R24). -/
def State.place (s : State) (k seq : Nat) (f : SampleBody) : State :=
  let l : Label := ⟨f.second, f.index⟩
  let p := s.positionOf l
  let ahead := s.beyond p s.aligner.closingPoint
  if ahead < 0 then s.modStream k (fun r => { r with late := step32 r.late })
  else if Config.openInstants ≤ ahead then s.modStream k (fun r => { r with early := step32 r.early })
  else if (s.stream k).buffer.any (·.position == p) then
    s.modStream k (fun r => { r with duplicate := step32 r.duplicate })
  else
    s.modStream k (fun r =>
      r.deliver (fun m => 0 < s.beyond p (s.positionOf m)) l seq ⟨p, f.quality, f.samples⟩)

/-- A SAMPLE frame handed to the stream intake (R23). -/
def State.takeSample (h : Header) (f : SampleBody) (s : State) : State :=
  match s.matchStream h.src f.stream with
  | none => { s with intake := { s.intake with unmatched := step32 s.intake.unmatched } }
  | some k =>
    if s.perSecond ≤ f.index then
      { s with intake := { s.intake with outOfRange := step32 s.intake.outOfRange } }
    else (s.seed ⟨f.second, f.index⟩).place k h.seq f

/-! ### Closure (R30 to R35) -/

/-- Stream `k` gates closure: LOCKED or HOLDING (R30). -/
def State.gates (s : State) (k : Nat) : Bool := (s.stream k).state == .locked || (s.stream k).state == .holding

/-- The instant at the closing point may close (R30). -/
def State.closureDue (s : State) : Bool :=
  let ahead := s.counterBeyond s.aligner.closingPoint
  (0 ≤ ahead && (List.range 16).all (fun k =>
      !s.gates k || (s.stream k).buffer.any (·.position == s.aligner.closingPoint))) ||
    (s.station 8 : Int) + 1 ≤ ahead

/-- The quality of quantity `q` in a frame (R19). -/
def qualityOf (quality : BitVec 16) (q : Nat) : Nat := quality.toNat / 4 ^ q % 4

/-- A quantity whose sample is taken (R31). -/
def Quantity.take (q : Quantity) (value : Int) (questionable : Bool) : Quantity :=
  { q with condition := .fresh, missing := 0, value := value, questionable := questionable }

/-- A quantity whose sample is missing (R31). -/
def Quantity.miss (q : Quantity) : Quantity :=
  match q.condition with
  | .fresh => { q with condition := .held, missing := 1 }
  | .held =>
    if q.missing ≤ 1 then { q with missing := 2 }
    else { q with condition := .invalid, missing := 3, value := 0, questionable := false }
  | .invalid => { q with missing := 3, value := 0, questionable := false }

/-- The fresh count after R31 (R32). -/
def Quantity.count (q : Quantity) : Quantity :=
  { q with fresh := if q.condition == .invalid then 0 else min (q.fresh + 1) Config.windowLength }

/-- Quantity `k` at a closure, with the frame for the instant if one is held (R31, R32). -/
def closeQuantity (frame : Option Delivered) (q : Quantity) (k : Nat) : Quantity :=
  match frame with
  | none => q.miss.count
  | some d =>
    if qualityOf d.quality k < 2 then (q.take (d.samples.getD k 0) (qualityOf d.quality k == 1)).count
    else q.miss.count

/-- The state that a stream takes from its quantities (R33). -/
def stateOfQuantities (qs : List Quantity) : StreamState :=
  if qs.any (·.condition == .held) then .holding
  else if qs.all (·.condition == .invalid) then .stale
  else .locked

/-- STREAM_VALID at a closure (R34). -/
def quantitiesValid (qs : List Quantity) : Bool :=
  qs.all (fun q => q.condition != .invalid && q.fresh == Config.windowLength)

/-- A stream record at the closure of position `c` (R31 to R35). -/
def StreamRec.close (r : StreamRec) (c : Nat) : StreamRec :=
  let frame := r.buffer.find? (·.position == c)
  let qs := (r.quantities.zip (List.range 8)).map (fun x => closeQuantity frame x.1 x.2)
  let new := if r.state == .acquiring && frame.isNone then .acquiring else stateOfQuantities qs
  { r with
    state := new
    quantities := qs
    buffer := r.buffer.filter (·.position != c)
    valid := quantitiesValid qs
    staleSeen := r.staleSeen || (new == .stale && r.state != .stale) }

/-- The stream events of R33. -/
def State.streamEvents (s : State) (k : Nat) (old new : StreamState) : State :=
  if new == .stale && old != .stale then s.event .stream 10 k 1 none
  else if old == .stale && (new == .locked || new == .holding) then s.event .stream 6 k 2 none
  else s

/-- The stream work at the closure of the closing point. Where several streams change state at one closure their STREAM
events are recorded by rising stream number (DESIGN CHOICE, log entry 5). -/
def State.intakeWork (s : State) : State :=
  s.forEach (List.range 16) (fun k t =>
    if (t.stream k).state == .disabled then t
    else
      let new := (t.stream k).close t.aligner.closingPoint
      (t.modStream k (fun _ => new)).streamEvents k (t.stream k).state new.state)

/-- The closing point moves to the next position (R30). -/
def State.passClosingPoint (s : State) : State :=
  s.modAligner (fun a =>
    { a with
      closingPoint := s.shifted a.closingPoint 1
      lastClosed := some (s.labelOf a.closingPoint) })

/-! ### The advance of the counter (R25) -/

/-- The f_nom that STATION now gives takes effect at an index return: the closing point keeps its distance
from the counter, and the enabled streams enter ACQUIRING (R22, R25). -/
def State.adoptNominal (s : State) : State :=
  let behind := s.counterBeyond s.aligner.closingPoint
  let t := s.modAligner (fun a => { a with nominal := s.station 7 })
  let u := t.modAligner (fun a => { a with closingPoint := t.shifted (t.positionOf a.counter) (-behind) })
  u.forEach (List.range 16) (fun k v => if v.fld .stream k 1 == 1 then v.enterStream k else v)

/-- One step of the counter, with the change of f_nom at the index return and the timeout count of R26. A count that a lower
f_nom leaves above its new limit comes down to that limit at the next advance (DESIGN CHOICE, log entry 28). -/
def State.stepCounter (s : State) : State :=
  let c := s.aligner.counter
  let last := s.perSecond ≤ c.index + 1
  let next : Label := if last then ⟨step32 c.second, 0⟩ else ⟨c.second, c.index + 1⟩
  let t := s.modAligner (fun a =>
    { a with
      counter := next
      timeout := if a.time == .tracking then min (a.timeout + 1) s.timeLimit else a.timeout })
  if last && s.station 7 != s.aligner.nominal then t.adoptNominal else t

end Sys2Proof.Machine
end

