-- ==== Sys2Proof/Machine/Transmit.lean ====
section
/-! DEFINITION. Transmission of frames and the fall of a link (R2, R4, R12 to R15). -/

namespace Sys2Proof.Machine

/-! ### Taking the head frame (R12, R15, R17) -/

/-- Which queue the head frame stands in. -/
inductive QueueName where
  | urgent
  | normal
  | bulk
  deriving DecidableEq, Repr, Inhabited

/-- The first frame of a bulk queue; a reservation that has no response yet is passed over (log entry 20). -/
def bulkHead (ps : List BulkPlace) : Option OutFrame := ps.findSome? BulkPlace.frame?

/-- Remove the first frame of a bulk queue. -/
def bulkTail : List BulkPlace → List BulkPlace
  | [] => []
  | .frame _ :: ps => ps
  | .reserved t :: ps => .reserved t :: bulkTail ps

/-- The head frame of the highest-priority queue that holds one. -/
def LinkPort.head? (p : LinkPort) : Option (QueueName × OutFrame) :=
  match p.urgent.head?, p.normal.head?, bulkHead p.bulk with
  | some f, _, _ => some (.urgent, f)
  | none, some f, _ => some (.normal, f)
  | none, none, some f => some (.bulk, f)
  | none, none, none => none

def LinkPort.dropHead (p : LinkPort) (q : QueueName) : LinkPort :=
  match q with
  | .urgent => { p with urgent := p.urgent.tail }
  | .normal => { p with normal := p.normal.tail }
  | .bulk => { p with bulk := bulkTail p.bulk }

/-- The breaker and tag of a frame that R15 tests: a COMMAND with action CLOSE. -/
def OutFrame.closeFrame? (f : OutFrame) : Option (Nat × Nat) :=
  match f.body with
  | .command b _ .closing tag _ => some (b, tag)
  | _ => none

/-- The breaker and tag of a COMMAND addressed to a BIU. -/
def OutFrame.biu? (f : OutFrame) : Option (Nat × Nat) :=
  match f.body with
  | .command b _ _ tag _ => if f.mirror then none else some (b, tag)
  | _ => none

/-- The mirror copy made as a BIU frame begins transmission (R13). -/
def State.mirrorCopy (s : State) (l : Link) (f : OutFrame) : State :=
  if s.mirrorAddress == 0 then s
  else s.modPort l (fun p => p.offerMirror { f with dst := s.mirrorAddress })

/-- A frame as it leaves a port: the broadcast destination, the port's own source address, and the protocol type of the
active STATION table (R4). -/
def State.onWire (s : State) (l : Link) (f : OutFrame) : Sent :=
  ⟨Config.broadcast, Config.portAddress l, s.protocolType, f.bytes⟩

/-- A frame begins transmission, having left its queue. -/
def State.beginFrame (s : State) (l : Link) (f : OutFrame) : State :=
  let t := s.modPort l (fun p => { p with wire := some (s.onWire l f) })
  match f.biu? with
  | some (b, tag) => (t.markCommandLeft b tag).mirrorCopy l f
  | none => if f.isEvent then t.modPort l.other (fun p => p.markLeft f.seq) else t

/-- A CLOSE frame that fails its test is discarded and counted as withheld (R15). -/
def State.withholdFrame (s : State) (l : Link) : State :=
  s.modPort l (fun p => { p with withheld := step32 p.withheld })

/-- Take head frames until one begins transmission or no frame is left; `fuel` bounds the frames. -/
def State.transmitNext (l : Link) : Nat → State → State
  | 0, s => s
  | fuel + 1, s =>
    match (s.port l).head? with
    | none => s
    | some (q, f) =>
      let t := s.modPort l (fun p => p.dropHead q)
      match f.closeFrame? with
      | none => t.beginFrame l f
      | some (b, tag) =>
        (match t.frameTest b tag f.mirror with
        | none => t.beginFrame l f
        | some reason =>
          let u := t.withholdFrame l
          State.transmitNext l fuel (if f.mirror then u else u.abandonClose b reason))

/-- The wire of a link is free and its port takes the next frame; with none the wire stays free. -/
def State.transmit (s : State) (l : Link) : State :=
  let t := s.modPort l (fun p => { p with wire := none })
  if (s.port l).up then State.transmitNext l (s.port l).frames.length t else t

/-! ### The fall of a link (R1, R2, R171) -/

/-- The records of the EVENT frames that the fall of a link reports back. -/
def State.emptiedRecords (s : State) (l : Link) : List EventRecord :=
  (s.port l).frames.flatMap (reportedBack (s.port l.other))

/-- A link goes DOWN when its silence count has reached its limit. -/
def State.dropLink (s : State) (l : Link) : State :=
  if (s.port l).up && Config.silenceLimit ≤ (s.port l).silence then
    let t := s.modPort l (fun p =>
      { p with up := false, latch := false, urgent := [], normal := [], bulk := [] })
    State.event { t with events := t.events.unmark (s.emptiedRecords l) } .link 12 l.number 1 none
  else s

/-- The silence counts at an advance of the counter (R1). -/
def State.advanceSilence (s : State) : State :=
  s.onBothPorts (fun p => { p with silence := min (p.silence + 1) Config.silenceLimit })

end Sys2Proof.Machine
end

