-- ==== Sys2Proof/Machine/Closure.lean ====
section
/-! DEFINITION. Work handed from block to block, the end of a command, and the two events of the counter: the
closure of an instant and its advance. -/

namespace Sys2Proof.Machine

/-! ### Work (log entry 6) -/

/-- One piece of work, done by the block it is handed to. -/
def State.handle (s : State) (w : Work) : State :=
  match w with
  | .seqOutcome b a o => s.seqOutcome b a o
  | .genOutcome g b a k o => s.genOutcome g b a k o
  | .genPosition b old new own tripped => s.genMoved b old new own tripped
  | .seqPosition b => s.seqMoved b
  | .issue b =>
    if (s.brk b).slot.any (fun c => c.action == .opening && c.phase == .queued) then s.issueCommand b else s
  | .release b => s.releaseClose b
  | .tokenGrant => s.grantToken
  | .seqTokenGranted => s.seqToken
  | .genTokenGranted g =>
    if (s.gen g).state == .claiming then s.deadClose g else s.leaveToken (.generator g)
  | .seqSyncAborted => s.seqAborted
  | .gensReport => s.testGens
  | .channelFree => State.serveWaiting 8 s
  | .seqBegin => s.beginStep
  | .seqComplete => s.completeStep
  | .seqFail code reason => s.failStep code reason
  | .idleEntered k => s.enteredIdle k
  | .genDeadCheck g => s.deadCheck g
  | .report b p h => s.handleReport b p h

/-- Work is done in the order in which it was handed over, and what a piece of it hands over in turn comes
before the rest. -/
@[irreducible] def State.drain : Nat → State → State
  | 0, s => s
  | fuel + 1, s =>
    match s.work with
    | [] => s
    | w :: rest =>
      let t := State.handle { s with work := [] } w
      State.drain fuel { t with work := t.work ++ rest }

/-! ### The end of a command -/

/-- GENSET frames for the generators whose setpoint record has changed since `s0` (R153): one for each record that stands
otherwise after the command than before it, built at the command's end and so behind every other frame that the command has
placed in a normal queue (DESIGN CHOICE, log entry 24). -/
def State.sendSetpoints (s0 s : State) : State :=
  s.forEach (List.range 8) (fun g t =>
    if (t.setpointOf g).isSome && t.setpointOf g != s0.setpointOf g then t.buildGenset g else t)

/-- How often point `p` rose since `s0`: as often as its owner noted, and at least once where it stands higher than it
stood (R175). -/
def State.riseCount (s0 s : State) (p : Nat) : Nat :=
  max (s.risen.count p) (if !s0.point p && s.point p then 1 else 0)

/-- The rises of the active trigger points since `s0` join those that capture has yet to take (R175). -/
def State.noteEdges (s0 s : State) : State :=
  s.modCapture (fun c =>
    { c with edges := c.edges ++ s.captureTriggers.flatMap (fun p => List.replicate (State.riseCount s0 s p) p) })

/-- The HEALTHY output takes the level that its conditions give (R94). -/
def State.driveHealthy (s : State) : State := s.modLines (fun l => { l with healthy := s.healthyNow })

/-- The end of every command but POWER_ON: its work is done, changed setpoints are sent, rises of trigger
points are noted and HEALTHY is driven. The GENSET frames are the last that a command builds, behind its pages, its COMMAND
frames and its EVENT frames (DESIGN CHOICE, log entry 24). -/
def State.settle (s0 s : State) : State :=
  let t := State.drain Config.workBound s
  let u := State.noteEdges s0 (State.sendSetpoints s0 t)
  { u.driveHealthy with closing := none, hushed := false, risen := [] }

/-- The outcome of a command whose handler has led from `s0` to `s1`. -/
def finish (s0 s1 : State) : Host.Outcome State Fault Refusal := .next (State.settle s0 s1)

/-! ### Hardwired lines at a closure (R90, R91) -/

/-- The LOCKOUT pin is sampled. -/
def State.sampleLockout (s : State) (pin : Bool) : State :=
  let change := s.lines.lastSample == some pin && pin != s.lines.lockout
  let t := s.modLines (fun l => { l with lockoutPin := pin, lastSample := some pin })
  if !change then t
  else
    let u := t.modLines (fun l => { l with lockout := pin, lockoutChanges := l.lockoutChanges ++ [pin] })
    if pin then (u.event .management 11 0 2 none).lockoutGens else u.event .management 7 0 3 none

/-! ### The activation that waits for a closure (R77, R183) -/

/-- A COMMITTING table among ELEMENT and CURVE. -/
def State.commitWait (s : State) (t : TableId) : Option CommitWait :=
  match (nth s.mgmt.staging t.number).state with
  | .committing w => some w
  | _ => none

def State.setStaging (s : State) (t : TableId) (x : Staging) : State :=
  s.modMgmt (fun m => { m with staging := m.staging.set t.number x })

/-- The table becomes active and its COMMIT is answered. TABLE_COMMITTED is recorded after the records that the activation
itself makes (DESIGN CHOICE, log entry 25). -/
def State.activateWaiting (s : State) (t : TableId) : State :=
  match s.commitWait t with
  | none => s
  | some w =>
    let u := if t == .element then s.activateElements w.content else s.setTable t w.content
    ((u.setStaging t {}).event .management 6 t.number 6 (some w.crc)).respond w.ticket .done 0 0 []

/-! ### Closure (R30) -/

/-- The closure work of the instant at the closing point (R31 to R37, R51, R58, R77, R90, R115, R156 to R161,
R174), in the order in which the consumers of the measurement store follow it. The BF tests go by rising breaker number (DESIGN
CHOICE, log entry 5). -/
def State.closureWork (s : State) (pin : Bool) : State :=
  let label := s.labelOf s.aligner.closingPoint
  let t := (State.intakeWork { s with closing := some label }).passClosingPoint.phasorWork label
  let image := t.image
  let u := ((t.activateWaiting .curve).activateWaiting .element).protectionWork image
  let v := (u.sampleLockout pin).forEach (List.range 24) (fun b x => x.testBf b)
  v.parallelingWork.captureWork label

/-- One instant closes, if the one at the closing point may. -/
def State.closeInstant (s : State) (pin : Bool) : State := if s.closureDue then s.closureWork pin else s

/-! ### Advance (R25, R27) -/

/-- One advance of the local instant counter, for every block that counts instants. -/
def State.advanceOnce (s : State) : State :=
  let t := s.advanceSilence.stepCounter.advanceBreakers.advanceSeq
  (t.forEach (List.range 3) State.evaluateSource).advanceGens.sendAttempt

/-- The oscillator's period: the advance, withheld or doubled by a pending slew while time is TRACKING. The work that the
first count of a doubled advance hands to other blocks, the beginning of a step among it, follows the second count (DESIGN
CHOICE, log entry 5). -/
def State.advanceInstant (s : State) : State :=
  let t := s.modAligner (fun a => { a with slew := .none })
  match s.aligner.time, s.aligner.slew with
  | .tracking, .withhold => t
  | .tracking, .double => t.advanceOnce.advanceOnce
  | .tracking, .none => s.advanceOnce
  | _, _ => s.advanceOnce

end Sys2Proof.Machine
end

