-- ==== Sys2Proof/Machine/Operands.lean ====
section
/-! DEFINITION. The reception of a frame (R1, R2, R4 to R9): what every frame command does before, or in
place of, the work of the block that owns its class. -/

namespace Sys2Proof

/-- The classes that the part receives (R6). -/
def FrameClass.received : FrameClass → Bool
  | .sample | .position | .genstatus | .ability | .time | .mgmtReq => true
  | .command | .genset | .mgmtRsp | .event => false

end Sys2Proof

namespace Sys2Proof.Machine

/-- A frame that has passed the header test: the silence count is 0 and a link that was DOWN comes UP (R1, R2). -/
def State.heard (s : State) (l : Link) : State :=
  let t := s.modPort l (fun p => { p with silence := 0, up := true })
  if (s.port l).up then t else t.event .link 6 l.number 2 none

/-- What the tests of 1.1 say of a frame that is not malformed. `unseen` is a frame that fails the first test: it has no
effect at all, and does not change the silence count (R1, R4). -/
inductive Verdict where
  | unseen
  | ignored
  | second
  | taken
  deriving DecidableEq, Repr, Inhabited

/-- The first test of 1.1: the frame check is good and the protocol type is that of the active STATION table (R4). -/
def State.sees (s : State) (e : Ether) : Bool := e.good && e.ptype == s.protocolType

/-- The destination, source and class tests of R6; true where the frame goes on. -/
def State.addressed (s : State) (c : FrameClass) (h : Header) : Bool :=
  (h.dst == s.ownAddress || h.dst == 4095) && h.src != s.ownAddress && c.received

/-- The duplicate window of an address (R7). -/
def State.window? (s : State) (a : Nat) : Option DupWindow := s.links.windows.find? (·.address == a)

/-- The first test, then R6, and for classes other than SAMPLE R7 and R8. -/
def State.verdict (s : State) (c : FrameClass) (h : Header) : Verdict :=
  if !s.sees h.eth then .unseen
  else if !s.addressed c h then .ignored
  else if c == .sample then .taken
  else
    match s.window? h.src with
    | none => .ignored
    | some w =>
      if !w.classes.contains c then .ignored
      else if w.pairs.contains (c, h.seq) then .second
      else .taken

/-- Add a pair to a window; with 8 pairs held the oldest makes room (R8). -/
def DupWindow.add (w : DupWindow) (x : FrameClass × Nat) : DupWindow :=
  { w with
    pairs := (if w.pairs.length < Config.windowPairs then w.pairs else w.pairs.tail) ++ [x] }

/-- Add a taken frame's pair to the window of its source (R8). -/
def State.noteTaken (s : State) (c : FrameClass) (h : Header) : State :=
  { s with links := { s.links with
      windows := s.links.windows.map (fun w => if w.address == h.src then w.add (c, h.seq) else w) } }

def State.countIgnored (s : State) (l : Link) : State :=
  s.modPort l (fun p => { p with ignored := step32 p.ignored })

def State.countSecond (s : State) (l : Link) : State :=
  s.modPort l (fun p => { p with second := step32 p.second })

def State.countTaken (s : State) (l : Link) : State :=
  s.modPort l (fun p => { p with taken := step32 p.taken })

def State.countMalformed (s : State) (l : Link) : State :=
  s.modPort l (fun p => { p with malformed := step32 p.malformed })

/-- Receive a frame of a class: the tests of 1.1 in their order, then the work of the block it is handed to. -/
def State.receive (s : State) (l : Link) (c : FrameClass) (h : Header) (work : State → State) : State :=
  let t := s.heard l
  match t.verdict c h with
  | .unseen => s
  | .ignored => t.countIgnored l
  | .second => t.countSecond l
  | .taken => work ((if c == .sample then t else t.noteTaken c h).countTaken l)

/-- The verdict on a frame by its bytes, or `none` where they are malformed (R4 to R8, R19). -/
def State.verdictOf (s : State) (e : Ether) (payload : List Byte) : Option Verdict :=
  match parseFrame e payload with
  | .malformed => if s.sees e then none else some .unseen
  | .unlisted _ => some (if s.sees e then .ignored else .unseen)
  | .sample h _ => some (s.verdict .sample h)
  | .position h _ => some (s.verdict .position h)
  | .genstatus h _ => some (s.verdict .genstatus h)
  | .ability h _ => some (s.verdict .ability h)
  | .time h _ => some (s.verdict .time h)
  | .mgmt _ q => some (s.verdict .mgmtReq q.header)

/-- A malformed frame is counted and discarded; it does not change the silence count (R5). -/
def State.receiveMalformed (s : State) (l : Link) (f : RawFrame) : State :=
  match s.verdictOf f.eth f.payload with
  | none => s.countMalformed l
  | some _ => s

/-- An ignored frame has passed the header test; it is counted and discarded (R1, R6, R7). -/
def State.receiveIgnored (s : State) (l : Link) (f : RawFrame) : State :=
  match s.verdictOf f.eth f.payload with
  | some .ignored => (s.heard l).countIgnored l
  | _ => s

/-- A second copy has passed the header test; it is counted and discarded (R1, R8). -/
def State.receiveSecond (s : State) (l : Link) (f : RawFrame) : State :=
  match s.verdictOf f.eth f.payload with
  | some .second => (s.heard l).countSecond l
  | _ => s

end Sys2Proof.Machine
end

