-- ==== Sys2Proof/Machine/BreakerCommands.lean ====
section
/-! DEFINITION. The commands of the breaker controller and of the STATION TRIP pin (R92, R98 to R117). -/

namespace Sys2Proof.Machine

/-- POSITION_FRAME (R98, R99, R106). -/
def execPositionFrame (l : Link) (h : Header) (f : PositionBody) (s : State) : Host.Outcome State Fault Refusal :=
  finish s (s.receive l .position h (State.takePosition h f))

/-- TRIP_DEMAND_ADD (R110): the controller takes an outstanding request to add a member. -/
def execTripDemandAdd (b : Nat) (m : Member) (s : State) : Host.Outcome State Fault Refusal :=
  finish s (s.takeDemand ⟨true, b, m⟩)

/-- TRIP_DEMAND_REMOVE (R110): the controller takes an outstanding request to remove a member. -/
def execTripDemandRemove (b : Nat) (m : Member) (s : State) : Host.Outcome State Fault Refusal :=
  finish s (s.takeDemand ⟨false, b, m⟩)

/-- RESPONSE_TIMEOUT (R107). -/
def execResponseTimeout (b : Nat) (s : State) : Host.Outcome State Fault Refusal := finish s (s.responseExpiry b)

/-- LIMIT_TIMEOUT (R108). -/
def execLimitTimeout (b : Nat) (s : State) : Host.Outcome State Fault Refusal := finish s (s.limitExpiry b)

/-- SIMULATED_COMPLETION (R116). -/
def execSimulatedCompletion (b : Nat) (s : State) : Host.Outcome State Fault Refusal := finish s (s.simulatedEnd b)

/-- BF_RETRIP (R113). -/
def execBfRetrip (b : Nat) (s : State) : Host.Outcome State Fault Refusal := finish s (s.retrip b)

/-- BF_BACKUP (R114). -/
def execBfBackup (b : Nat) (s : State) : Host.Outcome State Fault Refusal := finish s (s.backup b)

/-- A falling edge with the latch clear (R92). -/
def State.stationTrip (s : State) : State :=
  let t := s.modLines (fun l => { l with tripLatch := true, tripEdges := step32 l.tripEdges })
  let u := t.forEach (bitSet (t.station 9) 24) (fun b v => v.askAdd b .stationTrip)
  (u.stationTripSeq.stationTripGens).event .management 15 1 4 none

/-- The STATION TRIP pin falls; the edge is one only while the pin stands high (R92). -/
def State.tripEdge (s : State) : State :=
  if !s.lines.tripPin then s
  else
    let t := s.modLines (fun l => { l with tripPin := false })
    if s.lines.tripLatch then t.modLines (fun l => { l with tripEdges := step32 l.tripEdges })
    else t.stationTrip

/-- STATION_TRIP_EDGE (R92, R140, R168). -/
def execStationTripEdge (s : State) : Host.Outcome State Fault Refusal := finish s s.tripEdge

/-- STATION_TRIP_PIN_RETURNS_HIGH (R92). -/
def execStationTripPinReturnsHigh (s : State) : Host.Outcome State Fault Refusal :=
  finish s (s.modLines (fun l => { l with tripPin := true }))

end Sys2Proof.Machine
end

