-- ==== Sys2Proof/Machine/GeneratorCommands.lean ====
section
/-! DEFINITION. The commands of the paralleling unit (R149 to R166). -/

namespace Sys2Proof.Machine

/-- GENSTATUS_FRAME (R149, R152, R167). -/
def execGenstatusFrame (l : Link) (h : Header) (f : GenStatus) (s : State) : Host.Outcome State Fault Refusal :=
  finish s (s.receive l .genstatus h (State.takeGenStatus h f))

/-- ABILITY_FRAME (R150, R151). -/
def execAbilityFrame (l : Link) (h : Header) (f : Page) (s : State) : Host.Outcome State Fault Refusal :=
  finish s (s.receive l .ability h (State.takePage h f))

/-- GEN_ABSENT_TIMEOUT (R149). -/
def execGenAbsentTimeout (g : Nat) (s : State) : Host.Outcome State Fault Refusal := finish s (s.absentExpiry g)

/-- ABILITY_GAP_TIMEOUT (R150, R151). -/
def execAbilityGapTimeout (g : Nat) (s : State) : Host.Outcome State Fault Refusal := finish s (s.gapExpiry g)

/-- GENSET_REFRESH (R153). -/
def execGensetRefresh (g : Nat) (s : State) : Host.Outcome State Fault Refusal := finish s (s.refresh g)

/-- DEMAND_EVALUATION (R155). -/
def execDemandEvaluation (s : State) : Host.Outcome State Fault Refusal := finish s s.evaluateDemand

/-- START_TIMEOUT (R156). -/
def execStartTimeout (g : Nat) (s : State) : Host.Outcome State Fault Refusal := finish s (s.startExpiry g)

/-- RETRY_TIMER_EXPIRY (R157). -/
def execRetryTimerExpiry (g : Nat) (s : State) : Host.Outcome State Fault Refusal := finish s (s.retryExpiry g)

/-- DEAD_CHECK_TIMEOUT (R159). -/
def execDeadCheckTimeout (g : Nat) (s : State) : Host.Outcome State Fault Refusal := finish s (s.deadCheckExpiry g)

/-- SYNC_CORRECTION (R162). -/
def execSyncCorrection (c : Nat) (s : State) : Host.Outcome State Fault Refusal := finish s (s.correctionExpiry c)

/-- LOAD_SHARING (R165, R166). -/
def execLoadSharing (s : State) : Host.Outcome State Fault Refusal := finish s s.loadShare

end Sys2Proof.Machine
end

