-- ==== Sys2Proof/Machine/Management.lean ====
section
/-! DEFINITION. The management unit (R177 to R189): how a request is taken and answered, the reading and loading
of tables, the table store, and the warm restart. -/

namespace Sys2Proof.Machine

/-! ### Taking and answering a request (R17, R177, R188) -/

/-- What a response adds to the fields that it echoes. -/
structure Reply where
  status : Status := .done
  detailA : Nat := 0
  detailB : Nat := 0
  data : List Byte := []
  deriving DecidableEq, Repr, Inhabited

/-- An answer that names nothing but its status. -/
def Reply.of (st : Status) : Reply := { status := st }

/-- Where an argument stands in an INVALID answer (R177). -/
def targetArgument : Nat := 1
def argumentA : Nat := 2
def argumentB : Nat := 3

/-- INVALID, naming an argument (R177). -/
def Reply.badArgument (k : Nat) : Reply := { status := .invalid, detailA := 0xFFFFFFFF, detailB := k }

/-- INVALID, naming an entry and a field (R177). -/
def Reply.badField (e id : Nat) : Reply := { status := .invalid, detailA := e, detailB := id }

/-- The ticket that the next taken request carries. -/
def State.ticketFor (s : State) (kind : Nat) (q : Request) : Ticket :=
  ⟨s.mgmt.nextTicket, q.src, q.number, kind, q.target⟩

def State.countRequest (s : State) : State :=
  s.modMgmt (fun m => { m with taken := step32 m.taken, nextTicket := m.nextTicket + 1 })

/-- Build the response that a reply gives, if there is one yet. -/
def State.answer (s : State) (t : Ticket) (r : Option Reply) : State :=
  match r with
  | none => s
  | some r => s.respond t r.status r.detailA r.detailB r.data

/-- Take a request (R177): it reserves its places or is discarded untaken. While a RESTART is in flight every
request but the exempt is answered BUSY (R188). A reply of none is built by a later event. -/
def State.take (s : State) (kind : Nat) (exempt : Bool) (q : Request)
    (work : Ticket → State → State × Option Reply) : State :=
  let t := s.ticketFor kind q
  let r := s.onUpLinks (LinkPort.reserve t.number)
  match r.2 with
  | .notPlaced => r.1
  | .placed =>
    let u := r.1.countRequest
    if u.mgmt.restart.isSome && !exempt then u.answer t (some (Reply.of .busy))
    else
      let w := work t u
      w.1.answer t w.2

/-- Receive a MGMT-REQ frame and take its request. -/
def State.serve (s : State) (l : Link) (kind : Nat) (exempt : Bool) (q : Request)
    (work : Ticket → State → State × Option Reply) : State :=
  s.receive l .mgmtReq q.header (fun t => t.take kind exempt q work)

/-- The work of a request that names a table (R177). -/
def State.withTable (s : State) (q : Request) (work : TableId → State → State × Option Reply) :
    State × Option Reply :=
  match TableId.ofNumber q.target with
  | none => (s, some (Reply.of .unknownTable))
  | some t => work t s

/-! ### Pages of typed field lists (R179) -/

/-- Keep whole entries while they fit in the data of a response; also what is left. -/
def fitEntries : Nat → Staged → Staged × Staged
  | _, [] => ([], [])
  | room, e :: es =>
    let size := (entryBytes e.1 e.2).length
    if size ≤ room then
      let r := fitEntries (room - size) es
      (e :: r.1, r.2)
    else ([], e :: es)

/-- The DONE reply that carries entries. Detail A follows the last entry returned; where none is, its value is
not stated (log entry 8). -/
def State.pageReply (s : State) (es : Staged) : State × Option Reply :=
  let r := fitEntries Config.responseBytes es
  match r.1.getLast? with
  | some e => (s, some { detailA := e.1 + 1, detailB := r.2.length, data := fieldListBytes r.1 })
  | none => (s.draw, some { detailA := s.drawn, detailB := 0 })

/-- The entries from a first index on. -/
def entriesFrom (first : Nat) (es : Staged) : Staged := es.filter (fun e => first ≤ e.1)

def State.stagingOf (s : State) (t : TableId) : Staging := nth s.mgmt.staging t.number

/-- READ-TABLE (R179). -/
def State.readTable (q : Request) (t : TableId) (s : State) : State × Option Reply :=
  match q.argB with
  | 0 => s.pageReply (entriesFrom q.argA (Table.indexed (s.table t)))
  | 1 =>
    if (s.stagingOf t).state == .empty then (s, some (Reply.of .notPermitted))
    else s.pageReply (entriesFrom q.argA (sortByKey ((s.stagingOf t).entries.map (fun e => (e.1, sortByKey e.2)))))
  | _ => (s, some (Reply.badArgument argumentB))

/-! ### Staging (R180, R181) -/

def State.emptyStaging (s : State) (t : TableId) : State := s.setStaging t {}

/-- The segment number that a staging area expects; none while COMPLETE. -/
def StagingState.expected : StagingState → Option Nat
  | .empty => some 0
  | .filling n => some n
  | _ => none

def StagingState.isCommitting : StagingState → Bool
  | .committing _ => true
  | _ => false

/-- The reply to a segment that is not well formed. A failure of an entry has no field to name, and what its
detail B holds is not stated (log entry 8). -/
def State.segmentRefused (s : State) (t : TableId) (f : SegmentFault) : State × Option Reply :=
  match f.field with
  | some id => (s.emptyStaging t, some (Reply.badField f.entry id))
  | none => ((s.emptyStaging t).draw, some (Reply.badField f.entry s.drawn))

/-- WRITE-SEGMENT (R180). A segment number above 65535 is held against the expected number alone: it is answered SEQUENCE,
not INVALID, and 65536 is taken where FILLING(65536) expects it (DESIGN CHOICE, log entry 25). -/
def State.writeSegment (q : Request) (t : TableId) (s : State) : State × Option Reply :=
  let a := s.stagingOf t
  if a.state.isCommitting then (s, some (Reply.of .busy))
  else if a.state.expected != some q.argA then (s.emptyStaging t, some (Reply.of .sequence))
  else if 1 < q.argB then (s.emptyStaging t, some (Reply.badArgument argumentB))
  else
    match readSegment t a.entries q.data with
    | .error f => s.segmentRefused t f
    | .ok es =>
      (s.setStaging t ⟨if q.argB == 1 then .complete else .filling (q.argA + 1), es⟩,
        some { detailA := es.length })

/-- DISCARD (R181). -/
def State.discardStaging (t : TableId) (s : State) : State × Option Reply :=
  let a := s.stagingOf t
  if a.state.isCommitting then (s, some (Reply.of .busy))
  else (s.emptyStaging t, some { detailA := a.entries.length })

/-! ### Activation (R183) -/

/-- The states in which the sequencer's tables are activated (R142). -/
def SeqState.atRest : SeqState → Bool
  | .init | .idle _ | .noLineup | .halted _ => true
  | _ => false

/-- The states in which a changed generator's entries are activated (R183). -/
def GenState.changeable : GenState → Bool
  | .absent | .standby | .fault => true
  | _ => false

def State.slotFree (s : State) (b : Nat) : Bool := (s.brk b).slot.isNone

/-- The activation condition of a table for its changed entries. -/
def State.mayActivate (s : State) (t : TableId) (changed : List Nat) : Bool :=
  match t with
  | .interlock => (List.range 24).all (fun b => !changed.contains (s.fld .breaker b 6) || s.slotFree b)
  | .breaker => changed.all s.slotFree
  | .source => changed.isEmpty || s.seq.state.atRest
  | .lineup => changed.isEmpty || s.seq.state.atRest
  | .plan => changed.isEmpty || s.seq.state.atRest
  | .autorule => changed.isEmpty || s.seq.state.atRest
  | .generator => changed.all (fun g => (s.gen g).state.changeable)
  | .sync => changed.all (fun e => if e == 8 then (s.channel 0).isNone else (s.gen e).state.changeable)
  | .capture => changed.isEmpty || s.capture.state == .empty
  | .station => true
  | .stream => true
  | .element => true
  | .curve => true

/-- The duplicate windows are rebuilt from the active tables (R7). -/
def State.rebuild (s : State) : State :=
  { s with links := { s.links with
      windows := rebuildWindows (namedAddresses s.mgmt.tables s.mgmt.configured) s.links.windows } }

def State.stationTripSet (s : State) : List Nat := bitSet (s.station 9) 24

/-- A STATION table is activated (R4, R7, R92, R138). Fields 7 and 8 are read where they take effect. A change of the
stored auto-enable flag recomputes AUTO_TRANSFER_EFFECTIVE (R83). -/
def State.activateStation (s : State) (new : Table) : State :=
  let old := s.stationTripSet
  let t := (s.setTable .station new).rebuild
  let u :=
    if t.lines.tripLatch then
      let v := t.forEach (t.stationTripSet.filter (fun b => !old.contains b)) (fun b x => x.askAdd b .stationTrip)
      v.forEach (old.filter (fun b => !t.stationTripSet.contains b)) (fun b x => x.askRemove b .stationTrip)
    else t
  if u.station 10 == s.station 10 then u else u.recomputeAuto

/-- A table other than ELEMENT and CURVE becomes active, its changed entries being given (R183). -/
def State.activate (s : State) (t : TableId) (new : Table) (changed : List Nat) : State :=
  let old := s.table t
  let u := s.setTable t new
  match t with
  | .station => s.activateStation new
  | .stream => u.forEach changed (fun k v => v.enterStream k)
  | .breaker => u.rebuild.forEach changed (fun b v => v.activateBreaker old b)
  | .source => u.forEach changed State.activateSource
  | .lineup => u.followLineup
  | .plan => u.emptySlot
  | .autorule => u.emptySlot
  | .generator => u.rebuild.activateGens changed
  | .capture => u.modCapture (fun c => { c with ring := [] })
  | .interlock => u
  | .sync => u
  | .element => u
  | .curve => u

/-! ### COMMIT (R182, R183) -/

/-- A COMMIT that fails a test after which the staging area is EMPTY. -/
def State.refuseCommit (s : State) (t : TableId) (r : Reply) : State × Option Reply :=
  (s.emptyStaging t, some r)

def State.tableRefused (s : State) (t : TableId) (value : Nat) : State :=
  s.event .management 7 t.number 7 (some value)

/-- Whether a STATION content keeps f_nom, or may change it (R182, test 7). -/
def State.nominalMay (s : State) (t : TableId) (new : Table) : Bool :=
  t != .station || !s.mgmt.configured || Entry.get (new.getD 0 []) 7 == s.station 7

/-- A checked content meets its activation condition (R183). ELEMENT and CURVE wait for a closure. TABLE_COMMITTED is
recorded after the records that the activation itself makes and before those of the work it hands on (DESIGN CHOICE, log
entry 25). -/
def State.commitChecked (s : State) (k : Ticket) (t : TableId) (new : Table) (crc : Nat) : State × Option Reply :=
  let changed := changedEntries (s.table t) new
  if t == .element || t == .curve then
    (s.setStaging t ⟨.committing ⟨k, crc, new⟩, (s.stagingOf t).entries⟩, none)
  else if !s.mayActivate t changed then (s, some (Reply.of .busy))
  else
    let u := if changed.isEmpty then s else s.activate t new changed
    ((u.emptyStaging t).event .management 6 t.number 6 (some crc), some (Reply.of .done))

/-- COMMIT, from test 2 on (R182). The value of TABLE_REFUSED at test 5 names no entry, and is not stated (log
entry 8). -/
def State.commitTable (k : Ticket) (q : Request) (t : TableId) (s : State) : State × Option Reply :=
  let a := s.stagingOf t
  let crc := crc32 (canonicalBytes a.entries)
  let new := candidate t a.entries
  if s.mgmt.store.isSome then (s, some (Reply.of .busy))
  else if a.state.isCommitting then (s, some (Reply.of .busy))
  else if a.state != .complete then s.refuseCommit t (Reply.of .sequence)
  else if crc != q.argA then
    (s.draw.tableRefused t (s.drawn % 2 ^ 24)).refuseCommit t
      { status := .invalid, detailA := 0xFFFFFFFE, detailB := crc }
  else
    match firstFailure t new (a.entries.map (·.1)) with
    | some (e, id) => (s.tableRefused t (e + 65536 * id)).refuseCommit t (Reply.badField e id)
    | none =>
      if !s.nominalMay t new.table then s.refuseCommit t { status := .notPermitted, detailB := 7 }
      else s.commitChecked k t new.table crc

/-! ### READ-LATCHES, READ-EVENTS, READ-CAPTURE (R172, R176, R184) -/

def State.readLatches (s : State) : State × Option Reply :=
  (s.rearm, some { detailA := s.latchesA, detailB := s.latchesB })

/-- The held records of a range of sequence numbers (R172). -/
def State.recordsIn (s : State) (first count : Nat) : List EventRecord :=
  s.events.records.filter (fun r => (r.seq + 65536 - first % 65536) % 65536 < count)

def State.readEvents (q : Request) (s : State) : State × Option Reply :=
  if q.argB < 1 || 77 < q.argB then (s, some (Reply.badArgument argumentB))
  else if 65535 < q.argA then (s, some (Reply.badArgument argumentA))
  else
    (s, some {
      detailA := (match s.events.records with | [] => 0 | r :: _ => r.seq + 65536 * s.events.records.length)
      detailB := s.events.overwritten % 2 ^ 32
      data := (s.recordsIn q.argA q.argB).flatMap EventRecord.bytes })

/-- The records of a capture that fit in a response, for the streams of a record. -/
def recordsFitting (r : InstantRecord) : Nat := Config.responseBytes / (6 + 18 * r.streams.length)

/-- READ-CAPTURE (R176). Where no record is returned, the index after the last is not stated (log entry 8). -/
def State.readCapture (q : Request) (s : State) : State × Option Reply :=
  if q.argB < 1 || 32 < q.argB then (s, some (Reply.badArgument argumentB))
  else if s.capture.state == .empty then (s, some (Reply.of .notPermitted))
  else
    match s.capture.buffer.drop q.argA with
    | [] => (s.draw, some { detailA := s.drawn, detailB := s.capture.buffer.length - s.drawn })
    | r :: rest =>
      let rs := (r :: rest).take (min q.argB (recordsFitting r))
      let after := q.argA + rs.length
      (s, some {
        detailA := after
        detailB := s.capture.buffer.length - after
        data := rs.flatMap InstantRecord.bytes })

/-! ### The table store (R186) -/

/-- A staging area is COMMITTING. -/
def State.commitInFlight (s : State) : Bool := s.mgmt.staging.any (fun a => a.state.isCommitting)

/-- STORE (R186): an accepted one has the image INVALID until its completion. -/
def State.acceptStore (k : Ticket) (s : State) : State × Option Reply :=
  if s.mgmt.store.isSome || s.commitInFlight then (s, some (Reply.of .busy))
  else if !s.mgmt.configured && s.station 4 == 0 && s.station 5 == 0 then (s, some (Reply.of .notPermitted))
  else
    let snapshot := s.mgmt.tables
    (s.modMgmt (fun m =>
      { m with
        store := some ⟨k, snapshot, imageCrc snapshot⟩
        image := { m.image with valid := false, content := snapshot } }), none)

/-- CONFIGURED becomes 1 at a completed STORE, and the windows are rebuilt (R186). -/
def State.configure (s : State) : State :=
  if s.mgmt.configured then s else (s.modMgmt (fun m => { m with configured := true })).rebuild

/-- The STORE in flight completes with the CRC read back (R186). -/
def State.completeStore (readBack : Nat) (s : State) : State :=
  match s.mgmt.store with
  | none => s
  | some w =>
    if readBack == w.crc then
      let t := s.modMgmt (fun m =>
        { m with
          store := none, storesCompleted := step32 m.storesCompleted
          image := { valid := true, crc := w.crc, content := w.snapshot } })
      (t.configure.event .management 8 0 9 (some w.crc)).answer w.ticket (some { detailA := w.crc })
    else
      let t := s.modMgmt (fun m => { m with store := none })
      (t.event .management 12 0 10 none).answer w.ticket
        (some { status := .invalid, detailA := 0xFFFFFFFD })

/-! ### The warm restart (R188, R189) -/

/-- The blocks that carry out a part of the restart, in the order of R188. -/
def restartBlocks : List Block :=
  [.streams, .protection, .breakers, .sequencer, .paralleling, .capture, .management]

/-- A generator state that a RESTART is refused in (R188, test 5). -/
def GenState.bars : GenState → Bool
  | .syncing | .closing | .unloading => true
  | _ => false

/-- The condition that refuses a RESTART, as its detail A (R188). -/
def State.restartBar (s : State) : Option Nat :=
  if (List.range 24).any (fun b => !s.slotFree b) then some 1
  else if (List.range 24).any (fun b => (s.brk b).bf != .idle) then some 2
  else if s.run?.isSome then some 3
  else if (List.range 8).any (fun g => (s.gen g).state.bars) then some 4
  else if s.mgmt.store.isSome then some 5
  else if s.commitInFlight then some 6
  else none

/-- RESTART, test 1 being the management unit's own (R188). -/
def State.startRestart (s : State) : State × Option Reply :=
  match s.restartBar with
  | some n => (s, some { status := .notPermitted, detailA := n })
  | none => (s.modMgmt (fun m => { m with restart := some restartBlocks }), some (Reply.of .done))

/-- What one block does at its part of the restart (R188, R189). -/
def State.restartPart (s : State) (k : Block) : State :=
  match k with
  | .streams => s.forEach (List.range 16) (fun n t => t.enterStream n)
  | .protection => s.restartProtection
  | .breakers => s.restartBreakers
  | .sequencer => s.restartSeq
  | .paralleling => s.restartParalleling
  | .capture => s.restartCapture
  | .management => s.modMgmt (fun m => { m with staging := List.replicate 13 {} })

/-- The restart is complete once no block is left (R188). -/
def State.closeRestart (s : State) : State :=
  if s.mgmt.restart == some [] then
    (s.modMgmt (fun m => { m with restart := none })).event .management 10 0 13 none
  else s

/-- A block carries out its part of the restart in flight, once. Nothing that the part brings about sends a frame to a
generator controller (R148): what it would have sent is left to the next change of the record or its refresh (DEDUCED, log
entry 18). RESTART_DONE is recorded as the last part ends, before the
records of the work that this part hands to other blocks (DESIGN CHOICE, log entry 18). -/
def State.blockRestart (k : Block) (s : State) : State :=
  match s.mgmt.restart with
  | none => s
  | some ks =>
    if ks.contains k then
      ((State.restartPart { s with hushed := true } k).modMgmt (fun m => { m with restart := some (ks.filter (· != k)) })).closeRestart
    else s

/-! ### Power-on (R187) -/

/-- The entries of a stored table that are checked: those that differ from its unconfigured content. -/
def checkedEntries (t : TableId) (c : Table) : List Nat :=
  (List.range t.entries).filter (fun e => c.getD e [] != t.unconfiguredEntry)

/-- A stored table has every entry with every field of its table, and passes the checks. -/
def storedTableOk (t : TableId) (c : Table) : Bool :=
  c.length == t.entries && c.all (fun e => e.map (·.1) == t.fieldIds) &&
    (firstFailure t (Table.candidate c) (checkedEntries t c)).isNone

/-- The image is valid (R187). -/
def TableStore.loads (i : TableStore) : Bool :=
  i.valid && imageCrc i.content == i.crc && i.content.length == 13 &&
    TableId.all.all (fun t => storedTableOk t (i.content.getD t.number []))

/-- The point that rises at power-on: LOCKED_OUT, as the sequencer leaves INIT (R81, R143, R175). -/
def State.powerOnRises (s : State) : List Nat := s.captureTriggers.filter (· == 187)

/-- Power-on. What survives is the table store; the commands that wait and the count of free values drawn are
the model's own and stand. -/
def State.powerOn (s : State) : State :=
  let i := s.mgmt.image
  let t :=
    if i.loads then (State.fresh i.content true i).event .management 8 0 11 (some i.crc)
    else (State.fresh unconfiguredTables false { i with valid := false }).event .management 12 0 12 none
  let u := (t.event .transfer 9 0 13 none).modCapture (fun c => { c with edges := t.powerOnRises })
  { u.driveHealthy with pending := s.pending, free := s.free }

end Sys2Proof.Machine
end

