-- ==== Sys2Proof/Machine/LinkCommands.lean ====
section
/-! DEFINITION. The commands of start-up and of the link ports: power-on, frames that go no further than the port
they arrive at, the fall of a link and the transmission of a frame. -/

namespace Sys2Proof.Machine

/-- POWER_ON (R187). -/
def execPowerOn (s : State) : Host.Outcome State Fault Refusal := .next s.powerOn

/-- MALFORMED_FRAME (R4, R5). -/
def execMalformedFrame (l : Link) (f : RawFrame) (s : State) :
    Host.Outcome State Fault Refusal :=
  finish s (s.receiveMalformed l f)

/-- IGNORED_FRAME (R1, R4, R6, R7). -/
def execIgnoredFrame (l : Link) (f : RawFrame) (s : State) :
    Host.Outcome State Fault Refusal :=
  finish s (s.receiveIgnored l f)

/-- SECOND_COPY (R4, R8). -/
def execSecondCopy (l : Link) (f : RawFrame) (s : State) :
    Host.Outcome State Fault Refusal :=
  finish s (s.receiveSecond l f)

/-- LINK_DOWN (R1, R2). -/
def execLinkDown (l : Link) (s : State) : Host.Outcome State Fault Refusal := finish s (s.dropLink l)

/-- TRANSMIT_FRAME (R12, R13, R15). -/
def execTransmitFrame (l : Link) (s : State) : Host.Outcome State Fault Refusal := finish s (s.transmit l)

end Sys2Proof.Machine
end

