-- ==== Sys2Proof/Machine/ReadState.lean ====
section
/-! DEFINITION. READ-STATE (R179) and the contents of its areas (R18, R38, R52, R79, R95, R118, R144, R169, R176,
R177). A field holds a number below 2^32; a value that needs a code follows the coding list of R179, and where
that leaves a choice, log entry 15. -/

namespace Sys2Proof.Machine

/-! ### How values become fields (R179) -/

def flagField (b : Bool) : List Nat := [bitVal b 0]

def signedField (x : Int) : List Nat := [unsignedOf 32 x]

/-- A value that may be none. -/
def optField (v : Option Nat) : List Nat := [v.getD Config.noneValue]

def labelField (l : Label) : List Nat := [l.second, l.index]

def optLabel (l : Option Label) : List Nat := l.elim [Config.noneValue, Config.noneValue] labelField

/-- A value wider than 32 bits: the low 32 bits first. -/
def wideField (n : Nat) : List Nat := [n % 2 ^ 32, n / 2 ^ 32]

/-- A list of varying length: its count and its members. -/
def listField (ns : List Nat) : List Nat := ns.length :: ns

/-- The fields of one entry, ids from 1. -/
def numbered (vs : List Nat) : Entry := (idRun 1 vs.length).zip vs

/-- The index of the entry that holds the values of an area as a whole. -/
def areaIndex : Nat := 0xFFFF

/-! ### Codes of enumerated values -/

/-- The state of a stream, in the order of the record table of 2.1, since no numbered rule lists all five (DESIGN CHOICE, log
entry 15). -/
def StreamState.code : StreamState → Nat
  | .disabled => 0
  | .acquiring => 1
  | .locked => 2
  | .holding => 3
  | .stale => 4

def Condition.code : Condition → Nat
  | .fresh => 0
  | .held => 1
  | .invalid => 2

/-- The time state, in the order of the unnumbered table of 2.3, since no numbered rule lists the three: R25 names
UNSET alone, and R26 and R36 name TRACKING first (DESIGN CHOICE, log entry 15). -/
def TimeState.code : TimeState → Nat
  | .unset => 0
  | .tracking => 1
  | .holdover => 2

/-- A pending slew and its direction, 0 to withhold and 1 to double. -/
def slewFields : Slew → List Nat
  | .none => [0, Config.noneValue]
  | .withhold => [1, 0]
  | .double => [1, 1]

/-- An element's state and its block cause. -/
def elementStateFields : ElementState → List Nat
  | .disabled => [0, Config.noneValue]
  | .settling => [1, Config.noneValue]
  | .armed => [2, Config.noneValue]
  | .pickedUp => [3, Config.noneValue]
  | .operated => [4, Config.noneValue]
  | .blocked .point => [5, 0]
  | .blocked .input => [5, 2]
  | .blocked .supervision => [5, 3]

def Bank.code : Bank → Nat
  | .a => 0
  | .b => 1

def CloseKind.code : CloseKind → Nat
  | .plain => 0
  | .sync => 1
  | .dead => 2

/-- A generator by its number, the sequencer as 8 and the operator as 9. -/
def Requester.code : Requester → Nat
  | .party p => p.number
  | .operator => 9

def Phase.code : Phase → Nat
  | .queued => 0
  | .sent => 1
  | .accepted => 2

def BfState.code : BfState → Nat
  | .idle => 0
  | .timing => 1
  | .retripped => 2
  | .backupIssued => 3

/-- A member of a trip demand set: its element, 64 for STATION_TRIP, 65 more than the breaker of a BACKUP, 89
for PARALLEL_LIMIT. -/
def memberCode : Member → Nat
  | .element e => e
  | .stationTrip => 64
  | .backup a => 65 + a
  | .parallelLimit => 89

def ExchangeState.field : ExchangeState → List Nat
  | .none => [Config.noneValue]
  | .awaitBase => [0]
  | .receiving => [1]
  | .done => [2]
  | .undeclared => [3]

/-! ### The areas -/

/-- Link port (R18). -/
def linkFields (p : LinkPort) : List Nat :=
  [if p.up then 0 else 1, p.silence, p.taken, p.malformed, p.ignored, p.second, p.mirrorDropped, p.withheld,
    p.urgent.length, p.normal.length, (p.bulk.filterMap BulkPlace.frame?).length,
    (p.bulk.filter (fun x => x.frame?.isNone)).length]

/-- Stream (R38). That rule names the five counters alone; their order is that of the record table of 2.1 (DESIGN CHOICE,
log entry 15). -/
def streamFields (r : StreamRec) : List Nat :=
  [r.state.code] ++ optLabel r.lastDelivered ++ optField r.lastSeq ++
    r.quantities.flatMap (fun q => [q.condition.code, q.missing, q.fresh] ++ flagField q.questionable) ++
    [r.delivered, r.duplicate, r.late, r.early, r.gaps] ++ flagField r.valid

/-- The aligner (R38). -/
def State.timeFields (s : State) : List Nat :=
  [s.aligner.time.code] ++ labelField s.aligner.counter ++ wideField s.aligner.closingPoint ++
    [s.station 8, s.aligner.timeout] ++ slewFields s.aligner.slew ++
    [s.aligner.unlocked, s.aligner.steps, s.aligner.seedings]

/-- One stream's measurements (R52). -/
def measureFields (m : StreamMeasure) : List Nat :=
  m.phasors.flatMap (fun p =>
    signedField p.re ++ signedField p.im ++ [p.magnitude] ++ flagField p.valid ++ optLabel p.asOf) ++
    [m.tracker.frequency] ++ flagField m.tracker.valid ++ [m.tracker.closures] ++ optField m.tracker.reference ++
    [m.tracker.silence, m.tracker.accepted, m.tracker.discarded] ++ signedField m.power ++ flagField m.powerValid

/-- Element `e` (R79). -/
def State.elementFields (s : State) (e : Nat) : List Nat :=
  let r := s.element e
  elementStateFields r.state ++ [r.bank.code, r.delay, r.accumulator, r.settle, r.hold] ++
    flagField (s.point (112 + e)) ++ flagField (s.point (48 + e)) ++ signedField r.lastX ++ [r.operations]

/-- The hardwired lines and the interlocks (R95). HEALTHY is returned as its conditions give it at this moment (R94). -/
def State.lineFields (s : State) : List Nat :=
  (List.range 32).flatMap (fun x => flagField (s.expression x)) ++ flagField s.lines.lockoutPin ++
    optField (s.lines.lastSample.map (fun b => bitVal b 0)) ++ flagField s.lines.lockout ++
    flagField s.lines.tripPin ++ flagField s.lines.tripLatch ++ [s.lines.tripEdges] ++ flagField s.healthyNow

/-- The command slot (R118). The tag and the timer of a close that is QUEUED-FOR-RELEASE are returned as 0, not as none
(DESIGN CHOICE, log entry 15). -/
def slotFields : Option Command → List Nat
  | none => List.replicate 8 Config.noneValue
  | some c =>
    [c.action.code,
      (if c.action == .closing then c.closeKind.code else Config.noneValue),
      (if c.action == .closing then c.requester.code else Config.noneValue), c.tag, c.origins.byte, c.phase.code] ++
      flagField c.left ++ [c.timer]

/-- Breaker `b` (R118). The members of its trip demand set come in the order of joining, and of a BF timer the low 32 bits
(DESIGN CHOICE, log entries 15 and 23). -/
def State.breakerFields (s : State) (b : Nat) : List Nat :=
  let r := s.brk b
  flagField (s.brkConfigured b) ++ flagField (s.isolated b) ++
    [r.position.code] ++ optField (r.candidate.map Reported.code) ++ [r.fieldPosition.code] ++
    flagField r.health.tripCircuit ++ flagField r.health.spring ++ flagField r.health.localControl ++
    flagField r.unresponsive ++ slotFields r.slot ++ listField (r.trips.map memberCode) ++
    [r.bf.code, r.bfTimer, r.bfOrigins.byte] ++ optField (r.lastOutcome.map Outcome.value) ++
    [r.issued] ++ r.outcomes ++ [r.reports, r.refusals]

/-- The sequencer's state, with plan and step index or halt reason (R144). -/
def seqStateFields : SeqState → List Nat
  | .init => [0, Config.noneValue, Config.noneValue, Config.noneValue]
  | .idle _ => [1, Config.noneValue, Config.noneValue, Config.noneValue]
  | .noLineup => [2, Config.noneValue, Config.noneValue, Config.noneValue]
  | .running r => [if r.parallel.isSome then 4 else 3, r.plan, r.step, Config.noneValue]
  | .halted y => [5, Config.noneValue, Config.noneValue, y.code]
  | .lockedOut => [6, Config.noneValue, Config.noneValue, Config.noneValue]

/-- The run record (R144). A parallel timer that is stopped, by PARALLEL_END too, is returned as none (DESIGN CHOICE, log entry
15), and of a timer that outgrows them the low 32 bits are (DESIGN CHOICE, log entries 15 and 21). -/
def runFields : Option PlanRun → List Nat
  | none => List.replicate 5 Config.noneValue
  | some r =>
    [r.cause.value, r.timer] ++ optField r.parallel ++ optField r.departing ++ flagField r.stopMark

/-- Source (R144). -/
def sourceFields (r : SourceRec) : List Nat :=
  [r.state.code] ++ optField (r.previous.map SourceState.code) ++ [r.delay] ++
    optField (r.governing.map SourceState.code)

def pendingFields : Option AutoRequest → List Nat
  | none => List.replicate 4 Config.noneValue
  | some a => [a.rule, a.plan, a.source, a.condition]

/-- The sequencer (R144). A current line-up of none is returned as 8, its event value (R124), and not as the code of none
(DESIGN CHOICE, log entry 15). The value of the last STEP_FAILED event is none before the first since power-on (DESIGN CHOICE,
log entry 3). -/
def State.seqFields (s : State) : List Nat :=
  seqStateFields s.seq.state ++ runFields s.run? ++ [s.seq.lineup.code] ++
    s.seq.sources.flatMap sourceFields ++ pendingFields s.seq.slot ++ [s.station 10] ++
    flagField s.seq.autoEffective ++ [s.par.demand] ++ optField s.seq.lastStepFailed

def setpointFields : Option Setpoint → List Nat
  | none => List.replicate 6 Config.noneValue
  | some p =>
    [if p.start then 1 else 2] ++ flagField p.baseLoaded ++ signedField p.speedBias ++
      signedField p.voltageBias ++ [p.target, p.ramp]

/-- Generator `g` (R169). Its timers are the six that R148 lists; the gap timer of the exchange record is not among them
(DESIGN CHOICE, log entry 15). Of the ONLINE timer, as of any other timer without a width, the low 32 bits are
returned (DESIGN CHOICE, log entries 15 and 21). -/
def State.genFields (s : State) (g : Nat) : List Nat :=
  let r := s.gen g
  [r.state.code] ++ flagField r.status.running ++ flagField r.status.atRated ++ flagField r.status.biasMode ++
    flagField r.status.loadMode ++ flagField r.status.fault ++ signedField r.status.kw ++ [r.absentTimer] ++
    r.exchange.state.field ++ [r.exchange.controllerSet.byte, r.common.byte] ++
    [r.params.rating, r.params.minLoad, r.params.ramp, r.params.biasLimit] ++ flagField r.deferred ++
    [r.deadFailures, r.closeFailures] ++
    [r.startTimer, r.retryTimer, r.onlineTimer, r.unloadTimer, r.deadTimer, r.refreshTimer] ++
    setpointFields (s.setpointOf g)

/-- A sync channel (R169). θ, slip and advance of a run that has yet to be evaluated are returned as none (DESIGN CHOICE, log
entry 15). -/
def channelFields : Option SyncRun → List Nat
  | none => List.replicate 7 Config.noneValue
  | some r =>
    [r.client.number, if r.phase == .running then 0 else 1, r.qualify] ++ flagField r.ready ++
      optField (r.theta.map (unsignedOf 32)) ++ optField (r.slip.map (unsignedOf 32)) ++
      optField (r.advance.map (unsignedOf 32))

/-- The values of the GENERATORS area as a whole (R169). -/
def State.parFields (s : State) : List Nat :=
  [s.par.demand] ++ listField s.startOrder ++ optField (s.par.token.map Party.number) ++
    listField (s.par.tokenList.map Party.number) ++ listField s.par.waitList

/-- Capture (R176). -/
def State.captureFields (s : State) : List Nat :=
  [s.capture.state.code, s.capture.buffer.length] ++ optField s.capture.triggerPoint ++
    optLabel s.capture.triggerLabel ++ optField s.capture.triggerIndex ++ [s.capture.ring.length, s.capture.refused]

/-- The event queue (R176). -/
def State.eventFields (s : State) : List Nat :=
  [s.events.records.length, (s.events.records.filter (fun r => !r.sent)).length] ++
    optField (s.events.records.head?.map (·.seq)) ++ [s.events.nextSeq] ++ wideField s.events.overwritten

/-- A staging area in two fields: the code of its state, in the order of the unnumbered table of 10.3, and the segment number
that FILLING expects, or none (DESIGN CHOICE, log entry 15). -/
def stagingFields (a : Staging) : List Nat :=
  match a.state with
  | .empty => [0, Config.noneValue]
  | .filling n => [1, n]
  | .complete => [2, Config.noneValue]
  | .committing _ => [3, Config.noneValue]

/-- The request now in flight (R177), for which area MANAGEMENT returns its kind alone, in one field, also where two COMMITs
wait (DESIGN CHOICE, log entry 15). -/
def State.kindInFlight (s : State) : Option Nat :=
  if s.mgmt.restart.isSome then some 11
  else if s.mgmt.store.isSome then some 10
  else if s.commitInFlight then some 3
  else none

/-- The management unit and the table store (R177, R186). The image state and the store phase are numbered in the order of the
unnumbered table of 11.1 (DESIGN CHOICE, log entry 15). -/
def State.mgmtFields (s : State) : List Nat :=
  [s.mgmt.taken] ++ s.mgmt.statusCounts ++ s.mgmt.staging.flatMap stagingFields ++ optField s.kindInFlight ++
    [if s.mgmt.image.valid then 0 else 1, s.mgmt.image.crc, if s.mgmt.store.isSome then 1 else 0,
      s.mgmt.storesCompleted]

/-- The entries of one object each. -/
def objects (n : Nat) (f : Nat → List Nat) : Staged := (List.range n).map (fun i => (i, numbered (f i)))

/-- An area: its entry as a whole, if it has one, and the entries of its objects (R179). -/
def State.area (s : State) (n : Nat) : Option (Option Entry × Staged) :=
  match n with
  | 0 => some (none, [(0, numbered (linkFields s.links.a)), (1, numbered (linkFields s.links.b))])
  | 1 => some (some (numbered [s.intake.unmatched, s.intake.outOfRange]), objects 16 (fun k => streamFields (s.stream k)))
  | 2 => some (none, [(0, numbered s.timeFields)])
  | 3 => some (none, objects 16 (fun k => measureFields (s.measure k)))
  | 4 => some (none, objects 64 s.elementFields)
  | 5 =>
    let vs := (s.image.map (fun b => bitVal b 0)) ++ s.lineFields
    some (none, [(0, numbered (vs.take 255)), (1, numbered (vs.drop 255))])
  | 6 => some (some (numbered [s.breakers.unmatched]), objects 24 s.breakerFields)
  | 7 => some (none, [(0, numbered s.seqFields)])
  | 8 =>
    some (some (numbered s.parFields),
      objects 12 (fun i => if i < 8 then s.genFields i else channelFields (s.channel (i - 8))))
  | 9 => some (none, [(0, numbered s.captureFields)])
  | 10 => some (none, [(0, numbered s.eventFields)])
  | 11 => some (none, [(0, numbered s.mgmtFields)])
  | _ => none

/-- The entries of an area from a first index on; the entry of the area as a whole comes first from index 0. -/
def areaFrom (first : Nat) (a : Option Entry × Staged) : Staged :=
  (match first, a.1 with
  | 0, some e => [(areaIndex, e)]
  | _, _ => []) ++ entriesFrom first a.2

/-- READ-STATE (R179). -/
def State.readArea (q : Request) (s : State) : State × Option Reply :=
  match s.area q.target with
  | none => (s, some (Reply.badArgument targetArgument))
  | some a => s.pageReply (areaFrom q.argA a)

end Sys2Proof.Machine
end

