-- ==== Sys2Proof/Machine/ManagementCommands.lean ====
section
/-! DEFINITION. The commands of the management unit but for OPERATE (R178): tables, state, latches, events,
capture, the table store and the warm restart. -/

namespace Sys2Proof.Machine

/-- READ_TABLE (R179). -/
def execReadTable (l : Link) (q : Request) (s : State) : Host.Outcome State Fault Refusal :=
  finish s (s.serve l 1 false q (fun _ t => t.withTable q (State.readTable q)))

/-- WRITE_SEGMENT (R180). -/
def execWriteSegment (l : Link) (q : Request) (s : State) : Host.Outcome State Fault Refusal :=
  finish s (s.serve l 2 false q (fun _ t => t.withTable q (State.writeSegment q)))

/-- COMMIT (R182, R183). -/
def execCommit (l : Link) (q : Request) (s : State) : Host.Outcome State Fault Refusal :=
  finish s (s.serve l 3 false q (fun k t => t.withTable q (State.commitTable k q)))

/-- DISCARD (R181). -/
def execDiscard (l : Link) (q : Request) (s : State) : Host.Outcome State Fault Refusal :=
  finish s (s.serve l 4 false q (fun _ t => t.withTable q State.discardStaging))

/-- READ_STATE (R179). It is served during a restart, and reports the level at which the LOCKOUT pin stands. -/
def execReadState (l : Link) (q : Request) (lockoutPin : Bool) (s : State) : Host.Outcome State Fault Refusal :=
  finish s (s.serve l 5 true q (fun _ t =>
    State.readArea q (t.modLines (fun x => { x with lockoutPin := lockoutPin }))))

/-- READ_LATCHES (R184). It is served during a restart. -/
def execReadLatches (l : Link) (q : Request) (s : State) : Host.Outcome State Fault Refusal :=
  finish s (s.serve l 6 true q (fun _ t => t.readLatches))

/-- READ_EVENTS (R172). It is served during a restart. -/
def execReadEvents (l : Link) (q : Request) (s : State) : Host.Outcome State Fault Refusal :=
  finish s (s.serve l 8 true q (fun _ t => State.readEvents q t))

/-- READ_CAPTURE (R176). -/
def execReadCapture (l : Link) (q : Request) (s : State) : Host.Outcome State Fault Refusal :=
  finish s (s.serve l 9 false q (fun _ t => State.readCapture q t))

/-- STORE (R186). -/
def execStore (l : Link) (q : Request) (s : State) : Host.Outcome State Fault Refusal :=
  finish s (s.serve l 10 false q State.acceptStore)

/-- STORE_COMPLETE (R186): the image has been read back, and its CRC is the one given. -/
def execStoreComplete (readBack : Nat) (s : State) : Host.Outcome State Fault Refusal :=
  finish s (State.completeStore readBack s)

/-- RESTART (R188). -/
def execRestart (l : Link) (q : Request) (s : State) : Host.Outcome State Fault Refusal :=
  finish s (s.serve l 11 false q (fun _ t => t.startRestart))

/-- BLOCK_RESTART (R188, R189). -/
def execBlockRestart (k : Block) (s : State) : Host.Outcome State Fault Refusal :=
  finish s (State.blockRestart k s)

end Sys2Proof.Machine
end

