-- ==== Sys2Proof/Machine/OperateCommands.lean ====
section
/-! DEFINITION. The operator's commands: one for each OPERATE kind (R185), and one for the kinds not listed. -/

namespace Sys2Proof.Machine

/-- Take an OPERATE request. -/
def State.operate (s : State) (l : Link) (q : Request) (work : State → State × Option Reply) : State :=
  s.serve l 7 false q (fun _ t => work t)

/-- A DONE answer of the kinds whose taking is recorded: the OPERATOR_ACTION event (R185). -/
def State.operatorDone (s : State) (q : Request) (r : Reply) : State × Option Reply :=
  (s.event .management 7 q.target 8 (some q.argA), some r)

/-! ### BREAKER-OPEN and BREAKER-CLOSE (R185) -/

/-- The breaker controller's answer as a reply. -/
def Answer.reply : Answer → Reply
  | .taken tag => { detailB := tag }
  | .merged tag => { detailA := 1, detailB := tag }
  | .done => { detailA := 2 }
  | .already => { detailA := 3 }
  | .busy => Reply.of .busy
  | .refused .lockout => { status := .locked, detailB := 3 }
  | .refused y => { status := .notPermitted, detailB := y.code }

/-- What follows the breaker controller's answer. -/
def State.afterAnswer (q : Request) (r : State × Answer) : State × Option Reply :=
  if r.2.reply.status == .done then r.1.operatorDone q r.2.reply else (r.1, some r.2.reply)

def State.operatorOpen (q : Request) (s : State) : State × Option Reply :=
  if 24 ≤ q.argA then (s, some (Reply.badArgument argumentA))
  else State.afterAnswer q (s.openRequest q.argA { operator := true } none)

def State.operatorClose (q : Request) (s : State) : State × Option Reply :=
  if 24 ≤ q.argA then (s, some (Reply.badArgument argumentA))
  else State.afterAnswer q (s.closeRequest q.argA .plain .operator { operator := true } none)

/-- BREAKER_OPEN (R101, R185). -/
def execBreakerOpen (l : Link) (q : Request) (s : State) : Host.Outcome State Fault Refusal :=
  finish s (s.operate l q (State.operatorOpen q))

/-- BREAKER_CLOSE (R102, R185). -/
def execBreakerClose (l : Link) (q : Request) (s : State) : Host.Outcome State Fault Refusal :=
  finish s (s.operate l q (State.operatorClose q))

/-! ### The sequencer's kinds (R138, R141) -/

def State.runPlan (q : Request) (s : State) : State × Option Reply :=
  if 16 ≤ q.argA then (s, some (Reply.badArgument argumentA))
  else
    match s.seq.state with
    | .lockedOut => (s, some (Reply.of .locked))
    | .running _ => (s, some (Reply.of .busy))
    | .init => (s, some (Reply.of .notPermitted))
    | .halted _ => (s, some (Reply.of .notPermitted))
    | _ =>
      if s.planDefined q.argA && s.planFrom q.argA then
        (s.startPlan q.argA .operator, some (Reply.of .done))
      else (s, some (Reply.of .notPermitted))

/-- RUN_PLAN (R141). -/
def execRunPlan (l : Link) (q : Request) (s : State) : Host.Outcome State Fault Refusal :=
  finish s (s.operate l q (State.runPlan q))

/-- The active STATION table with a field written. -/
def State.withStationField (s : State) (id v : Nat) : State :=
  s.setTable .station ((s.table .station).map (fun e => e.map (fun f => if f.1 == id then (id, v) else f)))

/-- SET-AUTO writes the stored flag; a change of it is recorded and recomputes AUTO_TRANSFER_EFFECTIVE (R83, R138). -/
def State.setAuto (q : Request) (s : State) : State × Option Reply :=
  if 1 < q.argA then (s, some (Reply.badArgument argumentA))
  else
    let old := s.station 10
    let t := s.withStationField 10 q.argA
    (if old == q.argA then t else (t.event .transfer 7 0 11 (some q.argA)).recomputeAuto, some { detailA := old })

/-- SET_AUTO (R138). -/
def execSetAuto (l : Link) (q : Request) (s : State) : Host.Outcome State Fault Refusal :=
  finish s (s.operate l q (State.setAuto q))

def State.acknowledgeHalt (s : State) : State × Option Reply :=
  match s.seq.state with
  | .halted y =>
    if s.lines.tripLatch then (s, some (Reply.of .notPermitted))
    else ((s.event .transfer 7 0 15 none).goLineup, some { detailA := y.code })
  | _ => (s, some (Reply.of .notPermitted))

/-- ACKNOWLEDGE_HALT (R141). -/
def execAcknowledgeHalt (l : Link) (q : Request) (s : State) : Host.Outcome State Fault Refusal :=
  finish s (s.operate l q State.acknowledgeHalt)

/-! ### The paralleling unit's kinds (R152, R154, R167) -/

/-- The demand count is written, and the answer gives the earlier one. -/
def State.operatorDemand (q : Request) (s : State) : State × Option Reply :=
  (s.writeDemand q.argA).operatorDone q { detailA := s.par.demand }

def State.startGens (q : Request) (s : State) : State × Option Reply :=
  if 8 < q.argA then (s, some (Reply.badArgument argumentA))
  else if s.run?.isSome then (s, some (Reply.of .busy))
  else if s.lines.tripLatch || q.argA < s.par.demand then (s, some (Reply.of .notPermitted))
  else s.operatorDemand q

def State.stopGens (q : Request) (s : State) : State × Option Reply :=
  if 8 < q.argA then (s, some (Reply.badArgument argumentA))
  else if s.run?.isSome then (s, some (Reply.of .busy))
  else if s.par.demand < q.argA then (s, some (Reply.of .notPermitted))
  else s.operatorDemand q

/-- START_GENS (R154). -/
def execStartGens (l : Link) (q : Request) (s : State) : Host.Outcome State Fault Refusal :=
  finish s (s.operate l q (State.startGens q))

/-- STOP_GENS (R154). -/
def execStopGens (l : Link) (q : Request) (s : State) : Host.Outcome State Fault Refusal :=
  finish s (s.operate l q (State.stopGens q))

def State.clearGenFault (q : Request) (s : State) : State × Option Reply :=
  let r := s.gen q.argA
  if 8 ≤ q.argA then (s, some (Reply.badArgument argumentA))
  else if r.state != .fault then (s, some (Reply.of .notPermitted))
  else if r.status.running || r.status.fault || s.genPosition q.argA != .opened then
    (s, some (Reply.of .notPermitted))
  else
    ((s.modGen q.argA (fun r => { r with deadFailures := 0, closeFailures := 0 })).genEnter
      q.argA .standby).operatorDone q (Reply.of .done)

/-- CLEAR_GEN_FAULT (R167). -/
def execClearGenFault (l : Link) (q : Request) (s : State) : Host.Outcome State Fault Refusal :=
  finish s (s.operate l q (State.clearGenFault q))

def State.operatorRenegotiate (q : Request) (s : State) : State × Option Reply :=
  if 8 ≤ q.argA then (s, some (Reply.badArgument argumentA))
  else if !s.genConfigured q.argA || (s.gen q.argA).state == .absent then (s, some (Reply.of .notPermitted))
  else if (s.gen q.argA).state.keepsAbilities then
    (s.modGen q.argA (fun r => { r with deferred := true })).operatorDone q (Reply.of .done)
  else (s.renegotiate q.argA).operatorDone q (Reply.of .done)

/-- RENEGOTIATE (R152). -/
def execRenegotiate (l : Link) (q : Request) (s : State) : Host.Outcome State Fault Refusal :=
  finish s (s.operate l q (State.operatorRenegotiate q))

/-! ### The station trip latch, SOFT points and capture (R86, R93, R176) -/

/-- The latch is cleared: STATION_TRIP is asked to leave every set that holds it, or that it is on its way to. -/
def State.clearLatch (s : State) : State :=
  let t := s.modLines (fun l => { l with tripLatch := false })
  let holders := (List.range 24).filter (fun b =>
    (t.brk b).trips.contains .stationTrip || t.addOutstanding b .stationTrip)
  (t.forEach holders (fun b u => u.askRemove b .stationTrip)).event .management 8 1 5 none

def State.clearStationTrip (s : State) : State × Option Reply :=
  if !s.lines.tripPin then (s, some (Reply.of .notPermitted))
  else if s.lines.tripLatch then (s.clearLatch, some { detailA := 1 })
  else (s, some { detailA := 0 })

/-- CLEAR_STATION_TRIP (R93). -/
def execClearStationTrip (l : Link) (q : Request) (s : State) : Host.Outcome State Fault Refusal :=
  finish s (s.operate l q State.clearStationTrip)

/-- SET-POINT: the point number is tested before the value, in the order of the lines of R86 (DESIGN CHOICE, log entry
25). -/
def State.setPoint (q : Request) (s : State) : State × Option Reply :=
  if q.argA < 240 || 255 < q.argA then (s, some (Reply.of .notPermitted))
  else if 1 < q.argB then (s, some (Reply.badArgument argumentB))
  else
    let old := s.point q.argA
    let new := q.argB == 1
    let t :=
      if old == new then s
      else (s.modMgmt (fun m => { m with soft := m.soft.set (q.argA - 240) new })).event .management 5 q.argA 1
        (some q.argB)
    (t, some { detailA := q.argA, detailB := bitVal old 0 })

/-- SET_POINT (R86). -/
def execSetPoint (l : Link) (q : Request) (s : State) : Host.Outcome State Fault Refusal :=
  finish s (s.operate l q (State.setPoint q))

/-- RELEASE_CAPTURE (R176). -/
def execReleaseCapture (l : Link) (q : Request) (s : State) : Host.Outcome State Fault Refusal :=
  finish s (s.operate l q (fun t => (t.releaseCapture, some { detailA := t.capture.state.code })))

/-- OPERATE_KIND_NOT_LISTED (R185). -/
def execOperateKindNotListed (l : Link) (q : Request) (s : State) : Host.Outcome State Fault Refusal :=
  finish s (s.operate l q (fun t => (t, some (Reply.badArgument targetArgument))))

end Sys2Proof.Machine
end

