-- ==== Sys2Proof/Machine/SequencerCommands.lean ====
section
/-! DEFINITION. The commands of the changeover sequencer (R121 to R139). -/

namespace Sys2Proof.Machine

/-- SOURCE_FAIL_DELAY_EXPIRY (R121). -/
def execSourceFailDelayExpiry (x : SourceId) (s : State) : Host.Outcome State Fault Refusal :=
  finish s (s.failExpiry x.number)

/-- SOURCE_RESTORE_DELAY_EXPIRY (R121). -/
def execSourceRestoreDelayExpiry (x : SourceId) (s : State) : Host.Outcome State Fault Refusal :=
  finish s (s.restoreExpiry x.number)

/-- SEQ_LOCKOUT_CHANGE (R139): the sequencer takes its oldest change of LOCKOUT. -/
def execSeqLockoutChange (s : State) : Host.Outcome State Fault Refusal := finish s s.takeLockoutChange

/-- LINEUP_CHANGE (R124, R125), where a watched breaker's position has changed. -/
def execLineupChange (s : State) : Host.Outcome State Fault Refusal :=
  finish s (if s.seq.lineupDue then s.followLineup else s)

/-- STEP_TIMEOUT (R128). -/
def execStepTimeout (s : State) : Host.Outcome State Fault Refusal := finish s s.stepExpiry

/-- WAIT_TIME_EXPIRY (R132). -/
def execWaitTimeExpiry (s : State) : Host.Outcome State Fault Refusal := finish s s.timeWaited

/-- WAIT_POINT_MET (R132). -/
def execWaitPointMet (s : State) : Host.Outcome State Fault Refusal := finish s s.pointMet

/-- DEAD_TERM_HOLDS (R131). -/
def execDeadTermHolds (s : State) : Host.Outcome State Fault Refusal := finish s s.deadTermMet

/-- SYNC_RETRY (R130). -/
def execSyncRetry (s : State) : Host.Outcome State Fault Refusal := finish s s.seqRetry

/-- PARALLEL_LIMIT (R133). -/
def execParallelLimit (s : State) : Host.Outcome State Fault Refusal := finish s s.limitParallel

end Sys2Proof.Machine
end

