-- ==== Sys2Proof/Machine/StreamCommands.lean ====
section
/-! DEFINITION. The commands of the stream intake, the aligner and capture: SAMPLE and TIME frames, the advance of
the counter, the closure of an instant and the trigger of a capture. -/

namespace Sys2Proof.Machine

/-- SAMPLE_FRAME (R9, R23, R24, R29). -/
def execSampleFrame (l : Link) (h : Header) (f : SampleBody) (s : State) : Host.Outcome State Fault Refusal :=
  finish s (s.receive l .sample h (State.takeSample h f))

/-- TIME_FRAME (R26 to R28). -/
def execTimeFrame (l : Link) (h : Header) (f : TimeBody) (s : State) : Host.Outcome State Fault Refusal :=
  finish s (s.receive l .time h (State.takeTime f))

/-- TIME_HOLDOVER (R26, R36). -/
def execTimeHoldover (s : State) : Host.Outcome State Fault Refusal := finish s s.holdover

/-- INSTANT_ADVANCE (R25, R27). -/
def execInstantAdvance (s : State) : Host.Outcome State Fault Refusal := finish s s.advanceInstant

/-- INSTANT_CLOSURE (R30). The LOCKOUT pin stands at the level given. -/
def execInstantClosure (lockoutPin : Bool) (s : State) : Host.Outcome State Fault Refusal :=
  finish s (s.closeInstant lockoutPin)

/-- CAPTURE_TRIGGER (R175). -/
def execCaptureTrigger (p : Nat) (s : State) : Host.Outcome State Fault Refusal := finish s (s.captureTrigger p)

end Sys2Proof.Machine
end

