-- ==== Sys2Proof/Machine/Dispatch.lean ====
section
/-! DEFINITION. Dispatch: one arm for each command, each a call of its own meaning. -/

namespace Sys2Proof.Machine

def exec (i : Instr) (s : State) : Host.Outcome State Fault Refusal :=
  match i with
  | .powerOn => Sys2Proof.Machine.execPowerOn s
  | .malformedFrame l f => Sys2Proof.Machine.execMalformedFrame l f s
  | .ignoredFrame l f => Sys2Proof.Machine.execIgnoredFrame l f s
  | .secondCopy l f => Sys2Proof.Machine.execSecondCopy l f s
  | .linkDown l => Sys2Proof.Machine.execLinkDown l s
  | .transmitFrame l => Sys2Proof.Machine.execTransmitFrame l s
  | .sampleFrame l h f => Sys2Proof.Machine.execSampleFrame l h f s
  | .timeFrame l h f => Sys2Proof.Machine.execTimeFrame l h f s
  | .timeHoldover => Sys2Proof.Machine.execTimeHoldover s
  | .instantAdvance => Sys2Proof.Machine.execInstantAdvance s
  | .sourceFailDelayExpiry x => Sys2Proof.Machine.execSourceFailDelayExpiry x s
  | .sourceRestoreDelayExpiry x => Sys2Proof.Machine.execSourceRestoreDelayExpiry x s
  | .instantClosure lockoutPin => Sys2Proof.Machine.execInstantClosure lockoutPin s
  | .captureTrigger p => Sys2Proof.Machine.execCaptureTrigger p s
  | .positionFrame l h f => Sys2Proof.Machine.execPositionFrame l h f s
  | .tripDemandAdd b m => Sys2Proof.Machine.execTripDemandAdd b m s
  | .tripDemandRemove b m => Sys2Proof.Machine.execTripDemandRemove b m s
  | .responseTimeout b => Sys2Proof.Machine.execResponseTimeout b s
  | .limitTimeout b => Sys2Proof.Machine.execLimitTimeout b s
  | .simulatedCompletion b => Sys2Proof.Machine.execSimulatedCompletion b s
  | .bfRetrip b => Sys2Proof.Machine.execBfRetrip b s
  | .bfBackup b => Sys2Proof.Machine.execBfBackup b s
  | .stationTripEdge => Sys2Proof.Machine.execStationTripEdge s
  | .seqLockoutChange => Sys2Proof.Machine.execSeqLockoutChange s
  | .lineupChange => Sys2Proof.Machine.execLineupChange s
  | .stepTimeout => Sys2Proof.Machine.execStepTimeout s
  | .waitTimeExpiry => Sys2Proof.Machine.execWaitTimeExpiry s
  | .waitPointMet => Sys2Proof.Machine.execWaitPointMet s
  | .deadTermHolds => Sys2Proof.Machine.execDeadTermHolds s
  | .syncRetry => Sys2Proof.Machine.execSyncRetry s
  | .parallelLimit => Sys2Proof.Machine.execParallelLimit s
  | .genstatusFrame l h f => Sys2Proof.Machine.execGenstatusFrame l h f s
  | .abilityFrame l h f => Sys2Proof.Machine.execAbilityFrame l h f s
  | .genAbsentTimeout g => Sys2Proof.Machine.execGenAbsentTimeout g s
  | .abilityGapTimeout g => Sys2Proof.Machine.execAbilityGapTimeout g s
  | .gensetRefresh g => Sys2Proof.Machine.execGensetRefresh g s
  | .demandEvaluation => Sys2Proof.Machine.execDemandEvaluation s
  | .startTimeout g => Sys2Proof.Machine.execStartTimeout g s
  | .retryTimerExpiry g => Sys2Proof.Machine.execRetryTimerExpiry g s
  | .deadCheckTimeout g => Sys2Proof.Machine.execDeadCheckTimeout g s
  | .syncCorrection c => Sys2Proof.Machine.execSyncCorrection c s
  | .loadSharing => Sys2Proof.Machine.execLoadSharing s
  | .readTable l q => Sys2Proof.Machine.execReadTable l q s
  | .writeSegment l q => Sys2Proof.Machine.execWriteSegment l q s
  | .commit l q => Sys2Proof.Machine.execCommit l q s
  | .discard l q => Sys2Proof.Machine.execDiscard l q s
  | .readState l q lockoutPin => Sys2Proof.Machine.execReadState l q lockoutPin s
  | .readLatches l q => Sys2Proof.Machine.execReadLatches l q s
  | .readEvents l q => Sys2Proof.Machine.execReadEvents l q s
  | .readCapture l q => Sys2Proof.Machine.execReadCapture l q s
  | .store l q => Sys2Proof.Machine.execStore l q s
  | .storeComplete readBack => Sys2Proof.Machine.execStoreComplete readBack s
  | .restart l q => Sys2Proof.Machine.execRestart l q s
  | .blockRestart k => Sys2Proof.Machine.execBlockRestart k s
  | .breakerOpen l q => Sys2Proof.Machine.execBreakerOpen l q s
  | .breakerClose l q => Sys2Proof.Machine.execBreakerClose l q s
  | .runPlan l q => Sys2Proof.Machine.execRunPlan l q s
  | .setAuto l q => Sys2Proof.Machine.execSetAuto l q s
  | .startGens l q => Sys2Proof.Machine.execStartGens l q s
  | .stopGens l q => Sys2Proof.Machine.execStopGens l q s
  | .acknowledgeHalt l q => Sys2Proof.Machine.execAcknowledgeHalt l q s
  | .clearStationTrip l q => Sys2Proof.Machine.execClearStationTrip l q s
  | .clearGenFault l q => Sys2Proof.Machine.execClearGenFault l q s
  | .renegotiate l q => Sys2Proof.Machine.execRenegotiate l q s
  | .setPoint l q => Sys2Proof.Machine.execSetPoint l q s
  | .releaseCapture l q => Sys2Proof.Machine.execReleaseCapture l q s
  | .stationTripPinReturnsHigh => Sys2Proof.Machine.execStationTripPinReturnsHigh s
  | .operateKindNotListed l q => Sys2Proof.Machine.execOperateKindNotListed l q s

end Sys2Proof.Machine
end

