-- ==== Sys2Proof/Safety.lean ====
section
/-! DEFINITION. What a sound state of the part is, in the terms that statements use: the invariants that every command
keeps, the parts of the state that a command may touch, and how a recorded event and a built response are seen in a
state. -/

namespace Sys2Proof.Machine

/-! ### Invariants -/

/-- A port holds at most one COMMAND frame for each breaker, be it the BIU frame or a mirror copy, and at most one GENSET
for each generator (R14, R16). -/
abbrev LinkPort.OneForEach (p : LinkPort) : Prop :=
  (∀ b < 24, (p.frames.filter (fun f => f.commandFor b)).length ≤ 1) ∧ ∀ g < 8, p.normalCount (fun f => f.gensetFor g) ≤ 1

/-- What the urgent and the normal queue hold: COMMAND frames in the first, and COMMAND, GENSET, ABILITY and EVENT frames in
the second (R12). -/
abbrev LinkPort.HoldsItsClasses (p : LinkPort) : Prop :=
  (∀ f ∈ p.urgent, ∃ b < 24, f.commandFor b = true) ∧
    ∀ f ∈ p.normal, (∃ b < 24, f.commandFor b = true) ∨ (∃ g < 8, f.gensetFor g = true) ∨ f.isAbility = true ∨
      f.isEvent = true

/-- A link port within its bounds: the silence count at most 24 (R1); the urgent queue at most 24 frames, the normal queue
at most 48 and the bulk queue at most 64 places (R12, R16, R17), with at most 8 frames each of ABILITY and EVENT in the
normal queue (R16) and one COMMAND frame for each breaker (R14); and nothing queued while the link is DOWN (R2). -/
abbrev LinkPort.Sound (p : LinkPort) : Prop :=
  p.silence ≤ 24 ∧ p.urgent.length ≤ 24 ∧ p.normal.length ≤ 48 ∧ p.bulk.length ≤ 64 ∧
    p.normalCount OutFrame.isAbility ≤ 8 ∧ p.normalCount OutFrame.isEvent ≤ 8 ∧ p.OneForEach ∧ p.HoldsItsClasses ∧
    (p.up = false → p.urgent = [] ∧ p.normal = [] ∧ p.bulk = [])

/-- The numbers of records that the part has (R21, R39, R54, R96, R119, R143, R146, R160, R180, R86). -/
abbrev State.Counts (s : State) : Prop :=
  s.intake.streams.length = 16 ∧ s.measures.length = 16 ∧ s.elements.length = 64 ∧
    s.breakers.recs.length = 24 ∧ s.seq.sources.length = 3 ∧ s.seq.flags.length = 4 ∧ s.par.gens.length = 8 ∧
    s.par.channels.length = 4 ∧ s.mgmt.tables.length = 13 ∧ s.mgmt.staging.length = 13 ∧ s.mgmt.soft.length = 16

/-- A sound state: no closure and no part of a RESTART is under way and no rise of a trigger point waits to be noted, HEALTHY stands as its
conditions give it (R94), each link port is within its bounds, there is one duplicate window for an address, which holds
at most 8 pairs and none of them twice (R7, R8), the event queue holds at most 128 records (R170), the ring at most 240
(R174), and every kind of record has its number. -/
abbrev State.Sound (s : State) : Prop :=
  s.closing = none ∧ s.hushed = false ∧ s.risen = [] ∧ s.lines.healthy = s.healthyNow ∧ s.links.a.Sound ∧ s.links.b.Sound ∧
    (s.links.windows.map (·.address)).Nodup ∧ (∀ w ∈ s.links.windows, w.pairs.length ≤ 8 ∧ w.pairs.Nodup) ∧
    s.events.records.length ≤ 128 ∧ s.capture.ring.length ≤ 240 ∧ s.Counts

/-- The records of the event queue stand in the order of their sequence numbers, without a gap, up to the next one; and the
records held plus the overwritten ones are those generated since power-on, whose number modulo 65536 is the next sequence
number (R170). -/
abbrev EventQueue.InOrder (q : EventQueue) : Prop :=
  q.overwritten < 2 ^ 48 ∧ (q.overwritten + q.records.length) % 65536 = q.nextSeq ∧
    q.records.map (·.seq) = (List.range q.records.length).map (fun i => (q.overwritten + i) % 65536)

/-- A generator is ONLINE only while its breaker's position is CLOSED (R164), and one that is not configured is ABSENT
(R148). -/
abbrev State.OnlineWhileClosed (s : State) : Prop :=
  (∀ g < 8, s.fld .generator g 1 ≠ 1 → (s.gen g).state = .absent) ∧
    ∀ g < 8, (s.gen g).state = .online → (s.brk (s.fld .generator g 3)).position = .closed

/-- No two configured generators share a breaker, as the COMMIT tests of R146 see to. -/
abbrev State.OwnBreakers (s : State) : Prop :=
  ∀ g < 8, ∀ j < 8, s.fld .generator g 1 = 1 → s.fld .generator j 1 = 1 →
    s.fld .generator g 3 = s.fld .generator j 3 → g = j

/-- The capture buffer holds at most 6144 records, and one that is RECORDING the records copied from the ring, at most the
pre length of them, and fewer than the post length after them (R173, R175). -/
abbrev State.CaptureFits (s : State) : Prop :=
  s.capture.buffer.length ≤ 6144 ∧ (s.capture.state = .recording →
    s.capture.copied ≤ s.captureField 16 ∧ s.capture.copied ≤ s.capture.buffer.length ∧
      s.capture.buffer.length < s.capture.copied + s.captureField 17)

/-- The lengths of the CAPTURE entry in force are in the ranges of R173. -/
abbrev State.CaptureInRange (s : State) : Prop :=
  1 ≤ s.captureField 16 ∧ s.captureField 16 ≤ 240 ∧ 48 ≤ s.captureField 17 ∧
    s.captureField 16 + s.captureField 17 ≤ 6144

/-- A sound state in which no internal work is left over (log entry 6): the state between commands. -/
abbrev State.Quiet (s : State) : Prop := s.work = [] ∧ s.Sound

/-! ### Parts of the state -/

/-- The parts of the state that a command may touch or leave alone. -/
inductive StatePart where
  | links
  | aligner
  | intake
  | measures
  | elements
  | lines
  | breakers
  | seq
  | par
  | events
  | capture
  | mgmt
  | free
  deriving DecidableEq, Repr

/-- The rises of active trigger points from `s` to `t` (R175). -/
def risesOf (s t : State) : List Nat := t.captureTriggers.filter (fun p => !s.point p && t.point p)

/-- Between `s` and `t` each active trigger point has joined the list of rises as often as it rose: once where it
stands higher than it stood, and, for the points that the sequencer and the paralleling unit own, perhaps more often
than that, unless neither of them is touched (R175, log entry 11). -/
def RisesNoted (ps : List StatePart) (s t : State) : Prop :=
  ∃ n : Nat → Nat, t.capture.edges = s.capture.edges ++ t.captureTriggers.flatMap (fun p => List.replicate (n p) p) ∧
    ∀ p, (p ∈ risesOf s t → 1 ≤ n p) ∧
      ((movingPoint p = false ∨ (.seq ∉ ps ∧ .par ∉ ps)) → n p ≤ 1 ∧ (n p = 1 → s.point p = false ∧ t.point p = true))

/-- A part is left alone. Of the lines HEALTHY follows its conditions whatever is touched (R94), and of capture the
rises of trigger points are noted (R175). -/
def StatePart.Kept (s t : State) : StatePart → Prop
  | .links => t.links = s.links
  | .aligner => t.aligner = s.aligner
  | .intake => t.intake = s.intake
  | .measures => t.measures = s.measures
  | .elements => t.elements = s.elements
  | .lines => t.lines = { s.lines with healthy := t.healthyNow }
  | .breakers => t.breakers = s.breakers
  | .seq => t.seq = s.seq
  | .par => t.par = s.par
  | .events => t.events = s.events
  | .capture => t.capture = { s.capture with edges := t.capture.edges }
  | .mgmt => t.mgmt = s.mgmt
  | .free => t.free = s.free

/-- Only the parts `ps` are touched from `s` to `t`: the commands that wait and every other part stand. -/
def Only (ps : List StatePart) (s t : State) : Prop :=
  t.closing = none ∧ t.hushed = false ∧ t.risen = [] ∧ t.pending = s.pending ∧ (∀ p : StatePart, p ∉ ps → p.Kept s t) ∧
    (.capture ∉ ps → RisesNoted ps s t)

/-- The parts that a command may touch. -/
def touches : Instr → List StatePart
  | .powerOn =>
    [.links, .aligner, .intake, .measures, .elements, .lines, .breakers, .seq, .par, .events, .capture, .mgmt]
  | .malformedFrame _ _ => [.links]
  | .ignoredFrame _ _ => [.links, .events]
  | .secondCopy _ _ => [.links, .events]
  | .linkDown _ => [.links, .events]
  | .transmitFrame _ => [.links, .events, .breakers, .seq, .par]
  | .sampleFrame _ _ _ => [.links, .events, .aligner, .intake]
  | .timeFrame _ _ _ => [.links, .events, .aligner, .intake]
  | .timeHoldover => [.links, .events, .aligner]
  | .instantAdvance => [.links, .events, .aligner, .intake, .measures, .breakers, .seq, .par]
  | .sourceFailDelayExpiry _ => [.links, .events, .breakers, .seq, .par]
  | .sourceRestoreDelayExpiry _ => [.links, .events, .breakers, .seq, .par]
  | .instantClosure _ =>
    [.links, .aligner, .intake, .measures, .elements, .lines, .breakers, .seq, .par, .events, .capture, .mgmt]
  | .captureTrigger _ => [.links, .events, .capture]
  | .positionFrame _ _ _ => [.links, .events, .breakers, .seq, .par]
  | .tripDemandAdd _ _ => [.links, .events, .breakers, .seq, .par]
  | .tripDemandRemove _ _ => [.breakers]
  | .responseTimeout _ => [.links, .events, .breakers, .seq, .par]
  | .limitTimeout _ => [.links, .events, .breakers, .seq, .par]
  | .simulatedCompletion _ => [.links, .events, .breakers, .seq, .par]
  | .bfRetrip _ => [.links, .events, .breakers, .seq, .par]
  | .bfBackup _ => [.links, .events, .breakers]
  | .stationTripEdge => [.links, .events, .lines, .breakers, .seq, .par]
  | .seqLockoutChange => [.links, .events, .lines, .breakers, .seq, .par]
  | .lineupChange => [.links, .events, .breakers, .seq, .par]
  | .stepTimeout => [.links, .events, .breakers, .seq, .par]
  | .waitTimeExpiry => [.links, .events, .breakers, .seq, .par]
  | .waitPointMet => [.links, .events, .breakers, .seq, .par]
  | .deadTermHolds => [.links, .events, .breakers, .seq, .par]
  | .syncRetry => [.links, .par, .seq]
  | .parallelLimit => [.links, .events, .breakers, .seq, .par]
  | .genstatusFrame _ _ _ => [.links, .events, .breakers, .seq, .par]
  | .abilityFrame _ _ _ => [.links, .events, .breakers, .seq, .par, .free]
  | .genAbsentTimeout _ => [.links, .events, .breakers, .seq, .par]
  | .abilityGapTimeout _ => [.links, .events, .breakers, .seq, .par]
  | .gensetRefresh _ => [.links, .par]
  | .demandEvaluation => [.links, .events, .breakers, .seq, .par]
  | .startTimeout _ => [.links, .events, .breakers, .seq, .par]
  | .retryTimerExpiry _ => [.links, .events, .breakers, .seq, .par]
  | .deadCheckTimeout _ => [.links, .events, .breakers, .seq, .par]
  | .syncCorrection _ => [.links, .par]
  | .loadSharing => [.links, .events, .breakers, .seq, .par]
  | .readTable _ _ => [.links, .events, .mgmt, .free]
  | .writeSegment _ _ => [.links, .events, .mgmt, .free]
  | .commit _ _ => [.links, .intake, .measures, .breakers, .seq, .par, .events, .capture, .mgmt, .free]
  | .discard _ _ => [.links, .events, .mgmt]
  | .readState _ _ _ => [.links, .events, .lines, .mgmt, .free]
  | .readLatches _ _ => [.links, .aligner, .intake, .breakers, .events, .mgmt]
  | .readEvents _ _ => [.links, .events, .mgmt]
  | .readCapture _ _ => [.links, .events, .mgmt, .free]
  | .store _ _ => [.links, .events, .mgmt]
  | .storeComplete _ => [.links, .events, .mgmt]
  | .restart _ _ => [.links, .events, .mgmt]
  | .blockRestart _ =>
    [.links, .intake, .measures, .elements, .breakers, .seq, .par, .events, .capture, .mgmt]
  | .breakerOpen _ _ => [.links, .events, .breakers, .seq, .par, .mgmt]
  | .breakerClose _ _ => [.links, .events, .breakers, .mgmt]
  | .runPlan _ _ => [.links, .events, .breakers, .seq, .par, .mgmt]
  | .setAuto _ _ => [.links, .events, .breakers, .seq, .par, .mgmt]
  | .startGens _ _ => [.links, .events, .par, .mgmt]
  | .stopGens _ _ => [.links, .events, .par, .mgmt]
  | .acknowledgeHalt _ _ => [.links, .events, .breakers, .seq, .par, .mgmt]
  | .clearStationTrip _ _ => [.links, .events, .lines, .breakers, .mgmt]
  | .clearGenFault _ _ => [.links, .events, .breakers, .seq, .par, .mgmt]
  | .renegotiate _ _ => [.links, .events, .breakers, .seq, .par, .mgmt]
  | .setPoint _ _ => [.links, .events, .mgmt]
  | .releaseCapture _ _ => [.links, .events, .capture, .mgmt]
  | .stationTripPinReturnsHigh => [.lines]
  | .operateKindNotListed _ _ => [.links, .events, .mgmt]

/-! ### Events and responses, as seen in a state -/

/-- The newest event record, its sent mark aside (R170). -/
def State.newest (s : State) : Option EventRecord := s.events.records.getLast?.map (fun r => { r with sent := false })

/-- The newest record from `s` to `t` is the event given, with the next sequence number and the local label (R170). -/
def Records (s t : State) (c : EventClass) (priority object code : Nat) (value : Option Nat) : Prop :=
  t.newest = some ⟨s.events.nextSeq, s.aligner.counter, c, priority, object, code, value, false⟩

/-- A MGMT-REQ frame that is taken and reserves its places (R6 to R8, R17, R177): its link is UP, the tests of 1.1 take
it, each link that is UP has room in its bulk queue, and no RESTART is in flight. -/
abbrev State.Asked (s : State) (l : Link) (q : Request) : Prop :=
  s.Quiet ∧ (s.port l).up = true ∧ s.verdict .mgmtReq q.header = .taken ∧
    (s.links.a.up = true → s.links.a.bulkRoom = true) ∧ (s.links.b.up = true → s.links.b.bulkRoom = true) ∧
    s.mgmt.restart = none

/-- The same whether or not a RESTART is in flight: what READ-STATE, READ-LATCHES and READ-EVENTS need (R188). -/
abbrev State.Served (s : State) (l : Link) (q : Request) : Prop :=
  s.Quiet ∧ (s.port l).up = true ∧ s.verdict .mgmtReq q.header = .taken ∧
    (s.links.a.up = true → s.links.a.bulkRoom = true) ∧ (s.links.b.up = true → s.links.b.bulkRoom = true)

/-- The response to `q` stands in the bulk queue of each link that is UP (R19, R177). -/
def Replies (s t : State) (q : Request) (kind : Nat) (st : Status) (detailA detailB : Nat) (data : List Byte) : Prop :=
  ∀ l : Link, (s.port l).up = true →
    BulkPlace.frame ⟨s.ownAddress, q.src, s.links.responseSeq,
      .response q.number kind st.code q.target detailA detailB data, false, false⟩ ∈ (t.port l).bulk

/-- The counts of the management unit once a request is taken and answered with a status (R177). -/
def State.answered (s : State) (st : Status) : Management :=
  { s.mgmt with
    taken := step32 s.mgmt.taken
    nextTicket := s.mgmt.nextTicket + 1
    statusCounts := if st == .done then s.mgmt.statusCounts else s.mgmt.statusCounts.modify (st.code - 1) step32 }

/-- The state after a frame of a class other than SAMPLE has been taken on a link that is UP (R1, R8). -/
def State.reached (s : State) (l : Link) (c : FrameClass) (h : Header) : State :=
  (s.noteTaken c h).modPort l (fun p => { p with silence := 0, taken := step32 p.taken })

/-! ### Frames on a wire -/

/-- What stands on the wire of a link while a frame is transmitted: its payload under the broadcast destination, the
port's own source address and the protocol type of the active STATION table (R4). The port's address is a free value
(log entry 7). -/
def State.wired (s : State) (l : Link) (f : OutFrame) : Option Sent :=
  some ⟨BitVec.allOnes 48, Config.portAddress l, s.station 2, f.bytes⟩

/-! ### What must never be -/

/-- The payload is that of a COMMAND frame with action CLOSE (R19). -/
def closeCommand (payload : List Byte) : Prop := fieldAt payload 1 1 = 3 ∧ fieldAt payload 11 1 = 2

end Sys2Proof.Machine

/-- The link, the class and the header of a received frame, of the commands that hand one to its block. -/
def Sys2Proof.Instr.received? : Sys2Proof.Instr → Option (Sys2Proof.Link × Sys2Proof.FrameClass × Sys2Proof.Header)
  | .sampleFrame l h _ => some (l, .sample, h)
  | .timeFrame l h _ => some (l, .time, h)
  | .positionFrame l h _ => some (l, .position, h)
  | .genstatusFrame l h _ => some (l, .genstatus, h)
  | .abilityFrame l h _ => some (l, .ability, h)
  | .readTable l q | .writeSegment l q | .commit l q | .discard l q | .readState l q _ | .readLatches l q
  | .readEvents l q | .readCapture l q | .store l q | .restart l q | .breakerOpen l q | .breakerClose l q
  | .runPlan l q | .setAuto l q | .startGens l q | .stopGens l q | .acknowledgeHalt l q | .clearStationTrip l q
  | .clearGenFault l q | .renegotiate l q | .setPoint l q | .releaseCapture l q | .operateKindNotListed l q =>
    some (l, .mgmtReq, q.header)
  | .malformedFrame _ _ | .ignoredFrame _ _ | .secondCopy _ _
  | .powerOn | .linkDown _ | .transmitFrame _ | .timeHoldover | .instantAdvance | .sourceFailDelayExpiry _
  | .sourceRestoreDelayExpiry _ | .instantClosure _ | .captureTrigger _ | .tripDemandAdd _ _ | .tripDemandRemove _ _
  | .responseTimeout _ | .limitTimeout _ | .simulatedCompletion _ | .bfRetrip _ | .bfBackup _ | .stationTripEdge
  | .seqLockoutChange | .lineupChange | .stepTimeout | .waitTimeExpiry | .waitPointMet | .deadTermHolds | .syncRetry
  | .parallelLimit | .genAbsentTimeout _ | .abilityGapTimeout _ | .gensetRefresh _ | .demandEvaluation
  | .startTimeout _ | .retryTimerExpiry _ | .deadCheckTimeout _ | .syncCorrection _ | .loadSharing | .storeComplete _
  | .blockRestart _ | .stationTripPinReturnsHigh => none

/-- The Ethernet part of a received frame, of the commands that are one (R4). -/
def Sys2Proof.Instr.ether? : Sys2Proof.Instr → Option Sys2Proof.Ether
  | .malformedFrame _ f | .ignoredFrame _ f | .secondCopy _ f => some f.eth
  | .sampleFrame _ h _ | .timeFrame _ h _ | .positionFrame _ h _ | .genstatusFrame _ h _ | .abilityFrame _ h _ => some h.eth
  | .readTable _ q | .writeSegment _ q | .commit _ q | .discard _ q | .readState _ q _ | .readLatches _ q
  | .readEvents _ q | .readCapture _ q | .store _ q | .restart _ q | .breakerOpen _ q | .breakerClose _ q
  | .runPlan _ q | .setAuto _ q | .startGens _ q | .stopGens _ q | .acknowledgeHalt _ q | .clearStationTrip _ q
  | .clearGenFault _ q | .renegotiate _ q | .setPoint _ q | .releaseCapture _ q | .operateKindNotListed _ q => some q.eth
  | .powerOn | .linkDown _ | .transmitFrame _ | .timeHoldover | .instantAdvance | .sourceFailDelayExpiry _
  | .sourceRestoreDelayExpiry _ | .instantClosure _ | .captureTrigger _ | .tripDemandAdd _ _ | .tripDemandRemove _ _
  | .responseTimeout _ | .limitTimeout _ | .simulatedCompletion _ | .bfRetrip _ | .bfBackup _ | .stationTripEdge
  | .seqLockoutChange | .lineupChange | .stepTimeout | .waitTimeExpiry | .waitPointMet | .deadTermHolds | .syncRetry
  | .parallelLimit | .genAbsentTimeout _ | .abilityGapTimeout _ | .gensetRefresh _ | .demandEvaluation
  | .startTimeout _ | .retryTimerExpiry _ | .deadCheckTimeout _ | .syncCorrection _ | .loadSharing | .storeComplete _
  | .blockRestart _ | .stationTripPinReturnsHigh => none
end

