-- ==== Sys2Proof/Certificates/Slice0/Obligations.lean ====
section
/-! DEFINITION. The statements for the provers. Each is a property of the model that a rule of the spec states, or
that the spec's rules together bring about; the docstring names the rule, or says that the statement is the model's
choice. A statement with more than one part names its parts, each of them a `Clause`. -/

open Sys2Proof Sys2Proof.Machine

/-! ### The machine as a whole -/

/-- A step takes the command at the front of the queue and carries it out on the state with the queue's rest. -/
def Clause.FrontRuns : Prop :=
  ∀ (s : State) (c : Instr) (rest : List Instr), s.pending = c :: rest →
    step s = exec c { s with pending := rest }

/-- On an empty queue the part idles (the model's choice, log entry 2). -/
def Clause.EmptyQueueIdles : Prop := ∀ s : State, s.pending = [] → step s = .next s

/-- A step carries out the command at the front of the queue on the state with the queue's rest. That the part idles on an
empty queue is the model's choice (log entry 2). -/
def Obligations.StepTakesTheFront : Prop := Clause.FrontRuns ∧ Clause.EmptyQueueIdles

/-- What R187 and the rules it gathers leave at power-on without a valid image, the model's reset state (log entry 1): both
links DOWN, every stream DISABLED, time UNSET, every element DISABLED, every position UNKNOWN with BF IDLE and no command,
point LOCKOUT at 1, the station trip latch clear, the sequencer LOCKED_OUT, every generator ABSENT, the token free, the unit
unconfigured, HEALTHY off, and the two records of power-on. -/
def Clause.PowerOnValues : Prop :=
  (∀ l : Link, (State.reset.port l).up = false ∧ (State.reset.port l).frames = []) ∧
    (∀ k < 16, (State.reset.stream k).state = .disabled ∧ State.reset.point (208 + k) = false) ∧
    State.reset.aligner.time = .unset ∧ State.reset.aligner.counter = ⟨0, 0⟩ ∧
    (∀ e < 64, (State.reset.element e).state = .disabled) ∧
    (∀ b < 24, (State.reset.brk b).position = .unknown ∧ (State.reset.brk b).bf = .idle ∧
      (State.reset.brk b).slot = none ∧ (State.reset.brk b).trips = []) ∧
    State.reset.point 224 = true ∧ State.reset.point 225 = false ∧ State.reset.seq.state = .lockedOut ∧
    (∀ g < 8, (State.reset.gen g).state = .absent) ∧ State.reset.par.token = none ∧
    State.reset.capture.state = .empty ∧ State.reset.mgmt.configured = false ∧ State.reset.lines.healthy = false ∧
    State.reset.mgmt.tables = unconfiguredTables ∧ State.reset.pending = [] ∧
    State.reset.events.records.map (fun r => (r.cls, r.priority, r.code)) =
      [(.management, 12, 12), (.transfer, 9, 13)]

/-- The state at reset is sound and quiet, and its event records stand in order. -/
def Clause.ResetIsQuiet : Prop := State.reset.Quiet ∧ State.reset.events.InOrder

/-- The state at reset is that of a power-on without a valid image (R187), and it is sound and quiet. That a power-on which
found no valid image is what the machine starts from is the model's choice (log entry 1), and so is the queue of commands,
empty at reset (log entry 2). -/
def Obligations.ResetIsUnconfiguredPowerOn : Prop := Clause.PowerOnValues ∧ Clause.ResetIsQuiet

/-- Every step keeps the invariants of a sound state: the bounds of the transmit queues with one COMMAND frame for each
breaker and one GENSET for each generator (R12, R14, R16, R17), of the windows, with no pair twice (R8), of the event
queue (R170) and of the ring (R174), nothing queued on a link that is DOWN (R2), HEALTHY as its conditions give it (R94)
and the numbers of records. -/
def Clause.KeepsSound : Prop := ∀ s t : State, s.Sound → step s = .next t → t.Sound

/-- A step that leaves no work over keeps every generator ONLINE only while its breaker is CLOSED, where no two configured
generators share a breaker (R164, R146). -/
def Clause.KeepsOnlineWhileClosed : Prop :=
  ∀ s t : State, s.Quiet → s.OwnBreakers → s.OnlineWhileClosed → step s = .next t → t.work = [] → t.OnlineWhileClosed

/-- A step keeps the capture buffer at 6144 records at most, where the lengths of the CAPTURE entry in force are in their
ranges (R173, R175). -/
def Clause.KeepsCaptureInBounds : Prop :=
  ∀ s t : State, s.Quiet → s.CaptureInRange → s.CaptureFits → step s = .next t → t.CaptureFits

/-- A step keeps the event records in the order of their sequence numbers without a gap, and the records held plus the
overwritten ones the number of those generated since power-on (R170). That the overwritten count wraps is the model's
choice (log entry 28). -/
def Clause.KeepsEventsInOrder : Prop :=
  ∀ s t : State, s.Sound → s.events.InOrder → step s = .next t → t.events.InOrder

/-- Every step keeps the invariants: the bounds of the queues, windows and buffers, a generator ONLINE only while its
breaker is CLOSED, and the order of the event records. -/
def Obligations.EveryStepKeepsSound : Prop :=
  Clause.KeepsSound ∧ Clause.KeepsOnlineWhileClosed ∧ Clause.KeepsCaptureInBounds ∧ Clause.KeepsEventsInOrder

/-- The frame of every command: it touches the parts that its rules name and leaves every other part of the state alone. -/
def Obligations.EveryCommandTouchesItsParts : Prop :=
  ∀ (c : Instr) (s t : State), s.work = [] → s.risen = [] → exec c s = .next t → Only (touches c) s t

/-- The frames of each class that the part receives, written as R19 lays them out and with any padding behind the body
length, are read back as the command they stand for, with the Ethernet part they came with (R4, R5, R19). -/
def Obligations.FramesReadBackAsWritten : Prop :=
  ∀ (l : Link) (pin : Bool) (h : Header) (pad : List Byte), h.wf = true →
    (∀ f : SampleBody, f.wf = true →
      frameCommand l pin h.eth (frameBytes .sample h (sampleBytes f) ++ pad) = .sampleFrame l h f) ∧
    (∀ f : PositionBody, f.wf = true →
      frameCommand l pin h.eth (frameBytes .position h (positionBytes f) ++ pad) = .positionFrame l h f) ∧
    (∀ f : GenStatus, f.wf = true →
      frameCommand l pin h.eth (frameBytes .genstatus h (genStatusBytes f) ++ pad) = .genstatusFrame l h f) ∧
    (∀ f : Page, f.wf = true →
      frameCommand l pin h.eth (frameBytes .ability h (pageBytes f) ++ pad) = .abilityFrame l h f) ∧
    (∀ f : TimeBody, f.wf = true →
      frameCommand l pin h.eth (frameBytes .time h (timeBytes f) ++ pad) = .timeFrame l h f) ∧
    ∀ (k : Nat) (q : Request), 1 ≤ k → k ≤ 11 → q.wf = true → q.header = h →
      frameCommand l pin h.eth (frameBytes .mgmtReq h (requestBytes k q) ++ pad) = requestCommand l pin k q

/-- No COMMAND frame with action CLOSE begins transmission, to a BIU or to the mirror address, while LOCKOUT is 1, while the
station trip latch is set, while the trip demand set of its breaker is not empty or while its close interlock is false; and
one that is DEAD for a guarded breaker leaves only on behalf of the token holder (R15, R104). A CLOSE that an earlier frame
of the same command has withheld may free the token and its channel (R158, R163): an interlock that names one of their
points, 237 and 239, is spoken of where no frame was withheld. -/
def Obligations.NoCloseLeavesUnderLockout : Prop :=
  ∀ (s t : State) (l : Link) (w : Sent), s.Quiet → exec (.transmitFrame l) s = .next t →
    (t.port l).wire = some w → closeCommand w.payload →
    s.lines.lockout = false ∧ s.lines.tripLatch = false ∧
    ∃ (f : OutFrame) (b n tag : Nat) (o : Origins), f ∈ (s.port l).frames ∧ f.body = .command b n .closing tag o ∧
      w.payload = f.bytes ∧ (s.brk b).trips = [] ∧
      (s.fld .breaker b 6 ≠ 0xFFFF →
        (∀ id, 3 ≤ id → s.fld .interlock (s.fld .breaker b 6) id % 256 ∉ [237, 239]) ∨
          (t.port l).withheld = (s.port l).withheld →
        s.expression (s.fld .breaker b 6) = true) ∧
      (f.mirror = false → ∃ c, (s.brk b).slot = some c ∧ c.action = .closing ∧ c.tag = tag ∧ c.phase ≠ .queued ∧
        (c.closeKind = .dead → s.fld .breaker b 5 = 1 → ∃ p, c.requester = .party p ∧ s.par.token = some p))

/-! ### Power-on, reception and transmission -/

/-- At power-on the tables are those of the image where it is valid, and the unconfigured content where it is not;
every block starts anew, and the first record is STORE_LOADED with the image's CRC, or STORE_INVALID (R187). The queue
of commands and the count of free values, which stand, are the model's own (log entries 2 and 8), and so is the list of
rises that wait, which holds point LOCKED_OUT as often as the loaded tables name it as a trigger (log entry 11). The
values at power-on that no rule gives are the model's choice (log entry 3), and that an image which is not valid keeps its
content, no longer valid, is its inference (log entry 17). -/
def Obligations.PowerOnStartsAnew : Prop :=
  ∀ s : State,
    (s.mgmt.image.loads = false → exec .powerOn s = .next { State.reset with
      pending := s.pending, free := s.free
      mgmt := { State.reset.mgmt with image := { s.mgmt.image with valid := false } } }) ∧
    (s.mgmt.image.loads = true → exec .powerOn s = .next { State.fresh s.mgmt.image.content true s.mgmt.image with
      pending := s.pending, free := s.free
      events := {
        records := [⟨0, ⟨0, 0⟩, .management, 8, 0, 11, some s.mgmt.image.crc, false⟩,
          ⟨1, ⟨0, 0⟩, .transfer, 9, 0, 13, none, false⟩]
        nextSeq := 2 }
      capture := {
        edges := (State.fresh s.mgmt.image.content true s.mgmt.image).captureTriggers.filter (· == 187) } })

/-- The tests of 1.1 in their order: the frame check and the protocol type of the active STATION table (R4), without
which a frame is not seen at all; the destination, the source and the class (R6); then for classes other than SAMPLE
the source's address and class list (R7) and the duplicate window (R8). -/
def Obligations.ReceptionTestsInOrder : Prop :=
  ∀ (s : State) (c : FrameClass) (h : Header),
    let seen := h.eth.good = true ∧ h.eth.ptype = s.station 2
    let passes := seen ∧ (h.dst = s.station 1 ∨ h.dst = 4095) ∧ h.src ≠ s.station 1 ∧
      c ∈ [FrameClass.sample, .position, .genstatus, .ability, .time, .mgmtReq]
    let window := s.links.windows.find? (fun w => w.address == h.src)
    (s.verdict c h = .unseen ↔ ¬ seen) ∧
    (s.verdict c h = .taken ↔ passes ∧
      (c = .sample ∨ ∃ w, window = some w ∧ c ∈ w.classes ∧ (c, h.seq) ∉ w.pairs)) ∧
    (s.verdict c h = .second ↔ passes ∧ c ≠ .sample ∧ ∃ w, window = some w ∧ c ∈ w.classes ∧ (c, h.seq) ∈ w.pairs)

/-- A frame whose frame check is bad or whose protocol type is not that of the active STATION table has no effect at
all, whatever its class; it does not bring its link UP nor reset the silence count (R4, R1). -/
def Clause.UnseenFrameHasNoEffect : Prop :=
  ∀ (s : State) (i : Instr) (e : Ether), s.Quiet → i.ether? = some e → e.good = false ∨ e.ptype ≠ s.station 2 →
    exec i s = .next s

/-- A malformed frame is counted, and the silence count stands (R5); an ignored frame and a second copy on a link that is
UP reset the silence count and are counted (R1, R7, R8). Nothing else changes. -/
def Clause.FrameThatGoesNoFurther : Prop :=
  ∀ (s : State) (l : Link) (e : Ether) (p : List Byte), s.Quiet →
    (e.good = true → e.ptype = s.station 2 → parseFrame e p = .malformed → exec (.malformedFrame l ⟨e, p⟩) s =
      .next (s.modPort l (fun x => { x with malformed := step32 x.malformed }))) ∧
    ((s.port l).up = true → s.verdictOf e p = some .ignored → exec (.ignoredFrame l ⟨e, p⟩) s =
      .next (s.modPort l (fun x => { x with silence := 0, ignored := step32 x.ignored }))) ∧
    ((s.port l).up = true → s.verdictOf e p = some .second → exec (.secondCopy l ⟨e, p⟩) s =
      .next (s.modPort l (fun x => { x with silence := 0, second := step32 x.second })))

/-- The first frame that passes the header test, be it one that is then ignored, brings a link UP with LINK_UP recorded
(R1, R2). -/
def Clause.FirstFrameBringsTheLinkUp : Prop :=
  ∀ (s : State) (l : Link) (e : Ether) (p : List Byte), s.Quiet → (s.port l).up = false →
    s.verdictOf e p = some .ignored → ∃ t, exec (.ignoredFrame l ⟨e, p⟩) s = .next t ∧ (t.port l).up = true ∧
      (t.port l).silence = 0 ∧ (t.port l).ignored = step32 (s.port l).ignored ∧ Records s t .link 6 l.number 2 none ∧
      Only [.links, .events] s t

/-- A frame of any class that the tests of 1.1 take brings a link that is DOWN UP and is counted there (R1, R2). A TIME frame
that is not locked records nothing else. -/
def Clause.TakenFrameBringsTheLinkUp : Prop :=
  ∀ (s : State) (i : Instr) (l : Link) (c : FrameClass) (h : Header), s.Quiet → i.received? = some (l, c, h) →
    (s.port l).up = false → s.verdict c h = .taken → ∃ t, exec i s = .next t ∧ (t.port l).up = true ∧
      (t.port l).silence = 0 ∧ (t.port l).taken = step32 (s.port l).taken ∧ (t.port l).ignored = (s.port l).ignored ∧
      (t.port l).second = (s.port l).second ∧ Only (touches i) s t ∧
      (∀ f, i = .timeFrame l h f → f.locked = false → Records s t .link 6 l.number 2 none)

/-- The event queue after a record: it joins the tail, and of 128 records the oldest goes, is counted, and has its loss latched
where it was unsent (R170). -/
def Clause.appended (q : EventQueue) (r : EventRecord) : EventQueue :=
  { records := if q.records.length < 128 then q.records ++ [r] else q.records.tail ++ [r]
    nextSeq := (q.nextSeq + 1) % 65536
    overwritten := if q.records.length < 128 then q.overwritten else (q.overwritten + 1) % 2 ^ 48
    overwriteLatch := q.overwriteLatch || (decide (128 ≤ q.records.length) && q.records.head?.any (fun x => !x.sent)) }

/-- The event queue of `t` is `q` but for records that a send attempt has marked sent, and with both links DOWN it is `q`
(R171). -/
def Clause.EventsBecome (t : State) (q : EventQueue) : Prop :=
  let plain := fun r : EventRecord => { r with sent := false }
  t.events = { q with records := t.events.records } ∧ t.events.records.map plain = q.records.map plain ∧
    (∀ r ∈ q.records, r.sent = true → r ∈ t.events.records) ∧
    (t.links.a.up = false → t.links.b.up = false → t.events = q)

/-- The record is one of an EVENT frame in the queues of link `l` that has left on no link and has no copy in the queues of
the other link (R171). -/
def Clause.emptiedUnsent (s : State) (l : Link) (r : EventRecord) : Bool :=
  (s.port l).frames.any (fun f => match f.body with
    | .event rs => !f.left && rs.contains { r with sent := false } &&
      !(s.port l.other).frames.any (fun g => g.isEvent && g.seq == f.seq)
    | _ => false)

/-- A link goes DOWN once its silence count has reached 24: its queues are emptied, its latched bit is 0, and LINK_DOWN
is recorded with priority 12 (R1, R2). The records of an emptied EVENT frame that left on no link, and of which the other
link holds no copy, are unsent again (R171). Below 24 nothing happens. -/
def Clause.SilentLinkGoesDown : Prop :=
  ∀ (s : State) (l : Link), s.Quiet → (s.port l).up = true →
    ((s.port l).silence < 24 → exec (.linkDown l) s = .next s) ∧
    (24 ≤ (s.port l).silence → ∃ t, exec (.linkDown l) s = .next t ∧ (t.port l).up = false ∧
      (t.port l).latch = false ∧ (t.port l).urgent = [] ∧ (t.port l).normal = [] ∧ (t.port l).bulk = [] ∧
      Records s t .link 12 l.number 1 none ∧
      Clause.EventsBecome t (Clause.appended
        { s.events with records := s.events.records.map (fun r =>
            if Clause.emptiedUnsent s l r then { r with sent := false } else r) }
        ⟨s.events.nextSeq, s.aligner.counter, .link, 12, l.number, 1, none, false⟩) ∧
      Only [.links, .events] s t)

/-- Frames that are not seen, malformed and ignored frames and second copies: what each counts, the link that the first
frame brings UP, and the silence that takes a link DOWN with its EVENT frames (R1, R2, R4, R5, R7, R8, R170, R171). That the
overwritten count wraps is the model's choice (log entry 28). -/
def Obligations.LinksAreSupervised : Prop :=
  Clause.UnseenFrameHasNoEffect ∧ Clause.FrameThatGoesNoFurther ∧ Clause.FirstFrameBringsTheLinkUp ∧
    Clause.TakenFrameBringsTheLinkUp ∧ Clause.SilentLinkGoesDown

/-- A frame of a class other than SAMPLE that is taken once is a second copy thereafter, on whichever link it comes again
(R8). A COMMIT that changes a table may name other stations, so that of it this is said where the tables stand. -/
def Obligations.TakenFrameIsThenASecondCopy : Prop :=
  ∀ (s t : State) (i : Instr) (l : Link) (c : FrameClass) (h : Header), s.Quiet → i.received? = some (l, c, h) →
    c ≠ .sample → s.verdict c h = .taken → exec i s = .next t →
    ((∃ q, i = .commit l q) → t.mgmt.tables = s.mgmt.tables) → t.verdict c h = .second

/-- The queues of a port in which each frame of an EVENT with this sequence number is marked as having left (R171). -/
def Clause.eventLeft (p : LinkPort) (seq : Nat) : LinkPort :=
  let mark := fun f : OutFrame => if f.isEvent ∧ f.seq = seq then { f with left := true } else f
  { p with
    normal := p.normal.map mark
    bulk := p.bulk.map (fun x => match x with
      | .frame f => .frame (mark f)
      | .reserved n => .reserved n) }

/-- An EVENT frame begins transmission from the normal or the bulk queue; its copy on the other link is marked, so that it is
not reported back if that link falls (R12, R171). An ABILITY frame leaves as it is (R12), and so does a mirror copy of an
OPEN (R13). -/
def Clause.OtherFrames : Prop :=
  ∀ (s : State) (l : Link) (f : OutFrame), s.Quiet → (s.port l).up = true → (s.port l).urgent = [] →
    (∀ (rest : List OutFrame) (rs : List EventRecord), (s.port l).normal = f :: rest → f.body = .event rs →
      exec (.transmitFrame l) s = .next ((s.modPort l (fun p => { p with normal := rest, wire := s.wired l f })).modPort
        l.other (fun p => Clause.eventLeft p f.seq))) ∧
    (∀ (rest : List BulkPlace) (rs : List EventRecord), (s.port l).normal = [] → (s.port l).bulk = .frame f :: rest →
      f.body = .event rs →
      exec (.transmitFrame l) s = .next ((s.modPort l (fun p => { p with bulk := rest, wire := s.wired l f })).modPort
        l.other (fun p => Clause.eventLeft p f.seq))) ∧
    (∀ (rest : List OutFrame) (g : Nat) (x : Page), (s.port l).normal = f :: rest → f.body = .ability g x →
      exec (.transmitFrame l) s = .next (s.modPort l (fun p => { p with normal := rest, wire := s.wired l f }))) ∧
    ∀ (rest : List BulkPlace) (b n tag : Nat) (o : Origins), (s.port l).normal = [] →
      (s.port l).bulk = .frame f :: rest → f.body = .command b n .opening tag o → f.mirror = true →
      exec (.transmitFrame l) s = .next (s.modPort l (fun p => { p with bulk := rest, wire := s.wired l f }))

/-- A free wire stays free while the link is DOWN or has no frame; else the head frame of the highest-priority queue that
holds one begins transmission, urgent before normal before bulk (R12, R4). -/
def Clause.HeadFrame : Prop :=
  ∀ (s : State) (l : Link), s.Quiet →
    ((s.port l).up = false ∨ (s.port l).frames = [] →
      exec (.transmitFrame l) s = .next (s.modPort l (fun p => { p with wire := none }))) ∧
    (∀ (f : OutFrame) (rest : List OutFrame) (g : Nat) (x : Setpoint), (s.port l).up = true →
      (s.port l).urgent = [] → (s.port l).normal = f :: rest → f.body = .genset g x →
      exec (.transmitFrame l) s = .next (s.modPort l (fun p => { p with normal := rest, wire := s.wired l f }))) ∧
    ∀ (f : OutFrame) (rest : List BulkPlace) (n k st tg a b : Nat) (d : List Byte), (s.port l).up = true →
      (s.port l).urgent = [] → (s.port l).normal = [] → (s.port l).bulk = .frame f :: rest →
      f.body = .response n k st tg a b d →
      exec (.transmitFrame l) s = .next (s.modPort l (fun p => { p with bulk := rest, wire := s.wired l f }))

/-- A port whose BIU frame `f` begins transmission: with a mirror address a copy to it joins the bulk queue, and without room
there it is dropped and counted (R13). -/
def Clause.mirrored (s : State) (f : OutFrame) (p : LinkPort) : LinkPort :=
  if s.station 3 = 0 then p
  else if p.bulk.length < 64 then
    { p with bulk := p.bulk ++ [.frame { f with dst := s.station 3, mirror := true }] }
  else { p with mirrorDropped := step32 p.mirrorDropped }

/-- As an OPEN frame for a BIU begins transmission the left mark of its command is set (R104), and with a mirror address
a copy to it joins the bulk queue of the same link, or is dropped there (R13). -/
def Clause.OpenFrame : Prop :=
  ∀ (s : State) (l : Link) (f : OutFrame) (rest : List OutFrame) (b n tag : Nat) (o : Origins), s.Quiet →
    (s.port l).up = true → (s.port l).urgent = f :: rest → f.body = .command b n .opening tag o →
    f.mirror = false →
    exec (.transmitFrame l) s = .next ((s.modPort l (fun p =>
      Clause.mirrored s f { p with urgent := rest, wire := s.wired l f })).modBrk b (fun r =>
        { r with slot := r.slot.map (fun c =>
            if c.tag = tag ∧ c.phase ≠ .queued then { c with left := true } else c) }))

/-- A CLOSE frame for a BIU at the head that passes the conditions of R15 begins transmission like an OPEN: the left mark of
its command is set (R104), and with a mirror address a copy to it joins the bulk queue, or is dropped there (R13). A mirror
copy of a CLOSE that passes them leaves with no effect on the slot. -/
def Clause.CloseFrame : Prop :=
  ∀ (s : State) (l : Link) (f : OutFrame) (b n tag : Nat) (o : Origins), s.Quiet → (s.port l).up = true →
    (s.port l).urgent = [] → f.body = .command b n .closing tag o → (s.brk b).trips = [] → s.lines.tripLatch = false →
    s.lines.lockout = false → (s.fld .breaker b 6 = 0xFFFF ∨ s.expression (s.fld .breaker b 6) = true) →
    (∀ (c : Command) (rest : List OutFrame), (s.port l).normal = f :: rest → f.mirror = false →
      (s.brk b).slot = some c → c.action = .closing → c.tag = tag → c.phase ≠ .queued →
      (c.closeKind = .dead → s.fld .breaker b 5 = 1 → ∃ p, c.requester = .party p ∧ s.par.token = some p) →
      exec (.transmitFrame l) s = .next ((s.modPort l (fun p =>
        Clause.mirrored s f { p with normal := rest, wire := s.wired l f })).modBrk b (fun r =>
          { r with slot := some { c with left := true } }))) ∧
    (∀ rest : List BulkPlace, (s.port l).normal = [] → (s.port l).bulk = .frame f :: rest → f.mirror = true →
      exec (.transmitFrame l) s = .next (s.modPort l (fun p => { p with bulk := rest, wire := s.wired l f })))

/-- What begins transmission on a free wire, and what follows it (R4, R12, R13, R104, R171). That the end of a transmission is
the next TRANSMIT_FRAME is the model's choice, and the port's source address a free value (log entry 7). -/
def Obligations.HeadFrameIsTransmitted : Prop :=
  Clause.HeadFrame ∧ Clause.OtherFrames ∧ Clause.OpenFrame ∧ Clause.CloseFrame

/-- A CLOSE whose frame is at the head of its queue while LOCKOUT is 1, and that no copy has left for, is abandoned: the
frame is discarded and counted as withheld, and the command ends REFUSED(LOCKOUT) (R15, R104, R109). That the wire then
stays free, although the EVENT frame of COMMAND_ENDED joins a queue, rests on log entry 7, and that LOCKOUT is the reason
where the interlock fails too, on log entry 23. -/
def Obligations.WithheldCloseIsRefused : Prop :=
  ∀ (s : State) (l : Link) (f : OutFrame) (b n tag : Nat) (o : Origins) (c : Command), s.Quiet → b < 24 →
    (s.port l).up = true → (s.port l).urgent = [] → (s.port l).normal = [f] → (s.port l).bulk = [] →
    f.body = .command b n .closing tag o → f.mirror = false → (s.brk b).slot = some c → c.action = .closing →
    c.tag = tag → c.phase ≠ .queued → c.left = false → c.requester = .operator → c.origins = { operator := true } →
    (s.brk b).trips = [] → s.lines.tripLatch = false → s.lines.lockout = true →
    ∃ t, exec (.transmitFrame l) s = .next t ∧ (t.port l).wire = none ∧
      (t.port l).withheld = step32 (s.port l).withheld ∧
      t.brk b = { s.brk b with
        slot := none
        lastOutcome := some (.refused .lockout)
        outcomes := (s.brk b).outcomes.modify 2 step32 } ∧
      (∀ a, a ≠ b → t.brk a = s.brk a) ∧ Records s t .breaker 11 b 6 (some (2 + 256 * 3)) ∧
      Only [.links, .events, .breakers] s t

/-! ### Streams, time and closure -/

/-- A matched SAMPLE frame is judged against the closing point: late behind it, early from 16 instants beyond it on, a
duplicate where its instant is held already, and delivered otherwise, the record being updated as R24 says. On which side
of the closing point a position far from it falls is the model's choice (log entry 28). -/
def Obligations.SamplesAreJudged : Prop :=
  ∀ (s : State) (l : Link) (h : Header) (f : SampleBody) (k : Nat), s.Quiet → (s.port l).up = true →
    s.verdict .sample h = .taken → s.matchStream h.src f.stream = some k → f.index < s.perSecond →
    s.aligner.time ≠ .unset →
    let p := s.positionOf ⟨f.second, f.index⟩
    let ahead := s.beyond p s.aligner.closingPoint
    let r := s.modPort l (fun p => { p with silence := 0, taken := step32 p.taken })
    (ahead < 0 → exec (.sampleFrame l h f) s =
      .next (r.modStream k (fun x => { x with late := step32 x.late }))) ∧
    (16 ≤ ahead → exec (.sampleFrame l h f) s =
      .next (r.modStream k (fun x => { x with early := step32 x.early }))) ∧
    (0 ≤ ahead → ahead < 16 → (∃ d ∈ (s.stream k).buffer, d.position = p) → exec (.sampleFrame l h f) s =
      .next (r.modStream k (fun x => { x with duplicate := step32 x.duplicate }))) ∧
    (0 ≤ ahead → ahead < 16 → (∀ d ∈ (s.stream k).buffer, d.position ≠ p) → exec (.sampleFrame l h f) s =
      .next (r.modStream k (fun x =>
        { x with
          buffer := x.buffer ++ [⟨p, f.quality, f.samples⟩]
          delivered := step32 x.delivered
          lastDelivered := match x.lastDelivered with
            | none => some ⟨f.second, f.index⟩
            | some m => if 0 < s.beyond p (s.positionOf m) then some ⟨f.second, f.index⟩ else some m
          gaps := match x.lastSeq with
            | none => x.gaps
            | some n => if h.seq = step16 n then x.gaps else step32 x.gaps
          lastSeq := some h.seq })))

/-- A SAMPLE frame that matches no enabled stream is counted as unmatched, and one whose instant index is beyond the
second as out of range; neither goes further (R23). -/
def Clause.StraySampleIsCounted : Prop :=
  ∀ (s : State) (l : Link) (h : Header) (f : SampleBody), s.Quiet → (s.port l).up = true →
    s.verdict .sample h = .taken →
    let r := s.modPort l (fun p => { p with silence := 0, taken := step32 p.taken })
    (s.matchStream h.src f.stream = none → exec (.sampleFrame l h f) s =
      .next { r with intake := { r.intake with unmatched := step32 r.intake.unmatched } }) ∧
    (∀ k, s.matchStream h.src f.stream = some k → s.perSecond ≤ f.index → exec (.sampleFrame l h f) s =
      .next { r with intake := { r.intake with outOfRange := step32 r.intake.outOfRange } })

/-- While the time state is UNSET a matched frame seeds the counter and the closing point with its own instant, the time
state becomes HOLDOVER, and the frame is delivered (R29). -/
def Clause.FirstSampleSeedsTheCounter : Prop :=
  ∀ (s : State) (l : Link) (h : Header) (f : SampleBody) (k : Nat), s.Quiet → (s.port l).up = true →
    s.verdict .sample h = .taken → s.matchStream h.src f.stream = some k → f.index < s.perSecond →
    f.second < 2 ^ 32 → s.aligner.time = .unset →
    ∃ t, exec (.sampleFrame l h f) s = .next t ∧
      t.aligner = { s.aligner with
        counter := ⟨f.second, f.index⟩
        closingPoint := s.positionOf ⟨f.second, f.index⟩
        time := .holdover
        seedings := step32 s.aligner.seedings } ∧
      (t.stream k).buffer = [⟨s.positionOf ⟨f.second, f.index⟩, f.quality, f.samples⟩] ∧
      (t.stream k).delivered = step32 (s.stream k).delivered ∧
      t.newest = some ⟨s.events.nextSeq, ⟨f.second, f.index⟩, .time, 6, 0, 4, some f.second, false⟩ ∧
      Only [.links, .events, .aligner, .intake] s t

/-- SAMPLE frames that are unmatched or out of range (R23), and the one that seeds the counter (R29). -/
def Obligations.StrayAndFirstSamples : Prop := Clause.StraySampleIsCounted ∧ Clause.FirstSampleSeedsTheCounter

/-- A TIME frame that is not locked is counted alone. A locked one agrees where the counter stands within half a frame of
the second, 24 instants before to 23 beyond: the timeout count is 0 and a slew pends that brings the counter closer; a
time state other than TRACKING becomes TRACKING (R26, R27). -/
def Clause.TimeFrameAgrees : Prop :=
  ∀ (s : State) (l : Link) (h : Header) (f : TimeBody), s.Quiet → (s.port l).up = true →
    s.verdict .time h = .taken →
    let d := s.counterBeyond (s.positionOf ⟨f.second, 0⟩)
    let slew : Slew := if d = 0 then .none else if 0 < d then .withhold else .double
    (f.locked = false → exec (.timeFrame l h f) s =
      .next ((s.reached l .time h).modAligner (fun a => { a with unlocked := step32 a.unlocked }))) ∧
    (f.locked = true → -24 ≤ d → d ≤ 23 → s.aligner.time = .tracking → exec (.timeFrame l h f) s =
      .next ((s.reached l .time h).modAligner (fun a => { a with slew := slew, timeout := 0 }))) ∧
    (f.locked = true → -24 ≤ d → d ≤ 23 → s.aligner.time ≠ .tracking → ∃ t, exec (.timeFrame l h f) s = .next t ∧
      t.aligner = { s.aligner with slew := slew, timeout := 0, time := .tracking } ∧
      Records s t .time 6 0 1 none ∧ Only [.links, .events, .aligner] s t)

/-- A locked TIME frame that does not agree is adopted as a step: the counter takes the second's start, the closing point
moves by the same shift, every receive buffer is emptied, a pending slew is dropped and the steps are counted; the time
state is TRACKING after it (R26, R28). -/
def Clause.TimeFrameSteps : Prop :=
  ∀ (s : State) (l : Link) (h : Header) (f : TimeBody), s.Quiet → (s.port l).up = true →
    s.verdict .time h = .taken → f.locked = true →
    let d := s.counterBeyond (s.positionOf ⟨f.second, 0⟩)
    (d < -24 ∨ 23 < d) → ∃ t, exec (.timeFrame l h f) s = .next t ∧
      t.aligner = { s.aligner with
        counter := ⟨f.second, 0⟩
        closingPoint := s.shifted s.aligner.closingPoint (-d)
        slew := .none
        steps := step32 s.aligner.steps
        timeout := 0
        time := .tracking } ∧
      t.intake = { s.intake with streams := s.intake.streams.map (fun r => { r with buffer := [] }) } ∧
      Only [.links, .events, .aligner, .intake] s t

/-- TIME frames: not locked, agreeing, and adopted as a step (R26 to R28). -/
def Obligations.TimeFramesAreTaken : Prop := Clause.TimeFrameAgrees ∧ Clause.TimeFrameSteps

/-- TRACKING ends in HOLDOVER after five seconds without an accepted TIME frame, with its event and its latched bit at 0
(R26, R36). -/
def Clause.TrackingEndsInHoldover : Prop :=
  ∀ s : State, s.Quiet → s.aligner.time = .tracking →
    (s.aligner.timeout < 5 * s.perSecond → exec .timeHoldover s = .next s) ∧
    (5 * s.perSecond ≤ s.aligner.timeout → ∃ t, exec .timeHoldover s = .next t ∧
      t.aligner = { s.aligner with time := .holdover, timeLatch := false } ∧
      Records s t .time 10 0 2 none ∧ Only [.links, .events, .aligner] s t)

/-- The counter advances by one instant, the second stepping at the index return; a pending slew withholds the advance or
doubles it (R25, R27). At an advance each silence count steps, to 24 at most (R1). -/
def Clause.AdvanceStepsTheCounter : Prop :=
  ∀ s : State, s.Quiet →
    (s.aligner.time = .tracking → s.aligner.slew = .withhold →
      exec .instantAdvance s = .next (s.modAligner (fun a => { a with slew := .none }))) ∧
    (s.aligner.slew = .none → s.station 7 = s.aligner.nominal → ∃ t, exec .instantAdvance s = .next t ∧
      t.aligner = { s.aligner with
        counter := if s.perSecond ≤ s.aligner.counter.index + 1 then ⟨step32 s.aligner.counter.second, 0⟩
          else ⟨s.aligner.counter.second, s.aligner.counter.index + 1⟩
        timeout := if s.aligner.time = .tracking then min (s.aligner.timeout + 1) (5 * s.perSecond)
          else s.aligner.timeout } ∧
      (∀ l, (t.port l).silence = min ((s.port l).silence + 1) 24) ∧
      Only [.links, .events, .aligner, .breakers, .seq, .par] s t) ∧
    (s.aligner.time = .tracking → s.aligner.slew = .double → s.aligner.counter.index + 2 < s.perSecond →
      ∃ t, exec .instantAdvance s = .next t ∧
        t.aligner.counter = ⟨s.aligner.counter.second, s.aligner.counter.index + 2⟩ ∧ t.aligner.slew = .none ∧
        Only [.links, .events, .aligner, .breakers, .seq, .par] s t)

/-- At one advance, with auto transfer off, the timer of each command that is SENT or ACCEPTED steps, and that of each
BF that is not IDLE (R107, R108, R112, R116); the step and parallel timers of the plan that runs step, and the wait for a
sync retry does (R128, R130, R133). -/
def Clause.AdvanceStepsBreakersAndPlan : Prop :=
  ∀ s : State, s.Quiet → (s.aligner.time ≠ .tracking ∨ s.aligner.slew = .none) → s.seq.autoEffective = false →
    ∃ t, exec .instantAdvance s = .next t ∧
      (∀ b < 24, t.brk b = { s.brk b with
        slot := (s.brk b).slot.map (fun c => if c.phase = .queued then c else { c with timer := c.timer + 1 })
        bfTimer := if (s.brk b).bf = .idle then (s.brk b).bfTimer else (s.brk b).bfTimer + 1 }) ∧
      t.breakers.requests = s.breakers.requests ∧
      (∀ r, s.seq.state = .running r → t.seq.state = .running { r with
        timer := r.timer + 1
        parallel := r.parallel.map (fun n => n + 1)
        wait := match r.wait with
          | .retry n => .retry (n + 1)
          | w => w }) ∧
      (s.run? = none → t.seq.state = s.seq.state) ∧ Only (touches .instantAdvance) s t

/-- At one advance, with auto transfer off, the timers of each configured generator step, each in the states that run it,
the retry timer down to 0 (R148 to R150, R153, R156, R157, R159, R164, R166); so do the correction timers of the RUNNING
runs and the load-sharing timer (R162, R165). -/
def Clause.AdvanceStepsTheGenerators : Prop :=
  ∀ s : State, s.Quiet → (s.aligner.time ≠ .tracking ∨ s.aligner.slew = .none) → s.seq.autoEffective = false →
    ∃ t, exec .instantAdvance s = .next t ∧
      (∀ g < 8, s.fld .generator g 1 = 1 →
        let r := s.gen g
        let checks := (s.brk (s.fld .generator g 3)).slot.any (fun c => c.action == .closing && c.closeKind == .dead &&
          c.phase == .queued && c.requester == .party (.generator g))
        t.gen g = { r with
          absentTimer := min (r.absentTimer + 1) 2880
          exchange := if r.exchange.state = .awaitBase ∨ r.exchange.state = .receiving then
              { r.exchange with gap := r.exchange.gap + 1 }
            else r.exchange
          startTimer := if r.state = .starting then r.startTimer + 1 else r.startTimer
          retryTimer := r.retryTimer - 1
          retryDue := r.retryDue || decide (r.retryTimer = 1)
          onlineTimer := if r.state = .online then r.onlineTimer + 1 else r.onlineTimer
          unloadTimer := if r.state = .unloading then r.unloadTimer + 1 else r.unloadTimer
          deadTimer := if r.state = .closing ∧ checks = true then r.deadTimer + 1 else r.deadTimer
          refreshTimer := if r.state = .absent then r.refreshTimer else r.refreshTimer + 1 }) ∧
      (∀ g < 8, s.fld .generator g 1 ≠ 1 → t.gen g = s.gen g) ∧
      (∀ c < 4, t.channel c = (s.channel c).map (fun r =>
        if r.phase = .running then { r with timer := r.timer + 1 } else r)) ∧
      t.par.shareTimer = s.par.shareTimer + 1

/-- What a qualified source becomes at an evaluation, and its delay count (R121). The end of a delay is a command of its
own, until which the count stands at the delay. -/
def Clause.sourceMove (fail restore : Nat) (healthy : Bool) (x : SourceState) (delay : Nat) : SourceState × Nat :=
  match x, healthy with
  | .available, false => (if fail = 0 then .failed else .failing, 0)
  | .failing, true => if fail ≤ delay then (.failing, delay) else (.available, 0)
  | .failing, false => (.failing, min (delay + 1) fail)
  | .failed, true => (if restore = 0 then .available else .restoring, 0)
  | .restoring, true => (.restoring, min (delay + 1) restore)
  | .restoring, false => if restore ≤ delay then (.restoring, delay) else (.failed, 0)
  | y, _ => (y, delay)

/-- At one advance each source is evaluated on its governing stream and its health (R120 to R122): UNVERIFIED without the
stream, keeping its previous state, its delay and its points; back in its previous state and then moved by R121 with it, or
straight to AVAILABLE or FAILED where it has none; and a change of state is recorded. A source whose delay has run out
waits for the command that ends it. -/
def Clause.SourcesAreEvaluated : Prop :=
  ∀ (s : State) (id : SourceId), s.Quiet → (s.aligner.time ≠ .tracking ∨ s.aligner.slew = .none) →
    s.seq.autoEffective = false → s.station 7 = s.aligner.nominal →
    let x := id.number
    s.fld .source x 2 < 64 → (∀ i < 4, s.fld .source x (3 + i) = 0xFFFF ∨ s.fld .source x (3 + i) < 64) →
    let r := s.source x
    let fail := s.fld .source x 7
    let restore := s.fld .source x 8
    let healthy := s.point (48 + s.fld .source x 2) &&
      (List.range 4).all (fun i => s.fld .source x (3 + i) == 0xFFFF || !s.point (48 + s.fld .source x (3 + i))) &&
      (x != 2 || (List.range 8).any (fun g => (s.gen g).state == .online))
    let valid := (s.stream (s.fld .source x 1)).valid
    let due : Bool := decide ((r.state = .failing ∧ fail ≤ r.delay) ∨ (r.state = .restoring ∧ restore ≤ r.delay))
    let y : SourceState × Nat := if due then (r.state, r.delay) else if valid = false then (.unverified, r.delay)
      else match r.state, r.previous with
        | .unverified, none => (if healthy then .available else .failed, 0)
        | .unverified, some p => Clause.sourceMove fail restore healthy p r.delay
        | z, _ => Clause.sourceMove fail restore healthy z r.delay
    let kept : Bool := decide (y.1 = r.state ∨ y.1 = .unverified)
    ∃ t, exec .instantAdvance s = .next t ∧
      t.source x = {
        state := y.1
        previous := if due = false ∧ valid = false ∧ r.state ≠ .unverified then some r.state else r.previous
        delay := y.2
        availablePoint := if kept then r.availablePoint else decide (y.1 = .available)
        failedPoint := if kept then r.failedPoint else decide (y.1 = .failed) } ∧
      (y.1 ≠ r.state → ∃ e ∈ t.events.records, (e.cls, e.object, e.code) = (EventClass.transfer, x, 1) ∧
        e.priority = (match y.1 with
          | .failed => 12
          | .available => 8
          | _ => 5) ∧
        e.value = some (match y.1 with
          | .unverified => 0
          | .available => 1
          | .failing => 2
          | .failed => 3
          | .restoring => 4))

/-- At one advance, while no source moves, a send attempt is made: the oldest unsent records of priority 12 and higher, up to
8, go in one EVENT frame to the normal queue of each link that is UP with fewer than 8 EVENT frames there, the oldest of the
others in one to the bulk queue of each that has room; a frame that is placed has its records marked sent, and each built
frame takes the next sequence number (R10, R16, R17, R171). -/
def Clause.AdvanceSendsEvents : Prop :=
  ∀ s : State, s.Quiet → (s.aligner.time ≠ .tracking ∨ s.aligner.slew = .none) → s.station 7 = s.aligner.nominal →
    (∀ x < 3, (s.source x).state = .unverified ∧ (s.stream (s.fld .source x 1)).valid = false) →
    (s.events.records.map (·.seq)).Nodup →
    let first := fun urgent : Bool => (s.events.records.filter (fun r =>
      !r.sent && (decide (12 ≤ r.priority) == urgent))).take 8
    let room := fun (urgent : Bool) (l : Link) => (s.port l).up = true ∧
      (if urgent then (s.port l).normalCount OutFrame.isEvent < 8 else (s.port l).bulk.length < 64)
    let built := fun urgent : Bool => decide (first urgent ≠ [] ∧ (room urgent .a ∨ room urgent .b))
    let frame := fun (urgent : Bool) (seq : Nat) =>
      (⟨s.station 1, 4095, seq, .event (first urgent), false, false⟩ : OutFrame)
    let next := if built true then step16 s.links.eventSeq else s.links.eventSeq
    ∃ t, exec .instantAdvance s = .next t ∧
      (built true = true → ∀ l, room true l → frame true s.links.eventSeq ∈ (t.port l).normal) ∧
      (built false = true → ∀ l, room false l → BulkPlace.frame (frame false next) ∈ (t.port l).bulk) ∧
      t.links.eventSeq = (if built false then step16 next else next) ∧
      t.events = { s.events with records := s.events.records.map (fun r =>
        if (built true = true ∧ r.seq ∈ (first true).map (·.seq)) ∨
            (built false = true ∧ r.seq ∈ (first false).map (·.seq)) then { r with sent := true } else r) }

/-- The event of TIME_HOLDOVER joins the event queue as every record does: at the tail, under the next sequence number, the
oldest of 128 going with its loss counted and, where it was unsent, latched; and a send attempt follows (R170, R171). -/
def Clause.QueueTakesARecord : Prop :=
  ∀ s : State, s.Quiet → s.aligner.time = .tracking → 5 * s.perSecond ≤ s.aligner.timeout →
    ∃ t, exec .timeHoldover s = .next t ∧ Clause.EventsBecome t (Clause.appended s.events
      ⟨s.events.nextSeq, s.aligner.counter, .time, 10, 0, 2, none, false⟩)

/-- The counter's advance (R25, R27, R1), the timers, the sources and the event queue at it (R107, R121, R128, R148, R171
among others), the end of TRACKING (R26, R36), and a record that joins the event queue (R170). The order of the blocks
within one advance and the marks of an expiry that is due are the model's own (log entries 5 and 21). That a source whose
delay stands at its limit stays as it is until the command of its expiry, whatever its stream and its health, is the model's
inference (log entry 22), and so is its previous state once it has left UNVERIFIED its choice; that a timeout count above a
lowered limit comes down to it, and that the overwritten count wraps, is its choice (log entry 28); and that the ABSENT timer
stays at its limit, and the timers without a width, the ONLINE timer and the BF timer among them, count without bound (log
entries 21 and 23). -/
def Obligations.CounterAdvancesAndTrackingEnds : Prop :=
  Clause.TrackingEndsInHoldover ∧ Clause.AdvanceStepsTheCounter ∧ Clause.AdvanceStepsBreakersAndPlan ∧
    Clause.AdvanceStepsTheGenerators ∧ Clause.SourcesAreEvaluated ∧ Clause.AdvanceSendsEvents ∧
    Clause.QueueTakesARecord

/-- A record of the closure of `s` is held after it, unless the queue has overflowed (R170). -/
def Clause.ClosureRecords (s t : State) (c : EventClass) (priority object code : Nat) (value : Option Nat) : Prop :=
  t.events.records.length < 128 → ∃ r ∈ t.events.records, r.at_ = s.labelOf s.aligner.closingPoint ∧
    (r.cls, r.priority, r.object, r.code, r.value) = (c, priority, object, code, value)

/-- The instant at the closing point closes once the counter is not behind it and each gating stream holds its frame, or
once the counter stands the wait limit and one more beyond it; then the closing point moves on (R30). The LOCKOUT pin
is sampled, and point LOCKOUT follows two equal samples (R90, R91). -/
def Clause.InstantCloses : Prop :=
  ∀ (s : State) (pin : Bool), s.Quiet →
    let ahead := s.counterBeyond s.aligner.closingPoint
    let due := (0 ≤ ahead ∧ ∀ k < 16, ((s.stream k).state = .locked ∨ (s.stream k).state = .holding) →
      ∃ d ∈ (s.stream k).buffer, d.position = s.aligner.closingPoint) ∨ (s.station 8 : Int) + 1 ≤ ahead
    let lockout := if s.lines.lastSample = some pin then pin else s.lines.lockout
    (¬ due → exec (.instantClosure pin) s = .next s) ∧
    (due → ∃ t, exec (.instantClosure pin) s = .next t ∧
      t.aligner = { s.aligner with
        closingPoint := s.shifted s.aligner.closingPoint 1
        lastClosed := some (s.labelOf s.aligner.closingPoint) } ∧
      t.lines = { s.lines with
        lockoutPin := pin
        lastSample := some pin
        lockout := lockout
        lockoutChanges := if lockout = s.lines.lockout then s.lines.lockoutChanges
          else s.lines.lockoutChanges ++ [pin]
        healthy := t.healthyNow } ∧
      (∀ k < 16, (s.stream k).state ≠ .disabled →
        (t.stream k).buffer = (s.stream k).buffer.filter (fun d => d.position != s.aligner.closingPoint) ∧
        ((t.stream k).valid = true ↔
          ∀ q ∈ (t.stream k).quantities, q.condition ≠ .invalid ∧ q.fresh = 48)) ∧
      t.pending = s.pending ∧ t.free = s.free)

/-- A closure that is due takes each enabled stream's eight quantities from its frame for the instant, or from none
(R31, R32), and its state from them (R33), and enters their values, each with the mark of its condition, as the newest
of their windows (R39). A stream that is DISABLED keeps its measurements. -/
def Clause.ClosureEntersTheWindows : Prop :=
  ∀ (s t : State) (pin : Bool), s.Quiet → s.closureDue = true → exec (.instantClosure pin) s = .next t →
    let label := s.labelOf s.aligner.closingPoint
    t.aligner.lastClosed = some label ∧ ∀ k < 16,
      let frame := (s.stream k).buffer.find? (fun d => d.position == s.aligner.closingPoint)
      let old := s.measure k
      let new := t.measure k
      let qs := (t.stream k).quantities
      ((s.stream k).state = .disabled → new = old) ∧
      ((s.stream k).state ≠ .disabled →
        qs = ((s.stream k).quantities.zip (List.range 8)).map (fun x => closeQuantity frame x.1 x.2) ∧
        (t.stream k).state = (
          if (s.stream k).state = .acquiring ∧ frame = none then StreamState.acquiring
          else if ∃ q ∈ qs, q.condition = .held then .holding
          else if ∀ q ∈ qs, q.condition = .invalid then .stale else .locked) ∧
        new.windows = List.zipWith (fun w q =>
          w.tail ++ [⟨q.value, match q.condition with
            | .fresh => .none
            | .held => .held
            | .invalid => .invalid⟩]) old.windows qs)

/-- At a closure the phasor of a quantity with fresh count 48 is computed from its window: Re and Im as the sums of the
values times the coefficients over 49152, rounded half away from zero, and the magnitude as the floor of the root of
the sum of their squares, valid as of the instant closed. Another keeps its values and is not valid (R41 to R43). The
power follows from the six phasors of the pairs, where all are valid (R50). -/
def Clause.ClosureComputesPhasorsAndPower : Prop :=
  ∀ (s t : State) (pin : Bool) (k : Nat), s.Quiet → s.closureDue = true → exec (.instantClosure pin) s = .next t →
    k < 16 → (s.stream k).state ≠ .disabled →
    let old := s.measure k
    let new := t.measure k
    let sum := fun (q : Nat) (c : Nat → Int) =>
      ((List.range 48).map (fun j => (nth (nth new.windows q) j).value * c j)).sum
    (∀ q < 8,
      let p := t.phasor k q
      ((nth (t.stream k).quantities q).fresh = 48 →
        p.re = roundDiv (sum q cosCoefficient) 49152 ∧ p.im = roundDiv (-(sum q sinCoefficient)) 49152 ∧
        (p.magnitude : Int) ^ 2 ≤ p.re ^ 2 + p.im ^ 2 ∧ p.re ^ 2 + p.im ^ 2 < ((p.magnitude : Int) + 1) ^ 2 ∧
        p.valid = true ∧ p.asOf = some (s.labelOf s.aligner.closingPoint)) ∧
      ((nth (t.stream k).quantities q).fresh ≠ 48 → p = { s.phasor k q with valid := false })) ∧
    let pair := fun q => (t.phasor k q).re * (t.phasor k (q + 4)).re + (t.phasor k q).im * (t.phasor k (q + 4)).im
    (new.powerValid = true ↔ ∀ q ∈ [0, 1, 2, 4, 5, 6], (t.phasor k q).valid = true) ∧
    new.power = if new.powerValid then roundDiv (pair 0 + pair 1 + pair 2) 131072 else old.power

/-- At a closure the frequency tracker steps its closure count and tests for a positive-going crossing of Q0 (R46); a
period from the reference crossing that lies in its range gives the frequency, any other is discarded (R47), and
without an accepted period the silence count steps to 144, where the frequency is no longer valid (R48). -/
def Clause.ClosureTracksTheFrequency : Prop :=
  ∀ (s t : State) (pin : Bool) (k : Nat), s.Quiet → s.closureDue = true → exec (.instantClosure pin) s = .next t →
    k < 16 → (s.stream k).state ≠ .disabled →
    let old := (s.measure k).tracker
    let n := (old.closures + 1) % 2 ^ 24
    let a := nth (nth (t.measure k).windows 0) 46
    let b := nth (nth (t.measure k).windows 0) 47
    let crosses : Bool := decide (a.value < 0 ∧ 0 ≤ b.value ∧ a.mark = .none ∧ b.mark = .none ∧
      (t.phasor k 0).valid = true ∧ s.fld .stream k 4 ≤ (t.phasor k 0).magnitude)
    let x := ((256 * n - 256 * b.value / (b.value - a.value) : Int) % 2 ^ 32).toNat
    let period : Option Nat := if crosses then old.reference.map (fun r => (x + 2 ^ 32 - r) % 2 ^ 32) else none
    let accepted : Bool := decide (∃ p, period = some p ∧ 8192 ≤ p ∧ p ≤ 18432)
    let silence := if accepted then 0 else min (old.silence + 1) 144
    (t.measure k).tracker = {
      closures := n
      reference := if crosses then some x else old.reference
      silence := silence
      frequency := match period, accepted with
        | some p, true => (roundDiv (12288000 * s.aligner.nominal : Nat) p).toNat
        | _, _ => old.frequency
      valid := accepted || (old.valid && decide (silence < 144))
      accepted := if accepted then step32 old.accepted else old.accepted
      discarded := if period.isSome && !accepted then step32 old.discarded else old.discarded }

/-- A stream that enters STALE at a closure records STREAM_STALE and sets its latched bit, and one that leaves STALE for LOCKED
or HOLDING records STREAM_RECOVERED, each held unless the queue has overflowed; another change sets no bit (R33, R35). A
stream that is DISABLED keeps its record. -/
def Clause.StreamChangesAreRecorded : Prop :=
  ∀ (s t : State) (pin : Bool) (k : Nat), s.Quiet → s.closureDue = true → exec (.instantClosure pin) s = .next t →
    k < 16 →
    let old := (s.stream k).state
    let new := (t.stream k).state
    (old = .disabled → t.stream k = s.stream k) ∧
    (old ≠ .disabled → (t.stream k).staleSeen = ((s.stream k).staleSeen || decide (new = .stale ∧ old ≠ .stale))) ∧
    (new = .stale → old ≠ .stale → Clause.ClosureRecords s t .stream 10 k 1 none) ∧
    (old = .stale → new = .locked ∨ new = .holding → Clause.ClosureRecords s t .stream 6 k 2 none)

/-- The instant record of the closure of `s`: its label, and for each selected stream in table order the eight values entered
with the marks of their conditions, a stream that is DISABLED giving zeros marked INVALID (R174). -/
def Clause.instantRecord (s t : State) : InstantRecord where
  label := s.labelOf s.aligner.closingPoint
  streams := (List.range (s.captureField 2)).map (fun i =>
    let r := s.stream (s.captureField (3 + i))
    if r.state = .disabled then List.replicate 8 (0, .invalid)
    else (t.stream (s.captureField (3 + i))).quantities.map (fun q => (q.value, match q.condition with
      | .fresh => if q.questionable then SampleMark.questionable else .taken
      | .held => .held
      | .invalid => .invalid)))

/-- At a closure the instant record joins the ring while capture is armed, the oldest of 240 going, and without it the ring is
emptied; a RECORDING buffer takes the record too, and with the post length after the copied ones is HELD, CAPTURE_ACTIVE 0
and CAPTURE_COMPLETE recorded, held unless the queue has overflowed (R174, R175). An EMPTY or HELD buffer stands. -/
def Clause.ClosureFeedsTheCapture : Prop :=
  ∀ (s t : State) (pin : Bool), s.Quiet → s.closureDue = true → exec (.instantClosure pin) s = .next t →
    let c := s.capture
    let record := Clause.instantRecord s t
    let ring := if s.captureField 1 = 1 then (if c.ring.length < 240 then c.ring else c.ring.tail) ++ [record] else []
    let buffer := c.buffer ++ [record]
    let full := s.captureField 17 ≤ buffer.length - c.copied
    (c.state ≠ .recording → t.capture = { c with ring := ring, edges := t.capture.edges }) ∧
    (c.state = .recording → ¬ full →
      t.capture = { c with ring := ring, buffer := buffer, edges := t.capture.edges } ∧ t.point 236 = true) ∧
    (c.state = .recording → full →
      t.capture = { c with ring := ring, buffer := buffer, state := .held, edges := t.capture.edges } ∧
      t.point 236 = false ∧ Clause.ClosureRecords s t .capture 8 0 3 (some buffer.length))

/-- The closure of an instant: when it comes, the LOCKOUT pin (R30, R90, R91), what each stream's measurements become
(R31 to R33, R39 to R43, R46 to R50), the events and latched bits of the streams (R33, R35), and the instant record that
capture takes (R174, R175). On which side of the closing point a counter far from it stands is the model's choice (log entry
28). That one command closes one instant and the list of LOCKOUT changes that wait are the model's own (log entry 5), and so
is the pin as an operand (log entry 12). -/
def Obligations.ClosureMovesOn : Prop :=
  Clause.InstantCloses ∧ Clause.ClosureEntersTheWindows ∧ Clause.ClosureComputesPhasorsAndPower ∧
    Clause.ClosureTracksTheFrequency ∧ Clause.StreamChangesAreRecorded ∧ Clause.ClosureFeedsTheCapture

/-- A sample that is good or questionable is taken, and the fresh count steps to 48 at most. A missing sample is HELD with
the last value for two closures and INVALID with value 0 from the third on, the fresh count going to 0 (R31, R32). -/
def Obligations.QuantityFollowsItsSamples : Prop :=
  ∀ (q : Quantity) (k : Nat),
    (∀ d : Delivered, qualityOf d.quality k < 2 →
      closeQuantity (some d) q k = { q with
        condition := .fresh
        missing := 0
        value := d.samples.getD k 0
        questionable := decide (qualityOf d.quality k = 1)
        fresh := min (q.fresh + 1) 48 }) ∧
    (∀ d : Delivered, 2 ≤ qualityOf d.quality k → closeQuantity (some d) q k = closeQuantity none q k) ∧
    (q.condition = .fresh →
      let one := closeQuantity none q k
      let two := closeQuantity none one k
      let three := closeQuantity none two k
      one.condition = .held ∧ one.value = q.value ∧ two.condition = .held ∧ two.value = q.value ∧
        three.condition = .invalid ∧ three.value = 0 ∧ three.fresh = 0 ∧
        ∀ n, (Nat.repeat (fun x => closeQuantity none x k) n three).condition = .invalid)

/-- The rise of a trigger point begins a capture with the newest pre-trigger records of the ring while the buffer is EMPTY
and capture is armed, has no effect while it is EMPTY and capture is not, but that the rise is taken, and is refused and
counted while the buffer is not EMPTY. CAPTURE_ACTIVE is 1 from the capture's beginning on, and a refusal leaves it (R175). -/
def Clause.TriggerBeginsACapture : Prop :=
  ∀ (s : State) (p : Nat), s.Quiet →
    (p ∉ s.capture.edges → exec (.captureTrigger p) s = .next s) ∧
    (p ∈ s.capture.edges → s.capture.state = .empty → s.captureField 1 = 1 →
      let copied := s.capture.ring.drop (s.capture.ring.length - s.captureField 16)
      ∃ t, exec (.captureTrigger p) s = .next t ∧
        t.capture = { s.capture with
          state := .recording
          buffer := copied
          copied := copied.length
          triggerPoint := some p
          triggerLabel := s.aligner.lastClosed
          triggerIndex := if copied = [] then none else some (copied.length - 1)
          edges := s.capture.edges.erase p ++ risesOf s t } ∧
        t.point 236 = true ∧ Records s t .capture 9 0 2 (some p) ∧ Only [.links, .events, .capture] s t) ∧
    (p ∈ s.capture.edges → s.capture.state = .empty → s.captureField 1 ≠ 1 → exec (.captureTrigger p) s =
      .next (s.modCapture (fun c => { c with edges := c.edges.erase p }))) ∧
    (p ∈ s.capture.edges → s.capture.state ≠ .empty → ∃ t, exec (.captureTrigger p) s = .next t ∧
      t.capture = { s.capture with
        edges := s.capture.edges.erase p ++ risesOf s t
        refused := step32 s.capture.refused } ∧
      t.point 236 = s.point 236 ∧ Records s t .capture 4 0 1 (some p) ∧ Only [.links, .events, .capture] s t)

/-! ### Arithmetic and elements -/

/-- The magnitude's root is the floor of the square root (R42). -/
def Clause.SquareRootIsTheFloor : Prop :=
  ∀ n : Nat, isqrt n * isqrt n ≤ n ∧ n < (isqrt n + 1) * (isqrt n + 1)

/-- Exact division rounded half away from zero: the quotient is nearest, and a half goes away from zero (5.4). -/
def Clause.DivisionRoundsHalfAway : Prop :=
  ∀ (n : Int) (d : Nat), 0 < d →
    2 * (d : Int) * (roundDiv n d).natAbs ≤ 2 * n.natAbs + d ∧
      2 * (n.natAbs : Int) + d < 2 * d * ((roundDiv n d).natAbs + 1) ∧
      (0 < n → 0 ≤ roundDiv n d) ∧ (n < 0 → roundDiv n d ≤ 0)

/-- The angle of R44 between phasors `g` and `b`: from -18000 to 17999, 0 with both products 0, and else a nearest hundredth
of a degree to the angle of the complex number with real part dot and imaginary part cross, +18000 being -18000. The model's
arctangent is not proved to tell apart an angle within 2^-100 of a half from that half (log entry 10), and so the bound
exceeds a half by as much. -/
def Clause.IsAngle (g b : Phasor) (theta : Int) : Prop :=
  let dot := g.re * b.re + g.im * b.im
  let cross := g.im * b.re - g.re * b.im
  let angle : ℝ := Complex.arg ⟨dot, cross⟩ * 18000 / Real.pi
  theta ≤ 17999 ∧ -18000 ≤ theta ∧ (dot = 0 → cross = 0 → theta = 0) ∧ (cross = 0 → 0 < dot → theta = 0) ∧
    (cross = 0 → dot < 0 → theta = -18000) ∧
    (dot ≠ 0 ∨ cross ≠ 0 → ∃ turn : Int, (turn = theta ∨ (theta = -18000 ∧ turn = 18000)) ∧
      abs ((turn : ℝ) - angle) ≤ 1 / 2 + 1 / 2 ^ 100)

/-- The angle between two phasors is that of R44. -/
def Clause.AnglesAreTrue : Prop := ∀ g b : Phasor, Clause.IsAngle g b (angleBetween g b)

/-- The operations that every measurement rests on: the integer square root (R42), the rounded division (5.4) and the angle
between two phasors (R44). -/
def Obligations.RootsAndQuotientsAreNearest : Prop :=
  Clause.SquareRootIsTheFloor ∧ Clause.DivisionRoundsHalfAway ∧ Clause.AnglesAreTrue

/-- The bands of X for the over types (R68) and for UV, UF and OF (R69). -/
def Obligations.BandsAreExact : Prop :=
  ∀ (pickup : Nat) (x : Int),
    (∀ type ∈ [0, 1, 3, 6, 7], (bandOf type pickup x = .pickup ↔ (pickup : Int) ≤ x) ∧
      (bandOf type pickup x = .dropout ↔ 32 * x < 31 * (pickup : Int)) ∧
      (bandOf type pickup x = .hysteresis ↔ 31 * (pickup : Int) ≤ 32 * x ∧ x < pickup)) ∧
    ((bandOf 2 pickup x = .pickup ↔ x ≤ pickup) ∧ (bandOf 2 pickup x = .dropout ↔ 33 * (pickup : Int) < 32 * x) ∧
      (bandOf 2 pickup x = .hysteresis ↔ 32 * x ≤ 33 * (pickup : Int) ∧ (pickup : Int) < x)) ∧
    ((bandOf 4 pickup x = .pickup ↔ x ≤ pickup) ∧ (bandOf 4 pickup x = .dropout ↔ (pickup : Int) + 20 < x) ∧
      (bandOf 4 pickup x = .hysteresis ↔ (pickup : Int) < x ∧ x ≤ (pickup : Int) + 20)) ∧
    ((bandOf 5 pickup x = .pickup ↔ (pickup : Int) ≤ x) ∧ (bandOf 5 pickup x = .dropout ↔ x < (pickup : Int) - 20) ∧
      (bandOf 5 pickup x = .hysteresis ↔ (pickup : Int) - 20 ≤ x ∧ x < pickup))

/-- An interlock expression is true where group 1 or group 2 holds, a group holding where it has terms and each of them
holds, and where both have none (R88). -/
def Obligations.ExpressionsHoldByGroups : Prop :=
  ∀ (s : State) (x : Nat),
    let holds := fun id : Nat => (s.point (s.fld .interlock x id % 256) = true ↔ s.fld .interlock x id / 256 = 1)
    let one := s.fld .interlock x 1
    let two := s.fld .interlock x 2
    s.expression x = true ↔
      (one = 0 ∧ two = 0) ∨ (0 < one ∧ ∀ i < one, holds (3 + i)) ∨ (0 < two ∧ ∀ i < two, holds (7 + i))

/-- A definite-time element, ARMED and not blocked, that stays at or beyond pickup is PICKED_UP from the first closure on
and OPERATED once as many closures as its delay have followed; with delay 0 it is OPERATED at the first (R70). -/
def Clause.DefiniteTimeOperatesAfterItsDelay : Prop :=
  ∀ (c : Settings) (bank : Bank) (i : ElementInput) (r : ElementRec), c.enabled = true → c.type ≠ 1 →
    (c.type = 4 ∨ c.type = 5 → c.supervision ≤ i.q0) → i.block = false → i.valid = true →
    bandOf c.type c.pickup i.x = .pickup → r.state = .armed → r.delay = 0 →
    ∀ n, (Nat.repeat (ElementRec.work c bank i) (n + 1) r).state =
      if c.delay ≤ n then ElementState.operated else ElementState.pickedUp

/-- An inverse-time element that stays at or beyond pickup adds its curve's increment at each closure, and is OPERATED
once the accumulator is full (R72). -/
def Clause.InverseTimeOperatesWhenFull : Prop :=
  ∀ (c : Settings) (bank : Bank) (i : ElementInput) (r : ElementRec), c.enabled = true → c.type = 1 →
    i.block = false → i.valid = true → bandOf 1 c.pickup i.x = .pickup → r.state = .armed → r.accumulator = 0 →
    ∀ n, let x := Nat.repeat (ElementRec.work c bank i) (n + 1) r
      x.accumulator = min ((n + 1) * i.increment) 16777216 ∧
        x.state = if 16777216 ≤ (n + 1) * i.increment then ElementState.operated else ElementState.pickedUp

/-- The decision of an element that is ARMED, PICKED_UP or OPERATED on the band of X: by the table of R70 for a definite-time
element, and by R72 and R73 for an inverse-time one. X is kept, and an entry into OPERATED steps the operations (R57, R76). -/
def Clause.decision (c : Settings) (i : ElementInput) (r : ElementRec) : ElementRec :=
  let counted := if r.delay < c.delay then r.delay + 1 else r.delay
  let full := min (r.accumulator + i.increment) 16777216
  let d : ElementRec :=
    match decide (c.type = 1), r.state, bandOf c.type c.pickup i.x with
    | false, .armed, .pickup => { r with state := if c.delay ≤ r.delay then .operated else .pickedUp }
    | false, .armed, .hysteresis => r
    | false, .armed, .dropout => { r with delay := 0 }
    | false, .pickedUp, .dropout => { r with state := .armed, delay := 0 }
    | false, .pickedUp, _ => { r with delay := counted, state := if c.delay ≤ counted then .operated else .pickedUp }
    | false, .operated, .dropout => { r with state := .armed, delay := 0 }
    | true, .operated, .pickup => { r with accumulator := full }
    | true, _, .pickup => { r with accumulator := full, state := if full = 16777216 then .operated else .pickedUp }
    | true, _, .dropout => { r with state := .armed, accumulator := r.accumulator - c.decrement }
    | _, _, _ => r
  { d with
    lastX := i.x
    operations := if d.state = .operated ∧ r.state ≠ .operated then step32 r.operations else r.operations }

/-- The supervision of a UF or OF element: BLOCKED while Q0 is below the supervision level, its counts left as they stand;
otherwise it decides, from ARMED where supervision had blocked it (R65). Elements of other types decide. -/
def Clause.supervised (c : Settings) (i : ElementInput) (r : ElementRec) : ElementRec :=
  if (c.type = 4 ∨ c.type = 5) ∧ i.q0 < c.supervision then { r with state := .blocked .supervision }
  else Clause.decision c i (if r.state = .blocked .supervision then { r with state := .armed } else r)

/-- An element whose bank is disabled is DISABLED, entered with every count at 0; a DISABLED element whose bank is enabled
works as one that enters SETTLING with every count at 0 (R58, R59). The bank that the closure names becomes its active
bank, and a switch of it changes nothing else (R60). -/
def Clause.BanksEnableAndDisable : Prop :=
  ∀ (c : Settings) (bank : Bank) (i : ElementInput) (r : ElementRec),
    (c.enabled = false → r.state = .disabled → r.work c bank i = { r with bank := bank }) ∧
    (c.enabled = false → r.state ≠ .disabled → r.work c bank i =
      { r with bank := bank, state := .disabled, delay := 0, accumulator := 0, settle := 0, hold := 0 }) ∧
    (c.enabled = true → r.state = .disabled → r.work c bank i =
      ElementRec.work c bank i { r with state := .settling, delay := 0, accumulator := 0, settle := 0, hold := 0 })

/-- An enabled element whose block point reads 1 is BLOCKED with cause POINT, its delay count and accumulator held, while its
settle count follows the validity of its input (R61). One in SETTLING counts the closures with valid input, and is ARMED at
the 48th (R66). -/
def Clause.BlockPointAndSettling : Prop :=
  ∀ (c : Settings) (bank : Bank) (i : ElementInput) (r : ElementRec), c.enabled = true → r.state ≠ .disabled →
    (i.block = true → r.work c bank i = { r with
      bank := bank, state := .blocked .point, hold := 0
      settle := if i.valid then min (r.settle + 1) 48 else 0 }) ∧
    (i.block = false → i.valid = true → r.state = .settling → r.work c bank i = { r with
      bank := bank
      settle := min (r.settle + 1) 48
      state := if 48 ≤ r.settle + 1 then .armed else .settling }) ∧
    (i.block = false → i.valid = false → r.state = .settling → r.work c bank i = { r with bank := bank, settle := 0 })

/-- With valid input the hold count is 0; an element that is BLOCKED with cause POINT or INPUT returns to ARMED and goes on to
supervision and decision where its settle count is 48, and enters SETTLING below that; a deciding element, and one that
supervision blocked, go on (R63, R65). -/
def Clause.ValidInputDecides : Prop :=
  ∀ (c : Settings) (bank : Bank) (i : ElementInput) (r : ElementRec), c.enabled = true → i.block = false →
    i.valid = true →
    ((r.state = .blocked .point ∨ r.state = .blocked .input) → r.settle = 48 → r.work c bank i =
      Clause.supervised c i { r with bank := bank, hold := 0, state := .armed }) ∧
    ((r.state = .blocked .point ∨ r.state = .blocked .input) → r.settle < 48 → r.work c bank i = { r with
      bank := bank
      hold := 0
      settle := r.settle + 1
      state := if r.settle + 1 = 48 then .armed else .settling }) ∧
    (r.state ∈ [.armed, .pickedUp, .operated, .blocked .supervision] → r.work c bank i =
      Clause.supervised c i { r with bank := bank, hold := 0 })

/-- With invalid input an element under BLOCK is BLOCKED with cause INPUT and settle count 0. Under HOLD it goes on deciding on
what the store holds for 48 closures and is BLOCKED with cause INPUT at the next; one that POINT had blocked is so at once,
and one that INPUT has blocked stays (R63, R64). That the hold count stands at a block under BLOCK is the model's choice (log
entry 26). -/
def Clause.InvalidInputBlocksOrHolds : Prop :=
  ∀ (c : Settings) (bank : Bank) (i : ElementInput) (r : ElementRec), c.enabled = true → i.block = false →
    i.valid = false → r.state ≠ .disabled → r.state ≠ .settling →
    let blocked := { r with bank := bank, state := .blocked .input, settle := 0 }
    (c.hold = false → r.work c bank i = blocked) ∧
    (c.hold = true → r.state = .blocked .input → r.work c bank i = { r with bank := bank }) ∧
    (c.hold = true → r.state = .blocked .point → r.work c bank i = { blocked with hold := 0 }) ∧
    (c.hold = true → r.state ∈ [.armed, .pickedUp, .operated, .blocked .supervision] → r.work c bank i =
      if r.hold < 48 then Clause.supervised c i { r with bank := bank, hold := r.hold + 1 }
      else { blocked with hold := 0 })

/-- What an element's record becomes at a closure, stage by stage (R58 to R66, R70, R72, R73), and when a definite-time
element and an inverse-time element operate (R70, R72). The hold count at a block under BLOCK is the model's choice (log entry
26). -/
def Obligations.ElementsOperateInTime : Prop :=
  Clause.BanksEnableAndDisable ∧ Clause.BlockPointAndSettling ∧ Clause.ValidInputDecides ∧
    Clause.InvalidInputBlocksOrHolds ∧ Clause.DefiniteTimeOperatesAfterItsDelay ∧ Clause.InverseTimeOperatesWhenFull

/-! ### Breakers -/

/-- A position report that differs from the candidate becomes the candidate, and the confirmed position stands; the health
flags are taken at once, and UNRESPONSIVE is cleared (R98, R99). -/
def Clause.FirstReportIsACandidate : Prop :=
  ∀ (s : State) (l : Link) (h : Header) (f : PositionBody) (b : Nat), s.Quiet → (s.port l).up = true →
    s.verdict .position h = .taken → s.matchBreaker h.src f.biuNumber = some b → s.fld .breaker b 21 ≠ 1 →
    (s.brk b).slot = none → f.health.tripCircuit = (s.brk b).health.tripCircuit →
    (s.brk b).candidate ≠ some f.position →
    exec (.positionFrame l h f) s = .next ((s.reached l .position h).modBrk b (fun r =>
      { r with
        reports := step32 r.reports
        health := f.health
        unresponsive := false
        candidate := some f.position }))

/-- A second report equal to the candidate confirms the position, with POSITION_CHANGED recorded; a watched breaker makes
the line-up due (R98, R124). -/
def Clause.SecondReportConfirms : Prop :=
  ∀ (s : State) (l : Link) (h : Header) (f : PositionBody) (b : Nat), s.Quiet → (s.port l).up = true →
    s.verdict .position h = .taken → s.matchBreaker h.src f.biuNumber = some b → s.fld .breaker b 21 ≠ 1 →
    (s.brk b).slot = none → f.health.tripCircuit = (s.brk b).health.tripCircuit →
    (s.brk b).candidate = some f.position → (s.brk b).position ≠ reportedPosition f.position →
    (s.brk b).trips = [] → (s.brk b).bf = .idle → s.genOf b = none → s.run? = none →
    ∃ t, exec (.positionFrame l h f) s = .next t ∧
      t.brk b = { s.brk b with
        reports := step32 (s.brk b).reports
        health := f.health
        unresponsive := false
        position := reportedPosition f.position } ∧
      (∀ a, a ≠ b → t.brk a = s.brk a) ∧
      t.seq = { s.seq with lineupDue := decide (b ∈ watchedBreakers s.mgmt.tables) || s.seq.lineupDue } ∧
      Records s t .breaker 9 b 1 (some (reportedPosition f.position).code) ∧
      Only [.links, .events, .breakers, .seq] s t

/-- What any matched report leaves in a record in NORMAL mode, whatever it confirms (R98, R99). -/
def Clause.reportedRecord (r : BreakerRec) (f : PositionBody) : BreakerRec :=
  { r with
    reports := step32 r.reports
    health := f.health
    unresponsive := false
    candidate := some f.position }

/-- The response of a report that carries the tag of a SENT command: ACCEPTED starts its limit timer, and REFUSED ends it
with the BIU's reason, its frame leaving the queues; a response NONE, one with another tag and one to a command that is not
SENT have no effect (R106, R109, R14). -/
def Clause.ResponseIsHeld : Prop :=
  ∀ (s : State) (l : Link) (h : Header) (f : PositionBody) (b : Nat) (c : Command), s.Quiet → (s.port l).up = true →
    s.verdict .position h = .taken → s.matchBreaker h.src f.biuNumber = some b → s.fld .breaker b 21 ≠ 1 →
    (s.brk b).slot = some c → f.health.tripCircuit = (s.brk b).health.tripCircuit →
    ((s.brk b).candidate = some f.position → (s.brk b).position = reportedPosition f.position) →
    let r := Clause.reportedRecord (s.brk b) f
    (c.phase = .sent → c.tag = f.tag → f.response = .accepted → exec (.positionFrame l h f) s =
      .next ((s.reached l .position h).modBrk b (fun _ =>
        { r with slot := some { c with phase := .accepted, timer := 0 } }))) ∧
    (c.phase = .sent → c.tag = f.tag → f.response = .refused → c.origins = { operator := true } →
      c.requester = .operator → ∃ t, exec (.positionFrame l h f) s = .next t ∧
      t.brk b = { r with
        slot := none
        lastOutcome := some (.refused (.biu f.reason))
        outcomes := (s.brk b).outcomes.modify 2 step32 } ∧
      (∀ a, a ≠ b → t.brk a = s.brk a) ∧
      (∀ k, ∀ x ∈ (t.port k).urgent ++ (t.port k).normal, x.biuFrame b c.tag = false) ∧
      Records s t .breaker 11 b 6 (some (2 + 256 * (match f.reason with
        | .localControl => 11
        | .spring => 12
        | .already => 13
        | .other => 14))) ∧ Only [.links, .events, .breakers] s t) ∧
    (c.phase ≠ .sent ∨ c.tag ≠ f.tag ∨ f.response = .none → exec (.positionFrame l h f) s =
      .next ((s.reached l .position h).modBrk b (fun _ => r)))

/-- A report that confirms the target of an issued command ends it DONE, after POSITION_CHANGED (R98, R108, R109). -/
def Clause.ConfirmationCompletes : Prop :=
  ∀ (s : State) (l : Link) (h : Header) (f : PositionBody) (b : Nat) (c : Command), s.Quiet → (s.port l).up = true →
    s.verdict .position h = .taken → s.matchBreaker h.src f.biuNumber = some b → s.fld .breaker b 21 ≠ 1 →
    (s.brk b).slot = some c → c.phase ≠ .queued → f.response ≠ .refused → c.origins = { operator := true } →
    c.requester = .operator → f.health.tripCircuit = (s.brk b).health.tripCircuit →
    (s.brk b).candidate = some f.position → (s.brk b).position ≠ reportedPosition f.position →
    reportedPosition f.position = (if c.action = .opening then Position.opened else .closed) → (s.brk b).trips = [] →
    (s.brk b).bf = .idle → s.genOf b = none → s.run? = none →
    ∃ t, exec (.positionFrame l h f) s = .next t ∧
      t.brk b = { Clause.reportedRecord (s.brk b) f with
        position := reportedPosition f.position
        slot := none
        lastOutcome := some .done
        outcomes := (s.brk b).outcomes.modify 0 step32 } ∧
      (∀ a, a ≠ b → t.brk a = s.brk a) ∧
      (∀ k, ∀ x ∈ (t.port k).urgent ++ (t.port k).normal, x.biuFrame b c.tag = false) ∧
      t.newest.map (fun x => (x.cls, x.priority, x.object, x.code, x.value)) = some (.breaker, 6, b, 6, some 0) ∧
      t.seq = { s.seq with lineupDue := decide (b ∈ watchedBreakers s.mgmt.tables) || s.seq.lineupDue } ∧
      Only [.links, .events, .breakers, .seq] s t

/-- A breaker without a current stream that is confirmed OPEN ends its breaker failure, with BF_RESET recorded and, where
backup had been issued, BACKUP asked to leave each set that holds it or is on its way to it; PARALLEL_LIMIT leaves its trip
demand set (R110, R112, R115). -/
def Clause.ConfirmedOpenResetsBf : Prop :=
  ∀ (s : State) (l : Link) (h : Header) (f : PositionBody) (b : Nat), s.Quiet → (s.port l).up = true →
    s.verdict .position h = .taken → s.matchBreaker h.src f.biuNumber = some b → s.fld .breaker b 21 ≠ 1 →
    (s.brk b).slot = none → f.health.tripCircuit = (s.brk b).health.tripCircuit → f.position = .opened →
    (s.brk b).candidate = some .opened → (s.brk b).position ≠ .opened → (s.brk b).bf ≠ .idle →
    s.fld .breaker b 14 = 0xFFFF → s.genOf b = none → s.run? = none →
    ∃ t, exec (.positionFrame l h f) s = .next t ∧
      t.brk b = { Clause.reportedRecord (s.brk b) f with
        position := .opened
        trips := (s.brk b).trips.filter (fun m => m != .parallelLimit)
        bf := .idle
        bfTimer := 0
        bfOrigins := {} } ∧
      (∀ a, a ≠ b → t.brk a = s.brk a) ∧
      t.breakers.requests = s.breakers.requests ++ (if (s.brk b).bf = .backupIssued then
        ((List.range 24).filter (fun a => decide (Member.backup b ∈ (s.brk a).trips ∨
          ⟨true, a, .backup b⟩ ∈ s.breakers.requests))).map (fun a => ⟨false, a, .backup b⟩) else []) ∧
      t.newest.map (fun x => (x.cls, x.priority, x.object, x.code, x.value)) = some (.breaker, 9, b, 9, none) ∧
      Only [.links, .events, .breakers, .seq] s t

/-- A breaker confirmed CLOSED or in travel while its trip demand set is not empty gets an OPEN with the origins of the set,
where its slot holds none: it is issued with the next tag, breaker failure starts and TRIP_ISSUED is recorded (R105, R111,
R112). -/
def Clause.DemandedBreakerOpensAgain : Prop :=
  ∀ (s : State) (l : Link) (h : Header) (f : PositionBody) (b : Nat), s.Quiet → (s.port l).up = true →
    s.verdict .position h = .taken → s.matchBreaker h.src f.biuNumber = some b → s.fld .breaker b 21 ≠ 1 →
    (s.brk b).slot = none → f.health.tripCircuit = (s.brk b).health.tripCircuit →
    (f.position = .closed ∨ f.position = .travel) → (s.brk b).candidate = some f.position →
    (s.brk b).position ≠ reportedPosition f.position → (s.brk b).trips ≠ [] → (s.brk b).bf = .idle →
    s.genOf b = none → s.run? = none →
    let o := originsOf (s.brk b).trips
    ∃ t, exec (.positionFrame l h f) s = .next t ∧
      t.brk b = { Clause.reportedRecord (s.brk b) f with
        position := reportedPosition f.position
        slot := some { action := .opening, tag := (s.brk b).tagCounter, origins := o, phase := .sent }
        tagCounter := ((s.brk b).tagCounter + 1) % 256
        issued := step32 (s.brk b).issued
        bf := .timing
        bfTimer := 0
        bfOrigins := o } ∧
      (∀ a, a ≠ b → t.brk a = s.brk a) ∧ t.breakers.requests = s.breakers.requests ∧
      (∀ k, (s.port k).up = true → ∃ x ∈ (t.port k).urgent,
        x.body = .command b (s.fld .breaker b 3) .opening (s.brk b).tagCounter o ∧ x.dst = s.fld .breaker b 2) ∧
      t.newest.map (fun x => (x.cls, x.priority, x.object, x.code, x.value)) =
        some (.breaker, 13, b, 4, some o.byte) ∧
      Only [.links, .events, .breakers, .seq] s t

/-- What a confirmed position does to the generator of its breaker, which has no command and no trip demand: one that is
ONLINE or UNLOADING and finds it OPEN is STOPPING; one in STARTING or READY that finds it CLOSED is ONLINE where its engine
runs, without a load target and with its failure counts clear, and STOPPING where it does not; one in FAULT or STOPPING that
finds it CLOSED asks for it to OPEN (R164, R167). With a trip demand the one that finds it OPEN is in FAULT (R167). That the
first one stays in STOPPING and does not go on to STANDBY by the same change, where its engine has stopped already, is the
model's choice (log entry 24). -/
def Clause.GeneratorFollowsItsBreaker : Prop :=
  ∀ (s : State) (l : Link) (h : Header) (f : PositionBody) (b g : Nat), s.Quiet → (s.port l).up = true →
    s.verdict .position h = .taken → s.matchBreaker h.src f.biuNumber = some b → s.fld .breaker b 21 ≠ 1 →
    (s.brk b).slot = none → f.health.tripCircuit = (s.brk b).health.tripCircuit →
    (s.brk b).candidate = some f.position → (s.brk b).position ≠ reportedPosition f.position →
    (s.brk b).bf = .idle → s.genOf b = some g → (s.gen g).deferred = false → s.run? = none →
    let r := Clause.reportedRecord (s.brk b) f
    let x := s.gen g
    let moves := fun (y : GenRec) (priority code : Nat) => ∃ t, exec (.positionFrame l h f) s = .next t ∧ t.gen g = y ∧
      (∀ j, j ≠ g → t.gen j = s.gen j) ∧ t.par.demandDue = true ∧
      t.newest.map (fun x => (x.cls, x.priority, x.object, x.code, x.value)) =
        some (.generator, priority, g, 1, some code) ∧
      Only [.links, .events, .breakers, .seq, .par] s t
    ((x.state = .online ∨ x.state = .unloading) → (s.brk b).position = .closed → f.position = .opened →
      (s.brk b).trips = [] → moves { x with state := .stopping, refreshTimer := 0 } 6 10) ∧
    ((x.state = .online ∨ x.state = .unloading) → (s.brk b).position = .closed → f.position = .opened →
      (s.brk b).trips ≠ [] → moves { x with state := .fault, refreshTimer := 0 } 12 11) ∧
    ((x.state = .starting ∨ x.state = .ready) → f.position = .closed → (s.brk b).trips = [] →
      x.status.running = true →
      moves { x with
        state := .online, deadFailures := 0, closeFailures := 0, onlineTimer := 0, target := 0, baseLoaded := false
        soft := true } 6 8) ∧
    ((x.state = .fault ∨ x.state = .stopping) → f.position = .closed → (s.brk b).trips = [] →
      ∃ t, exec (.positionFrame l h f) s = .next t ∧ t.par = s.par ∧
        t.brk b = { r with
          position := .closed
          slot := some { action := .opening, tag := (s.brk b).tagCounter, origins := { paralleling := true }
                         generator := some g, phase := .sent }
          tagCounter := ((s.brk b).tagCounter + 1) % 256
          issued := step32 (s.brk b).issued } ∧
        (∀ a, a ≠ b → t.brk a = s.brk a) ∧ Only [.links, .events, .breakers, .seq] s t)

/-- A report of a breaker in ISOLATED mode confirms the field position alone, by two equal reports, and its response fields
have no effect (R116). -/
def Clause.IsolatedReportIsOfTheField : Prop :=
  ∀ (s : State) (l : Link) (h : Header) (f : PositionBody) (b : Nat), s.Quiet → (s.port l).up = true →
    s.verdict .position h = .taken → s.matchBreaker h.src f.biuNumber = some b → s.fld .breaker b 21 = 1 →
    f.health.tripCircuit = (s.brk b).health.tripCircuit →
    exec (.positionFrame l h f) s = .next ((s.reached l .position h).modBrk b (fun r =>
      { r with
        reports := step32 r.reports
        health := f.health
        unresponsive := false
        fieldPosition := if r.fieldCandidate = some f.position then reportedPosition f.position else r.fieldPosition
        fieldCandidate := some f.position }))

/-- A position is confirmed by two equal reports in a row (R98), and what a report does to a command in the slot (R106,
R108), to a breaker failure that runs (R115), to a breaker under a trip demand (R111), to the breaker's generator (R164,
R167) and in ISOLATED mode (R116). The mark that a line-up change is due is the model's own (log entry 5), and so are the
list of requests that wait (log entry 16), that a BACKUP on its way to a set is taken back too (log entry 19), and that a
generator's record which stands otherwise after the command gives one GENSET (log entry 24). That PARALLEL_LIMIT counts as a
member of the trip demand set at the very confirmation of OPEN that removes it, so that the generator goes to FAULT, is the
model's choice (log entry 23), and so is that a generator which the change takes to STOPPING stays there though its engine has
stopped already (log entry 24). -/
def Obligations.PositionsNeedTwoReports : Prop :=
  Clause.FirstReportIsACandidate ∧ Clause.SecondReportConfirms ∧ Clause.ResponseIsHeld ∧
    Clause.ConfirmationCompletes ∧ Clause.ConfirmedOpenResetsBf ∧ Clause.DemandedBreakerOpensAgain ∧
    Clause.GeneratorFollowsItsBreaker ∧ Clause.IsolatedReportIsOfTheField

/-- A member that joins the trip demand set of a breaker that is not OPEN and has no command brings an OPEN with the
member's origin: it is issued with the next tag, breaker failure starts, and TRIP_ISSUED is recorded (R101, R105, R110,
R112). -/
def Clause.TripDemandOpensTheBreaker : Prop :=
  ∀ (s : State) (b : Nat) (m : Member) (rest : List DemandRequest), s.Quiet → b < 24 →
    s.breakers.requests = ⟨true, b, m⟩ :: rest →
    s.fld .breaker b 1 = 1 → s.fld .breaker b 21 ≠ 1 → (s.brk b).slot = none → (s.brk b).position ≠ .opened →
    (s.brk b).bf = .idle → m ∉ (s.brk b).trips →
    ∃ t, exec (.tripDemandAdd b m) s = .next t ∧ t.breakers.requests = rest ∧
      t.brk b = { s.brk b with
        trips := (s.brk b).trips ++ [m]
        slot := some { action := .opening, tag := (s.brk b).tagCounter, origins := Member.origin m, phase := .sent }
        tagCounter := ((s.brk b).tagCounter + 1) % 256
        issued := step32 (s.brk b).issued
        bf := .timing
        bfTimer := 0
        bfOrigins := Member.origin m } ∧
      (∀ a, a ≠ b → t.brk a = s.brk a) ∧
      (∀ l, (s.port l).up = true → ∃ f ∈ (t.port l).urgent,
        f.body = .command b (s.fld .breaker b 3) .opening (s.brk b).tagCounter (Member.origin m) ∧
          f.dst = s.fld .breaker b 2) ∧
      Records s t .breaker 13 b 4 (some (Member.origin m).byte) ∧ Only [.links, .events, .breakers] s t

/-- The next state of TRIP_DEMAND_ADD where the OPEN request of a member needs no command: the request is taken, and the
breaker's record is as given. -/
def Clause.Joins (s : State) (b : Nat) (m : Member) (rest : List DemandRequest) (f : BreakerRec → BreakerRec) : Prop :=
  exec (.tripDemandAdd b m) s = .next ({ s with breakers := { s.breakers with requests := rest } }.modBrk b f)

/-- A member that joins while the slot holds an OPEN merges its origin into that command: one that thereby becomes
trip-class may be sent again and starts breaker failure, and a breaker failure that runs gains the origin (R101, R110,
R112). -/
def Clause.TripDemandMergesIntoAnOpen : Prop :=
  ∀ (s : State) (b : Nat) (m : Member) (rest : List DemandRequest) (c : Command), s.Quiet → b < 24 →
    s.breakers.requests = ⟨true, b, m⟩ :: rest → s.fld .breaker b 1 = 1 → (s.brk b).slot = some c →
    c.action = .opening → (s.brk b).position ≠ .opened → m ∉ (s.brk b).trips →
    let merged := { c with
      origins := c.origins.union (Member.origin m)
      resendDone := if c.origins.trip then c.resendDone else false }
    let joined := fun r : BreakerRec => { r with trips := r.trips ++ [m], slot := some merged }
    ((s.brk b).bf = .idle → c.origins.trip = true → Clause.Joins s b m rest joined) ∧
    ((s.brk b).bf = .idle → c.origins.trip = false → Clause.Joins s b m rest (fun r =>
      { joined r with bf := .timing, bfTimer := 0, bfOrigins := Member.origin m })) ∧
    ((s.brk b).bf ≠ .idle → Clause.Joins s b m rest (fun r =>
      { joined r with bfOrigins := r.bfOrigins.union (Member.origin m) }))

/-- A member that joins while the slot holds a CLOSE supersedes it: the CLOSE ends SUPERSEDED and its frame leaves the queues.
Where the CLOSE has left or the breaker is not OPEN an OPEN is issued; where no copy of it has left and the breaker is OPEN
nothing more is to be done (R101, R104, R109, R110). -/
def Clause.TripDemandSupersedesAClose : Prop :=
  ∀ (s : State) (b : Nat) (m : Member) (rest : List DemandRequest) (c : Command), s.Quiet → b < 24 →
    s.breakers.requests = ⟨true, b, m⟩ :: rest → s.fld .breaker b 1 = 1 → s.fld .breaker b 21 ≠ 1 →
    (s.brk b).slot = some c → c.action = .closing → c.origins = { operator := true } → c.requester = .operator →
    m ∉ (s.brk b).trips → m ≠ .parallelLimit → (s.brk b).bf = .idle →
    let ended := { s.brk b with
      trips := (s.brk b).trips ++ [m]
      slot := none
      lastOutcome := some .superseded
      outcomes := (s.brk b).outcomes.modify 1 step32 }
    let withdrawn := fun t : State => c.phase = .queued ∨
      ∀ k, ∀ x ∈ (t.port k).normal, x.biuFrame b c.tag = false
    ((c.left = true ∨ (s.brk b).position ≠ .opened) → ∃ t, exec (.tripDemandAdd b m) s = .next t ∧
      t.brk b = { ended with
        slot := some { action := .opening, tag := (s.brk b).tagCounter, origins := Member.origin m, phase := .sent }
        tagCounter := ((s.brk b).tagCounter + 1) % 256
        issued := step32 (s.brk b).issued
        bf := .timing
        bfTimer := 0
        bfOrigins := Member.origin m } ∧
      (∀ a, a ≠ b → t.brk a = s.brk a) ∧ t.breakers.requests = rest ∧ withdrawn t ∧
      t.newest.map (fun x => (x.cls, x.priority, x.object, x.code, x.value)) =
        some (.breaker, 13, b, 4, some (Member.origin m).byte) ∧ Only [.links, .events, .breakers] s t) ∧
    (c.left = false → (s.brk b).position = .opened → ∃ t, exec (.tripDemandAdd b m) s = .next t ∧ t.brk b = ended ∧
      (∀ a, a ≠ b → t.brk a = s.brk a) ∧ t.breakers.requests = rest ∧ withdrawn t ∧
      Records s t .breaker 8 b 6 (some 1) ∧ Only [.links, .events, .breakers] s t)

/-- In ISOLATED mode a member that joins while the slot holds a simulated CLOSE supersedes it too, and the OPEN takes the slot
and runs from the position as it stands, OPEN itself included: ACCEPTED with the next tag and no frame, with breaker failure
started (R101, R110, R112, R116). -/
def Clause.TripDemandStopsASimulatedClose : Prop :=
  ∀ (s : State) (b : Nat) (m : Member) (rest : List DemandRequest) (c : Command), s.Quiet → b < 24 →
    s.breakers.requests = ⟨true, b, m⟩ :: rest → s.fld .breaker b 1 = 1 → s.fld .breaker b 21 = 1 →
    (s.brk b).slot = some c → c.action = .closing → c.phase = .accepted → c.origins = { operator := true } →
    c.requester = .operator → m ∉ (s.brk b).trips → m ≠ .parallelLimit → (s.brk b).bf = .idle →
    ∃ t, exec (.tripDemandAdd b m) s = .next t ∧
      t.brk b = { s.brk b with
        trips := (s.brk b).trips ++ [m]
        slot := some { action := .opening, tag := (s.brk b).tagCounter, origins := Member.origin m, phase := .accepted }
        tagCounter := ((s.brk b).tagCounter + 1) % 256
        lastOutcome := some .superseded
        outcomes := (s.brk b).outcomes.modify 1 step32
        bf := .timing
        bfTimer := 0
        bfOrigins := Member.origin m } ∧
      (∀ a, a ≠ b → t.brk a = s.brk a) ∧ t.breakers.requests = rest ∧
      Records s t .breaker 8 b 6 (some 1) ∧ Only [.links, .events, .breakers] s t

/-- A member that joins the set of a breaker that is OPEN and has no command brings no command, and PARALLEL_LIMIT goes from
there at once; so it does from a breaker that is not configured, where the OPEN request is refused and counted (R100, R101,
R110). A member that is in the set already, and a request that does not stand, change no record. -/
def Clause.TripDemandWithoutACommand : Prop :=
  ∀ (s : State) (b : Nat) (m : Member) (rest : List DemandRequest), s.Quiet → b < 24 →
    (s.breakers.requests = ⟨true, b, m⟩ :: rest → m ∈ (s.brk b).trips → Clause.Joins s b m rest id) ∧
    (s.breakers.requests = ⟨true, b, m⟩ :: rest → m ∉ (s.brk b).trips → s.fld .breaker b 1 = 1 →
      (s.brk b).slot = none → (s.brk b).position = .opened → Clause.Joins s b m rest (fun r =>
        { r with trips := if m = .parallelLimit then r.trips else r.trips ++ [m] })) ∧
    (s.breakers.requests = ⟨true, b, m⟩ :: rest → m ∉ (s.brk b).trips → s.fld .breaker b 1 ≠ 1 →
      Clause.Joins s b m rest (fun r =>
        { r with
          trips := if m = .parallelLimit then r.trips else r.trips ++ [m]
          refusals := step32 r.refusals })) ∧
    (⟨true, b, m⟩ ∉ s.breakers.requests → exec (.tripDemandAdd b m) s = .next s)

/-- A member leaves a trip demand set with no other effect (R110). -/
def Clause.TripDemandRemovalIsPlain : Prop :=
  ∀ (s : State) (b : Nat) (m : Member) (rest : List DemandRequest), s.Quiet →
    s.breakers.requests = ⟨false, b, m⟩ :: rest →
    exec (.tripDemandRemove b m) s =
      .next ({ s with breakers := { s.breakers with requests := rest } }.modBrk b (fun r =>
        { r with trips := r.trips.filter (fun x => x != m) }))

/-- Members join and leave a trip demand set (R110), and what the OPEN request of each does (R101). The list of requests that
wait is the model's own (log entry 16), that the refusal for a breaker that is not configured is counted is its choice, and
that a superseding OPEN runs at a simulated CLOSE though no frame of it has left is its inference (log entry 23). -/
def Obligations.TripDemandsOpenBreakers : Prop :=
  Clause.TripDemandOpensTheBreaker ∧ Clause.TripDemandMergesIntoAnOpen ∧ Clause.TripDemandSupersedesAClose ∧
    Clause.TripDemandStopsASimulatedClose ∧ Clause.TripDemandWithoutACommand ∧ Clause.TripDemandRemovalIsPlain

/-- A trip-class OPEN that has had no response is sent again once with a new tag; without a response again, and every
other command at once, it ends NO_RESPONSE. A trip-class OPEN then makes its breaker UNRESPONSIVE and breaker failure
goes to backup (R107, R114). -/
def Clause.MissingResponse : Prop :=
  ∀ (s : State) (b : Nat) (c : Command), s.Quiet → b < 24 → (s.brk b).slot = some c → c.phase = .sent →
    s.fld .breaker b 9 ≤ c.timer → s.fld .breaker b 21 ≠ 1 →
    (c.action = .opening → c.origins.trip = true → c.resendDone = false → ∃ t,
      exec (.responseTimeout b) s = .next t ∧
      t.brk b = { s.brk b with
        slot := some { c with resendDone := true, tag := (s.brk b).tagCounter, left := false, timer := 0 }
        tagCounter := ((s.brk b).tagCounter + 1) % 256
        issued := step32 (s.brk b).issued } ∧
      (∀ a, a ≠ b → t.brk a = s.brk a) ∧ Records s t .breaker 13 b 4 (some c.origins.byte) ∧
      Only [.links, .events, .breakers] s t) ∧
    (c.action = .opening → c.origins = { protection := true } → c.resendDone = true → (s.brk b).bf = .timing →
      (s.brk b).bfOrigins = { protection := true } → ∃ t, exec (.responseTimeout b) s = .next t ∧
      t.brk b = { s.brk b with
        slot := none
        lastOutcome := some .noResponse
        outcomes := (s.brk b).outcomes.modify 3 step32
        unresponsive := true
        bf := .backupIssued
        bfOccurred := true } ∧
      (∀ a, a ≠ b → t.brk a = s.brk a) ∧
      t.breakers.requests = s.breakers.requests ++ (s.backupSet b).map (fun a => ⟨true, a, .backup b⟩) ∧
      Only [.links, .events, .breakers] s t) ∧
    (c.action = .closing → c.origins = { operator := true } → c.requester = .operator → ∃ t,
      exec (.responseTimeout b) s = .next t ∧
      t.brk b = { s.brk b with
        slot := none
        lastOutcome := some .noResponse
        outcomes := (s.brk b).outcomes.modify 3 step32 } ∧
      (∀ a, a ≠ b → t.brk a = s.brk a) ∧ Records s t .breaker 11 b 6 (some 3) ∧
      Only [.links, .events, .breakers] s t)

/-- An accepted command whose limit timer reaches the open limit or the close limit ends FAILED (R108). -/
def Clause.LimitEndsTheCommand : Prop :=
  ∀ (s : State) (b : Nat) (c : Command), s.Quiet → b < 24 → (s.brk b).slot = some c → c.phase = .accepted →
    s.fld .breaker b 21 ≠ 1 → c.origins = { operator := true } → c.requester = .operator →
    let limit := if c.action = .opening then s.fld .breaker b 10 else s.fld .breaker b 11
    (c.timer < limit → exec (.limitTimeout b) s = .next s) ∧
    (limit ≤ c.timer → ∃ t, exec (.limitTimeout b) s = .next t ∧
      t.brk b = { s.brk b with
        slot := none
        lastOutcome := some .failed
        outcomes := (s.brk b).outcomes.modify 4 step32 } ∧
      (∀ a, a ≠ b → t.brk a = s.brk a) ∧ Records s t .breaker 11 b 6 (some 4) ∧
      Only [.links, .events, .breakers] s t)

/-- In ISOLATED mode a command completes by itself after the close time or the open time: the position takes the target
and the command ends DONE (R116). So it does where the position stood at the target before, as it may for an OPEN that has
superseded a CLOSE: that such a completion is taken as any other is the model's inference (log entry 23). -/
def Clause.SimulatedCommandCompletes : Prop :=
  ∀ (s : State) (b : Nat) (c : Command), s.Quiet → b < 24 → (s.brk b).slot = some c → c.phase = .accepted →
    s.fld .breaker b 21 = 1 → c.origins = { operator := true } → c.requester = .operator →
    (if c.action = .opening then s.fld .breaker b 8 else s.fld .breaker b 7) ≤ c.timer →
    (s.brk b).trips = [] → (s.brk b).bf = .idle → s.genOf b = none → s.run? = none →
    ∃ t, exec (.simulatedCompletion b) s = .next t ∧
      t.brk b = { s.brk b with
        position := c.action.target
        candidate := none
        slot := none
        lastOutcome := some .done
        outcomes := (s.brk b).outcomes.modify 0 step32 } ∧
      (∀ a, a ≠ b → t.brk a = s.brk a) ∧ Only [.links, .events, .breakers, .seq] s t

/-- Commands without a response, accepted commands that do not complete, and simulated ones (R107, R108, R116). The list
of requests that wait is the model's own (log entry 16), and that a simulated command completes at a position that is its
target already is its inference (log entry 23). -/
def Obligations.CommandsEndByTheirTimers : Prop :=
  Clause.MissingResponse ∧ Clause.LimitEndsTheCommand ∧ Clause.SimulatedCommandCompletes

/-- With the BF timer at the retrip time while TIMING, breaker failure is RETRIPPED and the trip-class OPEN in the slot is
issued again with a new tag (R113); before that time nothing happens. -/
def Clause.RetripIssuesAgain : Prop :=
  ∀ (s : State) (b : Nat) (c : Command), s.Quiet → b < 24 → (s.brk b).bf = .timing → (s.brk b).slot = some c →
    c.action = .opening → c.origins.trip = true → s.fld .breaker b 21 ≠ 1 →
    ((s.brk b).bfTimer < s.fld .breaker b 12 → exec (.bfRetrip b) s = .next s) ∧
    (s.fld .breaker b 12 ≤ (s.brk b).bfTimer → ∃ t, exec (.bfRetrip b) s = .next t ∧
      t.brk b = { s.brk b with
        bf := .retripped
        slot := some { c with tag := (s.brk b).tagCounter, phase := .sent, left := false, timer := 0 }
        tagCounter := ((s.brk b).tagCounter + 1) % 256
        issued := step32 (s.brk b).issued } ∧
      (∀ a, a ≠ b → t.brk a = s.brk a) ∧ Only [.links, .events, .breakers] s t)

/-- With the BF timer at the backup time while RETRIPPED, and an origin other than BACKUP, BACKUP is asked for at each
configured adjacent breaker and BF_BACKUP is recorded with their bits (R114). -/
def Clause.BackupAsksTheAdjacent : Prop :=
  ∀ (s : State) (b : Nat), s.Quiet → b < 24 → (s.brk b).bf = .retripped →
    ((s.brk b).bfTimer < s.fld .breaker b 13 → exec (.bfBackup b) s = .next s) ∧
    (s.fld .breaker b 13 ≤ (s.brk b).bfTimer → (s.brk b).bfOrigins.beyondBackup = true →
      let adjacent := [17, 18, 19, 20].filterMap (fun id =>
        if s.fld .breaker b id ≠ 0xFFFF ∧ s.fld .breaker (s.fld .breaker b id) 1 = 1 then
          some (s.fld .breaker b id) else none)
      ∃ t, exec (.bfBackup b) s = .next t ∧
        t.brk b = { s.brk b with bf := .backupIssued, bfOccurred := true } ∧ (∀ a, a ≠ b → t.brk a = s.brk a) ∧
        t.breakers.requests = s.breakers.requests ++ adjacent.map (fun a => ⟨true, a, .backup b⟩) ∧
        Records s t .breaker 14 b 8 (some (adjacent.map (fun a => 2 ^ a)).sum) ∧
        Only [.links, .events, .breakers] s t)

/-- Breaker failure: the retrip (R113) and the backup (R114). The list of requests that wait is the model's own (log
entry 16), and that the value of BF_BACKUP holds the configured adjacent breakers alone is its inference (log entry 23).
-/
def Obligations.BreakerFailureEscalates : Prop := Clause.RetripIssuesAgain ∧ Clause.BackupAsksTheAdjacent

/-- At a station trip every generator that runs or stands ready is STOPPING, and one whose breaker is not OPEN asks for it to
OPEN; one that is ABSENT, NEGOTIATING, STOPPING or in FAULT stays as it is, and the demand is 0 (R167, R168). -/
def Clause.TripStopsTheGenerators : Prop :=
  ∀ s : State, s.Quiet → s.lines.tripPin = true → s.lines.tripLatch = false → s.run? = none → s.seq.slot = none →
    (∀ c < 4, s.channel c = none) → s.par.token = none → s.par.tokenList = [] → s.OwnBreakers →
    (∀ g < 8, s.fld .generator g 1 ≠ 1 → (s.gen g).state = .absent) → (∀ g < 8, (s.gen g).deferred = false) →
    (∀ g < 8, (s.gen g).state ∉ [.claiming, .syncing, .closing]) →
    ∃ t, exec .stationTripEdge s = .next t ∧ t.lines.tripLatch = true ∧ t.par.demand = 0 ∧ t.par.demandDue = true ∧
      (∀ g < 8, (s.gen g).state ∈ [.standby, .starting, .ready, .online, .unloading] →
        t.gen g = { s.gen g with state := .stopping, refreshTimer := (t.gen g).refreshTimer } ∧
        (let b := s.fld .generator g 3
         b < 24 → s.fld .breaker b 1 = 1 → s.fld .breaker b 21 ≠ 1 → (s.brk b).slot = none →
          t.brk b = if (s.brk b).position = .opened then s.brk b else
            { s.brk b with
              slot := some { action := .opening, tag := (s.brk b).tagCounter, origins := { paralleling := true }
                             generator := some g, phase := .sent }
              tagCounter := ((s.brk b).tagCounter + 1) % 256
              issued := step32 (s.brk b).issued })) ∧
      (∀ g < 8, (s.gen g).state ∈ [.absent, .negotiating, .stopping, .fault] → t.gen g = s.gen g) ∧
      Only [.links, .events, .lines, .breakers, .seq, .par] s t

/-- A falling edge of the STATION TRIP pin is counted. With the latch clear it sets the latch, asks for STATION_TRIP
at each breaker of the station trip set, halts the sequencer, sets the demand to 0 and is recorded with priority 15;
with the latch set it is counted alone. The pin's return has no effect (R92, R140, R168). -/
def Clause.EdgeSetsTheLatch : Prop :=
  ∀ s : State, s.Quiet →
    (s.lines.tripPin = false → exec .stationTripEdge s = .next s) ∧
    (s.lines.tripPin = true → s.lines.tripLatch = true → exec .stationTripEdge s =
      .next (s.modLines (fun l => { l with tripPin := false, tripEdges := step32 l.tripEdges }))) ∧
    (s.lines.tripPin = true → s.lines.tripLatch = false → s.run? = none →
      s.seq.slot = none → (∀ g < 8, (s.gen g).state ∈ [GenState.absent, .negotiating, .stopping, .fault]) →
      (∀ c < 4, s.channel c = none) → ∃ t, exec .stationTripEdge s = .next t ∧
      t.lines = { s.lines with
        tripPin := false
        tripLatch := true
        tripEdges := step32 s.lines.tripEdges
        healthy := t.healthyNow } ∧
      t.breakers = { s.breakers with
        requests := s.breakers.requests ++
          ((List.range 24).filter (fun b => s.station 9 / 2 ^ b % 2 = 1)).map (fun b =>
            ⟨true, b, .stationTrip⟩) } ∧
      t.seq = { s.seq with state := .halted .stationTrip } ∧
      t.par = { s.par with demand := 0, demandDue := true } ∧
      t.newest.map (fun r => (r.cls, r.priority, r.object, r.code)) = some (.management, 15, 1, 4) ∧
      Only [.links, .events, .lines, .breakers, .seq, .par] s t) ∧
    exec .stationTripPinReturnsHigh s = .next (s.modLines (fun l => { l with tripPin := true }))

/-- The STATION TRIP pin, and what its edge does to the generators (R92, R140, R168). The list of requests and the mark of an
evaluation due are the model's own (log entries 5 and 16). -/
def Obligations.StationTripEdge : Prop := Clause.EdgeSetsTheLatch ∧ Clause.TripStopsTheGenerators

/-! ### The changeover sequencer -/

/-- The state by which the rules judge a source: the one it had before it came to UNVERIFIED, while it is so (R122, R136). -/
def Clause.governing (s : State) (x : Nat) : Option SourceState :=
  if (s.source x).state = .unverified then (s.source x).previous else some (s.source x).state

/-- Auto-rule `i` is enabled and its source's governing state equals its condition, 0 FAILED and 1 AVAILABLE (R136). -/
def Clause.ruleStands (s : State) (i : Nat) : Prop :=
  s.fld .autorule i 1 = 1 ∧
    ((s.fld .autorule i 4 = 0 ∧ Clause.governing s (s.fld .autorule i 3) = some .failed) ∨
      (s.fld .autorule i 4 = 1 ∧ Clause.governing s (s.fld .autorule i 3) = some .available))

/-- Auto-rule `i` matches in IDLE(k): it stands, its from line-up is k, and its plan is defined and may start from k (R136). -/
def Clause.ruleMatches (s : State) (k i : Nat) : Prop :=
  let p := s.fld .autorule i 5
  Clause.ruleStands s i ∧ s.fld .autorule i 2 = k ∧ s.fld .plan p 5 ≠ 0 ∧
    (s.fld .plan p 1 = 8 ∨ s.fld .plan p 1 = k)

/-- The record of plan `p` that has just begun its step 0, a WAIT_TIME (R127, R128, R132). -/
def Clause.begun (p : Nat) (c : Cause) : SeqState := .running { plan := p, cause := c, wait := .time }

/-- The command ends the delay of a source that has run out (R121). -/
def Clause.DelayEnds (s : State) (x : SourceId) (c : Instr) : Prop :=
  (c = .sourceFailDelayExpiry x ∧ (s.source x.number).state = .failing ∧
    s.fld .source x.number 7 ≤ (s.source x.number).delay) ∨
  (c = .sourceRestoreDelayExpiry x ∧ (s.source x.number).state = .restoring ∧
    s.fld .source x.number 8 ≤ (s.source x.number).delay)

/-- At the end of its fail delay a FAILING source becomes FAILED, at the end of its restore delay a RESTORING one
AVAILABLE, with its two points (R83, R121); in another state the expiry finds nothing to do. -/
def Clause.DelayMovesTheSource : Prop :=
  ∀ (s : State) (x : SourceId), s.Quiet →
    let r := s.source x.number
    (r.state = .failing → s.fld .source x.number 7 ≤ r.delay → ∃ t, exec (.sourceFailDelayExpiry x) s = .next t ∧
      t.source x.number = { r with state := .failed, delay := 0, availablePoint := false, failedPoint := true } ∧
      (∀ y, y ≠ x.number → t.source y = s.source y) ∧
      (s.seq.autoEffective = false → Records s t .transfer 12 x.number 1 (some 3)) ∧
      Only [.links, .events, .breakers, .seq, .par] s t) ∧
    (r.state ≠ .failing → exec (.sourceFailDelayExpiry x) s = .next s) ∧
    (r.state = .restoring → s.fld .source x.number 8 ≤ r.delay → ∃ t,
      exec (.sourceRestoreDelayExpiry x) s = .next t ∧
      t.source x.number = { r with state := .available, delay := 0, availablePoint := true, failedPoint := false } ∧
      (∀ y, y ≠ x.number → t.source y = s.source y) ∧
      (s.seq.autoEffective = false → Records s t .transfer 8 x.number 1 (some 1)) ∧
      Only [.links, .events, .breakers, .seq, .par] s t) ∧
    (r.state ≠ .restoring → exec (.sourceRestoreDelayExpiry x) s = .next s)

/-- In IDLE, with auto transfer effective, the change of a source's governing state starts the plan of the lowest-numbered
rule of that source that matches, with cause AUTO; where none matches the sequencer stays (R127, R136). -/
def Clause.SourceChangeStartsARule : Prop :=
  ∀ (s : State) (x : SourceId) (c : Instr) (k : Nat), s.Quiet → s.seq.autoEffective = true → s.seq.state = .idle k →
    Clause.DelayEnds s x c → ∃ t, exec c s = .next t ∧
      (∀ i < 12,
        let p := s.fld .autorule i 5
        s.fld .autorule i 3 = x.number → Clause.ruleMatches t k i →
        (∀ j < i, s.fld .autorule j 3 = x.number → ¬ Clause.ruleMatches t k j) → s.stepField p 0 0 = 6 →
        t.seq = { s.seq with
          sources := t.seq.sources
          state := Clause.begun p (.auto i)
          lastPlan := some p } ∧
        t.newest.map (fun r => (r.cls, r.priority, r.object, r.code, r.value)) =
          some (.transfer, 10, p, 3, some (1 + 256 * i))) ∧
      ((∀ i < 12, s.fld .autorule i 3 = x.number → ¬ Clause.ruleMatches t k i) →
        t.seq = { s.seq with sources := t.seq.sources }) ∧
      Only [.links, .events, .breakers, .seq, .par] s t

/-- While a plan runs, and in INIT and NO_LINEUP, the lowest-numbered rule of the source that stands is offered to the pending
slot: it is placed in an empty one, replaces the request of another rule and leaves one of its own as it is. In HALTED and
LOCKED_OUT nothing is offered (R136, R137). -/
def Clause.SourceChangeFillsTheSlot : Prop :=
  ∀ (s : State) (x : SourceId) (c : Instr), s.Quiet → s.seq.autoEffective = true → Clause.DelayEnds s x c →
    (∀ k, s.seq.state ≠ .idle k) → ∃ t, exec c s = .next t ∧
      let offers := (∀ y, s.seq.state ≠ .halted y) ∧ s.seq.state ≠ .lockedOut
      let stays := t.seq = { s.seq with sources := t.seq.sources }
      (∀ i < 12, offers → s.fld .autorule i 3 = x.number → Clause.ruleStands t i →
        (∀ j < i, s.fld .autorule j 3 = x.number → ¬ Clause.ruleStands t j) →
        let a : AutoRequest := ⟨i, s.fld .autorule i 5, x.number, s.fld .autorule i 4⟩
        let placed := fun (priority code : Nat) (value : Option Nat) =>
          t.seq = { s.seq with sources := t.seq.sources, slot := some a } ∧
            t.newest.map (fun r => (r.cls, r.priority, r.object, r.code, r.value)) =
              some (.transfer, priority, i, code, value)
        (s.seq.slot = none → placed 6 8 none) ∧
        (∀ old, s.seq.slot = some old → old.rule ≠ i → placed 8 9 (some old.rule)) ∧
        (∀ old, s.seq.slot = some old → old.rule = i → stays)) ∧
      (¬ offers ∨ (∀ i < 12, s.fld .autorule i 3 = x.number → ¬ Clause.ruleStands t i) → stays) ∧
      Only [.links, .events, .breakers, .seq, .par] s t

/-- The delays of sources end (R83, R121), and what the auto-rules make of it (R136, R137). -/
def Obligations.SourceDelaysEnd : Prop :=
  Clause.DelayMovesTheSource ∧ Clause.SourceChangeStartsARule ∧ Clause.SourceChangeFillsTheSlot

/-- A rise of LOCKOUT takes the sequencer from INIT, IDLE and NO_LINEUP to LOCKED_OUT, with AUTO_TRANSFER_EFFECTIVE at
0; its fall takes it from there to the state of the current line-up (R83, R125, R139). The list of changes that wait
is the model's own (log entry 5). -/
def Obligations.LockoutLocksTheSequencer : Prop :=
  ∀ (s : State) (rest : List Bool), s.Quiet →
    (s.lines.lockoutChanges = true :: rest → s.lines.lockout = true → s.seq.slot = none →
      (s.seq.state = .init ∨ s.seq.state = .noLineup ∨ ∃ k, s.seq.state = .idle k) →
      ∃ t, exec .seqLockoutChange s = .next t ∧
        t.seq = { s.seq with state := .lockedOut, autoEffective := false } ∧
        t.lines = { s.lines with lockoutChanges := rest, healthy := t.healthyNow } ∧
        Records s t .transfer 9 0 13 none ∧ Only [.links, .events, .lines, .seq] s t) ∧
    (s.lines.lockoutChanges = false :: rest → s.lines.lockout = false → s.seq.state = .lockedOut →
      s.seq.lineup = .none → s.station 10 ≠ 1 →
      ∃ t, exec .seqLockoutChange s = .next t ∧
        t.seq = { s.seq with state := .noLineup, autoEffective := false } ∧
        t.lines = { s.lines with lockoutChanges := rest, healthy := t.healthyNow } ∧ Only [.lines, .seq] s t) ∧
    (s.lines.lockoutChanges = [] → exec .seqLockoutChange s = .next s)

/-- A watched position is UNKNOWN (R124). -/
def Clause.positionUnknown (s : State) : Prop := ∃ b ∈ watchedBreakers s.mgmt.tables, (s.brk b).position = .unknown

/-- Every pair of line-up `k` matches the confirmed positions (R123, R124). -/
def Clause.pairsMatch (s : State) (k : Nat) : Prop :=
  ∀ i < s.fld .lineup k 1, (s.brk (s.fld .lineup k (2 + i) % 256)).position =
    if s.fld .lineup k (2 + i) / 256 = 1 then Position.closed else Position.opened

/-- After a change of a watched position the line-up is found anew: unknown while a watched position is UNKNOWN, else
the lowest-numbered line-up all of whose pairs match, else none; INIT, IDLE and NO_LINEUP follow it (R124, R125). -/
def Clause.LineupIsFollowed : Prop :=
  ∀ s : State, s.Quiet → s.seq.lineupDue = true → s.seq.state.follows = true → s.lines.lockout = false →
    s.seq.autoEffective = false → s.seq.slot = none →
    let unknown := Clause.positionUnknown s
    let matching := fun k => s.fld .lineup k 1 ≠ 0 ∧ Clause.pairsMatch s k
    let ends := fun (x : Lineup) (y : SeqState) => ∃ t, exec .lineupChange s = .next t ∧
      t.seq = { s.seq with lineup := x, lineupDue := false, state := y } ∧ Only [.links, .events, .seq] s t
    (unknown → ends .unknown .init) ∧
    (¬ unknown → ∀ k < 8, matching k → (∀ j < k, ¬ matching j) → ends (.is k) (.idle k)) ∧
    (¬ unknown → (∀ k < 8, ¬ matching k) → ends .none .noLineup)

/-- On entering IDLE(k) the pending slot is examined: its request starts its plan, with cause AUTO, where its rule still
matches and auto transfer is effective, and is discarded otherwise; then, with auto transfer effective, the lowest-numbered
rule that matches starts its plan (R125, R136, R137). -/
def Clause.IdleExaminesTheSlot : Prop :=
  ∀ (s : State) (k : Nat), s.Quiet → s.seq.lineupDue = true → s.seq.state.follows = true → s.lines.lockout = false →
    s.seq.state ≠ .idle k → k < 8 → ¬ Clause.positionUnknown s → s.fld .lineup k 1 ≠ 0 → Clause.pairsMatch s k →
    (∀ j < k, ¬ (s.fld .lineup j 1 ≠ 0 ∧ Clause.pairsMatch s j)) →
    let ends := fun (y : Sequencer) (priority object code : Nat) (value : Option Nat) => ∃ t,
      exec .lineupChange s = .next t ∧ t.seq = { y with lineup := .is k, lineupDue := false } ∧
        t.newest.map (fun r => (r.cls, r.priority, r.object, r.code, r.value)) =
          some (.transfer, priority, object, code, value) ∧ Only [.links, .events, .seq] s t
    let starts := fun i => ends { s.seq with
      slot := none
      state := Clause.begun (s.fld .autorule i 5) (.auto i)
      lastPlan := some (s.fld .autorule i 5) } 10 (s.fld .autorule i 5) 3 (some (1 + 256 * i))
    let timed := fun i => s.stepField (s.fld .autorule i 5) 0 0 = 6
    (∀ a, s.seq.slot = some a → s.seq.autoEffective = true → Clause.ruleMatches s k a.rule → timed a.rule →
      starts a.rule) ∧
    (∀ i < 12, s.seq.autoEffective = true → (∀ a, s.seq.slot = some a → ¬ Clause.ruleMatches s k a.rule) →
      Clause.ruleMatches s k i → (∀ j < i, ¬ Clause.ruleMatches s k j) → timed i → starts i) ∧
    (∀ a, s.seq.slot = some a → (s.seq.autoEffective = false ∨
        (¬ Clause.ruleMatches s k a.rule ∧ ∀ i < 12, ¬ Clause.ruleMatches s k i)) →
      ends { s.seq with slot := none, state := .idle k } 7 a.rule 10 none)

/-- The line-up is found anew and followed (R124, R125), and IDLE is entered (R136, R137). The mark of a change that waits is
the model's own (log entry 5). -/
def Obligations.LineupIsFoundAnew : Prop := Clause.LineupIsFollowed ∧ Clause.IdleExaminesTheSlot

/-- A step whose timer reaches its timeout fails with code 7; a plan of the operator without an abort plan then goes to
HALTED(STEP_FAILED) (R128, R134, R135). A timeout of 0 never expires. -/
def Clause.StepTimeoutHalts : Prop :=
  ∀ (s : State) (r : PlanRun), s.Quiet → s.seq.state = .running r →
    (s.stepField r.plan r.step 4 = 0 → exec .stepTimeout s = .next s) ∧
    (s.stepField r.plan r.step 4 ≠ 0 → s.stepField r.plan r.step 4 ≤ r.timer → r.step < s.fld .plan r.plan 5 →
      s.stepField r.plan r.step 0 = 5 → r.cause = .operator → r.stopMark = false → r.parallel = none →
      s.fld .plan r.plan 3 = 0xFFFF → s.seq.lineupDue = false → s.seq.slot = none →
      (∀ c < 4, s.channel c = none) → s.par.token = none → s.par.tokenList = [] →
      ∃ t, exec .stepTimeout s = .next t ∧
        t.seq = { s.seq with
          state := .halted .stepFailed
          lastStepFailed := some (r.step + 256 * 7) } ∧
        t.newest.map (fun x => (x.cls, x.priority, x.code, x.value)) = some (.transfer, 13, 7, some 2) ∧
        Only [.links, .events, .seq] s t)

/-- When the parallel timer reaches the parallel limit, PARALLEL_LIMIT is asked for at the departing breaker and the step
fails with code 8 (R133, R134). -/
def Clause.ParallelLimitTripsTheDeparting : Prop :=
  ∀ (s : State) (r : PlanRun) (n d : Nat), s.Quiet → s.seq.state = .running r → r.parallel = some n →
    r.limitRaised = false → r.departing = some d →
    (n < s.fld .plan r.plan 4 → exec .parallelLimit s = .next s) ∧
    (s.fld .plan r.plan 4 ≤ n → s.stepField r.plan r.step 0 = 5 → r.cause = .operator → r.stopMark = false →
      s.fld .plan r.plan 3 = 0xFFFF → s.seq.lineupDue = false → s.seq.slot = none →
      (∀ c < 4, s.channel c = none) → s.par.token = none → s.par.tokenList = [] →
      ∃ t, exec .parallelLimit s = .next t ∧
        t.breakers = { s.breakers with requests := s.breakers.requests ++ [⟨true, d, .parallelLimit⟩] } ∧
        t.seq = { s.seq with
          state := .halted .stepFailed
          lastStepFailed := some (r.step + 256 * 8) } ∧
        Only [.links, .events, .breakers, .seq] s t)

/-- A plan that fails starts its abort plan, with cause ABORT, where that is defined and its from line-up is ANY or the
current one; otherwise the sequencer is HALTED with the reason: STEP_FAILED where the abort plan is not defined,
ABORT_NOT_APPLICABLE where its from line-up is neither, and ABORT_FAILED where the plan that fails is an abort plan itself
(R127, R134). -/
def Clause.FailedPlanAborts : Prop :=
  ∀ (s : State) (r : PlanRun), s.Quiet → s.seq.state = .running r → s.stepField r.plan r.step 4 ≠ 0 →
    s.stepField r.plan r.step 4 ≤ r.timer → r.step < s.fld .plan r.plan 5 → s.stepField r.plan r.step 0 = 5 →
    r.stopMark = false → r.parallel = none → s.seq.lineupDue = false → s.seq.slot = none →
    (∀ c < 4, s.channel c = none) → s.par.token = none → s.par.tokenList = [] →
    let abort := s.fld .plan r.plan 3
    let usable := s.fld .plan abort 1 = 8 ∨ s.seq.lineup = .is (s.fld .plan abort 1)
    let byAbort := ∃ p, r.cause = .abort p
    let failed := r.step + 256 * 7
    let halts := fun (y : HaltReason) (code : Nat) => ∃ t, exec .stepTimeout s = .next t ∧
      t.seq = { s.seq with state := .halted y, lastStepFailed := some failed } ∧
      t.newest.map (fun x => (x.cls, x.priority, x.code, x.value)) = some (.transfer, 13, 7, some code) ∧
      Only [.links, .events, .seq] s t
    (byAbort → halts .abortFailed 3) ∧
    (¬ byAbort → abort ≠ 0xFFFF → s.fld .plan abort 5 = 0 → halts .stepFailed 2) ∧
    (¬ byAbort → abort ≠ 0xFFFF → s.fld .plan abort 5 ≠ 0 → ¬ usable → halts .abortNotApplicable 4) ∧
    (¬ byAbort → abort ≠ 0xFFFF → s.fld .plan abort 5 ≠ 0 → usable → s.stepField abort 0 0 = 6 →
      ∃ t, exec .stepTimeout s = .next t ∧
        t.seq = { s.seq with
          state := Clause.begun abort (.abort r.plan)
          lastPlan := some abort
          lastStepFailed := some failed } ∧
        t.newest.map (fun x => (x.cls, x.priority, x.object, x.code, x.value)) =
          some (.transfer, 10, abort, 3, some (2 + 256 * r.plan)) ∧
        Only [.links, .events, .seq] s t)

/-- A step that runs out of time, and a parallel that does (R128, R133), and what the failure of a plan leads to (R134). The
list of requests and the mark of a limit raised are the model's own (log entries 16 and 21). -/
def Obligations.StepAndParallelLimitsHalt : Prop :=
  Clause.StepTimeoutHalts ∧ Clause.ParallelLimitTripsTheDeparting ∧ Clause.FailedPlanAborts

/-- A WAIT_TIME step completes once its timer has reached its argument, a WAIT_POINT step once its term holds; the next
step begins with its timer at 0 (R128, R132). -/
def Clause.WaitsComplete : Prop :=
  ∀ (s : State) (r : PlanRun), s.Quiet → s.seq.state = .running r → r.stopMark = false →
    r.step + 1 < s.fld .plan r.plan 5 → s.stepField r.plan (r.step + 1) 0 = 6 →
    let next : State :=
      { s with seq := { s.seq with state := .running { r with step := r.step + 1, timer := 0, wait := .time } } }
    let a := s.stepField r.plan r.step 1
    (r.wait = .time → s.stepField r.plan r.step 0 = 6 → a ≤ r.timer → exec .waitTimeExpiry s = .next next) ∧
    (r.wait = .time → r.timer < a → exec .waitTimeExpiry s = .next s) ∧
    (r.wait = .point → s.stepField r.plan r.step 0 = 5 → (s.point (a % 256) = true ↔ a / 256 = 1) →
      exec .waitPointMet s = .next next) ∧
    (r.wait = .point → ¬ (s.point (a % 256) = true ↔ a / 256 = 1) → exec .waitPointMet s = .next s)

/-- After its last step a plan that has reached its to line-up is recorded as PLAN_COMPLETED: the sequencer then follows the
current line-up, and is HALTED(ABORT_COMPLETED) after an abort plan. One that has not reached it fails with step index the
step count and code 9 (R134). -/
def Clause.LastStepEndsThePlan : Prop :=
  ∀ (s : State) (r : PlanRun), s.Quiet → s.seq.state = .running r → r.stopMark = false → r.parallel = none →
    r.wait = .time → s.stepField r.plan r.step 0 = 6 → s.stepField r.plan r.step 1 ≤ r.timer →
    r.step + 1 = s.fld .plan r.plan 5 → s.seq.lineupDue = false → s.seq.slot = none → s.lines.lockout = false →
    s.seq.autoEffective = false → (∀ c < 4, s.channel c = none) → s.par.token = none → s.par.tokenList = [] →
    (∀ b < 24, ∀ c, (s.brk b).slot = some c → c.requester ≠ .party .sequencer) →
    let goal := s.fld .plan r.plan 2
    let reached := goal = 8 ∨ Clause.pairsMatch s goal
    let byAbort := ∃ p, r.cause = .abort p
    let recorded := fun (t : State) (priority code : Nat) (value : Option Nat) =>
      t.newest.map (fun x => (x.cls, x.priority, x.code, x.value)) = some (.transfer, priority, code, value)
    (reached → ¬ byAbort → ∃ t, exec .waitTimeExpiry s = .next t ∧
      t.seq = { s.seq with state := match s.seq.lineup with
        | .is k => .idle k
        | .none => .noLineup
        | .unknown => .init } ∧
      recorded t 8 6 none ∧ Only [.links, .events, .seq] s t) ∧
    (reached → byAbort → ∃ t, exec .waitTimeExpiry s = .next t ∧
      t.seq = { s.seq with state := .halted .abortCompleted } ∧ recorded t 13 7 (some 5) ∧
      Only [.links, .events, .seq] s t) ∧
    (¬ reached → r.cause = .operator → s.fld .plan r.plan 3 = 0xFFFF → ∃ t, exec .waitTimeExpiry s = .next t ∧
      t.seq = { s.seq with
        state := .halted .stepFailed
        lastStepFailed := some (s.fld .plan r.plan 5 + 256 * 9) } ∧
      recorded t 13 7 (some 2) ∧ Only [.links, .events, .seq] s t)

/-- Waits end their steps (R128, R132), and the last step ends its plan (R134). -/
def Obligations.WaitsEndTheirSteps : Prop := Clause.WaitsComplete ∧ Clause.LastStepEndsThePlan

/-- Once the dead term of a CLOSE_DEAD step holds, its queued close is released: the tests pass, the CLOSE is issued with
the next tag, and the step waits for its outcome (R103, R105, R131). -/
def Obligations.DeadTermReleasesTheClose : Prop :=
  ∀ (s : State) (r : PlanRun) (c : Command), s.Quiet → s.seq.state = .running r → r.wait = .deadTerm →
    let b := s.stepField r.plan r.step 1
    let term := s.stepField r.plan r.step 2
    b < 24 → (s.point (term % 256) = true ↔ term / 256 = 1) → (s.brk b).slot = some c → c.action = .closing →
    c.phase = .queued → c.closeKind = .dead → c.requester = .party .sequencer →
    s.closeReason b .dead (.party .sequencer) = none → s.fld .breaker b 21 ≠ 1 →
    ∃ t, exec .deadTermHolds s = .next t ∧
      t.brk b = { s.brk b with
        slot := some { c with tag := (s.brk b).tagCounter, phase := .sent, left := false, timer := 0 }
        tagCounter := ((s.brk b).tagCounter + 1) % 256
        issued := step32 (s.brk b).issued } ∧
      (∀ a, a ≠ b → t.brk a = s.brk a) ∧
      t.seq = { s.seq with state := .running { r with wait := .command } } ∧
      (∀ l, (s.port l).up = true → ∃ f ∈ (t.port l).normal,
        f.body = .command b (s.fld .breaker b 3) .closing (s.brk b).tagCounter c.origins) ∧
      Only [.links, .breakers, .seq] s t

/-- The speed bias of a correction of run `r` for generator `g`, limited to its bias limit; 0 without BIAS_CONTROL in the
common set (R162). -/
def Clause.speedBias (s : State) (r : SyncRun) (g : Nat) : Int :=
  let fg : Int := (s.measure r.gStream).tracker.frequency
  let fb : Int := (s.measure r.bStream).tracker.frequency
  let target := (s.sfld .sync r.entry 2 + s.sfld .sync r.entry 3) / 2
  if (s.gen g).common.biasControl then
    clampInt (truncDiv (s.fld .sync r.entry 9 * (target - (fg - fb))) 16) (s.gen g).params.biasLimit
  else 0

/-- The voltage bias of a correction of run `r` for generator `g`, limited as its table says; 0 without BIAS_CONTROL in the
common set (R162). -/
def Clause.voltageBias (s : State) (r : SyncRun) (g : Nat) : Int :=
  let mg : Int := (s.phasor r.gStream 0).magnitude
  let mb : Int := (s.phasor r.bStream 0).magnitude
  if (s.gen g).common.biasControl then
    clampInt (truncDiv (s.fld .sync r.entry 10 * (mb - mg)) 256) (s.fld .generator g 10)
  else 0

/-- What a correction of run `r` makes of generator `g`: its biases are written, and its GENSET timer starts anew where they
are not what they were, since a GENSET is then built (R153, R162). -/
def Clause.corrected (s : State) (r : SyncRun) (g : Nat) : GenRec :=
  { s.gen g with
    speedBias := Clause.speedBias s r g
    voltageBias := Clause.voltageBias s r g
    refreshTimer := if s.fld .generator g 1 = 1 ∧ (s.gen g).state ≠ .absent ∧
        ((s.gen g).speedBias ≠ Clause.speedBias s r g ∨ (s.gen g).voltageBias ≠ Clause.voltageBias s r g) then 0
      else (s.gen g).refreshTimer }

/-- The generators whose biases a run has written, once a channel 0 correction has reached every ONLINE one: those with
BIAS_CONTROL join (R162). -/
def Clause.wroteOnline (s : State) (wrote : List Nat) : List Nat :=
  wrote ++ (List.range 8).filter (fun g =>
    (s.gen g).state == .online && (s.gen g).common.biasControl && !wrote.contains g)

/-- What the run on another channel still counts as written by it, once a correction has written the biases of the generators
`gs` (R162). -/
def Clause.disowned (s : State) (gs : List Nat) (x : Option SyncRun) : Option SyncRun :=
  x.map (fun r => { r with wrote := r.wrote.filter (fun g => !(decide (g ∈ gs) && (s.gen g).common.biasControl)) })

/-- The generators that a run of the sequencer biases: every ONLINE one (R162). -/
def Clause.online (s : State) : List Nat := (List.range 8).filter (fun g => (s.gen g).state == .online)

/-- A sync retry falls due after the correction interval once both streams are valid: a run starts anew on channel 0 for
the step's breaker and streams, with SYNC entry 8, and its first corrections reach every ONLINE generator (R130, R161,
R162). -/
def Obligations.SyncRetryStartsARun : Prop :=
  ∀ (s : State) (r : PlanRun) (n : Nat), s.Quiet → s.seq.state = .running r → r.wait = .retry n →
    (n < s.fld .sync 8 11 → exec .syncRetry s = .next s) ∧
    (s.fld .sync 8 11 ≤ n → (s.stream (s.stepField r.plan r.step 2)).valid = true →
      (s.stream (s.stepField r.plan r.step 3)).valid = true →
      let x : SyncRun := {
        client := .sequencer
        breaker := s.stepField r.plan r.step 1
        gStream := s.stepField r.plan r.step 2
        bStream := s.stepField r.plan r.step 3
        entry := 8 }
      ∃ t, exec .syncRetry s = .next t ∧
        t.channel 0 = some { x with wrote := Clause.wroteOnline s ((s.channel 0).elim [] (fun y => y.wrote)) } ∧
        t.seq = { s.seq with state := .running { r with wait := .sync } } ∧
        (∀ c, c ≠ 0 → t.channel c = Clause.disowned s (Clause.online s) (s.channel c)) ∧
        (∀ g < 8, t.gen g = if (s.gen g).state = .online then Clause.corrected s x g else s.gen g) ∧
        Only [.links, .par, .seq] s t)

/-! ### Generators -/

/-- A generator is at rated: its three phase voltages are valid and at or above the rated level, and its frequency is valid
and within the rated band (R156). -/
def Clause.rated (s : State) (g : Nat) : Bool :=
  let k := s.fld .generator g 4
  let f := (s.measure k).tracker
  [0, 1, 2].all (fun q => (s.phasor k q).valid && s.fld .generator g 14 ≤ (s.phasor k q).magnitude) &&
    f.valid && ((f.frequency : Int) - 1000 * s.aligner.nominal).natAbs ≤ s.fld .generator g 15

/-- The bus of a generator is dead: its three phasors are valid and below the dead level (R157). -/
def Clause.busDead (s : State) (g : Nat) : Prop :=
  ∀ q < 3, (s.phasor (s.fld .generator g 5) q).valid = true ∧
    (s.phasor (s.fld .generator g 5) q).magnitude < s.fld .sync g 6

/-- The bus of a generator is live: its three phasors are valid and at or above the live level, and it is not dead (R157). -/
def Clause.busLive (s : State) (g : Nat) : Prop :=
  ¬ Clause.busDead s g ∧ ∀ q < 3, (s.phasor (s.fld .generator g 5) q).valid = true ∧
    s.fld .sync g 5 ≤ (s.phasor (s.fld .generator g 5) q).magnitude

/-- Nothing keeps a generator or the sequencer from closing breaker `b`, which is in NORMAL mode and has no interlock
(R102). -/
def Clause.mayClose (s : State) (b : Nat) : Prop :=
  b < 24 ∧ s.fld .breaker b 1 = 1 ∧ s.fld .breaker b 21 ≠ 1 ∧ s.fld .breaker b 6 = 0xFFFF ∧ (s.brk b).trips = [] ∧
    s.lines.tripLatch = false ∧ s.lines.lockout = false ∧ (s.brk b).position = .opened ∧
    (s.brk b).unresponsive = false ∧ (s.brk b).health = ⟨true, true, false⟩

/-- The CLOSE of generator `g` as it waits in the slot of its breaker (R97, R102). -/
def Clause.closeOf (g : Nat) (k : CloseKind) : Command :=
  { action := .closing, closeKind := k, requester := .party (.generator g), origins := { paralleling := true }
    generator := some g }

/-- The record of a breaker whose command `c` is issued, with the next tag (R105). -/
def Clause.issued (r : BreakerRec) (c : Command) : BreakerRec :=
  { r with
    slot := some { c with tag := r.tagCounter, phase := .sent, left := false, timer := 0 }
    tagCounter := (r.tagCounter + 1) % 256
    issued := step32 r.issued }

/-- The record of a breaker whose queued CLOSE is withdrawn (R103, R109). -/
def Clause.withdrawn (r : BreakerRec) : BreakerRec :=
  { r with
    slot := none
    lastOutcome := some .withdrawn
    outcomes := r.outcomes.modify 5 step32 }

/-- The GENSET frame of generator `g`, built from its setpoint record as it stands after the command, joins the normal queue
of each link that is UP (R16, R153). -/
def Clause.GensetJoins (s t : State) (g : Nat) : Prop :=
  ∀ p, t.setpointOf g = some p → ∀ l, (s.port l).up = true →
    (⟨s.station 1, s.fld .generator g 2, s.links.gensetSeq, .genset g p, false, false⟩ : OutFrame) ∈ (t.port l).normal

/-- An ABILITY frame for generator `g` joins the normal queue of each link that is UP and holds fewer than 8 of its class
(R16, R150). -/
def Clause.PageJoins (s t : State) (g : Nat) (p : Page) : Prop :=
  ∀ l, (s.port l).up = true → (s.port l).normalCount OutFrame.isAbility < 8 →
    (⟨s.station 1, s.fld .generator g 2, s.links.abilitySeq, .ability g p, false, false⟩ : OutFrame) ∈ (t.port l).normal

/-- A GENSTATUS frame of a generator is held and restarts its ABSENT timer; without a fault and without a conflict
with the common abilities it does no more to a generator that is neither ABSENT nor STOPPING (R149, R152). A generator
that was ABSENT starts NEGOTIATING with the parameters of its table: the unit's BASE page is sent, and a GENSET with it
(R149 to R151, R153). The mark of an expiry taken is the model's own (log entry 21), and the GENSET of the command's end its
choice (log entry 24). -/
def Obligations.GenStatusIsHeld : Prop :=
  ∀ (s : State) (l : Link) (h : Header) (f : GenStatus) (g : Nat), s.Quiet → (s.port l).up = true →
    s.verdict .genstatus h = .taken → s.matchGen h.src = some g →
    ((s.gen g).state ≠ .absent → (s.gen g).state ≠ .stopping → f.fault = false →
      (f.biasMode = true → (s.gen g).common.biasControl = true) →
      (f.loadMode = true → (s.gen g).common.loadControl = true) →
      exec (.genstatusFrame l h f) s = .next ((s.reached l .genstatus h).modGen g (fun r =>
        { r with absentTimer := 0, absentTaken := false, status := f }))) ∧
    ((s.gen g).state = .absent → ∃ t, exec (.genstatusFrame l h f) s = .next t ∧
      t.gen g = { s.gen g with
        state := .negotiating
        absentTimer := 0
        absentTaken := false
        status := f
        deferred := false
        exchange := { state := .awaitBase }
        params := ⟨s.fld .generator g 6, s.fld .generator g 7, s.fld .generator g 8, s.fld .generator g 9⟩
        refreshTimer := 0 } ∧
      t.setpointOf g =
        some ⟨false, false, (s.gen g).speedBias, (s.gen g).voltageBias, 0, s.fld .generator g 8⟩ ∧
      Clause.GensetJoins s t g ∧ t.links.gensetSeq = step16 s.links.gensetSeq ∧
      Clause.PageJoins s t g ⟨false, false, false, .base (Abilities.ofByte (s.fld .generator g 11))⟩ ∧
      t.links.abilitySeq = step16 s.links.abilitySeq ∧
      (∀ j, j ≠ g → t.gen j = s.gen j) ∧ Records s t .generator 6 g 1 (some 1) ∧
      Only [.links, .events, .par] s t)

/-- In AWAIT_BASE a BASE page that acknowledges gives the controller's set, and with more to come the exchange is
RECEIVING. In RECEIVING a ramp-rate page with the expected toggle is applied, its value limited to 1 and the table's,
the toggle expected flips, and an ACK page that echoes its toggle, code and value is sent; a changed ramp rate goes out in a
GENSET. Outside an exchange a page has no effect (R150, R151, R153). The two flags of the page that acknowledges are free
values (log entry 8), and the GENSET of the command's end is the model's choice (log entry 24). -/
def Obligations.AbilityPagesAreTaken : Prop :=
  ∀ (s : State) (l : Link) (h : Header) (f : Page) (g : Nat), s.Quiet → (s.port l).up = true →
    s.verdict .ability h = .taken → s.matchGen h.src = some g →
    let x := (s.gen g).exchange
    (x.state ≠ .awaitBase → x.state ≠ .receiving → exec (.abilityFrame l h f) s =
      .next (s.reached l .ability h)) ∧
    (∀ set, x.state = .awaitBase → f.body = .base set → f.ack = true → f.more = true →
      exec (.abilityFrame l h f) s = .next ((s.reached l .ability h).modGen g (fun r =>
        { r with exchange := ⟨.receiving, false, none, set, 0⟩ }))) ∧
    (∀ v, x.state = .receiving → f.body = .next .rampRate v → f.toggle = x.expected → f.more = true →
      ∃ t, exec (.abilityFrame l h f) s = .next t ∧
        (t.gen g).params = { (s.gen g).params with ramp := max 1 (min v (s.fld .generator g 8)) } ∧
        (t.gen g).exchange = ⟨.receiving, !x.expected, some f.toggle, x.controllerSet, 0⟩ ∧
        (∃ m k, Clause.PageJoins s t g ⟨f.toggle, m, k, .ack .rampRate v⟩) ∧
        t.links.abilitySeq = step16 s.links.abilitySeq ∧
        ((t.gen g).params.ramp ≠ (s.gen g).params.ramp → Clause.GensetJoins s t g) ∧
        (∀ j, j ≠ g → t.gen j = s.gen j) ∧ t.free = s.free + 1 ∧ Only [.links, .par, .free] s t)

/-- 2880 instants without a GENSTATUS make a generator in STANDBY ABSENT with its exchange record cleared, and leave one in
FAULT there with GEN_SILENT recorded (R149). -/
def Clause.SilentGeneratorIsAbsent : Prop :=
  ∀ (s : State) (g : Nat), s.Quiet → g < 8 → s.fld .generator g 1 = 1 →
    ((s.gen g).absentTimer < 2880 → exec (.genAbsentTimeout g) s = .next s) ∧
    (2880 ≤ (s.gen g).absentTimer → (s.gen g).absentTaken = false → (s.gen g).deferred = false →
      (s.gen g).state = .standby → ∃ t, exec (.genAbsentTimeout g) s = .next t ∧
      t.gen g = { s.gen g with state := .absent, absentTaken := true, exchange := {} } ∧
      (∀ j, j ≠ g → t.gen j = s.gen j) ∧ Records s t .generator 6 g 1 (some 0) ∧
      Only [.links, .events, .par] s t) ∧
    (2880 ≤ (s.gen g).absentTimer → (s.gen g).absentTaken = false → (s.gen g).state = .fault →
      ∃ t, exec (.genAbsentTimeout g) s = .next t ∧ t.gen g = { s.gen g with absentTaken := true } ∧
      (∀ j, j ≠ g → t.gen j = s.gen j) ∧ Records s t .generator 9 g 2 none ∧ Only [.links, .events, .par] s t)

/-- 720 instants without a page end an exchange UNDECLARED: the common set holds REMOTE_START alone, the parameters are the
table's (R150, R151), and the biases, without BIAS_CONTROL, are 0 (R162). -/
def Clause.PageGapEndsTheExchange : Prop :=
  ∀ (s : State) (g : Nat), s.Quiet → g < 8 → (s.gen g).state = .fault →
    ((s.gen g).exchange.state = .awaitBase ∨ (s.gen g).exchange.state = .receiving) →
    ((s.gen g).exchange.gap < 720 → exec (.abilityGapTimeout g) s = .next s) ∧
    (720 ≤ (s.gen g).exchange.gap → ∃ t, exec (.abilityGapTimeout g) s = .next t ∧
      (t.gen g).common = ⟨true, false, false, false, false⟩ ∧ (t.gen g).speedBias = 0 ∧ (t.gen g).voltageBias = 0 ∧
      (t.gen g).params =
        ⟨s.fld .generator g 6, s.fld .generator g 7, s.fld .generator g 8, s.fld .generator g 9⟩ ∧
      (t.gen g).exchange = { (s.gen g).exchange with state := .undeclared } ∧
      (t.gen g).state = .fault ∧ (∀ j, j ≠ g → t.gen j = s.gen j) ∧ Records s t .generator 9 g 4 none ∧
      Only [.links, .events, .par] s t)

/-- 2880 instants after the last GENSET of a generator one is built anew from its setpoint record, and handed to each link
that is UP (R16, R153). -/
def Clause.RefreshBuildsAGenset : Prop :=
  ∀ (s : State) (g : Nat) (p : Setpoint), s.Quiet → g < 8 → s.setpointOf g = some p →
    ((s.gen g).refreshTimer < 2880 → exec (.gensetRefresh g) s = .next s) ∧
    (2880 ≤ (s.gen g).refreshTimer → ∃ t, exec (.gensetRefresh g) s = .next t ∧
      t.gen g = { s.gen g with refreshTimer := 0 } ∧ (∀ j, j ≠ g → t.gen j = s.gen j) ∧
      (∀ l, (s.port l).up = true → ⟨s.station 1, s.fld .generator g 2, s.links.gensetSeq, .genset g p, false, false⟩ ∈
        (t.port l).normal) ∧
      t.links.gensetSeq = step16 s.links.gensetSeq ∧ Only [.links, .par] s t)

/-- A NEGOTIATING generator whose exchange ends so takes its state from the standing facts: with its breaker CLOSED
ONLINE or STOPPING, with it UNKNOWN none yet, and otherwise READY where its engine runs at rated, else STANDBY (R151,
R156). -/
def Clause.PageGapSettlesTheState : Prop :=
  ∀ (s : State) (g : Nat), s.Quiet → g < 8 → (s.gen g).state = .negotiating → (s.gen g).deferred = false →
    ((s.gen g).exchange.state = .awaitBase ∨ (s.gen g).exchange.state = .receiving) → s.run? = none →
    (s.brk (s.fld .generator g 3)).slot = none →
    let position := (s.brk (s.fld .generator g 3)).position
    ((s.gen g).exchange.gap < 720 → exec (.abilityGapTimeout g) s = .next s) ∧
    (720 ≤ (s.gen g).exchange.gap → ∃ t, exec (.abilityGapTimeout g) s = .next t ∧
      (t.gen g).common = ⟨true, false, false, false, false⟩ ∧ (t.gen g).speedBias = 0 ∧ (t.gen g).voltageBias = 0 ∧
      (t.gen g).params =
        ⟨s.fld .generator g 6, s.fld .generator g 7, s.fld .generator g 8, s.fld .generator g 9⟩ ∧
      (t.gen g).exchange = { (s.gen g).exchange with state := .undeclared } ∧
      (t.gen g).state = (match position, (s.gen g).status.running with
        | .unknown, _ => GenState.negotiating
        | .closed, true => .online
        | .closed, false => .stopping
        | _, true => if Clause.rated s g then .ready else .standby
        | _, false => .standby) ∧
      (∀ j, j ≠ g → t.gen j = s.gen j) ∧ (position = .unknown → Records s t .generator 9 g 4 none) ∧
      (position ≠ .unknown → t.newest.map (fun r => (r.cls, r.priority, r.object, r.code, r.value)) =
        some (.generator, 6, g, 1, some (t.gen g).state.code)) ∧
      Only [.links, .events, .breakers, .par] s t)

/-- A generator without GENSTATUS, an exchange without pages, and a setpoint record without change (R149, R150, R153).
The mark of an expiry taken is the model's own (log entry 21), and that the end of an exchange without BIAS_CONTROL clears
biases that a run had written is its inference (log entry 24). -/
def Obligations.SilenceOfAGenerator : Prop :=
  Clause.SilentGeneratorIsAbsent ∧ Clause.PageGapEndsTheExchange ∧ Clause.PageGapSettlesTheState ∧
    Clause.RefreshBuildsAGenset

/-- The evaluation of demand starts the first startable generator of the start order where the online and the starting
fall short of the demand by one, with a GENSET built, and does nothing where they meet it or none is due (R153, R155). -/
def Clause.ShortfallStartsAGenerator : Prop :=
  ∀ s : State, s.Quiet →
    (s.par.demandDue = false → exec .demandEvaluation s = .next s) ∧
    (s.par.demandDue = true → s.onlineCount + s.pendingCount = s.par.demand →
      exec .demandEvaluation s = .next (s.modPar (fun p => { p with demandDue := false }))) ∧
    (∀ g, s.par.demandDue = true → s.onlineCount + s.pendingCount + 1 = s.par.demand →
      s.lines.tripLatch = false → (s.gen g).deferred = false →
      s.startOrder.find? (fun j => (s.gen j).state == .standby && (s.gen j).common.remoteStart) = some g →
      ∃ t, exec .demandEvaluation s = .next t ∧
        t.gen g = { s.gen g with state := .starting, startTimer := 0, refreshTimer := 0 } ∧
        Clause.GensetJoins s t g ∧
        (∀ j, j ≠ g → t.gen j = s.gen j) ∧ Records s t .generator 6 g 1 (some 3) ∧
        Only [.links, .events, .par] s t)

/-- Where one generator more is ONLINE than the demand asks for, the last one of the start order is UNLOADING: it keeps its
load target as T0, and where it cannot ramp or T0 is at or below its minimum load its breaker is asked to OPEN at once
(R155, R166). -/
def Clause.ExcessUnloadsTheLast : Prop :=
  ∀ (s : State) (g : Nat), s.Quiet → s.par.demandDue = true → s.onlineCount = s.par.demand + 1 → s.pendingCount = 0 →
    (s.startOrder.filter (fun j => (s.gen j).state == .online)).getLast? = some g → s.run? = none →
    let b := s.fld .generator g 3
    let ramps := (s.gen g).common.loadControl = true ∧ (s.gen g).common.softLoad = true ∧
      (s.gen g).params.minLoad < (s.gen g).target
    let unloading := { s.gen g with state := .unloading, unloadFrom := (s.gen g).target, unloadTimer := 0
                                    unloadAsked := false }
    let moves := fun (y : GenRec) (f : BreakerRec → BreakerRec) => ∃ t, exec .demandEvaluation s = .next t ∧
      t.gen g = y ∧ (∀ j, j ≠ g → t.gen j = s.gen j) ∧ t.brk b = f (s.brk b) ∧ (∀ a, a ≠ b → t.brk a = s.brk a) ∧
      t.par.demandDue = true ∧ Records s t .generator 6 g 1 (some 9) ∧ Only [.links, .events, .breakers, .par] s t
    (ramps → moves unloading id) ∧
    (¬ ramps → b < 24 → s.fld .breaker b 1 = 1 → s.fld .breaker b 21 ≠ 1 → (s.brk b).slot = none →
      (s.brk b).position ≠ .opened → moves { unloading with unloadAsked := true } (fun r => Clause.issued r
        { action := .opening, origins := { paralleling := true }, generator := some g }))

/-- Where the ONLINE are no more than the demand but with those on their way there is one too many, the last of these in the
start order is STOPPING, with a GENSET built (R153, R155). -/
def Clause.SurplusIsStopped : Prop :=
  ∀ (s : State) (g : Nat), s.Quiet → s.par.demandDue = true → s.onlineCount ≤ s.par.demand →
    s.onlineCount + s.pendingCount = s.par.demand + 1 →
    (s.startOrder.filter (fun j => (s.gen j).state ∈ [GenState.starting, .ready, .claiming, .syncing])).getLast? =
      some g → ((s.gen g).state = .starting ∨ (s.gen g).state = .ready) → (s.gen g).deferred = false →
    s.genPosition g = .opened → ∃ t, exec .demandEvaluation s = .next t ∧
      t.gen g = { s.gen g with state := .stopping, refreshTimer := 0 } ∧ Clause.GensetJoins s t g ∧
      (∀ j, j ≠ g → t.gen j = s.gen j) ∧ t.par.waitList = s.par.waitList.filter (fun j => j != g) ∧
      Records s t .generator 6 g 1 (some 10) ∧ Only [.links, .events, .par] s t

/-- The evaluation of demand: start, unload and surplus (R155). The mark of an evaluation due is the model's own (log
entry 5), and so is the mark that the OPEN of an unload has been asked for (log entry 21). -/
def Obligations.DemandStartsTheFirst : Prop :=
  Clause.ShortfallStartsAGenerator ∧ Clause.ExcessUnloadsTheLast ∧ Clause.SurplusIsStopped

/-- A generator that has not reached rated conditions within its start timeout enters FAULT, recorded with priority 12
(R148, R156). -/
def Clause.StartTimeoutFaults : Prop :=
  ∀ (s : State) (g : Nat), s.Quiet → g < 8 → s.fld .generator g 1 = 1 → (s.gen g).state = .starting →
    ((s.gen g).startTimer < s.fld .generator g 13 → exec (.startTimeout g) s = .next s) ∧
    (s.fld .generator g 13 ≤ (s.gen g).startTimer → (s.gen g).deferred = false → s.genPosition g = .opened →
      ∃ t, exec (.startTimeout g) s = .next t ∧
        t.gen g = { s.gen g with state := .fault, refreshTimer := 0 } ∧ (∀ j, j ≠ g → t.gen j = s.gen j) ∧
        Records s t .generator 12 g 1 (some 11) ∧ Only [.links, .events, .par] s t)

/-- When its retry timer has reached 0 a READY generator makes its next close attempt: on a live bus with no channel free
it joins the tail of the wait list (R157, R160). In another state nothing follows. -/
def Clause.RetryJoinsTheWaitList : Prop :=
  ∀ (s : State) (g : Nat), s.Quiet →
    ((s.gen g).retryDue = false → exec (.retryTimerExpiry g) s = .next s) ∧
    ((s.gen g).retryDue = true → (s.gen g).state ≠ .ready →
      exec (.retryTimerExpiry g) s = .next (s.modGen g (fun r => { r with retryDue := false }))) ∧
    (g < 8 → (s.gen g).retryDue = true → (s.gen g).state = .ready → (s.gen g).retryTimer = 0 →
      s.lines.lockout = false → s.lines.tripLatch = false → s.genPosition g = .opened → s.busState g = .live →
      (∀ c ∈ [1, 2, 3], (s.channel c).isSome = true) → g ∉ s.par.waitList →
      exec (.retryTimerExpiry g) s = .next ((s.modGen g (fun r => { r with retryDue := false })).modPar (fun p =>
        { p with waitList := p.waitList ++ [g] })))

/-- The close attempt on a dead bus: for an unguarded breaker the DEAD close is TAKEN, and, its dead check having passed,
issued; for a guarded one the token is asked for, and with the token free it is granted and the same follows; with the token
held the generator waits in CLAIMING at the tail of the list (R103, R105, R157, R158, R159). -/
def Clause.AttemptOnADeadBus : Prop :=
  ∀ (s : State) (g : Nat), s.Quiet → g < 8 → s.fld .generator g 1 = 1 → (s.gen g).state = .ready →
    (s.gen g).retryDue = true → (s.gen g).retryTimer = 0 → (s.gen g).deferred = false →
    let b := s.fld .generator g 3
    Clause.mayClose s b → (s.brk b).slot = none → Clause.busDead s g →
    let closes := fun (token : Option Party) => ∃ t, exec (.retryTimerExpiry g) s = .next t ∧
      t.gen g = { s.gen g with state := .closing, retryDue := false, deadTimer := 0 } ∧
      (∀ j, j ≠ g → t.gen j = s.gen j) ∧ t.brk b = Clause.issued (s.brk b) (Clause.closeOf g .dead) ∧
      (∀ a, a ≠ b → t.brk a = s.brk a) ∧ t.par.token = token ∧ t.par.tokenList = s.par.tokenList ∧
      (∀ l, (s.port l).up = true → ∃ f ∈ (t.port l).normal,
        f.body = .command b (s.fld .breaker b 3) .closing (s.brk b).tagCounter { paralleling := true }) ∧
      t.newest.map (fun r => (r.cls, r.priority, r.object, r.code, r.value)) = some (.generator, 6, g, 1, some 7) ∧
      Only [.links, .events, .breakers, .par] s t
    (s.fld .breaker b 5 ≠ 1 → closes s.par.token) ∧
    (s.fld .breaker b 5 = 1 → s.par.token = none → s.par.tokenList = [] → closes (some (.generator g))) ∧
    (∀ p, s.fld .breaker b 5 = 1 → s.par.token = some p → p ≠ .generator g → .generator g ∉ s.par.tokenList →
      ∃ t, exec (.retryTimerExpiry g) s = .next t ∧
        t.gen g = { s.gen g with state := .claiming, retryDue := false } ∧ (∀ j, j ≠ g → t.gen j = s.gen j) ∧
        t.par.token = some p ∧ t.par.tokenList = s.par.tokenList ++ [.generator g] ∧
        Records s t .generator 6 g 1 (some 5) ∧ Only [.links, .events, .par] s t)

/-- No other generator than `g` takes part in anything. -/
def Clause.Alone (s : State) (g : Nat) : Prop := ∀ j < 8, j ≠ g → (s.gen j).state = .absent

/-- Every other generator than `g` is ABSENT, or CLOSING with no close that is QUEUED-FOR-RELEASE. -/
def Clause.OthersRest (s : State) (g : Nat) : Prop :=
  ∀ j < 8, j ≠ g → (s.gen j).state = .absent ∨
    ((s.gen j).state = .closing ∧ ∀ c, (s.brk (s.fld .generator j 3)).slot = some c → c.phase ≠ .queued)

/-- The at-rated test of a closure, on its measurements: a STARTING generator at rated is READY, and one in READY, CLAIMING or
SYNCING that is not is STARTING again with its start timer at 0, unless the station trip latch stands (R156, R168). It then
neither holds the token nor waits for it; a READY one has left no attempt and takes up neither (R158). -/
def Clause.RatedTestAtAClosure : Prop :=
  ∀ (s t : State) (pin : Bool) (g : Nat), s.Quiet → s.closureDue = true → exec (.instantClosure pin) s = .next t →
    g < 8 → s.fld .generator g 1 = 1 → (s.gen g).deferred = false →
    (∀ c < 4, ∀ r, s.channel c = some r → r.client = .generator g → (s.gen g).state = .syncing ∧
      ∀ d < 4, d ≠ c → ∀ x, s.channel d = some x → x.client ≠ .generator g) →
    ((s.gen g).state = .starting → Clause.rated t g = true → (s.gen g).retryTimer ≠ 0 →
      (t.gen g).state = .ready) ∧
    ((s.gen g).state = .starting → Clause.rated t g = false → (t.gen g).state = .starting) ∧
    ((s.gen g).state ∈ [.ready, .claiming, .syncing] → Clause.rated t g = false → s.lines.tripLatch = false →
      (t.gen g).state = .starting ∧ (t.gen g).startTimer = 0 ∧
      ((s.gen g).state ≠ .ready ∨ (.generator g ∉ s.par.tokenList ∧ s.par.token ≠ some (.generator g)) →
        .generator g ∉ t.par.tokenList ∧ t.par.token ≠ some (.generator g)))

/-- The start timer and the retry timer (R156, R157), and the at-rated test (R156). The mark of an expiry due is the model's
own (log entry 21). -/
def Obligations.StartAndRetryTimersExpire : Prop :=
  Clause.StartTimeoutFaults ∧ Clause.RetryJoinsTheWaitList ∧ Clause.AttemptOnADeadBus ∧ Clause.RatedTestAtAClosure

/-- A dead check that has not passed within 288 instants withdraws the queued DEAD close, frees the token and counts a
dead-close failure; at the first the generator is READY again with its retry timer at the correction interval (R158,
R159). -/
def Clause.DeadCheckRunsOut : Prop :=
  ∀ (s : State) (g : Nat) (c : Command), s.Quiet → g < 8 →
    let b := s.fld .generator g 3
    b < 24 → s.fld .generator g 1 = 1 → (s.gen g).state = .closing → (s.brk b).slot = some c →
    c.action = .closing → c.closeKind = .dead → c.phase = .queued → c.requester = .party (.generator g) →
    c.origins = { paralleling := true } → c.generator = some g → (s.gen g).deferred = false →
    s.par.token = some (.generator g) → s.par.tokenList = [] → (∀ k < 4, s.channel k = none) →
    ((s.gen g).deadTimer < 288 → exec (.deadCheckTimeout g) s = .next s) ∧
    (288 ≤ (s.gen g).deadTimer → (s.gen g).deadFailures = 0 → ∃ t, exec (.deadCheckTimeout g) s = .next t ∧
      t.brk b = { s.brk b with
        slot := none
        lastOutcome := some .withdrawn
        outcomes := (s.brk b).outcomes.modify 5 step32 } ∧
      (∀ a, a ≠ b → t.brk a = s.brk a) ∧
      t.gen g = { s.gen g with
        state := .ready
        deadFailures := 1
        retryTimer := s.fld .sync g 11
        retryDue := false } ∧
      (∀ j, j ≠ g → t.gen j = s.gen j) ∧ t.par.token = none ∧ Only [.links, .events, .breakers, .par] s t)

/-- A token that is freed is granted at once to the waiting generator that stands highest in the start order; its DEAD close is
TAKEN, and issued where its bus is dead (R158, R159). -/
def Clause.FreedTokenIsGranted : Prop :=
  ∀ (s : State) (g j : Nat), s.Quiet → g < 8 → j < 8 → j ≠ g →
    let b := s.fld .generator g 3
    let a := s.fld .generator j 3
    b < 24 → s.fld .generator g 1 = 1 → (s.gen g).state = .closing → (s.brk b).slot = some (Clause.closeOf g .dead) →
    (s.gen g).deferred = false → s.par.token = some (.generator g) → (∀ k < 4, s.channel k = none) →
    288 ≤ (s.gen g).deadTimer → (s.gen g).deadFailures = 0 → .sequencer ∉ s.par.tokenList →
    .generator g ∉ s.par.tokenList →
    s.genOrder.find? (fun k => s.par.tokenList.contains (.generator k)) = some j → (s.gen j).state = .claiming →
    (s.gen j).deferred = false → a ≠ b → Clause.mayClose s a → s.fld .breaker a 5 = 1 → (s.brk a).slot = none →
    ¬ Clause.busLive s j → ∃ t, exec (.deadCheckTimeout g) s = .next t ∧
      t.par.token = some (.generator j) ∧
      t.par.tokenList = s.par.tokenList.filter (fun p => p != .generator j) ∧ (t.gen g).state = .ready ∧
      t.gen j = { s.gen j with state := .closing, deadTimer := 0 } ∧ t.brk b = Clause.withdrawn (s.brk b) ∧
      (Clause.busDead s j → t.brk a = Clause.issued (s.brk a) (Clause.closeOf j .dead)) ∧
      (¬ Clause.busDead s j → t.brk a = { s.brk a with slot := some (Clause.closeOf j .dead) }) ∧
      Only [.links, .events, .breakers, .par] s t

/-- The inputs of a run are valid: the Q0 phasor and the frequency of both its streams (R161). -/
def Clause.runValid (s : State) (r : SyncRun) : Prop :=
  ∀ k ∈ [r.gStream, r.bStream], (s.phasor k 0).valid = true ∧ (s.measure k).tracker.valid = true

/-- The dead check of a closure, on its measurements: with the bus dead the queued DEAD close is issued; with it live the close
is withdrawn, the token given back and a channel sought: with channels 1 to 3 free the generator is SYNCING with its SYNC close
in the slot and its run on channel 1, whose first corrections are made and which has been evaluated once, here valid and
still to qualify; with none of them free it is READY and waits. In any other case the check waits (R103, R158 to R162). That a
run is evaluated at the closure in which it starts is the model's choice (log entry 5). -/
def Clause.DeadCheckAtAClosure : Prop :=
  ∀ (s t : State) (pin : Bool) (g : Nat), s.Quiet → s.closureDue = true → exec (.instantClosure pin) s = .next t →
    g < 8 → s.fld .generator g 1 = 1 → Clause.OthersRest s g → (s.gen g).state = .closing →
    (s.gen g).deferred = false →
    let b := s.fld .generator g 3
    let x : SyncRun := {
      client := .generator g
      breaker := b
      gStream := s.fld .generator g 4
      bStream := s.fld .generator g 5
      entry := g }
    b < 24 → (s.brk b).slot = some (Clause.closeOf g .dead) → (s.brk b).bf = .idle →
    s.par.token = some (.generator g) → s.par.tokenList = [] → s.par.waitList = [] →
    (∀ k < 4, ∀ r, s.channel k = some r → r.phase = .released ∧ r.client ≠ .generator g) →
    (Clause.busDead t g → Clause.mayClose s b → t.lines.lockout = false →
      t.brk b = Clause.issued (s.brk b) (Clause.closeOf g .dead) ∧ t.gen g = s.gen g ∧ t.par.token = s.par.token) ∧
    (¬ Clause.busDead t g → ¬ Clause.busLive t g →
      t.brk b = s.brk b ∧ t.gen g = s.gen g ∧ t.par.token = s.par.token) ∧
    (Clause.busLive t g → (∀ k ∈ [1, 2, 3], s.channel k ≠ none) →
      t.brk b = Clause.withdrawn (s.brk b) ∧ t.gen g = { s.gen g with state := .ready } ∧ t.par.token = none ∧
      t.par.waitList = [g]) ∧
    (Clause.busLive t g → (∀ k ∈ [1, 2, 3], s.channel k = none) → Clause.mayClose s b → t.lines.lockout = false →
      Clause.runValid t x → 2 ≤ s.fld .sync g 7 →
      t.brk b = { Clause.withdrawn (s.brk b) with slot := some (Clause.closeOf g .sync) } ∧
      t.gen g = { s.gen g with
        state := .syncing
        speedBias := Clause.speedBias t x g
        voltageBias := Clause.voltageBias t x g
        refreshTimer := (t.gen g).refreshTimer } ∧
      (t.channel 1).map (fun y => { y with qualify := 0, theta := none, slip := none, advance := none }) =
        some { x with wrote := if (s.gen g).common.biasControl then [g] else [] } ∧
      t.par.token = none ∧ t.par.waitList = [])

/-- The evaluation of a generator's RUNNING run at a closure. With an input not valid it aborts: the channel is free, the
close withdrawn, the biases that it wrote are 0, and the generator is READY with its retry timer at the correction interval.
Otherwise the angle of R44 (which Clause.AnglesAreTrue says of `angleBetween`), the slip fG - fB and the advance are taken,
the qualify count steps while the window holds, and READY stands from the qualify count on; with the angle advanced in its
range the close is released and issued, and the generator is CLOSING (R161 to R163). -/
def Clause.RunEvaluatesAtAClosure : Prop :=
  ∀ (s t : State) (pin : Bool) (g k : Nat) (r : SyncRun), s.Quiet → s.closureDue = true →
    exec (.instantClosure pin) s = .next t → g < 8 → s.fld .generator g 1 = 1 → Clause.Alone s g →
    (s.gen g).state = .syncing → (s.gen g).deferred = false → Clause.rated t g = true → s.lines.lockout = false →
    t.lines.lockout = false → k ∈ [1, 2, 3] → s.channel k = some r → (∀ j < 4, j ≠ k → s.channel j = none) →
    let b := s.fld .generator g 3
    b < 24 → r.client = .generator g → r.breaker = b → r.phase = .running →
    (s.brk b).slot = some (Clause.closeOf g .sync) → (s.brk b).bf = .idle → s.par.token = none →
    s.par.tokenList = [] → s.par.waitList = [] →
    let mg := (t.phasor r.gStream 0).magnitude
    let mb := (t.phasor r.bStream 0).magnitude
    let theta := angleBetween (t.phasor r.gStream 0) (t.phasor r.bStream 0)
    let slip : Int := (t.measure r.gStream).tracker.frequency - (t.measure r.bStream).tracker.frequency
    let advance := roundDiv (3 * slip * s.fld .breaker b 7) (4 * s.aligner.nominal)
    let window : Bool := decide (s.fld .sync r.entry 5 ≤ mg ∧ s.fld .sync r.entry 5 ≤ mb ∧
      theta.natAbs ≤ s.fld .sync r.entry 1 ∧ s.sfld .sync r.entry 2 ≤ slip ∧ slip ≤ s.sfld .sync r.entry 3 ∧
      ((mg : Int) - mb).natAbs ≤ s.fld .sync r.entry 4)
    let count := if window then r.qualify + 1 else 0
    let ready := window && (r.ready || decide (s.fld .sync r.entry 7 ≤ count))
    let release := ready && decide (0 ≤ theta + advance ∧ theta + advance ≤ s.fld .sync r.entry 8)
    let evaluated := fun phase => t.channel k = some { r with
      qualify := count, ready := ready, theta := some theta, slip := some slip, advance := some advance
      phase := phase }
    (¬ Clause.runValid t r → t.channel k = none ∧ t.brk b = Clause.withdrawn (s.brk b) ∧
      t.gen g = { s.gen g with
        state := .ready
        retryTimer := s.fld .sync g 11
        retryDue := false
        speedBias := if g ∈ r.wrote then 0 else (s.gen g).speedBias
        voltageBias := if g ∈ r.wrote then 0 else (s.gen g).voltageBias
        refreshTimer := (t.gen g).refreshTimer } ∧
      Clause.ClosureRecords s t .generator 9 k 8 none) ∧
    (Clause.runValid t r → release = false →
      evaluated .running ∧ t.gen g = s.gen g ∧ t.brk b = s.brk b) ∧
    (Clause.runValid t r → release = true → Clause.mayClose s b →
      evaluated .released ∧ t.gen g = { s.gen g with state := .closing } ∧
      t.brk b = Clause.issued (s.brk b) (Clause.closeOf g .sync) ∧
      Clause.ClosureRecords s t .generator 8 k 7 (some (unsignedOf 32 theta)))

/-- The abort of the sequencer's run at a closure: channel 0 is free, the biases that the run wrote are 0, and the step waits
for its retry with its close as it stands (R130, R161 to R163). -/
def Clause.SequencersRunAborts : Prop :=
  ∀ (s t : State) (pin : Bool) (r : SyncRun) (x : PlanRun), s.Quiet → s.closureDue = true →
    exec (.instantClosure pin) s = .next t → (∀ g < 8, (s.gen g).state = .absent) → s.channel 0 = some r →
    r.client = .sequencer → r.phase = .running → (∀ j < 4, j ≠ 0 → s.channel j = none) → s.par.token = none →
    s.par.tokenList = [] → s.seq.state = .running x → x.wait = .sync → ¬ Clause.runValid t r →
    t.channel 0 = none ∧ t.seq.state = .running { x with wait := .retry 0 } ∧
      (∀ g < 8, t.gen g = { s.gen g with
        speedBias := if g ∈ r.wrote then 0 else (s.gen g).speedBias
        voltageBias := if g ∈ r.wrote then 0 else (s.gen g).voltageBias }) ∧
      (∀ b < 24, (t.brk b).slot = (s.brk b).slot) ∧ Clause.ClosureRecords s t .generator 9 0 8 none

/-- The record of a breaker whose command ends FAILED (R108, R109). -/
def Clause.failed (r : BreakerRec) : BreakerRec :=
  { r with
    slot := none
    lastOutcome := some .failed
    outcomes := r.outcomes.modify 4 step32 }

/-- The outcome of a SYNC close, here FAILED, ends the run whose close it is: its channel is free and the biases that it wrote
are 0; the generator is READY with a close failure more and its retry timer at the correction interval (R108, R162 to
R164). -/
def Clause.OutcomeEndsTheRun : Prop :=
  ∀ (s : State) (g k : Nat) (r : SyncRun) (c : Command), s.Quiet → g < 8 → s.fld .generator g 1 = 1 →
    (s.gen g).state = .closing → (s.gen g).deferred = false → s.par.token ≠ some (.generator g) → s.par.waitList = [] →
    let b := s.fld .generator g 3
    b < 24 → s.fld .breaker b 21 ≠ 1 → k ∈ [1, 2, 3] → s.channel k = some r → r.client = .generator g → r.breaker = b →
    (∀ j < 4, j ≠ k → ∀ x, s.channel j = some x → x.client ≠ .generator g) → (s.brk b).slot = some c →
    c.action = .closing → c.closeKind = .sync → c.phase = .accepted → c.requester = .party (.generator g) →
    c.origins = { paralleling := true } → c.generator = some g → s.fld .breaker b 11 ≤ c.timer →
    (s.gen g).closeFailures < 2 → ∃ t, exec (.limitTimeout b) s = .next t ∧
      t.channel k = none ∧ (∀ j, j ≠ k → t.channel j = s.channel j) ∧
      t.gen g = { s.gen g with
        state := .ready
        closeFailures := (s.gen g).closeFailures + 1
        retryTimer := s.fld .sync g 11
        retryDue := false
        speedBias := if g ∈ r.wrote then 0 else (s.gen g).speedBias
        voltageBias := if g ∈ r.wrote then 0 else (s.gen g).voltageBias
        refreshTimer := (t.gen g).refreshTimer } ∧
      t.brk b = Clause.failed (s.brk b) ∧ (∀ a, a ≠ b → t.brk a = s.brk a) ∧
      Only [.links, .events, .breakers, .par] s t

/-- The outcome of a SYNC close that an ended plan of the sequencer has left behind finds no step waiting for it, and ends no
run: that of another breaker's close goes on (R128, R163). -/
def Clause.OutcomeLeavesOtherRuns : Prop :=
  ∀ (s : State) (b : Nat) (c : Command), s.Quiet → b < 24 → s.fld .breaker b 21 ≠ 1 → (s.brk b).slot = some c →
    c.action = .closing → c.closeKind = .sync → c.phase = .accepted → c.requester = .party .sequencer →
    c.origins = { changeover := true } → s.fld .breaker b 11 ≤ c.timer →
    (∀ k < 4, ∀ r, s.channel k = some r → r.client = .sequencer → r.breaker ≠ b) →
    (∀ x, s.seq.state = .running x → s.stepField x.plan x.step 1 ≠ b) →
    ∃ t, exec (.limitTimeout b) s = .next t ∧ t.brk b = Clause.failed (s.brk b) ∧ (∀ a, a ≠ b → t.brk a = s.brk a) ∧
      Records s t .breaker 11 b 6 (some 4) ∧ Only [.links, .events, .breakers] s t

/-- The dead check (R159), the token that it frees (R158), the sync runs at a closure and what ends them (R161 to R164). The
mark that an expiry of the retry timer is due is the model's own (log entry 21), and so is the order of the unit's work in a
closure (log entry 5). -/
def Obligations.DeadCheckTimesOut : Prop :=
  Clause.DeadCheckRunsOut ∧ Clause.FreedTokenIsGranted ∧ Clause.DeadCheckAtAClosure ∧
    Clause.RunEvaluatesAtAClosure ∧ Clause.SequencersRunAborts ∧ Clause.OutcomeEndsTheRun ∧
    Clause.OutcomeLeavesOtherRuns

/-- At a correction interval of a run that is not READY the biases of its generator are written from the slip and the
magnitudes, each limited, and those of a generator without BIAS_CONTROL are 0; a run of the sequencer reaches every ONLINE
generator. Biases that are written so are those of this run alone: the run of another channel that wrote them before does
not clear them as it ends. A run that is READY gives no correction (R162). -/
def Obligations.SyncCorrectionWritesTheBiases : Prop :=
  ∀ (s : State) (c : Nat) (r : SyncRun), s.Quiet → c < 4 → s.channel c = some r → r.phase = .running →
    (r.timer < s.fld .sync r.entry 11 → exec (.syncCorrection c) s = .next s) ∧
    (s.fld .sync r.entry 11 ≤ r.timer → r.ready = true →
      exec (.syncCorrection c) s = .next (s.setChannel c (some { r with timer := 0 }))) ∧
    (∀ g < 8, s.fld .sync r.entry 11 ≤ r.timer → r.ready = false → r.client = .generator g →
      ∃ t, exec (.syncCorrection c) s = .next t ∧ t.gen g = Clause.corrected s r g ∧
        (∀ j, j ≠ g → t.gen j = s.gen j) ∧
        t.channel c = some { r with
          timer := 0
          wrote := if g ∈ r.wrote ∨ (s.gen g).common.biasControl = false then r.wrote else r.wrote ++ [g] } ∧
        (∀ k, k ≠ c → t.channel k = Clause.disowned s [g] (s.channel k)) ∧ Only [.links, .par] s t) ∧
    (s.fld .sync r.entry 11 ≤ r.timer → r.ready = false → r.client = .sequencer →
      ∃ t, exec (.syncCorrection c) s = .next t ∧
        (∀ g < 8, t.gen g = if (s.gen g).state = .online then Clause.corrected s r g else s.gen g) ∧
        t.channel c = some { r with timer := 0, wrote := Clause.wroteOnline s r.wrote } ∧
        (∀ k, k ≠ c → t.channel k = Clause.disowned s (Clause.online s) (s.channel k)) ∧ Only [.links, .par] s t)

/-- At a load-sharing interval each ONLINE generator takes its share of the whole load by its rating, limited to its least
load and its rating; one that soft loads takes no more than its ramp allows, and one without LOAD_CONTROL is base loaded. Soft
loading ends where the ramp has reached the share, whatever the common set, and of the rest of the record the refresh timer
alone may change (R165). -/
def Clause.OnlineGeneratorsShare : Prop :=
  ∀ s : State, s.Quiet → (∀ g < 8, (s.gen g).state ≠ .unloading) →
    let online := (List.range 8).filter (fun g => (s.gen g).state == .online)
    let load : Int := (online.map (fun g => (s.gen g).status.kw)).sum
    let ratings : Nat := (online.map (fun g => (s.gen g).params.rating)).sum
    let share := fun g => max (s.gen g).params.minLoad (min (s.gen g).params.rating
      (load * (s.gen g).params.rating / ratings).toNat)
    let ramped := fun g => (s.gen g).params.ramp * ((s.gen g).onlineTimer / s.perSecond)
    (s.par.shareTimer < s.fld .sync 8 11 → exec .loadSharing s = .next s) ∧
    (s.fld .sync 8 11 ≤ s.par.shareTimer → ratings ≠ 0 → ∃ t, exec .loadSharing s = .next t ∧
      (∀ g < 8, (s.gen g).state = .online → t.gen g = { s.gen g with
        target :=
          if (s.gen g).common.loadControl = false then 0
          else if (s.gen g).common.softLoad = true ∧ (s.gen g).soft = true then min (share g) (ramped g)
          else share g
        baseLoaded := !(s.gen g).common.loadControl
        soft := (s.gen g).soft && decide (ramped g < share g)
        refreshTimer := (t.gen g).refreshTimer }) ∧
      (∀ g < 8, (s.gen g).state ≠ .online → t.gen g = s.gen g) ∧ t.par.shareTimer = 0 ∧
      Only [.links, .par] s t)

/-- At a load-sharing interval an UNLOADING generator with LOAD_CONTROL and SOFT_LOAD lowers its target from T0 by its ramp, to
its minimum load at the least; the first interval that brings it there asks for its breaker to OPEN, and with the breaker
OPEN already it is STOPPING. One that cannot ramp stays as it is (R166). -/
def Clause.UnloadingGeneratorSheds : Prop :=
  ∀ (s : State) (g : Nat), s.Quiet → g < 8 → s.fld .sync 8 11 ≤ s.par.shareTimer →
    (∀ j < 8, j ≠ g → (s.gen j).state ∉ [.online, .unloading]) → (s.gen g).state = .unloading →
    (s.gen g).deferred = false → s.run? = none →
    let r := s.gen g
    let b := s.fld .generator g 3
    let target := max r.params.minLoad (r.unloadFrom - r.params.ramp * (r.unloadTimer / s.perSecond))
    let ramps := r.common.loadControl = true ∧ r.common.softLoad = true
    let asks := target = r.params.minLoad ∧ r.unloadAsked = false
    let moves := fun (y : GenRec) (f : BreakerRec → BreakerRec) => ∃ t, exec .loadSharing s = .next t ∧
      t.gen g = { y with refreshTimer := (t.gen g).refreshTimer } ∧ (∀ j, j ≠ g → t.gen j = s.gen j) ∧
      t.brk b = f (s.brk b) ∧ (∀ a, a ≠ b → t.brk a = s.brk a) ∧ t.par.shareTimer = 0 ∧
      Only [.links, .events, .breakers, .par] s t
    (¬ ramps → moves r id) ∧
    (ramps → ¬ asks → moves { r with target := target } id) ∧
    (ramps → asks → b < 24 → s.fld .breaker b 1 = 1 → s.fld .breaker b 21 ≠ 1 → (s.brk b).slot = none →
      (s.brk b).position ≠ .opened → moves { r with target := target, unloadAsked := true } (fun x =>
        Clause.issued x { action := .opening, origins := { paralleling := true }, generator := some g })) ∧
    (ramps → asks → b < 24 → s.fld .breaker b 1 = 1 → (s.brk b).slot = none → (s.brk b).position = .opened →
      moves { r with target := target, unloadAsked := true, state := .stopping } id)

/-- The load is shared (R165) and shed (R166). That the OPEN of an unload is asked for once, under a mark of its own, is the
model's choice (log entry 21). -/
def Obligations.LoadIsShared : Prop := Clause.OnlineGeneratorsShare ∧ Clause.UnloadingGeneratorSheds

/-! ### The management unit -/

/-- While a RESTART is in flight every request but READ-STATE, READ-LATCHES and READ-EVENTS is answered BUSY and does
nothing else (R188). -/
def Obligations.RequestDuringRestartIsBusy : Prop :=
  ∀ (s : State) (l : Link) (q : Request) (c : Instr) (kind : Nat), s.Quiet → (s.port l).up = true →
    s.verdict .mgmtReq q.header = .taken → (s.links.a.up = true → s.links.a.bulkRoom = true) →
    (s.links.b.up = true → s.links.b.bulkRoom = true) → s.mgmt.restart ≠ none →
    (c, kind) ∈ [(Instr.readTable l q, 1), (.writeSegment l q, 2), (.commit l q, 3), (.discard l q, 4),
      (.breakerOpen l q, 7), (.breakerClose l q, 7), (.runPlan l q, 7), (.setAuto l q, 7), (.startGens l q, 7),
      (.stopGens l q, 7), (.acknowledgeHalt l q, 7), (.clearStationTrip l q, 7), (.clearGenFault l q, 7),
      (.renegotiate l q, 7), (.setPoint l q, 7), (.releaseCapture l q, 7), (.operateKindNotListed l q, 7),
      (.readCapture l q, 9), (.store l q, 10), (.restart l q, 11)] →
    ∃ t, exec c s = .next t ∧ Replies s t q kind .busy 0 0 [] ∧ t.mgmt = s.answered .busy ∧
      Only [.links, .mgmt] s t

/-- READ-TABLE of the active table returns as many whole entries from the first index on as fit in the response, with the
index after the last and the number left; a table number of 13 or more is UNKNOWN_TABLE (R177, R179). -/
def Clause.ReadTableReturnsWholeEntries : Prop :=
  ∀ (s : State) (l : Link) (q : Request), s.Asked l q →
    (∀ table, TableId.ofNumber q.target = some table → q.argB = 0 →
      let rest := (Table.indexed (s.table table)).filter (fun e => q.argA ≤ e.1)
      ∃ k ≤ rest.length, (fieldListBytes (rest.take k)).length ≤ 1470 ∧
        (k < rest.length → 1470 < (fieldListBytes (rest.take (k + 1))).length) ∧
        ∀ e, (rest.take k).getLast? = some e → ∃ t, exec (.readTable l q) s = .next t ∧
          Replies s t q 1 .done (e.1 + 1) (rest.length - k) (fieldListBytes (rest.take k)) ∧
          t.mgmt = s.answered .done ∧ Only [.links, .mgmt] s t) ∧
    (13 ≤ q.target → ∃ t, exec (.readTable l q) s = .next t ∧ Replies s t q 1 .unknownTable 0 0 [] ∧
      t.mgmt = s.answered .unknownTable ∧ Only [.links, .mgmt] s t)

/-- READ-STATE of the event queue's area gives its count, its unsent count, its oldest and its next number and the
overwritten count; an area of 12 or more is INVALID (R177, R179). That the level of the LOCKOUT pin comes as an operand of
the request, and is kept whatever area is read, is the model's choice (log entry 12). -/
def Clause.ReadStateReturnsAnArea : Prop :=
  ∀ (s : State) (l : Link) (q : Request) (pin : Bool), s.Served l q →
    (q.target = 10 → q.argA = 0 → ∃ t, exec (.readState l q pin) s = .next t ∧
      Replies s t q 5 .done 1 0 (entryBytes 0 [(1, s.events.records.length),
        (2, (s.events.records.filter (fun r => !r.sent)).length),
        (3, match s.events.records with | [] => 0xFFFFFFFF | r :: _ => r.seq), (4, s.events.nextSeq),
        (5, s.events.overwritten % 2 ^ 32), (6, s.events.overwritten / 2 ^ 32)]) ∧
      t.lines.lockoutPin = pin ∧ t.lines.lockout = s.lines.lockout ∧ t.mgmt = s.answered .done ∧
      Only [.links, .lines, .mgmt] s t) ∧
    (12 ≤ q.target → ∃ t, exec (.readState l q pin) s = .next t ∧ Replies s t q 5 .invalid 0xFFFFFFFF 1 [] ∧
      t.lines.lockoutPin = pin ∧ t.mgmt = s.answered .invalid ∧ Only [.links, .lines, .mgmt] s t)

/-- READ-TABLE and READ-STATE (R177, R179). The LOCKOUT pin as READ_STATE's operand is the model's choice (log entry 12). -/
def Obligations.TablesAndStateAreRead : Prop := Clause.ReadTableReturnsWholeEntries ∧ Clause.ReadStateReturnsAnArea

/-- READ-EVENTS returns the held records of a range of sequence numbers, with the oldest held number, the count held and
the overwritten count (R172). A count outside 1 to 77 is INVALID and names argument B (R177); that it does so where the first
number is wrong too, above 65535, is the order of tests of log entry 25, an inference. -/
def Obligations.ReadEventsReturnsTheRange : Prop :=
  ∀ (s : State) (l : Link) (q : Request), s.Served l q →
    (1 ≤ q.argB → q.argB ≤ 77 → q.argA ≤ 65535 → ∃ t, exec (.readEvents l q) s = .next t ∧
      Replies s t q 8 .done
        (match s.events.records with
          | [] => 0
          | r :: _ => r.seq + 65536 * s.events.records.length)
        (s.events.overwritten % 2 ^ 32)
        ((s.events.records.filter (fun r => (r.seq + (65536 - q.argA)) % 65536 < q.argB)).flatMap
          EventRecord.bytes) ∧
      t.mgmt = s.answered .done ∧ Only [.links, .mgmt] s t) ∧
    (q.argB = 0 ∨ 77 < q.argB → ∃ t, exec (.readEvents l q) s = .next t ∧
      Replies s t q 8 .invalid 0xFFFFFFFF 3 [] ∧ t.mgmt = s.answered .invalid ∧ Only [.links, .mgmt] s t)

/-- READ-CAPTURE returns records from an index on, as many as are asked for and fit, and is NOT_PERMITTED while the buffer
is EMPTY (R176). -/
def Clause.ReadCaptureReturnsRecords : Prop :=
  ∀ (s : State) (l : Link) (q : Request), s.Asked l q → 1 ≤ q.argB → q.argB ≤ 32 →
    (s.capture.state = .empty → ∃ t, exec (.readCapture l q) s = .next t ∧
      Replies s t q 9 .notPermitted 0 0 [] ∧ t.mgmt = s.answered .notPermitted ∧ Only [.links, .mgmt] s t) ∧
    (∀ (r : InstantRecord) (rest : List InstantRecord), s.capture.state ≠ .empty →
      s.capture.buffer.drop q.argA = r :: rest →
      let rs := (r :: rest).take (min q.argB (1470 / (6 + 18 * r.streams.length)))
      ∃ t, exec (.readCapture l q) s = .next t ∧
        Replies s t q 9 .done (q.argA + rs.length) (s.capture.buffer.length - (q.argA + rs.length))
          (rs.flatMap InstantRecord.bytes) ∧
        t.mgmt = s.answered .done ∧ Only [.links, .mgmt] s t)

/-- READ-LATCHES returns the latched bits, each at its place, and re-arms each to its present condition, in every state
of the part (R184). -/
def Obligations.ReadLatchesRearms : Prop :=
  ∀ (s : State) (l : Link) (q : Request), s.Served l q →
    let low := bitVal (s.port .a).latch 0 + bitVal (s.port .b).latch 1 + bitVal s.aligner.timeLatch 2 +
      bitVal s.events.overwriteLatch 3
    let stale := ((List.range 16).map (fun k => bitVal (s.stream k).staleSeen (16 + k))).sum
    let failures := ((List.range 24).map (fun b => bitVal (s.brk b).bfOccurred b)).sum
    ∃ t, exec (.readLatches l q) s = .next t ∧
    Replies s t q 6 .done (low + stale) failures [] ∧ (∀ k, (t.port k).latch = (t.port k).up) ∧
    t.aligner = { s.aligner with timeLatch := decide (s.aligner.time = .tracking) } ∧
    (∀ k < 16, t.stream k = { s.stream k with staleSeen := decide ((s.stream k).state = .stale) }) ∧
    (∀ b < 24, t.brk b = { s.brk b with bfOccurred := decide ((s.brk b).bf = .backupIssued) }) ∧
    t.events = { s.events with
      overwriteLatch := s.events.records.length == 128 && s.events.records.head?.any (fun r => !r.sent) } ∧
    t.mgmt = s.answered .done ∧
    Only [.links, .aligner, .intake, .breakers, .events, .mgmt] s t

/-- DISCARD empties the staging area and gives the count of entries that were staged. One that is COMMITTING stays, with
BUSY (R181). -/
def Obligations.DiscardEmptiesTheStaging : Prop :=
  ∀ (s : State) (l : Link) (q : Request) (table : TableId), s.Asked l q → TableId.ofNumber q.target = some table →
    let area := s.stagingOf table
    ((∀ w, area.state ≠ .committing w) → ∃ t, exec (.discard l q) s = .next t ∧
      Replies s t q 4 .done area.entries.length 0 [] ∧
      t.mgmt = { s.answered .done with staging := s.mgmt.staging.set table.number {} } ∧ Only [.links, .mgmt] s t) ∧
    (∀ w, area.state = .committing w → ∃ t, exec (.discard l q) s = .next t ∧ Replies s t q 4 .busy 0 0 [] ∧
      t.mgmt = s.answered .busy ∧ Only [.links, .mgmt] s t)

/-- WRITE-SEGMENT with the expected number and a well-formed segment adds its entries to the staging area, which is then
FILLING or, at the last segment, COMPLETE; an unexpected number empties it with SEQUENCE (R180). That a segment number above
65535 is held against the expected number alone, so that 65536 is taken where it is expected and any other answered
SEQUENCE, is the model's choice (log entry 25). -/
def Obligations.SegmentsFillTheStaging : Prop :=
  ∀ (s : State) (l : Link) (q : Request) (table : TableId), s.Asked l q → TableId.ofNumber q.target = some table →
    (s.stagingOf table).state.isCommitting = false →
    let area := s.stagingOf table
    (∀ es, area.state.expected = some q.argA → q.argB ≤ 1 → readSegment table area.entries q.data = .ok es →
      ∃ t, exec (.writeSegment l q) s = .next t ∧ Replies s t q 2 .done es.length 0 [] ∧
        t.mgmt = { s.answered .done with
          staging := s.mgmt.staging.set table.number
            ⟨if q.argB = 1 then .complete else .filling (q.argA + 1), es⟩ } ∧
        Only [.links, .mgmt] s t) ∧
    (area.state.expected ≠ some q.argA → ∃ t, exec (.writeSegment l q) s = .next t ∧
      Replies s t q 2 .sequence 0 0 [] ∧
      t.mgmt = { s.answered .sequence with staging := s.mgmt.staging.set table.number {} } ∧
      Only [.links, .mgmt] s t)

/-- The content that a COMMIT of a table would make active: its staged entries as written, with defaults (R182). -/
def Clause.newTable (s : State) (table : TableId) : Table := (candidate table (s.stagingOf table).entries).table

/-- The CRC of the staged content, over its canonical encoding (R182). -/
def Clause.stagedCrc (s : State) (table : TableId) : Nat := crc32 (canonicalBytes (s.stagingOf table).entries)

/-- The entries in which the new content differs from the active one (R183). -/
def Clause.changed (s : State) (table : TableId) : List Nat := changedEntries (s.table table) (Clause.newTable s table)

/-- The first field, in canonical order, that fails its table's checks (R182). -/
def Clause.failing (s : State) (table : TableId) : Option (Nat × Nat) :=
  firstFailure table (candidate table (s.stagingOf table).entries) ((s.stagingOf table).entries.map (·.1))

/-- f_nom of the new content differs from the active one (R182, test 7). -/
def Clause.nominalMoves (s : State) (table : TableId) : Prop :=
  table = .station ∧ s.mgmt.configured = true ∧ Entry.get ((Clause.newTable s table).getD 0 []) 7 ≠ s.station 7

/-- The states in which the tables of the sequencer may be activated (R142). -/
def Clause.atRest (s : State) : Prop :=
  s.seq.state = .init ∨ s.seq.state = .noLineup ∨ (∃ k, s.seq.state = .idle k) ∨ ∃ y, s.seq.state = .halted y

/-- The activation condition of each table, for its changed entries (R183). -/
def Clause.activatable (s : State) (table : TableId) : Prop :=
  let changed := Clause.changed s table
  match table with
  | .interlock => ∀ b < 24, s.fld .breaker b 6 ∈ changed → (s.brk b).slot = none
  | .breaker => ∀ b ∈ changed, (s.brk b).slot = none
  | .source | .lineup | .plan | .autorule => changed = [] ∨ Clause.atRest s
  | .generator => ∀ g ∈ changed, (s.gen g).state ∈ [GenState.absent, .standby, .fault]
  | .sync => ∀ e ∈ changed,
    if e = 8 then s.channel 0 = none else (s.gen e).state ∈ [GenState.absent, .standby, .fault]
  | .capture => changed = [] ∨ s.capture.state = .empty
  | .station | .stream | .element | .curve => True

/-- A COMMIT that passes the tests 1 to 7 of R182. -/
def Clause.CommitPasses (s : State) (l : Link) (q : Request) (table : TableId) : Prop :=
  s.Asked l q ∧ TableId.ofNumber q.target = some table ∧ s.mgmt.store = none ∧
    (s.stagingOf table).state = .complete ∧ Clause.stagedCrc s table = q.argA ∧ Clause.failing s table = none ∧
    ¬ Clause.nominalMoves s table

/-- The tests of COMMIT in their order: BUSY while a STORE is in flight or the area is COMMITTING, which stands; SEQUENCE for an
area that is not COMPLETE, INVALID with the CRC computed for another CRC, INVALID with entry and field for the first field
that fails, with TABLE_REFUSED recorded, and NOT_PERMITTED for a change of f_nom while CONFIGURED, all of which leave the area
EMPTY; and BUSY while the activation condition does not hold, which leaves it COMPLETE (R182, R183). -/
def Clause.CommitIsRefused : Prop :=
  ∀ (s : State) (l : Link) (q : Request) (table : TableId), s.Asked l q → TableId.ofNumber q.target = some table →
    let area := s.stagingOf table
    let emptied := fun (st : Status) (a b : Nat) (t : State) => Replies s t q 3 st a b [] ∧
      t.mgmt = { s.answered st with staging := s.mgmt.staging.set table.number {} }
    let busy := ∃ t, exec (.commit l q) s = .next t ∧ Replies s t q 3 .busy 0 0 [] ∧ t.mgmt = s.answered .busy ∧
      Only [.links, .mgmt] s t
    let asked := s.mgmt.store = none ∧ area.state.isCommitting = false
    let matched := asked ∧ area.state = .complete ∧ Clause.stagedCrc s table = q.argA
    (s.mgmt.store ≠ none ∨ area.state.isCommitting = true → busy) ∧
    (asked → area.state ≠ .complete → ∃ t, exec (.commit l q) s = .next t ∧ emptied .sequence 0 0 t ∧
      Only [.links, .mgmt] s t) ∧
    (asked → area.state = .complete → Clause.stagedCrc s table ≠ q.argA → ∃ t, exec (.commit l q) s = .next t ∧
      emptied .invalid 0xFFFFFFFE (Clause.stagedCrc s table) t ∧
      t.newest.map (fun r => (r.cls, r.priority, r.object, r.code)) = some (.management, 7, table.number, 7) ∧
      Only [.links, .events, .mgmt, .free] s t) ∧
    (∀ e id, matched → Clause.failing s table = some (e, id) → ∃ t, exec (.commit l q) s = .next t ∧
      emptied .invalid e id t ∧ Records s t .management 7 table.number 7 (some (e + 65536 * id)) ∧
      Only [.links, .events, .mgmt] s t) ∧
    (matched → Clause.failing s table = none → Clause.nominalMoves s table →
      ∃ t, exec (.commit l q) s = .next t ∧ emptied .notPermitted 0 7 t ∧ Only [.links, .mgmt] s t) ∧
    (Clause.CommitPasses s l q table → ¬ Clause.activatable s table → busy)

/-- A COMMIT is answered DONE: its content is active, where it differs at all, its area is EMPTY, and TABLE_COMMITTED is the
newest record (R183). -/
def Clause.Committed (s t : State) (q : Request) (table : TableId) : Prop :=
  (∀ l : Link, (s.port l).up = true → BulkPlace.frame ⟨t.ownAddress, q.src, s.links.responseSeq,
    .response q.number 3 0 q.target 0 0 [], false, false⟩ ∈ (t.port l).bulk) ∧
  t.mgmt = { s.answered .done with
    tables := if Clause.changed s table = [] then s.mgmt.tables
      else s.mgmt.tables.set table.number (Clause.newTable s table)
    staging := s.mgmt.staging.set table.number {} } ∧
  t.newest.map (fun r => (r.cls, r.priority, r.object, r.code, r.value)) =
    some (.management, 6, table.number, 6, some (Clause.stagedCrc s table))

/-- The duplicate windows from `s`, in which the request has been noted, to `t`: one for each station that the active tables
name, and 4094 while CONFIGURED is 0; one that stays keeps its pairs (R7). -/
def Clause.WindowsFollow (s t : State) (q : Request) : Prop :=
  (∀ a, (∃ x ∈ t.links.windows, x.address = a) ↔ a ≠ 0 ∧ ((∃ b < 24, t.fld .breaker b 2 = a) ∨
    (∃ g < 8, t.fld .generator g 2 = a) ∨ a ∈ [t.station 4, t.station 5, t.station 6] ∨
    (a = 4094 ∧ t.mgmt.configured = false))) ∧
  ∀ x ∈ t.links.windows, ∀ y,
    (s.noteTaken .mgmtReq q.header).links.windows.find? (fun y => y.address == x.address) = some y → x.pairs = y.pairs

/-- An ELEMENT or CURVE content waits for the next closure, unanswered, its area COMMITTING (R183). -/
def Clause.CommitWaits : Prop :=
  ∀ (s : State) (l : Link) (q : Request) (table : TableId), Clause.CommitPasses s l q table →
    (table = .element ∨ table = .curve) → ∃ t, exec (.commit l q) s = .next t ∧
    t.mgmt = { s.answered .done with
      staging := s.mgmt.staging.set table.number
        ⟨.committing ⟨⟨s.mgmt.nextTicket, q.src, q.number, 3, q.target⟩, Clause.stagedCrc s table,
          Clause.newTable s table⟩, (s.stagingOf table).entries⟩ } ∧
    Only [.links, .mgmt] s t

/-- A content without a changed entry is activated with no effect, and one of INTERLOCK or SYNC, whose condition holds, with
none beside itself; one of CAPTURE empties the ring (R173, R183). -/
def Clause.CommitActivatesPlainTables : Prop :=
  ∀ (s : State) (l : Link) (q : Request) (table : TableId), Clause.CommitPasses s l q table →
    let commits := fun (ps : List StatePart) (more : State → Prop) => ∃ t, exec (.commit l q) s = .next t ∧
      Clause.Committed s t q table ∧ more t ∧ Only ps s t
    (Clause.changed s table = [] → table ≠ .element → table ≠ .curve → commits [.links, .events, .mgmt] (fun t =>
      t.links.windows = (s.noteTaken .mgmtReq q.header).links.windows)) ∧
    (table = .interlock ∨ table = .sync → Clause.activatable s table →
      commits [.links, .events, .mgmt] (fun t => t.events.nextSeq = step16 s.events.nextSeq)) ∧
    (table = .capture → Clause.changed s table ≠ [] → s.capture.state = .empty →
      commits [.links, .events, .capture, .mgmt] (fun t => t.capture = { s.capture with ring := [] }))

/-- STATION: the windows are rebuilt; under the station trip latch a breaker that joins the station trip set is asked for
STATION_TRIP and one that leaves it is asked to drop it; and at a change of the auto-enable flag AUTO_TRANSFER_EFFECTIVE
follows it and point LOCKOUT (R7, R83, R92, R138). STREAM: each changed stream starts anew, ACQUIRING or DISABLED, with
nothing valid, and the others stand (R22, R39, R49). -/
def Clause.CommitActivatesStationAndStreams : Prop :=
  ∀ (s : State) (l : Link) (q : Request) (table : TableId), Clause.CommitPasses s l q table →
    Clause.changed s table ≠ [] →
    let asked := fun (add : Bool) (x y : State) => ((List.range 24).filter (fun b =>
      x.station 9 / 2 ^ b % 2 == 1 && y.station 9 / 2 ^ b % 2 != 1)).map (fun b =>
        (⟨add, b, .stationTrip⟩ : DemandRequest))
    (table = .station → (∀ k, s.seq.state ≠ .idle k) → ∃ t, exec (.commit l q) s = .next t ∧
      Clause.Committed s t q table ∧ Clause.WindowsFollow s t q ∧
      t.breakers = { s.breakers with
        requests := s.breakers.requests ++ if s.lines.tripLatch then asked true t s ++ asked false s t else [] } ∧
      t.seq = { s.seq with
        autoEffective := if t.station 10 = s.station 10 then s.seq.autoEffective
          else decide (t.station 10 = 1) && !s.lines.lockout } ∧
      Only [.links, .events, .breakers, .seq, .mgmt] s t) ∧
    (table = .stream → ∃ t, exec (.commit l q) s = .next t ∧ Clause.Committed s t q table ∧
      (∀ k ∈ Clause.changed s table,
        (t.stream k).state = (if t.fld .stream k 1 = 1 then StreamState.acquiring else .disabled) ∧
        (t.stream k).buffer = [] ∧ (t.stream k).valid = false ∧ (t.measure k).tracker.valid = false ∧
        (t.measure k).windows = List.replicate 8 emptyWindow) ∧
      (∀ k < 16, k ∉ Clause.changed s table → t.stream k = s.stream k ∧ t.measure k = s.measure k) ∧
      Only [.links, .events, .intake, .measures, .mgmt] s t)

/-- What a BREAKER activation makes of a breaker's record, from the old entry to the new one (R117). -/
def Clause.activated (s t : State) (b : Nat) : BreakerRec :=
  let r := s.brk b
  let was := fun id => s.fld .breaker b id
  let is := fun id => t.fld .breaker b id
  if was 1 = 1 ∧ is 1 ≠ 1 then
    { r with
      position := .unknown
      candidate := none
      fieldPosition := .unknown
      fieldCandidate := none
      trips := r.trips.filter (· != .parallelLimit)
      bf := .idle
      bfTimer := if r.bf = .idle then r.bfTimer else 0
      bfOrigins := if r.bf = .idle then r.bfOrigins else {} }
  else if was 1 ≠ 1 ∧ is 1 = 1 then { trips := r.trips, bfOccurred := r.bfOccurred }
  else if is 1 = 1 then
    let moved := was 2 ≠ is 2 ∨ was 3 ≠ is 3
    let isolates := was 21 = 0 ∧ is 21 = 1
    let returns := was 21 = 1 ∧ is 21 = 0
    { r with
      position := if moved ∨ returns then .unknown else r.position
      candidate := if moved ∨ returns then none else r.candidate
      unresponsive := if moved then false else r.unresponsive
      fieldPosition := if isolates then .unknown else r.fieldPosition
      fieldCandidate := if isolates then none else r.fieldCandidate }
  else r

/-- BREAKER: each changed entry's breaker takes what R117 gives it, with BF_RESET where BF ends, and its BACKUP demands are
asked to be dropped (R115); the others stand, and the windows are rebuilt (R7). A watched position that is lost makes a
line-up change due (R124). -/
def Clause.CommitActivatesBreakers : Prop :=
  ∀ (s : State) (l : Link) (q : Request), Clause.CommitPasses s l q .breaker → Clause.activatable s .breaker →
    Clause.changed s .breaker ≠ [] → s.run? = none →
    (∀ g < 8, (s.gen g).state ≠ .online ∧ (s.gen g).state ≠ .unloading) →
    ∃ t, exec (.commit l q) s = .next t ∧ Clause.Committed s t q .breaker ∧ Clause.WindowsFollow s t q ∧
      (∀ b ∈ Clause.changed s .breaker, t.brk b = Clause.activated s t b) ∧
      (∀ b < 24, b ∉ Clause.changed s .breaker → t.brk b = s.brk b) ∧
      (∀ b ∈ Clause.changed s .breaker, (s.brk b).bf ≠ .idle → s.fld .breaker b 1 = 1 → t.fld .breaker b 1 ≠ 1 →
        ∃ e ∈ t.events.records, (e.cls, e.priority, e.object, e.code) = (EventClass.breaker, 9, b, 9)) ∧
      (∀ b ∈ Clause.changed s .breaker, (s.brk b).bf = .backupIssued → s.fld .breaker b 1 = 1 →
        t.fld .breaker b 1 ≠ 1 → ∀ a < 24, .backup b ∈ (t.brk a).trips → ⟨false, a, .backup b⟩ ∈ t.breakers.requests) ∧
      ((∀ b ∈ Clause.changed s .breaker, (s.brk b).bf ≠ .backupIssued) → t.breakers.requests = s.breakers.requests) ∧
      t.seq = { s.seq with lineupDue := s.seq.lineupDue || (List.range 24).any (fun b =>
        decide (b ∈ watchedBreakers s.mgmt.tables) && (t.brk b).position != (s.brk b).position) } ∧
      Only [.links, .events, .breakers, .seq, .mgmt] s t

/-- GENERATOR: each changed entry's generator is ABSENT with the values of power-on and the parameters of its new entry, and
the others stand; the windows are rebuilt, the demand count stands, and with a generator that was not ABSENT an evaluation
is due (R7, R148, R155). -/
def Clause.CommitActivatesGenerators : Prop :=
  ∀ (s : State) (l : Link) (q : Request), Clause.CommitPasses s l q .generator → Clause.activatable s .generator →
    Clause.changed s .generator ≠ [] →
    let changed := Clause.changed s .generator
    ∃ t, exec (.commit l q) s = .next t ∧ Clause.Committed s t q .generator ∧ Clause.WindowsFollow s t q ∧
      (∀ g ∈ changed, t.gen g = { params :=
        ⟨t.fld .generator g 6, t.fld .generator g 7, t.fld .generator g 8, t.fld .generator g 9⟩ }) ∧
      (∀ g < 8, g ∉ changed → t.gen g = s.gen g) ∧
      t.par = { s.par with
        gens := t.par.gens
        waitList := s.par.waitList.filter (fun g => !(decide (g ∈ changed) && (s.gen g).state != .absent))
        demandDue := s.par.demandDue || changed.any (fun g => (s.gen g).state != .absent) } ∧
      Only [.links, .events, .par, .mgmt] s t

/-- SOURCE: each changed source is UNVERIFIED without a previous state, its delay count 0 and its points 0. PLAN and AUTORULE:
the pending slot is emptied. LINEUP: the line-up is found anew by the new table, and the sequencer follows it unless it is
HALTED (R124, R125, R142). -/
def Clause.CommitActivatesTheSequencer : Prop :=
  ∀ (s : State) (l : Link) (q : Request) (table : TableId), Clause.CommitPasses s l q table →
    Clause.changed s table ≠ [] → Clause.atRest s →
    let commits := fun (y : State → Sequencer) => ∃ t, exec (.commit l q) s = .next t ∧
      Clause.Committed s t q table ∧ t.seq = y t ∧ Only [.links, .events, .seq, .mgmt] s t
    (table = .source → commits (fun t => { s.seq with sources := t.seq.sources }) ∧
      ∃ t, exec (.commit l q) s = .next t ∧
        ∀ x < 3, t.source x = if x ∈ Clause.changed s table then {} else s.source x) ∧
    (table = .plan ∨ table = .autorule → commits (fun _ => { s.seq with slot := none }) ∧
      ∃ t, exec (.commit l q) s = .next t ∧ ∀ a, s.seq.slot = some a → ∃ e ∈ t.events.records,
        (e.cls, e.priority, e.object, e.code) = (EventClass.transfer, 7, a.rule, 10)) ∧
    (table = .lineup → s.lines.lockout = false → s.seq.autoEffective = false → s.seq.slot = none →
      let ends := fun (t : State) (x : Lineup) (y : SeqState) => t.seq = { s.seq with
        lineup := x
        lineupDue := false
        state := match s.seq.state with
          | .halted z => .halted z
          | _ => y }
      ∃ t, exec (.commit l q) s = .next t ∧ Clause.Committed s t q table ∧
        (Clause.positionUnknown t → ends t .unknown .init) ∧
        (¬ Clause.positionUnknown t → ∀ k < 8, t.fld .lineup k 1 ≠ 0 → Clause.pairsMatch t k →
          (∀ j < k, ¬ (t.fld .lineup j 1 ≠ 0 ∧ Clause.pairsMatch t j)) → ends t (.is k) (.idle k)) ∧
        (¬ Clause.positionUnknown t → (∀ k < 8, ¬ (t.fld .lineup k 1 ≠ 0 ∧ Clause.pairsMatch t k)) →
          ends t .none .noLineup) ∧
        Only [.links, .events, .seq, .mgmt] s t)

/-- COMMIT: its tests (R182), and the activation of each table (R183). That TABLE_REFUSED names the table as its object is
the model's inference, and that TABLE_COMMITTED follows the records of the activation its choice (log entry 25); the value
of TABLE_REFUSED after a failed CRC test is a free value (log entry 8). That a breaker which becomes configured records no
TRIP_CIRCUIT_FAIL is the model's choice, and that the last GENSTATUS content of a generator is cleared with its record its
inference (log entry 18); the list of requests that wait and the marks of a change or an
evaluation due are its own (log entries 5 and 16). -/
def Obligations.CommitTestsAndActivates : Prop :=
  Clause.CommitIsRefused ∧ Clause.CommitWaits ∧ Clause.CommitActivatesPlainTables ∧
    Clause.CommitActivatesStationAndStreams ∧ Clause.CommitActivatesBreakers ∧ Clause.CommitActivatesGenerators ∧
    Clause.CommitActivatesTheSequencer

/-- An accepted STORE has the image invalid and HEALTHY off until it completes. With the CRC read back as computed the
image is valid, the STORE is counted and STORE_DONE recorded, and the first time the part becomes CONFIGURED and its
windows are those of the stations that the tables name, without the commissioning address; with another CRC the image
stays invalid and STORE_FAILED is recorded (R7, R94, R186). At its completion the STORE is answered, at the place reserved
for it on each link: DONE with the CRC as detail A, or INVALID with 0FFFFFFFDH (R17, R186). Without a STORE in flight there
is nothing to complete. That the stored content is the snapshot while the image is invalid is the model's inference (log
entry 17). -/
def Obligations.StoreWritesTheImage : Prop :=
  ∀ s : State,
    let answered := fun (w : StoreWait) (status detail : Nat) (t : State) => ∀ l : Link,
      .reserved w.ticket.number ∈ (s.port l).bulk → BulkPlace.frame ⟨s.ownAddress, w.ticket.source, s.links.responseSeq,
        .response w.ticket.request w.ticket.kind status w.ticket.target detail 0 [], false, false⟩ ∈ (t.port l).bulk
    (∀ (l : Link) (q : Request), s.Asked l q → s.mgmt.store = none → s.commitInFlight = false →
      (s.mgmt.configured = true ∨ s.station 4 ≠ 0 ∨ s.station 5 ≠ 0) → ∃ t, exec (.store l q) s = .next t ∧
      t.mgmt = { s.answered .done with
        store := some ⟨⟨s.mgmt.nextTicket, q.src, q.number, 10, q.target⟩, s.mgmt.tables, imageCrc s.mgmt.tables⟩
        image := { s.mgmt.image with valid := false, content := s.mgmt.tables } } ∧
      t.lines.healthy = false ∧ Only [.links, .mgmt] s t) ∧
    (∀ w, s.Quiet → s.mgmt.store = some w → s.mgmt.configured = true → ∃ t,
      exec (.storeComplete w.crc) s = .next t ∧
      t.mgmt = { s.mgmt with
        store := none
        storesCompleted := step32 s.mgmt.storesCompleted
        image := ⟨true, w.crc, w.snapshot⟩ } ∧
      answered w 0 w.crc t ∧
      Records s t .management 8 0 9 (some w.crc) ∧ Only [.links, .events, .mgmt] s t) ∧
    (∀ w, s.Quiet → s.mgmt.store = some w → s.mgmt.configured = false → ∃ t,
      exec (.storeComplete w.crc) s = .next t ∧
      t.mgmt = { s.mgmt with
        configured := true
        store := none
        storesCompleted := step32 s.mgmt.storesCompleted
        image := ⟨true, w.crc, w.snapshot⟩ } ∧
      t.point 229 = true ∧
      (∀ a, (∃ x ∈ t.links.windows, x.address = a) ↔ a ≠ 0 ∧ ((∃ b < 24, s.fld .breaker b 2 = a) ∨
        (∃ g < 8, s.fld .generator g 2 = a) ∨ a ∈ [s.station 4, s.station 5, s.station 6])) ∧
      (∀ x ∈ t.links.windows, ∀ y, s.links.windows.find? (fun y => y.address == x.address) = some y →
        x.pairs = y.pairs) ∧
      answered w 0 w.crc t ∧ Records s t .management 8 0 9 (some w.crc) ∧ Only [.links, .events, .mgmt] s t) ∧
    (∀ w readBack, s.Quiet → s.mgmt.store = some w → readBack ≠ w.crc → ∃ t,
      exec (.storeComplete readBack) s = .next t ∧
      t.mgmt = { s.mgmt with store := none, statusCounts := s.mgmt.statusCounts.modify 1 step32 } ∧
      answered w 2 0xFFFFFFFD t ∧ Records s t .management 12 0 10 none ∧ Only [.links, .events, .mgmt] s t) ∧
    (∀ readBack, s.Quiet → s.mgmt.store = none → exec (.storeComplete readBack) s = .next s)

/-- The tests of RESTART in their order: NOT_PERMITTED with detail 1 for a command in a slot, 2 for a BF that is not IDLE, 3
for a plan that runs, 4 for a generator SYNCING, CLOSING or UNLOADING, 5 for a STORE in flight, and 6 for a staging area that
is COMMITTING; and where all pass it is answered DONE and begins, with HEALTHY off (R94, R188). -/
def Clause.RestartIsTested : Prop :=
  ∀ (s : State) (l : Link) (q : Request), s.Asked l q →
    let slots := ∃ b < 24, (s.brk b).slot ≠ none
    let failures := ∃ b < 24, (s.brk b).bf ≠ .idle
    let gens := ∃ g < 8, (s.gen g).state ∈ [GenState.syncing, .closing, .unloading]
    let committing := ∃ a ∈ s.mgmt.staging, a.state.isCommitting = true
    let refused := fun (n : Nat) => ∃ t, exec (.restart l q) s = .next t ∧ Replies s t q 11 .notPermitted n 0 [] ∧
      t.mgmt = s.answered .notPermitted ∧ Only [.links, .mgmt] s t
    (slots → refused 1) ∧
    (¬ slots → failures → refused 2) ∧
    (¬ slots → ¬ failures → s.run? ≠ none → refused 3) ∧
    (¬ slots → ¬ failures → s.run? = none → gens → refused 4) ∧
    (¬ slots → ¬ failures → s.run? = none → ¬ gens → s.mgmt.store ≠ none → refused 5) ∧
    (¬ slots → ¬ failures → s.run? = none → ¬ gens → s.mgmt.store = none → committing → refused 6) ∧
    (¬ slots → ¬ failures → s.run? = none → ¬ gens → s.mgmt.store = none → ¬ committing →
      ∃ t, exec (.restart l q) s = .next t ∧ Replies s t q 11 .done 0 0 [] ∧
        t.mgmt = { s.answered .done with
          restart := some [.streams, .protection, .breakers, .sequencer, .paralleling, .capture, .management] } ∧
        t.lines.healthy = false ∧ Only [.links, .mgmt] s t)

/-- The management unit's part, where it is the last, empties the staging areas, ends the restart and records
RESTART_DONE, and without a restart in flight a part finds nothing to do (R94, R188). -/
def Clause.RestartEnds : Prop :=
  ∀ s : State,
    (s.Quiet → s.mgmt.restart = some [.management] → ∃ t, exec (.blockRestart .management) s = .next t ∧
      t.mgmt = { s.mgmt with restart := none, staging := List.replicate 13 {} } ∧
      Records s t .management 10 0 13 none ∧ Only [.links, .events, .mgmt] s t) ∧
    (∀ k, s.Quiet → s.mgmt.restart = none → exec (.blockRestart k) s = .next s)

/-- The parts of a restart that are outstanding once block `k`, not the last, has carried out its own. -/
def Clause.PartDone (s t : State) (k : Block) : Prop :=
  ∀ ks, s.mgmt.restart = some ks → t.mgmt = { s.mgmt with restart := some (ks.filter (· != k)) }

/-- A restart is in flight in which the part of block `k` is outstanding, and another block's too. -/
def Clause.PartIsDue (s : State) (k : Block) : Prop :=
  s.Quiet ∧ ∃ ks, s.mgmt.restart = some ks ∧ k ∈ ks ∧ ks.filter (· != k) ≠ []

/-- The stream intake's part: every stream is ACQUIRING or DISABLED with its buffer and windows empty and nothing valid
(R22, R39, R49). -/
def Clause.StreamsRestart : Prop :=
  ∀ s : State, Clause.PartIsDue s .streams → ∃ t, exec (.blockRestart .streams) s = .next t ∧
    (∀ k < 16, (t.stream k).state = (if s.fld .stream k 1 = 1 then StreamState.acquiring else .disabled) ∧
      (t.stream k).buffer = [] ∧ (t.stream k).valid = false ∧ (t.measure k).tracker.valid = false ∧
      (t.measure k).windows = List.replicate 8 emptyWindow) ∧
    Clause.PartDone s t .streams ∧ Only [.intake, .measures, .mgmt] s t

/-- Protection's part: every element is SETTLING or DISABLED by the enable of the bank it has, with its counts 0 and its
bank and operations kept, and one that was OPERATED is asked to leave its trip demand sets (R78, R75); what it shows as
the value of X is 0 until it decides again (R79). -/
def Clause.ProtectionRestarts : Prop :=
  ∀ s : State, Clause.PartIsDue s .protection → ∃ t, exec (.blockRestart .protection) s = .next t ∧
    (∀ e < 64,
      let bank := (s.element e).bank
      let enable := match bank with
        | .a => s.fld .element e 16
        | .b => s.fld .element e 32
      t.element e = {
        state := if enable = 1 then .settling else .disabled
        bank := bank
        operations := (s.element e).operations }) ∧
    t.breakers = { s.breakers with requests := s.breakers.requests ++
      ((List.range 64).filter (fun e => (s.element e).state == .operated)).flatMap (fun e =>
        ((List.range 24).filter (fun b => s.fld .element e 8 / 2 ^ b % 2 == 1)).map (fun b => ⟨false, b, .element e⟩)) } ∧
    Clause.PartDone s t .protection ∧ Only [.links, .events, .elements, .breakers, .mgmt] s t

/-- The breaker controller's part: every position is UNKNOWN, the health flags and the unresponsive mark are 0, and the
rest of each record stands, a command in its slot and a BF among it; with a watched position that was known a line-up change
is due (R118, R124, R189). That the trip circuit flag set to 0 records no TRIP_CIRCUIT_FAIL is the model's choice (log entry
18): R99 has that event at a change of the flag, and R118 names none. That no POSITION_CHANGED is recorded is its inference
(log entry 18). -/
def Clause.BreakersRestart : Prop :=
  ∀ s : State, Clause.PartIsDue s .breakers → (∀ g < 8, (s.gen g).state ≠ .online ∧ (s.gen g).state ≠ .unloading) →
    ∃ t, exec (.blockRestart .breakers) s = .next t ∧
      (∀ b < 24, t.brk b = { s.brk b with
        position := .unknown
        candidate := none
        fieldPosition := .unknown
        fieldCandidate := none
        health := ⟨false, false, false⟩
        unresponsive := false }) ∧
      t.breakers.requests = s.breakers.requests ∧
      t.seq = { s.seq with lineupDue := s.seq.lineupDue ||
        (List.range 24).any (fun b => decide (b ∈ watchedBreakers s.mgmt.tables) && (s.brk b).position != .unknown) } ∧
      Clause.PartDone s t .breakers ∧ Only [.breakers, .seq, .mgmt] s t

/-- The sequencer's part: INIT with the pending slot empty, the SEQ_FLAG points and the demand count 0, and from there
HALTED(STATION_TRIP) while the latch stands and LOCKED_OUT while LOCKOUT is 1 (R143). That a sequencer without a watched
breaker stays in INIT all the same is the model's choice (log entry 18). -/
def Clause.SequencerRestarts : Prop :=
  ∀ s : State, Clause.PartIsDue s .sequencer → s.run? = none →
    ∃ t, exec (.blockRestart .sequencer) s = .next t ∧
      t.seq = { s.seq with
        state := if s.lines.tripLatch then .halted .stationTrip else if s.lines.lockout then .lockedOut else .init
        slot := none
        flags := [false, false, false, false]
        lineup := powerOnLineup s.mgmt.tables } ∧
      t.par = { s.par with demand := 0, demandDue := true } ∧
      Clause.PartDone s t .sequencer ∧ Only [.links, .events, .seq, .par, .mgmt] s t

/-- A plan that an auto-rule started within the restart is ended at the sequencer's part, with PLAN_ABANDONED and without its
abort plan, and a close of its step that is still QUEUED-FOR-RELEASE is withdrawn; then the part goes on as without one
(R135, R189). The record and the withdrawal are said where the sequencer has no run in progress, whose end may bring a
channel to a waiting generator, and where no party waits for the token that it gives back. -/
def Clause.PlanEndsAtARestart : Prop :=
  ∀ (s : State) (r : PlanRun), Clause.PartIsDue s .sequencer → s.seq.state = .running r → r.parallel = none →
    let runless := ∀ c < 4, ∀ x, s.channel c = some x → x.client ≠ .sequencer
    ∃ t, exec (.blockRestart .sequencer) s = .next t ∧
      t.seq = { s.seq with
        state := if s.lines.tripLatch then .halted .stationTrip else if s.lines.lockout then .lockedOut else .init
        slot := none
        flags := [false, false, false, false]
        lineup := powerOnLineup s.mgmt.tables } ∧
      t.par.demand = 0 ∧ t.par.demandDue = true ∧
      (s.lines.tripLatch = false → s.lines.lockout = false → s.seq.slot = none → runless →
        s.par.token = none → s.par.tokenList = [] → t.newest.map (fun e => (e.cls, e.priority, e.object, e.code, e.value)) =
          some (.transfer, 12, r.plan, 14, some r.step)) ∧
      (∀ c, r.wait = .deadTerm → runless → (s.par.token = some .sequencer → s.par.tokenList = []) →
        s.stepField r.plan r.step 0 = 4 → s.stepField r.plan r.step 1 < 24 →
        (s.brk (s.stepField r.plan r.step 1)).slot = some c → c.action = .closing → c.phase = .queued →
        c.requester = .party .sequencer → c.origins = { changeover := true } →
        t.brk (s.stepField r.plan r.step 1) = Clause.withdrawn (s.brk (s.stepField r.plan r.step 1))) ∧
      Clause.PartDone s t .sequencer ∧ Only [.links, .events, .breakers, .seq, .par, .mgmt] s t

/-- The paralleling unit's part: every generator is ABSENT with its record as at power-on and its parameters as in its
table, the token is free, every channel is free and the lists are empty; the demand count is the sequencer's to clear
(R148). The close of a generator in SYNCING or CLOSING is withdrawn while it is QUEUED-FOR-RELEASE, and stays where it has
been issued (R155, R189). That the last GENSTATUS content is cleared with the record is the
model's inference (log entry 18). -/
def Clause.ParallelingRestarts : Prop :=
  ∀ s : State, Clause.PartIsDue s .paralleling → s.run? = none → ∃ t, exec (.blockRestart .paralleling) s = .next t ∧
    t.par = {
      gens := (List.range 8).map (fun g => { params :=
        ⟨s.fld .generator g 6, s.fld .generator g 7, s.fld .generator g 8, s.fld .generator g 9⟩ })
      demand := s.par.demand
      demandDue := s.par.demandDue || (List.range 8).any (fun g => (s.gen g).state != .absent)
      token := none
      tokenList := []
      channels := [none, none, none, none]
      waitList := []
      shareTimer := 0 } ∧
    (∀ g < 8, ∀ k, s.fld .generator g 1 = 1 → s.fld .generator g 3 < 24 →
      ((s.gen g).state = .syncing ∨ (s.gen g).state = .closing) →
      (s.brk (s.fld .generator g 3)).slot = some (Clause.closeOf g k) →
      t.brk (s.fld .generator g 3) = Clause.withdrawn (s.brk (s.fld .generator g 3))) ∧
    (∀ b < 24, (∀ c, (s.brk b).slot = some c → c.phase ≠ .queued) → t.brk b = s.brk b) ∧
    Clause.PartDone s t .paralleling ∧ Only [.links, .events, .breakers, .par, .mgmt] s t

/-- Capture's part: the buffer is released and the ring emptied; the count of refused triggers stands (R176). -/
def Clause.CaptureRestarts : Prop :=
  ∀ s : State, Clause.PartIsDue s .capture → ∃ t, exec (.blockRestart .capture) s = .next t ∧
    t.capture.state = .empty ∧ t.capture.ring = [] ∧ t.capture.refused = s.capture.refused ∧
    (s.capture.state ≠ .empty → t.capture.buffer = [] ∧ t.capture.triggerPoint = none ∧
      t.capture.triggerLabel = none ∧ Records s t .capture 5 0 4 (some s.capture.buffer.length)) ∧
    t.capture.edges = s.capture.edges ∧
    Clause.PartDone s t .capture ∧ Only [.links, .events, .capture, .mgmt] s t

/-- No part of a RESTART sends a frame to a generator controller: the GENSET and ABILITY frames in the queues of both links
stay as they are, and no sequence number of theirs is given out (R148). That R148 speaks of every block's part, the breaker
controller's too, by which a generator that was loaded is STOPPING, is the model's inference (log entry 18). -/
def Clause.RestartSendsNoFrame : Prop :=
  ∀ (s : State) (k : Block), s.Quiet → ∃ t, exec (.blockRestart k) s = .next t ∧
    (∀ l, (t.port l).frames.filter OutFrame.toController = (s.port l).frames.filter OutFrame.toController) ∧
    t.links.gensetSeq = s.links.gensetSeq ∧ t.links.abilitySeq = s.links.abilitySeq

/-- A RESTART is tested and begins, each block carries out its part, on the work that has begun meanwhile, and the last one
ends it (R188, R189), with no frame to a generator controller (R148). The list of parts
that are outstanding, the choice of their order and the line-up that the sequencer takes at its part are the model's own, and
so is that no TRIP_CIRCUIT_FAIL and no POSITION_CHANGED is recorded, that the last GENSTATUS content is cleared, that R148
silences every part, and that a sequencer without a watched breaker stays in INIT (log entry 18); and so are the marks that a line-up change and an evaluation of demand are due (log entry 5) and the
list of requests that wait (log entry 16). -/
def Obligations.RestartRunsBlockByBlock : Prop :=
  Clause.RestartIsTested ∧ Clause.RestartEnds ∧ Clause.StreamsRestart ∧ Clause.ProtectionRestarts ∧
    Clause.BreakersRestart ∧ Clause.SequencerRestarts ∧ Clause.PlanEndsAtARestart ∧ Clause.ParallelingRestarts ∧
    Clause.CaptureRestarts ∧ Clause.RestartSendsNoFrame

/-! ### OPERATE -/

/-- BREAKER-OPEN for a breaker that has no command and is not OPEN issues an OPEN with origin OPERATOR and answers with its
tag; for one that is OPEN it answers that nothing is to be done (R101, R105, R185). -/
def Obligations.OperatorOpensABreaker : Prop :=
  ∀ (s : State) (l : Link) (q : Request), s.Asked l q → q.argA < 24 → s.fld .breaker q.argA 1 = 1 →
    s.fld .breaker q.argA 21 ≠ 1 → (s.brk q.argA).slot = none →
    let r := s.brk q.argA
    (r.position ≠ .opened → ∃ t, exec (.breakerOpen l q) s = .next t ∧ Replies s t q 7 .done 0 r.tagCounter [] ∧
      t.brk q.argA = { r with
        slot := some { action := .opening, tag := r.tagCounter, origins := { operator := true }, phase := .sent }
        tagCounter := (r.tagCounter + 1) % 256
        issued := step32 r.issued } ∧
      (∀ a, a ≠ q.argA → t.brk a = s.brk a) ∧ t.mgmt = s.answered .done ∧
      Records s t .management 7 q.target 8 (some q.argA) ∧ Only [.links, .events, .breakers, .mgmt] s t) ∧
    (r.position = .opened → ∃ t, exec (.breakerOpen l q) s = .next t ∧ Replies s t q 7 .done 2 0 [] ∧
      t.mgmt = s.answered .done ∧ Records s t .management 7 q.target 8 (some q.argA) ∧
      Only [.links, .events, .mgmt] s t)

/-- BREAKER-CLOSE makes the tests of R102 in their order and is refused with the reason of the first that fails, LOCKED
for LOCKOUT and NOT_PERMITTED for the others; where all pass the CLOSE is issued and answered with its tag (R102, R103,
R105, R185). That the controller's own refusals for SPRING and LOCAL carry the codes 12 and 11, which R109 lists under the
BIU, is the model's choice (log entry 23). -/
def Obligations.OperatorClosesABreaker : Prop :=
  ∀ (s : State) (l : Link) (q : Request), s.Asked l q → q.argA < 24 → s.fld .breaker q.argA 1 = 1 →
    s.fld .breaker q.argA 21 ≠ 1 → (s.brk q.argA).slot = none → (s.brk q.argA).position ≠ .closed →
    let r := s.brk q.argA
    let reason : Nat :=
      if r.trips ≠ [] then 1 else if s.lines.tripLatch then 2 else if s.lines.lockout then 3
      else if r.position = .unknown then 4 else if r.position = .travel then 5
      else if s.fld .breaker q.argA 5 = 1 then 6
      else if s.fld .breaker q.argA 6 ≠ 0xFFFF ∧ s.expression (s.fld .breaker q.argA 6) = false then 8
      else if r.unresponsive then 9 else if r.health.tripCircuit = false then 10
      else if r.health.spring = false then 12 else if r.health.localControl then 11 else 0
    (reason = 0 → ∃ t, exec (.breakerClose l q) s = .next t ∧ Replies s t q 7 .done 0 r.tagCounter [] ∧
      t.brk q.argA = { r with
        slot := some { action := .closing, tag := r.tagCounter, origins := { operator := true }, phase := .sent }
        tagCounter := (r.tagCounter + 1) % 256
        issued := step32 r.issued } ∧
      (∀ a, a ≠ q.argA → t.brk a = s.brk a) ∧ t.mgmt = s.answered .done ∧
      Records s t .management 7 q.target 8 (some q.argA) ∧ Only [.links, .events, .breakers, .mgmt] s t) ∧
    (reason ≠ 0 →
      let status : Status := if reason = 3 then .locked else .notPermitted
      ∃ t, exec (.breakerClose l q) s = .next t ∧ Replies s t q 7 status 0 reason [] ∧
        t.brk q.argA = { r with refusals := step32 r.refusals } ∧ (∀ a, a ≠ q.argA → t.brk a = s.brk a) ∧
        t.mgmt = s.answered status ∧ Only [.links, .breakers, .mgmt] s t)

/-- RUN-PLAN in IDLE or NO_LINEUP starts a defined plan whose from line-up is ANY or current, and its first step begins;
in LOCKED_OUT it is LOCKED, while a plan runs BUSY, and in INIT and HALTED, for an undefined plan and for one whose from
line-up is neither, NOT_PERMITTED (R127, R141). -/
def Obligations.RunPlanStartsAPlan : Prop :=
  ∀ (s : State) (l : Link) (q : Request), s.Asked l q →
    let refused := fun (st : Status) (a b : Nat) => ∃ t, exec (.runPlan l q) s = .next t ∧
      Replies s t q 7 st a b [] ∧ t.mgmt = s.answered st ∧ Only [.links, .mgmt] s t
    (16 ≤ q.argA → refused .invalid 0xFFFFFFFF 2) ∧
    (q.argA < 16 → s.seq.state = .lockedOut → refused .locked 0 0) ∧
    (∀ r, q.argA < 16 → s.seq.state = .running r → refused .busy 0 0) ∧
    (∀ y, q.argA < 16 → s.seq.state = .halted y → refused .notPermitted 0 0) ∧
    (q.argA < 16 → s.seq.state = .init → refused .notPermitted 0 0) ∧
    (q.argA < 16 → ((∃ k, s.seq.state = .idle k) ∨ s.seq.state = .noLineup) → (s.fld .plan q.argA 5 = 0 ∨
      (s.fld .plan q.argA 1 ≠ 8 ∧ s.seq.lineup ≠ .is (s.fld .plan q.argA 1))) → refused .notPermitted 0 0) ∧
    (q.argA < 16 → ((∃ k, s.seq.state = .idle k) ∨ (s.seq.state = .noLineup ∧ s.seq.lineup = .none)) →
      s.fld .plan q.argA 5 ≠ 0 →
      (s.fld .plan q.argA 1 = 8 ∨ s.seq.lineup = .is (s.fld .plan q.argA 1)) → s.stepField q.argA 0 0 = 6 →
      ∃ t, exec (.runPlan l q) s = .next t ∧ Replies s t q 7 .done 0 0 [] ∧
        t.seq = { s.seq with
          state := .running { plan := q.argA, cause := .operator, wait := .time }
          lastPlan := some q.argA } ∧
        t.mgmt = s.answered .done ∧ Records s t .transfer 10 q.argA 3 (some 0) ∧
        Only [.links, .events, .seq, .mgmt] s t)

/-- SET-AUTO writes the auto-enable field of the active STATION table and answers with the earlier value; at a change of
it AUTO_TRANSFER_EFFECTIVE follows it and point LOCKOUT, and AUTO_SET is recorded (R83, R138). -/
def Clause.SetAutoWritesTheField : Prop :=
  ∀ (s : State) (l : Link) (q : Request) (e : Entry), s.Asked l q →
    (1 < q.argA → ∃ t, exec (.setAuto l q) s = .next t ∧ Replies s t q 7 .invalid 0xFFFFFFFF 2 [] ∧
      t.mgmt = s.answered .invalid ∧ Only [.links, .mgmt] s t) ∧
    (q.argA ≤ 1 → s.table .station = [e] → (∃ v, (10, v) ∈ e) → (∀ k, s.seq.state ≠ .idle k) →
      ∃ t, exec (.setAuto l q) s = .next t ∧ Replies s t q 7 .done (s.station 10) 0 [] ∧
        t.station 10 = q.argA ∧ (∀ id, id ≠ 10 → t.station id = s.station id) ∧
        (∀ x, x ≠ TableId.station → t.table x = s.table x) ∧
        (s.station 10 ≠ q.argA → Records s t .transfer 7 0 11 (some q.argA) ∧
          t.seq = { s.seq with autoEffective := decide (q.argA = 1) && !s.lines.lockout }) ∧
        (s.station 10 = q.argA → t.events = s.events ∧ t.seq = s.seq) ∧ Only [.links, .events, .seq, .mgmt] s t)

/-- START-GENS raises the demand and STOP-GENS lowers it, with an evaluation due, and each answers with the earlier
demand; the other direction, and START-GENS under the station trip latch, is NOT_PERMITTED (R154). -/
def Clause.OperatorWritesTheDemand : Prop :=
  ∀ (s : State) (l : Link) (q : Request), s.Asked l q → q.argA ≤ 8 → s.run? = none →
    let written := fun (c : Instr) => ∃ t, exec c s = .next t ∧ Replies s t q 7 .done s.par.demand 0 [] ∧
      t.par = { s.par with demand := q.argA, demandDue := true } ∧ t.mgmt = s.answered .done ∧
      Records s t .management 7 q.target 8 (some q.argA) ∧ Only [.links, .events, .par, .mgmt] s t
    let refused := fun (c : Instr) => ∃ t, exec c s = .next t ∧ Replies s t q 7 .notPermitted 0 0 [] ∧
      t.mgmt = s.answered .notPermitted ∧ Only [.links, .mgmt] s t
    (s.lines.tripLatch = false → s.par.demand ≤ q.argA → written (.startGens l q)) ∧
    (s.lines.tripLatch = true ∨ q.argA < s.par.demand → refused (.startGens l q)) ∧
    (q.argA ≤ s.par.demand → written (.stopGens l q)) ∧
    (s.par.demand < q.argA → refused (.stopGens l q))

/-- SET-AUTO (R138), START-GENS and STOP-GENS (R154). The mark of an evaluation due is the model's own (log entry 5).
-/
def Obligations.OperatorWritesAutoAndDemand : Prop := Clause.SetAutoWritesTheField ∧ Clause.OperatorWritesTheDemand

/-- ACKNOWLEDGE-HALT takes the sequencer from HALTED to the state of the current line-up and answers with the halt's
reason; in another state, and under the station trip latch, it is NOT_PERMITTED (R125, R141). -/
def Clause.AcknowledgeLeavesHalted : Prop :=
  ∀ (s : State) (l : Link) (q : Request), s.Asked l q →
    (∀ y, s.seq.state = .halted y → s.lines.tripLatch = false → s.lines.lockout = false → s.seq.lineup = .none →
      ∃ t, exec (.acknowledgeHalt l q) s = .next t ∧
        Replies s t q 7 .done
          (match y with
            | .stationTrip => 1
            | .stepFailed => 2
            | .abortFailed => 3
            | .abortNotApplicable => 4
            | .abortCompleted => 5) 0 [] ∧
        t.seq = { s.seq with state := .noLineup } ∧ t.mgmt = s.answered .done ∧
        Records s t .transfer 7 0 15 none ∧ Only [.links, .events, .seq, .mgmt] s t) ∧
    ((∀ y, s.seq.state ≠ .halted y) ∨ s.lines.tripLatch = true → ∃ t, exec (.acknowledgeHalt l q) s = .next t ∧
      Replies s t q 7 .notPermitted 0 0 [] ∧ t.mgmt = s.answered .notPermitted ∧ Only [.links, .mgmt] s t)

/-- CLEAR-STATION-TRIP with the pin high clears the latch and asks for STATION_TRIP to leave each set that holds it, or
that it has yet to join (the model's choice, log entry 19); with the pin low it is NOT_PERMITTED, and with the latch clear
it answers that it was clear (R93). -/
def Clause.ClearStationTripClearsTheLatch : Prop :=
  ∀ (s : State) (l : Link) (q : Request), s.Asked l q →
    (s.lines.tripPin = false → ∃ t, exec (.clearStationTrip l q) s = .next t ∧
      Replies s t q 7 .notPermitted 0 0 [] ∧ t.mgmt = s.answered .notPermitted ∧ Only [.links, .mgmt] s t) ∧
    (s.lines.tripPin = true → s.lines.tripLatch = false → ∃ t, exec (.clearStationTrip l q) s = .next t ∧
      Replies s t q 7 .done 0 0 [] ∧ t.mgmt = s.answered .done ∧ Only [.links, .mgmt] s t) ∧
    (s.lines.tripPin = true → s.lines.tripLatch = true →
      ∃ t, exec (.clearStationTrip l q) s = .next t ∧ Replies s t q 7 .done 1 0 [] ∧
        t.lines = { s.lines with tripLatch := false, healthy := t.healthyNow } ∧
        t.breakers = { s.breakers with
          requests := s.breakers.requests ++ ((List.range 24).filter (fun b =>
            decide (Member.stationTrip ∈ (s.brk b).trips ∨ ⟨true, b, .stationTrip⟩ ∈ s.breakers.requests))).map
              (fun b => ⟨false, b, .stationTrip⟩) } ∧
        t.mgmt = s.answered .done ∧ Records s t .management 8 1 5 none ∧
        Only [.links, .events, .lines, .breakers, .mgmt] s t)

/-- CLEAR-GEN-FAULT takes a generator from FAULT to STANDBY with its failure counts at 0, where its engine is stopped and
without a fault and its breaker OPEN; else it is NOT_PERMITTED (R167). RENEGOTIATE begins an ability exchange at once,
or marks it deferred while the generator is loaded or being closed (R152). That an exchange which begins from STANDBY leaves
the whole exchange record cleared, the earlier controller's set and toggles among it, is the model's choice (log entry 24;
R150 names the state and the gap timer alone). That the OPERATOR_ACTION record follows the
GEN_STATE record of the same request is the model's choice (log entry 25). -/
def Obligations.OperatorTendsTheGenerators : Prop :=
  ∀ (s : State) (l : Link) (q : Request), s.Asked l q → q.argA < 8 → s.fld .generator q.argA 1 = 1 →
    let r := s.gen q.argA
    let others := fun t : State => ∀ j, j ≠ q.argA → t.gen j = s.gen j
    let recorded := fun t : State => t.newest.map (fun x => (x.cls, x.priority, x.object, x.code, x.value)) =
      some (.management, 7, q.target, 8, some q.argA)
    (r.state = .fault → r.status.running = false → r.status.fault = false → s.genPosition q.argA = .opened →
      r.deferred = false → ∃ t, exec (.clearGenFault l q) s = .next t ∧ Replies s t q 7 .done 0 0 [] ∧
      t.gen q.argA = { r with state := .standby, deadFailures := 0, closeFailures := 0 } ∧ others t ∧ recorded t ∧
      t.mgmt = s.answered .done ∧ Only [.links, .events, .par, .mgmt] s t) ∧
    (r.state ≠ .fault ∨ r.status.running = true ∨ r.status.fault = true ∨ s.genPosition q.argA ≠ .opened → ∃ t,
      exec (.clearGenFault l q) s = .next t ∧ Replies s t q 7 .notPermitted 0 0 [] ∧
      t.mgmt = s.answered .notPermitted ∧ Only [.links, .mgmt] s t) ∧
    (r.state = .standby → ∃ t, exec (.renegotiate l q) s = .next t ∧ Replies s t q 7 .done 0 0 [] ∧
      (t.gen q.argA).state = .negotiating ∧ (t.gen q.argA).exchange = { state := .awaitBase } ∧
      (t.gen q.argA).params = ⟨s.fld .generator q.argA 6, s.fld .generator q.argA 7,
        s.fld .generator q.argA 8, s.fld .generator q.argA 9⟩ ∧
      (t.gen q.argA).deferred = false ∧ others t ∧ recorded t ∧ t.mgmt = s.answered .done ∧
      Only [.links, .events, .par, .mgmt] s t) ∧
    (r.state = .online → ∃ t, exec (.renegotiate l q) s = .next t ∧ Replies s t q 7 .done 0 0 [] ∧
      t.gen q.argA = { r with deferred := true } ∧ others t ∧ recorded t ∧ t.mgmt = s.answered .done ∧
      Only [.links, .events, .par, .mgmt] s t) ∧
    (r.state = .absent → ∃ t, exec (.renegotiate l q) s = .next t ∧ Replies s t q 7 .notPermitted 0 0 [] ∧
      t.mgmt = s.answered .notPermitted ∧ Only [.links, .mgmt] s t)

/-- SET-POINT writes one of the points 240 to 255 and answers with the point and its earlier value; a write of the same
value records nothing. Any other point is NOT_PERMITTED, and any other value INVALID naming argument B. That a request with
point and value both wrong is NOT_PERMITTED, the point being tested first, is the model's choice (log entry 25). -/
def Clause.SetPointWritesASoftPoint : Prop :=
  ∀ (s : State) (l : Link) (q : Request), s.Asked l q →
    (q.argA < 240 ∨ 255 < q.argA → ∃ t, exec (.setPoint l q) s = .next t ∧
      Replies s t q 7 .notPermitted 0 0 [] ∧ t.mgmt = s.answered .notPermitted ∧ Only [.links, .mgmt] s t) ∧
    (240 ≤ q.argA → q.argA ≤ 255 → 1 < q.argB → ∃ t, exec (.setPoint l q) s = .next t ∧
      Replies s t q 7 .invalid 0xFFFFFFFF 3 [] ∧ t.mgmt = s.answered .invalid ∧ Only [.links, .mgmt] s t) ∧
    (∀ v : Bool, 240 ≤ q.argA → q.argA ≤ 255 → q.argB = (if v then 1 else 0) → ∃ t,
      exec (.setPoint l q) s = .next t ∧
      Replies s t q 7 .done q.argA (if s.point q.argA then 1 else 0) [] ∧ t.point q.argA = v ∧
      (∀ n, n ≠ q.argA → t.point n = s.point n) ∧
      t.mgmt = { s.answered .done with soft := s.mgmt.soft.set (q.argA - 240) v } ∧
      (s.point q.argA ≠ v → Records s t .management 5 q.argA 1 (some q.argB)) ∧
      (s.point q.argA = v → t.events = s.events) ∧ Only [.links, .events, .mgmt] s t)

/-- At power-on every SOFT point is 0, and a RESTART does not change them. -/
def Clause.SoftPointsStartClearAndStay : Prop :=
  ∀ s : State, s.Quiet →
    (∃ t, exec .powerOn s = .next t ∧ ∀ n, 240 ≤ n → n ≤ 255 → t.point n = false) ∧
    ∀ k : Block, ∃ t, exec (.blockRestart k) s = .next t ∧ ∀ n, 240 ≤ n → n ≤ 255 → t.point n = s.point n

/-- The SOFT points: SET-POINT, power-on and RESTART (R86). The order of the two tests of SET-POINT is the model's choice (log
entry 25). -/
def Obligations.SoftPointsAreSet : Prop := Clause.SetPointWritesASoftPoint ∧ Clause.SoftPointsStartClearAndStay

/-- RELEASE-CAPTURE empties the buffer, HELD or RECORDING, with its event, and answers with the state it was in; CAPTURE_ACTIVE
is then 0. An EMPTY buffer stays as it is (R176). That the trigger point, its label and the index of its record are cleared
with the buffer is the model's choice (log entry 11). -/
def Clause.ReleaseCaptureEmptiesTheBuffer : Prop :=
  ∀ (s : State) (l : Link) (q : Request), s.Asked l q →
    (∀ n, (s.capture.state = .recording ∧ n = 1) ∨ (s.capture.state = .held ∧ n = 2) →
      ∃ t, exec (.releaseCapture l q) s = .next t ∧ Replies s t q 7 .done n 0 [] ∧ t.point 236 = false ∧
      t.capture = { s.capture with
        state := .empty
        buffer := []
        copied := 0
        triggerPoint := none
        triggerLabel := none
        triggerIndex := none
        edges := s.capture.edges ++ risesOf s t } ∧
      t.mgmt = s.answered .done ∧ Records s t .capture 5 0 4 (some s.capture.buffer.length) ∧
      Only [.links, .events, .capture, .mgmt] s t) ∧
    (s.capture.state = .empty → ∃ t, exec (.releaseCapture l q) s = .next t ∧ Replies s t q 7 .done 0 0 [] ∧
      t.mgmt = s.answered .done ∧ Only [.links, .mgmt] s t)

/-- A capture begins at a trigger (R175), is read, and is released (R176). The list of rises that wait is the model's
own, and so is that a rise noted before a CAPTURE activation is a trigger after it, and that a rise of point 236 which finds
the buffer EMPTY again, since a release was taken before it, begins a capture as any trigger does (log entry 11). -/
def Obligations.CaptureBeginsIsReadAndReleased : Prop :=
  Clause.TriggerBeginsACapture ∧ Clause.ReadCaptureReturnsRecords ∧ Clause.ReleaseCaptureEmptiesTheBuffer

/-- An OPERATE kind that is not listed is INVALID, naming the target (R185). -/
def Clause.UnlistedKindIsInvalid : Prop :=
  ∀ (s : State) (l : Link) (q : Request), s.Asked l q → ∃ t, exec (.operateKindNotListed l q) s = .next t ∧
    Replies s t q 7 .invalid 0xFFFFFFFF 1 [] ∧ t.mgmt = s.answered .invalid ∧ Only [.links, .mgmt] s t

/-- ACKNOWLEDGE-HALT (R141), CLEAR-STATION-TRIP (R93) and the kinds that are not listed (R185). The list of requests that
wait is the model's own (log entry 16). -/
def Obligations.HaltAndStationTripAreCleared : Prop :=
  Clause.AcknowledgeLeavesHalted ∧ Clause.ClearStationTripClearsTheLatch ∧ Clause.UnlistedKindIsInvalid

/-! ### Elements at a closure -/

/-- A point as protection reads it at a closure, after the stream work and before any element's (R61): the STREAM_VALID
points as that work leaves them, every other point as it stood. -/
def Clause.pointRead (s t : State) (n : Nat) : Bool := if 208 ≤ n ∧ n < 224 then t.point n else s.point n

/-- An ELEMENT content that becomes active changes the type, stream, phase set or phase mode of element `e`, which resets it
(R77). -/
def Clause.resetAt (s t : State) (e : Nat) : Prop := ∃ id ∈ [1, 2, 3, 4], s.fld .element e id ≠ t.fld .element e id

/-- The input of an element of type `type` on stream `k` with the phase set `set` is valid (R62). -/
def Clause.inputValid (t : State) (type k set : Nat) : Bool :=
  let phasors := fun (qs : List Nat) => qs.all (fun q => (t.phasor k q).valid)
  match type with
  | 4 | 5 => (t.measure k).tracker.valid && phasors [0]
  | 6 => (t.measure k).powerValid
  | 7 => phasors [3]
  | _ => phasors ((List.range 8).filter (fun q => set / 2 ^ q % 2 == 1))

/-- The operating quantity X of an element (R67): the largest or the smallest magnitude of the phase set by type and mode, that
of Q3, the frequency, or the negative of the power. A set without a phase, which no COMMIT lets pass (R54), gives 0. -/
def Clause.isOperating (t : State) (type k set mode : Nat) (x : Int) : Prop :=
  let inSet := fun q => q < 8 ∧ set / 2 ^ q % 2 = 1
  let magnitude := fun q : Nat => ((t.phasor k q).magnitude : Int)
  let largest := ((∃ q, inSet q ∧ x = magnitude q) ∧ ∀ q, inSet q → magnitude q ≤ x) ∨ ((∀ q, ¬ inSet q) ∧ x = 0)
  let smallest := ((∃ q, inSet q ∧ x = magnitude q) ∧ ∀ q, inSet q → x ≤ magnitude q) ∨ ((∀ q, ¬ inSet q) ∧ x = 0)
  match type with
  | 2 => if mode = 0 then smallest else largest
  | 3 => if mode = 0 then largest else smallest
  | 4 | 5 => x = (t.measure k).tracker.frequency
  | 6 => x = -(t.measure k).power
  | 7 => x = magnitude 3
  | _ => largest

/-- The curve index k of R71: floor(16·X / P), limited to 16 to 79, less 16. -/
def Clause.curveIndex (x : Int) (p : Nat) : Nat := (max 16 (min 79 (16 * x / p))).toNat - 16

/-- At a closure every element does its work with the settings of the bank that its bank-select point names, on the
measurements of that closure and its block point: the validity of its input, the operating quantity X and the increment of
its curve (R58, R60 to R62, R67, R71); the tables are those in force after the closure,
so that a waiting ELEMENT or CURVE content serves it already, and an element that this content resets works from SETTLING
with every count at 0 (R77). -/
def Clause.EveryElementWorks : Prop :=
  ∀ (s t : State) (pin : Bool) (e : Nat), s.Quiet → s.closureDue = true → exec (.instantClosure pin) s = .next t →
    e < 64 →
    let bank := if Clause.pointRead s t (t.fld .element e 5) then Bank.b else .a
    let c := t.settings e bank
    ∃ x : Int, Clause.isOperating t c.type c.stream c.set c.mode x ∧
    let i : ElementInput := {
      block := Clause.pointRead s t (t.fld .element e 6)
      valid := Clause.inputValid t c.type c.stream c.set
      x := x
      q0 := (t.phasor c.stream 0).magnitude
      increment := t.fld .curve c.curve (Clause.curveIndex x c.pickup + 1) }
    (¬ Clause.resetAt s t e → t.element e = ElementRec.work c bank i (s.element e)) ∧
    (Clause.resetAt s t e → t.element e = ElementRec.work c bank i
      { s.element e with state := .settling, delay := 0, accumulator := 0, settle := 0, hold := 0 })

/-- At a closure a waiting ELEMENT or CURVE content becomes active: its staging area is EMPTY, its COMMIT is answered DONE at
the place reserved for it, where no two wait under one reservation, and TABLE_COMMITTED is
recorded, held unless the queue has overflowed (R77, R177, R183). That a waiting CURVE is answered before a waiting ELEMENT,
which takes the next response sequence number, is the model's choice (log entry 5). -/
def Clause.WaitingContentBecomesActive : Prop :=
  ∀ (s t : State) (pin : Bool) (table : TableId) (w : CommitWait), s.Quiet → s.closureDue = true →
    exec (.instantClosure pin) s = .next t → (table = .element ∨ table = .curve) →
    (s.stagingOf table).state = .committing w →
    let seq := if table = .element ∧ (s.stagingOf .curve).state.isCommitting = true then step16 s.links.responseSeq
      else s.links.responseSeq
    t.table table = w.content ∧ t.stagingOf table = {} ∧
      ((∀ v, table = .element → (s.stagingOf .curve).state = .committing v → v.ticket.number ≠ w.ticket.number) →
        ∀ l, .reserved w.ticket.number ∈ (s.port l).bulk → BulkPlace.frame ⟨s.ownAddress, w.ticket.source, seq,
        .response w.ticket.request w.ticket.kind 0 w.ticket.target 0 0 [], false, false⟩ ∈ (t.port l).bulk) ∧
      (t.events.records.length < 128 → ∃ r ∈ t.events.records, r.at_ = s.labelOf s.aligner.closingPoint ∧
        (r.cls, r.priority, r.object, r.code, r.value) = (.management, 6, table.number, 6, some w.crc))

/-- While no content waits the tables stand at a closure. -/
def Clause.TablesStandOtherwise : Prop :=
  ∀ (s t : State) (pin : Bool) (table : TableId), s.Quiet → exec (.instantClosure pin) s = .next t →
    (s.stagingOf table).state.isCommitting = false ∨ (table ≠ .element ∧ table ≠ .curve) →
    t.table table = s.table table ∧ t.stagingOf table = s.stagingOf table

/-- An element that enters OPERATED at a closure is asked into the trip demand set of each breaker of its trip set, and one
that leaves OPERATED out of it; an element that stays OPERATED while a content becomes active is asked out of the sets that
leave its trip set and into those that join it (R75, R77). -/
def Clause.OperatedElementTrips : Prop :=
  ∀ (s t : State) (pin : Bool) (e b : Nat), s.Quiet → s.closureDue = true → exec (.instantClosure pin) s = .next t →
    e < 64 → b < 24 →
    let before := s.fld .element e 8 / 2 ^ b % 2 = 1
    let after := t.fld .element e 8 / 2 ^ b % 2 = 1
    ((s.element e).state ≠ .operated → (t.element e).state = .operated → after →
      ⟨true, b, .element e⟩ ∈ t.breakers.requests) ∧
    ((s.element e).state = .operated → (t.element e).state ≠ .operated → before →
      ⟨false, b, .element e⟩ ∈ t.breakers.requests) ∧
    ((s.element e).state = .operated → (t.element e).state = .operated → before → ¬ after →
      ⟨false, b, .element e⟩ ∈ t.breakers.requests) ∧
    ((s.element e).state = .operated → (t.element e).state = .operated → ¬ before → after →
      ⟨true, b, .element e⟩ ∈ t.breakers.requests)

/-- Where no other block has anything to record after it, the newest record is that of the element which entered OPERATED,
with the value of X, or which left OPERATED at dropout, under the label of the instant closed (R76, R170). -/
def Clause.OperatedElementIsRecorded : Prop :=
  ∀ (s t : State) (pin : Bool) (e : Nat), s.Quiet → s.closureDue = true → exec (.instantClosure pin) s = .next t →
    e < 64 → (s.stagingOf .element).state.isCommitting = false →
    (∀ d < 64, d ≠ e → (s.element d).state = .disabled ∧ s.fld .element d 16 ≠ 1 ∧ s.fld .element d 32 ≠ 1) →
    (s.lines.lastSample = some pin → s.lines.lockout = pin) → (∀ b < 24, (s.brk b).bf = .idle) →
    (∀ g < 8, s.fld .generator g 1 ≠ 1) → (∀ c < 4, s.channel c = none) → s.par.token = none →
    s.par.tokenList = [] → s.capture.state ≠ .recording →
    let record := fun (r : EventRecord) => (r.at_, r.cls, r.priority, r.object, r.code, r.value)
    let label := s.labelOf s.aligner.closingPoint
    ((s.element e).state ≠ .operated → (t.element e).state = .operated → t.newest.map record =
      some (label, .protection, 13, e, 1, some (unsignedOf 32 (t.element e).lastX))) ∧
    ((s.element e).state = .operated → (t.element e).state = .armed → t.newest.map record =
      some (label, .protection, 7, e, 2, none))

/-- What a closure does to the elements and what they hand on: the content that becomes active, their work, their trip
demands and their events (R58, R75, R76, R77). The list of requests that wait is the model's own (log entry 16), and that a
waiting content works on the point image as it was read before it became active is its inference (log entry 26). That CURVE
is activated and answered before ELEMENT is its choice (log entry 5). -/
def Obligations.ElementsActAtClosures : Prop :=
  Clause.EveryElementWorks ∧ Clause.WaitingContentBecomesActive ∧ Clause.TablesStandOtherwise ∧
    Clause.OperatedElementTrips ∧ Clause.OperatedElementIsRecorded
end

