-- ==== Sys2Proof/Laws/State.lean ====
section
/-! SUPPORT. What each named update of the state does to each field: one lemma for each field that an update
leaves alone, and one for the field that it changes. -/

namespace Sys2Proof.Machine

variable (s : State)

/-! ### setPort -/

@[simp] theorem State.setPort_pending (l : Link) (p : LinkPort) : (s.setPort l p).pending = s.pending := by cases l <;> rfl
@[simp] theorem State.setPort_work (l : Link) (p : LinkPort) : (s.setPort l p).work = s.work := by cases l <;> rfl
@[simp] theorem State.setPort_risen (l : Link) (p : LinkPort) : (s.setPort l p).risen = s.risen := by cases l <;> rfl
@[simp] theorem State.setPort_closing (l : Link) (p : LinkPort) : (s.setPort l p).closing = s.closing := by cases l <;> rfl
@[simp] theorem State.setPort_hushed (l : Link) (p : LinkPort) : (s.setPort l p).hushed = s.hushed := by cases l <;> rfl
@[simp] theorem State.setPort_free (l : Link) (p : LinkPort) : (s.setPort l p).free = s.free := by cases l <;> rfl
@[simp] theorem State.setPort_aligner (l : Link) (p : LinkPort) : (s.setPort l p).aligner = s.aligner := by cases l <;> rfl
@[simp] theorem State.setPort_intake (l : Link) (p : LinkPort) : (s.setPort l p).intake = s.intake := by cases l <;> rfl
@[simp] theorem State.setPort_measures (l : Link) (p : LinkPort) : (s.setPort l p).measures = s.measures := by cases l <;> rfl
@[simp] theorem State.setPort_elements (l : Link) (p : LinkPort) : (s.setPort l p).elements = s.elements := by cases l <;> rfl
@[simp] theorem State.setPort_lines (l : Link) (p : LinkPort) : (s.setPort l p).lines = s.lines := by cases l <;> rfl
@[simp] theorem State.setPort_breakers (l : Link) (p : LinkPort) : (s.setPort l p).breakers = s.breakers := by cases l <;> rfl
@[simp] theorem State.setPort_seq (l : Link) (p : LinkPort) : (s.setPort l p).seq = s.seq := by cases l <;> rfl
@[simp] theorem State.setPort_par (l : Link) (p : LinkPort) : (s.setPort l p).par = s.par := by cases l <;> rfl
@[simp] theorem State.setPort_events (l : Link) (p : LinkPort) : (s.setPort l p).events = s.events := by cases l <;> rfl
@[simp] theorem State.setPort_capture (l : Link) (p : LinkPort) : (s.setPort l p).capture = s.capture := by cases l <;> rfl
@[simp] theorem State.setPort_mgmt (l : Link) (p : LinkPort) : (s.setPort l p).mgmt = s.mgmt := by cases l <;> rfl

/-! ### modPort -/

@[simp] theorem State.modPort_pending (l : Link) (f : LinkPort → LinkPort) : (s.modPort l f).pending = s.pending := by cases l <;> rfl
@[simp] theorem State.modPort_work (l : Link) (f : LinkPort → LinkPort) : (s.modPort l f).work = s.work := by cases l <;> rfl
@[simp] theorem State.modPort_risen (l : Link) (f : LinkPort → LinkPort) : (s.modPort l f).risen = s.risen := by cases l <;> rfl
@[simp] theorem State.modPort_closing (l : Link) (f : LinkPort → LinkPort) : (s.modPort l f).closing = s.closing := by cases l <;> rfl
@[simp] theorem State.modPort_hushed (l : Link) (f : LinkPort → LinkPort) : (s.modPort l f).hushed = s.hushed := by cases l <;> rfl
@[simp] theorem State.modPort_free (l : Link) (f : LinkPort → LinkPort) : (s.modPort l f).free = s.free := by cases l <;> rfl
@[simp] theorem State.modPort_aligner (l : Link) (f : LinkPort → LinkPort) : (s.modPort l f).aligner = s.aligner := by cases l <;> rfl
@[simp] theorem State.modPort_intake (l : Link) (f : LinkPort → LinkPort) : (s.modPort l f).intake = s.intake := by cases l <;> rfl
@[simp] theorem State.modPort_measures (l : Link) (f : LinkPort → LinkPort) : (s.modPort l f).measures = s.measures := by cases l <;> rfl
@[simp] theorem State.modPort_elements (l : Link) (f : LinkPort → LinkPort) : (s.modPort l f).elements = s.elements := by cases l <;> rfl
@[simp] theorem State.modPort_lines (l : Link) (f : LinkPort → LinkPort) : (s.modPort l f).lines = s.lines := by cases l <;> rfl
@[simp] theorem State.modPort_breakers (l : Link) (f : LinkPort → LinkPort) : (s.modPort l f).breakers = s.breakers := by cases l <;> rfl
@[simp] theorem State.modPort_seq (l : Link) (f : LinkPort → LinkPort) : (s.modPort l f).seq = s.seq := by cases l <;> rfl
@[simp] theorem State.modPort_par (l : Link) (f : LinkPort → LinkPort) : (s.modPort l f).par = s.par := by cases l <;> rfl
@[simp] theorem State.modPort_events (l : Link) (f : LinkPort → LinkPort) : (s.modPort l f).events = s.events := by cases l <;> rfl
@[simp] theorem State.modPort_capture (l : Link) (f : LinkPort → LinkPort) : (s.modPort l f).capture = s.capture := by cases l <;> rfl
@[simp] theorem State.modPort_mgmt (l : Link) (f : LinkPort → LinkPort) : (s.modPort l f).mgmt = s.mgmt := by cases l <;> rfl

/-! ### modStream -/

@[simp] theorem State.modStream_pending (k : Nat) (f : StreamRec → StreamRec) : (s.modStream k f).pending = s.pending := rfl
@[simp] theorem State.modStream_work (k : Nat) (f : StreamRec → StreamRec) : (s.modStream k f).work = s.work := rfl
@[simp] theorem State.modStream_risen (k : Nat) (f : StreamRec → StreamRec) : (s.modStream k f).risen = s.risen := rfl
@[simp] theorem State.modStream_closing (k : Nat) (f : StreamRec → StreamRec) : (s.modStream k f).closing = s.closing := rfl
@[simp] theorem State.modStream_hushed (k : Nat) (f : StreamRec → StreamRec) : (s.modStream k f).hushed = s.hushed := rfl
@[simp] theorem State.modStream_free (k : Nat) (f : StreamRec → StreamRec) : (s.modStream k f).free = s.free := rfl
@[simp] theorem State.modStream_links (k : Nat) (f : StreamRec → StreamRec) : (s.modStream k f).links = s.links := rfl
@[simp] theorem State.modStream_aligner (k : Nat) (f : StreamRec → StreamRec) : (s.modStream k f).aligner = s.aligner := rfl
@[simp] theorem State.modStream_intake (k : Nat) (f : StreamRec → StreamRec) : (s.modStream k f).intake = { s.intake with streams := s.intake.streams.modify k f } := rfl
@[simp] theorem State.modStream_measures (k : Nat) (f : StreamRec → StreamRec) : (s.modStream k f).measures = s.measures := rfl
@[simp] theorem State.modStream_elements (k : Nat) (f : StreamRec → StreamRec) : (s.modStream k f).elements = s.elements := rfl
@[simp] theorem State.modStream_lines (k : Nat) (f : StreamRec → StreamRec) : (s.modStream k f).lines = s.lines := rfl
@[simp] theorem State.modStream_breakers (k : Nat) (f : StreamRec → StreamRec) : (s.modStream k f).breakers = s.breakers := rfl
@[simp] theorem State.modStream_seq (k : Nat) (f : StreamRec → StreamRec) : (s.modStream k f).seq = s.seq := rfl
@[simp] theorem State.modStream_par (k : Nat) (f : StreamRec → StreamRec) : (s.modStream k f).par = s.par := rfl
@[simp] theorem State.modStream_events (k : Nat) (f : StreamRec → StreamRec) : (s.modStream k f).events = s.events := rfl
@[simp] theorem State.modStream_capture (k : Nat) (f : StreamRec → StreamRec) : (s.modStream k f).capture = s.capture := rfl
@[simp] theorem State.modStream_mgmt (k : Nat) (f : StreamRec → StreamRec) : (s.modStream k f).mgmt = s.mgmt := rfl

/-! ### modMeasure -/

@[simp] theorem State.modMeasure_pending (k : Nat) (f : StreamMeasure → StreamMeasure) : (s.modMeasure k f).pending = s.pending := rfl
@[simp] theorem State.modMeasure_work (k : Nat) (f : StreamMeasure → StreamMeasure) : (s.modMeasure k f).work = s.work := rfl
@[simp] theorem State.modMeasure_risen (k : Nat) (f : StreamMeasure → StreamMeasure) : (s.modMeasure k f).risen = s.risen := rfl
@[simp] theorem State.modMeasure_closing (k : Nat) (f : StreamMeasure → StreamMeasure) : (s.modMeasure k f).closing = s.closing := rfl
@[simp] theorem State.modMeasure_hushed (k : Nat) (f : StreamMeasure → StreamMeasure) : (s.modMeasure k f).hushed = s.hushed := rfl
@[simp] theorem State.modMeasure_free (k : Nat) (f : StreamMeasure → StreamMeasure) : (s.modMeasure k f).free = s.free := rfl
@[simp] theorem State.modMeasure_links (k : Nat) (f : StreamMeasure → StreamMeasure) : (s.modMeasure k f).links = s.links := rfl
@[simp] theorem State.modMeasure_aligner (k : Nat) (f : StreamMeasure → StreamMeasure) : (s.modMeasure k f).aligner = s.aligner := rfl
@[simp] theorem State.modMeasure_intake (k : Nat) (f : StreamMeasure → StreamMeasure) : (s.modMeasure k f).intake = s.intake := rfl
@[simp] theorem State.modMeasure_measures (k : Nat) (f : StreamMeasure → StreamMeasure) : (s.modMeasure k f).measures = s.measures.modify k f := rfl
@[simp] theorem State.modMeasure_elements (k : Nat) (f : StreamMeasure → StreamMeasure) : (s.modMeasure k f).elements = s.elements := rfl
@[simp] theorem State.modMeasure_lines (k : Nat) (f : StreamMeasure → StreamMeasure) : (s.modMeasure k f).lines = s.lines := rfl
@[simp] theorem State.modMeasure_breakers (k : Nat) (f : StreamMeasure → StreamMeasure) : (s.modMeasure k f).breakers = s.breakers := rfl
@[simp] theorem State.modMeasure_seq (k : Nat) (f : StreamMeasure → StreamMeasure) : (s.modMeasure k f).seq = s.seq := rfl
@[simp] theorem State.modMeasure_par (k : Nat) (f : StreamMeasure → StreamMeasure) : (s.modMeasure k f).par = s.par := rfl
@[simp] theorem State.modMeasure_events (k : Nat) (f : StreamMeasure → StreamMeasure) : (s.modMeasure k f).events = s.events := rfl
@[simp] theorem State.modMeasure_capture (k : Nat) (f : StreamMeasure → StreamMeasure) : (s.modMeasure k f).capture = s.capture := rfl
@[simp] theorem State.modMeasure_mgmt (k : Nat) (f : StreamMeasure → StreamMeasure) : (s.modMeasure k f).mgmt = s.mgmt := rfl

/-! ### modElement -/

@[simp] theorem State.modElement_pending (e : Nat) (f : ElementRec → ElementRec) : (s.modElement e f).pending = s.pending := rfl
@[simp] theorem State.modElement_work (e : Nat) (f : ElementRec → ElementRec) : (s.modElement e f).work = s.work := rfl
@[simp] theorem State.modElement_risen (e : Nat) (f : ElementRec → ElementRec) : (s.modElement e f).risen = s.risen := rfl
@[simp] theorem State.modElement_closing (e : Nat) (f : ElementRec → ElementRec) : (s.modElement e f).closing = s.closing := rfl
@[simp] theorem State.modElement_hushed (e : Nat) (f : ElementRec → ElementRec) : (s.modElement e f).hushed = s.hushed := rfl
@[simp] theorem State.modElement_free (e : Nat) (f : ElementRec → ElementRec) : (s.modElement e f).free = s.free := rfl
@[simp] theorem State.modElement_links (e : Nat) (f : ElementRec → ElementRec) : (s.modElement e f).links = s.links := rfl
@[simp] theorem State.modElement_aligner (e : Nat) (f : ElementRec → ElementRec) : (s.modElement e f).aligner = s.aligner := rfl
@[simp] theorem State.modElement_intake (e : Nat) (f : ElementRec → ElementRec) : (s.modElement e f).intake = s.intake := rfl
@[simp] theorem State.modElement_measures (e : Nat) (f : ElementRec → ElementRec) : (s.modElement e f).measures = s.measures := rfl
@[simp] theorem State.modElement_elements (e : Nat) (f : ElementRec → ElementRec) : (s.modElement e f).elements = s.elements.modify e f := rfl
@[simp] theorem State.modElement_lines (e : Nat) (f : ElementRec → ElementRec) : (s.modElement e f).lines = s.lines := rfl
@[simp] theorem State.modElement_breakers (e : Nat) (f : ElementRec → ElementRec) : (s.modElement e f).breakers = s.breakers := rfl
@[simp] theorem State.modElement_seq (e : Nat) (f : ElementRec → ElementRec) : (s.modElement e f).seq = s.seq := rfl
@[simp] theorem State.modElement_par (e : Nat) (f : ElementRec → ElementRec) : (s.modElement e f).par = s.par := rfl
@[simp] theorem State.modElement_events (e : Nat) (f : ElementRec → ElementRec) : (s.modElement e f).events = s.events := rfl
@[simp] theorem State.modElement_capture (e : Nat) (f : ElementRec → ElementRec) : (s.modElement e f).capture = s.capture := rfl
@[simp] theorem State.modElement_mgmt (e : Nat) (f : ElementRec → ElementRec) : (s.modElement e f).mgmt = s.mgmt := rfl

/-! ### modBrk -/

@[simp] theorem State.modBrk_pending (b : Nat) (f : BreakerRec → BreakerRec) : (s.modBrk b f).pending = s.pending := rfl
@[simp] theorem State.modBrk_work (b : Nat) (f : BreakerRec → BreakerRec) : (s.modBrk b f).work = s.work := rfl
@[simp] theorem State.modBrk_risen (b : Nat) (f : BreakerRec → BreakerRec) : (s.modBrk b f).risen = s.risen := rfl
@[simp] theorem State.modBrk_closing (b : Nat) (f : BreakerRec → BreakerRec) : (s.modBrk b f).closing = s.closing := rfl
@[simp] theorem State.modBrk_hushed (b : Nat) (f : BreakerRec → BreakerRec) : (s.modBrk b f).hushed = s.hushed := rfl
@[simp] theorem State.modBrk_free (b : Nat) (f : BreakerRec → BreakerRec) : (s.modBrk b f).free = s.free := rfl
@[simp] theorem State.modBrk_links (b : Nat) (f : BreakerRec → BreakerRec) : (s.modBrk b f).links = s.links := rfl
@[simp] theorem State.modBrk_aligner (b : Nat) (f : BreakerRec → BreakerRec) : (s.modBrk b f).aligner = s.aligner := rfl
@[simp] theorem State.modBrk_intake (b : Nat) (f : BreakerRec → BreakerRec) : (s.modBrk b f).intake = s.intake := rfl
@[simp] theorem State.modBrk_measures (b : Nat) (f : BreakerRec → BreakerRec) : (s.modBrk b f).measures = s.measures := rfl
@[simp] theorem State.modBrk_elements (b : Nat) (f : BreakerRec → BreakerRec) : (s.modBrk b f).elements = s.elements := rfl
@[simp] theorem State.modBrk_lines (b : Nat) (f : BreakerRec → BreakerRec) : (s.modBrk b f).lines = s.lines := rfl
@[simp] theorem State.modBrk_breakers (b : Nat) (f : BreakerRec → BreakerRec) : (s.modBrk b f).breakers = { s.breakers with recs := s.breakers.recs.modify b f } := rfl
@[simp] theorem State.modBrk_seq (b : Nat) (f : BreakerRec → BreakerRec) : (s.modBrk b f).seq = s.seq := rfl
@[simp] theorem State.modBrk_par (b : Nat) (f : BreakerRec → BreakerRec) : (s.modBrk b f).par = s.par := rfl
@[simp] theorem State.modBrk_events (b : Nat) (f : BreakerRec → BreakerRec) : (s.modBrk b f).events = s.events := rfl
@[simp] theorem State.modBrk_capture (b : Nat) (f : BreakerRec → BreakerRec) : (s.modBrk b f).capture = s.capture := rfl
@[simp] theorem State.modBrk_mgmt (b : Nat) (f : BreakerRec → BreakerRec) : (s.modBrk b f).mgmt = s.mgmt := rfl

/-! ### modLines -/

@[simp] theorem State.modLines_pending (f : Lines → Lines) : (s.modLines f).pending = s.pending := rfl
@[simp] theorem State.modLines_work (f : Lines → Lines) : (s.modLines f).work = s.work := rfl
@[simp] theorem State.modLines_risen (f : Lines → Lines) : (s.modLines f).risen = s.risen := rfl
@[simp] theorem State.modLines_closing (f : Lines → Lines) : (s.modLines f).closing = s.closing := rfl
@[simp] theorem State.modLines_hushed (f : Lines → Lines) : (s.modLines f).hushed = s.hushed := rfl
@[simp] theorem State.modLines_free (f : Lines → Lines) : (s.modLines f).free = s.free := rfl
@[simp] theorem State.modLines_links (f : Lines → Lines) : (s.modLines f).links = s.links := rfl
@[simp] theorem State.modLines_aligner (f : Lines → Lines) : (s.modLines f).aligner = s.aligner := rfl
@[simp] theorem State.modLines_intake (f : Lines → Lines) : (s.modLines f).intake = s.intake := rfl
@[simp] theorem State.modLines_measures (f : Lines → Lines) : (s.modLines f).measures = s.measures := rfl
@[simp] theorem State.modLines_elements (f : Lines → Lines) : (s.modLines f).elements = s.elements := rfl
@[simp] theorem State.modLines_lines (f : Lines → Lines) : (s.modLines f).lines = f s.lines := rfl
@[simp] theorem State.modLines_breakers (f : Lines → Lines) : (s.modLines f).breakers = s.breakers := rfl
@[simp] theorem State.modLines_seq (f : Lines → Lines) : (s.modLines f).seq = s.seq := rfl
@[simp] theorem State.modLines_par (f : Lines → Lines) : (s.modLines f).par = s.par := rfl
@[simp] theorem State.modLines_events (f : Lines → Lines) : (s.modLines f).events = s.events := rfl
@[simp] theorem State.modLines_capture (f : Lines → Lines) : (s.modLines f).capture = s.capture := rfl
@[simp] theorem State.modLines_mgmt (f : Lines → Lines) : (s.modLines f).mgmt = s.mgmt := rfl

/-! ### modAligner -/

@[simp] theorem State.modAligner_pending (f : Aligner → Aligner) : (s.modAligner f).pending = s.pending := rfl
@[simp] theorem State.modAligner_work (f : Aligner → Aligner) : (s.modAligner f).work = s.work := rfl
@[simp] theorem State.modAligner_risen (f : Aligner → Aligner) : (s.modAligner f).risen = s.risen := rfl
@[simp] theorem State.modAligner_closing (f : Aligner → Aligner) : (s.modAligner f).closing = s.closing := rfl
@[simp] theorem State.modAligner_hushed (f : Aligner → Aligner) : (s.modAligner f).hushed = s.hushed := rfl
@[simp] theorem State.modAligner_free (f : Aligner → Aligner) : (s.modAligner f).free = s.free := rfl
@[simp] theorem State.modAligner_links (f : Aligner → Aligner) : (s.modAligner f).links = s.links := rfl
@[simp] theorem State.modAligner_aligner (f : Aligner → Aligner) : (s.modAligner f).aligner = f s.aligner := rfl
@[simp] theorem State.modAligner_intake (f : Aligner → Aligner) : (s.modAligner f).intake = s.intake := rfl
@[simp] theorem State.modAligner_measures (f : Aligner → Aligner) : (s.modAligner f).measures = s.measures := rfl
@[simp] theorem State.modAligner_elements (f : Aligner → Aligner) : (s.modAligner f).elements = s.elements := rfl
@[simp] theorem State.modAligner_lines (f : Aligner → Aligner) : (s.modAligner f).lines = s.lines := rfl
@[simp] theorem State.modAligner_breakers (f : Aligner → Aligner) : (s.modAligner f).breakers = s.breakers := rfl
@[simp] theorem State.modAligner_seq (f : Aligner → Aligner) : (s.modAligner f).seq = s.seq := rfl
@[simp] theorem State.modAligner_par (f : Aligner → Aligner) : (s.modAligner f).par = s.par := rfl
@[simp] theorem State.modAligner_events (f : Aligner → Aligner) : (s.modAligner f).events = s.events := rfl
@[simp] theorem State.modAligner_capture (f : Aligner → Aligner) : (s.modAligner f).capture = s.capture := rfl
@[simp] theorem State.modAligner_mgmt (f : Aligner → Aligner) : (s.modAligner f).mgmt = s.mgmt := rfl

/-! ### modSeq -/

@[simp] theorem State.modSeq_pending (f : Sequencer → Sequencer) : (s.modSeq f).pending = s.pending := rfl
@[simp] theorem State.modSeq_work (f : Sequencer → Sequencer) : (s.modSeq f).work = s.work := rfl
@[simp] theorem State.modSeq_risen (f : Sequencer → Sequencer) : (s.modSeq f).risen = s.risen := rfl
@[simp] theorem State.modSeq_closing (f : Sequencer → Sequencer) : (s.modSeq f).closing = s.closing := rfl
@[simp] theorem State.modSeq_hushed (f : Sequencer → Sequencer) : (s.modSeq f).hushed = s.hushed := rfl
@[simp] theorem State.modSeq_free (f : Sequencer → Sequencer) : (s.modSeq f).free = s.free := rfl
@[simp] theorem State.modSeq_links (f : Sequencer → Sequencer) : (s.modSeq f).links = s.links := rfl
@[simp] theorem State.modSeq_aligner (f : Sequencer → Sequencer) : (s.modSeq f).aligner = s.aligner := rfl
@[simp] theorem State.modSeq_intake (f : Sequencer → Sequencer) : (s.modSeq f).intake = s.intake := rfl
@[simp] theorem State.modSeq_measures (f : Sequencer → Sequencer) : (s.modSeq f).measures = s.measures := rfl
@[simp] theorem State.modSeq_elements (f : Sequencer → Sequencer) : (s.modSeq f).elements = s.elements := rfl
@[simp] theorem State.modSeq_lines (f : Sequencer → Sequencer) : (s.modSeq f).lines = s.lines := rfl
@[simp] theorem State.modSeq_breakers (f : Sequencer → Sequencer) : (s.modSeq f).breakers = s.breakers := rfl
@[simp] theorem State.modSeq_seq (f : Sequencer → Sequencer) : (s.modSeq f).seq = f s.seq := rfl
@[simp] theorem State.modSeq_par (f : Sequencer → Sequencer) : (s.modSeq f).par = s.par := rfl
@[simp] theorem State.modSeq_events (f : Sequencer → Sequencer) : (s.modSeq f).events = s.events := rfl
@[simp] theorem State.modSeq_capture (f : Sequencer → Sequencer) : (s.modSeq f).capture = s.capture := rfl
@[simp] theorem State.modSeq_mgmt (f : Sequencer → Sequencer) : (s.modSeq f).mgmt = s.mgmt := rfl

/-! ### modSource -/

@[simp] theorem State.modSource_pending (x : Nat) (f : SourceRec → SourceRec) : (s.modSource x f).pending = s.pending := rfl
@[simp] theorem State.modSource_work (x : Nat) (f : SourceRec → SourceRec) : (s.modSource x f).work = s.work := rfl
@[simp] theorem State.modSource_risen (x : Nat) (f : SourceRec → SourceRec) : (s.modSource x f).risen = s.risen := rfl
@[simp] theorem State.modSource_closing (x : Nat) (f : SourceRec → SourceRec) : (s.modSource x f).closing = s.closing := rfl
@[simp] theorem State.modSource_hushed (x : Nat) (f : SourceRec → SourceRec) : (s.modSource x f).hushed = s.hushed := rfl
@[simp] theorem State.modSource_free (x : Nat) (f : SourceRec → SourceRec) : (s.modSource x f).free = s.free := rfl
@[simp] theorem State.modSource_links (x : Nat) (f : SourceRec → SourceRec) : (s.modSource x f).links = s.links := rfl
@[simp] theorem State.modSource_aligner (x : Nat) (f : SourceRec → SourceRec) : (s.modSource x f).aligner = s.aligner := rfl
@[simp] theorem State.modSource_intake (x : Nat) (f : SourceRec → SourceRec) : (s.modSource x f).intake = s.intake := rfl
@[simp] theorem State.modSource_measures (x : Nat) (f : SourceRec → SourceRec) : (s.modSource x f).measures = s.measures := rfl
@[simp] theorem State.modSource_elements (x : Nat) (f : SourceRec → SourceRec) : (s.modSource x f).elements = s.elements := rfl
@[simp] theorem State.modSource_lines (x : Nat) (f : SourceRec → SourceRec) : (s.modSource x f).lines = s.lines := rfl
@[simp] theorem State.modSource_breakers (x : Nat) (f : SourceRec → SourceRec) : (s.modSource x f).breakers = s.breakers := rfl
@[simp] theorem State.modSource_seq (x : Nat) (f : SourceRec → SourceRec) : (s.modSource x f).seq = { s.seq with sources := s.seq.sources.modify x f } := rfl
@[simp] theorem State.modSource_par (x : Nat) (f : SourceRec → SourceRec) : (s.modSource x f).par = s.par := rfl
@[simp] theorem State.modSource_events (x : Nat) (f : SourceRec → SourceRec) : (s.modSource x f).events = s.events := rfl
@[simp] theorem State.modSource_capture (x : Nat) (f : SourceRec → SourceRec) : (s.modSource x f).capture = s.capture := rfl
@[simp] theorem State.modSource_mgmt (x : Nat) (f : SourceRec → SourceRec) : (s.modSource x f).mgmt = s.mgmt := rfl

/-! ### modPar -/

@[simp] theorem State.modPar_pending (f : Paralleling → Paralleling) : (s.modPar f).pending = s.pending := rfl
@[simp] theorem State.modPar_work (f : Paralleling → Paralleling) : (s.modPar f).work = s.work := rfl
@[simp] theorem State.modPar_risen (f : Paralleling → Paralleling) : (s.modPar f).risen = s.risen := rfl
@[simp] theorem State.modPar_closing (f : Paralleling → Paralleling) : (s.modPar f).closing = s.closing := rfl
@[simp] theorem State.modPar_hushed (f : Paralleling → Paralleling) : (s.modPar f).hushed = s.hushed := rfl
@[simp] theorem State.modPar_free (f : Paralleling → Paralleling) : (s.modPar f).free = s.free := rfl
@[simp] theorem State.modPar_links (f : Paralleling → Paralleling) : (s.modPar f).links = s.links := rfl
@[simp] theorem State.modPar_aligner (f : Paralleling → Paralleling) : (s.modPar f).aligner = s.aligner := rfl
@[simp] theorem State.modPar_intake (f : Paralleling → Paralleling) : (s.modPar f).intake = s.intake := rfl
@[simp] theorem State.modPar_measures (f : Paralleling → Paralleling) : (s.modPar f).measures = s.measures := rfl
@[simp] theorem State.modPar_elements (f : Paralleling → Paralleling) : (s.modPar f).elements = s.elements := rfl
@[simp] theorem State.modPar_lines (f : Paralleling → Paralleling) : (s.modPar f).lines = s.lines := rfl
@[simp] theorem State.modPar_breakers (f : Paralleling → Paralleling) : (s.modPar f).breakers = s.breakers := rfl
@[simp] theorem State.modPar_seq (f : Paralleling → Paralleling) : (s.modPar f).seq = s.seq := rfl
@[simp] theorem State.modPar_par (f : Paralleling → Paralleling) : (s.modPar f).par = f s.par := rfl
@[simp] theorem State.modPar_events (f : Paralleling → Paralleling) : (s.modPar f).events = s.events := rfl
@[simp] theorem State.modPar_capture (f : Paralleling → Paralleling) : (s.modPar f).capture = s.capture := rfl
@[simp] theorem State.modPar_mgmt (f : Paralleling → Paralleling) : (s.modPar f).mgmt = s.mgmt := rfl

/-! ### modGen -/

@[simp] theorem State.modGen_pending (g : Nat) (f : GenRec → GenRec) : (s.modGen g f).pending = s.pending := rfl
@[simp] theorem State.modGen_work (g : Nat) (f : GenRec → GenRec) : (s.modGen g f).work = s.work := rfl
@[simp] theorem State.modGen_risen (g : Nat) (f : GenRec → GenRec) : (s.modGen g f).risen = s.risen := rfl
@[simp] theorem State.modGen_closing (g : Nat) (f : GenRec → GenRec) : (s.modGen g f).closing = s.closing := rfl
@[simp] theorem State.modGen_hushed (g : Nat) (f : GenRec → GenRec) : (s.modGen g f).hushed = s.hushed := rfl
@[simp] theorem State.modGen_free (g : Nat) (f : GenRec → GenRec) : (s.modGen g f).free = s.free := rfl
@[simp] theorem State.modGen_links (g : Nat) (f : GenRec → GenRec) : (s.modGen g f).links = s.links := rfl
@[simp] theorem State.modGen_aligner (g : Nat) (f : GenRec → GenRec) : (s.modGen g f).aligner = s.aligner := rfl
@[simp] theorem State.modGen_intake (g : Nat) (f : GenRec → GenRec) : (s.modGen g f).intake = s.intake := rfl
@[simp] theorem State.modGen_measures (g : Nat) (f : GenRec → GenRec) : (s.modGen g f).measures = s.measures := rfl
@[simp] theorem State.modGen_elements (g : Nat) (f : GenRec → GenRec) : (s.modGen g f).elements = s.elements := rfl
@[simp] theorem State.modGen_lines (g : Nat) (f : GenRec → GenRec) : (s.modGen g f).lines = s.lines := rfl
@[simp] theorem State.modGen_breakers (g : Nat) (f : GenRec → GenRec) : (s.modGen g f).breakers = s.breakers := rfl
@[simp] theorem State.modGen_seq (g : Nat) (f : GenRec → GenRec) : (s.modGen g f).seq = s.seq := rfl
@[simp] theorem State.modGen_par (g : Nat) (f : GenRec → GenRec) : (s.modGen g f).par = { s.par with gens := s.par.gens.modify g f } := rfl
@[simp] theorem State.modGen_events (g : Nat) (f : GenRec → GenRec) : (s.modGen g f).events = s.events := rfl
@[simp] theorem State.modGen_capture (g : Nat) (f : GenRec → GenRec) : (s.modGen g f).capture = s.capture := rfl
@[simp] theorem State.modGen_mgmt (g : Nat) (f : GenRec → GenRec) : (s.modGen g f).mgmt = s.mgmt := rfl

/-! ### setChannel -/

@[simp] theorem State.setChannel_pending (c : Nat) (r : Option SyncRun) : (s.setChannel c r).pending = s.pending := rfl
@[simp] theorem State.setChannel_work (c : Nat) (r : Option SyncRun) : (s.setChannel c r).work = s.work := rfl
@[simp] theorem State.setChannel_risen (c : Nat) (r : Option SyncRun) : (s.setChannel c r).risen = s.risen := rfl
@[simp] theorem State.setChannel_closing (c : Nat) (r : Option SyncRun) : (s.setChannel c r).closing = s.closing := rfl
@[simp] theorem State.setChannel_hushed (c : Nat) (r : Option SyncRun) : (s.setChannel c r).hushed = s.hushed := rfl
@[simp] theorem State.setChannel_free (c : Nat) (r : Option SyncRun) : (s.setChannel c r).free = s.free := rfl
@[simp] theorem State.setChannel_links (c : Nat) (r : Option SyncRun) : (s.setChannel c r).links = s.links := rfl
@[simp] theorem State.setChannel_aligner (c : Nat) (r : Option SyncRun) : (s.setChannel c r).aligner = s.aligner := rfl
@[simp] theorem State.setChannel_intake (c : Nat) (r : Option SyncRun) : (s.setChannel c r).intake = s.intake := rfl
@[simp] theorem State.setChannel_measures (c : Nat) (r : Option SyncRun) : (s.setChannel c r).measures = s.measures := rfl
@[simp] theorem State.setChannel_elements (c : Nat) (r : Option SyncRun) : (s.setChannel c r).elements = s.elements := rfl
@[simp] theorem State.setChannel_lines (c : Nat) (r : Option SyncRun) : (s.setChannel c r).lines = s.lines := rfl
@[simp] theorem State.setChannel_breakers (c : Nat) (r : Option SyncRun) : (s.setChannel c r).breakers = s.breakers := rfl
@[simp] theorem State.setChannel_seq (c : Nat) (r : Option SyncRun) : (s.setChannel c r).seq = s.seq := rfl
@[simp] theorem State.setChannel_par (c : Nat) (r : Option SyncRun) : (s.setChannel c r).par = { s.par with channels := s.par.channels.set c r } := rfl
@[simp] theorem State.setChannel_events (c : Nat) (r : Option SyncRun) : (s.setChannel c r).events = s.events := rfl
@[simp] theorem State.setChannel_capture (c : Nat) (r : Option SyncRun) : (s.setChannel c r).capture = s.capture := rfl
@[simp] theorem State.setChannel_mgmt (c : Nat) (r : Option SyncRun) : (s.setChannel c r).mgmt = s.mgmt := rfl

/-! ### modCapture -/

@[simp] theorem State.modCapture_pending (f : Capture → Capture) : (s.modCapture f).pending = s.pending := rfl
@[simp] theorem State.modCapture_work (f : Capture → Capture) : (s.modCapture f).work = s.work := rfl
@[simp] theorem State.modCapture_risen (f : Capture → Capture) : (s.modCapture f).risen = s.risen := rfl
@[simp] theorem State.modCapture_closing (f : Capture → Capture) : (s.modCapture f).closing = s.closing := rfl
@[simp] theorem State.modCapture_hushed (f : Capture → Capture) : (s.modCapture f).hushed = s.hushed := rfl
@[simp] theorem State.modCapture_free (f : Capture → Capture) : (s.modCapture f).free = s.free := rfl
@[simp] theorem State.modCapture_links (f : Capture → Capture) : (s.modCapture f).links = s.links := rfl
@[simp] theorem State.modCapture_aligner (f : Capture → Capture) : (s.modCapture f).aligner = s.aligner := rfl
@[simp] theorem State.modCapture_intake (f : Capture → Capture) : (s.modCapture f).intake = s.intake := rfl
@[simp] theorem State.modCapture_measures (f : Capture → Capture) : (s.modCapture f).measures = s.measures := rfl
@[simp] theorem State.modCapture_elements (f : Capture → Capture) : (s.modCapture f).elements = s.elements := rfl
@[simp] theorem State.modCapture_lines (f : Capture → Capture) : (s.modCapture f).lines = s.lines := rfl
@[simp] theorem State.modCapture_breakers (f : Capture → Capture) : (s.modCapture f).breakers = s.breakers := rfl
@[simp] theorem State.modCapture_seq (f : Capture → Capture) : (s.modCapture f).seq = s.seq := rfl
@[simp] theorem State.modCapture_par (f : Capture → Capture) : (s.modCapture f).par = s.par := rfl
@[simp] theorem State.modCapture_events (f : Capture → Capture) : (s.modCapture f).events = s.events := rfl
@[simp] theorem State.modCapture_capture (f : Capture → Capture) : (s.modCapture f).capture = f s.capture := rfl
@[simp] theorem State.modCapture_mgmt (f : Capture → Capture) : (s.modCapture f).mgmt = s.mgmt := rfl

/-! ### modMgmt -/

@[simp] theorem State.modMgmt_pending (f : Management → Management) : (s.modMgmt f).pending = s.pending := rfl
@[simp] theorem State.modMgmt_work (f : Management → Management) : (s.modMgmt f).work = s.work := rfl
@[simp] theorem State.modMgmt_risen (f : Management → Management) : (s.modMgmt f).risen = s.risen := rfl
@[simp] theorem State.modMgmt_closing (f : Management → Management) : (s.modMgmt f).closing = s.closing := rfl
@[simp] theorem State.modMgmt_hushed (f : Management → Management) : (s.modMgmt f).hushed = s.hushed := rfl
@[simp] theorem State.modMgmt_free (f : Management → Management) : (s.modMgmt f).free = s.free := rfl
@[simp] theorem State.modMgmt_links (f : Management → Management) : (s.modMgmt f).links = s.links := rfl
@[simp] theorem State.modMgmt_aligner (f : Management → Management) : (s.modMgmt f).aligner = s.aligner := rfl
@[simp] theorem State.modMgmt_intake (f : Management → Management) : (s.modMgmt f).intake = s.intake := rfl
@[simp] theorem State.modMgmt_measures (f : Management → Management) : (s.modMgmt f).measures = s.measures := rfl
@[simp] theorem State.modMgmt_elements (f : Management → Management) : (s.modMgmt f).elements = s.elements := rfl
@[simp] theorem State.modMgmt_lines (f : Management → Management) : (s.modMgmt f).lines = s.lines := rfl
@[simp] theorem State.modMgmt_breakers (f : Management → Management) : (s.modMgmt f).breakers = s.breakers := rfl
@[simp] theorem State.modMgmt_seq (f : Management → Management) : (s.modMgmt f).seq = s.seq := rfl
@[simp] theorem State.modMgmt_par (f : Management → Management) : (s.modMgmt f).par = s.par := rfl
@[simp] theorem State.modMgmt_events (f : Management → Management) : (s.modMgmt f).events = s.events := rfl
@[simp] theorem State.modMgmt_capture (f : Management → Management) : (s.modMgmt f).capture = s.capture := rfl
@[simp] theorem State.modMgmt_mgmt (f : Management → Management) : (s.modMgmt f).mgmt = f s.mgmt := rfl

/-! ### setTable -/

@[simp] theorem State.setTable_pending (t : TableId) (c : Table) : (s.setTable t c).pending = s.pending := rfl
@[simp] theorem State.setTable_work (t : TableId) (c : Table) : (s.setTable t c).work = s.work := rfl
@[simp] theorem State.setTable_risen (t : TableId) (c : Table) : (s.setTable t c).risen = s.risen := rfl
@[simp] theorem State.setTable_closing (t : TableId) (c : Table) : (s.setTable t c).closing = s.closing := rfl
@[simp] theorem State.setTable_hushed (t : TableId) (c : Table) : (s.setTable t c).hushed = s.hushed := rfl
@[simp] theorem State.setTable_free (t : TableId) (c : Table) : (s.setTable t c).free = s.free := rfl
@[simp] theorem State.setTable_links (t : TableId) (c : Table) : (s.setTable t c).links = s.links := rfl
@[simp] theorem State.setTable_aligner (t : TableId) (c : Table) : (s.setTable t c).aligner = s.aligner := rfl
@[simp] theorem State.setTable_intake (t : TableId) (c : Table) : (s.setTable t c).intake = s.intake := rfl
@[simp] theorem State.setTable_measures (t : TableId) (c : Table) : (s.setTable t c).measures = s.measures := rfl
@[simp] theorem State.setTable_elements (t : TableId) (c : Table) : (s.setTable t c).elements = s.elements := rfl
@[simp] theorem State.setTable_lines (t : TableId) (c : Table) : (s.setTable t c).lines = s.lines := rfl
@[simp] theorem State.setTable_breakers (t : TableId) (c : Table) : (s.setTable t c).breakers = s.breakers := rfl
@[simp] theorem State.setTable_seq (t : TableId) (c : Table) : (s.setTable t c).seq = s.seq := rfl
@[simp] theorem State.setTable_par (t : TableId) (c : Table) : (s.setTable t c).par = s.par := rfl
@[simp] theorem State.setTable_events (t : TableId) (c : Table) : (s.setTable t c).events = s.events := rfl
@[simp] theorem State.setTable_capture (t : TableId) (c : Table) : (s.setTable t c).capture = s.capture := rfl
@[simp] theorem State.setTable_mgmt (t : TableId) (c : Table) : (s.setTable t c).mgmt = { s.mgmt with tables := s.mgmt.tables.set t.number c } := rfl

/-! ### post -/

@[simp] theorem State.post_pending (w : Work) : (s.post w).pending = s.pending := rfl
@[simp] theorem State.post_work (w : Work) : (s.post w).work = s.work ++ [w] := rfl
@[simp] theorem State.post_risen (w : Work) : (s.post w).risen = s.risen := rfl
@[simp] theorem State.post_closing (w : Work) : (s.post w).closing = s.closing := rfl
@[simp] theorem State.post_hushed (w : Work) : (s.post w).hushed = s.hushed := rfl
@[simp] theorem State.post_free (w : Work) : (s.post w).free = s.free := rfl
@[simp] theorem State.post_links (w : Work) : (s.post w).links = s.links := rfl
@[simp] theorem State.post_aligner (w : Work) : (s.post w).aligner = s.aligner := rfl
@[simp] theorem State.post_intake (w : Work) : (s.post w).intake = s.intake := rfl
@[simp] theorem State.post_measures (w : Work) : (s.post w).measures = s.measures := rfl
@[simp] theorem State.post_elements (w : Work) : (s.post w).elements = s.elements := rfl
@[simp] theorem State.post_lines (w : Work) : (s.post w).lines = s.lines := rfl
@[simp] theorem State.post_breakers (w : Work) : (s.post w).breakers = s.breakers := rfl
@[simp] theorem State.post_seq (w : Work) : (s.post w).seq = s.seq := rfl
@[simp] theorem State.post_par (w : Work) : (s.post w).par = s.par := rfl
@[simp] theorem State.post_events (w : Work) : (s.post w).events = s.events := rfl
@[simp] theorem State.post_capture (w : Work) : (s.post w).capture = s.capture := rfl
@[simp] theorem State.post_mgmt (w : Work) : (s.post w).mgmt = s.mgmt := rfl

/-! ### draw -/

@[simp] theorem State.draw_pending : s.draw.pending = s.pending := rfl
@[simp] theorem State.draw_work : s.draw.work = s.work := rfl
@[simp] theorem State.draw_risen : s.draw.risen = s.risen := rfl
@[simp] theorem State.draw_closing : s.draw.closing = s.closing := rfl
@[simp] theorem State.draw_hushed : s.draw.hushed = s.hushed := rfl
@[simp] theorem State.draw_free : s.draw.free = s.free + 1 := rfl
@[simp] theorem State.draw_links : s.draw.links = s.links := rfl
@[simp] theorem State.draw_aligner : s.draw.aligner = s.aligner := rfl
@[simp] theorem State.draw_intake : s.draw.intake = s.intake := rfl
@[simp] theorem State.draw_measures : s.draw.measures = s.measures := rfl
@[simp] theorem State.draw_elements : s.draw.elements = s.elements := rfl
@[simp] theorem State.draw_lines : s.draw.lines = s.lines := rfl
@[simp] theorem State.draw_breakers : s.draw.breakers = s.breakers := rfl
@[simp] theorem State.draw_seq : s.draw.seq = s.seq := rfl
@[simp] theorem State.draw_par : s.draw.par = s.par := rfl
@[simp] theorem State.draw_events : s.draw.events = s.events := rfl
@[simp] theorem State.draw_capture : s.draw.capture = s.capture := rfl
@[simp] theorem State.draw_mgmt : s.draw.mgmt = s.mgmt := rfl

/-! ### noting -/

@[simp] theorem State.noting_pending (t : State) : (s.noting t).pending = t.pending := rfl
@[simp] theorem State.noting_work (t : State) : (s.noting t).work = t.work := rfl
@[simp] theorem State.noting_closing (t : State) : (s.noting t).closing = t.closing := rfl
@[simp] theorem State.noting_hushed (t : State) : (s.noting t).hushed = t.hushed := rfl
@[simp] theorem State.noting_free (t : State) : (s.noting t).free = t.free := rfl
@[simp] theorem State.noting_links (t : State) : (s.noting t).links = t.links := rfl
@[simp] theorem State.noting_aligner (t : State) : (s.noting t).aligner = t.aligner := rfl
@[simp] theorem State.noting_intake (t : State) : (s.noting t).intake = t.intake := rfl
@[simp] theorem State.noting_measures (t : State) : (s.noting t).measures = t.measures := rfl
@[simp] theorem State.noting_elements (t : State) : (s.noting t).elements = t.elements := rfl
@[simp] theorem State.noting_lines (t : State) : (s.noting t).lines = t.lines := rfl
@[simp] theorem State.noting_breakers (t : State) : (s.noting t).breakers = t.breakers := rfl
@[simp] theorem State.noting_seq (t : State) : (s.noting t).seq = t.seq := rfl
@[simp] theorem State.noting_par (t : State) : (s.noting t).par = t.par := rfl
@[simp] theorem State.noting_events (t : State) : (s.noting t).events = t.events := rfl
@[simp] theorem State.noting_capture (t : State) : (s.noting t).capture = t.capture := rfl
@[simp] theorem State.noting_mgmt (t : State) : (s.noting t).mgmt = t.mgmt := rfl
@[simp] theorem State.noting_risen (t : State) : (s.noting t).risen = t.risen ++ t.captureTriggers.filter (fun p =>
    movingPoint p && !s.point p && t.point p) := rfl

/-- A setting that raises no moving point notes nothing. -/
theorem State.noting_same {t : State} (h : ∀ p, movingPoint p = true → s.point p = false → t.point p = false) :
    s.noting t = t := by
  have e : t.captureTriggers.filter (fun p => movingPoint p && !s.point p && t.point p) = [] := by
    rw [List.filter_eq_nil_iff]
    intro p _
    cases hm : movingPoint p <;> cases hp : s.point p <;> simp
    exact h p hm hp
  simp [State.noting, e]

/-! ### askAdd -/

@[simp] theorem State.askAdd_pending (b : Nat) (m : Member) : (s.askAdd b m).pending = s.pending := rfl
@[simp] theorem State.askAdd_work (b : Nat) (m : Member) : (s.askAdd b m).work = s.work := rfl
@[simp] theorem State.askAdd_risen (b : Nat) (m : Member) : (s.askAdd b m).risen = s.risen := rfl
@[simp] theorem State.askAdd_closing (b : Nat) (m : Member) : (s.askAdd b m).closing = s.closing := rfl
@[simp] theorem State.askAdd_hushed (b : Nat) (m : Member) : (s.askAdd b m).hushed = s.hushed := rfl
@[simp] theorem State.askAdd_free (b : Nat) (m : Member) : (s.askAdd b m).free = s.free := rfl
@[simp] theorem State.askAdd_links (b : Nat) (m : Member) : (s.askAdd b m).links = s.links := rfl
@[simp] theorem State.askAdd_aligner (b : Nat) (m : Member) : (s.askAdd b m).aligner = s.aligner := rfl
@[simp] theorem State.askAdd_intake (b : Nat) (m : Member) : (s.askAdd b m).intake = s.intake := rfl
@[simp] theorem State.askAdd_measures (b : Nat) (m : Member) : (s.askAdd b m).measures = s.measures := rfl
@[simp] theorem State.askAdd_elements (b : Nat) (m : Member) : (s.askAdd b m).elements = s.elements := rfl
@[simp] theorem State.askAdd_lines (b : Nat) (m : Member) : (s.askAdd b m).lines = s.lines := rfl
@[simp] theorem State.askAdd_breakers (b : Nat) (m : Member) : (s.askAdd b m).breakers = { s.breakers with requests := s.breakers.requests ++ [⟨true, b, m⟩] } := rfl
@[simp] theorem State.askAdd_seq (b : Nat) (m : Member) : (s.askAdd b m).seq = s.seq := rfl
@[simp] theorem State.askAdd_par (b : Nat) (m : Member) : (s.askAdd b m).par = s.par := rfl
@[simp] theorem State.askAdd_events (b : Nat) (m : Member) : (s.askAdd b m).events = s.events := rfl
@[simp] theorem State.askAdd_capture (b : Nat) (m : Member) : (s.askAdd b m).capture = s.capture := rfl
@[simp] theorem State.askAdd_mgmt (b : Nat) (m : Member) : (s.askAdd b m).mgmt = s.mgmt := rfl

/-! ### askRemove -/

@[simp] theorem State.askRemove_pending (b : Nat) (m : Member) : (s.askRemove b m).pending = s.pending := rfl
@[simp] theorem State.askRemove_work (b : Nat) (m : Member) : (s.askRemove b m).work = s.work := rfl
@[simp] theorem State.askRemove_risen (b : Nat) (m : Member) : (s.askRemove b m).risen = s.risen := rfl
@[simp] theorem State.askRemove_closing (b : Nat) (m : Member) : (s.askRemove b m).closing = s.closing := rfl
@[simp] theorem State.askRemove_hushed (b : Nat) (m : Member) : (s.askRemove b m).hushed = s.hushed := rfl
@[simp] theorem State.askRemove_free (b : Nat) (m : Member) : (s.askRemove b m).free = s.free := rfl
@[simp] theorem State.askRemove_links (b : Nat) (m : Member) : (s.askRemove b m).links = s.links := rfl
@[simp] theorem State.askRemove_aligner (b : Nat) (m : Member) : (s.askRemove b m).aligner = s.aligner := rfl
@[simp] theorem State.askRemove_intake (b : Nat) (m : Member) : (s.askRemove b m).intake = s.intake := rfl
@[simp] theorem State.askRemove_measures (b : Nat) (m : Member) : (s.askRemove b m).measures = s.measures := rfl
@[simp] theorem State.askRemove_elements (b : Nat) (m : Member) : (s.askRemove b m).elements = s.elements := rfl
@[simp] theorem State.askRemove_lines (b : Nat) (m : Member) : (s.askRemove b m).lines = s.lines := rfl
@[simp] theorem State.askRemove_breakers (b : Nat) (m : Member) : (s.askRemove b m).breakers = { s.breakers with requests := s.breakers.requests ++ [⟨false, b, m⟩] } := rfl
@[simp] theorem State.askRemove_seq (b : Nat) (m : Member) : (s.askRemove b m).seq = s.seq := rfl
@[simp] theorem State.askRemove_par (b : Nat) (m : Member) : (s.askRemove b m).par = s.par := rfl
@[simp] theorem State.askRemove_events (b : Nat) (m : Member) : (s.askRemove b m).events = s.events := rfl
@[simp] theorem State.askRemove_capture (b : Nat) (m : Member) : (s.askRemove b m).capture = s.capture := rfl
@[simp] theorem State.askRemove_mgmt (b : Nat) (m : Member) : (s.askRemove b m).mgmt = s.mgmt := rfl

end Sys2Proof.Machine
end

