-- ==== Sys2Proof/Laws/Ports.lean ====
section
/-! SUPPORT. What the building, the admission and the withdrawal of frames leave alone at the link ports: everything but
the queues, the mirror-dropped count and the sequence counters; the bounds of the queues, which they keep; and which of them
put no frame for a generator controller there. -/

namespace Sys2Proof.Machine

/-- `q` differs from `p` at most in the queues and the mirror-dropped count, keeps the bounds of R12 and R16 where
`p` has them, and has no frame on a link that is DOWN where `p` has none. -/
structure PortFrame (p q : LinkPort) : Prop where
  eq : q = { p with urgent := q.urgent, normal := q.normal, bulk := q.bulk, mirrorDropped := q.mirrorDropped }
  bulk : p.bulk.length ≤ Config.bulkPlaces → q.bulk.length ≤ Config.bulkPlaces
  pages : p.normalCount OutFrame.isAbility ≤ Config.normalClassLimit →
    q.normalCount OutFrame.isAbility ≤ Config.normalClassLimit
  events : p.normalCount OutFrame.isEvent ≤ Config.normalClassLimit →
    q.normalCount OutFrame.isEvent ≤ Config.normalClassLimit
  down : p.up = false → p.urgent = [] ∧ p.normal = [] ∧ p.bulk = [] →
    q.urgent = [] ∧ q.normal = [] ∧ q.bulk = []

theorem PortFrame.refl (p : LinkPort) : PortFrame p p := ⟨rfl, id, id, id, fun _ h => h⟩

theorem PortFrame.trans {p q r : LinkPort} (h : PortFrame p q) (k : PortFrame q r) : PortFrame p r := by
  refine ⟨?_, k.bulk ∘ h.bulk, k.pages ∘ h.pages, k.events ∘ h.events, fun hu hp => k.down ?_ (h.down hu hp)⟩
  · have e := k.eq
    rw [h.eq] at e
    exact e
  · rw [h.eq]
    exact hu

/-- Both ports keep to `PortFrame`, and the duplicate windows stand. -/
structure LinkFrame (x y : Links) : Prop where
  a : PortFrame x.a y.a
  b : PortFrame x.b y.b
  windows : y.windows = x.windows

theorem LinkFrame.refl (x : Links) : LinkFrame x x := ⟨PortFrame.refl _, PortFrame.refl _, rfl⟩

theorem LinkFrame.trans {x y z : Links} (h : LinkFrame x y) (k : LinkFrame y z) : LinkFrame x z :=
  ⟨h.a.trans k.a, h.b.trans k.b, k.windows.trans h.windows⟩

theorem LinkPort.removeCommand_frame (p : LinkPort) (b : Nat) : PortFrame p (p.removeCommand b) := by
  refine ⟨rfl, fun h => ?_, fun h => ?_, fun h => ?_, fun _ h => ?_⟩
  · exact (List.length_filter_le _ _).trans h
  · exact ((List.Sublist.filter _ List.filter_sublist).length_le).trans h
  · exact ((List.Sublist.filter _ List.filter_sublist).length_le).trans h
  · simp [LinkPort.removeCommand, h]

/-- A COMMAND frame admitted to a port that is UP. -/
theorem LinkPort.admitCommand_frame (p : LinkPort) (b c n : Nat) (a act : Action) (tag : Nat) (o : Origins)
    (src dst seq : Nat) (m l : Bool) (hu : p.up = true) :
    PortFrame p (p.admitCommand b a ⟨src, dst, seq, .command c n act tag o, m, l⟩).1 := by
  refine (LinkPort.removeCommand_frame p b).trans ?_
  generalize hq : p.removeCommand b = q
  have hv : q.up = true := by rw [← hq]; exact hu
  cases a with
  | opening =>
    simp only [LinkPort.admitCommand, hq]
    exact ⟨rfl, id, id, id, fun h => by simp [hv] at h⟩
  | closing =>
    simp only [LinkPort.admitCommand, hq]
    refine ⟨rfl, id, fun h => ?_, fun h => ?_, fun h => by simp [hv] at h⟩
    · simpa [LinkPort.normalCount, List.filter_append, OutFrame.isAbility] using h
    · simpa [LinkPort.normalCount, List.filter_append, OutFrame.isEvent] using h

theorem LinkPort.filter_map_genset (fs : List OutFrame) (g : Nat) (f : OutFrame) (t : OutFrame → Bool)
    (hf : t f = false) : ((fs.map (fun x => if x.gensetFor g then f else x)).filter t).length ≤ (fs.filter t).length := by
  induction fs with
  | nil => simp
  | cons x xs ih =>
    simp only [List.map_cons, List.filter_cons]
    by_cases hg : x.gensetFor g = true <;> by_cases ht : t x = true <;> simp [hg, ht, hf] <;> omega

/-- A GENSET frame admitted to a port that is UP. -/
theorem LinkPort.admitGenset_frame (p : LinkPort) (g k : Nat) (x : Setpoint) (src dst seq : Nat) (m l : Bool)
    (hu : p.up = true) : PortFrame p (p.admitGenset g ⟨src, dst, seq, .genset k x, m, l⟩).1 := by
  unfold LinkPort.admitGenset
  split
  · refine ⟨rfl, id, fun h => ?_, fun h => ?_, fun h => by simp [hu] at h⟩
    · exact (LinkPort.filter_map_genset _ _ _ _ rfl).trans h
    · exact (LinkPort.filter_map_genset _ _ _ _ rfl).trans h
  · refine ⟨rfl, id, fun h => ?_, fun h => ?_, fun h => by simp [hu] at h⟩
    · simpa [LinkPort.normalCount, List.filter_append, OutFrame.isAbility] using h
    · simpa [LinkPort.normalCount, List.filter_append, OutFrame.isEvent] using h

/-- An ABILITY frame admitted to a port that is UP. -/
theorem LinkPort.admitAbility_frame (p : LinkPort) (g : Nat) (x : Page) (src dst seq : Nat) (m l : Bool)
    (hu : p.up = true) :
    PortFrame p (p.admitNormal OutFrame.isAbility ⟨src, dst, seq, .ability g x, m, l⟩).1 := by
  unfold LinkPort.admitNormal
  split
  · next hn =>
    refine ⟨rfl, id, fun _ => ?_, fun h => ?_, fun h => by simp [hu] at h⟩
    · simp only [LinkPort.normalCount, List.filter_append, List.length_append] at hn ⊢
      exact (Nat.add_le_add_left (List.length_filter_le _ _) _).trans hn
    · simpa [LinkPort.normalCount, List.filter_append, OutFrame.isEvent] using h
  · exact PortFrame.refl _

/-- An urgent EVENT frame admitted to a port that is UP. -/
theorem LinkPort.admitEvent_frame (p : LinkPort) (rs : List EventRecord) (src dst seq : Nat) (m l : Bool)
    (hu : p.up = true) :
    PortFrame p (p.admitNormal OutFrame.isEvent ⟨src, dst, seq, .event rs, m, l⟩).1 := by
  unfold LinkPort.admitNormal
  split
  · next hn =>
    refine ⟨rfl, id, fun h => ?_, fun _ => ?_, fun h => by simp [hu] at h⟩
    · simpa [LinkPort.normalCount, List.filter_append, OutFrame.isAbility] using h
    · simp only [LinkPort.normalCount, List.filter_append, List.length_append] at hn ⊢
      exact (Nat.add_le_add_left (List.length_filter_le _ _) _).trans hn
  · exact PortFrame.refl _

/-- A frame placed in the bulk queue of a port that is UP. -/
theorem LinkPort.admitBulk_frame (p : LinkPort) (f : OutFrame) (hu : p.up = true) : PortFrame p (p.admitBulk f).1 := by
  unfold LinkPort.admitBulk
  split
  · next hr =>
    refine ⟨rfl, fun _ => ?_, id, id, fun h => by simp [hu] at h⟩
    simp only [LinkPort.bulkRoom, decide_eq_true_eq] at hr
    simpa [LinkPort.bulkAdd] using hr
  · exact PortFrame.refl _

/-- The withdrawal of a BIU frame from a port. -/
theorem LinkPort.withdraw_frame (p : LinkPort) (b tag : Nat) :
    PortFrame p { p with
      urgent := p.urgent.filter (fun f => !f.biuFrame b tag)
      normal := p.normal.filter (fun f => !f.biuFrame b tag) } := by
  refine ⟨rfl, id, fun h => ?_, fun h => ?_, fun _ h => ?_⟩
  · exact ((List.Sublist.filter _ List.filter_sublist).length_le).trans h
  · exact ((List.Sublist.filter _ List.filter_sublist).length_le).trans h
  · simp [h]

/-- What is done to the ports of the links that are UP. -/
theorem State.onUpLinks_links {s u : State} (f : LinkPort → LinkPort × Bool)
    (hf : ∀ p : LinkPort, p.up = true → PortFrame p (f p).1) (ha : u.links.a = s.links.a)
    (hb : u.links.b = s.links.b) (hw : u.links.windows = s.links.windows) :
    LinkFrame s.links (u.onUpLinks f).1.links := by
  refine ⟨?_, ?_, hw⟩
  · rw [← ha]
    simp only [State.onUpLinks]
    split
    · exact hf _ (by assumption)
    · exact PortFrame.refl _
  · rw [← hb]
    simp only [State.onUpLinks]
    split
    · exact hf _ (by assumption)
    · exact PortFrame.refl _

theorem State.sendCommand_links (s : State) (b : Nat) (a : Action) (tag : Nat) (o : Origins) :
    LinkFrame s.links (s.sendCommand b a tag o).links := by
  unfold State.sendCommand
  exact State.onUpLinks_links _ (fun p hu => LinkPort.admitCommand_frame p b _ _ a _ _ _ _ _ _ _ _ hu) rfl rfl rfl

theorem State.sendGenset_links (s : State) (g : Nat) (p : Setpoint) :
    LinkFrame s.links (s.sendGenset g p).links := by
  unfold State.sendGenset
  exact State.onUpLinks_links _ (fun q hu => LinkPort.admitGenset_frame q g _ _ _ _ _ _ _ hu) rfl rfl rfl

theorem State.sendPage_links (s : State) (g : Nat) (p : Page) : LinkFrame s.links (s.sendPage g p).links := by
  unfold State.sendPage
  split
  · exact LinkFrame.refl _
  · exact State.onUpLinks_links _ (fun q hu => LinkPort.admitAbility_frame q _ _ _ _ _ _ _ hu) rfl rfl rfl

theorem State.withdrawFrame_links (s : State) (b tag : Nat) : LinkFrame s.links (s.withdrawFrame b tag).links :=
  ⟨LinkPort.withdraw_frame _ b tag, LinkPort.withdraw_frame _ b tag, rfl⟩

theorem State.sendEvents_links (s : State) (urgent : Bool) : LinkFrame s.links (s.sendEvents urgent).links := by
  unfold State.sendEvents
  dsimp only
  generalize s.unsent urgent = rs
  split
  · exact LinkFrame.refl _
  · have h : ∀ seq, LinkFrame s.links (State.onUpLinks { s with links := { s.links with eventSeq := seq } }
        (if urgent then LinkPort.admitNormal OutFrame.isEvent
          ⟨s.ownAddress, 4095, s.links.eventSeq, .event rs, false, false⟩
        else LinkPort.admitBulk ⟨s.ownAddress, 4095, s.links.eventSeq, .event rs, false, false⟩)).1.links := by
      intro seq
      refine State.onUpLinks_links _ (fun p hu => ?_) rfl rfl rfl
      split
      · exact LinkPort.admitEvent_frame p _ _ _ _ _ _ hu
      · exact LinkPort.admitBulk_frame p _ hu
    split <;> exact h _

theorem State.sendAttempt_links (s : State) : LinkFrame s.links s.sendAttempt.links :=
  (s.sendEvents_links true).trans (State.sendEvents_links _ false)

theorem State.event_links (s : State) (c : EventClass) (priority object code : Nat) (value : Option Nat) :
    LinkFrame s.links (s.event c priority object code value).links := by
  unfold State.event
  generalize s.events.append _ = e
  exact State.sendAttempt_links { s with events := e }

/-! ### Frames for the generator controllers

What an operation keeps of them while no frame may go to a controller (R148). -/

/-- The frames in the queues of a link that are for a generator controller, in the order of the queues. -/
def LinkPort.toControllers (p : LinkPort) : List OutFrame := p.frames.filter OutFrame.toController

/-- No frame for a generator controller has been built, admitted or removed between `x` and `y`. -/
structure Silent (x y : Links) : Prop where
  a : y.a.toControllers = x.a.toControllers
  b : y.b.toControllers = x.b.toControllers
  genset : y.gensetSeq = x.gensetSeq
  ability : y.abilitySeq = x.abilitySeq

theorem Silent.refl (x : Links) : Silent x x := ⟨rfl, rfl, rfl, rfl⟩

theorem Silent.trans {x y z : Links} (h : Silent x y) (k : Silent y z) : Silent x z :=
  ⟨k.a.trans h.a, k.b.trans h.b, k.genset.trans h.genset, k.ability.trans h.ability⟩

/-- Frames that are for no controller may be taken out of a list without a frame for one going. -/
theorem filter_toController (fs : List OutFrame) (t : OutFrame → Bool)
    (h : ∀ f : OutFrame, f.toController = true → t f = true) :
    (fs.filter t).filter OutFrame.toController = fs.filter OutFrame.toController := by
  rw [List.filter_filter]
  refine List.filter_congr fun f _ => ?_
  cases hf : f.toController
  · rfl
  · simp [h f hf]

theorem OutFrame.toController_not_command (f : OutFrame) (b : Nat) (h : f.toController = true) :
    (!f.commandFor b) = true := by
  obtain ⟨_, _, _, body, _, _⟩ := f
  cases body <;> simp_all [OutFrame.toController, OutFrame.commandFor]

theorem OutFrame.toController_not_biu (f : OutFrame) (b tag : Nat) (h : f.toController = true) :
    (!f.biuFrame b tag) = true := by
  obtain ⟨_, _, _, body, _, _⟩ := f
  cases body <;> simp_all [OutFrame.toController, OutFrame.biuFrame]

/-- The bulk places that hold a COMMAND frame are for no controller. -/
theorem filterMap_toController (ps : List BulkPlace) (b : Nat) :
    ((ps.filter (fun x => !x.holds (fun f => f.commandFor b))).filterMap BulkPlace.frame?).filter
        OutFrame.toController = (ps.filterMap BulkPlace.frame?).filter OutFrame.toController := by
  generalize hk : (fun x : BulkPlace => !x.holds (fun f => f.commandFor b)) = keep
  have hr : ∀ n, keep (.reserved n) = true := fun n => by rw [← hk]; rfl
  have hf : ∀ f : OutFrame, f.toController = true → keep (.frame f) = true := fun f h => by
    rw [← hk]
    exact f.toController_not_command b h
  clear hk
  induction ps with
  | nil => rfl
  | cons x xs ih =>
    cases x with
    | reserved n => simp [hr, List.filterMap_cons, BulkPlace.frame?, ih]
    | frame f =>
      cases hc : keep (.frame f) with
      | true => simp [List.filter_cons, hc, BulkPlace.frame?, ih]
      | false =>
        have ht : f.toController = false := by
          cases ht : f.toController
          · rfl
          · simp [hf f ht] at hc
        simp [hc, BulkPlace.frame?, ht, ih]

theorem LinkPort.removeCommand_silent (p : LinkPort) (b : Nat) : (p.removeCommand b).toControllers = p.toControllers := by
  simp only [LinkPort.toControllers, LinkPort.frames, LinkPort.removeCommand, List.filter_append,
    filter_toController _ _ (fun f => f.toController_not_command b), filterMap_toController]

theorem LinkPort.admitCommand_silent (p : LinkPort) (b : Nat) (a : Action) (f : OutFrame)
    (hf : f.toController = false) : (p.admitCommand b a f).1.toControllers = p.toControllers := by
  rw [← p.removeCommand_silent b]
  cases a <;> simp [LinkPort.admitCommand, LinkPort.toControllers, LinkPort.frames, List.filter_append, hf]

theorem LinkPort.admitNormal_silent (p : LinkPort) (t : OutFrame → Bool) (f : OutFrame)
    (hf : f.toController = false) : (p.admitNormal t f).1.toControllers = p.toControllers := by
  unfold LinkPort.admitNormal
  split <;> simp [LinkPort.toControllers, LinkPort.frames, List.filter_append, hf]

theorem LinkPort.admitBulk_silent (p : LinkPort) (f : OutFrame) (hf : f.toController = false) :
    (p.admitBulk f).1.toControllers = p.toControllers := by
  unfold LinkPort.admitBulk
  split <;> simp [LinkPort.bulkAdd, LinkPort.toControllers, LinkPort.frames, List.filter_append, List.filterMap_append,
    BulkPlace.frame?, hf]

/-- What is done to the ports of the links that are UP and puts no frame for a controller there. -/
theorem State.onUpLinks_silent {s u : State} (f : LinkPort → LinkPort × Bool)
    (hf : ∀ p : LinkPort, (f p).1.toControllers = p.toControllers) (h : Silent s.links u.links) :
    Silent s.links (u.onUpLinks f).1.links := by
  refine h.trans ⟨?_, ?_, rfl, rfl⟩ <;>
  · simp only [State.onUpLinks]
    split
    · exact hf _
    · rfl

theorem State.sendCommand_silent (s : State) (b : Nat) (a : Action) (tag : Nat) (o : Origins) :
    Silent s.links (s.sendCommand b a tag o).links := by
  unfold State.sendCommand
  exact State.onUpLinks_silent _ (fun p => p.admitCommand_silent b a _ rfl) ⟨rfl, rfl, rfl, rfl⟩

theorem State.withdrawFrame_silent (s : State) (b tag : Nat) : Silent s.links (s.withdrawFrame b tag).links := by
  refine ⟨?_, ?_, rfl, rfl⟩ <;>
  simp only [State.withdrawFrame, State.onBothPorts, LinkPort.toControllers, LinkPort.frames, List.filter_append,
    filter_toController _ _ (fun f => f.toController_not_biu b tag)]

theorem State.sendEvents_silent (s : State) (urgent : Bool) : Silent s.links (s.sendEvents urgent).links := by
  unfold State.sendEvents
  dsimp only
  generalize s.unsent urgent = rs
  split
  · exact Silent.refl _
  · have h : ∀ seq, Silent s.links (State.onUpLinks { s with links := { s.links with eventSeq := seq } }
        (if urgent then LinkPort.admitNormal OutFrame.isEvent
          ⟨s.ownAddress, 4095, s.links.eventSeq, .event rs, false, false⟩
        else LinkPort.admitBulk ⟨s.ownAddress, 4095, s.links.eventSeq, .event rs, false, false⟩)).1.links := by
      intro seq
      refine State.onUpLinks_silent _ (fun p => ?_) ⟨rfl, rfl, rfl, rfl⟩
      split
      · exact p.admitNormal_silent _ _ rfl
      · exact p.admitBulk_silent _ rfl
    split <;> exact h _

/-- Within a part of a RESTART no ABILITY frame is built (R148). -/
theorem State.sendPage_silent (s : State) (g : Nat) (p : Page) (h : s.hushed = true) :
    Silent s.links (s.sendPage g p).links := by
  simp [State.sendPage, h, Silent.refl]

/-- The building of an ABILITY frame writes the links alone. -/
theorem State.sendPage_eq (s : State) (g : Nat) (p : Page) :
    s.sendPage g p = { s with links := (s.sendPage g p).links } := by
  unfold State.sendPage
  split <;> rfl

end Sys2Proof.Machine
end

