-- ==== Sys2Proof/Laws/WorkFrame.lean ====
section
/-! SUPPORT. What work between the blocks leaves alone. `WorkFrame s₀ s` says that `s` differs from `s₀` at most in the
rises of trigger points noted, the queues of the links, the breakers, the sequencer, the generators, the event queue and the work itself; that the sources
stand; and that the numbers of records, the bounds of the queues and the order of the event records are kept. Each operation of those blocks keeps it, and so does the drain of the work. -/

namespace Sys2Proof.Machine

/-- The blocks that work between the others leaves alone. -/
structure Rest where
  pending : List Instr
  closing : Option Label
  hushed : Bool
  free : Nat
  aligner : Aligner
  intake : Intake
  measures : List StreamMeasure
  elements : List ElementRec
  lines : Lines
  capture : Capture
  mgmt : Management
  sources : List SourceRec

def State.rest (s : State) : Rest :=
  ⟨s.pending, s.closing, s.hushed, s.free, s.aligner, s.intake, s.measures, s.elements, s.lines, s.capture, s.mgmt,
    s.seq.sources⟩

/-- What every operation keeps of the event queue: its bound, and the order of its records (R170). -/
structure EventsKept (q₀ q : EventQueue) : Prop where
  bound : q₀.records.length ≤ Config.eventRecords → q.records.length ≤ Config.eventRecords
  order : q₀.InOrder → q.InOrder

theorem EventsKept.refl (q : EventQueue) : EventsKept q q := ⟨id, id⟩

theorem EventsKept.trans {a b c : EventQueue} (h : EventsKept a b) (k : EventsKept b c) : EventsKept a c :=
  ⟨k.bound ∘ h.bound, k.order ∘ h.order⟩

structure WorkFrame (s₀ s : State) : Prop where
  rest : s.rest = s₀.rest
  recs : s.breakers.recs.length = s₀.breakers.recs.length
  gens : s.par.gens.length = s₀.par.gens.length
  channels : s₀.par.channels.length = 4 → s.par.channels.length = 4
  flags : s₀.seq.flags.length = 4 → s.seq.flags.length = 4
  held : EventsKept s₀.events s.events
  links : LinkFrame s₀.links s.links
  silent : s₀.hushed = true → Silent s₀.links s.links

theorem WorkFrame.refl (s : State) : WorkFrame s s := ⟨rfl, rfl, rfl, id, id, EventsKept.refl _, LinkFrame.refl _,
  fun _ => Silent.refl _⟩

theorem WorkFrame.hushed {a b : State} (h : WorkFrame a b) : b.hushed = a.hushed := congrArg Rest.hushed h.rest

theorem WorkFrame.trans {a b c : State} (h : WorkFrame a b) (k : WorkFrame b c) : WorkFrame a c :=
  ⟨k.rest.trans h.rest, k.recs.trans h.recs, k.gens.trans h.gens, k.channels ∘ h.channels, k.flags ∘ h.flags,
    h.held.trans k.held, h.links.trans k.links,
    fun e => (h.silent e).trans (k.silent (h.hushed.trans e))⟩

variable {s₀ s : State}

@[simp] theorem WorkFrame.ite {c : Prop} [Decidable c] {a b : State} (ha : WorkFrame s₀ a) (hb : WorkFrame s₀ b) :
    WorkFrame s₀ (if c then a else b) := by
  split <;> assumption

@[simp] theorem WorkFrame.ite_fst {α : Type} {c : Prop} [Decidable c] {a b : State × α} (ha : WorkFrame s₀ a.1)
    (hb : WorkFrame s₀ b.1) : WorkFrame s₀ (if c then a else b).1 := by
  split <;> assumption

/-! ### Plain updates -/

theorem WorkFrame.withLinks (h : WorkFrame s₀ s) (x : Links) (hx : LinkFrame s.links x)
    (hq : s.hushed = true → Silent s.links x) : WorkFrame s₀ { s with links := x } :=
  ⟨h.rest, h.recs, h.gens, h.channels, h.flags, h.held, h.links.trans hx,
    fun e => (h.silent e).trans (hq (h.hushed.trans e))⟩

/-- An operation that writes the links alone. -/
theorem WorkFrame.ofLinks {t : State} (h : WorkFrame s₀ s) (e : t = { s with links := t.links })
    (hx : LinkFrame s.links t.links) (hq : s.hushed = true → Silent s.links t.links) : WorkFrame s₀ t := by
  rw [e]
  exact h.withLinks _ hx hq

@[simp] theorem WorkFrame.work (h : WorkFrame s₀ s) (x : List Work) : WorkFrame s₀ { s with work := x } :=
  ⟨h.rest, h.recs, h.gens, h.channels, h.flags, h.held, h.links, h.silent⟩

@[simp] theorem WorkFrame.breakers (h : WorkFrame s₀ s) (x : BreakerCtl)
    (hx : x.recs.length = s.breakers.recs.length) : WorkFrame s₀ { s with breakers := x } :=
  ⟨h.rest, hx.trans h.recs, h.gens, h.channels, h.flags, h.held, h.links, h.silent⟩

@[simp] theorem WorkFrame.events (h : WorkFrame s₀ s) (x : EventQueue)
    (hx : EventsKept s.events x) : WorkFrame s₀ { s with events := x } :=
  ⟨h.rest, h.recs, h.gens, h.channels, h.flags, h.held.trans hx, h.links, h.silent⟩

@[simp] theorem State.post_frame (w : Work) (h : WorkFrame s₀ s) : WorkFrame s₀ (s.post w) :=
  ⟨h.rest, h.recs, h.gens, h.channels, h.flags, h.held, h.links, h.silent⟩

@[simp] theorem State.noting_frame (t : State) (h : WorkFrame s₀ s) : WorkFrame s₀ (t.noting s) :=
  ⟨h.rest, h.recs, h.gens, h.channels, h.flags, h.held, h.links, h.silent⟩

@[simp] theorem State.modBrk_frame (b : Nat) (f : BreakerRec → BreakerRec) (h : WorkFrame s₀ s) :
    WorkFrame s₀ (s.modBrk b f) :=
  ⟨h.rest, by simpa using h.recs, h.gens, h.channels, h.flags, h.held, h.links, h.silent⟩

@[simp] theorem State.askAdd_frame (b : Nat) (m : Member) (h : WorkFrame s₀ s) : WorkFrame s₀ (s.askAdd b m) :=
  ⟨h.rest, h.recs, h.gens, h.channels, h.flags, h.held, h.links, h.silent⟩

@[simp] theorem State.askRemove_frame (b : Nat) (m : Member) (h : WorkFrame s₀ s) :
    WorkFrame s₀ (s.askRemove b m) :=
  ⟨h.rest, h.recs, h.gens, h.channels, h.flags, h.held, h.links, h.silent⟩

@[simp] theorem State.modPar_frame (f : Paralleling → Paralleling) (h : WorkFrame s₀ s)
    (hg : (f s.par).gens.length = s.par.gens.length)
    (hc : s.par.channels.length = 4 → (f s.par).channels.length = 4) : WorkFrame s₀ (s.modPar f) :=
  ⟨h.rest, h.recs, hg.trans h.gens, hc ∘ h.channels, h.flags, h.held, h.links, h.silent⟩

@[simp] theorem State.modGen_frame (g : Nat) (f : GenRec → GenRec) (h : WorkFrame s₀ s) :
    WorkFrame s₀ (s.modGen g f) :=
  ⟨h.rest, h.recs, by simpa using h.gens, h.channels, h.flags, h.held, h.links, h.silent⟩

@[simp] theorem State.setChannel_frame (c : Nat) (x : Option SyncRun) (h : WorkFrame s₀ s) :
    WorkFrame s₀ (s.setChannel c x) :=
  ⟨h.rest, h.recs, h.gens, by simpa using h.channels, h.flags, h.held, h.links, h.silent⟩

@[simp] theorem State.modSeq_frame (f : Sequencer → Sequencer) (h : WorkFrame s₀ s)
    (hs : (f s.seq).sources = s.seq.sources)
    (hf : s.seq.flags.length = 4 → (f s.seq).flags.length = 4) : WorkFrame s₀ (s.modSeq f) :=
  ⟨by have := h.rest; simp_all [State.rest], h.recs, h.gens, h.channels, hf ∘ h.flags, h.held, h.links, h.silent⟩

@[simp] theorem State.forEach_frame (ns : List Nat) (f : Nat → State → State) (h : WorkFrame s₀ s)
    (hf : ∀ n t, WorkFrame s₀ t → WorkFrame s₀ (f n t)) : WorkFrame s₀ (s.forEach ns f) := by
  unfold State.forEach
  induction ns generalizing s with
  | nil => exact h
  | cons n ns ih => exact ih (hf n s h)

theorem EventQueue.append_bound (q : EventQueue) (r : EventRecord) (h : q.records.length ≤ Config.eventRecords) :
    (q.append r).records.length ≤ Config.eventRecords := by
  unfold EventQueue.append
  split
  · simp; omega
  · simp only [List.length_append, List.length_tail, List.length_singleton]
    simp only [Config.eventRecords] at *
    omega

/-- A record that is appended with the next sequence number keeps the order, whether or not the oldest one goes. -/
theorem EventQueue.append_order (q : EventQueue) (r : EventRecord) (hr : r.seq = q.nextSeq) (h : q.InOrder) :
    (q.append r).InOrder := by
  obtain ⟨hw, hn, hs⟩ := h
  unfold EventQueue.append
  split
  · refine ⟨hw, by simp only [step16, List.length_append, List.length_singleton]; omega, ?_⟩
    simp [hs, hr, List.range_succ, hn]
  · rename_i hl
    cases hq : q.records with
    | nil => simp [hq, Config.eventRecords] at hl
    | cons x xs =>
      simp only [hq, List.length_cons, List.map_cons, List.range_succ_eq_map, List.map_map, List.cons.injEq] at hs hn
      have hstep : ((q.overwritten + 1) % 2 ^ 48 + (xs.length + 1)) % 65536 = step16 q.nextSeq := by
        simp only [step16]
        omega
      refine ⟨Nat.mod_lt _ (by decide), by simpa using hstep, ?_⟩
      simp only [List.tail_cons, List.map_append, hs.2, List.map_cons, List.map_nil, hr, List.length_append,
        List.length_singleton, List.range_succ]
      congr 1
      · refine List.map_congr_left fun i _ => ?_
        simp only [Function.comp]
        omega
      · simp only [List.cons.injEq, and_true]
        omega

theorem EventQueue.append_kept (q : EventQueue) (r : EventRecord) (hr : r.seq = q.nextSeq) :
    EventsKept q (q.append r) :=
  ⟨q.append_bound r, q.append_order r hr⟩

/-- Sent marks alone keep the bound and the order. -/
theorem EventQueue.markSent_kept (q : EventQueue) (seqs : List Nat) : EventsKept q (q.markSent seqs) := by
  have hs : (q.markSent seqs).records.map (·.seq) = q.records.map (·.seq) := by
    simp only [EventQueue.markSent, List.map_map]
    refine List.map_congr_left fun r _ => ?_
    simp only [Function.comp]
    split <;> rfl
  have hl : (q.markSent seqs).records.length = q.records.length := by simp [EventQueue.markSent]
  exact ⟨fun h => hl ▸ h, fun h => ⟨h.1, by rw [hl]; exact h.2.1, by rw [hs, hl]; exact h.2.2⟩⟩

/-! ### Queues -/


@[simp] theorem State.sendCommand_frame (b : Nat) (a : Action) (tag : Nat) (o : Origins) (hw : WorkFrame s₀ s) :
    WorkFrame s₀ (State.sendCommand s b a tag o) :=
  hw.ofLinks rfl (s.sendCommand_links b a tag o) (fun _ => s.sendCommand_silent b a tag o)

theorem State.sendGenset_frame (g : Nat) (p : Setpoint) (hq : s.hushed = false) (hw : WorkFrame s₀ s) :
    WorkFrame s₀ (State.sendGenset s g p) :=
  hw.ofLinks rfl (s.sendGenset_links g p) (fun e => absurd (hq.symm.trans e) (by decide))

@[simp] theorem State.sendPage_frame (g : Nat) (p : Page) (hw : WorkFrame s₀ s) :
    WorkFrame s₀ (State.sendPage s g p) :=
  hw.ofLinks (s.sendPage_eq g p) (s.sendPage_links g p) (s.sendPage_silent g p)

@[simp] theorem State.withdrawFrame_frame (b tag : Nat) (hw : WorkFrame s₀ s) :
    WorkFrame s₀ (State.withdrawFrame s b tag) :=
  hw.ofLinks rfl (s.withdrawFrame_links b tag) (fun _ => s.withdrawFrame_silent b tag)

/-! ### Events -/

/-- A send attempt writes the links and the sent marks alone. -/
theorem State.sendEvents_eq (s : State) (urgent : Bool) :
    ∃ x seqs, s.sendEvents urgent = { s with links := x, events := s.events.markSent seqs } := by
  unfold State.sendEvents
  dsimp only
  split
  · exact ⟨s.links, [], by simp [EventQueue.markSent]⟩
  · split
    · exact ⟨_, _, rfl⟩
    · exact ⟨_, [], by simp [EventQueue.markSent, State.onUpLinks]; rfl⟩

@[simp] theorem State.sendEvents_frame (urgent : Bool) (hw : WorkFrame s₀ s) : WorkFrame s₀ (State.sendEvents s urgent) := by
  have hl := s.sendEvents_links urgent
  have hq := s.sendEvents_silent urgent
  obtain ⟨x, seqs, e⟩ := s.sendEvents_eq urgent
  rw [e] at hl hq ⊢
  exact WorkFrame.events (hw.withLinks x hl (fun _ => hq)) _ (EventQueue.markSent_kept _ _)

@[simp] theorem State.sendAttempt_frame (hw : WorkFrame s₀ s) :
    WorkFrame s₀ (State.sendAttempt s) := by
  simp (maxDischargeDepth := 16) [State.sendAttempt, hw]

@[simp] theorem State.event_frame (c : EventClass) (priority object code : Nat) (value : Option Nat)
    (hw : WorkFrame s₀ s) : WorkFrame s₀ (State.event s c priority object code value) :=
  State.sendAttempt_frame (hw.events _ (EventQueue.append_kept _ _ rfl))

/-! ### Tokens -/


@[simp] theorem State.requestToken_frame (p : Party) (hw : WorkFrame s₀ s) :
    WorkFrame s₀ (State.requestToken s p) := by
  simp (maxDischargeDepth := 16) [State.requestToken, hw]

@[simp] theorem State.dropRequest_frame (p : Party) (hw : WorkFrame s₀ s) :
    WorkFrame s₀ (State.dropRequest s p) := by
  simp (maxDischargeDepth := 16) [State.dropRequest, hw]

@[simp] theorem State.freeToken_frame (p : Party) (hw : WorkFrame s₀ s) :
    WorkFrame s₀ (State.freeToken s p) := by
  simp (maxDischargeDepth := 16) [State.freeToken, hw]

@[simp] theorem State.leaveToken_frame (p : Party) (hw : WorkFrame s₀ s) :
    WorkFrame s₀ (State.leaveToken s p) := by
  simp (maxDischargeDepth := 16) [State.leaveToken, hw]

@[simp] theorem State.grantToken_frame (hw : WorkFrame s₀ s) :
    WorkFrame s₀ (State.grantToken s) := by
  unfold State.grantToken
  split <;> simp (maxDischargeDepth := 16) [hw]

@[simp] theorem State.clearBiases_frame (gs : List Nat) (hw : WorkFrame s₀ s) : WorkFrame s₀ (State.clearBiases s gs) :=
  State.forEach_frame _ _ hw (fun _ _ ht => State.modGen_frame _ _ ht)

@[simp] theorem State.endRun_frame (c : Nat) (hw : WorkFrame s₀ s) :
    WorkFrame s₀ (State.endRun s c) := by
  unfold State.endRun
  split <;> simp (maxDischargeDepth := 16) [hw]

@[simp] theorem State.endRunOf_frame (p : Party) (b : Nat) (hw : WorkFrame s₀ s) :
    WorkFrame s₀ (State.endRunOf s p b) := by
  unfold State.endRunOf
  split <;> simp (maxDischargeDepth := 16) [hw]

@[simp] theorem State.abortEvent_frame (c : Nat) (hw : WorkFrame s₀ s) :
    WorkFrame s₀ (State.abortEvent s c) := by
  simp (maxDischargeDepth := 16) [State.abortEvent, hw]

/-! ### Breakers -/


@[simp] theorem State.resetBf_frame (b : Nat) (hw : WorkFrame s₀ s) :
    WorkFrame s₀ (State.resetBf s b) := by
  unfold State.resetBf
  dsimp only
  repeat' first
    | with_reducible exact hw
    | with_reducible apply State.backup_frame
    | with_reducible apply State.event_frame
    | with_reducible apply State.modBrk_frame
    | with_reducible apply State.askRemove_frame
    | with_reducible apply State.forEach_frame
    | intro _ _ _
    | with_reducible assumption
    | (simp (maxDischargeDepth := 16); done)
    | split

@[simp] theorem State.testBf_frame (b : Nat) (hw : WorkFrame s₀ s) :
    WorkFrame s₀ (State.testBf s b) := by
  simp (maxDischargeDepth := 16) [State.testBf, hw]

@[simp] theorem State.issueBackup_frame (b : Nat) (hw : WorkFrame s₀ s) :
    WorkFrame s₀ (State.issueBackup s b) := by
  unfold State.issueBackup
  dsimp only
  repeat' first
    | with_reducible exact hw
    | with_reducible apply State.backup_frame
    | with_reducible apply State.event_frame
    | with_reducible apply State.modBrk_frame
    | with_reducible apply State.askAdd_frame
    | with_reducible apply State.forEach_frame
    | intro _ _ _
    | with_reducible assumption

@[simp] theorem State.tripIssued_frame (b : Nat) (c : Command) (hw : WorkFrame s₀ s) :
    WorkFrame s₀ (State.tripIssued s b c) := by
  simp (maxDischargeDepth := 16) [State.tripIssued, hw]

@[simp] theorem State.issueCommand_frame (b : Nat) (hw : WorkFrame s₀ s) :
    WorkFrame s₀ (State.issueCommand s b) := by
  unfold State.issueCommand
  split <;> simp (maxDischargeDepth := 16) [hw]

@[simp] theorem State.returnOutcome_frame (b : Nat) (c : Command) (o : Outcome) (hw : WorkFrame s₀ s) :
    WorkFrame s₀ (State.returnOutcome s b c o) := by
  unfold State.returnOutcome
  (repeat' split) <;> simp (maxDischargeDepth := 16) [hw]

@[simp] theorem State.concludeClose_frame (b : Nat) (c : Command) (hw : WorkFrame s₀ s) :
    WorkFrame s₀ (State.concludeClose s b c) := by
  unfold State.concludeClose
  (repeat' split) <;> simp (maxDischargeDepth := 16) [hw]

@[simp] theorem State.endCommand_frame (b : Nat) (o : Outcome) (hw : WorkFrame s₀ s) :
    WorkFrame s₀ (State.endCommand s b o) := by
  unfold State.endCommand
  split <;> simp (maxDischargeDepth := 16) [hw]

@[simp] theorem State.countRefused_frame (b : Nat) (hw : WorkFrame s₀ s) :
    WorkFrame s₀ (State.countRefused s b) := by
  simp (maxDischargeDepth := 16) [State.countRefused, hw]

@[simp] theorem State.takeOpen_frame (b : Nat) (o : Origins) (g : Option Nat) (h : WorkFrame s₀ s) :
    WorkFrame s₀ (State.takeOpen s b o g) := by
  unfold State.takeOpen; simp [h]

@[simp] theorem State.openRequest_frame (b : Nat) (o : Origins) (g : Option Nat) (hw : WorkFrame s₀ s) :
    WorkFrame s₀ (State.openRequest s b o g).1 := by
  unfold State.openRequest
  dsimp only
  repeat' first
    | with_reducible exact hw
    | with_reducible apply State.countRefused_frame
    | with_reducible apply State.takeOpen_frame
    | with_reducible apply State.issueCommand_frame
    | with_reducible apply State.endCommand_frame
    | with_reducible apply State.post_frame
    | with_reducible apply State.modBrk_frame
    | intro _ _ _
    | with_reducible assumption
    | (simp (maxDischargeDepth := 16) [hw]; done)
    | split

@[simp] theorem State.openFor_frame (b : Nat) (o : Origins) (hw : WorkFrame s₀ s) :
    WorkFrame s₀ (State.openFor s b o) := by
  simp (maxDischargeDepth := 16) [State.openFor, hw]

@[simp] theorem State.releaseClose_frame (b : Nat) (hw : WorkFrame s₀ s) :
    WorkFrame s₀ (State.releaseClose s b) := by
  unfold State.releaseClose
  (repeat' split) <;> simp (maxDischargeDepth := 16) [hw]

@[simp] theorem State.takeClose_frame (b : Nat) (k : CloseKind) (q : Requester) (o : Origins)
    (g : Option Nat) (hw : WorkFrame s₀ s) :
    WorkFrame s₀ (State.takeClose s b k q o g) := by
  simp (maxDischargeDepth := 16) [State.takeClose, hw]

@[simp] theorem State.closeRequest_frame (b : Nat) (k : CloseKind) (q : Requester) (o : Origins)
    (g : Option Nat) (hw : WorkFrame s₀ s) :
    WorkFrame s₀ (State.closeRequest s b k q o g).1 := by
  unfold State.closeRequest
  (repeat' split) <;> simp (maxDischargeDepth := 16) [hw]

@[simp] theorem State.withdrawClose_frame (b : Nat) (p : Party) (hw : WorkFrame s₀ s) :
    WorkFrame s₀ (State.withdrawClose s b p) := by
  unfold State.withdrawClose
  split <;> simp (maxDischargeDepth := 16) [hw]

@[simp] theorem State.completeCommand_frame (b : Nat) (hw : WorkFrame s₀ s) :
    WorkFrame s₀ (State.completeCommand s b) := by
  unfold State.completeCommand
  split <;> simp (maxDischargeDepth := 16) [hw]

@[simp] theorem State.positionMoved_frame (b : Nat) (old new : Position) (own tripped : Bool)
    (hw : WorkFrame s₀ s) :
    WorkFrame s₀ (State.positionMoved s b old new own tripped) := by
  simp (maxDischargeDepth := 16) [State.positionMoved, hw]

@[simp] theorem State.checkTrips_frame (b : Nat) (hw : WorkFrame s₀ s) :
    WorkFrame s₀ (State.checkTrips s b) := by
  simp (maxDischargeDepth := 16) [State.checkTrips, hw]

@[simp] theorem State.changePosition_frame (b : Nat) (new : Position) (hw : WorkFrame s₀ s) :
    WorkFrame s₀ (State.changePosition s b new) := by
  simp (maxDischargeDepth := 16) [State.changePosition, hw]

@[simp] theorem State.losePosition_frame (b : Nat) (hw : WorkFrame s₀ s) :
    WorkFrame s₀ (State.losePosition s b) := by
  simp (maxDischargeDepth := 16) [State.losePosition, hw]

@[simp] theorem State.handleResponse_frame (b : Nat) (f : PositionBody) (hw : WorkFrame s₀ s) :
    WorkFrame s₀ (State.handleResponse s b f) := by
  unfold State.handleResponse
  (repeat' split) <;> simp (maxDischargeDepth := 16) [hw]

@[simp] theorem State.handleHealth_frame (b : Nat) (h : Health) (hw : WorkFrame s₀ s) :
    WorkFrame s₀ (State.handleHealth s b h) := by
  simp (maxDischargeDepth := 16) [State.handleHealth, hw]

@[simp] theorem State.handlePosition_frame (b : Nat) (p : Reported) (hw : WorkFrame s₀ s) :
    WorkFrame s₀ (State.handlePosition s b p) := by
  simp (maxDischargeDepth := 16) [State.handlePosition, hw]

@[simp] theorem State.handleReport_frame (b : Nat) (p : Reported) (h : Health) (hw : WorkFrame s₀ s) :
    WorkFrame s₀ (State.handleReport s b p h) := by
  simp (maxDischargeDepth := 16) [State.handleReport, hw]

@[simp] theorem State.takePosition_frame (h : Header) (f : PositionBody) (hw : WorkFrame s₀ s) :
    WorkFrame s₀ (State.takePosition h f s) := by
  unfold State.takePosition
  split <;> simp (maxDischargeDepth := 16) [hw]

@[simp] theorem State.addMember_frame (b : Nat) (m : Member) (hw : WorkFrame s₀ s) :
    WorkFrame s₀ (State.addMember s b m) := by
  simp (maxDischargeDepth := 16) [State.addMember, hw]

@[simp] theorem State.removeMember_frame (b : Nat) (m : Member) (hw : WorkFrame s₀ s) :
    WorkFrame s₀ (State.removeMember s b m) := by
  simp (maxDischargeDepth := 16) [State.removeMember, hw]

@[simp] theorem State.takeDemand_frame (q : DemandRequest) (hw : WorkFrame s₀ s) :
    WorkFrame s₀ (State.takeDemand s q) := by
  simp (maxDischargeDepth := 16) [State.takeDemand, hw]

@[simp] theorem State.escalateBf_frame (b : Nat) (o : Origins) (hw : WorkFrame s₀ s) :
    WorkFrame s₀ (State.escalateBf s b o) := by
  simp (maxDischargeDepth := 16) [State.escalateBf, hw]

@[simp] theorem State.responseExpiry_frame (b : Nat) (hw : WorkFrame s₀ s) :
    WorkFrame s₀ (State.responseExpiry s b) := by
  unfold State.responseExpiry
  split <;> simp (maxDischargeDepth := 16) [hw]

@[simp] theorem State.limitExpiry_frame (b : Nat) (hw : WorkFrame s₀ s) :
    WorkFrame s₀ (State.limitExpiry s b) := by
  unfold State.limitExpiry
  split <;> simp (maxDischargeDepth := 16) [hw]

@[simp] theorem State.simulatedEnd_frame (b : Nat) (hw : WorkFrame s₀ s) :
    WorkFrame s₀ (State.simulatedEnd s b) := by
  unfold State.simulatedEnd
  split <;> simp (maxDischargeDepth := 16) [hw]

@[simp] theorem State.retripOpen_frame (b : Nat) (hw : WorkFrame s₀ s) :
    WorkFrame s₀ (State.retripOpen s b) := by
  unfold State.retripOpen
  split <;> simp (maxDischargeDepth := 16) [hw]

@[simp] theorem State.retrip_frame (b : Nat) (hw : WorkFrame s₀ s) :
    WorkFrame s₀ (State.retrip s b) := by
  simp (maxDischargeDepth := 16) [State.retrip, hw]

@[simp] theorem State.backup_frame (b : Nat) (hw : WorkFrame s₀ s) :
    WorkFrame s₀ (State.backup s b) := by
  simp (maxDischargeDepth := 16) [State.backup, hw]

@[simp] theorem State.advanceBreakers_frame (hw : WorkFrame s₀ s) :
    WorkFrame s₀ (State.advanceBreakers s) := by
  simp (maxDischargeDepth := 16) [State.advanceBreakers, hw]

@[simp] theorem State.abandonClose_frame (b : Nat) (reason : Option Reason) (hw : WorkFrame s₀ s) :
    WorkFrame s₀ (State.abandonClose s b reason) := by
  unfold State.abandonClose
  split <;> simp (maxDischargeDepth := 16) [hw]

@[simp] theorem State.markCommandLeft_frame (b tag : Nat) (hw : WorkFrame s₀ s) :
    WorkFrame s₀ (State.markCommandLeft s b tag) := by
  simp (maxDischargeDepth := 16) [State.markCommandLeft, hw]

@[simp] theorem State.activateBreaker_frame (old : Table) (b : Nat) (hw : WorkFrame s₀ s) :
    WorkFrame s₀ (State.activateBreaker s old b) := by
  simp (maxDischargeDepth := 16) [State.activateBreaker, hw]

@[simp] theorem State.restartBreaker_frame (b : Nat) (hw : WorkFrame s₀ s) :
    WorkFrame s₀ (State.restartBreaker b s) := by
  simp (maxDischargeDepth := 16) [State.restartBreaker, hw]

@[simp] theorem State.restartBreakers_frame (hw : WorkFrame s₀ s) : WorkFrame s₀ (State.restartBreakers s) :=
  State.forEach_frame _ _ hw (fun _ _ ht => State.restartBreaker_frame _ ht)

/-! ### Generators -/


@[simp] theorem State.buildGenset_frame (g : Nat) (hw : WorkFrame s₀ s) :
    WorkFrame s₀ (State.buildGenset s g) := by
  unfold State.buildGenset
  split
  · exact hw
  · split
    · exact hw
    · exact State.modGen_frame _ _ (State.sendGenset_frame g _ (Bool.eq_false_iff.mpr ‹_›) hw)

@[simp] theorem State.genOpen_frame (g : Nat) (hw : WorkFrame s₀ s) :
    WorkFrame s₀ (State.genOpen s g).1 := by
  simp (maxDischargeDepth := 16) [State.genOpen, hw]

@[simp] theorem State.leaveRun_frame (p : Party) (hw : WorkFrame s₀ s) :
    WorkFrame s₀ (State.leaveRun s p) := by
  unfold State.leaveRun
  split <;> simp (maxDischargeDepth := 16) [hw]

@[simp] theorem State.leaveAttempt_frame (g : Nat) (hw : WorkFrame s₀ s) :
    WorkFrame s₀ (State.leaveAttempt s g) := by
  simp (maxDischargeDepth := 16) [State.leaveAttempt, hw]

@[simp] theorem State.genMove_frame (g : Nat) (new : GenState) (hw : WorkFrame s₀ s) :
    WorkFrame s₀ (State.genMove s g new) := by
  unfold State.genMove
  extract_lets old t u v w
  have ht : WorkFrame s₀ t := WorkFrame.ite (State.leaveAttempt_frame _ hw) hw
  have hu : WorkFrame s₀ u := State.noting_frame _ (State.modPar_frame _ (State.modGen_frame _ _ ht) rfl id)
  have hv : WorkFrame s₀ v := State.event_frame _ _ _ _ _ hu
  have hx : WorkFrame s₀ w := WorkFrame.ite (State.genOpen_frame _ hv) hv
  exact WorkFrame.ite hw (WorkFrame.ite (State.post_frame _ hx) hx)

@[simp] theorem State.beginExchange_frame (g : Nat) (hw : WorkFrame s₀ s) :
    WorkFrame s₀ (State.beginExchange s g) := by
  simp (maxDischargeDepth := 16) [State.beginExchange, hw]

@[simp] theorem State.renegotiate_frame (g : Nat) (hw : WorkFrame s₀ s) :
    WorkFrame s₀ (State.renegotiate s g) := by
  simp (maxDischargeDepth := 16) [State.renegotiate, hw]

@[simp] theorem State.genEnter_frame (g : Nat) (new : GenState) (hw : WorkFrame s₀ s) :
    WorkFrame s₀ (State.genEnter s g new) := by
  unfold State.genEnter
  dsimp only
  exact WorkFrame.ite (State.renegotiate_frame _ (State.genMove_frame _ _ hw)) (State.genMove_frame _ _ hw)

@[simp] theorem State.genRetry_frame (g : Nat) (hw : WorkFrame s₀ s) :
    WorkFrame s₀ (State.genRetry s g) := by
  simp (maxDischargeDepth := 16) [State.genRetry, hw]

@[simp] theorem State.deadFailure_frame (g : Nat) (hw : WorkFrame s₀ s) :
    WorkFrame s₀ (State.deadFailure s g) := by
  simp (maxDischargeDepth := 16) [State.deadFailure, hw]

@[simp] theorem State.closeFailure_frame (g : Nat) (hw : WorkFrame s₀ s) :
    WorkFrame s₀ (State.closeFailure s g) := by
  simp (maxDischargeDepth := 16) [State.closeFailure, hw]

@[simp] theorem State.unloadOpen_frame (g : Nat) (hw : WorkFrame s₀ s) : WorkFrame s₀ (State.unloadOpen s g) := by
  unfold State.unloadOpen
  dsimp only
  split <;> simp (maxDischargeDepth := 16) [hw]

@[simp] theorem State.enterUnloading_frame (g : Nat) (hw : WorkFrame s₀ s) :
    WorkFrame s₀ (State.enterUnloading s g) := by
  simp (maxDischargeDepth := 16) [State.enterUnloading, hw]

@[simp] theorem State.settleNegotiated_frame (g : Nat) (hw : WorkFrame s₀ s) :
    WorkFrame s₀ (State.settleNegotiated s g) := by
  unfold State.settleNegotiated
  split <;> simp (maxDischargeDepth := 16) [hw]

@[simp] theorem State.afterExchange_frame (g : Nat) (hw : WorkFrame s₀ s) :
    WorkFrame s₀ (State.afterExchange s g) := by
  simp (maxDischargeDepth := 16) [State.afterExchange, hw]

@[simp] theorem State.exchangeDone_frame (g : Nat) (hw : WorkFrame s₀ s) :
    WorkFrame s₀ (State.exchangeDone s g) := by
  simp (maxDischargeDepth := 16) [State.exchangeDone, hw]

@[simp] theorem State.exchangeUndeclared_frame (g : Nat) (hw : WorkFrame s₀ s) :
    WorkFrame s₀ (State.exchangeUndeclared s g) := by
  simp (maxDischargeDepth := 16) [State.exchangeUndeclared, hw]

@[simp] theorem State.takeBase_frame (g : Nat) (f : Page) (set : Abilities) (hw : WorkFrame s₀ s) :
    WorkFrame s₀ (State.takeBase s g f set) := by
  simp (maxDischargeDepth := 16) [State.takeBase, hw]

@[simp] theorem State.gapExpiry_frame (g : Nat) (hw : WorkFrame s₀ s) :
    WorkFrame s₀ (State.gapExpiry s g) := by
  simp (maxDischargeDepth := 16) [State.gapExpiry, hw]

@[simp] theorem State.testConflict_frame (g : Nat) (hw : WorkFrame s₀ s) : WorkFrame s₀ (State.testConflict s g) := by
  unfold State.testConflict
  dsimp only
  split
  · exact hw
  · split <;> simp (maxDischargeDepth := 16) [hw]

@[simp] theorem State.testStopped_frame (g : Nat) (hw : WorkFrame s₀ s) :
    WorkFrame s₀ (State.testStopped s g) := by
  simp (maxDischargeDepth := 16) [State.testStopped, hw]

@[simp] theorem State.takeGenStatus_frame (h : Header) (f : GenStatus) (hw : WorkFrame s₀ s) :
    WorkFrame s₀ (State.takeGenStatus h f s) := by
  unfold State.takeGenStatus
  split <;> simp (maxDischargeDepth := 16) [hw]

@[simp] theorem State.absentExpiry_frame (g : Nat) (hw : WorkFrame s₀ s) :
    WorkFrame s₀ (State.absentExpiry s g) := by
  simp (maxDischargeDepth := 16) [State.absentExpiry, hw]

@[simp] theorem State.genClose_frame (g : Nat) (k : CloseKind) (hw : WorkFrame s₀ s) :
    WorkFrame s₀ (State.genClose s g k).1 := by
  simp (maxDischargeDepth := 16) [State.genClose, hw]

@[simp] theorem State.deadClose_frame (g : Nat) (hw : WorkFrame s₀ s) : WorkFrame s₀ (State.deadClose s g) := by
  unfold State.deadClose
  dsimp only
  split <;> simp (maxDischargeDepth := 16) [hw]

@[simp] theorem State.writeBiases_frame (r : SyncRun) (g : Nat) (hw : WorkFrame s₀ s) :
    WorkFrame s₀ (State.writeBiases s r g) := by
  simp (maxDischargeDepth := 16) [State.writeBiases, hw]

@[simp] theorem State.disown_frame (gs : List Nat) (hw : WorkFrame s₀ s) : WorkFrame s₀ (State.disown s gs) :=
  State.modPar_frame _ hw rfl (fun h => by simpa using h)

@[simp] theorem State.correct_frame (c : Nat) (hw : WorkFrame s₀ s) :
    WorkFrame s₀ (State.correct s c) := by
  unfold State.correct
  dsimp only
  repeat' first
    | with_reducible exact hw
    | with_reducible apply State.writeBiases_frame
    | with_reducible apply State.disown_frame
    | with_reducible apply State.setChannel_frame
    | with_reducible apply State.forEach_frame
    | intro _ _ _
    | with_reducible assumption
    | (simp (maxDischargeDepth := 16); done)
    | split

@[simp] theorem State.startRun_frame (c : Nat) (client : Party) (b g bus entry : Nat) (hw : WorkFrame s₀ s) :
    WorkFrame s₀ (State.startRun s c client b g bus entry) := by
  simp (maxDischargeDepth := 16) [State.startRun, hw]

@[simp] theorem State.takeChannel_frame (g c : Nat) (hw : WorkFrame s₀ s) : WorkFrame s₀ (State.takeChannel s g c) := by
  unfold State.takeChannel
  dsimp only
  split <;> simp (maxDischargeDepth := 16) [hw]

@[simp] theorem State.serveWaiting_frame (n : Nat) (h : WorkFrame s₀ s) : WorkFrame s₀ (State.serveWaiting n s) := by
  induction n generalizing s with
  | zero => exact h
  | succ n ih =>
    unfold State.serveWaiting
    split
    · exact ih (WorkFrame.ite (State.takeChannel_frame _ _ (State.modPar_frame _ h rfl id))
        (State.modPar_frame _ h rfl id))
    · exact h

@[simp] theorem State.seekChannel_frame (g : Nat) (hw : WorkFrame s₀ s) :
    WorkFrame s₀ (State.seekChannel s g) := by
  unfold State.seekChannel
  have ht := State.serveWaiting_frame 8 hw
  generalize State.serveWaiting 8 s = t at ht
  dsimp only
  split
  · exact ht
  · split <;> simp (maxDischargeDepth := 16) [ht]

@[simp] theorem State.claimToken_frame (g : Nat) (hw : WorkFrame s₀ s) : WorkFrame s₀ (State.claimToken s g) := by
  simp (maxDischargeDepth := 16) [State.claimToken, hw]

@[simp] theorem State.closeAttempt_frame (g : Nat) (hw : WorkFrame s₀ s) :
    WorkFrame s₀ (State.closeAttempt s g) := by
  unfold State.closeAttempt
  split <;> simp (maxDischargeDepth := 16) [hw]

@[simp] theorem State.deadCheck_frame (g : Nat) (hw : WorkFrame s₀ s) :
    WorkFrame s₀ (State.deadCheck s g) := by
  unfold State.deadCheck
  (repeat' split) <;> simp (maxDischargeDepth := 16) [hw]

@[simp] theorem State.deadCheckExpiry_frame (g : Nat) (hw : WorkFrame s₀ s) :
    WorkFrame s₀ (State.deadCheckExpiry s g) := by
  simp (maxDischargeDepth := 16) [State.deadCheckExpiry, hw]

@[simp] theorem State.retryExpiry_frame (g : Nat) (hw : WorkFrame s₀ s) :
    WorkFrame s₀ (State.retryExpiry s g) := by
  simp (maxDischargeDepth := 16) [State.retryExpiry, hw]

@[simp] theorem State.abortRun_frame (c : Nat) (hw : WorkFrame s₀ s) :
    WorkFrame s₀ (State.abortRun s c) := by
  unfold State.abortRun
  (repeat' split) <;> simp (maxDischargeDepth := 16) [hw]

@[simp] theorem State.evaluateRun_frame (c : Nat) (hw : WorkFrame s₀ s) :
    WorkFrame s₀ (State.evaluateRun c s) := by
  unfold State.evaluateRun
  (repeat' split) <;> simp (maxDischargeDepth := 16) [hw]

@[simp] theorem State.correctionExpiry_frame (c : Nat) (hw : WorkFrame s₀ s) :
    WorkFrame s₀ (State.correctionExpiry s c) := by
  unfold State.correctionExpiry
  split <;> simp (maxDischargeDepth := 16) [hw]

@[simp] theorem State.closeOutcome_frame (g : Nat) (k : CloseKind) (o : Outcome) (hw : WorkFrame s₀ s) :
    WorkFrame s₀ (State.closeOutcome s g k o) := by
  unfold State.closeOutcome
  split
  · exact hw
  · simp (maxDischargeDepth := 16) [hw]
  · simp (maxDischargeDepth := 16) [hw, State.closeOutcome.failure]
  · simp (maxDischargeDepth := 16) [hw, State.closeOutcome.failure]

@[simp] theorem State.genOutcome_frame (g b : Nat) (a : Action) (k : CloseKind) (o : Outcome)
    (hw : WorkFrame s₀ s) :
    WorkFrame s₀ (State.genOutcome s g b a k o) := by
  unfold State.genOutcome
  (repeat' split) <;> simp (maxDischargeDepth := 16) [hw]

@[simp] theorem State.genFoundClosed_frame (g : Nat) (hw : WorkFrame s₀ s) :
    WorkFrame s₀ (State.genFoundClosed s g) := by
  unfold State.genFoundClosed
  split <;> simp (maxDischargeDepth := 16) [hw, State.genFoundClosed.taken]

@[simp] theorem State.genLeftClosed_frame (g : Nat) (own tripped : Bool) (hw : WorkFrame s₀ s) :
    WorkFrame s₀ (State.genLeftClosed s g own tripped) := by
  simp (maxDischargeDepth := 16) [State.genLeftClosed, hw]

@[simp] theorem State.genMoved_frame (b : Nat) (old new : Position) (own tripped : Bool) (hw : WorkFrame s₀ s) :
    WorkFrame s₀ (State.genMoved s b old new own tripped) := by
  unfold State.genMoved
  split <;> simp (maxDischargeDepth := 16) [hw]

@[simp] theorem State.writeDemand_frame (n : Nat) (hw : WorkFrame s₀ s) :
    WorkFrame s₀ (State.writeDemand s n) := by
  simp (maxDischargeDepth := 16) [State.writeDemand, hw]

@[simp] theorem State.startExpiry_frame (g : Nat) (hw : WorkFrame s₀ s) :
    WorkFrame s₀ (State.startExpiry s g) := by
  simp (maxDischargeDepth := 16) [State.startExpiry, hw]

@[simp] theorem State.shareLoad_frame (load : Int) (ratings g : Nat) (hw : WorkFrame s₀ s) :
    WorkFrame s₀ (State.shareLoad s load ratings g) := by
  simp (maxDischargeDepth := 16) [State.shareLoad, hw]

@[simp] theorem State.shedLoad_frame (g : Nat) (hw : WorkFrame s₀ s) :
    WorkFrame s₀ (State.shedLoad s g) := by
  simp (maxDischargeDepth := 16) [State.shedLoad, hw]

@[simp] theorem State.loadShare_frame (hw : WorkFrame s₀ s) : WorkFrame s₀ (State.loadShare s) := by
  unfold State.loadShare
  dsimp only
  split
  · exact hw
  · refine State.forEach_frame _ _ (WorkFrame.ite ?_ (State.forEach_frame _ _ ?_ ?_)) ?_ <;>
      first | (intro _ _ ht; simp [ht]) | simp [hw]

@[simp] theorem State.loseRated_frame (g : Nat) (hw : WorkFrame s₀ s) : WorkFrame s₀ (State.loseRated s g) := by
  simp (maxDischargeDepth := 16) [State.loseRated, hw]

@[simp] theorem State.ratedTest_frame (g : Nat) (hw : WorkFrame s₀ s) :
    WorkFrame s₀ (State.ratedTest g s) := by
  unfold State.ratedTest
  (repeat' split) <;> simp (maxDischargeDepth := 16) [hw]

@[simp] theorem State.parallelingWork_frame (hw : WorkFrame s₀ s) : WorkFrame s₀ (State.parallelingWork s) := by
  unfold State.parallelingWork
  refine State.post_frame _ (State.forEach_frame _ _ (State.forEach_frame _ _ (State.forEach_frame _ _
    hw ?_) ?_) ?_) <;> intro _ _ ht <;> simp [ht]

@[simp] theorem State.lockoutGens_frame (hw : WorkFrame s₀ s) : WorkFrame s₀ (State.lockoutGens s) :=
  State.forEach_frame _ _ hw (fun _ _ ht => by split <;> simp [ht])

@[simp] theorem State.stationTripGens_frame (hw : WorkFrame s₀ s) : WorkFrame s₀ (State.stationTripGens s) := by
  unfold State.stationTripGens
  refine State.forEach_frame _ _ (State.forEach_frame _ _ (State.writeDemand_frame _ hw) ?_) ?_ <;>
    intro _ _ ht <;> simp [ht]

@[simp] theorem State.resetGen_frame (g : Nat) (hw : WorkFrame s₀ s) :
    WorkFrame s₀ (State.resetGen g s) :=
  State.modGen_frame _ _ (State.genMove_frame _ _ hw)

@[simp] theorem State.restartParalleling_frame (hw : WorkFrame s₀ s) : WorkFrame s₀ (State.restartParalleling s) := by
  have h := State.forEach_frame (List.range 8) State.resetGen hw (fun _ _ ht => State.resetGen_frame _ ht)
  exact State.modPar_frame _ h (by simp) (by simp)

@[simp] theorem State.activateGens_frame (changed : List Nat) (hw : WorkFrame s₀ s) :
    WorkFrame s₀ (State.activateGens s changed) :=
  State.forEach_frame _ _ hw (fun _ _ ht => State.resetGen_frame _ ht)

@[simp] theorem State.advanceGens_frame (hw : WorkFrame s₀ s) : WorkFrame s₀ (State.advanceGens s) := by
  unfold State.advanceGens
  refine State.modPar_frame _ (State.forEach_frame _ _ hw (fun _ _ ht => State.modGen_frame _ _ ht)) rfl ?_
  simp

@[simp] theorem State.refresh_frame (g : Nat) (hw : WorkFrame s₀ s) :
    WorkFrame s₀ (State.refresh s g) := by
  simp (maxDischargeDepth := 16) [State.refresh, hw]

/-! ### Sequencer -/


@[simp] theorem State.refreshLineup_frame (hw : WorkFrame s₀ s) :
    WorkFrame s₀ (State.refreshLineup s) := by
  simp (maxDischargeDepth := 16) [State.refreshLineup, hw]

@[simp] theorem State.emptySlot_frame (hw : WorkFrame s₀ s) :
    WorkFrame s₀ (State.emptySlot s) := by
  unfold State.emptySlot
  split <;> simp (maxDischargeDepth := 16) [hw]

@[simp] theorem State.setSeqState_frame (x : SeqState) (hw : WorkFrame s₀ s) :
    WorkFrame s₀ (State.setSeqState s x) := by
  simp (maxDischargeDepth := 16) [State.setSeqState, hw]

@[simp] theorem State.halt_frame (y : HaltReason) (hw : WorkFrame s₀ s) :
    WorkFrame s₀ (State.halt s y) := by
  simp (maxDischargeDepth := 16) [State.halt, hw]

@[simp] theorem State.lockOut_frame (hw : WorkFrame s₀ s) :
    WorkFrame s₀ (State.lockOut s) := by
  simp (maxDischargeDepth := 16) [State.lockOut, hw]

@[simp] theorem State.goLineup_frame (hw : WorkFrame s₀ s) :
    WorkFrame s₀ (State.goLineup s) := by
  unfold State.goLineup
  (repeat' split) <;> simp (maxDischargeDepth := 16) [hw]

@[simp] theorem State.followLineup_frame (hw : WorkFrame s₀ s) :
    WorkFrame s₀ (State.followLineup s) := by
  simp (maxDischargeDepth := 16) [State.followLineup, hw]

@[simp] theorem State.startPlan_frame (p : Nat) (c : Cause) (hw : WorkFrame s₀ s) :
    WorkFrame s₀ (State.startPlan s p c) := by
  simp (maxDischargeDepth := 16) [State.startPlan, hw]

@[simp] theorem State.modRun_frame (f : PlanRun → PlanRun) (h : WorkFrame s₀ s) : WorkFrame s₀ (s.modRun f) := by
  simp [State.modRun, h]

@[simp] theorem State.setWait_frame (w : StepWait) (hw : WorkFrame s₀ s) :
    WorkFrame s₀ (State.setWait s w) := by
  simp (maxDischargeDepth := 16) [State.setWait, hw]

@[simp] theorem State.endStep_frame (r : PlanRun) (hw : WorkFrame s₀ s) :
    WorkFrame s₀ (State.endStep s r) := by
  simp (maxDischargeDepth := 16) [State.endStep, hw]

@[simp] theorem State.raiseLimit_frame (r : PlanRun) (hw : WorkFrame s₀ s) :
    WorkFrame s₀ (State.raiseLimit s r) := by
  unfold State.raiseLimit
  split <;> simp (maxDischargeDepth := 16) [hw]

@[simp] theorem State.endRunRecord_frame (r : PlanRun) (hw : WorkFrame s₀ s) :
    WorkFrame s₀ (State.endRunRecord s r) := by
  simp (maxDischargeDepth := 16) [State.endRunRecord, hw]

@[simp] theorem State.currentLineup_frame (hw : WorkFrame s₀ s) :
    WorkFrame s₀ (State.currentLineup s) := by
  simp (maxDischargeDepth := 16) [State.currentLineup, hw]

@[simp] theorem State.failPlan_frame (r : PlanRun) (hw : WorkFrame s₀ s) :
    WorkFrame s₀ (State.failPlan s r) := by
  unfold State.failPlan
  (repeat' split) <;> simp (maxDischargeDepth := 16) [hw]

@[simp] theorem State.failStep_frame (code reason : Nat) (hw : WorkFrame s₀ s) :
    WorkFrame s₀ (State.failStep s code reason) := by
  unfold State.failStep
  split <;> simp (maxDischargeDepth := 16) [hw]

@[simp] theorem State.stopPlan_frame (hw : WorkFrame s₀ s) :
    WorkFrame s₀ (State.stopPlan s) := by
  unfold State.stopPlan
  split <;> simp (maxDischargeDepth := 16) [hw]

@[simp] theorem State.finishPlan_frame (hw : WorkFrame s₀ s) :
    WorkFrame s₀ (State.finishPlan s) := by
  unfold State.finishPlan
  (repeat' split) <;> simp (maxDischargeDepth := 16) [hw]

@[simp] theorem State.completeStep_frame (hw : WorkFrame s₀ s) :
    WorkFrame s₀ (State.completeStep s) := by
  unfold State.completeStep
  split <;> simp (maxDischargeDepth := 16) [hw]

@[simp] theorem State.stepOpen_frame (b : Nat) (hw : WorkFrame s₀ s) :
    WorkFrame s₀ (State.stepOpen s b) := by
  unfold State.stepOpen
  dsimp only
  repeat' first
    | with_reducible exact hw
    | with_reducible apply State.openRequest_frame
    | with_reducible apply State.setWait_frame
    | with_reducible apply State.post_frame
    | intro _ _ _
    | with_reducible assumption
    | split

@[simp] theorem State.stepClose_frame (b : Nat) (k : CloseKind) (go : State → State) (h : WorkFrame s₀ s)
    (hg : ∀ t, WorkFrame s₀ t → WorkFrame s₀ (go t)) : WorkFrame s₀ (State.stepClose s b k go) := by
  unfold State.stepClose
  dsimp only
  split <;> simp (maxDischargeDepth := 16) [h, hg]

@[simp] theorem State.stepRun_frame (r : PlanRun) (hw : WorkFrame s₀ s) :
    WorkFrame s₀ (State.stepRun s r) := by
  simp (maxDischargeDepth := 16) [State.stepRun, hw]

@[simp] theorem State.stepDeadTerm_frame (r : PlanRun) (hw : WorkFrame s₀ s) :
    WorkFrame s₀ (State.stepDeadTerm s r) := by
  simp (maxDischargeDepth := 16) [State.stepDeadTerm, hw]

@[simp] theorem State.stepDeadClose_frame (x : PlanRun) (hw : WorkFrame s₀ s) : WorkFrame s₀ (State.stepDeadClose s x) :=
  State.stepClose_frame _ _ _ hw (fun _ ht => State.stepDeadTerm_frame _ ht)

@[simp] theorem State.testGens_frame (hw : WorkFrame s₀ s) :
    WorkFrame s₀ (State.testGens s) := by
  unfold State.testGens
  split <;> simp (maxDischargeDepth := 16) [hw]

@[simp] theorem State.beginKind_frame (x : PlanRun) (hw : WorkFrame s₀ s) : WorkFrame s₀ (State.beginKind s x) := by
  unfold State.beginKind
  dsimp only
  split
  case h_2 => exact State.stepClose_frame _ _ _ hw (fun _ ht => State.setWait_frame _ ht)
  case h_3 => exact State.stepClose_frame _ _ _ hw (fun _ ht => State.stepRun_frame _ ht)
  all_goals simp (maxDischargeDepth := 16) [hw]

@[simp] theorem State.beginStep_frame (hw : WorkFrame s₀ s) :
    WorkFrame s₀ (State.beginStep s) := by
  unfold State.beginStep
  split <;> simp (maxDischargeDepth := 16) [hw]

@[simp] theorem State.seqOutcome_frame (b : Nat) (a : Action) (o : Outcome) (hw : WorkFrame s₀ s) :
    WorkFrame s₀ (State.seqOutcome s b a o) := by
  unfold State.seqOutcome
  split <;> simp (maxDischargeDepth := 16) [hw]

@[simp] theorem State.seqToken_frame (hw : WorkFrame s₀ s) :
    WorkFrame s₀ (State.seqToken s) := by
  unfold State.seqToken
  split <;> simp (maxDischargeDepth := 16) [hw]

@[simp] theorem State.seqAborted_frame (hw : WorkFrame s₀ s) :
    WorkFrame s₀ (State.seqAborted s) := by
  unfold State.seqAborted
  split <;> simp (maxDischargeDepth := 16) [hw]

@[simp] theorem State.seqRetry_frame (hw : WorkFrame s₀ s) :
    WorkFrame s₀ (State.seqRetry s) := by
  unfold State.seqRetry
  (repeat' split) <;> simp (maxDischargeDepth := 16) [hw]

@[simp] theorem State.seqMoved_frame (b : Nat) (hw : WorkFrame s₀ s) :
    WorkFrame s₀ (State.seqMoved s b) := by
  unfold State.seqMoved
  split <;> simp (maxDischargeDepth := 16) [hw]

@[simp] theorem State.stepExpiry_frame (hw : WorkFrame s₀ s) :
    WorkFrame s₀ (State.stepExpiry s) := by
  unfold State.stepExpiry
  split <;> simp (maxDischargeDepth := 16) [hw]

@[simp] theorem State.timeWaited_frame (hw : WorkFrame s₀ s) :
    WorkFrame s₀ (State.timeWaited s) := by
  unfold State.timeWaited
  split <;> simp (maxDischargeDepth := 16) [hw]

@[simp] theorem State.pointMet_frame (hw : WorkFrame s₀ s) :
    WorkFrame s₀ (State.pointMet s) := by
  unfold State.pointMet
  split <;> simp (maxDischargeDepth := 16) [hw]

@[simp] theorem State.deadTermMet_frame (hw : WorkFrame s₀ s) :
    WorkFrame s₀ (State.deadTermMet s) := by
  unfold State.deadTermMet
  split <;> simp (maxDischargeDepth := 16) [hw]

@[simp] theorem State.limitParallel_frame (hw : WorkFrame s₀ s) :
    WorkFrame s₀ (State.limitParallel s) := by
  unfold State.limitParallel
  split <;> simp (maxDischargeDepth := 16) [hw]

@[simp] theorem State.startRule_frame (k : Nat) (among : Nat → Bool) (hw : WorkFrame s₀ s) :
    WorkFrame s₀ (State.startRule s k among) := by
  unfold State.startRule
  split <;> simp (maxDischargeDepth := 16) [hw]

@[simp] theorem State.offerRequest_frame (i : Nat) (hw : WorkFrame s₀ s) :
    WorkFrame s₀ (State.offerRequest s i) := by
  unfold State.offerRequest
  split <;> simp (maxDischargeDepth := 16) [hw]

@[simp] theorem State.evaluateRules_frame (hw : WorkFrame s₀ s) :
    WorkFrame s₀ (State.evaluateRules s) := by
  unfold State.evaluateRules
  split <;> simp (maxDischargeDepth := 16) [hw]

@[simp] theorem State.governingChanged_frame (x : Nat) (hw : WorkFrame s₀ s) :
    WorkFrame s₀ (State.governingChanged s x) := by
  unfold State.governingChanged
  (repeat' split) <;> simp (maxDischargeDepth := 16) [hw]

@[simp] theorem State.enteredIdle_frame (k : Nat) (hw : WorkFrame s₀ s) :
    WorkFrame s₀ (State.enteredIdle s k) := by
  unfold State.enteredIdle
  (repeat' split) <;> simp (maxDischargeDepth := 16) [hw]

@[simp] theorem State.recomputeAuto_frame (hw : WorkFrame s₀ s) :
    WorkFrame s₀ (State.recomputeAuto s) := by
  simp (maxDischargeDepth := 16) [State.recomputeAuto, hw]

@[simp] theorem State.markStop_frame (r : PlanRun) (hw : WorkFrame s₀ s) :
    WorkFrame s₀ (State.markStop s r) := by
  simp (maxDischargeDepth := 16) [State.markStop, hw]

@[simp] theorem State.seqLockout_frame (rise : Bool) (hw : WorkFrame s₀ s) :
    WorkFrame s₀ (State.seqLockout s rise) := by
  unfold State.seqLockout
  dsimp only
  repeat' first
    | with_reducible exact hw
    | with_reducible apply State.recomputeAuto_frame
    | with_reducible apply State.markStop_frame
    | with_reducible apply State.lockOut_frame
    | with_reducible apply State.goLineup_frame
    | intro _ _ _
    | with_reducible assumption
    | simp (maxDischargeDepth := 16) [hw]
    | split

@[simp] theorem State.abandonPlan_frame (hw : WorkFrame s₀ s) :
    WorkFrame s₀ (State.abandonPlan s) := by
  unfold State.abandonPlan
  split <;> simp (maxDischargeDepth := 16) [hw]

@[simp] theorem State.stationTripSeq_frame (hw : WorkFrame s₀ s) : WorkFrame s₀ (State.stationTripSeq s) := by
  unfold State.stationTripSeq
  dsimp only
  split <;> simp (maxDischargeDepth := 16) [hw]

@[simp] theorem State.restartSeq_frame (hw : WorkFrame s₀ s) : WorkFrame s₀ (State.restartSeq s) := by
  unfold State.restartSeq
  extract_lets t u
  have ht : WorkFrame s₀ t := State.writeDemand_frame _ (State.emptySlot_frame
    (State.setSeqState_frame _ (State.abandonPlan_frame hw)))
  have hu : WorkFrame s₀ u := State.modSeq_frame _ ht rfl (fun _ => rfl)
  exact WorkFrame.ite (State.halt_frame _ hu) (WorkFrame.ite (State.lockOut_frame hu) hu)

@[simp] theorem State.advanceSeq_frame (hw : WorkFrame s₀ s) :
    WorkFrame s₀ (State.advanceSeq s) := by
  simp (maxDischargeDepth := 16) [State.advanceSeq, hw]

/-! ### The drain of the work -/

theorem State.startLoop_frame (n : Nat) (hw : WorkFrame s₀ s) : WorkFrame s₀ (State.startLoop n s) := by
  induction n generalizing s with
  | zero => exact hw
  | succ n ih =>
    unfold State.startLoop
    split
    · split
      · exact ih (State.genEnter_frame _ _ hw)
      · exact hw
    · exact hw

theorem State.unloadLoop_frame (n : Nat) (hw : WorkFrame s₀ s) : WorkFrame s₀ (State.unloadLoop n s) := by
  induction n generalizing s with
  | zero => exact hw
  | succ n ih =>
    unfold State.unloadLoop
    split
    · split
      · exact ih (State.enterUnloading_frame _ hw)
      · exact hw
    · exact hw

theorem State.surplusLoop_frame (n : Nat) (hw : WorkFrame s₀ s) : WorkFrame s₀ (State.surplusLoop n s) := by
  induction n generalizing s with
  | zero => exact hw
  | succ n ih =>
    unfold State.surplusLoop
    split
    · split
      · exact ih (State.genEnter_frame _ _ hw)
      · exact hw
    · exact hw

theorem State.evaluateDemand_frame (hw : WorkFrame s₀ s) : WorkFrame s₀ (State.evaluateDemand s) := by
  unfold State.evaluateDemand
  exact WorkFrame.ite (State.surplusLoop_frame _ (State.unloadLoop_frame _ (State.startLoop_frame _
    (State.modPar_frame _ hw rfl id)))) hw

theorem State.handle_frame (w : Work) (hw : WorkFrame s₀ s) : WorkFrame s₀ (State.handle s w) := by
  cases w <;> simp (maxDischargeDepth := 16) [State.handle, hw]

/-- What the drain of the work leaves alone. -/
theorem State.drain_frame (n : Nat) (hw : WorkFrame s₀ s) : WorkFrame s₀ (State.drain n s) := by
  induction n generalizing s with
  | zero => unfold State.drain; exact hw
  | succ n ih =>
    unfold State.drain
    split
    · exact hw
    · exact ih (WorkFrame.work (State.handle_frame _ (WorkFrame.work hw _)) _)

/-- With no work there is nothing to drain. -/
theorem State.drain_of_none (n : Nat) (h : s.work = []) : State.drain n s = s := by
  cases n with
  | zero => unfold State.drain; rfl
  | succ n => unfold State.drain; simp [h]

end Sys2Proof.Machine
end

