-- ==== Sys2Proof/Laws/Settle.lean ====
section
/-! SUPPORT. What the end of a command does to each field: with no work left by the handler the blocks stand as the
handler left them, but for the GENSET frames of changed setpoints, the rises of trigger points and HEALTHY. -/

namespace Sys2Proof.Machine

variable (s₀ s : State)

/-! ### HEALTHY -/

theorem State.healthyNow_congr {s t : State} (hm : t.mgmt = s.mgmt) (ha : t.links.a.up = s.links.a.up)
    (hb : t.links.b.up = s.links.b.up) : t.healthyNow = s.healthyNow := by
  simp [State.healthyNow, hm, ha, hb]

/-! ### Setpoints -/

/-- Building a GENSET changes the links and the refresh timer of its generator alone. -/
theorem State.buildGenset_eq (g : Nat) : ∃ x f,
    s.buildGenset g = { s with links := x, par := { s.par with gens := s.par.gens.modify g f } } ∧
      ∀ r, ∃ n, f r = { r with refreshTimer := n } := by
  unfold State.buildGenset
  split
  · exact ⟨s.links, id, by simp, fun r => ⟨r.refreshTimer, rfl⟩⟩
  · split
    · exact ⟨s.links, id, by simp, fun r => ⟨r.refreshTimer, rfl⟩⟩
    · exact ⟨_, _, rfl, fun r => ⟨0, rfl⟩⟩

/-- Within a part of a RESTART no GENSET is built (R148). -/
theorem State.buildGenset_hushed (h : s.hushed = true) (g : Nat) : s.buildGenset g = s := by
  unfold State.buildGenset
  split
  · rfl
  · rw [if_pos h]

/-- A generator record but for its refresh timer. -/
def GenRec.steady (r : GenRec) : GenRec := { r with refreshTimer := 0 }

theorem GenRec.steady_refresh (r : GenRec) (n : Nat) : ({ r with refreshTimer := n } : GenRec).steady = r.steady :=
  rfl

/-- `t` differs from `s` in the links and in refresh timers alone. -/
structure SendFrame (s t : State) : Prop where
  eq : t = { s with links := t.links, par := { s.par with gens := t.par.gens } }
  gens : t.par.gens.map GenRec.steady = s.par.gens.map GenRec.steady
  links : LinkFrame s.links t.links
  silent : s.hushed = true → Silent s.links t.links

theorem SendFrame.refl : SendFrame s s := ⟨rfl, rfl, LinkFrame.refl _, fun _ => Silent.refl _⟩

theorem SendFrame.hushed {s t : State} (h : SendFrame s t) : t.hushed = s.hushed := by
  rw [h.eq]

theorem SendFrame.trans {a b c : State} (h : SendFrame a b) (k : SendFrame b c) : SendFrame a c := by
  refine ⟨?_, k.gens.trans h.gens, h.links.trans k.links,
    fun e => (h.silent e).trans (k.silent (h.hushed.trans e))⟩
  have e := k.eq
  rw [h.eq] at e
  exact e

theorem State.map_steady_modify (gens : List GenRec) (g : Nat) (f : GenRec → GenRec)
    (hf : ∀ r, ∃ n, f r = { r with refreshTimer := n }) :
    (gens.modify g f).map GenRec.steady = gens.map GenRec.steady := by
  apply List.ext_getElem
  · simp
  · intro i _ _
    simp only [List.getElem_map, List.getElem_modify]
    split
    · obtain ⟨n, hn⟩ := hf (gens[i]'(by simpa using ‹i < (gens.map _).length›))
      rw [hn, GenRec.steady_refresh]
    · rfl

theorem State.buildGenset_send (g : Nat) : SendFrame s (s.buildGenset g) := by
  have hl : LinkFrame s.links (s.buildGenset g).links := by
    unfold State.buildGenset
    split
    · exact LinkFrame.refl _
    · split
      · exact LinkFrame.refl _
      · exact s.sendGenset_links g _
  have hq : s.hushed = true → Silent s.links (s.buildGenset g).links := fun e => by
    rw [s.buildGenset_hushed e g]
    exact Silent.refl _
  obtain ⟨x, f, h, hf⟩ := s.buildGenset_eq g
  rw [h] at hl hq ⊢
  exact ⟨rfl, State.map_steady_modify _ _ _ hf, hl, hq⟩

theorem State.sendSetpoints_send : SendFrame s (State.sendSetpoints s₀ s) := by
  unfold State.sendSetpoints State.forEach
  suffices h : ∀ (ns : List Nat) (t : State), SendFrame s t → SendFrame s (ns.foldl (fun t g =>
      if (t.setpointOf g).isSome && t.setpointOf g != s₀.setpointOf g then t.buildGenset g else t) t) from
    h _ _ (SendFrame.refl s)
  intro ns
  induction ns with
  | nil => exact fun _ h => h
  | cons g ns ih =>
    intro t ht
    refine ih _ ?_
    dsimp only
    split
    · exact ht.trans (t.buildGenset_send g)
    · exact ht

/-- Where no setpoint has changed no GENSET is built. -/
theorem State.sendSetpoints_same (h : ∀ g, s.setpointOf g = s₀.setpointOf g) : State.sendSetpoints s₀ s = s := by
  unfold State.sendSetpoints State.forEach
  suffices k : ∀ ns : List Nat, ns.foldl (fun t g =>
      if (t.setpointOf g).isSome && t.setpointOf g != s₀.setpointOf g then t.buildGenset g else t) s = s from k _
  intro ns
  induction ns with
  | nil => rfl
  | cons g ns ih => simpa [h g] using ih

/-- The setpoints follow from the generators and the tables. -/
theorem State.setpointOf_congr {s t : State} (hp : t.par.gens = s.par.gens) (hm : t.mgmt.tables = s.mgmt.tables)
    (g : Nat) : t.setpointOf g = s.setpointOf g := by
  unfold State.setpointOf State.gen State.genConfigured State.fld
  rw [hp, hm]

/-! ### Rises of trigger points -/

/-- With no rise noted on the way, the rises are those of the points that stand higher than they stood. -/
theorem State.noteEdges_plain (hr : s.risen = []) : State.noteEdges s₀ s =
    s.modCapture (fun c => { c with edges := c.edges ++ s.captureTriggers.filter (fun p => !s₀.point p && s.point p) }) := by
  have e : ∀ l : List Nat, l.flatMap (fun p => List.replicate (State.riseCount s₀ s p) p) =
      l.filter (fun p => !s₀.point p && s.point p) := by
    intro l
    induction l with
    | nil => rfl
    | cons p l ih =>
      rw [List.flatMap_cons, ih, List.filter_cons]
      cases h : !s₀.point p && s.point p <;> simp [State.riseCount, hr, h]
  simp only [State.noteEdges, e]

theorem State.noteEdges_same (hr : s.risen = []) (h : ∀ p, s.point p = s₀.point p) : State.noteEdges s₀ s = s := by
  rw [State.noteEdges_plain s₀ s hr]
  simp [h, State.modCapture]

/-! ### What the end of a command leaves alone, whatever work it drains -/

theorem SendFrame.workFrame {s t : State} (h : SendFrame s t) : WorkFrame s t := by
  have hl : t.par.gens.length = s.par.gens.length := by simpa using congrArg List.length h.gens
  rw [h.eq]
  exact ⟨rfl, rfl, hl, id, id, EventsKept.refl _, h.links, h.silent⟩

/-- The last part of a command's end: HEALTHY is driven, and the closure's label, the silence of a RESTART's part and the
noted rises are dropped. -/
def State.closed (u : State) : State :=
  { u with closing := none, hushed := false, risen := [], lines := { u.lines with healthy := u.healthyNow } }

/-- The end of a command goes through a state `t`, reached from the handler's by work and by GENSET frames alone. -/
theorem State.settle_shape : ∃ t, State.settle s₀ s = (State.noteEdges s₀ t).closed ∧ WorkFrame s t ∧
    (s.work = [] → SendFrame s t) ∧
    (s.work = [] → (∀ g, s.setpointOf g = s₀.setpointOf g) → t = s) := by
  refine ⟨State.sendSetpoints s₀ (State.drain Config.workBound s), ?_, ?_, ?_, ?_⟩
  · unfold State.settle
    dsimp only
    generalize State.sendSetpoints s₀ (State.drain Config.workBound s) = t
    rfl
  · exact (State.drain_frame _ (WorkFrame.refl s)).trans (State.sendSetpoints_send _ _).workFrame
  · intro hw
    rw [State.drain_of_none _ hw]
    exact State.sendSetpoints_send s₀ s
  · intro hw hs
    rw [State.drain_of_none _ hw]
    exact State.sendSetpoints_same s₀ s hs

theorem State.settle_healthy : (State.settle s₀ s).lines.healthy = (State.settle s₀ s).healthyNow := by
  obtain ⟨t, e, -⟩ := State.settle_shape s₀ s
  rw [e]
  rfl

@[simp] theorem State.settle_closing : (State.settle s₀ s).closing = none := by
  obtain ⟨t, e, -⟩ := State.settle_shape s₀ s
  rw [e]
  rfl

@[simp] theorem State.settle_hushed : (State.settle s₀ s).hushed = false := by
  obtain ⟨t, e, -⟩ := State.settle_shape s₀ s
  rw [e]
  rfl

@[simp] theorem State.settle_risen : (State.settle s₀ s).risen = [] := by
  obtain ⟨t, e, -⟩ := State.settle_shape s₀ s
  rw [e]
  rfl

@[simp] theorem State.settle_pending : (State.settle s₀ s).pending = s.pending := by
  obtain ⟨t, e, h, -⟩ := State.settle_shape s₀ s
  rw [e]
  exact congrArg Rest.pending h.rest

@[simp] theorem State.settle_free : (State.settle s₀ s).free = s.free := by
  obtain ⟨t, e, h, -⟩ := State.settle_shape s₀ s
  rw [e]
  exact congrArg Rest.free h.rest

@[simp] theorem State.settle_aligner : (State.settle s₀ s).aligner = s.aligner := by
  obtain ⟨t, e, h, -⟩ := State.settle_shape s₀ s
  rw [e]
  exact congrArg Rest.aligner h.rest

@[simp] theorem State.settle_intake : (State.settle s₀ s).intake = s.intake := by
  obtain ⟨t, e, h, -⟩ := State.settle_shape s₀ s
  rw [e]
  exact congrArg Rest.intake h.rest

@[simp] theorem State.settle_measures : (State.settle s₀ s).measures = s.measures := by
  obtain ⟨t, e, h, -⟩ := State.settle_shape s₀ s
  rw [e]
  exact congrArg Rest.measures h.rest

@[simp] theorem State.settle_elements : (State.settle s₀ s).elements = s.elements := by
  obtain ⟨t, e, h, -⟩ := State.settle_shape s₀ s
  rw [e]
  exact congrArg Rest.elements h.rest

@[simp] theorem State.settle_mgmt : (State.settle s₀ s).mgmt = s.mgmt := by
  obtain ⟨t, e, h, -⟩ := State.settle_shape s₀ s
  rw [e]
  exact congrArg Rest.mgmt h.rest

@[simp] theorem State.settle_sources : (State.settle s₀ s).seq.sources = s.seq.sources := by
  obtain ⟨t, e, h, -⟩ := State.settle_shape s₀ s
  rw [e]
  exact congrArg Rest.sources h.rest

/-- Of the lines the end of a command writes HEALTHY alone. -/
theorem State.settle_lines : (State.settle s₀ s).lines =
    { s.lines with healthy := (State.settle s₀ s).lines.healthy } := by
  obtain ⟨t, e, h, -⟩ := State.settle_shape s₀ s
  rw [e, ← show t.lines = s.lines from congrArg Rest.lines h.rest]
  rfl

/-- Of capture the end of a command writes the rises to be taken alone. -/
theorem State.settle_capture : (State.settle s₀ s).capture =
    { s.capture with edges := (State.settle s₀ s).capture.edges } := by
  obtain ⟨t, e, h, -⟩ := State.settle_shape s₀ s
  rw [e, ← show t.capture = s.capture from congrArg Rest.capture h.rest]
  rfl

/-- The ports but for their queues, the bounds of the queues and the windows, through the end of a command. -/
theorem State.settle_links : LinkFrame s.links (State.settle s₀ s).links := by
  obtain ⟨t, e, h, -⟩ := State.settle_shape s₀ s
  rw [e]
  exact h.links

/-- The end of a part of a RESTART puts no frame for a generator controller in a queue (R148). -/
theorem State.settle_silent (h : s.hushed = true) : Silent s.links (State.settle s₀ s).links := by
  obtain ⟨t, e, k, -⟩ := State.settle_shape s₀ s
  rw [e]
  exact k.silent h

/-- The numbers of records, and the bound and the order of the event queue, through the end of a command. -/
theorem State.settle_counts :
    (State.settle s₀ s).breakers.recs.length = s.breakers.recs.length ∧
      (State.settle s₀ s).par.gens.length = s.par.gens.length ∧
      (s.par.channels.length = 4 → (State.settle s₀ s).par.channels.length = 4) ∧
      (s.seq.flags.length = 4 → (State.settle s₀ s).seq.flags.length = 4) ∧
      EventsKept s.events (State.settle s₀ s).events := by
  obtain ⟨t, e, h, -⟩ := State.settle_shape s₀ s
  rw [e]
  exact ⟨h.recs, h.gens, h.channels, h.flags, h.held⟩

/-! ### With no work left by the handler -/

@[simp] theorem State.settle_work (hw : s.work = []) : (State.settle s₀ s).work = [] := by
  obtain ⟨t, e, -, h, -⟩ := State.settle_shape s₀ s
  rw [e]
  exact (congrArg State.work (h hw).eq).trans hw

@[simp] theorem State.settle_breakers (hw : s.work = []) : (State.settle s₀ s).breakers = s.breakers := by
  obtain ⟨t, e, -, h, -⟩ := State.settle_shape s₀ s
  rw [e]
  exact (congrArg State.breakers (h hw).eq).trans rfl

@[simp] theorem State.settle_seq (hw : s.work = []) : (State.settle s₀ s).seq = s.seq := by
  obtain ⟨t, e, -, h, -⟩ := State.settle_shape s₀ s
  rw [e]
  exact (congrArg State.seq (h hw).eq).trans rfl

@[simp] theorem State.settle_events (hw : s.work = []) : (State.settle s₀ s).events = s.events := by
  obtain ⟨t, e, -, h, -⟩ := State.settle_shape s₀ s
  rw [e]
  exact (congrArg State.events (h hw).eq).trans rfl

/-- Of the generators the refresh timers alone may change. -/
theorem State.settle_par (hw : s.work = []) : (State.settle s₀ s).par =
    { s.par with gens := (State.settle s₀ s).par.gens } := by
  obtain ⟨t, e, -, h, -⟩ := State.settle_shape s₀ s
  rw [e]
  exact congrArg State.par (h hw).eq

theorem State.settle_gens (hw : s.work = []) :
    (State.settle s₀ s).par.gens.map GenRec.steady = s.par.gens.map GenRec.steady := by
  obtain ⟨t, e, -, h, -⟩ := State.settle_shape s₀ s
  rw [e]
  exact (h hw).gens

/-- One generator but for its refresh timer. -/
theorem State.settle_gen (hw : s.work = []) (g : Nat) :
    ((State.settle s₀ s).gen g).steady = (s.gen g).steady := by
  have h := congrArg (fun l => l.getD g (GenRec.steady default)) (State.settle_gens s₀ s hw)
  simpa [State.gen, nth, List.getD_map] using h

/-- Where no setpoint has changed, the links stand too. -/
theorem State.settle_same (hw : s.work = []) (hs : ∀ g, s.setpointOf g = s₀.setpointOf g) :
    State.settle s₀ s =
      { s with
        closing := none
        hushed := false
        risen := []
        capture := (State.noteEdges s₀ s).capture
        lines := { s.lines with healthy := s.healthyNow } } := by
  obtain ⟨t, e, -, -, h⟩ := State.settle_shape s₀ s
  rw [e, h hw hs]
  rfl

/-- A command that changes nothing that another block reads leaves exactly what its handler left. -/
theorem State.settle_quiet (hw : s.work = []) (hr : s.risen = []) (hs : ∀ g, s.setpointOf g = s₀.setpointOf g)
    (hp : ∀ p, s.point p = s₀.point p) :
    State.settle s₀ s =
      { s with closing := none, hushed := false, risen := [], lines := { s.lines with healthy := s.healthyNow } } := by
  rw [State.settle_same _ _ hw hs, State.noteEdges_same _ _ hr hp]

end Sys2Proof.Machine
end

