-- ==== Sys2Proof/Laws/Commands.lean ====
section
/-! SUPPORT. What the operations that most commands go through can do, said once: recording an event, the reception of a
frame, the taking of a request and its answer, one piece of work, the end of a command that leaves nothing to do, and what
ends a sync run or takes a generator from its list. -/

namespace Sys2Proof.Machine

variable (s : State)

/-! ### Events -/

/-- What recording an event does to a port: EVENT frames may join the tails of the normal and the bulk queue. -/
structure PortGrows (p q : LinkPort) : Prop where
  eq : q = { p with normal := q.normal, bulk := q.bulk }
  normal : p.normal <+: q.normal
  bulk : p.bulk <+: q.bulk

theorem PortGrows.refl (p : LinkPort) : PortGrows p p := ⟨rfl, List.prefix_rfl, List.prefix_rfl⟩

theorem PortGrows.trans {p q r : LinkPort} (h : PortGrows p q) (k : PortGrows q r) : PortGrows p r := by
  refine ⟨?_, h.normal.trans k.normal, h.bulk.trans k.bulk⟩
  have e := k.eq
  rw [h.eq] at e
  exact e

/-- Both ports grow alike, and of the rest of the links the EVENT sequence counter alone may step. -/
structure LinksGrow (x y : Links) : Prop where
  eq : y = { x with a := y.a, b := y.b, eventSeq := y.eventSeq }
  a : PortGrows x.a y.a
  b : PortGrows x.b y.b

theorem LinksGrow.refl (x : Links) : LinksGrow x x := ⟨rfl, PortGrows.refl _, PortGrows.refl _⟩

theorem LinksGrow.trans {x y z : Links} (h : LinksGrow x y) (k : LinksGrow y z) : LinksGrow x z := by
  refine ⟨?_, h.a.trans k.a, h.b.trans k.b⟩
  have e := k.eq
  rw [h.eq] at e
  exact e

theorem LinkPort.admitNormal_grows (p : LinkPort) (t : OutFrame → Bool) (f : OutFrame) :
    PortGrows p (p.admitNormal t f).1 := by
  unfold LinkPort.admitNormal
  split
  · exact ⟨rfl, ⟨[f], rfl⟩, List.prefix_rfl⟩
  · exact PortGrows.refl p

theorem LinkPort.admitBulk_grows (p : LinkPort) (f : OutFrame) : PortGrows p (p.admitBulk f).1 := by
  unfold LinkPort.admitBulk
  split
  · exact ⟨rfl, List.prefix_rfl, ⟨[.frame f], rfl⟩⟩
  · exact PortGrows.refl p

theorem State.onUpLinks_grows {u : State} (f : LinkPort → LinkPort × Bool) (hf : ∀ p, PortGrows p (f p).1)
    (hu : LinksGrow s.links u.links) : LinksGrow s.links (u.onUpLinks f).1.links := by
  refine hu.trans ⟨rfl, ?_, ?_⟩
  · simp only [State.onUpLinks]
    split
    · exact hf _
    · exact PortGrows.refl _
  · simp only [State.onUpLinks]
    split
    · exact hf _
    · exact PortGrows.refl _

theorem State.sendEvents_grows (urgent : Bool) : LinksGrow s.links (s.sendEvents urgent).links := by
  unfold State.sendEvents
  dsimp only
  generalize s.unsent urgent = rs
  split
  · exact LinksGrow.refl _
  · have h : ∀ seq, LinksGrow s.links (State.onUpLinks { s with links := { s.links with eventSeq := seq } }
        (if urgent then LinkPort.admitNormal OutFrame.isEvent
          ⟨s.ownAddress, 4095, s.links.eventSeq, .event rs, false, false⟩
        else LinkPort.admitBulk ⟨s.ownAddress, 4095, s.links.eventSeq, .event rs, false, false⟩)).1.links := by
      intro seq
      refine State.onUpLinks_grows s _ (fun p => ?_) ⟨rfl, PortGrows.refl _, PortGrows.refl _⟩
      split
      · exact LinkPort.admitNormal_grows p _ _
      · exact LinkPort.admitBulk_grows p _
    split <;> exact h _

/-- Recording an event: the record joins the tail, and of the rest the links and sent marks alone may change. -/
theorem State.event_eq (c : EventClass) (priority object code : Nat) (value : Option Nat) : ∃ x seqs,
    LinksGrow s.links x ∧ s.event c priority object code value = { s with
      links := x
      events := (s.events.append
        ⟨s.events.nextSeq, s.eventLabel, c, priority, object, code, value, false⟩).markSent seqs } := by
  unfold State.event State.sendAttempt
  generalize s.events.append _ = e
  generalize hu : ({ s with events := e } : State) = u
  have hl : u.links = s.links := by rw [← hu]
  have g1 := u.sendEvents_grows true
  obtain ⟨x, seqs, e1⟩ := u.sendEvents_eq true
  rw [e1, hl] at g1
  have g2 := State.sendEvents_grows (u.sendEvents true) false
  obtain ⟨y, seqs', e2⟩ := State.sendEvents_eq (u.sendEvents true) false
  rw [e2, e1] at g2
  refine ⟨y, seqs ++ seqs', g1.trans g2, ?_⟩
  rw [e2, e1, ← hu]
  congr 1
  simp only [EventQueue.markSent, List.map_map]
  congr 1
  apply List.map_congr_left
  intro r _
  by_cases h1 : seqs.contains r.seq = true <;> by_cases h2 : seqs'.contains r.seq = true <;> simp_all

@[simp] theorem EventQueue.markSent_nextSeq (q : EventQueue) (seqs : List Nat) :
    (q.markSent seqs).nextSeq = q.nextSeq := rfl

@[simp] theorem EventQueue.append_nextSeq (q : EventQueue) (r : EventRecord) :
    (q.append r).nextSeq = step16 q.nextSeq := by
  unfold EventQueue.append; split <;> rfl

theorem EventQueue.append_last (q : EventQueue) (r : EventRecord) : (q.append r).records.getLast? = some r := by
  unfold EventQueue.append; split <;> simp

/-- The event just recorded is the newest. -/
@[simp] theorem State.event_newest (c : EventClass) (priority object code : Nat) (value : Option Nat) :
    (s.event c priority object code value).newest =
      some ⟨s.events.nextSeq, s.eventLabel, c, priority, object, code, value, false⟩ := by
  obtain ⟨x, seqs, -, e⟩ := s.event_eq c priority object code value
  rw [e]
  simp only [State.newest, EventQueue.markSent, List.getLast?_map, EventQueue.append_last, Option.map_some]
  split <;> rfl

/-! ### One piece of work -/

theorem State.drain_cons (n : Nat) {w : Work} {ws : List Work} (h : s.work = w :: ws) :
    State.drain (n + 1) s = State.drain n { State.handle { s with work := [] } w with
      work := (State.handle { s with work := [] } w).work ++ ws } := by
  conv_lhs => unfold State.drain
  rw [h]

/-! ### A command that leaves nothing to do -/

/-- With no work left, no setpoint and no point changed and HEALTHY standing, the handler's state is the answer. -/
theorem finish_exact {u : State} (hw : u.work = []) (hr : u.risen = []) (hc : u.closing = none)
    (hq : u.hushed = false) (hs : ∀ g, u.setpointOf g = s.setpointOf g) (hp : ∀ p, u.point p = s.point p) (hh : u.lines.healthy = u.healthyNow) : finish s u = .next u := by
  unfold finish
  rw [State.settle_quiet _ _ hw hr hs hp, ← hh, ← hc, ← hq, ← hr]

/-! ### Reception (R1, R2, R6 to R8) -/

theorem State.heard_up (l : Link) (h : (s.port l).up = true) :
    s.heard l = s.modPort l (fun p => { p with silence := 0 }) := by
  unfold State.heard
  rw [if_pos h]
  cases l <;> simp only [State.modPort, State.setPort, State.port] at h ⊢ <;> simp [← h]

@[simp] theorem State.verdict_modPort (l : Link) (f : LinkPort → LinkPort) (c : FrameClass) (h : Header) :
    (s.modPort l f).verdict c h = s.verdict c h := by
  cases l <;> rfl

/-- What the first test of a frame reads stands while the frame is heard. -/
@[simp] theorem State.heard_sees (l : Link) (e : Ether) : (s.heard l).sees e = s.sees e := by
  unfold State.heard
  dsimp only
  split
  · cases l <;> rfl
  · obtain ⟨x, seqs, -, h⟩ := State.event_eq (s.modPort l (fun p => { p with silence := 0, up := true })) .link 6 l.number 2 none
    rw [h]
    cases l <;> rfl

/-- A frame that is not seen (R4) changes nothing. -/
theorem State.receive_unseen (l : Link) (c : FrameClass) (h : Header) (work : State → State)
    (hs : s.sees h.eth = false) : s.receive l c h work = s := by
  unfold State.receive State.verdict
  simp [hs]

/-- A taken frame of a class other than SAMPLE on a link that is UP goes to its block. -/
theorem State.receive_taken (l : Link) (c : FrameClass) (h : Header) (work : State → State)
    (hu : (s.port l).up = true) (hv : s.verdict c h = .taken) (hc : c ≠ .sample) :
    s.receive l c h work = work (s.reached l c h) := by
  unfold State.receive
  rw [State.heard_up s l hu]
  simp only [State.verdict_modPort, hv]
  have : (c == FrameClass.sample) = false := by simpa using hc
  rw [this]
  cases l <;> rfl

/-- A taken SAMPLE frame on a link that is UP goes to the stream intake. -/
theorem State.receive_sample (l : Link) (h : Header) (work : State → State) (hu : (s.port l).up = true)
    (hv : s.verdict .sample h = .taken) :
    s.receive l .sample h work = work (s.modPort l (fun p => { p with silence := 0, taken := step32 p.taken })) := by
  unfold State.receive
  rw [State.heard_up s l hu]
  simp only [State.verdict_modPort, hv]
  cases l <;> rfl

/-! ### Requests (R17, R177) -/

/-- A port with a place reserved for a response, if its link is UP. -/
def LinkPort.booked (n : Nat) (p : LinkPort) : LinkPort :=
  if p.up then { p with bulk := p.bulk ++ [.reserved n] } else p

/-- The state in which the work of a taken request is done: the frame received, its places reserved, the request
counted. -/
def State.booked (l : Link) (q : Request) : State :=
  { s.reached l .mgmtReq q.header with
    links := { (s.reached l .mgmtReq q.header).links with
      a := ((s.reached l .mgmtReq q.header).links.a).booked s.mgmt.nextTicket
      b := ((s.reached l .mgmtReq q.header).links.b).booked s.mgmt.nextTicket }
    mgmt := s.answered .done }

theorem LinkPort.reserve_room (n : Nat) (p : LinkPort) (h : p.up = true → p.bulkRoom = true) :
    (if p.up then p.reserve n else (p, false)) = (p.booked n, p.up) := by
  unfold LinkPort.booked
  cases hu : p.up
  · rfl
  · simp [LinkPort.reserve, h hu, LinkPort.bulkAdd, hu]

@[simp] theorem LinkPort.booked_up (n : Nat) (p : LinkPort) : (p.booked n).up = p.up := by
  unfold LinkPort.booked; split <;> rfl

/-- A request whose places can be reserved is taken: its work is done and answered. -/
theorem State.serve_asked {l : Link} {q : Request} (kind : Nat) (exempt : Bool)
    (work : Ticket → State → State × Option Reply) (h : s.Asked l q) :
    s.serve l kind exempt q work =
      (work (s.ticketFor kind q) (s.booked l q)).1.answer (s.ticketFor kind q)
        (work (s.ticketFor kind q) (s.booked l q)).2 := by
  obtain ⟨-, hu, hv, ha, hb, hr⟩ := h
  unfold State.serve
  rw [State.receive_taken s l _ _ _ hu hv (by simp)]
  have hra : (s.reached l .mgmtReq q.header).links.a.up = true →
      (s.reached l .mgmtReq q.header).links.a.bulkRoom = true := by cases l <;> exact ha
  have hrb : (s.reached l .mgmtReq q.header).links.b.up = true →
      (s.reached l .mgmtReq q.header).links.b.bulkRoom = true := by cases l <;> exact hb
  have hup : (s.reached l .mgmtReq q.header).links.a.up = true ∨
      (s.reached l .mgmtReq q.header).links.b.up = true := by
    cases l
    · exact .inl hu
    · exact .inr hu
  have ht : (s.reached l .mgmtReq q.header).ticketFor kind q = s.ticketFor kind q := by cases l <;> rfl
  have hm : (s.reached l .mgmtReq q.header).mgmt = s.mgmt := by cases l <;> rfl
  have hb : ∀ r, s.reached l .mgmtReq q.header = r → r.mgmt = s.mgmt →
      State.countRequest { r with links := { r.links with
        a := (r.links.a).booked (s.ticketFor kind q).number
        b := (r.links.b).booked (s.ticketFor kind q).number } } = s.booked l q := by
    intro r e hr'
    subst e
    simp only [State.countRequest, State.modMgmt, State.booked, State.answered, hr']
    rfl
  unfold State.take State.onUpLinks
  dsimp only
  rw [ht, LinkPort.reserve_room _ _ hra, LinkPort.reserve_room _ _ hrb]
  have : (s.booked l q).mgmt.restart = none := hr
  rcases hup with hx | hx <;> simp [hx, hb _ rfl hm, this]

/-- A response fills each place that is reserved for it, and of the rest steps the RESPONSE sequence counter and, if it is
not DONE, the count of its status. -/
theorem State.respond_eq (t : Ticket) (st : Status) (detailA detailB : Nat) (data : List Byte) :
    s.respond t st detailA detailB data = { s with
      links := { s.links with
        responseSeq := step16 s.links.responseSeq
        a := (s.links.a.fill t.number ⟨s.ownAddress, t.source, s.links.responseSeq,
          .response t.request t.kind st.code t.target detailA detailB data, false, false⟩).1
        b := (s.links.b.fill t.number ⟨s.ownAddress, t.source, s.links.responseSeq,
          .response t.request t.kind st.code t.target detailA detailB data, false, false⟩).1 }
      mgmt := { s.mgmt with
        statusCounts := if st == .done then s.mgmt.statusCounts
          else s.mgmt.statusCounts.modify (st.code - 1) step32 } } := by
  unfold State.respond
  split <;> rfl

/-- A reserved place is filled with the frame. -/
theorem LinkPort.fill_mem (n : Nat) (f : OutFrame) (p : LinkPort) (h : BulkPlace.reserved n ∈ p.bulk) :
    BulkPlace.frame f ∈ (p.fill n f).1.bulk := by
  have hc : p.bulk.contains (.reserved n) = true := by simpa using h
  simp only [LinkPort.fill, hc]
  exact List.mem_map.2 ⟨_, h, by simp⟩

/-! ### Sync runs -/

/-- A run loses the generators that another run's correction has biased, and nothing else of any channel changes (R162). -/
@[simp] theorem State.disown_channel (gs : List Nat) (c : Nat) : (s.disown gs).channel c =
    (s.channel c).map (fun r => { r with wrote := r.wrote.filter (fun g => !gs.contains g) }) := by
  simp only [State.channel, State.disown, State.modPar, List.getD_eq_getElem?_getD, List.getElem?_map]
  cases s.par.channels[c]? <;> rfl

@[simp] theorem State.disown_gen (gs : List Nat) (g : Nat) : (s.disown gs).gen g = s.gen g := rfl

/-- The run that a conclusion ends is that of the client for the very breaker (R163). -/
theorem State.channelFor_some {p : Party} {b c : Nat} (h : s.channelFor p b = some c) :
    c < 4 ∧ ∃ r, s.channel c = some r ∧ r.client = p ∧ r.breaker = b := by
  refine ⟨List.mem_range.mp (List.mem_of_find?_eq_some h), ?_⟩
  have hc := List.find?_some h
  cases hr : s.channel c with
  | none => simp [hr] at hc
  | some r => exact ⟨r, rfl, by simpa [hr] using hc⟩

/-- A conclusion on a breaker for which the client has no run ends none (R163). -/
theorem State.endRunOf_other {p : Party} {b : Nat}
    (h : ∀ c < 4, ∀ r, s.channel c = some r → r.client = p → r.breaker ≠ b) : s.endRunOf p b = s := by
  unfold State.endRunOf
  split
  · rfl
  · obtain ⟨hc, r, hr, hp, hb⟩ := s.channelFor_some ‹_›
    exact absurd hb (h _ hc r hr hp)

end Sys2Proof.Machine
end

