-- ==== Sys2Proof/Tests/Slice0.lean ====
section
/-! SUPPORT. Tests of the model, and for every statement with hypotheses a state and operands that meet them. -/

namespace Sys2Proof.Tests

open Sys2Proof Sys2Proof.Machine

set_option synthInstance.maxHeartbeats 400000
set_option synthInstance.maxSize 4096
set_option Elab.async false

/-! ### States for the tests -/

/-- A field of a table written. -/
def put (t : TableId) (e id v : Nat) (s : State) : State :=
  s.setTable t ((s.table t).modify e (fun fs => fs.map (fun f => if f.1 = id then (id, v) else f)))

def puts (t : TableId) (e : Nat) (fs : List (Nat × Nat)) (s : State) : State :=
  fs.foldl (fun u f => put t e f.1 f.2 u) s

/-- Link A is UP, LOCKOUT is 0, and the tables name a management station 100, a time source 400, stream 0 of source 500,
breakers 0 to 2 of the BIU at 200, and generator 0 of the controller at 300 with breaker 2. -/
def live : State :=
  let s : State := { State.reset with
    links := { State.reset.links with a := { up := true, silence := 5 } }
    lines := { State.reset.lines with lockout := false } }
  let t := puts .station 0 [(4, 100), (6, 400), (9, 3)] s
  let u := puts .stream 0 [(1, 1), (2, 500), (3, 1)] t
  let v := puts .breaker 0 [(1, 1), (2, 200), (3, 7), (17, 1)] u
  let w := puts .breaker 2 [(1, 1), (2, 200), (3, 9)] (puts .breaker 1 [(1, 1), (2, 200), (3, 8)] v)
  (puts .generator 0 [(1, 1), (2, 300), (3, 2), (6, 1000), (7, 100), (8, 10), (9, 500), (12, 0)] w).rebuild

/-- The Ethernet part of a frame that passes the first test. -/
def ether : Ether := ⟨true, 0xB7D4⟩

/-- A request of the management station. -/
def req (target a b : Nat) (data : List Byte := []) : Request := ⟨ether, 100, 4093, 1, 5, target, a, b, data⟩

/-- A header from a station to the part. -/
def from' (src : Nat) : Header := ⟨ether, src, 4093, 9⟩

def withBrk (s : State) (b : Nat) (r : BreakerRec) : State := s.modBrk b (fun _ => r)

def withGen (s : State) (g : Nat) (r : GenRec) : State := s.modGen g (fun _ => r)

def withSeq (s : State) (x : SeqState) : State := s.modSeq (fun q => { q with state := x })
/-! ### States for the witnesses -/

/-- The state that a command leaves. -/
def nextOf (c : Instr) (s : State) : State :=
  match exec c s with
  | .next t => t
  | .fault f => nomatch f
  | .refused _ => s

/-- Every command leaves a state. -/
theorem exec_nextOf (c : Instr) (s : State) : exec c s = .next (nextOf c s) := by cases c <;> rfl

/-- A frame that its link takes: the hypotheses that the statements on received frames share. -/
abbrev Taken (s : State) (l : Link) (c : FrameClass) (h : Header) : Prop :=
  s.Quiet ∧ (s.port l).up = true ∧ s.verdict c h = .taken

def genset : OutFrame := ⟨4093, 300, 0, .genset 0 ⟨false, false, 0, 0, 0, 10⟩, false, false⟩
def eventFrame : OutFrame := ⟨4093, 4095, 0, .event [], false, false⟩
def answer : OutFrame := ⟨4093, 100, 0, .response 5 7 0 1 0 0 [], false, false⟩
def unsent : List Byte := frameBytes .event (from' 200) []
def timeSent : List Byte := frameBytes .time (from' 400) (timeBytes ⟨5, true⟩)

def command (a : Action) (p : Phase) (t : Nat) : Command :=
  { action := a, tag := 3, origins := { operator := true }, phase := p, timer := t }
def commandFrame (a : Action) : OutFrame := ⟨4093, 200, 0, .command 0 7 a 3 { operator := true }, false, false⟩
def openSent : State :=
  withBrk (live.modPort .a (fun p => { p with urgent := [commandFrame .opening] })) 0
    { slot := some (command .opening .sent 0) }
def closeSent : State :=
  withBrk (live.modPort .a (fun p => { p with normal := [commandFrame .closing] })) 0
    { slot := some (command .closing .sent 0), position := .opened }
def closeHeld : State := closeSent.modLines (fun l => { l with lockout := true })

def sample (second index : Nat) : SampleBody := ⟨1, second, index, 0, [1, 2, 3, 4, 5, 6, 7, 8]⟩
/-- HOLDOVER at instant (1, 10) with the closing point at (1, 5), and stream 0 ACQUIRING. -/
def timed : State :=
  (live.modAligner (fun a => { a with time := .holdover, counter := ⟨1, 10⟩, closingPoint := 2405 })).modStream 0
    (fun r => { r with state := .acquiring, lastDelivered := some ⟨1, 3⟩, lastSeq := some 7 })
def held : State := timed.modStream 0 (fun r => { r with buffer := [⟨2405, 0, []⟩] })
def tracking (index timeout : Nat) (slew : Slew) : State :=
  timed.modAligner (fun a => { a with time := .tracking, timeout := timeout, slew := slew, counter := ⟨1, index⟩ })
def gated : State :=
  (timed.modStream 0 (fun r => { r with
    state := .locked
    buffer := [⟨2405, 0, [1, 2, 3, 4, 5, 6, 7, 8]⟩, ⟨2406, 0, []⟩] })).modLines
      (fun l => { l with lastSample := some true })
/-- Stream 0 LOCKED with its frame for the closing point and every quantity at fresh count 47, and windows to which that
frame adds the last sample of the window of Example 3-1. -/
def measuring : State :=
  { (timed.modStream 0 (fun r => { r with
      state := .locked
      buffer := [⟨2405, 0, List.replicate 8 (-600)⟩]
      quantities := List.replicate 8 ⟨.fresh, 0, 47, false, -600⟩ })).modLines
        (fun l => { l with lastSample := some true, lockout := true }) with
    measures := List.replicate 16 {
      windows := List.replicate 8 (⟨0, .none⟩ :: List.replicate 24 ⟨600, .none⟩ ++ List.replicate 23 ⟨-600, .none⟩) } }
/-- The same with element 5 an OV element, ARMED, that trips breakers 0 and 2 without a delay, and no generator. -/
def tripping : State :=
  (puts .element 5 [(1, 3), (2, 0), (3, 1), (8, 5), (16, 1), (17, 100)] (put .generator 0 1 0 measuring)).modElement 5
    (fun r => { r with state := .armed })
def armed : State :=
  (puts .capture 0 [(1, 1), (2, 1), (7, 1), (8, 5), (16, 2), (17, 48)] live).modCapture (fun c =>
    { c with edges := [5], ring := [⟨⟨0, 0⟩, []⟩, ⟨⟨0, 1⟩, []⟩, ⟨⟨0, 2⟩, []⟩] })

def definite (type delay : Nat) : Settings := ⟨type, 0, 1, 0, false, true, 100, delay, 0, 5, 10⟩

def reported (p : Reported) : PositionBody := ⟨7, p, ⟨false, true, true⟩, 0, .none, .other⟩
def candidate' : State := withBrk live 0 { candidate := some .closed }
def asked (add : Bool) (m : Member) : State :=
  { live with breakers := { live.breakers with requests := [⟨add, 0, m⟩, ⟨true, 1, .stationTrip⟩] } }
def tripOpen (again : Bool) : Command :=
  { action := .opening, tag := 3, origins := { protection := true }, phase := .sent, timer := 36, resendDone := again }
def isolated : State := puts .breaker 0 [(21, 1), (7, 10), (8, 20)] live
def failing (bf : BfState) (timer : Nat) (c : Option Command) : State :=
  withBrk live 0 { slot := c, bf := bf, bfTimer := timer, bfOrigins := { protection := true } }

/-- Source U1 with a fail delay of 5 instants and a restore delay of 9. -/
def sourced (x : SourceState) (delay : Nat) : State :=
  (puts .source 0 [(7, 5), (8, 9)] live).modSource 0 (fun r => { r with state := x, delay := delay })
def lockoutDue (rise : Bool) (x : SeqState) (k : Lineup) : State :=
  (live.modLines (fun l => { l with lockout := rise, lockoutChanges := [rise] })).modSeq (fun q =>
    { q with state := x, lineup := k, autoEffective := rise })
/-- Line-up 0 has breaker 0 CLOSED, line-up 1 has it OPEN and breaker 1 CLOSED. -/
def lined (p0 p1 : Position) : State :=
  (withBrk (withBrk (puts .lineup 1 [(1, 2), (2, 0), (3, 257)] (puts .lineup 0 [(1, 1), (2, 256)] live)) 0
    { position := p0 }) 1 { position := p1 }).modSeq (fun q => { q with state := .init, lineupDue := true })
/-- A plan of two steps, the second a WAIT_TIME, with the fields given, and the run given. -/
def planned (fs : List (Nat × Nat)) (r : PlanRun) : State :=
  withSeq (puts .plan 0 ([(1, 8), (2, 8), (3, 0xFFFF), (4, 100), (5, 2), (24, 6), (25, 10)] ++ fs) live) (.running r)
def byOperator : PlanRun := { plan := 0, cause := .operator }
def deadClose : Command :=
  { action := .closing, closeKind := .dead, requester := .party .sequencer, origins := { changeover := true } }
def deadTerm : State :=
  withBrk (planned [(16, 4), (17, 0), (18, 240)] { byOperator with wait := .deadTerm }) 0
    { slot := some deadClose, position := .opened, health := ⟨true, true, false⟩ }
def retrying (n : Nat) : State :=
  ((planned [(16, 3), (17, 0), (18, 0), (19, 1)] { byOperator with wait := .retry n }).modStream 0
    (fun r => { r with valid := true })).modStream 1 (fun r => { r with valid := true })

def genset' (x : GenState) : State := withGen live 0 { state := x }
def basePage : Page := ⟨false, true, true, .base ⟨true, true, true, true, true⟩⟩
def ramp (toggle : Bool) : Page := ⟨toggle, true, false, .next .rampRate 20⟩
def exchanging (x : ExchangeState) : State := withGen live 0 { state := .negotiating, exchange := { state := x } }
def demanded (n : Nat) : State :=
  (withGen live 0 { state := .standby, common := ⟨true, false, false, false, false⟩ }).modPar (fun p =>
    { p with demand := n, demandDue := true })
def genOpened (r : GenRec) : State := withBrk (withGen live 0 r) 2 { position := .opened }
def run (b c : Nat) (p : Party) (timer : Nat) : SyncRun :=
  { client := p, breaker := b, gStream := 0, bStream := 1, entry := c, timer := timer }
def busLive : State :=
  ({ genOpened { state := .ready, retryDue := true } with
    measures := List.replicate 16 { phasors := List.replicate 8 ⟨100, 0, 100, true, none⟩ } }).modPar (fun p =>
      { p with channels := [none, some (run 3 1 (.generator 1) 0), some (run 4 2 (.generator 2) 0),
        some (run 5 3 (.generator 3) 0)] })
def checking (n : Nat) : State :=
  (withBrk (withGen live 0 { state := .closing, deadTimer := n }) 2 {
    position := .opened
    slot := some { action := .closing, closeKind := .dead, requester := .party (.generator 0)
                   origins := { paralleling := true }, generator := some 0 } }).modPar (fun p =>
      { p with token := some (.generator 0) })
def correcting (n : Nat) : State :=
  (withGen live 0 { state := .syncing, common := ⟨true, true, true, true, true⟩, params := ⟨1000, 100, 10, 500⟩ }).modPar
    (fun p => { p with channels := [none, some (run 2 0 (.generator 0) n), none, none] })
def sharing (n : Nat) : State :=
  ((withGen (withGen (withGen live 0
    { state := .online, common := ⟨true, true, true, false, true⟩, params := ⟨1000, 100, 10, 500⟩
      status := ⟨true, true, false, false, false, 600⟩ }) 1
    { state := .online, common := ⟨true, true, true, true, true⟩, params := ⟨500, 50, 10, 500⟩, soft := true
      onlineTimer := 7200 }) 2 { state := .online })).modPar (fun p => { p with shareTimer := n })

def restarting (ks : List Block) : State := live.modMgmt (fun m => { m with restart := some ks })
def capturing : State :=
  live.modCapture (fun c => { c with state := .held, buffer := List.replicate 40 ⟨⟨0, 0⟩, [List.replicate 8 (0, .taken)]⟩ })
/-- The staging area of a table holds entry 0 as written, and is COMPLETE. -/
def staged (t : TableId) (w : Entry) (s : State) : State := s.setStaging t ⟨.complete, [(0, w)]⟩
def storing : State := live.modMgmt (fun m => { m with configured := true, store := some ⟨⟨0, 100, 5, 10, 0⟩, [], 7⟩ })
/-! ### Witnesses: states and operands that meet the hypotheses of the statements -/

theorem witness_StepTakesTheFront :
    ({ live with pending := [.loadSharing] } : State).pending = .loadSharing :: [] ∧ live.pending = [] := ⟨rfl, rfl⟩

def queued : State := { live with pending := [.timeHoldover] }

theorem witness_EveryStepKeepsSound :
    queued.Sound ∧ step queued = .next (nextOf .timeHoldover { queued with pending := [] }) :=
  ⟨by decide +kernel, exec_nextOf .timeHoldover { queued with pending := [] }⟩

/-- Generator 0 is ONLINE with its breaker CLOSED, and a capture of 2 records before the trigger and 48 after it runs. -/
def onlineClosed : State :=
  let s := withBrk (withGen (puts .capture 0 [(16, 2), (17, 48)] live) 0 { state := .online }) 2 { position := .closed }
  { s.modCapture (fun c =>
      { c with state := .recording, copied := 2, buffer := List.replicate 3 ⟨⟨0, 0⟩, []⟩ }) with pending := [.linkDown .b] }

theorem witness_EveryStepKeepsSound_more :
    onlineClosed.Quiet ∧ onlineClosed.OwnBreakers ∧ onlineClosed.OnlineWhileClosed ∧ onlineClosed.CaptureInRange ∧
      onlineClosed.CaptureFits ∧
      step onlineClosed = .next (nextOf (.linkDown .b) { onlineClosed with pending := [] }) ∧
      (nextOf (.linkDown .b) { onlineClosed with pending := [] }).work = [] := by
  refine ⟨by decide +kernel, ?_, ?_, by decide +kernel, by decide +kernel, exec_nextOf (.linkDown .b) _,
    by decide +kernel⟩
  · unfold State.OwnBreakers; decide +kernel
  · unfold State.OnlineWhileClosed; decide +kernel

theorem witness_EveryStepKeepsSound_order : queued.events.InOrder ∧ queued.events.records.length = 2 := by decide +kernel

theorem witness_EveryCommandTouchesItsParts :
    live.work = [] ∧ live.risen = [] ∧ exec .instantAdvance live = .next (nextOf .instantAdvance live) :=
  ⟨by decide +kernel, by decide +kernel, exec_nextOf _ _⟩

theorem witness_FramesReadBackAsWritten :
    (from' 500).wf = true ∧ (sample 4294967295 65535).wf = true ∧ (reported .travel).wf = true ∧
      (GenStatus.wf ⟨true, false, true, false, true, -32768⟩) = true ∧ basePage.wf = true ∧
      (ramp true).wf = true ∧ (TimeBody.wf ⟨4294967295, true⟩) = true ∧ (req 12 0 0 [1, 2]).wf = true ∧
      (req 12 0 0 [1, 2]).header.wf = true := by decide +kernel

theorem witness_NoCloseLeavesUnderLockout :
    closeSent.Quiet ∧ exec (.transmitFrame .a) closeSent = .next (nextOf (.transmitFrame .a) closeSent) ∧
      (((nextOf (.transmitFrame .a) closeSent).port .a).wire.map (·.payload)) = some (commandFrame .closing).bytes ∧
      closeCommand (commandFrame .closing).bytes :=
  ⟨by decide +kernel, exec_nextOf _ _, by decide +kernel, by unfold closeCommand; decide +kernel⟩

/-- The DEAD close of generator 0, which holds the token, for its guarded breaker, at the head of link A. -/
def deadSent : State :=
  (withBrk ((put .breaker 0 5 1 live).modPort .a (fun p => { p with normal := [commandFrame .closing] })) 0
    { slot := some { command .closing .sent 0 with closeKind := .dead, requester := .party (.generator 0) }
      position := .opened }).modPar (fun p => { p with token := some (.generator 0) })

theorem witness_NoCloseLeavesUnderLockout_dead :
    deadSent.Quiet ∧ deadSent.fld .breaker 0 5 = 1 ∧
      exec (.transmitFrame .a) deadSent = .next (nextOf (.transmitFrame .a) deadSent) ∧
      (((nextOf (.transmitFrame .a) deadSent).port .a).wire.map (·.payload)) = some (commandFrame .closing).bytes :=
  ⟨by decide +kernel, by decide +kernel, exec_nextOf _ _, by decide +kernel⟩

/-- A store with the unconfigured content, and its CRC. -/
def stored : State :=
  live.modMgmt (fun m => { m with image := ⟨true, imageCrc unconfiguredTables, unconfiguredTables⟩ })

theorem witness_PowerOnStartsAnew : live.mgmt.image.loads = false ∧ stored.mgmt.image.loads = true := by
  refine ⟨by decide +kernel, ?_⟩
  unfold TableStore.loads stored State.modMgmt
  simp only [beq_self_eq_true, Bool.true_and, Bool.and_true]
  decide +kernel

theorem witness_LinksAreSupervised :
    live.Quiet ∧ ether.good = true ∧ ether.ptype = live.station 2 ∧ parseFrame ether [] = .malformed ∧
      (live.port .a).up = true ∧ live.verdictOf ether unsent = some .ignored ∧
      (live.noteTaken .time (from' 400)).Quiet ∧ ((live.noteTaken .time (from' 400)).port .a).up = true ∧
      (live.noteTaken .time (from' 400)).verdictOf ether timeSent = some .second ∧ (live.port .b).up = false := by
  decide +kernel

/-- A bad frame check, and another protocol type. -/
theorem witness_LinksAreSupervised_unseen :
    live.Quiet ∧ (Instr.store .a { req 0 0 0 with eth := ⟨true, 0x0800⟩ }).ether? = some ⟨true, 0x0800⟩ ∧
      0x0800 ≠ live.station 2 ∧
      (Instr.sampleFrame .b { from' 500 with eth := ⟨false, 0xB7D4⟩ } (sample 0 0)).ether? = some ⟨false, 0xB7D4⟩ := by
  decide +kernel

/-- Both links are DOWN. -/
def linkDown : State := live.modPort .a (fun p => { p with up := false, silence := 24 })

/-- A frame of each class that `live` and `linkDown` take on link A. -/
def takenFrames : List Instr :=
  [.timeFrame .a (from' 400) ⟨5, false⟩, .sampleFrame .a (from' 500) (sample 0 0),
    .positionFrame .a (from' 200) (reported .closed), .genstatusFrame .a (from' 300) ⟨true, true, false, false, false, 600⟩,
    .abilityFrame .a (from' 300) basePage, .store .a (req 0 0 0), .readState .a (req 0 0 0) false]

theorem witness_LinksAreSupervised_taken :
    linkDown.Quiet ∧ (linkDown.port .a).up = false ∧ takenFrames.all (fun i =>
      i.received?.any (fun x => x.1 == .a && linkDown.verdict x.2.1 x.2.2 == .taken)) = true := by decide +kernel

theorem witness_LinksAreSupervised_silence :
    live.Quiet ∧ (live.port .a).up = true ∧ (live.port .a).silence < 24 ∧
      (live.modPort .a (fun p => { p with silence := 24 })).Quiet ∧
      ((live.modPort .a (fun p => { p with silence := 24 })).port .a).up = true := by decide +kernel

/-- 128 records, the oldest of them sent or not and the others sent. -/
def fullQueue (oldestSent : Bool) (s : State) : State :=
  { s with events := { s.events with
      overwritten := 65530, nextSeq := 122
      records := (List.range 128).map (fun i =>
        ⟨(65530 + i) % 65536, ⟨0, 0⟩, .management, 5, 0, 0, none, i != 0 || oldestSent⟩) } }

/-- Link A is silent with the EVENT frame of records 5 and 6 in its normal queue, that has left on the other link or not, and
that of record 9 in its bulk queue, of which link B holds a copy or is DOWN. -/
def silentWithEvents (left copied : Bool) : State :=
  let s := fullQueue true live
  let r := fun i => { s.events.records.getD i default with sent := false }
  let f : OutFrame := ⟨4093, 4095, 9, .event [r 5, r 6], false, left⟩
  let g : OutFrame := ⟨4093, 4095, 10, .event [r 9], false, false⟩
  (s.modPort .a (fun p => { p with silence := 24, normal := [genset, f], bulk := [.frame g] })).modPort .b (fun p =>
    { p with up := copied, bulk := if copied then [.frame g] else [] })

theorem witness_LinksAreSupervised_events :
    [silentWithEvents false false, silentWithEvents true false, silentWithEvents false true].map (fun s =>
        (decide (s.Quiet ∧ s.events.InOrder), (List.range 12).filter (fun i =>
          Clause.emptiedUnsent s .a (s.events.records.getD i default)))) =
      [(true, [5, 6, 9]), (true, [9]), (true, [5, 6])] ∧
      ((nextOf (.linkDown .a) (silentWithEvents false false)).events.records.filter (fun r => !r.sent)).map (·.seq) =
        [65535, 0, 3, 122] := by decide +kernel

theorem witness_TakenFrameIsThenASecondCopy :
    Taken live .a .time (from' 400) ∧
      exec (.timeFrame .a (from' 400) ⟨0, true⟩) live = .next (nextOf (.timeFrame .a (from' 400) ⟨0, true⟩) live) :=
  ⟨by decide +kernel, exec_nextOf _ _⟩

theorem witness_TakenFrameIsThenASecondCopy_classes :
    live.Quiet ∧ takenFrames.all (fun i => i.received?.any (fun x => live.verdict x.2.1 x.2.2 == .taken)) = true ∧
      ∀ i ∈ takenFrames, exec i live = .next (nextOf i live) :=
  ⟨by decide +kernel, by decide +kernel, fun i _ => exec_nextOf i live⟩

theorem witness_HeadFrameIsTransmitted :
    (live.port .a).frames = [] ∧ (live.modPort .a (fun p => { p with normal := [genset, eventFrame] })).Quiet ∧
      (live.modPort .a (fun p => { p with bulk := [.frame answer] })).Quiet ∧
      openSent.Quiet ∧ (openSent.port .a).up = true ∧ (openSent.port .a).urgent = [commandFrame .opening] ∧
      (openSent.port .a).bulk.length < 64 := by decide +kernel

/-- Link B is UP too, with copies of the EVENT frame in both its queues. -/
def eventHeads (f : LinkPort → LinkPort) : State :=
  (live.modPort .a f).modPort .b (fun p =>
    { p with up := true, normal := [genset, eventFrame], bulk := [.reserved 3, .frame eventFrame] })

def abilityFrame : OutFrame := ⟨4093, 300, 9, .ability 0 basePage, false, false⟩

/-- An EVENT frame at the head of either queue, an ABILITY frame, and a mirror copy of an OPEN. -/
theorem witness_HeadFrameIsTransmitted_others :
    [eventHeads (fun p => { p with normal := [eventFrame, genset] }),
        eventHeads (fun p => { p with bulk := [.frame eventFrame, .frame answer] }),
        eventHeads (fun p => { p with normal := [abilityFrame] }),
        eventHeads (fun p => { p with bulk := [.frame { commandFrame .opening with mirror := true }] })].all (fun s =>
      decide (s.Quiet ∧ (s.port .a).up = true ∧ (s.port .a).urgent = [])) = true ∧
      ((nextOf (.transmitFrame .a) (eventHeads (fun p => { p with normal := [eventFrame, genset] }))).port .b).frames.map
        (·.left) = [false, true, true] := by decide +kernel

/-- A mirror address and a full bulk queue. -/
def fullBulk (s : State) : State :=
  (put .station 0 3 77 s).modPort .a (fun p => { p with bulk := List.replicate 64 (.frame answer) })

theorem witness_HeadFrameIsTransmitted_full :
    (fullBulk openSent).Quiet ∧ (fullBulk closeSent).Quiet ∧
      ((nextOf (.transmitFrame .a) (fullBulk openSent)).port .a).mirrorDropped = 1 ∧
      ((nextOf (.transmitFrame .a) (fullBulk closeSent)).port .a).mirrorDropped = 1 := by decide +kernel

/-- A CLOSE at the head of the normal queue, plain and DEAD, and a mirror copy of one in the bulk queue. -/
def closeCopied : State :=
  live.modPort .a (fun p => { p with bulk := [.frame { commandFrame .closing with mirror := true }] })

theorem witness_HeadFrameIsTransmitted_close :
    [closeSent, deadSent].all (fun s => decide (s.Quiet ∧ (s.port .a).up = true ∧ (s.port .a).urgent = [] ∧
      (s.port .a).normal = [commandFrame .closing] ∧ (s.brk 0).trips = [] ∧ s.lines.tripLatch = false ∧
      s.lines.lockout = false ∧ s.fld .breaker 0 6 = 0xFFFF ∧ (s.port .a).bulk.length < 64)) = true ∧
      closeCopied.Quiet ∧ (closeCopied.port .a).normal = [] := by decide +kernel

theorem witness_WithheldCloseIsRefused :
    closeHeld.Quiet ∧ (closeHeld.port .a).up = true ∧ (closeHeld.port .a).urgent = [] ∧
      (closeHeld.port .a).normal = [commandFrame .closing] ∧ (closeHeld.port .a).bulk = [] ∧
      (closeHeld.brk 0).slot = some (command .closing .sent 0) ∧ (closeHeld.brk 0).trips = [] ∧
      closeHeld.lines.tripLatch = false ∧ closeHeld.lines.lockout = true := by decide +kernel

/-- Behind the closing point, at it, 15 and 16 instants beyond it, and held already. -/
theorem witness_SamplesAreJudged :
    Taken timed .a .sample (from' 500) ∧ timed.matchStream 500 1 = some 0 ∧ timed.aligner.time ≠ .unset ∧
      timed.perSecond = 2400 ∧
      [4, 5, 20, 21].map (fun i => timed.beyond (timed.positionOf ⟨1, i⟩) timed.aligner.closingPoint) = [-1, 0, 15, 16] ∧
      Taken held .a .sample (from' 500) ∧ held.matchStream 500 1 = some 0 ∧
      (∃ d ∈ (held.stream 0).buffer, d.position = held.positionOf ⟨1, 5⟩) := by decide +kernel

theorem witness_StrayAndFirstSamples :
    Taken timed .a .sample (from' 501) ∧ timed.matchStream 501 1 = none ∧
    Taken live .a .sample (from' 500) ∧ live.matchStream 500 1 = some 0 ∧ live.perSecond = 2400 ∧
      live.aligner.time = .unset := by decide +kernel

/-- The counter 0, 23 and 24 instants beyond the second, and 24 and 25 before it. -/
theorem witness_TimeFramesAreTaken :
    Taken (tracking 0 100 .none) .a .time (from' 400) ∧ Taken (tracking 24 100 .none) .a .time (from' 400) ∧
      Taken timed .a .time (from' 400) ∧ timed.aligner.time ≠ .tracking ∧
      timed.counterBeyond (timed.positionOf ⟨1, 0⟩) = 10 ∧
      [(1, 0), (1, 23), (1, 24), (0, 2376), (0, 2375)].map (fun x =>
        let s := timed.modAligner (fun a => { a with counter := ⟨x.1, x.2⟩ })
        s.counterBeyond (s.positionOf ⟨1, 0⟩)) = [0, 23, 24, -24, -25] := by decide +kernel

theorem witness_CounterAdvancesAndTrackingEnds_tracking :
    (tracking 5 11999 .none).Quiet ∧ (tracking 5 12000 .none).Quiet ∧
      (tracking 5 12000 .none).aligner.time = .tracking ∧ 5 * (tracking 5 0 .none).perSecond = 12000 := by
  decide +kernel

/-- A record that joins a queue of 128, the oldest sent or unsent, with a link UP and with both DOWN. -/
theorem witness_CounterAdvancesAndTrackingEnds_record :
    [fullQueue true (tracking 5 12000 .none), fullQueue false (tracking 5 12000 .none),
        fullQueue false ((tracking 5 12000 .none).modPort .a (fun p => { p with up := false }))].map (fun s =>
        (decide (s.Quiet ∧ s.events.InOrder), (nextOf .timeHoldover s).events.overwriteLatch)) =
      [(true, false), (true, true), (true, true)] := by decide +kernel

theorem witness_CounterAdvancesAndTrackingEnds :
    (tracking 5 0 .withhold).Quiet ∧ (tracking 2399 0 .none).Quiet ∧ (tracking 2397 0 .double).Quiet ∧
      (tracking 5 0 .none).station 7 = (tracking 5 0 .none).aligner.nominal := by decide +kernel

/-- Timers of commands and of BF that run, of a plan, of generators and of a run. -/
def ticking : State :=
  withBrk (withBrk (withBrk (planned [(16, 5), (17, 240), (20, 50)]
    { byOperator with wait := .point, timer := 49, parallel := some 7, departing := some 1 }) 0
    { slot := some (command .opening .sent 3), bf := .timing, bfTimer := 4 }) 1
    { slot := some (command .closing .queued 3), bf := .retripped, bfTimer := 9 }) 2
    { slot := some (command .closing .accepted 35), bf := .backupIssued, bfTimer := 1 }

theorem witness_CounterAdvancesAndTrackingEnds_timers :
    [ticking, retrying 143, checking 287, correcting 143, exchanging .receiving].all (fun s => decide (s.Quiet ∧
      s.aligner.time ≠ .tracking ∧ s.seq.autoEffective = false)) = true ∧
      ((nextOf .instantAdvance ticking).brk 0).bfTimer = 5 ∧
      ((nextOf .instantAdvance (checking 287)).gen 0).deadTimer = 288 ∧
      ((nextOf .instantAdvance (correcting 143)).channel 1).map (·.timer) = some 144 := by decide +kernel

/-- A source in a state of R120 with its delay count, its stream valid or not and its element OPERATED or not. -/
def supplied (x : SourceState) (delay : Nat) (valid healthy : Bool) (before : Option SourceState) : State :=
  (((sourced x delay).modSource 0 (fun r => { r with previous := before })).modStream 0 (fun r =>
    { r with valid := valid })).modElement 0 (fun r => if healthy then { r with state := .operated } else r)

/-- Every move of R121 and R122: the state that each evaluation leaves. -/
theorem witness_CounterAdvancesAndTrackingEnds_sources :
    [supplied .available 0 true false none, supplied .failing 4 true false none, supplied .failing 4 true true none,
        supplied .failed 0 true true none, supplied .restoring 4 true false none, supplied .available 0 false true none,
        supplied .unverified 0 true true none, supplied .unverified 4 true false (some .failing),
        supplied .failing 5 false false none].map (fun s =>
      (decide (s.Quiet ∧ s.aligner.time ≠ .tracking ∧ s.station 7 = s.aligner.nominal ∧ s.fld .source 0 2 < 64 ∧
        s.seq.autoEffective = false), ((nextOf .instantAdvance s).source 0).state)) =
      [(true, .failing), (true, .failing), (true, .available), (true, .restoring), (true, .failed), (true, .unverified),
        (true, .available), (true, .failing), (true, .failing)] := by decide +kernel

/-- Records of the priorities given, none of them sent. -/
def unsentRecords (ps : List Nat) : State :=
  { live with events := { live.events with
      nextSeq := 50
      records := (List.range ps.length).map (fun i => ⟨i, ⟨0, 0⟩, .management, ps.getD i 0, 0, 0, none, false⟩) } }

theorem witness_CounterAdvancesAndTrackingEnds_events :
    (unsentRecords [12, 5, 13]).Quiet ∧ ((unsentRecords [12, 5, 13]).events.records.map (·.seq)).Nodup ∧
      (unsentRecords [12, 5, 13]).aligner.time ≠ .tracking ∧
      (∀ x < 3, ((unsentRecords [12, 5, 13]).source x).state = .unverified ∧
        ((unsentRecords [12, 5, 13]).stream ((unsentRecords [12, 5, 13]).fld .source x 1)).valid = false) ∧
      (nextOf .instantAdvance (unsentRecords [12, 5, 13])).links.eventSeq =
        (unsentRecords [12, 5, 13]).links.eventSeq + 2 := by decide +kernel

/-- Not due, due by its frames, and due by the wait limit. -/
theorem witness_ClosureMovesOn :
    live.Quiet ∧ timed.Quiet ∧ gated.Quiet ∧ gated.counterBeyond gated.aligner.closingPoint = 5 ∧ gated.station 8 = 3 ∧
      (timed.modAligner (fun a => { a with closingPoint := 2411 })).counterBeyond 2411 = -1 ∧
      (timed.modAligner (fun a => { a with closingPoint := 2410 })).counterBeyond 2410 = 0 := by decide +kernel

/-- Stream 0 is LOCKED and takes its 48th fresh sample, the others are DISABLED. -/
theorem witness_ClosureMovesOn_measures :
    measuring.Quiet ∧ measuring.closureDue = true ∧ (measuring.stream 0).state ≠ .disabled ∧
      (measuring.stream 1).state = .disabled ∧
      (nth ((nextOf (.instantClosure true) measuring).stream 0).quantities 7).fresh = 48 ∧
      (nth ((nextOf (.instantClosure true) gated).stream 0).quantities 7).fresh = 1 ∧
      exec (.instantClosure true) measuring = .next (nextOf (.instantClosure true) measuring) :=
  ⟨by decide +kernel, by decide +kernel, by decide +kernel, by decide +kernel, by decide +kernel, by decide +kernel,
    exec_nextOf _ _⟩

/-- Stream 0 HOLDING with every quantity missing for the third time, and STALE with a frame held. -/
def goingStale : State :=
  (timed.modStream 0 (fun r => { r with state := .holding, quantities := List.replicate 8 ⟨.held, 2, 3, false, 9⟩ })).modAligner
    (fun a => { a with closingPoint := 2406, counter := ⟨1, 16⟩ })
def recovering : State := gated.modStream 0 (fun r => { r with state := .stale })

theorem witness_ClosureMovesOn_streams :
    [goingStale, recovering].map (fun s => (decide (s.Quiet ∧ s.closureDue = true),
        ((nextOf (.instantClosure true) s).stream 0).state, ((nextOf (.instantClosure true) s).stream 0).staleSeen,
        ((nextOf (.instantClosure true) s).events.records.filter (·.cls == .stream)).map (fun r => (r.priority, r.code)))) =
      [(true, .stale, true, [(10, 1)]), (true, .locked, false, [(6, 2)])] := by
  decide +kernel

/-- Capture of streams 0 and 5, with a buffer of so many records. -/
def recording (armed n ring : Nat) (x : BufferState) : State :=
  (puts .capture 0 [(1, armed), (2, 2), (3, 0), (4, 5), (7, 1), (8, 5), (16, 2), (17, 48)] measuring).modCapture (fun c =>
    { c with
      state := x, copied := 2, buffer := List.replicate n ⟨⟨0, 0⟩, []⟩, ring := List.replicate ring ⟨⟨0, 0⟩, []⟩ })

theorem witness_ClosureMovesOn_capture :
    [recording 1 48 240 .recording, recording 1 49 3 .recording, recording 0 20 240 .held].map (fun s =>
        (decide (s.Quiet ∧ s.closureDue = true), (nextOf (.instantClosure true) s).capture.state,
          (nextOf (.instantClosure true) s).capture.ring.length)) =
      [(true, .recording, 240), (true, .held, 4), (true, .held, 0)] ∧
      (nextOf (.instantClosure true) (recording 1 49 3 .recording)).capture.buffer.getLast? =
        some ⟨⟨1, 5⟩, [List.replicate 8 (-600, .taken), List.replicate 8 (0, .invalid)]⟩ := by decide +kernel

theorem witness_ElementsActAtClosures :
    tripping.Quiet ∧ tripping.closureDue = true ∧ (tripping.stagingOf .element).state.isCommitting = false ∧
      (tripping.element 5).state ≠ .operated ∧
      ((nextOf (.instantClosure true) tripping).element 5).state = .operated ∧
      exec (.instantClosure true) tripping = .next (nextOf (.instantClosure true) tripping) :=
  ⟨by decide +kernel, by decide +kernel, by decide +kernel, by decide +kernel, by decide +kernel, exec_nextOf _ _⟩

/-- An ELEMENT content that resets element 5, OPERATED, and disables it, and a CURVE content, wait for the closure. -/
def activating : State :=
  let e := tripping.modElement 5 (fun r => { r with state := .operated })
  let wait := fun (t : TableId) (n : Nat) (c : Table) (s : State) =>
    s.setStaging t ⟨.committing ⟨⟨n, 100, 5 + n, 3, t.number⟩, 77, c⟩, []⟩
  (wait .curve 0 ((live.table .curve).modify 0 (fun _ => [(1, 9)])) (wait .element 1
    (((e.table .element).modify 5 (fun fs => fs.map (fun f => if f.1 = 1 then (1, 2) else f)))) e)).modPort .a
      (fun p => { p with bulk := [.reserved 0, .reserved 1] })

theorem witness_ElementsActAtClosures_activation :
    activating.Quiet ∧ activating.closureDue = true ∧ (activating.stagingOf .element).state.isCommitting = true ∧
      (activating.stagingOf .curve).state.isCommitting = true ∧ (activating.element 5).state = .operated ∧
      .reserved 1 ∈ (activating.port .a).bulk ∧
      activating.fld .element 5 1 ≠ (nextOf (.instantClosure true) activating).fld .element 5 1 ∧
      (nextOf (.instantClosure true) activating).events.records.length < 128 := by decide +kernel

/-- An OPERATED element that drops out. -/
def dropping : State := (put .element 5 17 7000 tripping).modElement 5 (fun r => { r with state := .operated })

theorem witness_ElementsActAtClosures_leaving :
    dropping.Quiet ∧ dropping.closureDue = true ∧ (dropping.stagingOf .element).state.isCommitting = false ∧
      ((nextOf (.instantClosure true) dropping).element 5).state = .armed := by decide +kernel

theorem witness_ElementsActAtClosures_record :
    (∀ d < 64, d ≠ 5 → (tripping.element d).state = .disabled ∧ tripping.fld .element d 16 ≠ 1 ∧
        tripping.fld .element d 32 ≠ 1) ∧
      tripping.lines.lockout = true ∧ (∀ b < 24, (tripping.brk b).bf = .idle) ∧
      (∀ g < 8, tripping.fld .generator g 1 ≠ 1) ∧ (∀ c < 4, tripping.channel c = none) ∧ tripping.par.token = none ∧
      tripping.par.tokenList = [] ∧ tripping.capture.state ≠ .recording := by decide +kernel

theorem witness_QuantityFollowsItsSamples :
    qualityOf 4 1 = 1 ∧ qualityOf 8 1 = 2 ∧ ({ condition := .fresh } : Quantity).condition = .fresh := by decide +kernel

theorem witness_CaptureBeginsIsReadAndReleased_trigger :
    live.Quiet ∧ 5 ∉ live.capture.edges ∧ armed.Quiet ∧ 5 ∈ armed.capture.edges ∧ armed.capture.state = .empty ∧
      armed.captureField 1 = 1 ∧ (put .capture 0 1 0 armed).Quiet ∧ (put .capture 0 1 0 armed).captureField 1 ≠ 1 ∧
      (armed.modCapture (fun c => { c with state := .held })).Quiet := by decide +kernel

theorem witness_ElementsOperateInTime :
    (definite 0 5).enabled = true ∧ bandOf 0 100 100 = .pickup ∧ bandOf 4 100 90 = .pickup ∧
      ({ state := .armed } : ElementRec).delay = 0 ∧ (definite 4 0).supervision ≤ 50 ∧
      bandOf 1 100 100 = .pickup := by decide +kernel

/-- A disabled bank; the block point; valid and invalid input, at the boundaries of the settle and the hold count. -/
theorem witness_ElementsOperateInTime_stages :
    ({ definite 0 5 with enabled := false } : Settings).enabled = false ∧ (definite 0 5).enabled = true ∧
      (definite 0 5).hold = false ∧ ({ definite 4 5 with hold := true } : Settings).hold = true ∧
      ({ state := .blocked .point, settle := 48 } : ElementRec).settle = 48 ∧
      ({ state := .blocked .input, settle := 47 } : ElementRec).settle < 48 ∧
      ({ state := .pickedUp, hold := 48 } : ElementRec).state ∈
        [.armed, .pickedUp, .operated, .blocked .supervision] ∧
      ({ state := .settling, settle := 47 } : ElementRec).state ≠ .disabled ∧
      (⟨true, false, 100, 0, 0⟩ : ElementInput).block = true ∧ (⟨false, true, 100, 0, 0⟩ : ElementInput).valid = true := by
  decide +kernel

theorem witness_PositionsNeedTwoReports :
    Taken live .a .position (from' 200) ∧ live.matchBreaker 200 7 = some 0 ∧ live.fld .breaker 0 21 ≠ 1 ∧
      (live.brk 0).slot = none ∧ (reported .closed).health.tripCircuit = (live.brk 0).health.tripCircuit ∧
      (live.brk 0).candidate ≠ some .closed ∧ Taken candidate' .a .position (from' 200) ∧
      candidate'.matchBreaker 200 7 = some 0 ∧ (candidate'.brk 0).candidate = some .closed ∧
      (candidate'.brk 0).position ≠ .closed ∧ (candidate'.brk 0).trips = [] ∧ (candidate'.brk 0).bf = .idle ∧
      candidate'.genOf 0 = none ∧ candidate'.run? = none := by decide +kernel

/-- A command in the slot of breaker 0 as it stands at a position, with its frame queued, and a report that carries its tag. -/
def commanded (c : Command) (p : Position) (k : Reported) : State :=
  withBrk (if c.action = .opening then openSent else closeSent) 0
    { slot := some c, position := p, candidate := some k }
def respondedTo (p : Reported) (r : Response) : PositionBody := { reported p with tag := 3, response := r }

theorem witness_PositionsNeedTwoReports_commands :
    [Phase.sent, .accepted].all (fun p => [Action.opening, .closing].all (fun a =>
      [commanded (command a p 0) .travel .opened, commanded (command a p 0) .travel .closed].all (fun s =>
        decide (Taken s .a .position (from' 200) ∧ s.matchBreaker 200 7 = some 0 ∧ s.fld .breaker 0 21 ≠ 1 ∧
          (s.brk 0).slot = some (command a p 0) ∧ s.genOf 0 = none ∧ s.run? = none)))) = true ∧
      (respondedTo .opened .accepted).tag = (command .closing .sent 0).tag ∧
      (respondedTo .travel .refused).health.tripCircuit = (live.brk 0).health.tripCircuit := by decide +kernel

def failedOpen (x : BfState) : State :=
  withBrk (withBrk live 1 { trips := [.backup 0] }) 0
    { position := .travel, candidate := some .opened, bf := x, bfOrigins := { protection := true }
      trips := [.element 1, .parallelLimit] }

theorem witness_PositionsNeedTwoReports_demands :
    [BfState.timing, .backupIssued].all (fun x => decide (Taken (failedOpen x) .a .position (from' 200) ∧
        (failedOpen x).matchBreaker 200 7 = some 0 ∧ ((failedOpen x).brk 0).bf ≠ .idle)) = true ∧
      live.fld .breaker 0 14 = 0xFFFF ∧ live.genOf 0 = none ∧
      [Position.travel, .opened, .unknown].all (fun p =>
        let s := withBrk live 0 { position := p, candidate := some .closed, trips := [.element 1, .stationTrip] }
        decide (Taken s .a .position (from' 200) ∧ s.matchBreaker 200 7 = some 0 ∧ (s.brk 0).slot = none)) = true := by
  decide +kernel

/-- The generator of breaker 2 in a state, the breaker where it stands and what is reported a second time. -/
def followed (x : GenState) (p : Position) (k : Reported) (m : List Member) : State :=
  withBrk (withGen live 0 { state := x, status := ⟨true, true, false, false, false, 0⟩, target := 5 }) 2
    { position := p, candidate := some k, trips := m }

theorem witness_PositionsNeedTwoReports_generators :
    ([(GenState.online, Position.closed, Reported.opened, []), (.unloading, .closed, .opened, [Member.element 1]),
        (.starting, .opened, .closed, []), (.ready, .unknown, .closed, []), (.fault, .opened, .closed, []),
        (.stopping, .travel, .closed, [])] : List (GenState × Position × Reported × List Member)).all (fun y =>
      let s := followed y.1 y.2.1 y.2.2.1 y.2.2.2
      decide (Taken s .a .position (from' 200) ∧ s.matchBreaker 200 9 = some 2 ∧ s.fld .breaker 2 21 ≠ 1 ∧
        s.genOf 2 = some 0 ∧ (s.gen 0).deferred = false ∧ (s.brk 2).slot = none)) = true ∧
      Taken isolated .a .position (from' 200) ∧ isolated.matchBreaker 200 7 = some 0 ∧ isolated.fld .breaker 0 21 = 1 := by
  decide +kernel

theorem witness_TripDemandsOpenBreakers :
    [Member.element 63, .stationTrip, .backup 23, .parallelLimit].all (fun m =>
        decide ((asked true m).Quiet ∧ (asked true m).breakers.requests = [⟨true, 0, m⟩, ⟨true, 1, .stationTrip⟩] ∧
          (asked true m).fld .breaker 0 1 = 1 ∧ (asked true m).fld .breaker 0 21 ≠ 1 ∧
          ((asked true m).brk 0).slot = none ∧ ((asked true m).brk 0).position ≠ .opened ∧
          ((asked true m).brk 0).bf = .idle ∧ m ∉ ((asked true m).brk 0).trips)) = true ∧
      (asked false .stationTrip).Quiet := by decide +kernel

/-- The request to add a member to breaker 0, with the record given. -/
def joining (m : Member) (r : BreakerRec) : State :=
  { (withBrk (live.modPort .a (fun x => { x with normal := [commandFrame .closing] })) 0 r) with
    breakers := { (withBrk live 0 r).breakers with requests := [⟨true, 0, m⟩, ⟨true, 1, .stationTrip⟩] } }

theorem witness_TripDemandsOpenBreakers_slots :
    ([(Member.element 3, { slot := some (command .opening .sent 4) }),
        (.parallelLimit, { slot := some (tripOpen true), bf := .timing, bfOrigins := { protection := true } }),
        (.stationTrip, { slot := some (tripOpen true) }),
        (.stationTrip, { slot := some (command .closing .queued 0), position := .opened }),
        (.backup 2, { slot := some { command .closing .sent 4 with left := true }, position := .opened }),
        (.parallelLimit, { position := .opened }),
        (.backup 2, { trips := [.backup 2] })] : List (Member × BreakerRec)).all (fun y =>
      let s := joining y.1 y.2
      decide (s.Quiet ∧ s.breakers.requests = [⟨true, 0, y.1⟩, ⟨true, 1, .stationTrip⟩] ∧ s.fld .breaker 0 1 = 1 ∧
        s.fld .breaker 0 21 ≠ 1 ∧ s.brk 0 = y.2)) = true ∧
      (put .breaker 0 1 0 (joining .parallelLimit {})).Quiet ∧
      (put .breaker 0 1 0 (joining .parallelLimit {})).fld .breaker 0 1 ≠ 1 := by decide +kernel

/-- The request of an element at breaker 0 in ISOLATED mode, where a simulated CLOSE runs at position OPEN. -/
def joiningSimulated : State :=
  puts .breaker 0 [(21, 1), (7, 10), (8, 20)]
    (joining (.element 3) { slot := some (command .closing .accepted 4), position := .opened })

theorem witness_TripDemandsOpenBreakers_simulated :
    joiningSimulated.Quiet ∧ joiningSimulated.breakers.requests = [⟨true, 0, .element 3⟩, ⟨true, 1, .stationTrip⟩] ∧
      joiningSimulated.fld .breaker 0 1 = 1 ∧ joiningSimulated.fld .breaker 0 21 = 1 ∧
      (joiningSimulated.brk 0).slot = some (command .closing .accepted 4) ∧
      (joiningSimulated.brk 0).position = .opened ∧ (joiningSimulated.brk 0).trips = [] := by decide +kernel

theorem witness_CommandsEndByTheirTimers :
    (failing .idle 0 (some (tripOpen false))).Quiet ∧ (failing .timing 0 (some (tripOpen true))).Quiet ∧
      (withBrk live 0 { slot := some (command .closing .sent 36) }).Quiet ∧ live.fld .breaker 0 9 = 36 ∧
      live.fld .breaker 0 21 ≠ 1 ∧ (tripOpen true).origins.trip = true ∧ live.fld .breaker 0 10 = 288 ∧
      live.fld .breaker 0 11 = 432 ∧ (withBrk live 0 { slot := some (command .opening .accepted 287) }).Quiet ∧
      (withBrk live 0 { slot := some (command .closing .accepted 432) }).Quiet := by decide +kernel

theorem witness_CommandsEndByTheirTimers_simulated :
    (withBrk isolated 0 { slot := some (command .closing .accepted 10), position := .opened }).Quiet ∧
      (withBrk isolated 0 { slot := some (command .opening .accepted 20), position := .closed }).Quiet ∧
      (withBrk isolated 0 { slot := some (command .opening .accepted 20), position := .opened }).Quiet ∧
      isolated.fld .breaker 0 21 = 1 ∧ isolated.fld .breaker 0 7 = 10 ∧ isolated.fld .breaker 0 8 = 20 ∧
      isolated.genOf 0 = none ∧ isolated.run? = none := by decide +kernel

theorem witness_BreakerFailureEscalates :
    (failing .timing 143 (some (tripOpen false))).Quiet ∧ (failing .timing 144 (some (tripOpen true))).Quiet ∧
      live.fld .breaker 0 12 = 144 ∧ (failing .retripped 431 none).Quiet ∧ (failing .retripped 432 none).Quiet ∧
      live.fld .breaker 0 13 = 432 ∧ ((failing .retripped 432 none).brk 0).bfOrigins.beyondBackup = true := by
  decide +kernel

theorem witness_StationTripEdge :
    live.Quiet ∧ live.lines.tripPin = true ∧ live.lines.tripLatch = false ∧ live.run? = none ∧ live.seq.slot = none ∧
      (∀ g < 8, (live.gen g).state ∈ [GenState.absent, .negotiating, .stopping, .fault]) ∧
      (∀ c < 4, live.channel c = none) ∧ (live.modLines (fun l => { l with tripPin := false })).Quiet := by
  decide +kernel

theorem witness_SourceDelaysEnd :
    (sourced .failing 5).Quiet ∧ ((sourced .failing 5).source 0).delay = (sourced .failing 5).fld .source 0 7 ∧
      (sourced .restoring 9).Quiet ∧ ((sourced .restoring 9).source 0).delay = (sourced .restoring 9).fld .source 0 8 ∧
      (sourced .failing 5).seq.autoEffective = false ∧ SourceId.number .u1 = 0 := by decide +kernel

/-- Rules 3 and 5 judge source U1 FAILED in line-up 2, the first with a plan that may not start from there. -/
def ruled (delay : Nat) (x : SeqState) (a : Option AutoRequest) : State :=
  (puts .plan 1 [(1, 8), (2, 8), (3, 0xFFFF), (5, 1), (16, 6), (17, 9)] (puts .plan 0 [(1, 7), (5, 1), (16, 6)]
    (puts .autorule 5 [(1, 1), (2, 2), (3, 0), (4, 0), (5, 1)] (puts .autorule 3 [(1, 1), (2, 2), (3, 0), (4, 0)]
      (sourced .failing delay))))).modSeq (fun q => { q with state := x, slot := a, autoEffective := true })

theorem witness_SourceDelaysEnd_rules :
    [SeqState.idle 2, .idle 1, .noLineup, .running { plan := 1, cause := .operator, wait := .time },
        .halted .stepFailed, .lockedOut].all (fun x =>
      [none, some ⟨3, 0, 0, 0⟩, some ⟨5, 1, 0, 0⟩].all (fun a => decide ((ruled 5 x a).Quiet))) = true ∧
      Clause.DelayEnds (ruled 5 (.idle 2) none) .u1 (.sourceFailDelayExpiry .u1) ∧
      Clause.DelayEnds (sourced .restoring 9) .u1 (.sourceRestoreDelayExpiry .u1) ∧
      (nextOf (.sourceFailDelayExpiry .u1) (ruled 5 (.idle 2) none)).seq.state = Clause.begun 1 (.auto 5) ∧
      ((nextOf (.sourceFailDelayExpiry .u1) (ruled 5 .noLineup none)).seq.slot.map (·.rule)) = some 3 := by
  unfold Clause.DelayEnds Clause.begun; decide +kernel

theorem witness_LockoutLocksTheSequencer :
    (lockoutDue true .init .unknown).Quiet ∧ (lockoutDue true (.idle 2) (.is 2)).Quiet ∧
      (lockoutDue true .noLineup .none).lines.lockoutChanges = [true] ∧
      (lockoutDue true .noLineup .none).lines.lockout = true ∧ (lockoutDue false .lockedOut .none).Quiet ∧
      (lockoutDue false .lockedOut .none).lines.lockoutChanges = [false] ∧
      (lockoutDue false .lockedOut .none).seq.lineup = .none ∧ live.station 10 ≠ 1 ∧
      live.lines.lockoutChanges = [] := by decide +kernel

/-- A watched position UNKNOWN, line-up 0, line-up 1, and none. -/
theorem witness_LineupIsFoundAnew :
    (lined .unknown .opened).Quiet ∧ (lined .closed .closed).Quiet ∧ (lined .opened .closed).Quiet ∧
      (lined .opened .opened).Quiet ∧ (lined .closed .opened).seq.lineupDue = true ∧
      (lined .closed .opened).seq.state.follows = true ∧ (lined .closed .opened).lines.lockout = false ∧
      watchedBreakers (lined .closed .opened).mgmt.tables = [0, 0, 1] := by decide +kernel

/-- IDLE of line-up 0 is entered with source U1 FAILED, rule 5 from line-up 0 and a request in the slot. -/
def entered (auto : Bool) (a : Option AutoRequest) : State :=
  (withBrk (withBrk (puts .lineup 0 [(1, 1), (2, 256)] (put .autorule 5 2 0 (ruled 5 .noLineup a))) 0
    { position := .closed }) 1 { position := .closed }).modSeq (fun q =>
      { q with
        lineupDue := true
        autoEffective := auto
        sources := q.sources.modify 0 (fun r => { r with state := .unverified, previous := some .failed }) })

theorem witness_LineupIsFoundAnew_slot :
    [true, false].all (fun auto => [none, some ⟨3, 0, 0, 0⟩, some ⟨5, 1, 0, 0⟩].all (fun a =>
      let s := entered auto a
      decide (s.Quiet ∧ s.seq.lineupDue = true ∧ s.seq.state.follows = true ∧ s.lines.lockout = false ∧
        s.fld .lineup 0 1 ≠ 0 ∧ s.lineupMatches 0 = true ∧ s.findLineup = .is 0))) = true ∧
      (nextOf .lineupChange (entered true (some ⟨5, 1, 0, 0⟩))).seq.state = Clause.begun 1 (.auto 5) ∧
      (nextOf .lineupChange (entered true (some ⟨3, 0, 0, 0⟩))).seq.state = Clause.begun 1 (.auto 5) ∧
      (nextOf .lineupChange (entered false (some ⟨5, 1, 0, 0⟩))).seq.state = .idle 0 := by
  unfold Clause.begun; decide +kernel

/-- A run that waits for point 240 under a step timeout of 50 instants. -/
def waiting (t : Nat) : PlanRun := { byOperator with wait := .point, timer := t }
def paralleled (t : Nat) : PlanRun := { byOperator with wait := .point, parallel := some t, departing := some 1 }

theorem witness_StepAndParallelLimitsHalt :
    (planned [(16, 5), (17, 240), (20, 50)] (waiting 50)).Quiet ∧
      (planned [(16, 5), (17, 240), (20, 50)] (waiting 50)).stepField 0 0 4 = 50 ∧
      (planned [(16, 5), (17, 240)] (waiting 50)).stepField 0 0 4 = 0 ∧
      (planned [(16, 5), (17, 240)] (waiting 50)).Quiet ∧
      (planned [(16, 5), (17, 240)] (paralleled 100)).Quiet ∧ (planned [(16, 5), (17, 240)] (paralleled 99)).Quiet ∧
      (planned [(16, 5), (17, 240)] (paralleled 100)).fld .plan 0 4 = 100 ∧
      (planned [(16, 5), (17, 240)] (paralleled 100)).fld .plan 0 3 = 0xFFFF ∧
      (planned [(16, 5), (17, 240)] (paralleled 100)).seq.lineupDue = false ∧ live.seq.slot = none ∧
      (∀ c < 4, live.channel c = none) ∧ live.par.token = none ∧ live.par.tokenList = [] := by decide +kernel

/-- A step of plan 0 times out; its abort plan 1 is defined or not, from line-up ANY or 2. -/
def aborting (c : Cause) (count goal : Nat) : State :=
  puts .plan 1 [(1, goal), (2, 8), (5, count), (16, 6), (17, 9)]
    (planned [(3, 1), (16, 5), (17, 240), (20, 50)] { waiting 50 with cause := c })

theorem witness_StepAndParallelLimitsHalt_abort :
    [(1, 8), (1, 2), (0, 8)].all (fun x => [Cause.operator, .auto 3, .abort 2].all (fun c =>
      let s := aborting c x.1 x.2
      decide (s.Quiet ∧ s.stepField 0 0 4 = 50 ∧ s.fld .plan 0 5 = 2 ∧ s.fld .plan 0 3 = 1 ∧ s.seq.slot = none ∧
        s.seq.lineupDue = false))) = true ∧ (∀ k < 4, (aborting .operator 1 8).channel k = none) ∧
      (nextOf .stepTimeout (aborting .operator 1 8)).seq.state = Clause.begun 1 (.abort 0) := by
  unfold Clause.begun; decide +kernel

/-- The last step of a plan to ANY or to line-up 0, which has breaker 0 CLOSED. -/
def lastStep (c : Cause) (goal : Nat) : State :=
  puts .lineup 0 [(1, 1), (2, 256)]
    (planned [(2, goal)] { byOperator with step := 1, cause := c, wait := .time, timer := 10 })

theorem witness_WaitsEndTheirSteps_last :
    [8, 0].all (fun goal => [Cause.operator, .auto 3, .abort 2].all (fun c =>
      let s := lastStep c goal
      decide (s.Quiet ∧ s.stepField 0 1 0 = 6 ∧ s.stepField 0 1 1 = 10 ∧ s.fld .plan 0 5 = 2 ∧
        s.fld .plan 0 3 = 0xFFFF ∧ s.seq.slot = none ∧ s.lines.lockout = false ∧ s.seq.autoEffective = false))) = true ∧
      (∀ b < 24, ((lastStep .operator 0).brk b).slot = none) ∧
      (lastStep .operator 0).lineupMatches 0 = false := by decide +kernel

theorem witness_WaitsEndTheirSteps :
    (planned [(16, 6), (17, 10)] { byOperator with wait := .time, timer := 10 }).Quiet ∧
      (planned [(16, 6), (17, 10)] { byOperator with wait := .time, timer := 9 }).Quiet ∧
      (planned [(16, 6), (17, 10)] byOperator).stepField 0 1 0 = 6 ∧
      (planned [(16, 5), (17, 240)] (waiting 0)).Quiet ∧ (planned [(16, 5), (17, 240)] (waiting 0)).point 240 = false ∧
      (planned [(16, 5), (17, 496)] (waiting 0)).Quiet ∧ (planned [(16, 5), (17, 496)] (waiting 0)).fld .plan 0 5 = 2 := by
  decide +kernel

theorem witness_DeadTermReleasesTheClose :
    deadTerm.Quiet ∧ deadTerm.stepField 0 0 1 = 0 ∧ deadTerm.stepField 0 0 2 = 240 ∧ deadTerm.point 240 = false ∧
      (deadTerm.brk 0).slot = some deadClose ∧ deadTerm.closeReason 0 .dead (.party .sequencer) = none ∧
      deadTerm.fld .breaker 0 21 ≠ 1 := by decide +kernel

theorem witness_SyncRetryStartsARun :
    (retrying 143).Quiet ∧ (retrying 144).Quiet ∧ (retrying 144).fld .sync 8 11 = 144 ∧
      ((retrying 144).stream 0).valid = true ∧ ((retrying 144).stream 1).valid = true ∧
      (∀ g < 8, ((retrying 144).gen g).state ≠ .online) := by decide +kernel

/-- Two ONLINE generators, one with BIAS_CONTROL and one without, which has biases of an earlier set. -/
def onlinePair (s : State) : State :=
  withGen (withGen s 0 { state := .online, common := ⟨true, true, true, true, true⟩, params := ⟨1000, 100, 10, 500⟩ }) 1
    { state := .online, speedBias := 7, voltageBias := -7 }

theorem witness_SyncRetryStartsARun_online :
    (onlinePair (retrying 144)).Quiet ∧ ((onlinePair (retrying 144)).gen 0).common.biasControl = true ∧
      ((onlinePair (retrying 144)).gen 1).common.biasControl = false := by decide +kernel

/-- Streams 2 and 3 measure `a` and `b` on every phasor, at 50 Hz. -/
def volts (a b : Nat) : List StreamMeasure :=
  let m := fun (v : Nat) => ({
    phasors := List.replicate 8 ⟨v, 0, v, true, none⟩
    tracker := { frequency := 50000, valid := true, silence := 0 } } : StreamMeasure)
  ((List.replicate 16 {}).set 2 (m a)).set 3 (m b)

/-- A closure is due. Generators 0 and 1, of breakers 2 and 1, both OPEN, are measured by stream 2 and their bus by stream
3: at rated from 150 on, live from 200 on, dead below 100. -/
def plant (a b guarded : Nat) : State :=
  let s := puts .generator 1 [(1, 1), (2, 301), (3, 1), (4, 2), (5, 3), (6, 1000), (7, 100), (8, 10), (9, 500), (12, 1),
    (14, 150)] (puts .generator 0 [(4, 2), (5, 3), (14, 150)] gated)
  let t := puts .sync 1 [(5, 200), (6, 100)] (puts .sync 0 [(5, 200), (6, 100)] s)
  let r : BreakerRec := { position := .opened, health := ⟨true, true, false⟩ }
  { (withBrk (withBrk (put .breaker 2 5 guarded (put .breaker 1 5 guarded t)) 1 r) 2 r).rebuild with
    measures := volts a b }

/-- The two generators in the states given and their breakers at the positions given. -/
def pair (x y : GenRec) (p q : Position) : State :=
  withBrk (withBrk (withGen (withGen (plant 200 50 0) 0 x) 1 y) 2 { position := p }) 1 { position := q }

def edge (x y : GenState) (p q : Position) : State :=
  (pair { state := x } { state := y } p q).modLines (fun l => { l with tripPin := true })

/-- The pin falls with generators in every state that the statement knows. -/
theorem witness_StationTripEdge_generators :
    [edge .online .ready .closed .opened, edge .standby .starting .unknown .opened,
        edge .unloading .fault .closed .closed, edge .stopping .negotiating .closed .travel].all (fun s => decide (
      s.Quiet ∧ s.lines.tripPin = true ∧ s.lines.tripLatch = false ∧ s.run? = none ∧ s.seq.slot = none ∧
        s.par.token = none ∧ s.par.tokenList = [])) = true ∧
      (∀ c < 4, (edge .online .ready .closed .opened).channel c = none) ∧
      (∀ g < 8, (edge .online .ready .closed .opened).fld .generator g 1 ≠ 1 →
        ((edge .online .ready .closed .opened).gen g).state = .absent) ∧
      (edge .online .ready .closed .opened).OwnBreakers ∧
      (∀ g < 8, ((edge .online .ready .closed .opened).gen g).deferred = false) := by
  refine ⟨by decide +kernel, by decide +kernel, by decide +kernel, ?_, by decide +kernel⟩
  unfold State.OwnBreakers
  decide +kernel

theorem witness_GenStatusIsHeld :
    Taken (genset' .standby) .a .genstatus (from' 300) ∧ (genset' .standby).matchGen 300 = some 0 ∧
      Taken live .a .genstatus (from' 300) ∧ live.matchGen 300 = some 0 ∧ (live.gen 0).state = .absent := by
  decide +kernel

theorem witness_AbilityPagesAreTaken :
    Taken (exchanging .awaitBase) .a .ability (from' 300) ∧ Taken (exchanging .receiving) .a .ability (from' 300) ∧
      Taken (exchanging .none) .a .ability (from' 300) ∧ (exchanging .none).matchGen 300 = some 0 ∧
      basePage.ack = true ∧ (ramp false).toggle = ((exchanging .receiving).gen 0).exchange.expected := by decide +kernel

theorem witness_SilenceOfAGenerator :
    (withGen live 0 { state := .standby, absentTimer := 2879 }).Quiet ∧
      (withGen live 0 { state := .standby, absentTimer := 2880 }).Quiet ∧
      (withGen live 0 { state := .fault, absentTimer := 2880 }).Quiet ∧ live.fld .generator 0 1 = 1 ∧
      (withGen live 0 { state := .fault, exchange := { state := .awaitBase, gap := 719 } }).Quiet ∧
      (withGen live 0 { state := .fault, exchange := { state := .receiving, gap := 720 } }).Quiet := by decide +kernel

theorem witness_SilenceOfAGenerator_refresh :
    (withGen live 0 { state := .standby, refreshTimer := 2879 }).Quiet ∧
      (withGen live 0 { state := .standby, refreshTimer := 2880 }).Quiet ∧
      (genset' .standby).setpointOf 0 = some ⟨false, false, 0, 0, 0, 0⟩ := by decide +kernel

/-- The breaker of generator 0 CLOSED, UNKNOWN and OPEN. -/
theorem witness_SilenceOfAGenerator_settled :
    [Position.closed, .unknown, .opened].all (fun p => [719, 720].all (fun n =>
        let s := withBrk (withGen live 0 { state := .negotiating, exchange := { state := .receiving, gap := n } }) 2
          { position := p }
        decide (s.Quiet ∧ s.run? = none ∧ (s.brk (s.fld .generator 0 3)).slot = none ∧
          (s.brk (s.fld .generator 0 3)).position = p ∧ (s.gen 0).exchange.gap = n))) = true := by decide +kernel

theorem witness_DemandStartsTheFirst :
    live.Quiet ∧ live.par.demandDue = false ∧ (demanded 0).Quiet ∧ (demanded 1).Quiet ∧
      (demanded 1).onlineCount + (demanded 1).pendingCount + 1 = (demanded 1).par.demand ∧
      (demanded 1).lines.tripLatch = false ∧ ((demanded 1).gen 0).deferred = false ∧
      (demanded 1).startOrder.find? (fun j =>
        ((demanded 1).gen j).state == .standby && ((demanded 1).gen j).common.remoteStart) = some 0 := by decide +kernel

def excess (target : Nat) : State :=
  (pair { state := .online, common := ⟨true, true, true, true, true⟩ }
    { state := .online, target := target, common := ⟨true, true, true, true, true⟩, params := ⟨1000, 100, 10, 500⟩ }
    .closed .closed).modPar (fun x => { x with demand := 1, demandDue := true })

def surplus (x : GenState) : State :=
  (pair { state := .starting } { state := x } .opened .opened).modPar (fun p => { p with demand := 1, demandDue := true })

/-- One ONLINE too many, above its minimum load and at it; and one too many on its way. -/
theorem witness_DemandStartsTheFirst_excess :
    [excess 500, excess 100].all (fun s => decide (s.Quiet ∧ s.par.demandDue = true ∧
      s.onlineCount = s.par.demand + 1 ∧ s.pendingCount = 0 ∧ s.run? = none ∧
      (s.startOrder.filter (fun j => (s.gen j).state == .online)).getLast? = some 1 ∧ (s.brk 1).slot = none)) = true ∧
      [surplus .ready, surplus .starting].all (fun s => decide (s.Quiet ∧ s.onlineCount ≤ s.par.demand ∧
        s.onlineCount + s.pendingCount = s.par.demand + 1 ∧ (s.gen 1).deferred = false ∧ s.genPosition 1 = .opened ∧
        (s.startOrder.filter (fun j =>
          (s.gen j).state ∈ [GenState.starting, .ready, .claiming, .syncing])).getLast? = some 1)) = true := by
  decide +kernel

theorem witness_StartAndRetryTimersExpire :
    (genOpened { state := .starting, startTimer := 57599 }).Quiet ∧
      (genOpened { state := .starting, startTimer := 57600 }).Quiet ∧ live.fld .generator 0 13 = 57600 ∧
      (genOpened { state := .starting }).genPosition 0 = .opened ∧ busLive.Quiet ∧ busLive.busState 0 = .live ∧
      (∀ c ∈ [1, 2, 3], (busLive.channel c).isSome = true) ∧ 0 ∉ busLive.par.waitList ∧
      busLive.lines.lockout = false ∧ busLive.lines.tripLatch = false ∧ busLive.genPosition 0 = .opened ∧
      (withGen live 0 { retryDue := true }).Quiet := by decide +kernel

/-- The breaker of generator 0 is guarded or not, the token with `p`. -/
def attempt (guarded : Nat) (p : Option Party) : State :=
  (withGen (plant 200 50 guarded) 0 { state := .ready, retryDue := true }).modPar (fun x => { x with token := p })

theorem witness_StartAndRetryTimersExpire_dead :
    [attempt 0 none, attempt 1 none, attempt 1 (some .sequencer)].all (fun s => decide (s.Quiet ∧
      (s.gen 0).state = .ready ∧ (s.gen 0).retryDue = true ∧ (s.gen 0).retryTimer = 0 ∧ (s.gen 0).deferred = false ∧
      s.fld .generator 0 3 = 2 ∧ (s.brk 2).slot = none ∧ s.par.tokenList = [])) = true ∧
      Clause.mayClose (attempt 1 none) 2 ∧ Clause.busDead (attempt 1 none) 0 := by
  unfold Clause.mayClose Clause.busDead
  decide +kernel

/-- Generator 0 at the terminal voltage given, before a closure. -/
def rating (x : GenState) (volt retry : Nat) : State := withGen (plant volt 50 0) 0 { state := x, retryTimer := retry }

def ratingOnARun : State :=
  (rating .syncing 100 5).modPar (fun p => { p with channels := [none, some (run 2 0 (.generator 0) 5), none, none] })

theorem witness_StartAndRetryTimersExpire_rated :
    [rating .starting 200 5, rating .starting 100 0, rating .ready 100 0, rating .claiming 100 0, ratingOnARun].all
        (fun s => decide (s.Quiet ∧ s.closureDue = true ∧ s.fld .generator 0 1 = 1 ∧ (s.gen 0).deferred = false ∧
          s.lines.tripLatch = false)) = true ∧
      Clause.rated (nextOf (.instantClosure false) (rating .starting 200 5)) 0 = true ∧
      Clause.rated (nextOf (.instantClosure false) ratingOnARun) 0 = false ∧
      (∀ d < 4, d ≠ 1 → ratingOnARun.channel d = none) := by decide +kernel

theorem witness_DeadCheckTimesOut :
    (checking 287).Quiet ∧ (checking 288).Quiet ∧ (checking 288).fld .generator 0 3 = 2 ∧
      ((checking 288).brk 2).slot = some { action := .closing, closeKind := .dead
                                           requester := .party (.generator 0), origins := { paralleling := true }
                                           generator := some 0 } ∧
      (checking 288).par.token = some (.generator 0) ∧ (checking 288).par.tokenList = [] ∧
      (∀ k < 4, (checking 288).channel k = none) := by decide +kernel

/-- Generator 0's dead check runs out and generator 1 waits for the token. -/
def freed (bus : Nat) : State :=
  (withBrk (withGen (withGen (plant 200 bus 1) 0 { state := .closing, deadTimer := 288 }) 1 { state := .claiming }) 2
    { position := .opened, slot := some (Clause.closeOf 0 .dead) }).modPar (fun p =>
      { p with token := some (.generator 0), tokenList := [.generator 1] })

theorem witness_DeadCheckTimesOut_freed :
    (freed 50).Quiet ∧ (freed 50).genOrder.find? (fun k => (freed 50).par.tokenList.contains (.generator k)) = some 1 ∧
      (∀ k < 4, (freed 50).channel k = none) ∧ Clause.mayClose (freed 50) 1 ∧ Clause.busDead (freed 50) 1 ∧
      ¬ Clause.busLive (freed 50) 1 ∧ (freed 150).Quiet ∧ ¬ Clause.busDead (freed 150) 1 ∧
      ¬ Clause.busLive (freed 150) 1 := by
  unfold Clause.mayClose Clause.busLive Clause.busDead freed Clause.closeOf
  decide +kernel

/-- Generator `g` with breaker `b` is CLOSING, its SYNC close SENT. -/
def closingOn (g b : Nat) (s : State) : State :=
  withBrk (withGen (puts .generator g [(1, 1), (2, 300 + g), (3, b), (4, 2), (5, 3), (12, g)] s) g { state := .closing }) b
    { position := .opened, slot := some { Clause.closeOf g .sync with tag := g, phase := .sent, left := true } }

/-- The DEAD close of generator 0 waits at a closure, with the three channels of generators held by others or not. -/
def deadCheck (bus : Nat) (taken : Bool) : State :=
  let held := fun (g b : Nat) => some { run b g (.generator g) 0 with phase := .released }
  let s := plant 200 bus 1
  let others := if taken then closingOn 3 4 (closingOn 2 3 (closingOn 1 1 s)) else s
  (withBrk (withGen others 0 { state := .closing, deadTimer := 5, common := ⟨true, true, true, true, true⟩ }) 2
    { position := .opened, health := ⟨true, true, false⟩, slot := some (Clause.closeOf 0 .dead) }).modPar (fun p =>
      { p with
        token := some (.generator 0)
        channels := if taken then [none, held 1 1, held 2 3, held 3 4] else [none, none, none, none] })

theorem witness_DeadCheckTimesOut_closure :
    let after := fun (bus : Nat) => nextOf (.instantClosure false) (deadCheck bus true)
    (deadCheck 50 false).Quiet ∧ (deadCheck 250 true).Quiet ∧ (deadCheck 250 true).closureDue = true ∧
      Clause.mayClose (deadCheck 50 true) 2 ∧
      Clause.busDead (after 50) 0 ∧ (after 50).lines.lockout = false ∧ ¬ Clause.busDead (after 150) 0 ∧
      ¬ Clause.busLive (after 150) 0 ∧ Clause.busLive (after 250) 0 := by
  unfold Clause.mayClose Clause.busLive Clause.busDead deadCheck closingOn Clause.closeOf
  decide +kernel

theorem witness_DeadCheckTimesOut_others :
    Clause.OthersRest (deadCheck 250 true) 0 ∧ ((deadCheck 250 true).gen 3).state = .closing ∧
      ((deadCheck 250 true).brk 4).slot.map (·.phase) = some .sent := by
  refine ⟨fun j hj hne => ?_, by decide +kernel, by decide +kernel⟩
  match j, hj, hne with
  | 1, _, _ => exact .inr ⟨by decide +kernel, fun c hc => by cases hc; decide⟩
  | 2, _, _ => exact .inr ⟨by decide +kernel, fun c hc => by cases hc; decide⟩
  | 3, _, _ => exact .inr ⟨by decide +kernel, fun c hc => by cases hc; decide⟩
  | 4, _, _ => exact .inl (by decide +kernel)
  | 5, _, _ => exact .inl (by decide +kernel)
  | 6, _, _ => exact .inl (by decide +kernel)
  | 7, _, _ => exact .inl (by decide +kernel)

/-- A channel is free as the bus comes live, and the run that starts on it is evaluated. -/
theorem witness_DeadCheckTimesOut_free :
    let after := nextOf (.instantClosure false) (deadCheck 250 false)
    (deadCheck 250 false).Quiet ∧ (deadCheck 250 false).closureDue = true ∧
      (∀ k ∈ [1, 2, 3], (deadCheck 250 false).channel k = none) ∧ Clause.mayClose (deadCheck 250 false) 2 ∧
      Clause.busLive after 0 ∧ after.lines.lockout = false ∧ 2 ≤ (deadCheck 250 false).fld .sync 0 7 ∧
      Clause.runValid after { run 2 0 (.generator 0) 0 with gStream := 2, bStream := 3 } ∧
      (after.channel 1).map (·.phase) = some .running := by
  unfold Clause.mayClose Clause.busLive Clause.busDead Clause.runValid deadCheck closingOn Clause.closeOf
  decide +kernel

def runOf (stream count : Nat) : SyncRun :=
  { run 2 0 (.generator 0) 0 with gStream := 2, bStream := stream, qualify := count, wrote := [0] }

/-- Generator 0 is SYNCING on channel 1 against `stream`. -/
def syncing (stream count : Nat) : State :=
  (withBrk (withGen (plant 200 200 1) 0 { state := .syncing, speedBias := 3 }) 2
    { position := .opened, health := ⟨true, true, false⟩, slot := some (Clause.closeOf 0 .sync) }).modPar (fun p =>
      { p with channels := [none, some (runOf stream count), none, none] })

/-- A run that is released, one that counts on, and one whose bus is not valid. -/
theorem witness_DeadCheckTimesOut_run :
    [syncing 3 47, syncing 3 46, syncing 4 46].all (fun s => decide (s.Quiet ∧ s.closureDue = true ∧
      s.lines.lockout = false ∧ s.par.token = none ∧ s.par.tokenList = [] ∧ s.par.waitList = [])) = true ∧
      (nextOf (.instantClosure false) (syncing 3 47)).lines.lockout = false ∧
      Clause.rated (nextOf (.instantClosure false) (syncing 3 47)) 0 = true ∧ Clause.mayClose (syncing 3 47) 2 ∧
      ((nextOf (.instantClosure false) (syncing 3 47)).channel 1).map (·.phase) = some .released ∧
      ((nextOf (.instantClosure false) (syncing 3 46)).channel 1).map (·.phase) = some .running ∧
      (nextOf (.instantClosure false) (syncing 4 46)).channel 1 = none := by
  unfold Clause.mayClose syncing Clause.closeOf
  decide +kernel

def transferSync : PlanRun := { byOperator with wait := .sync }
def sequencerRun : State :=
  (withSeq gated (.running transferSync)).modPar (fun p =>
    { p with channels := [some { run 2 8 .sequencer 0 with gStream := 2, wrote := [0] }, none, none, none] })

theorem witness_DeadCheckTimesOut_sequencer :
    sequencerRun.Quiet ∧ sequencerRun.closureDue = true ∧ (∀ g < 8, (sequencerRun.gen g).state = .absent) ∧
      sequencerRun.seq.state = .running transferSync ∧
      ((nextOf (.instantClosure false) sequencerRun).phasor 2 0).valid = false := by decide +kernel

/-- Generator 0 is CLOSING on channel 1, and its close has been under way for the time given. -/
def overdue (n : Nat) : State :=
  let s := syncing 3 47
  (withBrk (withGen s 0 { s.gen 0 with state := .closing, closeFailures := 1 }) 2
    { position := .opened, slot := some { Clause.closeOf 0 .sync with tag := 3, phase := .accepted, left := true, timer := n } }
    ).modPar (fun p => { p with channels := [none, some { runOf 3 48 with phase := .released }, none, none] })

theorem witness_DeadCheckTimesOut_outcome :
    (overdue 5000).Quiet ∧ (overdue 5000).fld .breaker 2 11 ≤ 5000 ∧ (overdue 5000).fld .breaker 2 21 ≠ 1 ∧
      (overdue 5000).par.token = none ∧ (overdue 5000).par.waitList = [] ∧
      (∀ j < 4, j ≠ 1 → (overdue 5000).channel j = none) ∧
      (nextOf (.limitTimeout 2) (overdue 5000)).channel 1 = none := by
  unfold overdue syncing Clause.closeOf
  decide +kernel

/-- The SYNC close of breaker 1 that an ended plan has left behind, with a run on channel 0 for breaker 2. -/
def leftBehind : State :=
  withBrk sequencerRun 1
    { position := .opened
      slot := some { deadClose with closeKind := .sync, phase := .accepted, left := true, timer := 5000 } }

theorem witness_DeadCheckTimesOut_left :
    leftBehind.Quiet ∧ leftBehind.fld .breaker 1 11 ≤ 5000 ∧ leftBehind.fld .breaker 1 21 ≠ 1 ∧
      (leftBehind.brk 1).slot.map (·.requester) = some (.party .sequencer) ∧
      (leftBehind.channel 0).map (·.breaker) = some 2 ∧ leftBehind.stepField 0 0 1 ≠ 1 ∧
      (nextOf (.limitTimeout 1) leftBehind).channel 0 = leftBehind.channel 0 ∧
      ((nextOf (.limitTimeout 1) leftBehind).brk 1).slot = none := by decide +kernel

theorem witness_SyncCorrectionWritesTheBiases :
    (correcting 143).Quiet ∧ (correcting 144).Quiet ∧ (correcting 144).channel 1 = some (run 2 0 (.generator 0) 144) ∧
      (correcting 144).fld .sync 0 11 = 144 ∧ ((correcting 144).gen 0).common.biasControl = true := by decide +kernel

/-- A run of the sequencer on channel 0 with two generators ONLINE; a run that is READY. -/
def correctingAll (ready : Bool) : State :=
  (onlinePair live).modPar (fun p =>
    { p with channels := [some { run 2 8 .sequencer 144 with ready := ready }, none, none, none] })

theorem witness_SyncCorrectionWritesTheBiases_all :
    (correctingAll false).Quiet ∧ (correctingAll true).Quiet ∧ (correctingAll true).fld .sync 8 11 = 144 ∧
      (withGen (correcting 144) 0 { state := .syncing, speedBias := 7 }).Quiet := by decide +kernel

/-- Generator 0 of the run on channel 1 was biased by the run of channel 0 before. -/
def biasedTwice : State :=
  (correcting 144).modPar (fun p =>
    { p with channels := p.channels.set 0 (some { run 2 8 .sequencer 0 with wrote := [0, 1] }) })

theorem witness_SyncCorrectionWritesTheBiases_owner :
    biasedTwice.Quiet ∧ ((nextOf (.syncCorrection 1) biasedTwice).channel 0).map (·.wrote) = some [1] ∧
      ((nextOf (.syncCorrection 1) biasedTwice).channel 1).map (·.wrote) = some [0] := by decide +kernel

theorem witness_LoadIsShared :
    (sharing 143).Quiet ∧ (sharing 144).Quiet ∧ (sharing 144).fld .sync 8 11 = 144 ∧
      (∀ g < 8, ((sharing 144).gen g).state ≠ .unloading) ∧
      (((List.range 8).filter (fun g => ((sharing 144).gen g).state == .online)).map (fun g =>
        ((sharing 144).gen g).params.rating)).sum = 1500 := by decide +kernel

/-- Generator 0 is UNLOADING from 300 kW at 10 kW/s. -/
def shedding (ramps : Bool) (timer : Nat) (p : Position) : State :=
  (withBrk (withGen (plant 200 50 0) 0
    { state := .unloading, unloadFrom := 300, unloadTimer := timer, common := ⟨true, true, ramps, true, true⟩
      params := ⟨1000, 100, 10, 500⟩ }) 2 { position := p }).modPar (fun x => { x with shareTimer := 144 })

theorem witness_LoadIsShared_shedding :
    [shedding false 2400 .closed, shedding true 2400 .closed, shedding true 48000 .closed,
        shedding true 48000 .opened].all (fun s => decide (s.Quiet ∧ s.fld .sync 8 11 ≤ s.par.shareTimer ∧
      (s.gen 0).deferred = false ∧ s.run? = none ∧ (s.brk 2).slot = none ∧ s.fld .breaker 2 1 = 1)) = true ∧
      ((nextOf .loadSharing (shedding true 2400 .closed)).gen 0).target = 290 ∧
      ((nextOf .loadSharing (shedding true 48000 .closed)).gen 0).target = 100 := by decide +kernel

theorem witness_RequestDuringRestartIsBusy :
    Taken (restarting [.streams]) .a .mgmtReq (req 11 240 1).header ∧
      ((restarting [.streams]).links.a.up = true → (restarting [.streams]).links.a.bulkRoom = true) ∧
      (restarting [.streams]).links.b.up = false ∧ (restarting [.streams]).mgmt.restart ≠ none := by decide +kernel

theorem witness_TablesAndStateAreRead :
    live.Asked .a (req 12 0 0) ∧ TableId.ofNumber 12 = some .capture ∧ TableId.ofNumber 0 = some .station ∧
      live.Asked .a (req 13 0 0) ∧ live.Served .a (req 10 0 0) ∧
      (restarting [.streams]).Served .a (req 12 0 0) := by decide +kernel

/-- A RESTART is in flight: READ-STATE, READ-EVENTS and READ-LATCHES are served all the same. -/
theorem witness_ReadEventsReturnsTheRange :
    (restarting [.streams]).Served .a (req 0 65535 1) ∧ live.Served .a (req 0 0 77) ∧ live.Served .a (req 0 0 78) ∧
      live.Served .a (req 0 0 0) := by decide +kernel

theorem witness_ReadLatchesRearms : live.Served .a (req 0 0 0) ∧ (restarting [.streams]).Served .a (req 0 0 0) := by
  decide +kernel

def committing : State := live.setStaging .element ⟨.committing ⟨⟨0, 100, 5, 3, 2⟩, 7, []⟩, []⟩

theorem witness_DiscardEmptiesTheStaging :
    live.Asked .a (req 12 0 0) ∧ TableId.ofNumber 12 = some .capture ∧
      (live.stagingOf .capture).state.isCommitting = false ∧ committing.Asked .a (req 2 0 0) ∧
      (committing.stagingOf .element).state = .committing ⟨⟨0, 100, 5, 3, 2⟩, 7, []⟩ := by decide +kernel

theorem witness_SegmentsFillTheStaging :
    live.Asked .a (req 12 0 1 (entryBytes 0 [(1, 1)])) ∧ TableId.ofNumber 12 = some .capture ∧
      (live.stagingOf .capture).state.isCommitting = false ∧ (live.stagingOf .capture).state.expected = some 0 ∧
      readSegment .capture [] (entryBytes 0 [(1, 1)]) = .ok [(0, [(1, 1)])] ∧ live.Asked .a (req 12 1 0) :=
  ⟨by decide +kernel, rfl, by decide +kernel, by decide +kernel, rfl, by decide +kernel⟩

/-- Segment 65535 is the last that R178 names; 65536 is taken where it is expected (log entry 25), and 65537 is not. -/
theorem witness_SegmentsFillTheStaging_numbers :
    let filling := fun n => live.setStaging .capture ⟨.filling n, []⟩
    [(65535, 65535), (65536, 65536), (65536, 65537)].map (fun x =>
        let s := filling x.1
        let q := req 12 x.2 0 (entryBytes 0 [(1, 1)])
        (decide (s.Asked .a q ∧ (s.stagingOf .capture).state.isCommitting = false),
          (s.stagingOf .capture).state.expected == some x.2, ((nextOf (.writeSegment .a q) s).stagingOf .capture).state)) =
      [(true, true, .filling 65536), (true, true, .filling 65537), (true, false, .empty)] := by decide +kernel

/-- Expression 0 with the one term that point 240 is 0. -/
def oneTerm : Entry := (1, 1) :: (2, 0) :: (3, 240) :: (idRun 4 7).map (fun i => (i, 0))
def flatCurve : Entry := (idRun 1 64).map (fun i => (i, 5))

/-- The staging area of a table is COMPLETE with the entries given. -/
def stagedAll (t : TableId) (ws : Staged) (s : State) : State := s.setStaging t ⟨.complete, ws⟩

/-- The COMMIT of what is staged, with its CRC. -/
def commitOf (t : TableId) (s : State) : Request := req t.number (Clause.stagedCrc s t) 0

def newStation (latch : Bool) (auto : Nat) : State :=
  (stagedAll .station [(0, [(1, 4000), (4, 100), (5, 101), (9, 6), (10, auto)])] (withSeq live .noLineup)).modLines
    (fun l => { l with tripLatch := latch })
def newStream : State := stagedAll .stream [(0, [(1, 1), (2, 500), (3, 1), (4, 100)])] measuring

def breakerEntry (biu n : Nat) (more : Entry) : Entry := [(1, 1), (2, biu), (3, n), (4, 0), (7, 10), (8, 20)] ++ more

/-- Breaker 0 moves to another BIU, 1 becomes ISOLATED and 4 NORMAL, 2 is removed and 3 is added. -/
def newBreakers : State :=
  let s := withBrk (withBrk (puts .breaker 4 [(1, 1), (2, 200), (3, 14), (21, 1)] live) 0
    { position := .closed, candidate := some .opened, unresponsive := true }) 1
    { position := .opened, bf := .timing, bfTimer := 4, trips := [.backup 2] }
  stagedAll .breaker [(0, breakerEntry 201 7 []), (1, breakerEntry 200 8 [(21, 1)]), (3, breakerEntry 200 12 []),
    (4, breakerEntry 200 14 [])] (withBrk (withBrk s 2
      { position := .closed, trips := [.parallelLimit, .element 4], bf := .backupIssued, bfTimer := 9 }) 4
      { position := .opened, fieldPosition := .closed })

def newGenerators : State :=
  stagedAll .generator [(0, [(1, 1), (2, 310), (3, 2), (4, 2), (5, 3), (6, 1000), (8, 10), (14, 100)])]
    (pair { state := .standby, deadFailures := 2 } { state := .fault } .opened .opened)
def newSources : State :=
  stagedAll .source [(0, [(1, 0), (2, 1), (3, 0xFFFF), (4, 0xFFFF), (5, 0xFFFF), (6, 0xFFFF), (7, 5), (8, 9)])]
    (withSeq (sourced .failing 3) .noLineup)

def lineupEntry (xs : List Nat) : Entry := (1, xs.length) :: (List.range 24).map (fun i => (i + 2, xs.getD i 0))
def newLineups (p : Position) (x : SeqState) : State :=
  stagedAll .lineup [(0, lineupEntry [256, 1]), (1, lineupEntry [256]), (2, lineupEntry [0])]
    (withSeq (withBrk (withBrk live 0 { position := p }) 1 { position := .closed }) x)

def slotTaken (x : SeqState) : State := (withSeq live x).modSeq (fun q => { q with slot := some ⟨3, 0, 0, 0⟩ })
def newPlans : State :=
  stagedAll .plan [(0, [(1, 8), (2, 8), (3, 0xFFFF), (4, 100), (5, 1), (16, 6), (17, 10)])] (slotTaken .noLineup)
def newRules : State := stagedAll .autorule [(0, [(1, 1), (2, 2), (3, 0), (4, 0), (5, 1)])] (slotTaken (.halted .stepFailed))
def newCapture : State :=
  stagedAll .capture [(0, [(1, 1), (2, 1), (7, 1), (8, 5), (16, 2), (17, 60)] ++
    (idRun 3 4 ++ idRun 9 7).map (fun id => (id, 0)))] armed
def newSync : State := stagedAll .sync [(0, [(4, 10), (5, 200), (6, 100)])] live
def unchanged : State := stagedAll .sync [] live
def newExpression : State := staged .interlock oneTerm live

/-- A COMMIT of each table that passes the tests 1 to 7, with the number of its changed entries. -/
theorem witness_CommitTestsAndActivates_passes :
    [(TableId.station, newStation true 1, 1), (.stream, newStream, 1), (.curve, staged .curve flatCurve live, 1),
        (.interlock, newExpression, 1), (.breaker, newBreakers, 5), (.source, newSources, 1),
        (.lineup, newLineups .closed .init, 3), (.plan, newPlans, 1), (.autorule, newRules, 1),
        (.generator, newGenerators, 2), (.sync, newSync, 1), (.sync, unchanged, 0), (.capture, newCapture, 1)].all (fun x =>
      decide (x.2.1.Asked .a (commitOf x.1 x.2.1) ∧ x.2.1.mgmt.store = none ∧
        (x.2.1.stagingOf x.1).state = .complete ∧ Clause.failing x.2.1 x.1 = none ∧
        (Clause.changed x.2.1 x.1).length = x.2.2)) = true ∧
      Clause.CommitPasses (newStation false 0) .a (commitOf .station (newStation false 0)) .station := by
  unfold Clause.CommitPasses Clause.nominalMoves
  decide +kernel

/-- The activation conditions that the statement asks for. -/
theorem witness_CommitTestsAndActivates :
    Clause.activatable newExpression .interlock ∧ Clause.activatable newSync .sync ∧
      Clause.activatable newBreakers .breaker ∧ Clause.activatable newGenerators .generator ∧
      Clause.atRest newSources ∧ Clause.atRest newPlans ∧ Clause.atRest newRules ∧
      Clause.atRest (newLineups .closed .init) ∧ newCapture.capture.state = .empty ∧ newBreakers.run? = none ∧
      (∀ g < 8, (newBreakers.gen g).state ≠ .online ∧ (newBreakers.gen g).state ≠ .unloading) := by
  refine ⟨?_, ?_, ?_, ?_, .inr (.inl rfl), .inr (.inl rfl), .inr (.inr (.inr ⟨_, rfl⟩)), .inl rfl, ?_, ?_, ?_⟩ <;>
    (try unfold Clause.activatable) <;> decide +kernel

/-- Under the new table the positions give line-up 1, none, and unknown. -/
theorem witness_CommitTestsAndActivates_lineups :
    let after := fun (p : Position) => (newLineups p .init).setTable .lineup (Clause.newTable (newLineups p .init) .lineup)
    (after .closed).findLineup = .is 1 ∧ (after .travel).findLineup = .none ∧ (after .unknown).findLineup = .unknown ∧
      watchedBreakers (after .closed).mgmt.tables = [0, 1, 0, 0] := by decide +kernel

/-- A COMMIT that each test of R182 refuses. -/
theorem witness_CommitTestsAndActivates_refused :
    let wrongField := stagedAll .sync [(1, [(4, 10), (5, 200), (6, 200)])] live
    let nominal := ((stagedAll .station [(0, [(4, 100), (7, 60)])] live).modMgmt (fun m =>
      { m with configured := true })).driveHealthy
    (committing.stagingOf .element).state.isCommitting = true ∧ committing.Asked .a (req 2 0 0) ∧
      (live.stagingOf .sync).state ≠ .complete ∧ newSync.Asked .a (req 11 0 0) ∧ Clause.stagedCrc newSync .sync ≠ 0 ∧
      Clause.failing wrongField .sync = some (1, 6) ∧ Clause.failing nominal .station = none ∧
      nominal.Asked .a (commitOf .station nominal) ∧ Clause.nominalMoves nominal .station ∧
      ¬ Clause.activatable (withGen newSync 0 { state := .ready }) .sync := by
  unfold Clause.nominalMoves Clause.activatable
  decide +kernel

theorem witness_StoreWritesTheImage :
    live.Asked .a (req 0 0 0) ∧ live.mgmt.store = none ∧ live.commitInFlight = false ∧ live.station 4 ≠ 0 ∧
      storing.Quiet ∧ storing.mgmt.store = some ⟨⟨0, 100, 5, 10, 0⟩, [], 7⟩ ∧ storing.mgmt.configured = true ∧
      live.Quiet := by decide +kernel

/-- The STORE in flight of a part that is unconfigured. -/
def storingFirst : State := (storing.modMgmt (fun m => { m with configured := false })).rebuild

theorem witness_StoreWritesTheImage_first :
    storingFirst.Quiet ∧ storingFirst.mgmt.store = some ⟨⟨0, 100, 5, 10, 0⟩, [], 7⟩ ∧
      storingFirst.mgmt.configured = false ∧ storingFirst.links.windows.any (·.address == 4094) = true := by
  decide +kernel

theorem witness_StoreWritesTheImage_answer :
    let s := storing.modPort .a (fun p => { p with bulk := [.frame answer, .reserved 0] })
    s.Quiet ∧ ((nextOf (.storeComplete 7) s).port .a).bulk.take 2 =
        [.frame answer, .frame ⟨4093, 100, 0, .response 5 10 0 0 7 0 [], false, false⟩] ∧
      ((nextOf (.storeComplete 8) s).port .a).bulk.take 2 =
        [.frame answer, .frame ⟨4093, 100, 0, .response 5 10 2 0 0xFFFFFFFD 0 [], false, false⟩] := by decide +kernel

/-- A RESTART that each condition of R188 refuses, in their order, and one that passes. -/
theorem witness_RestartRunsBlockByBlock :
    [openSent, withBrk live 0 { bf := .timing }, planned [] byOperator, genset' .syncing, storing, committing, live].map
        (fun s => (decide (s.Asked .a (req 0 0 0)), s.restartBar)) =
      [(true, some 1), (true, some 2), (true, some 3), (true, some 4), (true, some 5), (true, some 6), (true, none)] ∧
      (restarting [.management]).Quiet ∧ live.mgmt.restart = none := by
  decide +kernel

/-- Every part is outstanding; an element is OPERATED, positions are known, generators wait, a capture is held. -/
def busy : State :=
  ((((withBrk (withGen (withGen (restarting restartBlocks) 0 { state := .claiming, deferred := true }) 1
    { state := .standby }) 0 { position := .closed }).modElement 3 (fun r =>
      { r with state := .operated, operations := 4 })).modPar (fun p =>
        { p with token := some (.generator 0), waitList := [1] })).modSeq (fun q =>
          { q with state := .idle 0, flags := [true, false, true, false] })).modCapture (fun c =>
            { c with state := .held, buffer := [⟨⟨0, 0⟩, []⟩], ring := [⟨⟨0, 0⟩, []⟩] })

theorem witness_RestartRunsBlockByBlock_parts (k : Block) :
    Clause.PartIsDue busy k ∧ (∀ g < 8, (busy.gen g).state ≠ .online ∧ (busy.gen g).state ≠ .unloading) ∧
      busy.run? = none ∧ busy.seq.slot = none :=
  ⟨⟨by decide +kernel, restartBlocks, by decide +kernel, by cases k <;> decide, by cases k <;> decide⟩,
    by decide +kernel, by decide +kernel, by decide +kernel⟩

/-- A plan waits with its DEAD close as its part comes. -/
def planInRestart : State :=
  withBrk (withSeq (puts .plan 0 [(16, 4), (17, 0)] (restarting restartBlocks)) (.running { byOperator with wait := .deadTerm }))
    0 { slot := some deadClose, position := .opened }

/-- Generator 0 is SYNCING with its close in the slot, or CLOSING with one that is issued. -/
def attemptInRestart (issued : Bool) : State :=
  let s := (syncing 3 4).modMgmt (fun m => { m with restart := some restartBlocks })
  if issued then withBrk (withGen s 0 { state := .closing }) 2 { slot := some (command .closing .sent 3) } else s

theorem witness_RestartRunsBlockByBlock_work :
    planInRestart.Quiet ∧ planInRestart.mgmt.restart = some restartBlocks ∧ planInRestart.run? ≠ none ∧
      planInRestart.stepField 0 0 0 = 4 ∧ planInRestart.stepField 0 0 1 = 0 ∧
      (planInRestart.brk 0).slot = some deadClose ∧ planInRestart.lines.tripLatch = false ∧
      planInRestart.lines.lockout = false ∧ planInRestart.seq.slot = none ∧
      (∀ c < 4, planInRestart.channel c = none) ∧ planInRestart.par.token = none ∧ planInRestart.par.tokenList = [] ∧
      (attemptInRestart false).Quiet ∧ (attemptInRestart true).Quiet ∧ (attemptInRestart false).run? = none ∧
      ((attemptInRestart false).brk 2).slot = some (Clause.closeOf 0 .sync) ∧
      ((attemptInRestart true).gen 0).state = .closing := by
  unfold attemptInRestart syncing Clause.closeOf
  decide +kernel

/-- A breaker that passes every test of R102. -/
def fit : BreakerRec := { position := .opened, health := ⟨true, true, false⟩ }

theorem witness_OperatorOpensABreaker :
    (withBrk live 0 { position := .closed }).Asked .a (req 1 0 0) ∧ (withBrk live 0 fit).Asked .a (req 1 0 0) ∧
      live.fld .breaker 0 1 = 1 ∧ live.fld .breaker 0 21 ≠ 1 ∧ (live.brk 0).slot = none := by decide +kernel

theorem witness_OperatorClosesABreaker :
    (withBrk live 0 fit).Asked .a (req 2 0 0) ∧ fit.position ≠ .closed ∧ fit.trips = [] ∧ live.lines.tripLatch = false ∧
      live.lines.lockout = false ∧ live.fld .breaker 0 5 ≠ 1 ∧ live.fld .breaker 0 6 = 0xFFFF ∧
      fit.unresponsive = false ∧ ((withBrk live 0 { fit with position := .travel }).brk 0).slot = none := by
  decide +kernel

theorem witness_RunPlanStartsAPlan :
    live.Asked .a (req 3 16 0) ∧ [SeqState.lockedOut, .running byOperator, .halted .stepFailed, .idle 3].all (fun x =>
        decide ((withSeq (planned [(16, 6), (17, 5)] byOperator) x).Asked .a (req 3 0 0))) = true ∧
      (planned [(16, 6), (17, 5)] byOperator).fld .plan 0 5 ≠ 0 ∧
      (planned [(16, 6), (17, 5)] byOperator).fld .plan 0 1 = 8 ∧
      (planned [(16, 6), (17, 5)] byOperator).stepField 0 0 0 = 6 := by decide +kernel

/-- INIT; and NO_LINEUP with a plan from ANY, with an undefined one, and with one from line-up 2. -/
theorem witness_RunPlanStartsAPlan_refused :
    [SeqState.init, .noLineup].all (fun x =>
        decide ((withSeq (planned [(16, 6), (17, 5)] byOperator) x).Asked .a (req 3 0 0))) = true ∧
      (planned [] byOperator).seq.lineup = .none ∧ live.fld .plan 1 5 = 0 ∧
      (put .plan 0 1 2 (planned [] byOperator)).fld .plan 0 1 = 2 := by decide +kernel

theorem witness_OperatorWritesAutoAndDemand :
    live.Asked .a (req 4 2 0) ∧ live.Asked .a (req 4 1 0) ∧ live.table .station = [(live.table .station).getD 0 []] ∧
      (10, 0) ∈ (live.table .station).getD 0 [] ∧ live.seq.state = .lockedOut ∧ live.Asked .a (req 5 8 0) ∧
      live.run? = none ∧ live.lines.tripLatch = false ∧ (live.modPar (fun p => { p with demand := 2 })).Asked .a (req 5 1 0) := by
  decide +kernel

theorem witness_HaltAndStationTripAreCleared :
    (withSeq live (.halted .abortCompleted)).Asked .a (req 7 0 0) ∧ live.Asked .a (req 7 0 0) ∧
      live.seq.state = .lockedOut ∧ live.seq.lineup = .none ∧ live.lines.tripLatch = false ∧ live.lines.lockout = false ∧
      (live.modLines (fun l => { l with tripPin := false })).Asked .a (req 8 0 0) ∧ live.lines.tripPin = true ∧
      (live.modLines (fun l => { l with tripLatch := true })).Asked .a (req 8 0 0) ∧ live.Asked .a (req 13 0 0) := by
  decide +kernel

theorem witness_OperatorTendsTheGenerators :
    [GenState.fault, .standby, .online, .absent].all (fun x =>
        decide ((genOpened { state := x }).Asked .a (req 9 0 0))) = true ∧ live.fld .generator 0 1 = 1 ∧
      (genOpened { state := .fault }).genPosition 0 = .opened := by decide +kernel

theorem witness_SoftPointsAreSet :
    live.Asked .a (req 11 239 0) ∧ live.Asked .a (req 11 240 1) ∧ live.Asked .a (req 11 255 0) ∧
      live.Asked .a (req 11 256 0) ∧ live.Asked .a (req 11 240 2) ∧ live.Asked .a (req 11 239 2) ∧ live.Quiet := by decide +kernel

theorem witness_CaptureBeginsIsReadAndReleased :
    live.Asked .a (req 0 0 1) ∧ live.capture.state = .empty ∧ capturing.Asked .a (req 0 39 32) ∧
      capturing.capture.state = .held ∧ capturing.Asked .a (req 12 0 0) ∧
      onlineClosed.Asked .a (req 12 0 0) ∧ onlineClosed.capture.state = .recording ∧
      capturing.capture.buffer.drop 39 = ⟨⟨0, 0⟩, [List.replicate 8 (0, .taken)]⟩ :: [] := by decide +kernel
/-! ### The smoke test of WellFormed: an ill-formed term for each check -/

theorem test_wf_ether : Ether.wf ⟨true, 65536⟩ = false ∧ Header.wf ⟨⟨true, 65536⟩, 1, 4093, 0⟩ = false ∧
    (Instr.malformedFrame .a ⟨⟨false, 65536⟩, []⟩).wf = false := by decide
theorem test_wf_header_source : Header.wf ⟨ether, 0, 4093, 0⟩ = false := by decide
theorem test_wf_header_source_broadcast : Header.wf ⟨ether, 4095, 4093, 0⟩ = false := by decide
theorem test_wf_header_destination : Header.wf ⟨ether, 1, 4096, 0⟩ = false := by decide
theorem test_wf_header_sequence : Header.wf ⟨ether, 1, 4095, 65536⟩ = false := by decide
theorem test_wf_sample_stream : (SampleBody.wf { sample 0 0 with stream := 256 }) = false := by decide
theorem test_wf_sample_second : (sample 4294967296 0).wf = false := by decide
theorem test_wf_sample_index : (sample 0 65536).wf = false := by decide
theorem test_wf_sample_count : (SampleBody.wf { sample 0 0 with samples := [1, 2] }) = false := by decide
theorem test_wf_sample_range : (SampleBody.wf { sample 0 0 with samples := List.replicate 8 32768 }) = false := by
  decide
theorem test_wf_position : (PositionBody.wf { reported .closed with biuNumber := 256 }) = false ∧
    (PositionBody.wf { reported .closed with tag := 256 }) = false := by decide
theorem test_wf_genstatus : (GenStatus.wf ⟨true, true, true, true, true, 32768⟩) = false := by decide
theorem test_wf_page : (Page.wf ⟨true, true, true, .next .rating 4294967296⟩) = false ∧
    (Page.wf ⟨true, true, true, .ack .rating 4294967296⟩) = false := by decide
theorem test_wf_time : (TimeBody.wf ⟨4294967296, true⟩) = false := by decide
theorem test_wf_request : (req 65536 0 0).wf = false ∧ (req 0 4294967296 0).wf = false ∧
    (req 0 0 4294967296).wf = false ∧ (req 0 0 0 (List.replicate 1471 0)).wf = false := by decide +kernel
theorem test_wf_member : (Member.element 64).wf = false ∧ (Member.backup 24).wf = false := by decide
theorem test_wf_commands : (Instr.captureTrigger 256).wf = false ∧ (Instr.responseTimeout 24).wf = false ∧
    (Instr.startTimeout 8).wf = false ∧ (Instr.syncCorrection 4).wf = false ∧
    (Instr.storeComplete 4294967296).wf = false ∧ (Instr.breakerOpen .a (req 2 0 0)).wf = false ∧
    (Instr.operateKindNotListed .a (req 12 0 0)).wf = false := by decide

/-! ### Examples of the spec, and frames written out by hand -/

/-- A TIME frame from address 400 for the part, sequence number 9: second 5, locked (R19). -/
theorem test_time_frame_bytes :
    frameCommand .a true ether [1, 7, 1, 0x90, 0x0F, 0xFD, 0, 9, 0, 5, 0, 0, 0, 5, 1] = .timeFrame .a (from' 400) ⟨5, true⟩ := by
  decide +kernel

/-- A POSITION frame: breaker 7 CLOSED, circuit healthy, spring charged, tag 3 refused for local control (R19). -/
theorem test_position_frame_bytes :
    frameCommand .b true ether [1, 2, 0, 200, 0x0F, 0xFD, 0, 9, 0, 6, 7, 2, 3, 3, 2, 0] =
      .positionFrame .b (from' 200) ⟨7, .closed, ⟨true, true, false⟩, 3, .refused, .localControl⟩ := by decide +kernel

/-- A GENSTATUS frame with an output of −2 kW (R19). -/
theorem test_genstatus_frame_bytes :
    frameCommand .a true ether [1, 4, 1, 0x2C, 0x0F, 0xFD, 0, 9, 0, 3, 3, 0xFF, 0xFE] =
      .genstatusFrame .a (from' 300) ⟨true, true, false, false, false, -2⟩ := by decide +kernel

/-- A NEXT page with code RATING and value 750, toggle 1 and more to come (R19). -/
theorem test_ability_frame_bytes :
    frameCommand .a true ether [1, 6, 1, 0x2C, 0x0F, 0xFD, 0, 9, 0, 7, 1, 3, 3, 0, 0, 2, 0xEE] =
      .abilityFrame .a (from' 300) ⟨true, true, false, .next .rating 750⟩ := by decide +kernel

/-- OPERATE of kind SET-POINT for point 240 at 1, request number 5 (R19, R185). -/
theorem test_request_frame_bytes :
    frameCommand .a true ether [1, 8, 0, 100, 0x0F, 0xFD, 0, 1, 0, 15, 0, 5, 7, 0, 11, 0, 0, 0, 240, 0, 0, 0, 1, 0, 0] =
      .setPoint .a (req 11 240 1) := by decide +kernel

/-- A version other than 1, and a body longer than the payload (R5). -/
theorem test_malformed_frames :
    frameCommand .a true ether [2, 7, 1, 0x90, 0x0F, 0xFD, 0, 9, 0, 5, 0, 0, 0, 5, 1] =
        .malformedFrame .a ⟨ether, [2, 7, 1, 0x90, 0x0F, 0xFD, 0, 9, 0, 5, 0, 0, 0, 5, 1]⟩ ∧
      frameCommand .a true ether [1, 7, 1, 0x90, 0x0F, 0xFD, 0, 9, 0, 6, 0, 0, 0, 5, 1] =
        .malformedFrame .a ⟨ether, [1, 7, 1, 0x90, 0x0F, 0xFD, 0, 9, 0, 6, 0, 0, 0, 5, 1]⟩ := by decide +kernel

/-- A COMMAND frame of the part: OPEN with tag 3 and origin OPERATOR for breaker 7 of the BIU at 200 (R10, R19). -/
theorem test_command_frame_bytes :
    (commandFrame .opening).bytes = [1, 3, 0x0F, 0xFD, 0, 200, 0, 0, 0, 4, 7, 1, 3, 0x40] := by decide +kernel

/-- The window of Example 3-1. -/
def squareWindow : List WindowEntry := List.replicate 24 ⟨600, .none⟩ ++ List.replicate 24 ⟨-600, .none⟩

theorem test_example_3_1 : windowRe squareWindow = 400 ∧ windowIm squareWindow = -6103 ∧ magnitudeOf 400 (-6103) = 6116 := by
  decide +kernel

theorem test_rounding_half_away : roundDiv 24576 49152 = 1 ∧ roundDiv (-24576) 49152 = -1 := by decide

theorem test_example_3_3 : angleOf 99500000 (-9980000) = -573 ∧ angleOf (-100000000) 0 = -18000 ∧
    angleOf (-100000000) (-10000) = -17999 ∧ angleOf (-100000000) 10000 = 17999 ∧ angleOf 0 0 = 0 := by
  decide +kernel

/-- Example 3-4: the tracker after its two crossings. -/
theorem test_example_3_4 :
    let w := List.replicate 46 ⟨0, .none⟩ ++ [⟨-300, .none⟩, ⟨500, .none⟩]
    let t := Tracker.close { closures := 999, reference := some 243540 } 60 1 w ⟨0, 0, 9, true, none⟩
    t.closures = 1000 ∧ t.reference = some 255840 ∧ t.silence = 0 ∧ t.frequency = 59941 ∧ t.valid = true := by
  decide +kernel

/-- Example 2-1: a quantity with 48 fresh closures loses three samples. -/
theorem test_example_2_1 :
    (List.range 3).map (fun n =>
      let q := Nat.repeat (fun q => closeQuantity none q 0) (n + 1) { condition := .fresh, missing := 0, fresh := 48, value := 9 }
      (q.condition, q.missing, q.fresh, q.value)) =
      [(.held, 1, 48, 9), (.held, 2, 48, 9), (.invalid, 3, 0, 0)] := by decide +kernel

/-- The bands of 4.4: P = 2000, and a UF element with P = 59300. -/
theorem test_bands : [1937, 1938, 1999, 2000].map (bandOf 0 2000) = [.dropout, .hysteresis, .hysteresis, .pickup] ∧
    [59300, 59301, 59320, 59321].map (bandOf 4 59300) = [.pickup, .hysteresis, .hysteresis, .dropout] := by decide

/-- The published check value of the CRC with the parameters of R182, over the digits 1 to 9 in ASCII. -/
theorem test_crc_check : crc32 ((List.range 9).map (fun i => BitVec.ofNat 8 (49 + i))) = 0xCBF43926 := by decide +kernel

/-- The multiples of R71's example. -/
theorem test_curve_index : curveIndex 5000 2000 = 24 ∧ curveIndex 12000 2000 = 63 ∧ curveIndex 2000 2000 = 0 := by decide

/-! ### One step each -/

/-- A frame of another protocol type does not bring its link UP (R4, R1). -/
theorem test_unseen_frame :
    ((nextOf (.ignoredFrame .b ⟨⟨true, 0x0800⟩, unsent⟩) live).port .b).up = false ∧
      ((nextOf (.ignoredFrame .b ⟨ether, unsent⟩) live).port .b).up = true := by decide +kernel

/-- A frame on the wire has the broadcast destination and the station's protocol type (R4). -/
theorem test_wire_header :
    ((nextOf (.transmitFrame .a) openSent).port .a).wire.map (fun w => (w.destination, w.ptype)) =
      some (0xFFFFFFFFFFFF, 0xB7D4) := by decide +kernel

/-- The phasor of Example 3-1, computed at a closure, and the element that operates on it (R41, R70, R75). -/
theorem test_closure_measures_and_trips :
    ((nextOf (.instantClosure true) tripping).phasor 0 0) = ⟨400, -6103, 6116, true, some ⟨1, 5⟩⟩ ∧
      (nextOf (.instantClosure true) tripping).breakers.requests = [⟨true, 0, .element 5⟩, ⟨true, 2, .element 5⟩] := by
  decide +kernel

/-- HEALTHY is returned as its conditions stand, by the very frame that brings the link UP (R94, R95). -/
theorem test_lines_healthy :
    (live.modMgmt (fun m => { m with configured := true })).lineFields.getLast? = some 1 := by decide +kernel

/-- A deferred renegotiation begins as the generator enters READY, before its next close attempt (R152). -/
theorem test_deferred_renegotiation :
    let s := (checking 288).modGen 0 (fun r => { r with deferred := true })
    ((nextOf (.deadCheckTimeout 0) s).gen 0).state = .negotiating ∧
      ((nextOf (.deadCheckTimeout 0) s).gen 0).deferred = false := by decide +kernel

/-- A channel that is free goes to the head of the wait list, and the generator that seeks one joins the tail (R160). -/
def queueing : State :=
  (puts .generator 1 [(1, 1), (2, 301), (3, 1)] (withBrk (withGen busLive 1 { state := .ready }) 1 fit)).modPar
    (fun p => { p with channels := p.channels.set 1 none, waitList := [1] })

theorem test_wait_list_first :
    (nextOf (.retryTimerExpiry 0) queueing).par.waitList = [0] ∧
      ((nextOf (.retryTimerExpiry 0) queueing).gen 1).state = .syncing := by decide +kernel

/-- The token is freed and granted anew within one command: its point rises once more for capture (R158, R175). -/
theorem test_token_rises_again :
    let s := (puts .generator 1 [(1, 1), (2, 301), (3, 1)] (puts .capture 0 [(7, 1), (8, 237)] (withBrk (withGen
      (checking 288) 1 { state := .claiming }) 1 fit))).modPar (fun p => { p with tokenList := [.generator 1] })
    s.point 237 = true ∧ (nextOf (.deadCheckTimeout 0) s).point 237 = true ∧
      (nextOf (.deadCheckTimeout 0) s).capture.edges = [237] := by decide +kernel

/-- Under the station trip latch a READY generator that is not at rated does not enter STARTING (R168). -/
theorem test_no_starting_under_the_latch :
    let s := withGen gated 0 { state := .ready }
    ((nextOf (.instantClosure true) (s.modLines (fun l => { l with tripLatch := true }))).gen 0).state = .ready ∧
      ((nextOf (.instantClosure true) s).gen 0).state = .starting := by decide +kernel

theorem test_trip_edge_sets_the_latch : (nextOf .stationTripEdge live).lines.tripLatch = true := by decide +kernel

/-- The breaker of a generator in FAULT comes to CLOSED with a trip demand standing: its OPEN is of the trip class and starts
BF (R111, R112, R167). -/
theorem test_trip_demand_at_a_closing_breaker :
    let s := withBrk (withGen live 0 { state := .fault }) 2
      { trips := [.element 5], candidate := some .closed, position := .opened }
    let t := nextOf (.positionFrame .a (from' 200) { reported .closed with biuNumber := 9 }) s
    (t.brk 2).slot.map (·.origins) = some { protection := true, paralleling := true } ∧ (t.brk 2).bf = .timing := by
  decide +kernel

/-- A trip demand at a simulated CLOSE whose breaker is still OPEN: the OPEN takes the slot and runs from there (R116). -/
theorem test_trip_demand_at_a_simulated_close :
    let t := nextOf (.tripDemandAdd 0 (.element 3)) joiningSimulated
    (t.brk 0).slot = some { action := .opening, origins := { protection := true }, phase := .accepted } ∧
      (t.brk 0).bf = .timing ∧ (t.brk 0).lastOutcome = some .superseded ∧ (t.brk 0).issued = 0 := by
  decide +kernel

/-- At the breaker controller's part of a RESTART a loaded generator is STOPPING and no frame goes to its controller; its
setpoints go with the next refresh (R148, R153, R164). -/
theorem test_restart_sends_no_genset :
    let s := withBrk (withGen (restarting restartBlocks) 0 { state := .online }) 2 { position := .closed }
    let t := nextOf (.blockRestart .breakers) s
    (t.gen 0).state = .stopping ∧ (t.port .a).normal.filter OutFrame.toController = [] ∧
      t.links.gensetSeq = s.links.gensetSeq ∧ t.hushed = false ∧
      ((nextOf (.gensetRefresh 0) (t.modGen 0 (fun r => { r with refreshTimer := 24000 }))).port .a).normal.any
        (·.gensetFor 0) = true := by
  decide +kernel

/-- A generator ONLINE whose engine has stopped is STOPPING by the OPEN of its breaker, and STANDBY by the next GENSTATUS (R167,
log entry 24). -/
theorem test_stopping_until_the_next_genstatus :
    let s := (followed .online .closed .opened []).modGen 0 (fun r => { r with status := ⟨false, false, false, false, false, 0⟩ })
    let t := nextOf (.positionFrame .a (from' 200) { reported .opened with biuNumber := 9 }) s
    (t.gen 0).state = .stopping ∧
      ((nextOf (.genstatusFrame .a (from' 300) ⟨false, false, false, false, false, 0⟩) t).gen 0).state = .standby := by
  decide +kernel

/-- Soft loading ends where the ramp has reached the share, without SOFT_LOAD in the common set too, and goes on below it
(R165). -/
theorem test_soft_loading_ends_without_the_ability :
    let s := fun n => (sharing 144).modGen 0 (fun r => { r with soft := true, onlineTimer := n })
    ((nextOf .loadSharing (s 96000)).gen 0).soft = false ∧ ((nextOf .loadSharing (s 96000)).gen 0).target = 400 ∧
      ((nextOf .loadSharing (s 2400)).gen 0).soft = true ∧ ((nextOf .loadSharing (s 2400)).gen 0).target = 400 := by
  decide +kernel

/-- A generator that waits for a channel and whose request is refused has made one attempt (R160, R163). -/
theorem test_one_attempt_on_a_channel :
    let s := (withBrk (withGen (plant 200 200 0) 0
      { state := .ready, retryDue := true }) 2 { position := .opened, unresponsive := true }).modPar (fun p =>
        { p with waitList := [0] })
    let t := nextOf (.retryTimerExpiry 0) s
    (t.gen 0).closeFailures = 1 ∧ (t.gen 0).retryTimer = 144 ∧ t.par.waitList = [] := by decide +kernel

theorem test_link_goes_down : ((nextOf (.linkDown .a) (live.modPort .a (fun p => { p with silence := 24 }))).port .a).up = false := by
  decide +kernel

/-- Under LOCKOUT the operator's close is LOCKED, with reason 3 (R102, R185). -/
theorem test_close_under_lockout :
    let t := nextOf (.breakerClose .a (req 2 0 0)) ((withBrk live 0 fit).modLines (fun l => { l with lockout := true }))
    (t.brk 0).slot = none ∧ (t.port .a).bulk =
      [.frame ⟨4093, 100, 0, .response 5 7 Status.locked.code 2 0 3 [], false, false⟩] := by decide +kernel

/-- A doubled advance over the second's end (R25, R27). -/
theorem test_doubled_advance : (nextOf .instantAdvance (tracking 2399 0 .double)).aligner.counter = ⟨2, 1⟩ := by
  decide +kernel

/-- The step takes the first command of the queue, and the second stays (R81). -/
def twoQueued : State := { live with pending := [.stationTripEdge, .timeHoldover] }

theorem test_step_order : ∃ t, step twoQueued = .next t ∧ t.pending = [.timeHoldover] ∧ t.lines.tripLatch = true :=
  ⟨_, exec_nextOf .stationTripEdge { twoQueued with pending := [.timeHoldover] }, by decide +kernel⟩

/-- The opcode table gives no row any bits. -/
theorem test_no_words : decodeTableWord 16 3 = none ∧ (live.withFetchWord 16 3) = live := ⟨rfl, rfl⟩

end Sys2Proof.Tests
end

section

/-! # The bands of X (R68, R69): each test of `bandOf` is the integer test of its rule -/

namespace Sys2Proof.Machine

/-! ### The tests of each type -/

/-- The over types IOC, TOC, OV, NOV and RP share the tests of R68. -/
theorem bandOf_over {type : Nat} (htype : type ∈ [0, 1, 3, 6, 7]) (p : Nat) (x : Int) :
    bandOf type p x =
      if (p : Int) ≤ x then .pickup else if 32 * x < 31 * (p : Int) then .dropout else .hysteresis := by
  simp only [List.mem_cons, List.not_mem_nil, or_false] at htype
  rcases htype with rfl | rfl | rfl | rfl | rfl <;> rfl

theorem bandOf_underVoltage (p : Nat) (x : Int) :
    bandOf 2 p x = if x ≤ p then .pickup else if 33 * (p : Int) < 32 * x then .dropout else .hysteresis := rfl

theorem bandOf_underFrequency (p : Nat) (x : Int) :
    bandOf 4 p x = if x ≤ p then .pickup else if (p : Int) + 20 < x then .dropout else .hysteresis := rfl

theorem bandOf_overFrequency (p : Nat) (x : Int) :
    bandOf 5 p x = if (p : Int) ≤ x then .pickup else if x < (p : Int) - 20 then .dropout else .hysteresis := rfl

/-! ### The bands as a partition -/

/-- A band decided by a pickup test and then a dropout test is told exactly by the two tests and their rest, where no value
passes both tests: only then does the order of the tests not matter. -/
theorem band_iff_of_tests {band : Band} {up down rest : Prop} [Decidable up] [Decidable down]
    (hband : band = if up then .pickup else if down then .dropout else .hysteresis)
    (hdisjoint : up → ¬ down) (hrest : rest ↔ ¬ up ∧ ¬ down) :
    (band = .pickup ↔ up) ∧ (band = .dropout ↔ down) ∧ (band = .hysteresis ↔ rest) := by
  subst hband
  by_cases hup : up
  · simp [hup, hdisjoint hup, hrest]
  · by_cases hdown : down <;> simp [hup, hdown, hrest]

end Sys2Proof.Machine

open Sys2Proof.Machine

/-- Settles O20: each type's pickup and dropout tests exclude each other since a pickup is never negative, so its bands are the
two tests and their rest. -/
theorem bandsAreExact : Obligations.BandsAreExact := by
  intro pickup x
  refine ⟨fun type htype => ?overTypes, ?underVoltage, ?underFrequency, ?overFrequency⟩
  case overTypes => exact band_iff_of_tests (bandOf_over htype pickup x) (by omega) (by omega)
  case underVoltage => exact band_iff_of_tests (bandOf_underVoltage pickup x) (by omega) (by omega)
  case underFrequency => exact band_iff_of_tests (bandOf_underFrequency pickup x) (by omega) (by omega)
  case overFrequency => exact band_iff_of_tests (bandOf_overFrequency pickup x) (by omega) (by omega)

end

section

/-! # The value of an interlock expression (R88): its terms, its groups, and the expression over its two groups -/

namespace Sys2Proof.Machine

variable (s : State)

theorem State.termHolds_iff (t : Nat) :
    s.termHolds t = true ↔ (s.point (t % 256) = true ↔ t / 256 = 1) := by
  rw [State.termHolds, beq_iff_eq, Bool.eq_iff_iff, beq_iff_eq]

/-! ### Groups of terms -/

theorem State.groupTerms_isEmpty_iff (x first count : Nat) :
    (s.groupTerms x first count).isEmpty = true ↔ count = 0 := by
  simp [State.groupTerms, idRun]

theorem State.mem_groupTerms {x first count t : Nat} :
    t ∈ s.groupTerms x first count ↔ ∃ i < count, s.fld .interlock x (first + i) = t := by
  simp [State.groupTerms, idRun]

theorem State.groupHolds_iff (terms : List Nat) :
    s.groupHolds terms = true ↔ ¬ terms.isEmpty = true ∧ ∀ t ∈ terms, s.termHolds t = true := by
  rw [State.groupHolds, Bool.and_eq_true, Bool.not_eq_true', Bool.not_eq_true, List.all_eq_true]

/-- A group holds where it has terms and each of the fields that give them is a term that holds. -/
theorem State.groupHolds_groupTerms_iff (x first count : Nat) :
    s.groupHolds (s.groupTerms x first count) = true ↔
      0 < count ∧ ∀ i < count, s.termHolds (s.fld .interlock x (first + i)) = true := by
  rw [State.groupHolds_iff, State.groupTerms_isEmpty_iff, ← ne_eq, ← Nat.pos_iff_ne_zero]
  simp only [State.mem_groupTerms, forall_exists_index, and_imp, forall_apply_eq_imp_iff₂]

/-! ### The expression -/

/-- Group 1's terms are the fields from id 3, as many as field 1 counts; group 2's those from id 7, counted by field 2. -/
theorem State.expression_iff (x : Nat) :
    s.expression x = true ↔
      (s.fld .interlock x 1 = 0 ∧ s.fld .interlock x 2 = 0) ∨
        s.groupHolds (s.groupTerms x 3 (s.fld .interlock x 1)) = true ∨
        s.groupHolds (s.groupTerms x 7 (s.fld .interlock x 2)) = true := by
  simp only [State.expression, Bool.or_eq_true, Bool.and_eq_true, State.groupTerms_isEmpty_iff, or_assoc]

end Sys2Proof.Machine

open Sys2Proof.Machine

/-- Settles O21: the expression is its two groups or their emptiness, each group its count and its terms, and each term the
value of its point. -/
theorem expressionsHoldByGroups : Obligations.ExpressionsHoldByGroups := by
  intro s x
  simp only [State.expression_iff, State.groupHolds_groupTerms_iff, State.termHolds_iff]

end

section

/-! # Requests that the management unit answers within their command (R177, R181, R184): what lies between the frame and the
end of the command, said once, and then READ-LATCHES and DISCARD -/

namespace Sys2Proof.Machine

/-! ### Numbered records under a map -/

theorem nth_map {α β : Type} [Inhabited α] [Inhabited β] (f : α → β) {l : List α} {i : Nat} (h : i < l.length) :
    nth (l.map f) i = f (nth l i) := by
  simp [nth, h]

/-- A map that keeps a field of every record keeps it at every number, beyond the records too. -/
theorem apply_nth_map {α β : Type} [Inhabited α] (f : α → α) (g : α → β) (hfg : ∀ r, g (f r) = g r) (l : List α)
    (i : Nat) : g (nth (l.map f) i) = g (nth l i) := by
  cases h : l[i]? <;> simp [nth, h, hfg]

/-! ### A state that differs in nothing that the end of a command acts on -/

/-- `t` differs from `s` at most in the links, in the owners of latched bits, and in the staging and the counts of the
management unit; of these, all that points, setpoints and HEALTHY are computed from stands (R80, R94, R153). -/
structure RequestFrame (s t : State) : Prop where
  eq : t = { s with
    links := t.links
    aligner := t.aligner
    intake := t.intake
    breakers := t.breakers
    events := t.events
    mgmt := t.mgmt }
  up : ∀ l, (t.port l).up = (s.port l).up
  time : t.aligner.time = s.aligner.time
  valid : ∀ k, (t.stream k).valid = (s.stream k).valid
  position : ∀ b, (t.brk b).position = (s.brk b).position
  mgmt : t.mgmt = { s.mgmt with
    staging := t.mgmt.staging
    taken := t.mgmt.taken
    statusCounts := t.mgmt.statusCounts
    nextTicket := t.mgmt.nextTicket }

/-- The owners of latched bits beside the links (R184): what a request may touch beside the links and the management unit. -/
def latchOwners : List StatePart := [.aligner, .intake, .breakers, .events]

namespace RequestFrame

variable {s t u : State}

theorem trans (h : RequestFrame s t) (k : RequestFrame t u) : RequestFrame s u where
  eq := by
    have e := k.eq
    rw [h.eq] at e
    exact e
  up l := (k.up l).trans (h.up l)
  time := k.time.trans h.time
  valid i := (k.valid i).trans (h.valid i)
  position b := (k.position b).trans (h.position b)
  mgmt := by
    have e := k.mgmt
    rw [h.mgmt] at e
    exact e

theorem tables (h : RequestFrame s t) : t.mgmt.tables = s.mgmt.tables := by rw [h.mgmt]

theorem ownAddress (h : RequestFrame s t) : t.ownAddress = s.ownAddress := by
  simp only [State.ownAddress, State.station, State.fld, h.tables]

theorem healthyNow (h : RequestFrame s t) : t.healthyNow = s.healthyNow := by
  have ha : t.links.a.up = s.links.a.up := h.up .a
  have hb : t.links.b.up = s.links.b.up := h.up .b
  rw [State.healthyNow, ha, hb, h.mgmt, State.healthyNow]

theorem setpointOf (h : RequestFrame s t) (g : Nat) : t.setpointOf g = s.setpointOf g :=
  State.setpointOf_congr (by rw [h.eq]) h.tables g

/-- Each owner's part of the point image (R80). -/
theorem point (h : RequestFrame s t) (n : Nat) : t.point n = s.point n := by
  have ha : t.links.a.up = s.links.a.up := h.up .a
  have hb : t.links.b.up = s.links.b.up := h.up .b
  have helements : t.elements = s.elements := by rw [h.eq]
  have hlines : t.lines = s.lines := by rw [h.eq]
  have hseq : t.seq = s.seq := by rw [h.eq]
  have hpar : t.par = s.par := by rw [h.eq]
  have hcapture : t.capture = s.capture := by rw [h.eq]
  have hconfigured : t.mgmt.configured = s.mgmt.configured := by rw [h.mgmt]
  have hsoft : t.mgmt.soft = s.mgmt.soft := by rw [h.mgmt]
  simp only [State.point, State.element, State.run?, State.parallelRuns, State.gen, State.source, State.channel, h.position,
    h.valid, h.time, ha, hb, helements, hlines, hseq, hpar, hcapture, hconfigured, hsoft]

/-- The end of a command finds nothing to do. -/
theorem finish (hs : s.Quiet) (h : RequestFrame s t) : finish s t = .next t := by
  obtain ⟨hwork, hclosing, hhushed, hrisen, hhealthy, -⟩ := hs
  have hlines : t.lines = s.lines := by rw [h.eq]
  refine finish_exact s ?_ ?_ ?_ ?_ h.setpointOf h.point ?_
  · rw [h.eq]; exact hwork
  · rw [h.eq]; exact hrisen
  · rw [h.eq]; exact hclosing
  · rw [h.eq]; exact hhushed
  · rw [hlines, h.healthyNow, hhealthy]

/-- No trigger point rises. -/
theorem risesNoted (ps : List StatePart) (h : RequestFrame s t) : RisesNoted ps s t := by
  have hrises : risesOf s t = [] := by simp [risesOf, h.point]
  refine ⟨fun _ => 0, ?_, fun p => ⟨?_, ?_⟩⟩
  · rw [h.eq]; simp
  · simp [hrises]
  · simp

/-- Only the parts are touched that are named and that the frame leaves open. -/
theorem only {ps : List StatePart} (hs : s.Quiet) (h : RequestFrame s t)
    (hopen : ∀ p ∈ StatePart.links :: .mgmt :: latchOwners, p ∉ ps → p.Kept s t) :
    Only ps s t := by
  obtain ⟨-, hclosing, hhushed, hrisen, hhealthy, -⟩ := hs
  refine ⟨?_, ?_, ?_, ?_, fun p hp => ?_, fun _ => h.risesNoted ps⟩
  · rw [h.eq]; exact hclosing
  · rw [h.eq]; exact hhushed
  · rw [h.eq]; exact hrisen
  · rw [h.eq]
  · cases p with
    | links | aligner | intake | breakers | events | mgmt => exact hopen _ (by simp [latchOwners]) hp
    | lines => rw [StatePart.Kept, h.healthyNow, ← hhealthy, h.eq]
    | measures | elements | seq | par | capture | free => rw [StatePart.Kept, h.eq]

end RequestFrame

/-! ### From the booked request to its answer -/

/-- `u` waits to answer the request next taken in `s`: a place is reserved for the response on each link that is UP, and the
response takes the next sequence number (R17, R177). -/
structure Awaiting (s u : State) : Prop extends RequestFrame s u where
  responseSeq : u.links.responseSeq = s.links.responseSeq
  place : ∀ l, (s.port l).up = true → BulkPlace.reserved s.mgmt.nextTicket ∈ (u.port l).bulk

theorem LinkPort.booked_place (n : Nat) (p : LinkPort) (h : p.up = true) : .reserved n ∈ (p.booked n).bulk := by
  simp [LinkPort.booked, h]

variable (s : State)

theorem State.booked_awaiting (l : Link) (q : Request) : Awaiting s (s.booked l q) where
  eq := by cases l <;> rfl
  up k := by cases l <;> cases k <;> exact LinkPort.booked_up _ _
  time := by cases l <;> rfl
  valid _ := by cases l <;> rfl
  position _ := by cases l <;> rfl
  mgmt := by cases l <;> rfl
  responseSeq := by cases l <;> rfl
  place k h := by cases l <;> cases k <;> exact LinkPort.booked_place _ _ h

/-- The work of a request keeps its places. -/
theorem Awaiting.work {s u v : State} (h : Awaiting s u) (k : RequestFrame u v)
    (hseq : v.links.responseSeq = u.links.responseSeq) (hbulk : ∀ l, (v.port l).bulk = (u.port l).bulk) :
    Awaiting s v where
  toRequestFrame := h.toRequestFrame.trans k
  responseSeq := hseq.trans h.responseSeq
  place l hl := by rw [hbulk]; exact h.place l hl

@[simp] theorem LinkPort.fill_up (n : Nat) (f : OutFrame) (p : LinkPort) : (p.fill n f).1.up = p.up := by
  unfold LinkPort.fill; split <;> rfl

@[simp] theorem LinkPort.fill_latch (n : Nat) (f : OutFrame) (p : LinkPort) : (p.fill n f).1.latch = p.latch := by
  unfold LinkPort.fill; split <;> rfl

/-- An answer writes the links and the counts of statuses alone. -/
theorem State.answer_frame (k : Ticket) (r : Reply) : RequestFrame s (s.answer k (some r)) := by
  rw [State.answer, State.respond_eq]
  exact ⟨rfl, fun l => by cases l <;> exact LinkPort.fill_up _ _ _, rfl, fun _ => rfl, fun _ => rfl, rfl⟩

theorem State.answer_mgmt (k : Ticket) (r : Reply) : (s.answer k (some r)).mgmt =
    { s.mgmt with statusCounts :=
        if r.status == .done then s.mgmt.statusCounts
        else s.mgmt.statusCounts.modify (r.status.code - 1) step32 } := by
  rw [State.answer, State.respond_eq]

section Answer

variable (k : Ticket) (r : Reply)

@[simp] theorem State.answer_aligner : (s.answer k (some r)).aligner = s.aligner := by
  rw [State.answer, State.respond_eq]

@[simp] theorem State.answer_intake : (s.answer k (some r)).intake = s.intake := by
  rw [State.answer, State.respond_eq]

@[simp] theorem State.answer_breakers : (s.answer k (some r)).breakers = s.breakers := by
  rw [State.answer, State.respond_eq]

@[simp] theorem State.answer_events : (s.answer k (some r)).events = s.events := by
  rw [State.answer, State.respond_eq]

@[simp] theorem State.answer_stream (i : Nat) : (s.answer k (some r)).stream i = s.stream i := by
  simp only [State.stream, State.answer_intake]

@[simp] theorem State.answer_brk (b : Nat) : (s.answer k (some r)).brk b = s.brk b := by
  simp only [State.brk, State.answer_breakers]

@[simp] theorem State.answer_latch (l : Link) :
    ((s.answer k (some r)).port l).latch = (s.port l).latch := by
  rw [State.answer, State.respond_eq]
  cases l <;> exact LinkPort.fill_latch _ _ _

end Answer

theorem State.answer_kept {u : State} (k : Ticket) (r : Reply) {p : StatePart} (hp : p ∈ latchOwners)
    (h : p.Kept s u) : p.Kept s (u.answer k (some r)) := by
  simp only [latchOwners, List.mem_cons, List.not_mem_nil, or_false] at hp
  rcases hp with rfl | rfl | rfl | rfl
  · exact (u.answer_aligner k r).trans h
  · exact (u.answer_intake k r).trans h
  · exact (u.answer_breakers k r).trans h
  · exact (u.answer_events k r).trans h

@[simp] theorem State.booked_intake (l : Link) (q : Request) : (s.booked l q).intake = s.intake := by cases l <;> rfl

@[simp] theorem State.booked_breakers (l : Link) (q : Request) : (s.booked l q).breakers = s.breakers := by
  cases l <;> rfl

theorem State.booked_kept (l : Link) (q : Request) {p : StatePart} (hp : p ∈ latchOwners) :
    p.Kept s (s.booked l q) := by
  simp only [latchOwners, List.mem_cons, List.not_mem_nil, or_false] at hp
  rcases hp with rfl | rfl | rfl | rfl <;> cases l <;> rfl

/-- The answer to the request fills the places reserved for it. -/
theorem Awaiting.answer_replies {s u : State} (h : Awaiting s u) (kind : Nat) (q : Request) (r : Reply) :
    Replies s (u.answer (s.ticketFor kind q) (some r)) q kind r.status r.detailA r.detailB r.data := by
  intro l hl
  rw [State.answer, State.respond_eq, ← h.ownAddress, ← h.responseSeq]
  cases l <;> exact LinkPort.fill_mem _ _ _ (h.place _ hl)

/-- A request that is answered within its command: what the answer adds to the state that waits for it is all that the
command does further. -/
theorem Awaiting.answered {s u : State} (hs : s.Quiet) (h : Awaiting s u) (kind : Nat) (q : Request) (r : Reply)
    {ps : List StatePart} (hlinks : .links ∈ ps) (hmgmt : .mgmt ∈ ps)
    (hopen : ∀ p ∈ latchOwners, p ∉ ps → p.Kept s u) :
    let t := u.answer (s.ticketFor kind q) (some r)
    finish s t = .next t ∧ Replies s t q kind r.status r.detailA r.detailB r.data ∧ Only ps s t := by
  intro t
  have ht : RequestFrame s t := h.toRequestFrame.trans (u.answer_frame _ r)
  refine ⟨ht.finish hs, h.answer_replies kind q r, ht.only hs fun p hp hn => ?_⟩
  rcases List.mem_cons.1 hp with rfl | hp
  · exact absurd hlinks hn
  rcases List.mem_cons.1 hp with rfl | hp
  · exact absurd hmgmt hn
  exact s.answer_kept _ r hp (hopen p hp hn)

/-! ### Requests that are served during a RESTART (R188) -/

/-- With room on the links that are UP, of which there is one, the places are reserved. -/
theorem State.reserve_placed (n : Nat) (hup : s.links.a.up = true ∨ s.links.b.up = true)
    (ha : s.links.a.up = true → s.links.a.bulkRoom = true) (hb : s.links.b.up = true → s.links.b.bulkRoom = true) :
    s.onUpLinks (LinkPort.reserve n) =
      ({ s with links := { s.links with a := s.links.a.booked n, b := s.links.b.booked n } }, .placed) := by
  unfold State.onUpLinks
  rw [LinkPort.reserve_room _ _ ha, LinkPort.reserve_room _ _ hb]
  rcases hup with hx | hx <;> simp [hx]

/-- An exempt request whose places can be reserved is done and answered, whether or not a RESTART is in flight. -/
theorem State.serve_exempt {l : Link} {q : Request} (kind : Nat) (work : Ticket → State → State × Option Reply)
    (h : s.Served l q) :
    s.serve l kind true q work =
      (work (s.ticketFor kind q) (s.booked l q)).1.answer (s.ticketFor kind q)
        (work (s.ticketFor kind q) (s.booked l q)).2 := by
  obtain ⟨-, hu, hv, ha, hb⟩ := h
  unfold State.serve State.take
  rw [State.receive_taken s l _ _ _ hu hv (by simp)]
  dsimp only
  rw [State.reserve_placed]
  · simp only [Bool.not_true, Bool.and_false]
    cases l <;> rfl
  · cases l
    · exact .inl hu
    · exact .inr hu
  · cases l <;> exact ha
  · cases l <;> exact hb

/-! ### The latched bits (R184) -/

theorem State.Quiet.streams_length {s : State} (h : s.Quiet) : s.intake.streams.length = 16 := by
  obtain ⟨-, -, -, -, -, -, -, -, -, -, -, hstreams, -⟩ := h
  exact hstreams

theorem State.Quiet.recs_length {s : State} (h : s.Quiet) : s.breakers.recs.length = 24 := by
  obtain ⟨-, -, -, -, -, -, -, -, -, -, -, -, -, -, hrecs, -⟩ := h
  exact hrecs

@[simp] theorem LinkPort.booked_latch (n : Nat) (p : LinkPort) : (p.booked n).latch = p.latch := by
  unfold LinkPort.booked; split <;> rfl

@[simp] theorem State.booked_port_latch (l k : Link) (q : Request) :
    ((s.booked l q).port k).latch = (s.port k).latch := by
  cases l <;> cases k <;> exact LinkPort.booked_latch _ _

/-- Reception and reservation, which come before the latched bits are read, move none of them. -/
theorem State.booked_latchesA (l : Link) (q : Request) : (s.booked l q).latchesA = s.latchesA := by
  have ha := s.booked_port_latch l .a q
  have hb := s.booked_port_latch l .b q
  simp only [State.port] at ha hb
  unfold State.latchesA
  rw [ha, hb]
  cases l <;> rfl

theorem State.booked_latchesB (l : Link) (q : Request) : (s.booked l q).latchesB = s.latchesB := by
  cases l <;> rfl

theorem State.rearm_port (l : Link) : s.rearm.port l = { s.port l with latch := (s.port l).up } := by cases l <;> rfl

theorem State.rearm_stream {k : Nat} (h : k < s.intake.streams.length) :
    s.rearm.stream k = { s.stream k with staleSeen := decide ((s.stream k).state = .stale) } := by
  rw [State.stream, State.rearm, nth_map _ h]
  rfl

theorem State.rearm_brk {b : Nat} (h : b < s.breakers.recs.length) :
    s.rearm.brk b = { s.brk b with bfOccurred := decide ((s.brk b).bf = .backupIssued) } := by
  rw [State.brk, State.rearm, nth_map _ h]
  rfl

/-- Re-arming writes latched bits alone, which no point shows. -/
theorem State.rearm_frame : RequestFrame s s.rearm where
  eq := rfl
  up l := by rw [s.rearm_port]
  time := rfl
  valid _ := apply_nth_map (fun r : StreamRec => { r with staleSeen := r.state == .stale }) StreamRec.valid
    (fun _ => rfl) _ _
  position _ := apply_nth_map (fun r : BreakerRec => { r with bfOccurred := r.bf == .backupIssued })
    BreakerRec.position (fun _ => rfl) _ _
  mgmt := rfl

theorem State.rearm_awaiting (l : Link) (q : Request) : Awaiting s (s.booked l q).rearm :=
  (s.booked_awaiting l q).work (s.booked l q).rearm_frame rfl (fun k => by rw [State.rearm_port])

theorem exec_readLatches {l : Link} {q : Request} (h : s.Served l q) :
    exec (.readLatches l q) s = finish s ((s.booked l q).rearm.answer (s.ticketFor 6 q)
      (some { detailA := s.latchesA, detailB := s.latchesB })) := by
  change finish s (s.serve l 6 true q (fun _ t => t.readLatches)) = _
  rw [s.serve_exempt 6 _ h]
  simp only [State.readLatches, s.booked_latchesA l q, s.booked_latchesB l q]

/-! ### DISCARD (R181) -/

theorem StagingState.isCommitting_iff (x : StagingState) : x.isCommitting = true ↔ ∃ w, x = .committing w := by
  cases x <;> simp [StagingState.isCommitting]

theorem State.discardStaging_committing {table : TableId} {w : CommitWait}
    (h : (s.stagingOf table).state = .committing w) : s.discardStaging table = (s, some (Reply.of .busy)) := by
  have hcommitting := (StagingState.isCommitting_iff _).2 ⟨w, h⟩
  simp [State.discardStaging, hcommitting]

theorem State.discardStaging_free {table : TableId} (h : ∀ w, (s.stagingOf table).state ≠ .committing w) :
    s.discardStaging table =
      (s.emptyStaging table, some { detailA := (s.stagingOf table).entries.length }) := by
  have hfree : ¬ (s.stagingOf table).state.isCommitting = true := fun hc =>
    ((StagingState.isCommitting_iff _).1 hc).elim h
  simp [State.discardStaging, hfree]

theorem State.emptyStaging_frame (table : TableId) : RequestFrame s (s.emptyStaging table) :=
  ⟨rfl, fun _ => rfl, rfl, fun _ => rfl, fun _ => rfl, rfl⟩

theorem State.emptyStaging_kept {u : State} (table : TableId) {p : StatePart} (hp : p ∈ latchOwners)
    (h : p.Kept s u) : p.Kept s (u.emptyStaging table) := by
  simp only [latchOwners, List.mem_cons, List.not_mem_nil, or_false] at hp
  rcases hp with rfl | rfl | rfl | rfl <;> exact h

theorem State.emptyStaging_awaiting (l : Link) (q : Request) (table : TableId) :
    Awaiting s ((s.booked l q).emptyStaging table) :=
  (s.booked_awaiting l q).work ((s.booked l q).emptyStaging_frame table) rfl (fun _ => rfl)

@[simp] theorem State.booked_stagingOf (l : Link) (q : Request) (table : TableId) :
    (s.booked l q).stagingOf table = s.stagingOf table := by
  cases l <;> rfl

theorem exec_discard {l : Link} {q : Request} {table : TableId} (h : s.Asked l q)
    (htable : TableId.ofNumber q.target = some table) :
    exec (.discard l q) s = finish s (((s.booked l q).discardStaging table).1.answer (s.ticketFor 4 q)
      ((s.booked l q).discardStaging table).2) := by
  change finish s (s.serve l 4 false q (fun _ t => t.withTable q State.discardStaging)) = _
  rw [s.serve_asked 4 false _ h]
  simp only [State.withTable, htable]

end Sys2Proof.Machine

open Sys2Proof.Machine

/-- Settles O46: the bits are read and re-armed in the state in which the request is booked, where they stand as they stood,
and re-arming changes nothing that a point, a setpoint or HEALTHY follows. -/
theorem readLatchesRearms : Obligations.ReadLatchesRearms := by
  intro s l q h low stale failures
  obtain ⟨hanswer, hreplies, honly⟩ := (s.rearm_awaiting l q).answered h.1 6 q
    { detailA := s.latchesA, detailB := s.latchesB }
    (ps := [.links, .aligner, .intake, .breakers, .events, .mgmt]) (by simp) (by simp) (by simp [latchOwners])
  refine ⟨_, (exec_readLatches s h).trans hanswer, hreplies, fun k => ?ports, ?aligner, fun k hk => ?streams,
    fun b hb => ?breakers, ?events, ?mgmt, honly⟩
  case ports => rw [State.answer_latch, (State.answer_frame _ _ _).up, State.rearm_port]
  case aligner =>
    rw [State.answer_aligner]
    cases l <;> rfl
  case streams =>
    rw [State.answer_stream, State.rearm_stream _ (by rwa [s.booked_intake, h.1.streams_length])]
    cases l <;> rfl
  case breakers =>
    rw [State.answer_brk, State.rearm_brk _ (by rwa [s.booked_breakers, h.1.recs_length])]
    cases l <;> rfl
  case events =>
    rw [State.answer_events]
    cases l <;> rfl
  case mgmt =>
    rw [State.answer_mgmt]
    cases l <;> rfl

/-- Settles O47: the work of DISCARD, on an area that is COMMITTING and on one that is not, reads the staging of the state in
which the request is booked, and that is the staging as it stood. -/
theorem discardEmptiesTheStaging : Obligations.DiscardEmptiesTheStaging := by
  intro s l q table h htable area
  have hexec := exec_discard s h htable
  refine ⟨fun hfree => ?free, fun w hcommitting => ?committing⟩
  case free =>
    rw [State.discardStaging_free _ (by simpa using hfree), s.booked_stagingOf] at hexec
    obtain ⟨hanswer, hreplies, honly⟩ := (s.emptyStaging_awaiting l q table).answered h.1 4 q
      { detailA := area.entries.length } (ps := [.links, .mgmt]) (by simp) (by simp)
      (fun p hp _ => s.emptyStaging_kept table hp (s.booked_kept l q hp))
    exact ⟨_, hexec.trans hanswer, hreplies, by rw [State.answer_mgmt]; rfl, honly⟩
  case committing =>
    rw [State.discardStaging_committing _ (by simpa using hcommitting)] at hexec
    obtain ⟨hanswer, hreplies, honly⟩ := (s.booked_awaiting l q).answered h.1 4 q (Reply.of .busy)
      (ps := [.links, .mgmt]) (by simp) (by simp) (fun p hp _ => s.booked_kept l q hp)
    exact ⟨_, hexec.trans hanswer, hreplies, by rw [State.answer_mgmt]; rfl, honly⟩

end

section

/-! # A run on a sync channel whose generator is not configured (R148, R161): the release of the run takes it to CLOSING -/

namespace Sys2Proof.Machine

/-- The reset state with a close-ready run of generator 0, which is not configured, on channel 1, and its closure next. -/
def strayRun : State :=
  { State.reset with
    pending := [.instantClosure true]
    measures := List.replicate 16
      { phasors := List.replicate 8 ⟨0, 0, 0, true, none⟩, tracker := { valid := true } }
    par := { channels := [none, some { client := .generator 0, breaker := 0, gStream := 0, bStream := 0, entry := 0,
                                       ready := true }, none, none] } }

theorem strayRun_quiet : strayRun.Quiet := by
  refine ⟨rfl, rfl, rfl, rfl, by decide +kernel, ?_, ?_, by decide +kernel, by decide +kernel, by decide, by decide,
    by decide +kernel⟩ <;>
  exact ⟨by decide, by decide, by decide, by decide, by decide, by decide, ⟨by decide, by decide⟩,
    ⟨by decide, by decide⟩, fun _ => ⟨rfl, rfl, rfl⟩⟩

theorem strayRun_ownBreakers : strayRun.OwnBreakers := by decide +kernel

theorem strayRun_onlineWhileClosed : strayRun.OnlineWhileClosed := ⟨by decide +kernel, by decide +kernel⟩

/-- At the closure the stray run releases, and its generator enters CLOSING though it is not configured. -/
theorem strayRun_closes (t : State) (h : step strayRun = .next t) :
    t.work = [] ∧ t.fld .generator 0 1 ≠ 1 ∧ (t.gen 0).state = .closing := by
  have hsettled : t =
      State.settle { strayRun with pending := [] } (State.closeInstant { strayRun with pending := [] } true) :=
    (Host.Outcome.next.inj h).symm
  subst hsettled
  decide +kernel

/-- Refutes O3 by its second part: nothing in the premise binds the runs on the channels to configured generators, and the
release of a run takes its generator to CLOSING whichever it is. -/
theorem not_everyStepKeepsSound : ¬ Obligations.EveryStepKeepsSound := by
  rintro ⟨-, hkeeps, -, -⟩
  obtain ⟨hwork, hfld, hstate⟩ := strayRun_closes _ rfl
  have honline := hkeeps strayRun _ strayRun_quiet strayRun_ownBreakers strayRun_onlineWhileClosed rfl hwork
  cases (honline.1 0 (by decide) hfld).symm.trans hstate

end Sys2Proof.Machine

end

section

/-! # The queue of commands, reset, power-on and the tests of reception (R4 to R8, R187) -/

namespace Sys2Proof.Machine

/-- Settles O1: `step` is that match. -/
theorem stepTakesTheFront : Obligations.StepTakesTheFront := by
  refine ⟨fun s c rest h => ?_, fun s h => ?_⟩ <;> rw [step, h]

/-- With both links DOWN no EVENT frame can be placed: an event only joins the queue (R171). -/
theorem State.event_unsent (s : State) (c : EventClass) (priority object code : Nat) (value : Option Nat)
    (ha : s.links.a.up = false) (hb : s.links.b.up = false) :
    s.event c priority object code value = { s with
      events := s.events.append ⟨s.events.nextSeq, s.eventLabel, c, priority, object, code, value, false⟩ } := by
  have hstays : ∀ (e : EventQueue) (urgent : Bool),
      State.sendEvents { s with events := e } urgent = { s with events := e } := by
    intro e urgent
    have hroom : State.eventRoom { s with events := e } urgent = false := by simp [State.eventRoom, ha, hb]
    simp [State.sendEvents, hroom]
  rw [State.event, State.sendAttempt, hstays, hstays]

/-- Settles O7: before its two events power-on has both links DOWN, so that the events only join the queue. -/
theorem powerOnStartsAnew : Obligations.PowerOnStartsAnew := by
  intro s
  refine ⟨fun h => ?_, fun h => ?_⟩
  · change Host.Outcome.next s.powerOn = _
    unfold State.powerOn
    simp only [h, Bool.false_eq_true, if_false]
    rw [State.event_unsent _ _ _ _ _ _ rfl rfl, State.event_unsent _ _ _ _ _ _ rfl rfl]
    rfl
  · change Host.Outcome.next s.powerOn = _
    unfold State.powerOn
    simp only [h, if_true]
    rw [State.event_unsent _ _ _ _ _ _ rfl rfl, State.event_unsent _ _ _ _ _ _ rfl rfl]
    rfl

/-- A port as it is at reset. -/
theorem LinkPort.reset_sound : ({} : LinkPort).Sound :=
  ⟨by decide, by decide, by decide, by decide, by decide, by decide, ⟨by decide, by decide⟩, ⟨by decide, by decide⟩,
    fun _ => ⟨rfl, rfl, rfl⟩⟩

/-- Settles O2: reset is one closed state, whose fields are read off. -/
theorem resetIsUnconfiguredPowerOn : Obligations.ResetIsUnconfiguredPowerOn := by
  refine ⟨⟨?_, ?_, rfl, rfl, ?_, ?_, rfl, rfl, rfl, ?_, rfl, rfl, rfl, rfl, rfl, rfl, rfl⟩, ⟨rfl, ?_⟩, ?_⟩
  · intro l; cases l <;> exact ⟨rfl, rfl⟩
  · decide +kernel
  · decide +kernel
  · decide +kernel
  · decide +kernel
  · exact ⟨rfl, rfl, rfl, by decide +kernel, LinkPort.reset_sound, LinkPort.reset_sound, by decide +kernel,
      by decide +kernel, by decide, by decide, by decide +kernel⟩
  · exact ⟨by decide, by decide, by decide⟩

theorem State.sees_iff (s : State) (e : Ether) : s.sees e = true ↔ e.good = true ∧ e.ptype = s.station 2 := by
  simp [State.sees, State.protocolType]

theorem FrameClass.received_iff (c : FrameClass) :
    c.received = true ↔ c ∈ [FrameClass.sample, .position, .genstatus, .ability, .time, .mgmtReq] := by
  cases c <;> simp [FrameClass.received]

theorem State.addressed_iff (s : State) (c : FrameClass) (h : Header) :
    s.addressed c h = true ↔ (h.dst = s.station 1 ∨ h.dst = 4095) ∧ h.src ≠ s.station 1 ∧
      c ∈ [FrameClass.sample, .position, .genstatus, .ability, .time, .mgmtReq] := by
  rw [← FrameClass.received_iff]
  simp [State.addressed, State.ownAddress, and_assoc]

/-- The verdict on a frame that passes the tests of R6 is that of its source's window. -/
theorem State.verdict_addressed (s : State) {c : FrameClass} {h : Header} (hs : s.sees h.eth = true)
    (ha : s.addressed c h = true) : s.verdict c h = if c = .sample then .taken else
      match s.window? h.src with
      | none => .ignored
      | some w => if c ∉ w.classes then .ignored else if (c, h.seq) ∈ w.pairs then .second else .taken := by
  unfold State.verdict
  cases c <;> simp [hs, ha] <;> rfl

/-- Settles O8: the first test, then those of R6, and then the window of the source decide, each in a case of its own. -/
theorem receptionTestsInOrder : Obligations.ReceptionTestsInOrder := by
  intro s c h seen passes window
  have hseen : s.sees h.eth = true ↔ seen := s.sees_iff h.eth
  have hpasses : (s.sees h.eth = true ∧ s.addressed c h = true) ↔ passes := by rw [hseen, s.addressed_iff]
  by_cases hs : s.sees h.eth = true
  · by_cases ha : s.addressed c h = true
    · have hp := hpasses.1 ⟨hs, ha⟩
      have hwindow : s.window? h.src = window := rfl
      rw [s.verdict_addressed hs ha, hwindow]
      simp only [hseen.1 hs, hp, true_and, not_true]
      by_cases hc : c = .sample
      · simp [hc]
      · cases window with
        | none => simp [hc]
        | some w =>
          by_cases hw : c ∈ w.classes <;> by_cases hm : (c, h.seq) ∈ w.pairs <;> simp [hc, hw, hm]
    · have hv : s.verdict c h = .ignored := by unfold State.verdict; simp [hs, ha]
      simp [hv, hseen.1 hs, mt hpasses.2 (fun x => ha x.2)]
  · have hv : s.verdict c h = .unseen := by unfold State.verdict; simp [hs]
    simp [hv, mt hseen.2 hs, mt hpasses.2 (fun x => hs x.1)]
end Sys2Proof.Machine

end

section
/-! # The work of an element at a closure -/

namespace Sys2Proof.Machine

/-- The states in which an element decides on the band of X (R58, R65). -/
def ElementState.decides (x : ElementState) : Prop := x = .armed ∨ x = .pickedUp ∨ x = .operated

/-- A deciding element takes the decision of the table of R70, or of R72 and R73. -/
theorem ElementRec.decideOn_eq (c : Settings) (i : ElementInput) (r : ElementRec) (h : r.state.decides) :
    r.decideOn c i = Clause.decision c i r := by
  unfold ElementRec.decideOn Clause.decision ElementRec.inverse ElementRec.definite ElementRec.definite.counted
  obtain h | h | h := h <;> by_cases ht : c.type = 1 <;> cases hb : bandOf c.type c.pickup i.x <;>
    simp [h, ht, Config.fullAccumulator]

/-- Stage 5 is the supervision of R65, then the decision. -/
theorem ElementRec.supervise_eq (c : Settings) (i : ElementInput) (r : ElementRec)
    (h : r.state.decides ∨ r.state = .blocked .supervision) : r.supervise c i = Clause.supervised c i r := by
  unfold ElementRec.supervise Clause.supervised
  by_cases hs : (c.type = 4 ∨ c.type = 5) ∧ i.q0 < c.supervision
  · simp [hs]
  · obtain h | h := h
    · have hb : r.state ≠ .blocked .supervision := by rintro e; simp [e, ElementState.decides] at h
      simp only [hb, if_false, if_neg hs]
      simpa [hs, hb] using ElementRec.decideOn_eq c i r h
    · simpa [hs, h] using ElementRec.decideOn_eq c i { r with state := .armed } (.inl rfl)

/-- What an enabled element that is not DISABLED does at a closure, stage 4 apart (R58, R60, R61). -/
theorem ElementRec.work_enabled {c : Settings} (bank : Bank) (i : ElementInput) {r : ElementRec} (hc : c.enabled = true)
    (hr : r.state ≠ .disabled) : r.work c bank i =
      if i.block then ({ r with bank := bank }).blockByPoint i.valid
      else if i.valid then ({ r with bank := bank }).onValid c i else ({ r with bank := bank }).onInvalid c i := by
  simp [ElementRec.work, hc, hr]

theorem banksEnableAndDisable : Clause.BanksEnableAndDisable := by
  intro c bank i r
  refine ⟨fun hc hr => ?_, fun hc hr => ?_, fun hc hr => ?_⟩
  · simp [ElementRec.work, ElementRec.disable, hc, hr]
  · simp [ElementRec.work, ElementRec.disable, hc, hr]
  · simp [ElementRec.work, ElementRec.startSettling, hc, hr]

/-- The settle count after one more closure with valid input, and the state that it gives (R66). -/
theorem ElementRec.settleStep_eq (r : ElementRec) : r.settleStep = { r with
    settle := min (r.settle + 1) 48, state := if 48 ≤ r.settle + 1 then .armed else .settling } := by
  have h : min (r.settle + 1) 48 = 48 ↔ 48 ≤ r.settle + 1 := by omega
  simp [ElementRec.settleStep, stepSettle, Config.windowLength, h]

theorem blockPointAndSettling : Clause.BlockPointAndSettling := by
  intro c bank i r hc hr
  refine ⟨fun hb => ?_, fun hb hv hs => ?_, fun hb hv hs => ?_⟩
  · simp [ElementRec.work_enabled bank i hc hr, hb, ElementRec.blockByPoint, stepSettle, Config.windowLength]
  · simp [ElementRec.work_enabled bank i hc hr, hb, hv, ElementRec.onValid, hs, ElementRec.settleStep_eq]
  · simp [ElementRec.work_enabled bank i hc hr, hb, hv, ElementRec.onInvalid, hs]

theorem validInputDecides : Clause.ValidInputDecides := by
  intro c bank i r hc hb hv
  refine ⟨fun hs hn => ?_, fun hs hn => ?_, fun hs => ?_⟩
  · have hr : r.state ≠ .disabled := by rintro e; simp [e] at hs
    rw [← ElementRec.supervise_eq c i _ (.inl (.inl rfl)), ElementRec.work_enabled bank i hc hr]
    obtain hs | hs := hs <;> simp [hb, hv, ElementRec.onValid, hs, hn, Config.windowLength]
  · have hr : r.state ≠ .disabled := by rintro e; simp [e] at hs
    have h48 : r.settle ≠ 48 := by omega
    have hmin : min (r.settle + 1) 48 = r.settle + 1 := by omega
    have hle : 48 ≤ r.settle + 1 ↔ r.settle + 1 = 48 := by omega
    rw [ElementRec.work_enabled bank i hc hr]
    obtain hs | hs := hs <;>
      simp [hb, hv, ElementRec.onValid, hs, h48, Config.windowLength, ElementRec.settleStep_eq, hmin, hle]
  · have hr : r.state ≠ .disabled := by rintro e; simp [e] at hs
    have hd : r.state.decides ∨ r.state = .blocked .supervision := by simpa [ElementState.decides, or_assoc] using hs
    rw [← ElementRec.supervise_eq c i { r with bank := bank, hold := 0 } hd, ElementRec.work_enabled bank i hc hr]
    obtain (hs | hs | hs) | hs := hd <;> simp [hb, hv, ElementRec.onValid, hs]

theorem invalidInputBlocksOrHolds : Clause.InvalidInputBlocksOrHolds := by
  intro c bank i r hc hb hv hr hset
  refine ⟨fun hh => ?_, fun hh hs => ?_, fun hh hs => ?_, fun hh hs => ?_⟩
  · simp [ElementRec.work_enabled bank i hc hr, hb, hv, ElementRec.onInvalid, hset, hh, ElementRec.blockByInput]
  · simp [ElementRec.work_enabled bank i hc hr, hb, hv, ElementRec.onInvalid, hh, ElementRec.onHold, hs]
  · simp [ElementRec.work_enabled bank i hc hr, hb, hv, ElementRec.onInvalid, hh, ElementRec.onHold, hs,
      ElementRec.endHold, ElementRec.blockByInput]
  · have hd : r.state.decides ∨ r.state = .blocked .supervision := by simpa [ElementState.decides, or_assoc] using hs
    rw [← ElementRec.supervise_eq c i { r with bank := bank, hold := r.hold + 1 } hd,
      ElementRec.work_enabled bank i hc hr]
    obtain (hs | hs | hs) | hs := hd <;>
      simp [hb, hv, ElementRec.onInvalid, hh, ElementRec.onHold, hs, ElementRec.endHold, ElementRec.blockByInput,
        Config.holdClosures]

/-- An element that decides on valid input and is not kept off by supervision takes its decision. -/
theorem ElementRec.work_decision {c : Settings} (bank : Bank) {i : ElementInput} {r : ElementRec}
    (hc : c.enabled = true) (hs : c.type = 4 ∨ c.type = 5 → c.supervision ≤ i.q0) (hb : i.block = false)
    (hv : i.valid = true) (hr : r.state.decides) :
    r.work c bank i = Clause.decision c i { r with bank := bank, hold := 0 } := by
  have hmem : r.state ∈ [.armed, .pickedUp, .operated, .blocked .supervision] := by
    obtain h | h | h := hr <;> simp [h]
  have hne : r.state ≠ .blocked .supervision := by rintro e; simp [e, ElementState.decides] at hr
  have hsup : ¬ ((c.type = 4 ∨ c.type = 5) ∧ i.q0 < c.supervision) := fun ⟨ht, hq⟩ => absurd (hs ht) (by omega)
  rw [(validInputDecides c bank i r hc hb hv).2.2 hmem]
  simp [Clause.supervised, hsup, hne]

theorem definiteTimeOperatesAfterItsDelay : Clause.DefiniteTimeOperatesAfterItsDelay := by
  intro c bank i r hc ht hs hb hv hp hr hd n
  -- the delay count after `n + 1` closures is `n`, up to the delay
  suffices h : (Nat.repeat (ElementRec.work c bank i) (n + 1) r).state =
      (if c.delay ≤ n then ElementState.operated else ElementState.pickedUp) ∧
      (n ≤ c.delay → (Nat.repeat (ElementRec.work c bank i) (n + 1) r).delay = n) from h.1
  induction n with
  | zero =>
    change (r.work c bank i).state = _ ∧ (0 ≤ c.delay → (r.work c bank i).delay = 0)
    rw [ElementRec.work_decision bank hc hs hb hv (.inl hr)]
    simp [Clause.decision, ht, hr, hp, hd]
  | succ n ih =>
    obtain ⟨ihs, ihd⟩ := ih
    change (ElementRec.work c bank i (Nat.repeat (ElementRec.work c bank i) (n + 1) r)).state = _ ∧
      (_ → (ElementRec.work c bank i (Nat.repeat (ElementRec.work c bank i) (n + 1) r)).delay = _)
    generalize Nat.repeat (ElementRec.work c bank i) (n + 1) r = x at ihs ihd ⊢
    by_cases hn : c.delay ≤ n
    · rw [if_pos hn] at ihs
      rw [ElementRec.work_decision bank hc hs hb hv (.inr (.inr ihs)), if_pos (by omega)]
      simp [Clause.decision, ht, ihs, hp]
      omega
    · rw [if_neg hn] at ihs
      rw [ElementRec.work_decision bank hc hs hb hv (.inr (.inl ihs))]
      have hlt : x.delay < c.delay := by rw [ihd (by omega)]; omega
      simp only [Clause.decision, decide_eq_false ht, ihs, hp, if_pos hlt]
      exact ⟨by rw [ihd (by omega)], fun _ => by rw [ihd (by omega)]⟩

theorem inverseTimeOperatesWhenFull : Clause.InverseTimeOperatesWhenFull := by
  intro c bank i r hc ht hb hv hp hr ha n
  have hs : c.type = 4 ∨ c.type = 5 → c.supervision ≤ i.q0 := by omega
  rw [← ht] at hp
  induction n with
  | zero =>
    change (r.work c bank i).accumulator = _ ∧ (r.work c bank i).state = _
    rw [ElementRec.work_decision bank hc hs hb hv (.inl hr)]
    have h : min i.increment 16777216 = 16777216 ↔ 16777216 ≤ i.increment := by omega
    rw [ht] at hp
    simp [Clause.decision, ht, hr, ha, h, hp]
  | succ n ih =>
    obtain ⟨iha, ihs⟩ := ih
    change (ElementRec.work c bank i (Nat.repeat (ElementRec.work c bank i) (n + 1) r)).accumulator = _ ∧
      (ElementRec.work c bank i (Nat.repeat (ElementRec.work c bank i) (n + 1) r)).state = _
    generalize Nat.repeat (ElementRec.work c bank i) (n + 1) r = x at iha ihs ⊢
    have hsum : (n + 1 + 1) * i.increment = (n + 1) * i.increment + i.increment := by ring
    rw [hsum]
    generalize (n + 1) * i.increment = a at iha ihs ⊢
    by_cases hn : 16777216 ≤ a
    · rw [if_pos hn] at ihs
      rw [ElementRec.work_decision bank hc hs hb hv (.inr (.inr ihs))]
      rw [ht] at hp
      simp only [Clause.decision, ht, decide_true, ihs, hp, iha]
      refine ⟨by omega, by rw [if_pos (by omega)]⟩
    · rw [if_neg hn] at ihs
      rw [ElementRec.work_decision bank hc hs hb hv (.inr (.inl ihs))]
      rw [ht] at hp
      have h : min (min a 16777216 + i.increment) 16777216 = 16777216 ↔ 16777216 ≤ a + i.increment := by omega
      simp only [Clause.decision, ht, decide_true, ihs, hp, iha, h]
      exact ⟨by omega, trivial⟩

/-- Settles O22: each stage of an element's work is one equation, and the two timed clauses are inductions over the closures. -/
theorem elementsOperateInTime : Obligations.ElementsOperateInTime :=
  ⟨banksEnableAndDisable, blockPointAndSettling, validInputDecides, invalidInputBlocksOrHolds,
    definiteTimeOperatesAfterItsDelay, inverseTimeOperatesWhenFull⟩

end Sys2Proof.Machine
end

section
/-! # The integer square root, the rounded quotient and the angle (R42, R44, 5.4) -/

namespace Sys2Proof.Machine

/-! ## The integer square root and the rounded quotient -/

/-- Bits tried from `k - 1` down leave the floor of the root, which lies within `2 ^ k` of `r`. -/
theorem sqrtBits_floor (n : Nat) : ∀ (k r : Nat), r * r ≤ n → n < (r + 2 ^ k) * (r + 2 ^ k) →
    sqrtBits n k r * sqrtBits n k r ≤ n ∧ n < (sqrtBits n k r + 1) * (sqrtBits n k r + 1)
  | 0, r, hlo, hhi => ⟨hlo, by simpa [sqrtBits] using hhi⟩
  | k + 1, r, hlo, hhi => by
    unfold sqrtBits
    have hpow : r + 2 ^ (k + 1) = r + 2 ^ k + 2 ^ k := by rw [pow_succ]; ring
    split
    next h => exact sqrtBits_floor n k _ h (hpow ▸ hhi)
    next h => exact sqrtBits_floor n k r hlo (by omega)

/-- The first bit tried stands above the root. -/
theorem lt_square_of_log2 (n : Nat) : n < 2 ^ (Nat.log2 n / 2 + 1) * 2 ^ (Nat.log2 n / 2 + 1) := by
  rw [← pow_add]
  exact Nat.lt_of_lt_of_le Nat.lt_log2_self (Nat.pow_le_pow_right (by omega) (by omega))

theorem squareRootIsTheFloor : Clause.SquareRootIsTheFloor := fun n =>
  sqrtBits_floor n _ 0 (by omega) (by simpa using lt_square_of_log2 n)

theorem divisionRoundsHalfAway : Clause.DivisionRoundsHalfAway := by
  intro n d hd
  have hq : (roundDiv n d).natAbs = (2 * n.natAbs + d) / (2 * d) := by
    unfold roundDiv
    split
    · exact Int.natAbs_natCast _
    · rw [Int.natAbs_neg]; exact Int.natAbs_natCast _
  have hmod := Nat.div_add_mod (2 * n.natAbs + d) (2 * d)
  have hlt := Nat.mod_lt (2 * n.natAbs + d) (show 2 * d > 0 by omega)
  have hmul : 2 * d * ((2 * n.natAbs + d) / (2 * d) + 1) = 2 * d * ((2 * n.natAbs + d) / (2 * d)) + 2 * d := by ring
  refine ⟨?_, ?_, fun h => ?_, fun h => ?_⟩
  · rw [hq]; exact_mod_cast (by omega : 2 * d * ((2 * n.natAbs + d) / (2 * d)) ≤ 2 * n.natAbs + d)
  · rw [hq]; exact_mod_cast (by omega : 2 * n.natAbs + d < 2 * d * ((2 * n.natAbs + d) / (2 * d) + 1))
  · rw [roundDiv, if_pos (by omega)]; exact Int.natCast_nonneg _
  · rw [roundDiv, if_neg (by omega)]; omega

/-! ## Euler's series for the arctangent -/

/-- The coefficients of Euler's series: each is the one before times (2n + 2) / (2n + 3). -/
noncomputable def eulerCoefficient : Nat → ℝ
  | 0 => 1
  | n + 1 => eulerCoefficient n * ((2 * n + 2) / (2 * n + 3))

theorem eulerCoefficient_bounds (n : Nat) : 0 ≤ eulerCoefficient n ∧ eulerCoefficient n ≤ 1 := by
  induction n with
  | zero => simp [eulerCoefficient]
  | succ n ih =>
    obtain ⟨h0, h1⟩ := ih
    have hq : (2 * (n : ℝ) + 2) / (2 * n + 3) ≤ 1 := by rw [div_le_one (by positivity)]; linarith
    exact ⟨mul_nonneg h0 (by positivity), mul_le_one₀ h1 (by positivity) hq⟩

/-- The power part of term `n`: t²ⁿ⁺¹ / (1 + t²)ⁿ⁺¹. -/
noncomputable def eulerPower (n : Nat) (t : ℝ) : ℝ := (t ^ 2 / (1 + t ^ 2)) ^ n * (t / (1 + t ^ 2))

/-- The first `N` terms of Euler's series for arctan `t`. -/
noncomputable def eulerSum (N : Nat) (t : ℝ) : ℝ := ∑ n ∈ Finset.range N, eulerCoefficient n * eulerPower n t

theorem hasDerivAt_eulerPower (n : Nat) (t : ℝ) : HasDerivAt (eulerPower n)
    (((2 * n + 1) * (t ^ 2 / (1 + t ^ 2)) ^ n - (2 * n + 2) * (t ^ 2 / (1 + t ^ 2)) ^ (n + 1)) / (1 + t ^ 2)) t := by
  have hpos : (1 + t ^ 2) ≠ 0 := by positivity
  have hden : HasDerivAt (fun x : ℝ => 1 + x ^ 2) (2 * t) t := by
    simpa using (hasDerivAt_pow 2 t).const_add 1
  have hw : HasDerivAt (fun x : ℝ => x ^ 2 / (1 + x ^ 2)) (2 * t / (1 + t ^ 2) ^ 2) t := by
    refine ((hasDerivAt_pow 2 t).fun_div hden hpos).congr_deriv ?_
    field_simp
    ring
  induction n with
  | zero =>
    have heq : eulerPower 0 = fun x => x / (1 + x ^ 2) := by funext x; simp [eulerPower]
    rw [heq]
    refine ((hasDerivAt_id' t).fun_div hden hpos).congr_deriv ?_
    push_cast
    field_simp
    ring
  | succ n ih =>
    have heq : eulerPower (n + 1) = fun x => x ^ 2 / (1 + x ^ 2) * eulerPower n x := by
      funext x; simp only [eulerPower, pow_succ]; ring
    rw [heq]
    refine (hw.fun_mul ih).congr_deriv ?_
    simp only [eulerPower, pow_succ]
    generalize (t ^ 2 / (1 + t ^ 2)) ^ n = p
    push_cast
    field_simp
    ring

/-- The derivatives of the terms telescope: what the sum of `N + 1` terms lacks of 1 / (1 + t²). -/
theorem hasDerivAt_eulerSum (N : Nat) (t : ℝ) : HasDerivAt (eulerSum (N + 1))
    ((1 - eulerCoefficient N * (2 * N + 2) * (t ^ 2 / (1 + t ^ 2)) ^ (N + 1)) / (1 + t ^ 2)) t := by
  induction N with
  | zero =>
    have heq : eulerSum (0 + 1) = fun x => eulerCoefficient 0 * eulerPower 0 x := by
      funext x; simp [eulerSum]
    rw [heq]
    refine ((hasDerivAt_eulerPower 0 t).const_mul (eulerCoefficient 0)).congr_deriv ?_
    simp [eulerCoefficient]
  | succ N ih =>
    have heq : eulerSum (N + 1 + 1) = eulerSum (N + 1) + fun x => eulerCoefficient (N + 1) * eulerPower (N + 1) x := by
      funext x; simp only [eulerSum, Finset.sum_range_succ, Pi.add_apply]
    rw [heq]
    refine (ih.add ((hasDerivAt_eulerPower (N + 1) t).const_mul (eulerCoefficient (N + 1)))).congr_deriv ?_
    have hc : eulerCoefficient (N + 1) * (2 * N + 3) = eulerCoefficient N * (2 * N + 2) := by
      rw [eulerCoefficient]; field_simp
    push_cast
    rw [← hc]
    ring

/-- On [0, 1] the sum of `N + 1` terms lies below the arctangent by (2N + 2) / 2ᴺ⁺¹ at most. -/
theorem eulerSum_near_arctan (N : Nat) {t : ℝ} (h0 : 0 ≤ t) (h1 : t ≤ 1) :
    eulerSum (N + 1) t ≤ Real.arctan t ∧ Real.arctan t - eulerSum (N + 1) t ≤ (2 * N + 2) / 2 ^ (N + 1) := by
  have hd : ∀ x : ℝ, HasDerivAt (fun x => Real.arctan x - eulerSum (N + 1) x)
      (eulerCoefficient N * (2 * N + 2) * (x ^ 2 / (1 + x ^ 2)) ^ (N + 1) / (1 + x ^ 2)) x := by
    intro x
    exact ((Real.hasDerivAt_arctan x).fun_sub (hasDerivAt_eulerSum N x)).congr_deriv (by ring)
  have hzero : eulerSum (N + 1) 0 = 0 := by simp [eulerSum, eulerPower]
  obtain ⟨hc0, hc1⟩ := eulerCoefficient_bounds N
  have hmono := monotone_of_deriv_nonneg (fun x => (hd x).differentiableAt)
    (fun x => by rw [(hd x).deriv]; positivity) h0
  have hbound : ∀ x ∈ interior (Set.Icc (0 : ℝ) 1), deriv (fun x => Real.arctan x - eulerSum (N + 1) x) x ≤
      (2 * N + 2) / 2 ^ (N + 1) := by
    intro x hx
    rw [interior_Icc] at hx
    obtain ⟨hx0, hx1⟩ := hx
    rw [(hd x).deriv]
    have hw : x ^ 2 / (1 + x ^ 2) ≤ 1 / 2 := by
      rw [div_le_div_iff₀ (by positivity) (by norm_num)]; nlinarith
    have hwp : (x ^ 2 / (1 + x ^ 2)) ^ (N + 1) ≤ (1 / 2) ^ (N + 1) := pow_le_pow_left₀ (by positivity) hw _
    calc eulerCoefficient N * (2 * (N : ℝ) + 2) * (x ^ 2 / (1 + x ^ 2)) ^ (N + 1) / (1 + x ^ 2)
        ≤ eulerCoefficient N * (2 * (N : ℝ) + 2) * (x ^ 2 / (1 + x ^ 2)) ^ (N + 1) :=
          div_le_self (by positivity) (by nlinarith)
      _ ≤ 1 * (2 * (N : ℝ) + 2) * (1 / 2) ^ (N + 1) := by gcongr
      _ = (2 * (N : ℝ) + 2) / 2 ^ (N + 1) := by rw [one_div, inv_pow]; ring
  have hup := Convex.image_sub_le_mul_sub_of_deriv_le (convex_Icc (0 : ℝ) 1)
    (fun x _ => (hd x).continuousAt.continuousWithinAt) (fun x _ => (hd x).differentiableAt.differentiableWithinAt)
    hbound 0 ⟨le_rfl, zero_le_one⟩ t ⟨h0, h1⟩ h0
  simp only [Real.arctan_zero, hzero, sub_zero, sub_self] at hmono hup
  refine ⟨by linarith, hup.trans ?_⟩
  exact mul_le_of_le_one_right (by positivity) h1

/-! ## The fixed-point arctangent -/

/-- The terms that `atanTerms` sums, without its floors, from the term `τ` before. -/
noncomputable def realTerms (w : ℝ) : Nat → Nat → ℝ → ℝ
  | 0, _, _ => 0
  | fuel + 1, n, τ => τ * (2 * n / (2 * n + 1) * w) + realTerms w fuel (n + 1) (τ * (2 * n / (2 * n + 1) * w))

/-- Each floor takes at most 2 from its term, since a term is at most half of the one before. -/
theorem atanTerms_near {x y : Nat} (hxy : x ≤ y) (hy : 0 < y) : ∀ (fuel n t : Nat) (τ : ℝ), t ≤ τ → τ ≤ t + 2 →
    (atanTerms x y fuel n t : ℝ) ≤ realTerms ((x : ℝ) ^ 2 / (x ^ 2 + y ^ 2)) fuel n τ ∧
      realTerms ((x : ℝ) ^ 2 / (x ^ 2 + y ^ 2)) fuel n τ ≤ atanTerms x y fuel n t + 2 * fuel
  | 0, _, _, _, _, _ => by simp [atanTerms, realTerms]
  | fuel + 1, n, t, τ, hlo, hhi => by
    have hx : (x : ℝ) ≤ y := by exact_mod_cast hxy
    have hy' : (0 : ℝ) < y := by exact_mod_cast hy
    have hx0 : (0 : ℝ) ≤ x := Nat.cast_nonneg x
    have hn : (0 : ℝ) ≤ n := Nat.cast_nonneg n
    set w : ℝ := (x : ℝ) ^ 2 / (x ^ 2 + y ^ 2) with hw
    have hw0 : 0 ≤ w := by positivity
    have hwh : w ≤ 1 / 2 := by
      rw [hw, div_le_div_iff₀ (by positivity) (by norm_num)]; nlinarith
    set ρ : ℝ := 2 * n / (2 * n + 1) * w with hρ
    have hρ0 : 0 ≤ ρ := by positivity
    have hρh : ρ ≤ 1 / 2 := by
      have : 2 * (n : ℝ) / (2 * n + 1) ≤ 1 := by rw [div_le_one (by positivity)]; linarith
      calc ρ ≤ 1 * w := by rw [hρ]; gcongr
        _ ≤ 1 / 2 := by linarith
    set u : Nat := t * (2 * n * (x * x)) / ((2 * n + 1) * (x * x + y * y)) with hu
    have hquot : (t : ℝ) * ρ = (t * (2 * n * (x * x)) : Nat) / ((2 * n + 1) * (x * x + y * y) : Nat) := by
      rw [hρ, hw]; push_cast; field_simp
    have hlo' : (u : ℝ) ≤ t * ρ := by rw [hquot]; exact Nat.cast_div_le
    have hhi' : (t : ℝ) * ρ < u + 1 := by
      rw [hquot, div_lt_iff₀ (by positivity)]
      have h := Nat.lt_div_mul_add (a := t * (2 * n * (x * x))) (b := (2 * n + 1) * (x * x + y * y)) (by positivity)
      rw [← hu] at h
      have h' : (t * (2 * n * (x * x)) : Nat) < (u + 1) * ((2 * n + 1) * (x * x + y * y)) := by
        rw [add_mul, one_mul]; exact h
      exact_mod_cast h'
    have ih := atanTerms_near hxy hy fuel (n + 1) u (τ * ρ) (by nlinarith) (by nlinarith)
    obtain ⟨ihlo, ihhi⟩ := ih
    have hstep : (atanTerms x y (fuel + 1) n t : ℝ) = u + atanTerms x y fuel (n + 1) u := by
      rw [atanTerms]; push_cast; rfl
    have hreal : realTerms w (fuel + 1) n τ = τ * ρ + realTerms w fuel (n + 1) (τ * ρ) := rfl
    rw [hstep, hreal]
    push_cast
    constructor <;> nlinarith

/-- The unrounded terms are those of Euler's series. -/
theorem realTerms_eq (t : ℝ) (scale : ℝ) : ∀ fuel n : Nat,
    realTerms (t ^ 2 / (1 + t ^ 2)) fuel (n + 1) (scale * (eulerCoefficient n * eulerPower n t)) =
      scale * (eulerSum (n + 1 + fuel) t - eulerSum (n + 1) t)
  | 0, n => by simp [realTerms]
  | fuel + 1, n => by
    have hterm : scale * (eulerCoefficient n * eulerPower n t) *
        (2 * ((n + 1 : Nat) : ℝ) / (2 * ((n + 1 : Nat) : ℝ) + 1) * (t ^ 2 / (1 + t ^ 2))) =
        scale * (eulerCoefficient (n + 1) * eulerPower (n + 1) t) := by
      simp only [eulerCoefficient, eulerPower, pow_succ]
      generalize (t ^ 2 / (1 + t ^ 2)) ^ n = p
      push_cast
      field_simp
      ring
    rw [realTerms, hterm, realTerms_eq t scale fuel (n + 1),
      show n + 1 + 1 + fuel = n + 1 + (fuel + 1) by omega]
    have hs : eulerSum (n + 1 + 1) t = eulerSum (n + 1) t + eulerCoefficient (n + 1) * eulerPower (n + 1) t := by
      simp only [eulerSum, Finset.sum_range_succ]
    rw [hs]
    ring

/-- The fixed-point arctangent lies below the scaled arctangent by less than 444. -/
theorem atanFixed_near {x y : Nat} (hxy : x ≤ y) (hy : 0 < y) :
    (atanFixed x y : ℝ) ≤ 2 ^ 200 * Real.arctan (x / y) ∧
      2 ^ 200 * Real.arctan (x / y) ≤ atanFixed x y + 444 := by
  have hx : (x : ℝ) ≤ y := by exact_mod_cast hxy
  have hy' : (0 : ℝ) < y := by exact_mod_cast hy
  set t : ℝ := (x : ℝ) / y with ht
  have hw : t ^ 2 / (1 + t ^ 2) = (x : ℝ) ^ 2 / (x ^ 2 + y ^ 2) := by
    rw [ht]; field_simp; ring
  set t₀ : Nat := x * y * atanScale / (x * x + y * y) with ht₀
  have hfirst : (2 : ℝ) ^ 200 * (eulerCoefficient 0 * eulerPower 0 t) =
      (x * y * atanScale : Nat) / (x * x + y * y : Nat) := by
    rw [eulerCoefficient, eulerPower, ht, atanScale]; push_cast; field_simp; ring
  have hlo : (t₀ : ℝ) ≤ 2 ^ 200 * (eulerCoefficient 0 * eulerPower 0 t) := by
    rw [hfirst]; exact Nat.cast_div_le
  have hhi : (2 : ℝ) ^ 200 * (eulerCoefficient 0 * eulerPower 0 t) ≤ t₀ + 1 := by
    rw [hfirst, div_le_iff₀ (by positivity)]
    have h := Nat.lt_div_mul_add (a := x * y * atanScale) (b := x * x + y * y) (by positivity)
    rw [← ht₀] at h
    have h' : (x * y * atanScale : Nat) ≤ (t₀ + 1) * (x * x + y * y) := by rw [add_mul, one_mul]; exact h.le
    exact_mod_cast h'
  have hterms := atanTerms_near hxy hy 220 1 t₀ _ hlo (by linarith)
  rw [← hw, realTerms_eq t (2 ^ 200) 220 0] at hterms
  have hone : eulerSum (0 + 1) t = eulerCoefficient 0 * eulerPower 0 t := by simp [eulerSum]
  rw [hone] at hterms
  obtain ⟨htlo, hthi⟩ := hterms
  obtain ⟨halo, hahi⟩ := eulerSum_near_arctan 220 (t := t) (by positivity) ((div_le_one hy').2 hx)
  have hfix : (atanFixed x y : ℝ) = t₀ + atanTerms x y 220 1 t₀ := by
    rw [atanFixed]; push_cast; rfl
  rw [hfix]
  have htail : ((2 : ℝ) ^ 200) * ((2 * ((220 : Nat) : ℝ) + 2) / 2 ^ (220 + 1)) ≤ 1 := by norm_num
  have hscale : (2 : ℝ) ^ 200 * (Real.arctan t - eulerSum (220 + 1) t) ≤ 1 :=
    (mul_le_mul_of_nonneg_left hahi (by positivity)).trans htail
  have hbelow : (2 : ℝ) ^ 200 * eulerSum (220 + 1) t ≤ 2 ^ 200 * Real.arctan t :=
    mul_le_mul_of_nonneg_left halo (by positivity)
  rw [show 0 + 1 + 220 = 220 + 1 from rfl] at htlo hthi
  rw [mul_sub] at htlo hthi hscale
  have hcount : (2 : ℝ) * ((220 : Nat) : ℝ) = 440 := by norm_num
  rw [hcount] at hthi
  constructor <;> linarith

/-! ## The angle of R44 -/

/-- A quotient rounded to the nearest is within a half of it. -/
theorem round_near (a b : Nat) (hb : 0 < b) :
    abs ((((2 * 4500 * a + b) / (2 * b) : Nat) : ℝ) - 4500 * a / b) ≤ 1 / 2 := by
  have hb' : (0 : ℝ) < b := by exact_mod_cast hb
  set q := (2 * 4500 * a + b) / (2 * b) with hq
  have hlow : q * (2 * b) ≤ 2 * 4500 * a + b := Nat.div_mul_le_self _ _
  have hhigh : 2 * 4500 * a + b ≤ (q + 1) * (2 * b) := by
    rw [add_mul, one_mul]
    exact (Nat.lt_div_mul_add (a := 2 * 4500 * a + b) (by omega)).le
  clear_value q
  have hlow' : (q : ℝ) * (2 * b) ≤ 2 * 4500 * a + b := by exact_mod_cast hlow
  have hhigh' : 2 * 4500 * (a : ℝ) + b ≤ (q + 1) * (2 * b) := by exact_mod_cast hhigh
  have hcancel : 4500 * (a : ℝ) / b * b = 4500 * a := by field_simp
  rw [abs_le]
  constructor <;> nlinarith

/-- The octant's angle is within a half, and much less than 2⁻¹⁰⁰ more, of the arctangent in hundredths of a degree. -/
theorem octantAngle_near {x y : Nat} (hxy : x ≤ y) (hy : 0 < y) :
    abs ((octantAngle x y : ℝ) - Real.arctan (x / y) * 18000 / Real.pi) ≤ 1 / 2 + 1 / 2 ^ 100 := by
  obtain ⟨hlo, hhi⟩ := atanFixed_near hxy hy
  obtain ⟨qlo, qhi⟩ := atanFixed_near (le_refl 1) one_pos
  rw [Nat.cast_one, div_one, Real.arctan_one] at qlo qhi
  have hx : (x : ℝ) ≤ y := by exact_mod_cast hxy
  have hy' : (0 : ℝ) < y := by exact_mod_cast hy
  have hθ : Real.arctan (x / y) ≤ Real.pi / 4 := by
    rw [← Real.arctan_one]; exact Real.arctan_strictMono.monotone ((div_le_one hy').2 hx)
  have hθ0 : 0 ≤ Real.arctan (x / y) := Real.arctan_nonneg.2 (by positivity)
  have hπ := Real.pi_gt_three
  unfold octantAngle
  generalize atanFixed x y = a at *
  generalize atanFixed 1 1 = b at *
  generalize Real.arctan (x / y) = θ at *
  have hBbig : (2 : ℝ) ^ 198 ≤ b := by
    have h444 : (444 : ℝ) ≤ 2 ^ 198 := by norm_num
    have hsplit : (2 : ℝ) ^ 200 = 4 * 2 ^ 198 := by norm_num
    nlinarith
  have hBpos : (0 : ℝ) < b := lt_of_lt_of_le (by positivity) hBbig
  have hround := round_near a b (by exact_mod_cast hBpos)
  generalize (((2 * 4500 * a + b) / (2 * b) : Nat) : ℝ) = q at *
  have hA0 : (0 : ℝ) ≤ a := Nat.cast_nonneg a
  generalize (a : ℝ) = A at *
  generalize (b : ℝ) = B at *
  -- the quotient of the two fixed-point arctangents
  have hquot : abs (4500 * A / B - θ * 18000 / Real.pi) ≤ 1 / 2 ^ 100 := by
    have heq : 4500 * A / B - θ * 18000 / Real.pi = (4500 * (A * Real.pi) - 18000 * (θ * B)) / (B * Real.pi) := by
      field_simp
    have hBπ : 0 < B * Real.pi := by positivity
    have hbig : (2 : ℝ) ^ 198 ≤ B * Real.pi := hBbig.trans (le_mul_of_one_le_right hBpos.le (by linarith))
    have hπ4 : Real.pi ≤ 4 := Real.pi_le_four
    have hnum : abs (4500 * (A * Real.pi) - 18000 * (θ * B)) ≤ 2 ^ 40 := by
      rw [abs_le]
      constructor <;> nlinarith [mul_nonneg hθ0 hBpos.le]
    rw [heq, abs_div, abs_of_pos hBπ, div_le_div_iff₀ hBπ (by positivity)]
    calc _ ≤ (2 : ℝ) ^ 40 * 2 ^ 100 := by gcongr
      _ ≤ 2 ^ 198 := by norm_num
      _ ≤ 1 * (B * Real.pi) := by linarith
  calc _ ≤ abs (q - 4500 * A / B) + abs (4500 * A / B - θ * 18000 / Real.pi) :=
        abs_sub_le _ _ _
    _ ≤ _ := add_le_add hround hquot

/-- The angle within the first quadrant, of the point (y, x). -/
def quadrantAngle (x y : Nat) : Nat := if x ≤ y then octantAngle x y else 9000 - octantAngle y x

/-- An octant's angle is 45 degrees at most. -/
theorem octantAngle_le {x y : Nat} (hxy : x ≤ y) (hy : 0 < y) : octantAngle x y ≤ 4500 := by
  have h := octantAngle_near hxy hy
  have hx : (x : ℝ) ≤ y := by exact_mod_cast hxy
  have hy' : (0 : ℝ) < y := by exact_mod_cast hy
  have hθ : Real.arctan (x / y) ≤ Real.pi / 4 := by
    rw [← Real.arctan_one]; exact Real.arctan_strictMono.monotone ((div_le_one hy').2 hx)
  have hturn : Real.arctan (x / y) * 18000 / Real.pi ≤ 4500 := by
    rw [div_le_iff₀ Real.pi_pos]; linarith
  have hlt : (octantAngle x y : ℝ) < 4501 := by
    have hs : (1 : ℝ) / 2 + 1 / 2 ^ 100 < 1 := by norm_num
    linarith [(abs_le.1 h).2]
  have : octantAngle x y < 4501 := by exact_mod_cast hlt
  omega

theorem quadrantAngle_le {x y : Nat} (h : x ≠ 0 ∨ y ≠ 0) : quadrantAngle x y ≤ 9000 := by
  unfold quadrantAngle
  split
  next hxy => exact (octantAngle_le hxy (by omega)).trans (by omega)
  next => omega

/-- The first quadrant's angle is near that of the point, which it names with its distance from the origin. -/
theorem quadrantAngle_near {x y : Nat} (h : x ≠ 0 ∨ y ≠ 0) : ∃ φ ρ : ℝ, 0 ≤ φ ∧ φ ≤ Real.pi / 2 ∧ 0 < ρ ∧
    (y : ℝ) = ρ * Real.cos φ ∧ (x : ℝ) = ρ * Real.sin φ ∧
    abs ((quadrantAngle x y : ℝ) - φ * 18000 / Real.pi) ≤ 1 / 2 + 1 / 2 ^ 100 := by
  have hroot : ∀ {a b : ℝ}, 0 < b → b = b * Real.sqrt (1 + (a / b) ^ 2) * Real.cos (Real.arctan (a / b)) ∧
      a = b * Real.sqrt (1 + (a / b) ^ 2) * Real.sin (Real.arctan (a / b)) := by
    intro a b hb
    have hs : Real.sqrt (1 + (a / b) ^ 2) ≠ 0 := by positivity
    rw [Real.cos_arctan, Real.sin_arctan]
    constructor <;> field_simp
  unfold quadrantAngle
  split
  next hxy =>
    have hy : 0 < y := by omega
    have hy' : (0 : ℝ) < y := by exact_mod_cast hy
    obtain ⟨hcos, hsin⟩ := hroot (a := x) hy'
    exact ⟨_, _, Real.arctan_nonneg.2 (by positivity), (Real.arctan_lt_pi_div_two _).le, by positivity, hcos, hsin,
      octantAngle_near hxy hy⟩
  next hxy =>
    have hx : 0 < x := by omega
    have hx' : (0 : ℝ) < x := by exact_mod_cast hx
    obtain ⟨hcos, hsin⟩ := hroot (a := y) hx'
    have hnear := octantAngle_near (x := y) (y := x) (by omega) hx
    have hle := octantAngle_le (x := y) (y := x) (by omega) hx
    have h0 : 0 ≤ Real.arctan (y / x) := Real.arctan_nonneg.2 (by positivity)
    refine ⟨Real.pi / 2 - Real.arctan (y / x), x * Real.sqrt (1 + (y / x) ^ 2),
      by linarith [Real.arctan_lt_pi_div_two ((y : ℝ) / x)], by linarith, ?_, ?_, ?_, ?_⟩
    · positivity
    · rw [Real.cos_pi_div_two_sub]; exact hsin
    · rw [Real.sin_pi_div_two_sub]; exact hcos
    · rw [Nat.cast_sub (by omega), abs_sub_comm]
      have hπ := Real.pi_pos
      convert hnear using 2
      push_cast
      field_simp
      ring

/-- The turn from the positive real axis, up to a half turn, by the signs of the products. -/
def turnOf (dot cross : Int) : Nat :=
  if dot < 0 then 18000 - quadrantAngle cross.natAbs dot.natAbs else quadrantAngle cross.natAbs dot.natAbs

/-- With a product that is not 0 the angle is the turn, with the sign of the cross product, and a half turn -18000. -/
theorem angleOf_eq {dot cross : Int} (h : dot ≠ 0 ∨ cross ≠ 0) : angleOf dot cross =
    if cross < 0 then -(turnOf dot cross : Int) else if turnOf dot cross = 18000 then -18000 else turnOf dot cross := by
  have hxy : ¬ (cross.natAbs = 0 ∧ dot.natAbs = 0) := by omega
  simp only [angleOf, turnOf, quadrantAngle, Bool.and_eq_true, beq_iff_eq, if_neg hxy]
  rfl

theorem turnOf_le {dot cross : Int} (h : dot ≠ 0 ∨ cross ≠ 0) : turnOf dot cross ≤ 18000 := by
  have hq := quadrantAngle_le (x := cross.natAbs) (y := dot.natAbs) (by omega)
  unfold turnOf
  split <;> omega

/-- The turn is near the angle of the point (dot, |cross|) of the upper half plane. -/
theorem turnOf_near {dot cross : Int} (h : dot ≠ 0 ∨ cross ≠ 0) : ∃ ψ ρ : ℝ, 0 ≤ ψ ∧ ψ ≤ Real.pi ∧ 0 < ρ ∧
    (dot : ℝ) = ρ * Real.cos ψ ∧ |(cross : ℝ)| = ρ * Real.sin ψ ∧
    abs ((turnOf dot cross : ℝ) - ψ * 18000 / Real.pi) ≤ 1 / 2 + 1 / 2 ^ 100 := by
  have hxy : cross.natAbs ≠ 0 ∨ dot.natAbs ≠ 0 := by omega
  obtain ⟨φ, ρ, h0, hhalf, hρ, hcos, hsin, hnear⟩ := quadrantAngle_near hxy
  have hπ := Real.pi_pos
  rw [Nat.cast_natAbs, Int.cast_abs] at hcos hsin
  unfold turnOf
  split
  next hd =>
    have hd' : (dot : ℝ) < 0 := by exact_mod_cast hd
    rw [abs_of_neg hd'] at hcos
    refine ⟨Real.pi - φ, ρ, by linarith, by linarith, hρ, ?_, ?_, ?_⟩
    · rw [Real.cos_pi_sub]; linarith
    · rw [Real.sin_pi_sub]; exact hsin
    · rw [Nat.cast_sub ((quadrantAngle_le hxy).trans (by omega)), abs_sub_comm]
      convert hnear using 2
      push_cast
      field_simp
      ring
  next hd =>
    have hd' : (0 : ℝ) ≤ dot := by exact_mod_cast (not_lt.1 hd)
    rw [abs_of_nonneg hd'] at hcos
    exact ⟨φ, ρ, h0, by linarith, hρ, hcos, hsin, hnear⟩

/-- The octant's angle of a point on the axis is 0. -/
theorem octantAngle_zero {y : Nat} : octantAngle 0 y = 0 := by
  have hterms : ∀ fuel n, atanTerms 0 y fuel n 0 = 0 := by
    intro fuel
    induction fuel with
    | zero => intro n; rfl
    | succ fuel ih => intro n; rw [atanTerms]; simp [ih]
  have hzero : atanFixed 0 y = 0 := by simp [atanFixed, hterms]
  have hpos : 0 < atanFixed 1 1 := by decide +kernel
  rw [octantAngle, hzero, Nat.div_eq_zero_iff]
  omega

/-- The angle of a point on the real axis: no turn, or a half turn. -/
theorem turnOf_real (dot : Int) : turnOf dot 0 = if dot < 0 then 18000 else 0 := by
  simp [turnOf, quadrantAngle, octantAngle_zero]

/-- What the angle's rounding error comes to, for the argument of the products' complex number. -/
theorem angleOf_near {dot cross : Int} (h : dot ≠ 0 ∨ cross ≠ 0) : ∃ turn : Int,
    (turn = angleOf dot cross ∨ (angleOf dot cross = -18000 ∧ turn = 18000)) ∧
      abs ((turn : ℝ) - Complex.arg ⟨dot, cross⟩ * 18000 / Real.pi) ≤ 1 / 2 + 1 / 2 ^ 100 := by
  obtain ⟨ψ, ρ, h0, hhalf, hρ, hcos, hsin, hnear⟩ := turnOf_near h
  have hπ := Real.pi_pos
  have harg : ∀ θ : ℝ, -Real.pi < θ → θ ≤ Real.pi → (dot : ℝ) = ρ * Real.cos θ → (cross : ℝ) = ρ * Real.sin θ →
      Complex.arg ⟨dot, cross⟩ = θ := by
    intro θ hlo hhi hd hc
    have hz : (⟨dot, cross⟩ : ℂ) = ρ * (Complex.cos θ + Complex.sin θ * Complex.I) := by
      apply Complex.ext
      · simp [← Complex.ofReal_cos, ← Complex.ofReal_sin, hd]
      · simp [← Complex.ofReal_cos, ← Complex.ofReal_sin, hc]
    rw [hz, Complex.arg_mul_cos_add_sin_mul_I hρ ⟨hlo, hhi⟩]
  rw [angleOf_eq h]
  by_cases hc : cross < 0
  · have hc' : (cross : ℝ) < 0 := by exact_mod_cast hc
    rw [abs_of_neg hc'] at hsin
    have hlt : ψ < Real.pi := by
      refine lt_of_le_of_ne hhalf fun e => ?_
      rw [e, Real.sin_pi, mul_zero] at hsin
      linarith
    refine ⟨_, .inl rfl, ?_⟩
    rw [if_pos hc, harg (-ψ) (by linarith) (by linarith) (by rw [Real.cos_neg]; exact hcos)
      (by rw [Real.sin_neg]; linarith), abs_sub_comm]
    convert hnear using 2
    push_cast
    ring
  · have hc' : (0 : ℝ) ≤ cross := by exact_mod_cast (not_lt.1 hc)
    rw [abs_of_nonneg hc'] at hsin
    refine ⟨turnOf dot cross, ?_, ?_⟩
    · rw [if_neg hc]
      split
      next ht => exact .inr ⟨rfl, by rw [ht]; rfl⟩
      next => exact .inl rfl
    · rw [harg ψ (by linarith) hhalf hcos hsin]
      exact_mod_cast hnear

theorem anglesAreTrue : Clause.AnglesAreTrue := by
  intro g b
  unfold Clause.IsAngle angleBetween
  generalize g.re * b.re + g.im * b.im = dot
  generalize g.im * b.re - g.re * b.im = cross
  by_cases h : dot ≠ 0 ∨ cross ≠ 0
  · have hle := turnOf_le h
    have hval := angleOf_eq h
    refine ⟨?_, ?_, fun hd hc => absurd h (by omega), fun hc hd => ?_, fun hc hd => ?_, fun _ => angleOf_near h⟩
    · rw [hval]; split <;> [omega; (split <;> omega)]
    · rw [hval]; split <;> [omega; (split <;> omega)]
    · rw [hval, hc, turnOf_real, if_neg (by omega : ¬ dot < 0)]; rfl
    · rw [hval, hc, turnOf_real, if_pos hd]; rfl
  · obtain ⟨hd, hc⟩ : dot = 0 ∧ cross = 0 := by omega
    subst hd hc
    have hzero : angleOf 0 0 = 0 := by decide
    rw [hzero]
    refine ⟨by omega, by omega, fun _ _ => rfl, fun _ _ => rfl, fun _ hd => absurd hd (by omega), fun hne => ?_⟩
    exact absurd hne (by simp)

/-- Settles O19: the root bit by bit, the quotient by the division's remainder, and the angle by Euler's series for the
arctangent, whose fixed-point sum is near enough to keep the rounding. -/
theorem rootsAndQuotientsAreNearest : Obligations.RootsAndQuotientsAreNearest :=
  ⟨squareRootIsTheFloor, divisionRoundsHalfAway, anglesAreTrue⟩


end Sys2Proof.Machine
end

section
/-! # The quality of a quantity at a closure (R31, R32) -/

namespace Sys2Proof.Machine

/-- An INVALID quantity stays so while its samples are missing (R31). -/
theorem closeQuantity_invalid {q : Quantity} (k : Nat) (h : q.condition = .invalid) :
    (closeQuantity none q k).condition = .invalid := by
  simp [closeQuantity, Quantity.miss, Quantity.count, h]

/-- Settles O18: by the cases of the quantity's condition, and by induction over the further closures. -/
theorem quantityFollowsItsSamples : Obligations.QuantityFollowsItsSamples := by
  intro q k
  refine ⟨fun d hd => ?_, fun d hd => ?_, fun hf => ?_⟩
  · have h1 : (qualityOf d.quality k == 1) = decide (qualityOf d.quality k = 1) := rfl
    simp [closeQuantity, hd, Quantity.take, Quantity.count, Config.windowLength, h1]
  · simp [closeQuantity, Nat.not_lt.2 hd]
  · have hone : closeQuantity none q k = { q with
        condition := .held, missing := 1, fresh := min (q.fresh + 1) 48 } := by
      simp [closeQuantity, Quantity.miss, Quantity.count, hf, Config.windowLength]
    have htwo : closeQuantity none (closeQuantity none q k) k = { q with
        condition := .held, missing := 2, fresh := min (min (q.fresh + 1) 48 + 1) 48 } := by
      rw [hone]; simp [closeQuantity, Quantity.miss, Quantity.count, Config.windowLength]
    have hthree : closeQuantity none (closeQuantity none (closeQuantity none q k) k) k = { q with
        condition := .invalid, missing := 3, value := 0, questionable := false, fresh := 0 } := by
      rw [htwo]; simp [closeQuantity, Quantity.miss, Quantity.count]
    refine ⟨by rw [hone], by rw [hone], by rw [htwo], by rw [htwo], by rw [hthree], by rw [hthree], by rw [hthree],
      fun n => ?_⟩
    rw [hthree]
    induction n with
    | zero => rfl
    | succ n ih => exact closeQuantity_invalid k ih

end Sys2Proof.Machine
end

section
/-! # The work between the blocks, step by step -/

namespace Sys2Proof.Machine
/-! # What work between the blocks is made of: every operation of the breakers, the sequencer and the paralleling unit, and the
end of a command, is a chain of the updates below. An invariant that each of them keeps is kept by all of it. -/

/-- `s` comes from `s₀` by updates of the kinds that work between the blocks is made of. -/
inductive Evolves (s₀ : State) : State → Prop
  | refl : Evolves s₀ s₀
  | work {s : State} (x : List Work) (h : Evolves s₀ s) : Evolves s₀ { s with work := x }
  | noting {s : State} (t : State) (h : Evolves s₀ s) : Evolves s₀ (t.noting s)
  | modBrk {s : State} (b : Nat) (f : BreakerRec → BreakerRec) (h : Evolves s₀ s) : Evolves s₀ (s.modBrk b f)
  | ask {s : State} (q : DemandRequest) (h : Evolves s₀ s) :
    Evolves s₀ { s with breakers := { s.breakers with requests := s.breakers.requests ++ [q] } }
  | unmatched {s : State} (n : Nat) (h : Evolves s₀ s) :
    Evolves s₀ { s with breakers := { s.breakers with unmatched := n } }
  | modGen {s : State} (g : Nat) (f : GenRec → GenRec) (h : Evolves s₀ s) : Evolves s₀ (s.modGen g f)
  | modPar {s : State} (f : Paralleling → Paralleling) (hg : (f s.par).gens.length = s.par.gens.length)
    (h : Evolves s₀ s) :
    Evolves s₀ (s.modPar f)
  | modSeq {s : State} (f : Sequencer → Sequencer) (hs : (f s.seq).sources = s.seq.sources) (h : Evolves s₀ s) :
    Evolves s₀ (s.modSeq f)
  | event {s : State} (c : EventClass) (priority object code : Nat) (value : Option Nat) (h : Evolves s₀ s) :
    Evolves s₀ (s.event c priority object code value)
  | sendCommand {s : State} (b : Nat) (a : Action) (tag : Nat) (o : Origins) (hb : b < s.breakers.recs.length)
    (h : Evolves s₀ s) : Evolves s₀ (s.sendCommand b a tag o)
  | sendGenset {s : State} (g : Nat) (p : Setpoint) (hg : g < s.par.gens.length) (h : Evolves s₀ s) :
    Evolves s₀ (s.sendGenset g p)
  | sendPage {s : State} (g : Nat) (p : Page) (h : Evolves s₀ s) : Evolves s₀ (s.sendPage g p)
  | withdrawFrame {s : State} (b tag : Nat) (h : Evolves s₀ s) : Evolves s₀ (s.withdrawFrame b tag)

theorem Evolves.trans {a b c : State} (h : Evolves a b) (k : Evolves b c) : Evolves a c := by
  induction k with
  | refl => exact h
  | work x _ ih => exact ih.work x
  | noting t _ ih => exact ih.noting t
  | modBrk b f _ ih => exact ih.modBrk b f
  | ask q _ ih => exact ih.ask q
  | unmatched n _ ih => exact ih.unmatched n
  | modGen g f _ ih => exact ih.modGen g f
  | modPar f hg _ ih => exact ih.modPar f hg
  | modSeq f hs _ ih => exact ih.modSeq f hs
  | event c p o k v _ ih => exact ih.event c p o k v
  | sendCommand b a tag o hb _ ih => exact ih.sendCommand b a tag o hb
  | sendGenset g p hg _ ih => exact ih.sendGenset g p hg
  | sendPage g p _ ih => exact ih.sendPage g p
  | withdrawFrame b tag _ ih => exact ih.withdrawFrame b tag

variable {s₀ s : State}

@[simp] theorem Evolves.ite {c : Prop} [Decidable c] {a b : State} (ha : Evolves s₀ a) (hb : Evolves s₀ b) :
    Evolves s₀ (if c then a else b) := by
  split <;> assumption

@[simp] theorem Evolves.ite_fst {α : Type} {c : Prop} [Decidable c] {a b : State × α} (ha : Evolves s₀ a.1)
    (hb : Evolves s₀ b.1) : Evolves s₀ (if c then a else b).1 := by
  split <;> assumption

/-! ### Plain updates -/

@[simp] theorem State.post_evolves (w : Work) (h : Evolves s₀ s) : Evolves s₀ (s.post w) := h.work _

@[simp] theorem State.noting_evolves (t : State) (h : Evolves s₀ s) : Evolves s₀ (t.noting s) := h.noting t

@[simp] theorem State.modBrk_evolves (b : Nat) (f : BreakerRec → BreakerRec) (h : Evolves s₀ s) : Evolves s₀ (s.modBrk b f) :=
  h.modBrk b f

@[simp] theorem State.askAdd_evolves (b : Nat) (m : Member) (h : Evolves s₀ s) : Evolves s₀ (s.askAdd b m) := h.ask _

@[simp] theorem State.askRemove_evolves (b : Nat) (m : Member) (h : Evolves s₀ s) : Evolves s₀ (s.askRemove b m) := h.ask _

@[simp] theorem State.modPar_evolves (f : Paralleling → Paralleling) (h : Evolves s₀ s)
    (hg : (f s.par).gens.length = s.par.gens.length) : Evolves s₀ (s.modPar f) := h.modPar f hg

@[simp] theorem State.modGen_evolves (g : Nat) (f : GenRec → GenRec) (h : Evolves s₀ s) : Evolves s₀ (s.modGen g f) :=
  h.modGen g f

@[simp] theorem State.setChannel_evolves (c : Nat) (x : Option SyncRun) (h : Evolves s₀ s) : Evolves s₀ (s.setChannel c x) :=
  h.modPar _ rfl

@[simp] theorem State.modSeq_evolves (f : Sequencer → Sequencer) (h : Evolves s₀ s)
    (hs : (f s.seq).sources = s.seq.sources) : Evolves s₀ (s.modSeq f) := h.modSeq f hs

@[simp] theorem State.forEach_evolves (ns : List Nat) (f : Nat → State → State) (h : Evolves s₀ s)
    (hf : ∀ n t, Evolves s₀ t → Evolves s₀ (f n t)) : Evolves s₀ (s.forEach ns f) := by
  unfold State.forEach
  induction ns generalizing s with
  | nil => exact h
  | cons n ns ih => exact ih (hf n s h)

@[simp] theorem State.event_evolves (c : EventClass) (priority object code : Nat) (value : Option Nat) (h : Evolves s₀ s) :
    Evolves s₀ (s.event c priority object code value) := h.event c priority object code value

@[simp] theorem State.withdrawFrame_evolves (b tag : Nat) (h : Evolves s₀ s) : Evolves s₀ (s.withdrawFrame b tag) :=
  h.withdrawFrame b tag

@[simp] theorem State.sendPage_evolves (g : Nat) (p : Page) (h : Evolves s₀ s) : Evolves s₀ (s.sendPage g p) := h.sendPage g p

/-- A record in the slot of a breaker is that of one of the breakers. -/
theorem State.slot_length {b : Nat} {c : Command} (h : (s.brk b).slot = some c) : b < s.breakers.recs.length := by
  by_contra hb
  rw [State.brk, nth, List.getD_eq_default _ _ (Nat.le_of_not_lt hb)] at h
  exact absurd h (by simp [show (default : BreakerRec).slot = none from rfl])

/-- A setpoint record is that of one of the generators. -/
theorem State.setpoint_length {g : Nat} {p : Setpoint} (h : s.setpointOf g = some p) : g < s.par.gens.length := by
  by_contra hg
  have hd : (s.gen g).state = .absent := by
    rw [State.gen, nth, List.getD_eq_default _ _ (Nat.le_of_not_lt hg)]
    rfl
  simp [State.setpointOf, hd] at h

/-! ### Tokens -/

@[simp] theorem State.requestToken_evolves (p : Party) (hw : Evolves s₀ s) :
    Evolves s₀ (State.requestToken s p) := by
  simp (maxDischargeDepth := 16) [State.requestToken, hw]

@[simp] theorem State.dropRequest_evolves (p : Party) (hw : Evolves s₀ s) :
    Evolves s₀ (State.dropRequest s p) := by
  simp (maxDischargeDepth := 16) [State.dropRequest, hw]

@[simp] theorem State.freeToken_evolves (p : Party) (hw : Evolves s₀ s) :
    Evolves s₀ (State.freeToken s p) := by
  simp (maxDischargeDepth := 16) [State.freeToken, hw]

@[simp] theorem State.leaveToken_evolves (p : Party) (hw : Evolves s₀ s) :
    Evolves s₀ (State.leaveToken s p) := by
  simp (maxDischargeDepth := 16) [State.leaveToken, hw]

@[simp] theorem State.grantToken_evolves (hw : Evolves s₀ s) :
    Evolves s₀ (State.grantToken s) := by
  unfold State.grantToken
  split <;> simp (maxDischargeDepth := 16) [hw]

@[simp] theorem State.clearBiases_evolves (gs : List Nat) (hw : Evolves s₀ s) : Evolves s₀ (State.clearBiases s gs) :=
  State.forEach_evolves _ _ hw (fun _ _ ht => State.modGen_evolves _ _ ht)

@[simp] theorem State.endRun_evolves (c : Nat) (hw : Evolves s₀ s) :
    Evolves s₀ (State.endRun s c) := by
  unfold State.endRun
  split <;> simp (maxDischargeDepth := 16) [hw]

@[simp] theorem State.endRunOf_evolves (p : Party) (b : Nat) (hw : Evolves s₀ s) :
    Evolves s₀ (State.endRunOf s p b) := by
  unfold State.endRunOf
  split <;> simp (maxDischargeDepth := 16) [hw]

@[simp] theorem State.abortEvent_evolves (c : Nat) (hw : Evolves s₀ s) :
    Evolves s₀ (State.abortEvent s c) := by
  simp (maxDischargeDepth := 16) [State.abortEvent, hw]

/-! ### Breakers -/

@[simp] theorem State.resetBf_evolves (b : Nat) (hw : Evolves s₀ s) :
    Evolves s₀ (State.resetBf s b) := by
  unfold State.resetBf
  dsimp only
  repeat' first
    | with_reducible exact hw
    | with_reducible apply State.backup_evolves
    | with_reducible apply State.event_evolves
    | with_reducible apply State.modBrk_evolves
    | with_reducible apply State.askRemove_evolves
    | with_reducible apply State.forEach_evolves
    | intro _ _ _
    | with_reducible assumption
    | (simp (maxDischargeDepth := 16); done)
    | split

@[simp] theorem State.testBf_evolves (b : Nat) (hw : Evolves s₀ s) :
    Evolves s₀ (State.testBf s b) := by
  simp (maxDischargeDepth := 16) [State.testBf, hw]

@[simp] theorem State.issueBackup_evolves (b : Nat) (hw : Evolves s₀ s) :
    Evolves s₀ (State.issueBackup s b) := by
  unfold State.issueBackup
  dsimp only
  repeat' first
    | with_reducible exact hw
    | with_reducible apply State.backup_evolves
    | with_reducible apply State.event_evolves
    | with_reducible apply State.modBrk_evolves
    | with_reducible apply State.askAdd_evolves
    | with_reducible apply State.forEach_evolves
    | intro _ _ _
    | with_reducible assumption

@[simp] theorem State.tripIssued_evolves (b : Nat) (c : Command) (hw : Evolves s₀ s) :
    Evolves s₀ (State.tripIssued s b c) := by
  simp (maxDischargeDepth := 16) [State.tripIssued, hw]

@[simp] theorem State.issueCommand_evolves (b : Nat) (hw : Evolves s₀ s) :
    Evolves s₀ (State.issueCommand s b) := by
  unfold State.issueCommand
  split
  · exact hw
  next hc =>
    have hb := State.slot_length hc
    exact Evolves.ite (hw.modBrk _ _) (State.tripIssued_evolves _ _ ((hw.modBrk _ _).sendCommand _ _ _ _
      (by simpa using hb)))

@[simp] theorem State.returnOutcome_evolves (b : Nat) (c : Command) (o : Outcome) (hw : Evolves s₀ s) :
    Evolves s₀ (State.returnOutcome s b c o) := by
  unfold State.returnOutcome
  (repeat' split) <;> simp (maxDischargeDepth := 16) [hw]

@[simp] theorem State.concludeClose_evolves (b : Nat) (c : Command) (hw : Evolves s₀ s) :
    Evolves s₀ (State.concludeClose s b c) := by
  unfold State.concludeClose
  (repeat' split) <;> simp (maxDischargeDepth := 16) [hw]

@[simp] theorem State.endCommand_evolves (b : Nat) (o : Outcome) (hw : Evolves s₀ s) :
    Evolves s₀ (State.endCommand s b o) := by
  unfold State.endCommand
  split <;> simp (maxDischargeDepth := 16) [hw]

@[simp] theorem State.countRefused_evolves (b : Nat) (hw : Evolves s₀ s) :
    Evolves s₀ (State.countRefused s b) := by
  simp (maxDischargeDepth := 16) [State.countRefused, hw]

@[simp] theorem State.takeOpen_evolves (b : Nat) (o : Origins) (g : Option Nat) (h : Evolves s₀ s) :
    Evolves s₀ (State.takeOpen s b o g) := by
  unfold State.takeOpen; simp [h]

@[simp] theorem State.openRequest_evolves (b : Nat) (o : Origins) (g : Option Nat) (hw : Evolves s₀ s) :
    Evolves s₀ (State.openRequest s b o g).1 := by
  unfold State.openRequest
  dsimp only
  repeat' first
    | with_reducible exact hw
    | with_reducible apply State.countRefused_evolves
    | with_reducible apply State.takeOpen_evolves
    | with_reducible apply State.issueCommand_evolves
    | with_reducible apply State.endCommand_evolves
    | with_reducible apply State.post_evolves
    | with_reducible apply State.modBrk_evolves
    | intro _ _ _
    | with_reducible assumption
    | (simp (maxDischargeDepth := 16) [hw]; done)
    | split

@[simp] theorem State.openFor_evolves (b : Nat) (o : Origins) (hw : Evolves s₀ s) :
    Evolves s₀ (State.openFor s b o) := by
  simp (maxDischargeDepth := 16) [State.openFor, hw]

@[simp] theorem State.releaseClose_evolves (b : Nat) (hw : Evolves s₀ s) :
    Evolves s₀ (State.releaseClose s b) := by
  unfold State.releaseClose
  (repeat' split) <;> simp (maxDischargeDepth := 16) [hw]

@[simp] theorem State.takeClose_evolves (b : Nat) (k : CloseKind) (q : Requester) (o : Origins)
    (g : Option Nat) (hw : Evolves s₀ s) :
    Evolves s₀ (State.takeClose s b k q o g) := by
  simp (maxDischargeDepth := 16) [State.takeClose, hw]

@[simp] theorem State.closeRequest_evolves (b : Nat) (k : CloseKind) (q : Requester) (o : Origins)
    (g : Option Nat) (hw : Evolves s₀ s) :
    Evolves s₀ (State.closeRequest s b k q o g).1 := by
  unfold State.closeRequest
  (repeat' split) <;> simp (maxDischargeDepth := 16) [hw]

@[simp] theorem State.withdrawClose_evolves (b : Nat) (p : Party) (hw : Evolves s₀ s) :
    Evolves s₀ (State.withdrawClose s b p) := by
  unfold State.withdrawClose
  split <;> simp (maxDischargeDepth := 16) [hw]

@[simp] theorem State.completeCommand_evolves (b : Nat) (hw : Evolves s₀ s) :
    Evolves s₀ (State.completeCommand s b) := by
  unfold State.completeCommand
  split <;> simp (maxDischargeDepth := 16) [hw]

@[simp] theorem State.positionMoved_evolves (b : Nat) (old new : Position) (own tripped : Bool)
    (hw : Evolves s₀ s) :
    Evolves s₀ (State.positionMoved s b old new own tripped) := by
  simp (maxDischargeDepth := 16) [State.positionMoved, hw]

@[simp] theorem State.checkTrips_evolves (b : Nat) (hw : Evolves s₀ s) :
    Evolves s₀ (State.checkTrips s b) := by
  simp (maxDischargeDepth := 16) [State.checkTrips, hw]

@[simp] theorem State.changePosition_evolves (b : Nat) (new : Position) (hw : Evolves s₀ s) :
    Evolves s₀ (State.changePosition s b new) := by
  simp (maxDischargeDepth := 16) [State.changePosition, hw]

@[simp] theorem State.losePosition_evolves (b : Nat) (hw : Evolves s₀ s) :
    Evolves s₀ (State.losePosition s b) := by
  simp (maxDischargeDepth := 16) [State.losePosition, hw]

@[simp] theorem State.handleResponse_evolves (b : Nat) (f : PositionBody) (hw : Evolves s₀ s) :
    Evolves s₀ (State.handleResponse s b f) := by
  unfold State.handleResponse
  (repeat' split) <;> simp (maxDischargeDepth := 16) [hw]

@[simp] theorem State.handleHealth_evolves (b : Nat) (h : Health) (hw : Evolves s₀ s) :
    Evolves s₀ (State.handleHealth s b h) := by
  simp (maxDischargeDepth := 16) [State.handleHealth, hw]

@[simp] theorem State.handlePosition_evolves (b : Nat) (p : Reported) (hw : Evolves s₀ s) :
    Evolves s₀ (State.handlePosition s b p) := by
  simp (maxDischargeDepth := 16) [State.handlePosition, hw]

@[simp] theorem State.handleReport_evolves (b : Nat) (p : Reported) (h : Health) (hw : Evolves s₀ s) :
    Evolves s₀ (State.handleReport s b p h) := by
  simp (maxDischargeDepth := 16) [State.handleReport, hw]

@[simp] theorem State.takePosition_evolves (h : Header) (f : PositionBody) (hw : Evolves s₀ s) :
    Evolves s₀ (State.takePosition h f s) := by
  unfold State.takePosition
  split
  · exact hw.unmatched _
  · simp (maxDischargeDepth := 16) [hw]

@[simp] theorem State.addMember_evolves (b : Nat) (m : Member) (hw : Evolves s₀ s) :
    Evolves s₀ (State.addMember s b m) := by
  simp (maxDischargeDepth := 16) [State.addMember, hw]

@[simp] theorem State.removeMember_evolves (b : Nat) (m : Member) (hw : Evolves s₀ s) :
    Evolves s₀ (State.removeMember s b m) := by
  simp (maxDischargeDepth := 16) [State.removeMember, hw]

@[simp] theorem State.escalateBf_evolves (b : Nat) (o : Origins) (hw : Evolves s₀ s) :
    Evolves s₀ (State.escalateBf s b o) := by
  simp (maxDischargeDepth := 16) [State.escalateBf, hw]

@[simp] theorem State.responseExpiry_evolves (b : Nat) (hw : Evolves s₀ s) :
    Evolves s₀ (State.responseExpiry s b) := by
  unfold State.responseExpiry
  split <;> simp (maxDischargeDepth := 16) [hw]

@[simp] theorem State.limitExpiry_evolves (b : Nat) (hw : Evolves s₀ s) :
    Evolves s₀ (State.limitExpiry s b) := by
  unfold State.limitExpiry
  split <;> simp (maxDischargeDepth := 16) [hw]

@[simp] theorem State.simulatedEnd_evolves (b : Nat) (hw : Evolves s₀ s) :
    Evolves s₀ (State.simulatedEnd s b) := by
  unfold State.simulatedEnd
  split <;> simp (maxDischargeDepth := 16) [hw]

@[simp] theorem State.retripOpen_evolves (b : Nat) (hw : Evolves s₀ s) :
    Evolves s₀ (State.retripOpen s b) := by
  unfold State.retripOpen
  split <;> simp (maxDischargeDepth := 16) [hw]

@[simp] theorem State.retrip_evolves (b : Nat) (hw : Evolves s₀ s) :
    Evolves s₀ (State.retrip s b) := by
  simp (maxDischargeDepth := 16) [State.retrip, hw]

@[simp] theorem State.backup_evolves (b : Nat) (hw : Evolves s₀ s) :
    Evolves s₀ (State.backup s b) := by
  simp (maxDischargeDepth := 16) [State.backup, hw]

@[simp] theorem State.abandonClose_evolves (b : Nat) (reason : Option Reason) (hw : Evolves s₀ s) :
    Evolves s₀ (State.abandonClose s b reason) := by
  unfold State.abandonClose
  split <;> simp (maxDischargeDepth := 16) [hw]

@[simp] theorem State.markCommandLeft_evolves (b tag : Nat) (hw : Evolves s₀ s) :
    Evolves s₀ (State.markCommandLeft s b tag) := by
  simp (maxDischargeDepth := 16) [State.markCommandLeft, hw]

@[simp] theorem State.activateBreaker_evolves (old : Table) (b : Nat) (hw : Evolves s₀ s) :
    Evolves s₀ (State.activateBreaker s old b) := by
  simp (maxDischargeDepth := 16) [State.activateBreaker, hw]

@[simp] theorem State.restartBreaker_evolves (b : Nat) (hw : Evolves s₀ s) :
    Evolves s₀ (State.restartBreaker b s) := by
  simp (maxDischargeDepth := 16) [State.restartBreaker, hw]

@[simp] theorem State.restartBreakers_evolves (hw : Evolves s₀ s) : Evolves s₀ (State.restartBreakers s) :=
  State.forEach_evolves _ _ hw (fun _ _ ht => State.restartBreaker_evolves _ ht)

/-! ### Generators -/

@[simp] theorem State.buildGenset_evolves (g : Nat) (hw : Evolves s₀ s) :
    Evolves s₀ (State.buildGenset s g) := by
  unfold State.buildGenset
  split
  · exact hw
  · split
    · exact hw
    · exact State.modGen_evolves _ _ (hw.sendGenset g _ (State.setpoint_length ‹_›))

@[simp] theorem State.genOpen_evolves (g : Nat) (hw : Evolves s₀ s) :
    Evolves s₀ (State.genOpen s g).1 := by
  simp (maxDischargeDepth := 16) [State.genOpen, hw]

@[simp] theorem State.leaveRun_evolves (p : Party) (hw : Evolves s₀ s) :
    Evolves s₀ (State.leaveRun s p) := by
  unfold State.leaveRun
  split <;> simp (maxDischargeDepth := 16) [hw]

@[simp] theorem State.leaveAttempt_evolves (g : Nat) (hw : Evolves s₀ s) :
    Evolves s₀ (State.leaveAttempt s g) := by
  simp (maxDischargeDepth := 16) [State.leaveAttempt, hw]

@[simp] theorem State.genMove_evolves (g : Nat) (new : GenState) (hw : Evolves s₀ s) :
    Evolves s₀ (State.genMove s g new) := by
  unfold State.genMove
  extract_lets old t u v w
  have ht : Evolves s₀ t := Evolves.ite (State.leaveAttempt_evolves _ hw) hw
  have hu : Evolves s₀ u := State.noting_evolves _ (State.modPar_evolves _ (State.modGen_evolves _ _ ht) rfl)
  have hv : Evolves s₀ v := State.event_evolves _ _ _ _ _ hu
  have hx : Evolves s₀ w := Evolves.ite (State.genOpen_evolves _ hv) hv
  exact Evolves.ite hw (Evolves.ite (State.post_evolves _ hx) hx)

@[simp] theorem State.beginExchange_evolves (g : Nat) (hw : Evolves s₀ s) :
    Evolves s₀ (State.beginExchange s g) := by
  simp (maxDischargeDepth := 16) [State.beginExchange, hw]

@[simp] theorem State.renegotiate_evolves (g : Nat) (hw : Evolves s₀ s) :
    Evolves s₀ (State.renegotiate s g) := by
  simp (maxDischargeDepth := 16) [State.renegotiate, hw]

@[simp] theorem State.genEnter_evolves (g : Nat) (new : GenState) (hw : Evolves s₀ s) :
    Evolves s₀ (State.genEnter s g new) := by
  unfold State.genEnter
  dsimp only
  exact Evolves.ite (State.renegotiate_evolves _ (State.genMove_evolves _ _ hw)) (State.genMove_evolves _ _ hw)

@[simp] theorem State.genRetry_evolves (g : Nat) (hw : Evolves s₀ s) :
    Evolves s₀ (State.genRetry s g) := by
  simp (maxDischargeDepth := 16) [State.genRetry, hw]

@[simp] theorem State.deadFailure_evolves (g : Nat) (hw : Evolves s₀ s) :
    Evolves s₀ (State.deadFailure s g) := by
  simp (maxDischargeDepth := 16) [State.deadFailure, hw]

@[simp] theorem State.closeFailure_evolves (g : Nat) (hw : Evolves s₀ s) :
    Evolves s₀ (State.closeFailure s g) := by
  simp (maxDischargeDepth := 16) [State.closeFailure, hw]

@[simp] theorem State.unloadOpen_evolves (g : Nat) (hw : Evolves s₀ s) : Evolves s₀ (State.unloadOpen s g) := by
  unfold State.unloadOpen
  dsimp only
  split <;> simp (maxDischargeDepth := 16) [hw]

@[simp] theorem State.enterUnloading_evolves (g : Nat) (hw : Evolves s₀ s) :
    Evolves s₀ (State.enterUnloading s g) := by
  simp (maxDischargeDepth := 16) [State.enterUnloading, hw]

@[simp] theorem State.settleNegotiated_evolves (g : Nat) (hw : Evolves s₀ s) :
    Evolves s₀ (State.settleNegotiated s g) := by
  unfold State.settleNegotiated
  split <;> simp (maxDischargeDepth := 16) [hw]

@[simp] theorem State.afterExchange_evolves (g : Nat) (hw : Evolves s₀ s) :
    Evolves s₀ (State.afterExchange s g) := by
  simp (maxDischargeDepth := 16) [State.afterExchange, hw]

@[simp] theorem State.exchangeDone_evolves (g : Nat) (hw : Evolves s₀ s) :
    Evolves s₀ (State.exchangeDone s g) := by
  simp (maxDischargeDepth := 16) [State.exchangeDone, hw]

@[simp] theorem State.exchangeUndeclared_evolves (g : Nat) (hw : Evolves s₀ s) :
    Evolves s₀ (State.exchangeUndeclared s g) := by
  simp (maxDischargeDepth := 16) [State.exchangeUndeclared, hw]

@[simp] theorem State.takeBase_evolves (g : Nat) (f : Page) (set : Abilities) (hw : Evolves s₀ s) :
    Evolves s₀ (State.takeBase s g f set) := by
  simp (maxDischargeDepth := 16) [State.takeBase, hw]

@[simp] theorem State.gapExpiry_evolves (g : Nat) (hw : Evolves s₀ s) :
    Evolves s₀ (State.gapExpiry s g) := by
  simp (maxDischargeDepth := 16) [State.gapExpiry, hw]

@[simp] theorem State.testConflict_evolves (g : Nat) (hw : Evolves s₀ s) : Evolves s₀ (State.testConflict s g) := by
  unfold State.testConflict
  dsimp only
  split
  · exact hw
  · split <;> simp (maxDischargeDepth := 16) [hw]

@[simp] theorem State.testStopped_evolves (g : Nat) (hw : Evolves s₀ s) :
    Evolves s₀ (State.testStopped s g) := by
  simp (maxDischargeDepth := 16) [State.testStopped, hw]

@[simp] theorem State.takeGenStatus_evolves (h : Header) (f : GenStatus) (hw : Evolves s₀ s) :
    Evolves s₀ (State.takeGenStatus h f s) := by
  unfold State.takeGenStatus
  split <;> simp (maxDischargeDepth := 16) [hw]

@[simp] theorem State.absentExpiry_evolves (g : Nat) (hw : Evolves s₀ s) :
    Evolves s₀ (State.absentExpiry s g) := by
  simp (maxDischargeDepth := 16) [State.absentExpiry, hw]

@[simp] theorem State.genClose_evolves (g : Nat) (k : CloseKind) (hw : Evolves s₀ s) :
    Evolves s₀ (State.genClose s g k).1 := by
  simp (maxDischargeDepth := 16) [State.genClose, hw]

@[simp] theorem State.deadClose_evolves (g : Nat) (hw : Evolves s₀ s) : Evolves s₀ (State.deadClose s g) := by
  unfold State.deadClose
  dsimp only
  split <;> simp (maxDischargeDepth := 16) [hw]

@[simp] theorem State.writeBiases_evolves (r : SyncRun) (g : Nat) (hw : Evolves s₀ s) :
    Evolves s₀ (State.writeBiases s r g) := by
  simp (maxDischargeDepth := 16) [State.writeBiases, hw]

@[simp] theorem State.disown_evolves (gs : List Nat) (hw : Evolves s₀ s) : Evolves s₀ (State.disown s gs) :=
  State.modPar_evolves _ hw rfl

@[simp] theorem State.correct_evolves (c : Nat) (hw : Evolves s₀ s) :
    Evolves s₀ (State.correct s c) := by
  unfold State.correct
  dsimp only
  repeat' first
    | with_reducible exact hw
    | with_reducible apply State.writeBiases_evolves
    | with_reducible apply State.disown_evolves
    | with_reducible apply State.setChannel_evolves
    | with_reducible apply State.forEach_evolves
    | intro _ _ _
    | with_reducible assumption
    | (simp (maxDischargeDepth := 16); done)
    | split

@[simp] theorem State.startRun_evolves (c : Nat) (client : Party) (b g bus entry : Nat) (hw : Evolves s₀ s) :
    Evolves s₀ (State.startRun s c client b g bus entry) := by
  simp (maxDischargeDepth := 16) [State.startRun, hw]

@[simp] theorem State.takeChannel_evolves (g c : Nat) (hw : Evolves s₀ s) : Evolves s₀ (State.takeChannel s g c) := by
  unfold State.takeChannel
  dsimp only
  split <;> simp (maxDischargeDepth := 16) [hw]

@[simp] theorem State.serveWaiting_evolves (n : Nat) (h : Evolves s₀ s) : Evolves s₀ (State.serveWaiting n s) := by
  induction n generalizing s with
  | zero => exact h
  | succ n ih =>
    unfold State.serveWaiting
    split
    · exact ih (Evolves.ite (State.takeChannel_evolves _ _ (State.modPar_evolves _ h rfl))
        (State.modPar_evolves _ h rfl))
    · exact h

@[simp] theorem State.seekChannel_evolves (g : Nat) (hw : Evolves s₀ s) :
    Evolves s₀ (State.seekChannel s g) := by
  unfold State.seekChannel
  have ht := State.serveWaiting_evolves 8 hw
  generalize State.serveWaiting 8 s = t at ht
  dsimp only
  split
  · exact ht
  · split <;> simp (maxDischargeDepth := 16) [ht]

@[simp] theorem State.claimToken_evolves (g : Nat) (hw : Evolves s₀ s) : Evolves s₀ (State.claimToken s g) := by
  simp (maxDischargeDepth := 16) [State.claimToken, hw]

@[simp] theorem State.closeAttempt_evolves (g : Nat) (hw : Evolves s₀ s) :
    Evolves s₀ (State.closeAttempt s g) := by
  unfold State.closeAttempt
  split <;> simp (maxDischargeDepth := 16) [hw]

@[simp] theorem State.deadCheck_evolves (g : Nat) (hw : Evolves s₀ s) :
    Evolves s₀ (State.deadCheck s g) := by
  unfold State.deadCheck
  (repeat' split) <;> simp (maxDischargeDepth := 16) [hw]

@[simp] theorem State.deadCheckExpiry_evolves (g : Nat) (hw : Evolves s₀ s) :
    Evolves s₀ (State.deadCheckExpiry s g) := by
  simp (maxDischargeDepth := 16) [State.deadCheckExpiry, hw]

@[simp] theorem State.retryExpiry_evolves (g : Nat) (hw : Evolves s₀ s) :
    Evolves s₀ (State.retryExpiry s g) := by
  simp (maxDischargeDepth := 16) [State.retryExpiry, hw]

@[simp] theorem State.abortRun_evolves (c : Nat) (hw : Evolves s₀ s) :
    Evolves s₀ (State.abortRun s c) := by
  unfold State.abortRun
  (repeat' split) <;> simp (maxDischargeDepth := 16) [hw]

@[simp] theorem State.evaluateRun_evolves (c : Nat) (hw : Evolves s₀ s) :
    Evolves s₀ (State.evaluateRun c s) := by
  unfold State.evaluateRun
  (repeat' split) <;> simp (maxDischargeDepth := 16) [hw]

@[simp] theorem State.correctionExpiry_evolves (c : Nat) (hw : Evolves s₀ s) :
    Evolves s₀ (State.correctionExpiry s c) := by
  unfold State.correctionExpiry
  split <;> simp (maxDischargeDepth := 16) [hw]

@[simp] theorem State.closeOutcome_evolves (g : Nat) (k : CloseKind) (o : Outcome) (hw : Evolves s₀ s) :
    Evolves s₀ (State.closeOutcome s g k o) := by
  unfold State.closeOutcome
  split
  · exact hw
  · simp (maxDischargeDepth := 16) [hw]
  · simp (maxDischargeDepth := 16) [hw, State.closeOutcome.failure]
  · simp (maxDischargeDepth := 16) [hw, State.closeOutcome.failure]

@[simp] theorem State.genOutcome_evolves (g b : Nat) (a : Action) (k : CloseKind) (o : Outcome)
    (hw : Evolves s₀ s) :
    Evolves s₀ (State.genOutcome s g b a k o) := by
  unfold State.genOutcome
  (repeat' split) <;> simp (maxDischargeDepth := 16) [hw]

@[simp] theorem State.genFoundClosed_evolves (g : Nat) (hw : Evolves s₀ s) :
    Evolves s₀ (State.genFoundClosed s g) := by
  unfold State.genFoundClosed
  split <;> simp (maxDischargeDepth := 16) [hw, State.genFoundClosed.taken]

@[simp] theorem State.genLeftClosed_evolves (g : Nat) (own tripped : Bool) (hw : Evolves s₀ s) :
    Evolves s₀ (State.genLeftClosed s g own tripped) := by
  simp (maxDischargeDepth := 16) [State.genLeftClosed, hw]

@[simp] theorem State.genMoved_evolves (b : Nat) (old new : Position) (own tripped : Bool) (hw : Evolves s₀ s) :
    Evolves s₀ (State.genMoved s b old new own tripped) := by
  unfold State.genMoved
  split <;> simp (maxDischargeDepth := 16) [hw]

@[simp] theorem State.writeDemand_evolves (n : Nat) (hw : Evolves s₀ s) :
    Evolves s₀ (State.writeDemand s n) := by
  simp (maxDischargeDepth := 16) [State.writeDemand, hw]

@[simp] theorem State.startExpiry_evolves (g : Nat) (hw : Evolves s₀ s) :
    Evolves s₀ (State.startExpiry s g) := by
  simp (maxDischargeDepth := 16) [State.startExpiry, hw]

@[simp] theorem State.shareLoad_evolves (load : Int) (ratings g : Nat) (hw : Evolves s₀ s) :
    Evolves s₀ (State.shareLoad s load ratings g) := by
  simp (maxDischargeDepth := 16) [State.shareLoad, hw]

@[simp] theorem State.shedLoad_evolves (g : Nat) (hw : Evolves s₀ s) :
    Evolves s₀ (State.shedLoad s g) := by
  simp (maxDischargeDepth := 16) [State.shedLoad, hw]

@[simp] theorem State.loadShare_evolves (hw : Evolves s₀ s) : Evolves s₀ (State.loadShare s) := by
  unfold State.loadShare
  dsimp only
  split
  · exact hw
  · refine State.forEach_evolves _ _ (Evolves.ite ?_ (State.forEach_evolves _ _ ?_ ?_)) ?_ <;>
      first | (intro _ _ ht; simp [ht]) | simp [hw]

@[simp] theorem State.loseRated_evolves (g : Nat) (hw : Evolves s₀ s) : Evolves s₀ (State.loseRated s g) := by
  simp (maxDischargeDepth := 16) [State.loseRated, hw]

@[simp] theorem State.ratedTest_evolves (g : Nat) (hw : Evolves s₀ s) :
    Evolves s₀ (State.ratedTest g s) := by
  unfold State.ratedTest
  (repeat' split) <;> simp (maxDischargeDepth := 16) [hw]

@[simp] theorem State.parallelingWork_evolves (hw : Evolves s₀ s) : Evolves s₀ (State.parallelingWork s) := by
  unfold State.parallelingWork
  refine State.post_evolves _ (State.forEach_evolves _ _ (State.forEach_evolves _ _ (State.forEach_evolves _ _
    hw ?_) ?_) ?_) <;> intro _ _ ht <;> simp [ht]

@[simp] theorem State.lockoutGens_evolves (hw : Evolves s₀ s) : Evolves s₀ (State.lockoutGens s) :=
  State.forEach_evolves _ _ hw (fun _ _ ht => by split <;> simp [ht])

@[simp] theorem State.stationTripGens_evolves (hw : Evolves s₀ s) : Evolves s₀ (State.stationTripGens s) := by
  unfold State.stationTripGens
  refine State.forEach_evolves _ _ (State.forEach_evolves _ _ (State.writeDemand_evolves _ hw) ?_) ?_ <;>
    intro _ _ ht <;> simp [ht]

@[simp] theorem State.resetGen_evolves (g : Nat) (hw : Evolves s₀ s) :
    Evolves s₀ (State.resetGen g s) :=
  State.modGen_evolves _ _ (State.genMove_evolves _ _ hw)

@[simp] theorem State.restartParalleling_evolves (hw : Evolves s₀ s) : Evolves s₀ (State.restartParalleling s) := by
  have h := State.forEach_evolves (List.range 8) State.resetGen hw (fun _ _ ht => State.resetGen_evolves _ ht)
  exact State.modPar_evolves _ h (by simp)

@[simp] theorem State.activateGens_evolves (changed : List Nat) (hw : Evolves s₀ s) :
    Evolves s₀ (State.activateGens s changed) :=
  State.forEach_evolves _ _ hw (fun _ _ ht => State.resetGen_evolves _ ht)

@[simp] theorem State.advanceGens_evolves (hw : Evolves s₀ s) : Evolves s₀ (State.advanceGens s) := by
  unfold State.advanceGens
  refine State.modPar_evolves _ (State.forEach_evolves _ _ hw (fun _ _ ht => State.modGen_evolves _ _ ht)) rfl

@[simp] theorem State.refresh_evolves (g : Nat) (hw : Evolves s₀ s) :
    Evolves s₀ (State.refresh s g) := by
  simp (maxDischargeDepth := 16) [State.refresh, hw]

/-! ### Sequencer -/

@[simp] theorem State.refreshLineup_evolves (hw : Evolves s₀ s) :
    Evolves s₀ (State.refreshLineup s) := by
  simp (maxDischargeDepth := 16) [State.refreshLineup, hw]

@[simp] theorem State.emptySlot_evolves (hw : Evolves s₀ s) :
    Evolves s₀ (State.emptySlot s) := by
  unfold State.emptySlot
  split <;> simp (maxDischargeDepth := 16) [hw]

@[simp] theorem State.setSeqState_evolves (x : SeqState) (hw : Evolves s₀ s) :
    Evolves s₀ (State.setSeqState s x) := by
  simp (maxDischargeDepth := 16) [State.setSeqState, hw]

@[simp] theorem State.halt_evolves (y : HaltReason) (hw : Evolves s₀ s) :
    Evolves s₀ (State.halt s y) := by
  simp (maxDischargeDepth := 16) [State.halt, hw]

@[simp] theorem State.lockOut_evolves (hw : Evolves s₀ s) :
    Evolves s₀ (State.lockOut s) := by
  simp (maxDischargeDepth := 16) [State.lockOut, hw]

@[simp] theorem State.goLineup_evolves (hw : Evolves s₀ s) :
    Evolves s₀ (State.goLineup s) := by
  unfold State.goLineup
  (repeat' split) <;> simp (maxDischargeDepth := 16) [hw]

@[simp] theorem State.followLineup_evolves (hw : Evolves s₀ s) :
    Evolves s₀ (State.followLineup s) := by
  simp (maxDischargeDepth := 16) [State.followLineup, hw]

@[simp] theorem State.startPlan_evolves (p : Nat) (c : Cause) (hw : Evolves s₀ s) :
    Evolves s₀ (State.startPlan s p c) := by
  simp (maxDischargeDepth := 16) [State.startPlan, hw]

@[simp] theorem State.modRun_evolves (f : PlanRun → PlanRun) (h : Evolves s₀ s) : Evolves s₀ (s.modRun f) := by
  simp [State.modRun, h]

@[simp] theorem State.setWait_evolves (w : StepWait) (hw : Evolves s₀ s) :
    Evolves s₀ (State.setWait s w) := by
  simp (maxDischargeDepth := 16) [State.setWait, hw]

@[simp] theorem State.endStep_evolves (r : PlanRun) (hw : Evolves s₀ s) :
    Evolves s₀ (State.endStep s r) := by
  simp (maxDischargeDepth := 16) [State.endStep, hw]

@[simp] theorem State.raiseLimit_evolves (r : PlanRun) (hw : Evolves s₀ s) :
    Evolves s₀ (State.raiseLimit s r) := by
  unfold State.raiseLimit
  split <;> simp (maxDischargeDepth := 16) [hw]

@[simp] theorem State.endRunRecord_evolves (r : PlanRun) (hw : Evolves s₀ s) :
    Evolves s₀ (State.endRunRecord s r) := by
  simp (maxDischargeDepth := 16) [State.endRunRecord, hw]

@[simp] theorem State.currentLineup_evolves (hw : Evolves s₀ s) :
    Evolves s₀ (State.currentLineup s) := by
  simp (maxDischargeDepth := 16) [State.currentLineup, hw]

@[simp] theorem State.failPlan_evolves (r : PlanRun) (hw : Evolves s₀ s) :
    Evolves s₀ (State.failPlan s r) := by
  unfold State.failPlan
  (repeat' split) <;> simp (maxDischargeDepth := 16) [hw]

@[simp] theorem State.failStep_evolves (code reason : Nat) (hw : Evolves s₀ s) :
    Evolves s₀ (State.failStep s code reason) := by
  unfold State.failStep
  split <;> simp (maxDischargeDepth := 16) [hw]

@[simp] theorem State.stopPlan_evolves (hw : Evolves s₀ s) :
    Evolves s₀ (State.stopPlan s) := by
  unfold State.stopPlan
  split <;> simp (maxDischargeDepth := 16) [hw]

@[simp] theorem State.finishPlan_evolves (hw : Evolves s₀ s) :
    Evolves s₀ (State.finishPlan s) := by
  unfold State.finishPlan
  (repeat' split) <;> simp (maxDischargeDepth := 16) [hw]

@[simp] theorem State.completeStep_evolves (hw : Evolves s₀ s) :
    Evolves s₀ (State.completeStep s) := by
  unfold State.completeStep
  split <;> simp (maxDischargeDepth := 16) [hw]

@[simp] theorem State.stepOpen_evolves (b : Nat) (hw : Evolves s₀ s) :
    Evolves s₀ (State.stepOpen s b) := by
  unfold State.stepOpen
  dsimp only
  repeat' first
    | with_reducible exact hw
    | with_reducible apply State.openRequest_evolves
    | with_reducible apply State.setWait_evolves
    | with_reducible apply State.post_evolves
    | intro _ _ _
    | with_reducible assumption
    | split

@[simp] theorem State.stepClose_evolves (b : Nat) (k : CloseKind) (go : State → State) (h : Evolves s₀ s)
    (hg : ∀ t, Evolves s₀ t → Evolves s₀ (go t)) : Evolves s₀ (State.stepClose s b k go) := by
  unfold State.stepClose
  dsimp only
  split <;> simp (maxDischargeDepth := 16) [h, hg]

@[simp] theorem State.stepRun_evolves (r : PlanRun) (hw : Evolves s₀ s) :
    Evolves s₀ (State.stepRun s r) := by
  simp (maxDischargeDepth := 16) [State.stepRun, hw]

@[simp] theorem State.stepDeadTerm_evolves (r : PlanRun) (hw : Evolves s₀ s) :
    Evolves s₀ (State.stepDeadTerm s r) := by
  simp (maxDischargeDepth := 16) [State.stepDeadTerm, hw]

@[simp] theorem State.stepDeadClose_evolves (x : PlanRun) (hw : Evolves s₀ s) : Evolves s₀ (State.stepDeadClose s x) :=
  State.stepClose_evolves _ _ _ hw (fun _ ht => State.stepDeadTerm_evolves _ ht)

@[simp] theorem State.testGens_evolves (hw : Evolves s₀ s) :
    Evolves s₀ (State.testGens s) := by
  unfold State.testGens
  split <;> simp (maxDischargeDepth := 16) [hw]

@[simp] theorem State.beginKind_evolves (x : PlanRun) (hw : Evolves s₀ s) : Evolves s₀ (State.beginKind s x) := by
  unfold State.beginKind
  dsimp only
  split
  case h_2 => exact State.stepClose_evolves _ _ _ hw (fun _ ht => State.setWait_evolves _ ht)
  case h_3 => exact State.stepClose_evolves _ _ _ hw (fun _ ht => State.stepRun_evolves _ ht)
  all_goals simp (maxDischargeDepth := 16) [hw]

@[simp] theorem State.beginStep_evolves (hw : Evolves s₀ s) :
    Evolves s₀ (State.beginStep s) := by
  unfold State.beginStep
  split <;> simp (maxDischargeDepth := 16) [hw]

@[simp] theorem State.seqOutcome_evolves (b : Nat) (a : Action) (o : Outcome) (hw : Evolves s₀ s) :
    Evolves s₀ (State.seqOutcome s b a o) := by
  unfold State.seqOutcome
  split <;> simp (maxDischargeDepth := 16) [hw]

@[simp] theorem State.seqToken_evolves (hw : Evolves s₀ s) :
    Evolves s₀ (State.seqToken s) := by
  unfold State.seqToken
  split <;> simp (maxDischargeDepth := 16) [hw]

@[simp] theorem State.seqAborted_evolves (hw : Evolves s₀ s) :
    Evolves s₀ (State.seqAborted s) := by
  unfold State.seqAborted
  split <;> simp (maxDischargeDepth := 16) [hw]

@[simp] theorem State.seqRetry_evolves (hw : Evolves s₀ s) :
    Evolves s₀ (State.seqRetry s) := by
  unfold State.seqRetry
  (repeat' split) <;> simp (maxDischargeDepth := 16) [hw]

@[simp] theorem State.seqMoved_evolves (b : Nat) (hw : Evolves s₀ s) :
    Evolves s₀ (State.seqMoved s b) := by
  unfold State.seqMoved
  split <;> simp (maxDischargeDepth := 16) [hw]

@[simp] theorem State.stepExpiry_evolves (hw : Evolves s₀ s) :
    Evolves s₀ (State.stepExpiry s) := by
  unfold State.stepExpiry
  split <;> simp (maxDischargeDepth := 16) [hw]

@[simp] theorem State.timeWaited_evolves (hw : Evolves s₀ s) :
    Evolves s₀ (State.timeWaited s) := by
  unfold State.timeWaited
  split <;> simp (maxDischargeDepth := 16) [hw]

@[simp] theorem State.pointMet_evolves (hw : Evolves s₀ s) :
    Evolves s₀ (State.pointMet s) := by
  unfold State.pointMet
  split <;> simp (maxDischargeDepth := 16) [hw]

@[simp] theorem State.deadTermMet_evolves (hw : Evolves s₀ s) :
    Evolves s₀ (State.deadTermMet s) := by
  unfold State.deadTermMet
  split <;> simp (maxDischargeDepth := 16) [hw]

@[simp] theorem State.limitParallel_evolves (hw : Evolves s₀ s) :
    Evolves s₀ (State.limitParallel s) := by
  unfold State.limitParallel
  split <;> simp (maxDischargeDepth := 16) [hw]

@[simp] theorem State.startRule_evolves (k : Nat) (among : Nat → Bool) (hw : Evolves s₀ s) :
    Evolves s₀ (State.startRule s k among) := by
  unfold State.startRule
  split <;> simp (maxDischargeDepth := 16) [hw]

@[simp] theorem State.offerRequest_evolves (i : Nat) (hw : Evolves s₀ s) :
    Evolves s₀ (State.offerRequest s i) := by
  unfold State.offerRequest
  split <;> simp (maxDischargeDepth := 16) [hw]

@[simp] theorem State.evaluateRules_evolves (hw : Evolves s₀ s) :
    Evolves s₀ (State.evaluateRules s) := by
  unfold State.evaluateRules
  split <;> simp (maxDischargeDepth := 16) [hw]

@[simp] theorem State.governingChanged_evolves (x : Nat) (hw : Evolves s₀ s) :
    Evolves s₀ (State.governingChanged s x) := by
  unfold State.governingChanged
  (repeat' split) <;> simp (maxDischargeDepth := 16) [hw]

@[simp] theorem State.enteredIdle_evolves (k : Nat) (hw : Evolves s₀ s) :
    Evolves s₀ (State.enteredIdle s k) := by
  unfold State.enteredIdle
  (repeat' split) <;> simp (maxDischargeDepth := 16) [hw]

@[simp] theorem State.recomputeAuto_evolves (hw : Evolves s₀ s) :
    Evolves s₀ (State.recomputeAuto s) := by
  simp (maxDischargeDepth := 16) [State.recomputeAuto, hw]

@[simp] theorem State.markStop_evolves (r : PlanRun) (hw : Evolves s₀ s) :
    Evolves s₀ (State.markStop s r) := by
  simp (maxDischargeDepth := 16) [State.markStop, hw]

@[simp] theorem State.seqLockout_evolves (rise : Bool) (hw : Evolves s₀ s) :
    Evolves s₀ (State.seqLockout s rise) := by
  unfold State.seqLockout
  dsimp only
  repeat' first
    | with_reducible exact hw
    | with_reducible apply State.recomputeAuto_evolves
    | with_reducible apply State.markStop_evolves
    | with_reducible apply State.lockOut_evolves
    | with_reducible apply State.goLineup_evolves
    | intro _ _ _
    | with_reducible assumption
    | simp (maxDischargeDepth := 16) [hw]
    | split

@[simp] theorem State.abandonPlan_evolves (hw : Evolves s₀ s) :
    Evolves s₀ (State.abandonPlan s) := by
  unfold State.abandonPlan
  split <;> simp (maxDischargeDepth := 16) [hw]

@[simp] theorem State.stationTripSeq_evolves (hw : Evolves s₀ s) : Evolves s₀ (State.stationTripSeq s) := by
  unfold State.stationTripSeq
  dsimp only
  split <;> simp (maxDischargeDepth := 16) [hw]

@[simp] theorem State.restartSeq_evolves (hw : Evolves s₀ s) : Evolves s₀ (State.restartSeq s) := by
  unfold State.restartSeq
  extract_lets t u
  have ht : Evolves s₀ t := State.writeDemand_evolves _ (State.emptySlot_evolves
    (State.setSeqState_evolves _ (State.abandonPlan_evolves hw)))
  have hu : Evolves s₀ u := State.modSeq_evolves _ ht rfl
  exact Evolves.ite (State.halt_evolves _ hu) (Evolves.ite (State.lockOut_evolves hu) hu)

@[simp] theorem State.advanceSeq_evolves (hw : Evolves s₀ s) :
    Evolves s₀ (State.advanceSeq s) := by
  simp (maxDischargeDepth := 16) [State.advanceSeq, hw]

/-! ### The drain of the work -/

theorem State.startLoop_evolves (n : Nat) (hw : Evolves s₀ s) : Evolves s₀ (State.startLoop n s) := by
  induction n generalizing s with
  | zero => exact hw
  | succ n ih =>
    unfold State.startLoop
    split
    · split
      · exact ih (State.genEnter_evolves _ _ hw)
      · exact hw
    · exact hw

theorem State.unloadLoop_evolves (n : Nat) (hw : Evolves s₀ s) : Evolves s₀ (State.unloadLoop n s) := by
  induction n generalizing s with
  | zero => exact hw
  | succ n ih =>
    unfold State.unloadLoop
    split
    · split
      · exact ih (State.enterUnloading_evolves _ hw)
      · exact hw
    · exact hw

theorem State.surplusLoop_evolves (n : Nat) (hw : Evolves s₀ s) : Evolves s₀ (State.surplusLoop n s) := by
  induction n generalizing s with
  | zero => exact hw
  | succ n ih =>
    unfold State.surplusLoop
    split
    · split
      · exact ih (State.genEnter_evolves _ _ hw)
      · exact hw
    · exact hw

theorem State.evaluateDemand_evolves (hw : Evolves s₀ s) : Evolves s₀ (State.evaluateDemand s) := by
  unfold State.evaluateDemand
  exact Evolves.ite (State.surplusLoop_evolves _ (State.unloadLoop_evolves _ (State.startLoop_evolves _
    (State.modPar_evolves _ hw rfl)))) hw

theorem State.handle_evolves (w : Work) (hw : Evolves s₀ s) : Evolves s₀ (State.handle s w) := by
  cases w <;> simp (maxDischargeDepth := 16) [State.handle, hw]

/-- What the drain of the work leaves alone. -/
theorem State.drain_evolves (n : Nat) (hw : Evolves s₀ s) : Evolves s₀ (State.drain n s) := by
  induction n generalizing s with
  | zero => unfold State.drain; exact hw
  | succ n ih =>
    unfold State.drain
    split
    · exact hw
    · exact ih ((State.handle_evolves _ (hw.work _)).work _)


end Sys2Proof.Machine
end

section
/-! # The parts of the state that an operation touches -/

namespace Sys2Proof.Machine

/-! ### What every chain of such updates keeps -/

section
variable {s₀ s : State}

theorem Evolves.rest (h : Evolves s₀ s) : s.rest = s₀.rest := by
  induction h with
  | refl => rfl
  | work x _ ih => exact ih
  | noting t _ ih => exact ih
  | modBrk b f _ ih => exact ih
  | ask q _ ih => exact ih
  | unmatched n _ ih => exact ih
  | modGen g f _ ih => exact ih
  | modPar f hg _ ih => exact ih
  | modSeq f hs _ ih => rw [← ih]; simp [State.rest, hs]
  | @event s c p o k v _ ih =>
    obtain ⟨x, seqs, -, e⟩ := State.event_eq s c p o k v
    rw [e, ← ih]; rfl
  | sendCommand b a tag o hb _ ih => exact ih
  | sendGenset g p hg _ ih => exact ih
  | @sendPage s g p _ ih => rw [State.sendPage_eq, ← ih]; rfl
  | withdrawFrame b tag _ ih => exact ih

/-- The rises that wait to be noted are of points that move more than once within a command. -/
theorem Evolves.moving (h : Evolves s₀ s) (h₀ : ∀ p ∈ s₀.risen, movingPoint p = true) :
    ∀ p ∈ s.risen, movingPoint p = true := by
  induction h with
  | refl => exact h₀
  | work x _ ih => exact ih
  | @noting s t _ ih =>
    intro p hp
    rw [State.noting_risen, List.mem_append, List.mem_filter] at hp
    obtain hp | ⟨-, hp⟩ := hp
    · exact ih p hp
    · simp only [Bool.and_eq_true] at hp
      exact hp.1.1
  | modBrk b f _ ih => exact ih
  | ask q _ ih => exact ih
  | unmatched n _ ih => exact ih
  | modGen g f _ ih => exact ih
  | modPar f hg _ ih => exact ih
  | modSeq f hs _ ih => exact ih
  | @event s c p o k v _ ih =>
    obtain ⟨x, seqs, -, e⟩ := State.event_eq s c p o k v
    rw [e]; exact ih
  | sendCommand b a tag o hb _ ih => exact ih
  | sendGenset g p hg _ ih => exact ih
  | @sendPage s g p _ ih => rw [State.sendPage_eq]; exact ih
  | withdrawFrame b tag _ ih => exact ih

end

/-- The parts that work between the blocks may touch. -/
def workParts : List StatePart := [.links, .events, .breakers, .seq, .par]

/-! ### The parts that a handler touches -/

/-- A part is exactly as it was. -/
def StatePart.Stands (s t : State) : StatePart → Prop
  | .links => t.links = s.links
  | .aligner => t.aligner = s.aligner
  | .intake => t.intake = s.intake
  | .measures => t.measures = s.measures
  | .elements => t.elements = s.elements
  | .lines => t.lines = s.lines
  | .breakers => t.breakers = s.breakers
  | .seq => t.seq = s.seq
  | .par => t.par = s.par
  | .events => t.events = s.events
  | .capture => t.capture = s.capture
  | .mgmt => t.mgmt = s.mgmt
  | .free => t.free = s.free

theorem StatePart.Stands.trans {a b c : State} {p : StatePart} (h : p.Stands a b) (k : p.Stands b c) : p.Stands a c := by
  cases p <;> exact Eq.trans k h

/-- A handler that leads from `s` to `u` touches the parts `ps` alone, and notes no rise but of points that move more than
once; one that does not touch the sequencer hands no work on, notes no rise itself and leaves the
active tables. -/
structure Touches (ps : List StatePart) (s u : State) : Prop where
  pending : u.pending = s.pending
  moving : (∀ p ∈ s.risen, movingPoint p = true) → ∀ p ∈ u.risen, movingPoint p = true
  calm : .seq ∉ ps → u.work = s.work ∧ u.risen = s.risen ∧ u.mgmt.tables = s.mgmt.tables
  stands : ∀ p : StatePart, p ∉ ps → p.Stands s u

namespace Touches
variable {ps qs : List StatePart} {s t u : State}

theorem refl (ps : List StatePart) (s : State) : Touches ps s s where
  pending := rfl
  moving := id
  calm _ := ⟨rfl, rfl, rfl⟩
  stands p _ := by cases p <;> rfl

theorem trans (h : Touches ps s t) (k : Touches ps t u) : Touches ps s u where
  pending := k.pending.trans h.pending
  moving := k.moving ∘ h.moving
  calm hs := by
    obtain ⟨hwork, hrisen, htables⟩ := h.calm hs
    obtain ⟨kwork, krisen, ktables⟩ := k.calm hs
    exact ⟨kwork.trans hwork, krisen.trans hrisen, ktables.trans htables⟩
  stands p hp := (h.stands p hp).trans (k.stands p hp)

theorem mono (h : Touches ps s u) (hsub : ps ⊆ qs) : Touches qs s u where
  pending := h.pending
  moving := h.moving
  calm hs := h.calm (fun hm => hs (hsub hm))
  stands p hp := h.stands p (fun hm => hp (hsub hm))

theorem ite {c : Prop} [Decidable c] (ha : Touches ps s t) (hb : Touches ps s u) :
    Touches ps s (if c then t else u) := by
  split <;> assumption

theorem ite_fst {α : Type} {c : Prop} [Decidable c] {a b : State × α} (ha : Touches ps s a.1) (hb : Touches ps s b.1) :
    Touches ps s (if c then a else b).1 := by
  split <;> assumption

theorem forEach (ns : List Nat) (f : Nat → State → State) (h : Touches ps s t)
    (hf : ∀ n t, Touches ps s t → Touches ps s (f n t)) : Touches ps s (t.forEach ns f) := by
  unfold State.forEach
  induction ns generalizing t with
  | nil => exact h
  | cons n ns ih => exact ih (hf n t h)

end Touches

/-- Work between the blocks touches their parts alone. -/
theorem Evolves.touches {s u : State} (h : Evolves s u) : Touches workParts s u where
  pending := congrArg Rest.pending h.rest
  moving := h.moving
  calm hs := absurd (by simp [workParts]) hs
  stands p hp := by
    cases p with
    | links | events | breakers | seq | par => exact absurd (by simp [workParts]) hp
    | aligner => exact congrArg Rest.aligner h.rest
    | intake => exact congrArg Rest.intake h.rest
    | measures => exact congrArg Rest.measures h.rest
    | elements => exact congrArg Rest.elements h.rest
    | lines => exact congrArg Rest.lines h.rest
    | capture => exact congrArg Rest.capture h.rest
    | mgmt => exact congrArg Rest.mgmt h.rest
    | free => exact congrArg Rest.free h.rest

/-- The end of a command sees each point as the state that its work leads to. -/
theorem State.closed_point (u : State) (n : Nat) : u.closed.point n = u.point n := rfl

theorem State.noteEdges_point (s u : State) (n : Nat) : (State.noteEdges s u).point n = u.point n := rfl

/-- The end of a command goes through a state reached from the handler's by work and by GENSET frames alone, and notes the
rises to it. -/
theorem State.settle_edges (s u : State) : ∃ t, State.settle s u = (State.noteEdges s t).closed ∧ Evolves u t ∧
    (u.work = [] → t.risen = u.risen) := by
  refine ⟨State.sendSetpoints s (State.drain Config.workBound u), ?_, ?_, ?_⟩
  · obtain ⟨-, e, -⟩ := State.settle_shape s u
    unfold State.settle
    dsimp only
    generalize State.sendSetpoints s (State.drain Config.workBound u) = t
    rfl
  · refine State.forEach_evolves _ _ (State.drain_evolves _ .refl) fun g t h => ?_
    exact Evolves.ite (State.buildGenset_evolves _ h) h
  · intro hw
    rw [State.drain_of_none _ hw, (State.sendSetpoints_send s u).eq]

/-- Each rise of a trigger point is noted as often as it was made, and once where no owner made it more than once. -/
theorem State.settle_risesNoted {ps : List StatePart} {s u : State} (h : Touches ps s u) (hr : s.risen = [])
    (hw : s.work = []) (hc : u.capture = s.capture) : RisesNoted ps s (State.settle s u) := by
  obtain ⟨t, e, hev, hrisen⟩ := State.settle_edges s u
  have hcapture : t.capture = s.capture := (congrArg Rest.capture hev.rest).trans hc
  have hmoving : ∀ p ∈ t.risen, movingPoint p = true := hev.moving (h.moving (by simp [hr]))
  refine ⟨State.riseCount s t, ?_, fun p => ⟨fun hp => ?_, fun hp => ?_⟩⟩
  · rw [e, ← hcapture]; rfl
  · rw [e, risesOf, List.mem_filter] at hp
    have hup : (!s.point p && t.point p) = true := hp.2
    simp [State.riseCount, hup]
  · have hcount : t.risen.count p = 0 := by
      obtain hp | ⟨hseq, -⟩ := hp
      · exact List.count_eq_zero.2 fun hm => by simp [hmoving p hm] at hp
      · obtain ⟨hwork, hris, -⟩ := h.calm hseq
        rw [hrisen (hwork.trans hw), hris, hr]; rfl
    have hpoint : (State.settle s u).point p = t.point p := by rw [e]; rfl
    rw [hpoint, State.riseCount, hcount]
    cases s.point p <;> cases t.point p <;> simp

/-- A command whose handler touches the parts `ps` alone touches no other part, where the work that the handler hands on and
the setpoints that it changes are of parts among them. -/
theorem Touches.only {ps : List StatePart} {s u : State} (h : Touches ps s u) (hw : s.work = []) (hr : s.risen = [])
    (hwork : u.work = [] ∨ workParts ⊆ ps) (hset : (∀ g, u.setpointOf g = s.setpointOf g) ∨ (.links ∈ ps ∧ .par ∈ ps)) :
    Only ps s (State.settle s u) := by
  refine ⟨by simp, by simp, by simp, by simpa using h.pending, fun p hp => ?_, fun hc =>
    State.settle_risesNoted h hr hw (h.stands .capture hc)⟩
  have hstands := h.stands p hp
  have hdrained : p ∈ workParts → u.work = [] := fun hm => hwork.resolve_right fun hsub => hp (hsub hm)
  cases p with
  | links =>
    have hs := hset.resolve_right fun hm => hp hm.1
    rw [StatePart.Kept, State.settle_same _ _ (hdrained (by simp [workParts])) hs]
    exact hstands
  | par =>
    have hs := hset.resolve_right fun hm => hp hm.2
    rw [StatePart.Kept, State.settle_same _ _ (hdrained (by simp [workParts])) hs]
    exact hstands
  | breakers => rw [StatePart.Kept, State.settle_breakers _ _ (hdrained (by simp [workParts]))]; exact hstands
  | seq => rw [StatePart.Kept, State.settle_seq _ _ (hdrained (by simp [workParts]))]; exact hstands
  | events => rw [StatePart.Kept, State.settle_events _ _ (hdrained (by simp [workParts]))]; exact hstands
  | lines =>
    have hlines : u.lines = s.lines := hstands
    rw [StatePart.Kept, State.settle_lines, State.settle_healthy, hlines]
  | capture =>
    have hcapture : u.capture = s.capture := hstands
    rw [StatePart.Kept, State.settle_capture, hcapture]
  | aligner => rw [StatePart.Kept, State.settle_aligner]; exact hstands
  | intake => rw [StatePart.Kept, State.settle_intake]; exact hstands
  | measures => rw [StatePart.Kept, State.settle_measures]; exact hstands
  | elements => rw [StatePart.Kept, State.settle_elements]; exact hstands
  | mgmt => rw [StatePart.Kept, State.settle_mgmt]; exact hstands
  | free => rw [StatePart.Kept, State.settle_free]; exact hstands

/-- Where the work between the blocks may go to every part that it touches. -/
theorem Touches.only_working {ps : List StatePart} {s u : State} (h : Touches ps s u) (hw : s.work = []) (hr : s.risen = [])
    (hsub : workParts ⊆ ps := by decide) : Only ps s (State.settle s u) :=
  h.only hw hr (.inr hsub) (.inr ⟨hsub (by decide), hsub (by decide)⟩)

/-- Where the handler does not touch the sequencer. -/
theorem Touches.only_calm {ps : List StatePart} {s u : State} (h : Touches ps s u) (hw : s.work = []) (hr : s.risen = [])
    (hseq : .seq ∉ ps := by decide) (hset : .par ∉ ps ∨ (.links ∈ ps ∧ .par ∈ ps) := by decide) :
    Only ps s (State.settle s u) := by
  obtain ⟨hwork, -, htables⟩ := h.calm hseq
  refine h.only hw hr (.inl (hwork.trans hw)) (hset.imp_left fun hpar => ?_)
  have hunits : u.par = s.par := h.stands .par hpar
  exact State.setpointOf_congr (congrArg _ hunits) htables

/-! ### The parts of the state's operations -/

namespace Touches
variable {ps : List StatePart} {s t : State}

theorem modPort (l : Link) (f : LinkPort → LinkPort) (h : Touches ps s t) (hl : .links ∈ ps := by decide) :
    Touches ps s (t.modPort l f) := by
  refine h.trans ⟨by simp, by simp, by simp, fun p hp => ?_⟩
  cases p <;> first | exact absurd hl hp | simp [StatePart.Stands]

theorem links (x : Links) (h : Touches ps s t) (hl : .links ∈ ps := by decide) :
    Touches ps s { t with links := x } :=
  h.trans ⟨rfl, id, fun _ => ⟨rfl, rfl, rfl⟩, fun p hp => by cases p <;> first | exact absurd hl hp | rfl⟩

theorem modAligner (f : Aligner → Aligner) (h : Touches ps s t) (hl : .aligner ∈ ps := by decide) :
    Touches ps s (t.modAligner f) :=
  h.trans ⟨rfl, id, fun _ => ⟨rfl, rfl, rfl⟩, fun p hp => by cases p <;> first | exact absurd hl hp | rfl⟩

theorem intake (x : Intake) (h : Touches ps s t) (hl : .intake ∈ ps := by decide) :
    Touches ps s { t with intake := x } :=
  h.trans ⟨rfl, id, fun _ => ⟨rfl, rfl, rfl⟩, fun p hp => by cases p <;> first | exact absurd hl hp | rfl⟩

theorem modStream (k : Nat) (f : StreamRec → StreamRec) (h : Touches ps s t) (hl : .intake ∈ ps := by decide) :
    Touches ps s (t.modStream k f) := h.intake _ hl

theorem modMeasure (k : Nat) (f : StreamMeasure → StreamMeasure) (h : Touches ps s t)
    (hl : .measures ∈ ps := by decide) : Touches ps s (t.modMeasure k f) :=
  h.trans ⟨rfl, id, fun _ => ⟨rfl, rfl, rfl⟩, fun p hp => by cases p <;> first | exact absurd hl hp | rfl⟩

theorem modElement (e : Nat) (f : ElementRec → ElementRec) (h : Touches ps s t) (hl : .elements ∈ ps := by decide) :
    Touches ps s (t.modElement e f) :=
  h.trans ⟨rfl, id, fun _ => ⟨rfl, rfl, rfl⟩, fun p hp => by cases p <;> first | exact absurd hl hp | rfl⟩

theorem breakers (x : BreakerCtl) (h : Touches ps s t) (hl : .breakers ∈ ps := by decide) :
    Touches ps s { t with breakers := x } :=
  h.trans ⟨rfl, id, fun _ => ⟨rfl, rfl, rfl⟩, fun p hp => by cases p <;> first | exact absurd hl hp | rfl⟩

theorem modBrk (b : Nat) (f : BreakerRec → BreakerRec) (h : Touches ps s t) (hl : .breakers ∈ ps := by decide) :
    Touches ps s (t.modBrk b f) := h.breakers _ hl

theorem modLines (f : Lines → Lines) (h : Touches ps s t) (hl : .lines ∈ ps := by decide) :
    Touches ps s (t.modLines f) :=
  h.trans ⟨rfl, id, fun _ => ⟨rfl, rfl, rfl⟩, fun p hp => by cases p <;> first | exact absurd hl hp | rfl⟩

theorem modCapture (f : Capture → Capture) (h : Touches ps s t) (hl : .capture ∈ ps := by decide) :
    Touches ps s (t.modCapture f) :=
  h.trans ⟨rfl, id, fun _ => ⟨rfl, rfl, rfl⟩, fun p hp => by cases p <;> first | exact absurd hl hp | rfl⟩

theorem modMgmt (f : Management → Management) (h : Touches ps s t) (hl : .mgmt ∈ ps := by decide)
    (ht : (f t.mgmt).tables = t.mgmt.tables := by rfl) : Touches ps s (t.modMgmt f) :=
  h.trans ⟨rfl, id, fun _ => ⟨rfl, rfl, ht⟩, fun p hp => by cases p <;> first | exact absurd hl hp | rfl⟩

theorem setStaging (k : TableId) (x : Staging) (h : Touches ps s t) (hl : .mgmt ∈ ps := by decide) :
    Touches ps s (t.setStaging k x) := h.modMgmt _ hl

theorem setTable (k : TableId) (x : Table) (h : Touches ps s t) (hl : .mgmt ∈ ps := by decide)
    (hs : .seq ∈ ps := by decide) : Touches ps s (t.setTable k x) :=
  h.trans ⟨rfl, id, fun hn => absurd hs hn, fun p hp => by cases p <;> first | exact absurd hl hp | rfl⟩

theorem draw (h : Touches ps s t) (hl : .free ∈ ps := by decide) : Touches ps s t.draw :=
  h.trans ⟨rfl, id, fun _ => ⟨rfl, rfl, rfl⟩, fun p hp => by cases p <;> first | exact absurd hl hp | rfl⟩

/-- A closure or a part of a RESTART that is under way is no part of the state. -/
theorem underWay (x : Option Label) (y : Bool) (h : Touches ps s t) : Touches ps s { t with closing := x, hushed := y } :=
  h.trans ⟨rfl, id, fun _ => ⟨rfl, rfl, rfl⟩, fun p _ => by cases p <;> rfl⟩

theorem events (x : EventQueue) (h : Touches ps s t) (hl : .events ∈ ps := by decide) :
    Touches ps s { t with events := x } :=
  h.trans ⟨rfl, id, fun _ => ⟨rfl, rfl, rfl⟩, fun p hp => by cases p <;> first | exact absurd hl hp | rfl⟩

theorem event (c : EventClass) (priority object code : Nat) (value : Option Nat) (h : Touches ps s t)
    (hl : .links ∈ ps := by decide) (he : .events ∈ ps := by decide) :
    Touches ps s (t.event c priority object code value) := by
  obtain ⟨x, seqs, -, e⟩ := State.event_eq t c priority object code value
  rw [e]
  exact h.trans ⟨rfl, id, fun _ => ⟨rfl, rfl, rfl⟩, fun p hp => by
    cases p <;> first | exact absurd hl hp | exact absurd he hp | rfl⟩

theorem modPar (f : Paralleling → Paralleling) (h : Touches ps s t) (hl : .par ∈ ps := by decide) :
    Touches ps s (t.modPar f) :=
  h.trans ⟨rfl, id, fun _ => ⟨rfl, rfl, rfl⟩, fun p hp => by cases p <;> first | exact absurd hl hp | rfl⟩

theorem modSeq (f : Sequencer → Sequencer) (h : Touches ps s t) (hl : .seq ∈ ps := by decide) :
    Touches ps s (t.modSeq f) :=
  h.trans ⟨rfl, id, fun _ => ⟨rfl, rfl, rfl⟩, fun p hp => by cases p <;> first | exact absurd hl hp | rfl⟩

theorem modSource (x : Nat) (f : SourceRec → SourceRec) (h : Touches ps s t) (hl : .seq ∈ ps := by decide) :
    Touches ps s (t.modSource x f) := h.modSeq _ hl

theorem noting (v : State) (h : Touches ps s t) (hl : .seq ∈ ps := by decide) : Touches ps s (v.noting t) := by
  refine h.trans ⟨rfl, (Evolves.noting v .refl).moving, fun hs => absurd hl hs, fun p hp => ?_⟩
  cases p <;> rfl

theorem work {u : State} (h : Touches ps s t) (k : Evolves t u) (hsub : workParts ⊆ ps := by decide) :
    Touches ps s u := h.trans (k.touches.mono hsub)

end Touches


end Sys2Proof.Machine
end

section
/-! # The parts that the handlers touch -/

namespace Sys2Proof.Machine

/-! # The parts that each command's handler touches -/

section
-- The many short proofs of this section one after another: side by side they need more threads than the check allows.
set_option Elab.async false
variable {ps : List StatePart} {s t : State}

namespace Touches

/-! ### Reception and requests -/

theorem heard (l : Link) (h : Touches ps s t) (hl : .links ∈ ps := by decide) (he : .events ∈ ps := by decide) :
    Touches ps s (t.heard l) :=
  Touches.ite (h.modPort _ _ hl) ((h.modPort _ _ hl).event _ _ _ _ _ hl he)

theorem receive (l : Link) (c : FrameClass) (x : Header) (w : State → State) (h : Touches ps s t)
    (hw : ∀ u, Touches ps s u → Touches ps s (w u)) (hl : .links ∈ ps := by decide) (he : .events ∈ ps := by decide) :
    Touches ps s (t.receive l c x w) := by
  have hheard := h.heard l hl he
  unfold State.receive
  dsimp only
  split
  · exact h
  · exact hheard.modPort _ _ hl
  · exact hheard.modPort _ _ hl
  · exact hw _ (Touches.modPort _ _ (Touches.ite hheard (hheard.links _ hl)) hl)

theorem answer (k : Ticket) (r : Option Reply) (h : Touches ps s t) (hl : .links ∈ ps := by decide)
    (hm : .mgmt ∈ ps := by decide) : Touches ps s (t.answer k r) := by
  cases r with
  | none => exact h
  | some r =>
    rw [State.answer, State.respond_eq]
    exact h.trans ⟨rfl, id, fun _ => ⟨rfl, rfl, rfl⟩, fun p hp => by
      cases p <;> first | exact absurd hl hp | exact absurd hm hp | rfl⟩

theorem take (kind : Nat) (exempt : Bool) (q : Request) (work : Ticket → State → State × Option Reply)
    (h : Touches ps s t) (hw : ∀ k u, Touches ps s u → Touches ps s (work k u).1) (hl : .links ∈ ps := by decide)
    (hm : .mgmt ∈ ps := by decide) : Touches ps s (t.take kind exempt q work) := by
  have hplace : Touches ps s (t.onUpLinks (LinkPort.reserve (t.ticketFor kind q).number)).1 := h.links _ hl
  unfold State.take
  dsimp only
  split
  · exact hplace
  · have hcount := hplace.modMgmt (fun m => { m with taken := step32 m.taken, nextTicket := m.nextTicket + 1 }) hm
    exact Touches.ite (hcount.answer _ _ hl hm) ((hw _ _ hcount).answer _ _ hl hm)

theorem serve (l : Link) (kind : Nat) (exempt : Bool) (q : Request) (work : Ticket → State → State × Option Reply)
    (hw : ∀ k u, Touches ps s u → Touches ps s (work k u).1) (hl : .links ∈ ps := by decide)
    (he : .events ∈ ps := by decide) (hm : .mgmt ∈ ps := by decide) :
    Touches ps s (s.serve l kind exempt q work) :=
  (Touches.refl ps s).receive _ _ _ _ (fun _ hu => hu.take _ _ _ _ hw hl hm) hl he

theorem withTable (q : Request) (work : TableId → State → State × Option Reply) (h : Touches ps s t)
    (hw : ∀ k, Touches ps s (work k t).1) : Touches ps s (t.withTable q work).1 := by
  unfold State.withTable
  split
  · exact h
  · exact hw _

theorem pageReply (es : Staged) (h : Touches ps s t) (hf : .free ∈ ps := by decide) :
    Touches ps s (t.pageReply es).1 := by
  unfold State.pageReply
  dsimp only
  split
  · exact h
  · exact h.draw hf

theorem operatorDone (q : Request) (r : Reply) (h : Touches ps s t) (hl : .links ∈ ps := by decide)
    (he : .events ∈ ps := by decide) : Touches ps s (t.operatorDone q r).1 := h.event _ _ _ _ _ hl he

/-! ### The links -/

theorem mirrorCopy (l : Link) (f : OutFrame) (h : Touches ps s t) (hl : .links ∈ ps := by decide) :
    Touches ps s (t.mirrorCopy l f) := Touches.ite h (h.modPort _ _ hl)

theorem beginFrame (l : Link) (f : OutFrame) (h : Touches ps s t) (hl : .links ∈ ps := by decide)
    (hb : .breakers ∈ ps := by decide) : Touches ps s (t.beginFrame l f) := by
  unfold State.beginFrame
  dsimp only
  split
  · exact ((h.modPort _ _ hl).modBrk _ _ hb).mirrorCopy _ _ hl
  · exact Touches.ite ((h.modPort _ _ hl).modPort _ _ hl) (h.modPort _ _ hl)

theorem transmitNext (l : Link) (n : Nat) (h : Touches workParts s t) :
    Touches workParts s (State.transmitNext l n t) := by
  induction n generalizing t with
  | zero => exact h
  | succ n ih =>
    unfold State.transmitNext
    split
    · exact h
    · dsimp only
      split
      · exact (h.modPort _ _).beginFrame _ _
      · split
        · exact (h.modPort _ _).beginFrame _ _
        · exact ih (Touches.ite ((h.modPort _ _).modPort _ _)
            (((h.modPort _ _).modPort _ _).work (State.abandonClose_evolves _ _ .refl)))

theorem transmit (l : Link) (h : Touches workParts s t) : Touches workParts s (t.transmit l) :=
  Touches.ite ((h.modPort _ _).transmitNext _ _) (h.modPort _ _)

theorem dropLink (l : Link) (h : Touches [.links, .events] s t) : Touches [.links, .events] s (t.dropLink l) := by
  exact Touches.ite (((h.modPort _ _).events _).event _ _ _ _ _) h

/-! ### Streams and time -/

theorem relabel (d : Int) (h : Touches ps s t) (ha : .aligner ∈ ps := by decide) (hi : .intake ∈ ps := by decide) :
    Touches ps s (t.relabel d) :=
  (h.modAligner (fun a => { a with closingPoint := t.shifted a.closingPoint d }) ha).intake _ hi

theorem place (k seq : Nat) (f : SampleBody) (h : Touches ps s t) (hi : .intake ∈ ps := by decide) :
    Touches ps s (t.place k seq f) :=
  Touches.ite (h.modStream _ _ hi) (Touches.ite (h.modStream _ _ hi) (Touches.ite (h.modStream _ _ hi)
    (h.modStream _ _ hi)))

theorem takeSample (x : Header) (f : SampleBody) (h : Touches [.links, .events, .aligner, .intake] s t) :
    Touches [.links, .events, .aligner, .intake] s (State.takeSample x f t) := by
  unfold State.takeSample
  split
  · exact h.intake _
  · exact Touches.ite (h.intake _) (Touches.place _ _ _ (Touches.ite (((h.relabel _).modAligner _).event _ _ _ _ _) h))

theorem track (h : Touches ps s t) (hl : .links ∈ ps := by decide) (he : .events ∈ ps := by decide)
    (ha : .aligner ∈ ps := by decide) : Touches ps s t.track :=
  Touches.ite (h.modAligner _ ha) ((h.modAligner _ ha).event _ _ _ _ _ hl he)

theorem takeTime (f : TimeBody) (h : Touches [.links, .events, .aligner, .intake] s t) :
    Touches [.links, .events, .aligner, .intake] s (State.takeTime f t) :=
  Touches.ite (h.modAligner _) (Touches.ite (h.modAligner _).track
    (((h.relabel _).modAligner _).event _ _ _ _ _).track)

theorem holdover (h : Touches [.links, .events, .aligner] s t) : Touches [.links, .events, .aligner] s t.holdover :=
  Touches.ite ((h.modAligner _).event _ _ _ _ _) h

theorem enterStream (k : Nat) (h : Touches ps s t) (hi : .intake ∈ ps := by decide) (hm : .measures ∈ ps := by decide) :
    Touches ps s (t.enterStream k) := (h.modStream _ _ hi).modMeasure _ _ hm

theorem stepCounter (h : Touches ps s t) (ha : .aligner ∈ ps := by decide) (hi : .intake ∈ ps := by decide)
    (hm : .measures ∈ ps := by decide) : Touches ps s t.stepCounter :=
  Touches.ite (Touches.forEach _ _ (((h.modAligner _ ha).modAligner _ ha).modAligner _ ha)
    fun _ _ hu => Touches.ite (hu.enterStream _ hi hm) hu) (h.modAligner _ ha)

theorem sendAttempt (h : Touches ps s t) (hl : .links ∈ ps := by decide) (he : .events ∈ ps := by decide) :
    Touches ps s t.sendAttempt := by
  have hsend : ∀ (u : State) (b : Bool), Touches ps s u → Touches ps s (u.sendEvents b) := fun u b hu => by
    obtain ⟨x, seqs, e⟩ := State.sendEvents_eq u b
    rw [e]
    exact hu.trans ⟨rfl, id, fun _ => ⟨rfl, rfl, rfl⟩, fun p hp => by
      cases p <;> first | exact absurd hl hp | exact absurd he hp | rfl⟩
  exact hsend _ _ (hsend _ _ h)

/-! ### Sources -/

theorem setSource (x : Nat) (new : SourceState) (delay : Nat) (h : Touches ps s t) (hsub : workParts ⊆ ps := by decide) :
    Touches ps s (t.setSource x new delay) := by
  have hseq : .seq ∈ ps := hsub (by decide)
  exact Touches.event _ _ _ _ _ ((h.modSource x _ hseq).noting _ hseq) (hsub (by decide)) (hsub (by decide))

theorem moveSource (x : Nat) (b : Bool) (h : Touches ps s t) (hsub : workParts ⊆ ps := by decide) :
    Touches ps s (t.moveSource x b) := by
  have hseq : .seq ∈ ps := hsub (by decide)
  have hset : ∀ new d, Touches ps s ((t.setSource x new d).governingChanged x) := fun new d =>
    (h.setSource x new d hsub).work (State.governingChanged_evolves _ .refl) hsub
  unfold State.moveSource
  dsimp only
  split
  · exact hset _ _
  · exact Touches.ite h (hset _ _)
  · exact h.modSource _ _ hseq
  · exact hset _ _
  · exact h.modSource _ _ hseq
  · exact Touches.ite h (hset _ _)
  · exact h

theorem evaluateSource (x : Nat) (h : Touches ps s t) (hsub : workParts ⊆ ps := by decide) :
    Touches ps s (State.evaluateSource x t) := by
  have hseq : .seq ∈ ps := hsub (by decide)
  unfold State.evaluateSource
  dsimp only
  refine Touches.ite h (Touches.ite (Touches.ite h ((h.modSource _ _ hseq).setSource _ _ _ hsub))
    (Touches.ite (h.moveSource _ _ hsub) ?_))
  split
  · exact (h.setSource _ _ _ hsub).moveSource _ _ hsub
  · exact (h.setSource _ _ _ hsub).work (State.governingChanged_evolves _ .refl) hsub

theorem failExpiry (x : Nat) (h : Touches workParts s t) : Touches workParts s (t.failExpiry x) :=
  Touches.ite ((h.setSource _ _ _).work (State.governingChanged_evolves _ .refl)) h

theorem restoreExpiry (x : Nat) (h : Touches workParts s t) : Touches workParts s (t.restoreExpiry x) :=
  Touches.ite ((h.setSource _ _ _).work (State.governingChanged_evolves _ .refl)) h

theorem activateSource (x : Nat) (h : Touches ps s t) (hsub : workParts ⊆ ps := by decide) :
    Touches ps s (State.activateSource x t) :=
  Touches.ite (h.modSource _ _ (hsub (by decide)))
    (Touches.event _ _ _ _ _ (h.modSource _ _ (hsub (by decide))) (hsub (by decide)) (hsub (by decide)))

/-! ### The advance of the counter -/

/-- The parts that an advance of the counter touches. -/
abbrev advanceParts : List StatePart := [.links, .events, .aligner, .intake, .measures, .breakers, .seq, .par]

theorem advanceOnce (h : Touches advanceParts s t) : Touches advanceParts s t.advanceOnce := by
  have hstep : Touches advanceParts s t.advanceSilence.stepCounter.advanceBreakers.advanceSeq :=
    (((h.links _).stepCounter).breakers _).work (State.advanceSeq_evolves .refl)
  exact ((hstep.forEach _ _ fun x _ hu => hu.evaluateSource x).work (State.advanceGens_evolves .refl)).sendAttempt

theorem advanceInstant (h : Touches advanceParts s t) : Touches advanceParts s t.advanceInstant := by
  unfold State.advanceInstant
  dsimp only
  split
  · exact h.modAligner _
  · exact (h.modAligner _).advanceOnce.advanceOnce
  · exact h.advanceOnce
  · exact h.advanceOnce

/-! ### The closure of an instant -/

/-- The parts that the closure of an instant touches. -/
abbrev closureParts : List StatePart :=
  [.links, .aligner, .intake, .measures, .elements, .lines, .breakers, .seq, .par, .events, .capture, .mgmt]

theorem askAll (bs : List Nat) (f : Nat → State → State) (hf : ∀ b u, (∃ q, f b u = { u with breakers := q }))
    (h : Touches ps s t) (hb : .breakers ∈ ps := by decide) : Touches ps s (t.forEach bs f) :=
  h.forEach _ _ fun b u hu => by
    obtain ⟨q, e⟩ := hf b u
    rw [e]
    exact hu.breakers _ hb

theorem elementOutputs (e : Nat) (trips : List Nat) (old new : ElementState) (x : Int) (h : Touches ps s t)
    (hl : .links ∈ ps := by decide) (he : .events ∈ ps := by decide) (hb : .breakers ∈ ps := by decide) :
    Touches ps s (t.elementOutputs e trips old new x) := by
  have hin := Touches.ite (c := (new == .operated && old != .operated) = true)
    ((h.askAll trips (fun b u => u.askAdd b (.element e)) (fun b u => ⟨_, rfl⟩) hb).event .protection 13 e 1
      (some (unsignedOf 32 x)) hl he) h
  have hout := Touches.ite (c := (old == .operated && new != .operated) = true)
    ((hin.askAll trips (fun b u => u.askRemove b (.element e)) (fun b u => ⟨_, rfl⟩) hb).event .protection 7 e 2
      (if new == .armed then none else some 1) hl he) hin
  exact Touches.ite (hout.event _ _ _ _ _ hl he) (Touches.ite (hout.event _ _ _ _ _ hl he) hout)

theorem elementWork (image : List Bool) (e : Nat) (h : Touches ps s t) (hl : .links ∈ ps := by decide)
    (he : .events ∈ ps := by decide) (hb : .breakers ∈ ps := by decide) (hx : .elements ∈ ps := by decide) :
    Touches ps s (State.elementWork image e t) := (h.modElement _ _ hx).elementOutputs _ _ _ _ _ hl he hb

theorem protectionWork (image : List Bool) (h : Touches ps s t) (hl : .links ∈ ps := by decide)
    (he : .events ∈ ps := by decide) (hb : .breakers ∈ ps := by decide) (hx : .elements ∈ ps := by decide) :
    Touches ps s (t.protectionWork image) := h.forEach _ _ fun e _ hu => hu.elementWork _ e hl he hb hx

theorem activateElement (old : Table) (e : Nat) (h : Touches closureParts s t) :
    Touches closureParts s (t.activateElement old e) := by
  refine Touches.ite h (Touches.ite ((h.modElement _ _).elementOutputs _ _ _ _ _) (Touches.ite ?_ h))
  exact (h.askAll _ _ fun b u => ⟨_, rfl⟩).askAll _ _ fun b u => ⟨_, rfl⟩

theorem activateWaiting (k : TableId) (h : Touches closureParts s t) : Touches closureParts s (t.activateWaiting k) := by
  unfold State.activateWaiting
  split
  · exact h
  next w _ =>
    have hu : Touches closureParts s (if k == .element then t.activateElements w.content else t.setTable k w.content) :=
      Touches.ite ((h.setTable _ _).forEach _ _ fun e _ hv => hv.activateElement _ e) (h.setTable _ _)
    exact Touches.answer w.ticket (some (Reply.of .done)) ((hu.setStaging _ _).event _ _ _ _ _)

theorem intakeWork (h : Touches ps s t) (hl : .links ∈ ps := by decide) (he : .events ∈ ps := by decide)
    (hi : .intake ∈ ps := by decide) : Touches ps s t.intakeWork := by
  refine h.forEach _ _ fun k u hu => Touches.ite hu ?_
  have hnew := hu.modStream k (fun _ => (u.stream k).close u.aligner.closingPoint) hi
  exact Touches.ite (hnew.event _ _ _ _ _ hl he) (Touches.ite (hnew.event _ _ _ _ _ hl he) hnew)

theorem passClosingPoint (h : Touches ps s t) (ha : .aligner ∈ ps := by decide) : Touches ps s t.passClosingPoint :=
  h.modAligner _ ha

theorem phasorWork (l : Label) (h : Touches ps s t) (hm : .measures ∈ ps := by decide) : Touches ps s (t.phasorWork l) :=
  h.forEach _ _ fun _ _ hu => Touches.ite hu (hu.modMeasure _ _ hm)

theorem sampleLockout (pin : Bool) (h : Touches closureParts s t) : Touches closureParts s (t.sampleLockout pin) := by
  have hpin := h.modLines (fun l => { l with lockoutPin := pin, lastSample := some pin })
  have hchange := hpin.modLines (fun l => { l with lockout := pin, lockoutChanges := l.lockoutChanges ++ [pin] })
  exact Touches.ite hpin (Touches.ite ((hchange.event _ _ _ _ _).work (State.lockoutGens_evolves .refl))
    (hchange.event _ _ _ _ _))

theorem captureWork (l : Label) (h : Touches ps s t) (hl : .links ∈ ps := by decide) (he : .events ∈ ps := by decide)
    (hc : .capture ∈ ps := by decide) : Touches ps s (t.captureWork l) := by
  have hring := h.modCapture (fun c =>
    { c with ring := if t.captureArmed then pushRing c.ring (t.instantRecord l) else [] }) hc
  have hbuffer := hring.modCapture (fun c => { c with buffer := c.buffer ++ [t.instantRecord l] }) hc
  exact Touches.ite hring (Touches.ite ((hbuffer.modCapture _ hc).event _ _ _ _ _ hl he) hbuffer)

theorem closureWork (pin : Bool) (h : Touches closureParts s t) : Touches closureParts s (t.closureWork pin) := by
  have hmeasured := ((h.underWay (some (t.labelOf t.aligner.closingPoint)) t.hushed).intakeWork.passClosingPoint
    ).phasorWork (t.labelOf t.aligner.closingPoint)
  have hprotected := ((hmeasured.activateWaiting .curve).activateWaiting .element).protectionWork
    ((State.intakeWork { t with closing := some (t.labelOf t.aligner.closingPoint) }).passClosingPoint.phasorWork
      (t.labelOf t.aligner.closingPoint)).image
  have htested := (hprotected.sampleLockout pin).forEach (List.range 24) (fun b x => x.testBf b)
    fun b _ hu => hu.work (State.testBf_evolves _ .refl)
  exact (htested.work (State.parallelingWork_evolves .refl)).captureWork _

/-! ### The management unit -/

/-- The parts that a COMMIT touches. -/
abbrev commitParts : List StatePart :=
  [.links, .intake, .measures, .breakers, .seq, .par, .events, .capture, .mgmt, .free]

theorem activateStation (new : Table) (h : Touches commitParts s t) : Touches commitParts s (t.activateStation new) := by
  have hset := (h.setTable .station new).links
    { t.links with windows := rebuildWindows (namedAddresses (t.setTable .station new).mgmt.tables
        t.mgmt.configured) t.links.windows }
  have hask := Touches.ite (c := (t.setTable .station new).rebuild.lines.tripLatch = true)
    ((hset.askAll (((t.setTable .station new).rebuild.stationTripSet).filter (fun b => !t.stationTripSet.contains b))
      (fun b x => x.askAdd b .stationTrip) fun b u => ⟨_, rfl⟩).askAll
        (t.stationTripSet.filter (fun b => !((((t.setTable .station new).rebuild)).stationTripSet).contains b))
          (fun b x => x.askRemove b .stationTrip) fun b u => ⟨_, rfl⟩) hset
  exact Touches.ite hask (hask.work (State.recomputeAuto_evolves .refl))

theorem activate (k : TableId) (new : Table) (changed : List Nat) (h : Touches commitParts s t) :
    Touches commitParts s (t.activate k new changed) := by
  have hset := h.setTable k new
  have hrebuild : Touches commitParts s (t.setTable k new).rebuild := hset.links _
  unfold State.activate
  dsimp only
  split
  · exact h.activateStation new
  · exact hset.forEach _ _ fun _ _ hu => hu.enterStream _
  · exact hrebuild.forEach _ _ fun _ _ hu => hu.work (State.activateBreaker_evolves _ _ .refl)
  · exact hset.forEach _ _ fun x _ hu => hu.activateSource x
  · exact hset.work (State.followLineup_evolves .refl)
  · exact hset.work (State.emptySlot_evolves .refl)
  · exact hset.work (State.emptySlot_evolves .refl)
  · exact hrebuild.work (State.activateGens_evolves _ .refl)
  · exact hset.modCapture _
  all_goals exact hset

theorem refuseCommit (x : TableId) (r : Reply) (h : Touches commitParts s t) :
    Touches commitParts s (t.refuseCommit x r).1 := h.setStaging _ _

theorem tableRefused (x : TableId) (n : Nat) (h : Touches commitParts s t) :
    Touches commitParts s (t.tableRefused x n) := h.event _ _ _ _ _

theorem emptyStaging (x : TableId) (h : Touches commitParts s t) : Touches commitParts s (t.emptyStaging x) :=
  h.setStaging _ _

theorem tableCommitted (x : TableId) (n : Nat) (h : Touches commitParts s t) :
    Touches commitParts s (t.event .management 6 x.number 6 (some n)) := h.event _ _ _ _ _

theorem commitChecked (k : Ticket) (x : TableId) (new : Table) (crc : Nat) (h : Touches commitParts s t) :
    Touches commitParts s (t.commitChecked k x new crc).1 := by
  unfold State.commitChecked
  dsimp only
  split
  · exact h.setStaging _ _
  split
  · exact h
  · have hactive : Touches commitParts s
        (if (changedEntries (t.table x) new).isEmpty then t else t.activate x new (changedEntries (t.table x) new)) :=
      Touches.ite h (h.activate _ _ _)
    dsimp only
    exact (hactive.emptyStaging x).tableCommitted x crc

theorem commitTable (k : Ticket) (q : Request) (x : TableId) (h : Touches commitParts s t) :
    Touches commitParts s (State.commitTable k q x t).1 := by
  unfold State.commitTable
  dsimp only
  split
  · exact h
  split
  · exact h
  split
  · exact h.refuseCommit _ _
  split
  · exact (h.draw.tableRefused _ _).refuseCommit _ _
  split
  · exact (h.tableRefused _ _).refuseCommit _ _
  split
  · exact h.refuseCommit _ _
  · exact h.commitChecked _ _ _ _

theorem writeSegment (q : Request) (x : TableId) (h : Touches ps s t) (hm : .mgmt ∈ ps := by decide)
    (hf : .free ∈ ps := by decide) : Touches ps s (State.writeSegment q x t).1 := by
  unfold State.writeSegment
  dsimp only
  refine Touches.ite_fst h (Touches.ite_fst (h.setStaging _ _ hm) (Touches.ite_fst (h.setStaging _ _ hm) ?_))
  split
  · unfold State.segmentRefused
    split
    · exact h.setStaging _ _ hm
    · exact (h.setStaging _ _ hm).draw hf
  · exact h.setStaging _ _ hm

theorem readTable (q : Request) (x : TableId) (h : Touches ps s t) (hf : .free ∈ ps := by decide) :
    Touches ps s (State.readTable q x t).1 := by
  unfold State.readTable
  split
  · exact h.pageReply _ hf
  · exact Touches.ite_fst h (h.pageReply _ hf)
  · exact h

theorem readCapture (q : Request) (h : Touches ps s t) (hf : .free ∈ ps := by decide) :
    Touches ps s (State.readCapture q t).1 := by
  refine Touches.ite_fst h (Touches.ite_fst h ?_)
  split
  · exact h.draw hf
  · exact h

theorem completeStore (n : Nat) (h : Touches [.links, .events, .mgmt] s t) :
    Touches [.links, .events, .mgmt] s (State.completeStore n t) := by
  unfold State.completeStore
  split
  · exact h
  · refine Touches.ite (Touches.answer _ _ (Touches.event _ _ _ _ _ ?_)) (((h.modMgmt _).event _ _ _ _ _).answer _ _)
    exact Touches.ite (h.modMgmt _) (Touches.links _ ((h.modMgmt _).modMgmt _))

/-- The parts that a block's part of a RESTART touches. -/
abbrev restartParts : List StatePart :=
  [.links, .intake, .measures, .elements, .breakers, .seq, .par, .events, .capture, .mgmt]

theorem releaseCapture (h : Touches ps s t) (hc : .capture ∈ ps := by decide) (hl : .links ∈ ps := by decide)
    (he : .events ∈ ps := by decide) : Touches ps s t.releaseCapture :=
  Touches.ite h ((h.modCapture _ hc).event _ _ _ _ _ hl he)

theorem restartPart (k : Block) (h : Touches restartParts s t) : Touches restartParts s (t.restartPart k) := by
  cases k with
  | streams => exact h.forEach _ _ fun _ _ hu => hu.enterStream _
  | protection => exact h.forEach _ _ fun _ _ hu => (hu.modElement _ _).elementOutputs _ _ _ _ _
  | breakers => exact h.work (State.restartBreakers_evolves .refl)
  | sequencer => exact h.work (State.restartSeq_evolves .refl)
  | paralleling => exact h.work (State.restartParalleling_evolves .refl)
  | capture => exact h.releaseCapture.modCapture (fun c => { c with ring := [] })
  | management => exact h.modMgmt (fun m => { m with staging := List.replicate 13 {} })

theorem closeRestart (h : Touches restartParts s t) : Touches restartParts s t.closeRestart :=
  Touches.ite ((h.modMgmt _).event _ _ _ _ _) h

theorem blockRestart (k : Block) (h : Touches restartParts s t) : Touches restartParts s (State.blockRestart k t) := by
  unfold State.blockRestart
  split
  · exact h
  · exact Touches.ite (((h.underWay t.closing true).restartPart k).modMgmt _).closeRestart h

end Touches
end

end Sys2Proof.Machine
end

section
/-! # The frame of every command -/

namespace Sys2Proof.Machine

/-! # Every command touches its parts -/

section
-- The many short proofs of this section one after another: side by side they need more threads than the check allows.
set_option Elab.async false
variable {ps : List StatePart} {s t : State}

namespace Touches

/-! ### Frames, demands and lines -/

theorem receiveMalformed (l : Link) (f : RawFrame) (h : Touches ps s t) (hl : .links ∈ ps := by decide) :
    Touches ps s (t.receiveMalformed l f) := by
  unfold State.receiveMalformed
  split
  · exact h.modPort _ _ hl
  · exact h

theorem receiveIgnored (l : Link) (f : RawFrame) (h : Touches ps s t) (hl : .links ∈ ps := by decide)
    (he : .events ∈ ps := by decide) : Touches ps s (t.receiveIgnored l f) := by
  unfold State.receiveIgnored
  split
  · exact (h.heard l hl he).modPort _ _ hl
  · exact h

theorem receiveSecond (l : Link) (f : RawFrame) (h : Touches ps s t) (hl : .links ∈ ps := by decide)
    (he : .events ∈ ps := by decide) : Touches ps s (t.receiveSecond l f) := by
  unfold State.receiveSecond
  split
  · exact (h.heard l hl he).modPort _ _ hl
  · exact h

theorem receiveWorking (l : Link) (c : FrameClass) (x : Header) (w : State → State) (h : Touches ps s t)
    (hw : ∀ u, Evolves u (w u)) (hsub : workParts ⊆ ps := by decide) : Touches ps s (t.receive l c x w) :=
  h.receive l c x w (fun u hu => hu.work (hw u) hsub) (hsub (by decide)) (hsub (by decide))

theorem takePage (x : Header) (f : Page) (h : Touches [.links, .events, .breakers, .seq, .par, .free] s t) :
    Touches [.links, .events, .breakers, .seq, .par, .free] s (State.takePage x f t) := by
  have hack : ∀ g toggle c v u, Touches [.links, .events, .breakers, .seq, .par, .free] s u →
      Touches [.links, .events, .breakers, .seq, .par, .free] s (u.sendAck g toggle c v) :=
    fun g toggle c v u hu => hu.draw.work (State.sendPage_evolves _ _ .refl)
  unfold State.takePage
  split
  · exact h
  next g _ =>
    have hgap := h.work (State.modGen_evolves g (fun r => { r with exchange := { r.exchange with gap := 0 } }) .refl)
    refine Touches.ite h ?_
    dsimp only
    split
    · exact hgap.work (State.takeBase_evolves _ _ _ .refl)
    next c v _ _ =>
      have hsent := fun toggle k => hack g toggle c v _ (hgap.work (State.modGen_evolves g k .refl))
      exact Touches.ite (Touches.ite (hsent _ _) ((hsent _ _).work (State.exchangeDone_evolves _ .refl)))
        (Touches.ite (hack g _ _ _ _ hgap) hgap)
    · exact hgap

theorem addDemand (b : Nat) (m : Member) (h : Touches workParts s t) :
    Touches workParts s (t.takeDemand ⟨true, b, m⟩) :=
  Touches.ite ((h.breakers _).work (State.addMember_evolves _ _ .refl)) h

theorem removeDemand (b : Nat) (m : Member) (h : Touches [.breakers] s t) :
    Touches [.breakers] s (t.takeDemand ⟨false, b, m⟩) :=
  Touches.ite ((h.breakers _).modBrk _ _) h

theorem issueBackup (b : Nat) (h : Touches [.links, .events, .breakers] s t) :
    Touches [.links, .events, .breakers] s (t.issueBackup b) :=
  ((h.modBrk _ _).askAll _ _ fun _ _ => ⟨_, rfl⟩).event _ _ _ _ _

theorem backup (b : Nat) (h : Touches [.links, .events, .breakers] s t) :
    Touches [.links, .events, .breakers] s (t.backup b) := Touches.ite (h.issueBackup b) h

theorem stationTrip (h : Touches [.links, .events, .lines, .breakers, .seq, .par] s t) :
    Touches [.links, .events, .lines, .breakers, .seq, .par] s t.stationTrip := by
  have hasked := (h.modLines (fun l => { l with tripLatch := true, tripEdges := step32 l.tripEdges })).askAll
    (bitSet (t.station 9) 24) (fun b v => v.askAdd b .stationTrip) fun _ _ => ⟨_, rfl⟩
  have hstopped := hasked.work (State.stationTripGens_evolves (State.stationTripSeq_evolves .refl))
  unfold State.stationTrip
  exact hstopped.event _ _ _ _ _

theorem tripEdge (h : Touches [.links, .events, .lines, .breakers, .seq, .par] s t) :
    Touches [.links, .events, .lines, .breakers, .seq, .par] s t.tripEdge :=
  Touches.ite h (Touches.ite ((h.modLines _).modLines _) (h.modLines _).stationTrip)

theorem takeLockoutChange (h : Touches [.links, .events, .lines, .breakers, .seq, .par] s t) :
    Touches [.links, .events, .lines, .breakers, .seq, .par] s t.takeLockoutChange := by
  unfold State.takeLockoutChange
  split
  · exact h
  · exact (h.modLines _).work (State.seqLockout_evolves _ .refl)

theorem captureTrigger (p : Nat) (h : Touches [.links, .events, .capture] s t) :
    Touches [.links, .events, .capture] s (t.captureTrigger p) := by
  have hedge := h.modCapture (fun c => { c with edges := c.edges.erase p })
  refine Touches.ite h ?_
  dsimp only
  split
  · exact Touches.ite ((hedge.modCapture _).event _ _ _ _ _) hedge
  · exact (hedge.modCapture _).event _ _ _ _ _

/-! ### The paralleling unit's own timers -/

theorem modGen (g : Nat) (f : GenRec → GenRec) (h : Touches ps s t) (hp : .par ∈ ps := by decide) :
    Touches ps s (t.modGen g f) := h.modPar _ hp

theorem setChannel (c : Nat) (r : Option SyncRun) (h : Touches ps s t) (hp : .par ∈ ps := by decide) :
    Touches ps s (t.setChannel c r) := h.modPar _ hp

theorem correct (c : Nat) (h : Touches ps s t) (hp : .par ∈ ps := by decide) : Touches ps s (t.correct c) := by
  unfold State.correct
  split
  · exact h
  · exact ((h.forEach _ _ fun _ _ hu => hu.modGen _ _ hp).modPar _ hp).setChannel _ _ hp

theorem correctionExpiry (c : Nat) (h : Touches ps s t) (hp : .par ∈ ps := by decide) :
    Touches ps s (t.correctionExpiry c) := by
  unfold State.correctionExpiry
  split
  · exact h
  · exact Touches.ite h (Touches.ite (h.setChannel _ _ hp) ((h.setChannel _ _ hp).correct _ hp))

theorem refresh (g : Nat) (h : Touches ps s t) (hl : .links ∈ ps := by decide) (hp : .par ∈ ps := by decide) :
    Touches ps s (t.refresh g) := by
  refine Touches.ite ?_ h
  unfold State.buildGenset
  split
  · exact h
  · exact Touches.ite h (Touches.modGen _ _ (h.links _ hl) hp)

theorem startRun (c : Nat) (client : Party) (b g bus entry : Nat) (h : Touches [.links, .par, .seq] s t) :
    Touches [.links, .par, .seq] s (t.startRun c client b g bus entry) :=
  ((h.setChannel _ _).noting t).correct c

theorem setWait (w : StepWait) (h : Touches ps s t) (hs : .seq ∈ ps := by decide) : Touches ps s (t.setWait w) := by
  unfold State.setWait State.modRun
  exact h.modSeq _ hs

theorem stepRun (r : PlanRun) (h : Touches [.links, .par, .seq] s t) : Touches [.links, .par, .seq] s (t.stepRun r) :=
  (h.startRun 0 .sequencer (t.stepBreaker r) (t.stepField r.plan r.step 2) (t.stepField r.plan r.step 3) 8).setWait _

theorem seqRetry (h : Touches [.links, .par, .seq] s t) : Touches [.links, .par, .seq] s t.seqRetry := by
  unfold State.seqRetry
  split
  · split
    · exact Touches.ite (h.stepRun _) h
    · exact h
  · exact h

/-! ### Requests -/

theorem operate (l : Link) (q : Request) (work : State → State × Option Reply)
    (hw : ∀ u, Touches ps s u → Touches ps s (work u).1) (hl : .links ∈ ps := by decide) (he : .events ∈ ps := by decide)
    (hm : .mgmt ∈ ps := by decide) : Touches ps s (s.operate l q work) :=
  Touches.serve l 7 false q (fun _ => work) (fun _ => hw) hl he hm

theorem discardStaging (x : TableId) (h : Touches ps s t) (hm : .mgmt ∈ ps := by decide) :
    Touches ps s (State.discardStaging x t).1 := Touches.ite_fst h (h.setStaging _ _ hm)

theorem readArea (q : Request) (h : Touches ps s t) (hf : .free ∈ ps := by decide) :
    Touches ps s (State.readArea q t).1 := by
  unfold State.readArea
  split
  · exact h
  · exact h.pageReply _ hf

theorem rearm (h : Touches [.links, .aligner, .intake, .breakers, .events, .mgmt] s t) :
    Touches [.links, .aligner, .intake, .breakers, .events, .mgmt] s t.rearm :=
  h.trans ⟨rfl, id, fun _ => ⟨rfl, rfl, rfl⟩, fun p hp => by cases p <;> first | rfl | exact absurd (by decide) hp⟩

theorem readEvents (q : Request) (h : Touches ps s t) : Touches ps s (State.readEvents q t).1 :=
  Touches.ite_fst h (Touches.ite_fst h h)

theorem acceptStore (k : Ticket) (h : Touches ps s t) (hm : .mgmt ∈ ps := by decide) :
    Touches ps s (State.acceptStore k t).1 := by
  unfold State.acceptStore
  dsimp only
  split
  · exact h
  split
  · exact h
  · dsimp only
    exact h.modMgmt _ hm

theorem startRestart (h : Touches ps s t) (hm : .mgmt ∈ ps := by decide) : Touches ps s t.startRestart.1 := by
  unfold State.startRestart
  split
  · exact h
  · dsimp only
    exact h.modMgmt _ hm

theorem afterAnswer (q : Request) {r : State × Answer} (h : Touches ps s r.1) (hl : .links ∈ ps := by decide)
    (he : .events ∈ ps := by decide) : Touches ps s (State.afterAnswer q r).1 :=
  Touches.ite_fst (h.operatorDone q _ hl he) h

theorem issueCommand (b : Nat) (h : Touches ps s t) (hl : .links ∈ ps := by decide) (he : .events ∈ ps := by decide)
    (hb : .breakers ∈ ps := by decide) : Touches ps s (t.issueCommand b) := by
  unfold State.issueCommand
  split
  · exact h
  · refine Touches.ite (h.modBrk _ _ hb) ?_
    have hsent := fun f x => (h.modBrk b f hb).links x hl
    exact Touches.ite ((hsent _ _).event _ _ _ _ _ hl he) (hsent _ _)

theorem takeClose (b : Nat) (k : CloseKind) (q : Requester) (o : Origins) (g : Option Nat) (h : Touches ps s t)
    (hl : .links ∈ ps := by decide) (he : .events ∈ ps := by decide) (hb : .breakers ∈ ps := by decide) :
    Touches ps s (t.takeClose b k q o g) := by
  unfold State.takeClose
  dsimp only
  split
  · exact (h.modBrk _ _ hb).issueCommand b hl he hb
  · exact h.modBrk _ _ hb

theorem operatorClose (q : Request) (h : Touches [.links, .events, .breakers, .mgmt] s t) :
    Touches [.links, .events, .breakers, .mgmt] s (State.operatorClose q t).1 := by
  refine Touches.ite_fst h (Touches.afterAnswer q ?_)
  unfold State.closeRequest
  dsimp only
  split
  · exact h.modBrk _ _
  split
  · exact h
  split
  · exact h
  split
  · exact h.modBrk _ _
  · dsimp only
    exact h.takeClose _ _ _ _ _

theorem operatorDemand (q : Request) (h : Touches [.links, .events, .par, .mgmt] s t) :
    Touches [.links, .events, .par, .mgmt] s (State.operatorDemand q t).1 := (h.modPar _).operatorDone q _

theorem startGens (q : Request) (h : Touches [.links, .events, .par, .mgmt] s t) :
    Touches [.links, .events, .par, .mgmt] s (State.startGens q t).1 :=
  Touches.ite_fst h (Touches.ite_fst h (Touches.ite_fst h (h.operatorDemand q)))

theorem stopGens (q : Request) (h : Touches [.links, .events, .par, .mgmt] s t) :
    Touches [.links, .events, .par, .mgmt] s (State.stopGens q t).1 :=
  Touches.ite_fst h (Touches.ite_fst h (Touches.ite_fst h (h.operatorDemand q)))

/-- The parts that most kinds of OPERATE touch. -/
abbrev operateParts : List StatePart := [.links, .events, .breakers, .seq, .par, .mgmt]

theorem operatorOpen (q : Request) (h : Touches operateParts s t) : Touches operateParts s (State.operatorOpen q t).1 :=
  Touches.ite_fst h (Touches.afterAnswer q (h.work (State.openRequest_evolves _ _ _ .refl)))

theorem runPlan (q : Request) (h : Touches operateParts s t) : Touches operateParts s (State.runPlan q t).1 := by
  refine Touches.ite_fst h ?_
  split
  · exact h
  · exact h
  · exact h
  · exact h
  · exact Touches.ite_fst (h.work (State.startPlan_evolves _ _ .refl)) h

theorem setAuto (q : Request) (h : Touches operateParts s t) : Touches operateParts s (State.setAuto q t).1 := by
  refine Touches.ite_fst h ?_
  exact Touches.ite (h.setTable _ _) (((h.setTable _ _).event _ _ _ _ _).work (State.recomputeAuto_evolves .refl))

theorem acknowledgeHalt (h : Touches operateParts s t) : Touches operateParts s t.acknowledgeHalt.1 := by
  unfold State.acknowledgeHalt
  split
  · exact Touches.ite_fst h ((h.event _ _ _ _ _).work (State.goLineup_evolves .refl))
  · exact h

theorem clearGenFault (q : Request) (h : Touches operateParts s t) : Touches operateParts s (State.clearGenFault q t).1 :=
  Touches.ite_fst h (Touches.ite_fst h (Touches.ite_fst h
    (((h.modGen _ _).work (State.genEnter_evolves _ _ .refl)).operatorDone q _)))

theorem operatorRenegotiate (q : Request) (h : Touches operateParts s t) :
    Touches operateParts s (State.operatorRenegotiate q t).1 :=
  Touches.ite_fst h (Touches.ite_fst h (Touches.ite_fst ((h.modGen _ _).operatorDone q _)
    ((h.work (State.renegotiate_evolves _ .refl)).operatorDone q _)))

theorem clearStationTrip (h : Touches [.links, .events, .lines, .breakers, .mgmt] s t) :
    Touches [.links, .events, .lines, .breakers, .mgmt] s t.clearStationTrip.1 :=
  Touches.ite_fst h (Touches.ite_fst
    (((h.modLines _).askAll _ _ fun _ _ => ⟨_, rfl⟩).event _ _ _ _ _) h)

theorem setPoint (q : Request) (h : Touches [.links, .events, .mgmt] s t) :
    Touches [.links, .events, .mgmt] s (State.setPoint q t).1 :=
  Touches.ite_fst h (Touches.ite_fst h (Touches.ite h ((h.modMgmt _).event _ _ _ _ _)))

end Touches

/-! ### Every command -/

theorem State.correct_work (s : State) (c : Nat) : (s.correct c).work = s.work := by
  have hwrite : ∀ (gs : List Nat) (r : SyncRun) (t : State), (t.forEach gs (fun g u => u.writeBiases r g)).work = t.work := by
    intro gs r
    unfold State.forEach
    induction gs with
    | nil => exact fun t => rfl
    | cons g gs ih => exact fun t => (ih _).trans (by simp [State.writeBiases])
  unfold State.correct
  split
  · rfl
  · simp [State.disown, hwrite]

theorem State.seqRetry_work (s : State) : s.seqRetry.work = s.work := by
  have hrun : ∀ r, (s.stepRun r).work = s.work := fun r =>
    (State.correct_work _ 0).trans rfl
  unfold State.seqRetry
  split
  · split
    · split
      · exact hrun _
      · rfl
    · rfl
  · rfl

/-- No closure and no part of a RESTART is under way, and no rise waits to be noted. -/
def State.Idle (s : State) : Prop := s.closing = none ∧ s.hushed = false ∧ s.risen = []

theorem State.Idle.event {s : State} (h : s.Idle) (c : EventClass) (priority object code : Nat) (value : Option Nat) :
    (s.event c priority object code value).Idle := by
  obtain ⟨x, seqs, -, e⟩ := State.event_eq s c priority object code value
  rw [e]
  exact h

theorem State.Idle.modCapture {s : State} (h : s.Idle) (f : Capture → Capture) : (s.modCapture f).Idle := h

theorem State.Idle.driveHealthy {s : State} (h : s.Idle) : s.driveHealthy.Idle := h

theorem State.Idle.resume {s : State} (h : s.Idle) (cs : List Instr) (n : Nat) :
    ({ s with pending := cs, free := n } : State).Idle := h

theorem State.fresh_idle (tables : List Table) (configured : Bool) (image : TableStore) :
    (State.fresh tables configured image).Idle := ⟨rfl, rfl, rfl⟩

theorem State.powerOn_idle (s : State) : s.powerOn.Idle := by
  unfold State.powerOn
  dsimp only
  refine State.Idle.resume (State.Idle.driveHealthy (State.Idle.modCapture (State.Idle.event ?_ _ _ _ _ _) _)) _ _
  split <;> exact (State.fresh_idle _ _ _).event ..

/-- Power-on starts every block anew, and keeps the commands that wait and the count of free values. -/
theorem State.powerOn_only (s : State) : Only (touches .powerOn) s s.powerOn := by
  have hall : ∀ p : StatePart, p ∉ touches .powerOn → p = .free := fun p hp => by
    cases p <;> first | rfl | exact absurd (by decide) hp
  obtain ⟨hclosing, hhushed, hrisen⟩ := s.powerOn_idle
  refine ⟨hclosing, hhushed, hrisen, rfl, fun p hp => ?_, fun hc => absurd (by decide) hc⟩
  rw [hall p hp]
  rfl

/-- The parts that a command's handler touches are those of its list. -/
theorem exec_only (c : Instr) (s : State) (hw : s.work = []) (hr : s.risen = []) {u : State} (h : exec c s = .next u) :
    Only (touches c) s u := by
  have hs := fun ps => Touches.refl ps s
  have hworking : ∀ {v : State}, Evolves s v → Only workParts s (State.settle s v) := fun k =>
    ((hs workParts).work k).only_working hw hr
  have hframe : ∀ (l : Link) (c : FrameClass) (x : Header) (w : State → State), (∀ v, Evolves v (w v)) →
      Only workParts s (State.settle s (s.receive l c x w)) := fun l c x w k =>
    ((hs workParts).receiveWorking l c x w k).only_working hw hr
  cases c <;> obtain rfl := Host.Outcome.next.inj h <;> dsimp only [touches]
  case powerOn => exact s.powerOn_only
  case malformedFrame l f => exact ((hs _).receiveMalformed l f).only_calm hw hr
  case ignoredFrame l f => exact ((hs _).receiveIgnored l f).only_calm hw hr
  case secondCopy l f => exact ((hs _).receiveSecond l f).only_calm hw hr
  case linkDown l => exact ((hs _).dropLink l).only_calm hw hr
  case transmitFrame l => exact ((hs _).transmit l).only_working hw hr
  case sampleFrame l x f => exact ((hs _).receive l _ x _ fun u hu => hu.takeSample x f).only_calm hw hr
  case timeFrame l x f => exact ((hs _).receive l _ x _ fun u hu => hu.takeTime f).only_calm hw hr
  case timeHoldover => exact (hs _).holdover.only_calm hw hr
  case instantAdvance => exact (hs _).advanceInstant.only_working hw hr
  case sourceFailDelayExpiry x => exact ((hs _).failExpiry x.number).only_working hw hr
  case sourceRestoreDelayExpiry x => exact ((hs _).restoreExpiry x.number).only_working hw hr
  case instantClosure pin => exact (Touches.ite ((hs _).closureWork pin) (hs _)).only_working hw hr
  case captureTrigger p => exact ((hs _).captureTrigger p).only_calm hw hr
  case positionFrame l x f => exact hframe l _ x _ fun _ => State.takePosition_evolves x f .refl
  case tripDemandAdd b m => exact ((hs _).addDemand b m).only_working hw hr
  case tripDemandRemove b m => exact ((hs _).removeDemand b m).only_calm hw hr
  case responseTimeout b => exact hworking (State.responseExpiry_evolves b .refl)
  case limitTimeout b => exact hworking (State.limitExpiry_evolves b .refl)
  case simulatedCompletion b => exact hworking (State.simulatedEnd_evolves b .refl)
  case bfRetrip b => exact hworking (State.retrip_evolves b .refl)
  case bfBackup b => exact ((hs _).backup b).only_calm hw hr
  case stationTripEdge => exact (hs _).tripEdge.only_working hw hr
  case seqLockoutChange => exact (hs _).takeLockoutChange.only_working hw hr
  case lineupChange => exact hworking (.ite (State.followLineup_evolves .refl) .refl)
  case stepTimeout => exact hworking (State.stepExpiry_evolves .refl)
  case waitTimeExpiry => exact hworking (State.timeWaited_evolves .refl)
  case waitPointMet => exact hworking (State.pointMet_evolves .refl)
  case deadTermHolds => exact hworking (State.deadTermMet_evolves .refl)
  case syncRetry =>
    exact (hs [.links, .par, .seq]).seqRetry.only hw hr (.inl (s.seqRetry_work.trans hw)) (.inr (by decide))
  case parallelLimit => exact hworking (State.limitParallel_evolves .refl)
  case genstatusFrame l x f => exact hframe l _ x _ fun _ => State.takeGenStatus_evolves x f .refl
  case abilityFrame l x f => exact ((hs _).receive l _ x _ fun u hu => hu.takePage x f).only_working hw hr
  case genAbsentTimeout g => exact hworking (State.absentExpiry_evolves g .refl)
  case abilityGapTimeout g => exact hworking (State.gapExpiry_evolves g .refl)
  case gensetRefresh g => exact ((hs _).refresh g).only_calm hw hr
  case demandEvaluation => exact hworking (State.evaluateDemand_evolves .refl)
  case startTimeout g => exact hworking (State.startExpiry_evolves g .refl)
  case retryTimerExpiry g => exact hworking (State.retryExpiry_evolves g .refl)
  case deadCheckTimeout g => exact hworking (State.deadCheckExpiry_evolves g .refl)
  case syncCorrection c => exact ((hs _).correctionExpiry c).only_calm hw hr
  case loadSharing => exact hworking (State.loadShare_evolves .refl)
  case readTable l q =>
    exact (Touches.serve l 1 false q _ fun _ u hu => hu.withTable q _ fun x => hu.readTable q x).only_calm hw hr
  case writeSegment l q =>
    exact (Touches.serve l 2 false q _ fun _ u hu => hu.withTable q _ fun x => hu.writeSegment q x).only_calm hw hr
  case commit l q =>
    exact (Touches.serve l 3 false q _ fun k u hu => hu.withTable q _ fun x => hu.commitTable k q x).only_working hw hr
  case discard l q =>
    exact (Touches.serve l 4 false q _ fun _ u hu => hu.withTable q _ fun x => hu.discardStaging x).only_calm hw hr
  case readState l q pin => exact (Touches.serve l 5 true q _ fun _ u hu => (hu.modLines _).readArea q).only_calm hw hr
  case readLatches l q => exact (Touches.serve l 6 true q _ fun _ u hu => hu.rearm).only_calm hw hr
  case readEvents l q => exact (Touches.serve l 8 true q _ fun _ u hu => hu.readEvents q).only_calm hw hr
  case readCapture l q => exact (Touches.serve l 9 false q _ fun _ u hu => hu.readCapture q).only_calm hw hr
  case store l q => exact (Touches.serve l 10 false q _ fun k u hu => hu.acceptStore k).only_calm hw hr
  case storeComplete n => exact ((hs _).completeStore n).only_calm hw hr
  case restart l q => exact (Touches.serve l 11 false q _ fun _ u hu => hu.startRestart).only_calm hw hr
  case blockRestart k => exact ((hs _).blockRestart k).only_working hw hr
  case breakerOpen l q => exact (Touches.operate l q _ fun u hu => hu.operatorOpen q).only_working hw hr
  case breakerClose l q => exact (Touches.operate l q _ fun u hu => hu.operatorClose q).only_calm hw hr
  case runPlan l q => exact (Touches.operate l q _ fun u hu => hu.runPlan q).only_working hw hr
  case setAuto l q => exact (Touches.operate l q _ fun u hu => hu.setAuto q).only_working hw hr
  case startGens l q => exact (Touches.operate l q _ fun u hu => hu.startGens q).only_calm hw hr
  case stopGens l q => exact (Touches.operate l q _ fun u hu => hu.stopGens q).only_calm hw hr
  case acknowledgeHalt l q => exact (Touches.operate l q _ fun u hu => hu.acknowledgeHalt).only_working hw hr
  case clearStationTrip l q => exact (Touches.operate l q _ fun u hu => hu.clearStationTrip).only_calm hw hr
  case clearGenFault l q => exact (Touches.operate l q _ fun u hu => hu.clearGenFault q).only_working hw hr
  case renegotiate l q => exact (Touches.operate l q _ fun u hu => hu.operatorRenegotiate q).only_working hw hr
  case setPoint l q => exact (Touches.operate l q _ fun u hu => hu.setPoint q).only_calm hw hr
  case releaseCapture l q => exact (Touches.operate l q _ fun u hu => hu.releaseCapture).only_calm hw hr
  case stationTripPinReturnsHigh => exact ((hs _).modLines _).only_calm hw hr
  case operateKindNotListed l q => exact (Touches.operate l q _ fun u hu => hu).only_calm hw hr

end

/-- Settles O4: each handler touches the parts of its command's list, and the end of the command those of the work that is
handed on. -/
theorem everyCommandTouchesItsParts : Obligations.EveryCommandTouchesItsParts :=
  fun c s _ hw hr h => exec_only c s hw hr h


end Sys2Proof.Machine
end

section
/-! # Events and numbered records -/

namespace Sys2Proof.Machine

/-! # What an event leaves unchanged, and where it stands -/

section
variable (s : State) (c : EventClass) (priority object code : Nat) (value : Option Nat)

@[simp] theorem State.event_pending : (s.event c priority object code value).pending = s.pending := by
  obtain ⟨x, seqs, -, e⟩ := State.event_eq s c priority object code value
  rw [e]

@[simp] theorem State.event_work : (s.event c priority object code value).work = s.work := by
  obtain ⟨x, seqs, -, e⟩ := State.event_eq s c priority object code value
  rw [e]

@[simp] theorem State.event_risen : (s.event c priority object code value).risen = s.risen := by
  obtain ⟨x, seqs, -, e⟩ := State.event_eq s c priority object code value
  rw [e]

@[simp] theorem State.event_closing : (s.event c priority object code value).closing = s.closing := by
  obtain ⟨x, seqs, -, e⟩ := State.event_eq s c priority object code value
  rw [e]

@[simp] theorem State.event_hushed : (s.event c priority object code value).hushed = s.hushed := by
  obtain ⟨x, seqs, -, e⟩ := State.event_eq s c priority object code value
  rw [e]

@[simp] theorem State.event_free : (s.event c priority object code value).free = s.free := by
  obtain ⟨x, seqs, -, e⟩ := State.event_eq s c priority object code value
  rw [e]

@[simp] theorem State.event_aligner : (s.event c priority object code value).aligner = s.aligner := by
  obtain ⟨x, seqs, -, e⟩ := State.event_eq s c priority object code value
  rw [e]

@[simp] theorem State.event_intake : (s.event c priority object code value).intake = s.intake := by
  obtain ⟨x, seqs, -, e⟩ := State.event_eq s c priority object code value
  rw [e]

@[simp] theorem State.event_measures : (s.event c priority object code value).measures = s.measures := by
  obtain ⟨x, seqs, -, e⟩ := State.event_eq s c priority object code value
  rw [e]

@[simp] theorem State.event_elements : (s.event c priority object code value).elements = s.elements := by
  obtain ⟨x, seqs, -, e⟩ := State.event_eq s c priority object code value
  rw [e]

@[simp] theorem State.event_lines : (s.event c priority object code value).lines = s.lines := by
  obtain ⟨x, seqs, -, e⟩ := State.event_eq s c priority object code value
  rw [e]

@[simp] theorem State.event_breakers : (s.event c priority object code value).breakers = s.breakers := by
  obtain ⟨x, seqs, -, e⟩ := State.event_eq s c priority object code value
  rw [e]

@[simp] theorem State.event_seq : (s.event c priority object code value).seq = s.seq := by
  obtain ⟨x, seqs, -, e⟩ := State.event_eq s c priority object code value
  rw [e]

@[simp] theorem State.event_par : (s.event c priority object code value).par = s.par := by
  obtain ⟨x, seqs, -, e⟩ := State.event_eq s c priority object code value
  rw [e]

@[simp] theorem State.event_capture : (s.event c priority object code value).capture = s.capture := by
  obtain ⟨x, seqs, -, e⟩ := State.event_eq s c priority object code value
  rw [e]

@[simp] theorem State.event_mgmt : (s.event c priority object code value).mgmt = s.mgmt := by
  obtain ⟨x, seqs, -, e⟩ := State.event_eq s c priority object code value
  rw [e]

@[simp] theorem State.event_brk (b : Nat) : (s.event c priority object code value).brk b = s.brk b := by
  simp only [State.brk, State.event_breakers]

@[simp] theorem State.event_gen (g : Nat) : (s.event c priority object code value).gen g = s.gen g := by
  simp only [State.gen, State.event_par]

@[simp] theorem State.event_stream (k : Nat) : (s.event c priority object code value).stream k = s.stream k := by
  simp only [State.stream, State.event_intake]

@[simp] theorem State.event_source (x : Nat) : (s.event c priority object code value).source x = s.source x := by
  simp only [State.source, State.event_seq]

@[simp] theorem State.event_channel (x : Nat) : (s.event c priority object code value).channel x = s.channel x := by
  simp only [State.channel, State.event_par]

@[simp] theorem State.event_element (e : Nat) : (s.event c priority object code value).element e = s.element e := by
  simp only [State.element, State.event_elements]

@[simp] theorem State.event_run  : (s.event c priority object code value).run?  = s.run?  := by
  simp only [State.run?, State.event_seq]

@[simp] theorem State.event_table (t : TableId) : (s.event c priority object code value).table t = s.table t := by
  simp only [State.table, State.event_mgmt]

@[simp] theorem State.event_measure (k : Nat) : (s.event c priority object code value).measure k = s.measure k := by
  simp only [State.measure, State.event_measures]

@[simp] theorem State.event_stagingOf (t : TableId) : (s.event c priority object code value).stagingOf t = s.stagingOf t := by
  simp only [State.stagingOf, State.event_mgmt]

@[simp] theorem State.event_fld (t : TableId) (e id : Nat) : (s.event c priority object code value).fld t e id = s.fld t e id := by
  simp only [State.fld, State.event_mgmt]

@[simp] theorem State.event_station (id : Nat) : (s.event c priority object code value).station id = s.station id := by
  simp only [State.station, State.event_fld]

@[simp] theorem State.event_setpointOf (g : Nat) : (s.event c priority object code value).setpointOf g = s.setpointOf g :=
  State.setpointOf_congr (by simp) (by simp) g

@[simp] theorem State.event_eventLabel : (s.event c priority object code value).eventLabel = s.eventLabel := by
  simp only [State.eventLabel, State.event_closing, State.event_aligner]

/-- Each event takes one sequence number (R170). -/
@[simp] theorem State.event_nextSeq : (s.event c priority object code value).events.nextSeq = step16 s.events.nextSeq := by
  obtain ⟨x, seqs, -, e⟩ := State.event_eq s c priority object code value
  rw [e]
  simp only [EventQueue.markSent, EventQueue.append]
  split <;> rfl

/-- No event brings a link UP or takes it DOWN. -/
@[simp] theorem State.event_up (l : Link) : ((s.event c priority object code value).port l).up = (s.port l).up := by
  have h := State.event_links s c priority object code value
  cases l
  · rw [State.port, State.port, h.a.eq]
  · rw [State.port, State.port, h.b.eq]

end

/-! # One numbered record among its kind -/

/-- A modification that keeps a field of the record keeps it at every number, beyond the records too. -/
theorem apply_nth_modify {α β : Type} [Inhabited α] (f : α → α) (g : α → β) (hfg : ∀ r, g (f r) = g r) (l : List α)
    (k i : Nat) : g (nth (l.modify k f) i) = g (nth l i) := by
  simp only [nth, List.getD_eq_getElem?_getD, List.getElem?_modify]
  cases l[i]? with
  | none => simp
  | some r => by_cases h : k = i <;> simp [h, hfg]

theorem nth_modify_same {α : Type} [Inhabited α] (f : α → α) {l : List α} {k : Nat} (h : k < l.length) :
    nth (l.modify k f) k = f (nth l k) := by
  simp [nth, h]

theorem nth_modify_other {α : Type} [Inhabited α] (f : α → α) (l : List α) {k i : Nat} (h : k ≠ i) :
    nth (l.modify k f) i = nth l i := by
  simp [nth, h]

section
variable (s : State)

theorem State.stream_modStream_same {k : Nat} (f) (h : k < s.intake.streams.length) : (s.modStream k f).stream k = f (s.stream k) :=
  nth_modify_same f h

theorem State.stream_modStream_other {k i : Nat} (f) (h : k ≠ i) : (s.modStream k f).stream i = s.stream i :=
  nth_modify_other f _ h

theorem State.measure_modMeasure_same {k : Nat} (f) (h : k < s.measures.length) : (s.modMeasure k f).measure k = f (s.measure k) :=
  nth_modify_same f h

theorem State.measure_modMeasure_other {k i : Nat} (f) (h : k ≠ i) : (s.modMeasure k f).measure i = s.measure i :=
  nth_modify_other f _ h

theorem State.element_modElement_same {k : Nat} (f) (h : k < s.elements.length) : (s.modElement k f).element k = f (s.element k) :=
  nth_modify_same f h

theorem State.element_modElement_other {k i : Nat} (f) (h : k ≠ i) : (s.modElement k f).element i = s.element i :=
  nth_modify_other f _ h

theorem State.brk_modBrk_same {k : Nat} (f) (h : k < s.breakers.recs.length) : (s.modBrk k f).brk k = f (s.brk k) :=
  nth_modify_same f h

theorem State.brk_modBrk_other {k i : Nat} (f) (h : k ≠ i) : (s.modBrk k f).brk i = s.brk i :=
  nth_modify_other f _ h

theorem State.source_modSource_same {k : Nat} (f) (h : k < s.seq.sources.length) : (s.modSource k f).source k = f (s.source k) :=
  nth_modify_same f h

theorem State.source_modSource_other {k i : Nat} (f) (h : k ≠ i) : (s.modSource k f).source i = s.source i :=
  nth_modify_other f _ h

theorem State.gen_modGen_same {k : Nat} (f) (h : k < s.par.gens.length) : (s.modGen k f).gen k = f (s.gen k) :=
  nth_modify_same f h

theorem State.gen_modGen_other {k i : Nat} (f) (h : k ≠ i) : (s.modGen k f).gen i = s.gen i :=
  nth_modify_other f _ h

theorem State.Quiet.measures_length {s : State} (h : s.Quiet) : s.measures.length = 16 := by
  obtain ⟨-, -, -, -, -, -, -, -, -, -, -, hcounts⟩ := h
  obtain ⟨-, hmeasures, helements, -, hsources, hflags, hgens, hchannels, -⟩ := hcounts
  exact hmeasures

theorem State.Quiet.elements_length {s : State} (h : s.Quiet) : s.elements.length = 64 := by
  obtain ⟨-, -, -, -, -, -, -, -, -, -, -, hcounts⟩ := h
  obtain ⟨-, hmeasures, helements, -, hsources, hflags, hgens, hchannels, -⟩ := hcounts
  exact helements

theorem State.Quiet.sources_length {s : State} (h : s.Quiet) : s.seq.sources.length = 3 := by
  obtain ⟨-, -, -, -, -, -, -, -, -, -, -, hcounts⟩ := h
  obtain ⟨-, hmeasures, helements, -, hsources, hflags, hgens, hchannels, -⟩ := hcounts
  exact hsources

theorem State.Quiet.flags_length {s : State} (h : s.Quiet) : s.seq.flags.length = 4 := by
  obtain ⟨-, -, -, -, -, -, -, -, -, -, -, hcounts⟩ := h
  obtain ⟨-, hmeasures, helements, -, hsources, hflags, hgens, hchannels, -⟩ := hcounts
  exact hflags

theorem State.Quiet.gens_length {s : State} (h : s.Quiet) : s.par.gens.length = 8 := by
  obtain ⟨-, -, -, -, -, -, -, -, -, -, -, hcounts⟩ := h
  obtain ⟨-, hmeasures, helements, -, hsources, hflags, hgens, hchannels, -⟩ := hcounts
  exact hgens

theorem State.Quiet.channels_length {s : State} (h : s.Quiet) : s.par.channels.length = 4 := by
  obtain ⟨-, -, -, -, -, -, -, -, -, -, -, hcounts⟩ := h
  obtain ⟨-, hmeasures, helements, -, hsources, hflags, hgens, hchannels, -⟩ := hcounts
  exact hchannels

end

/-! # The end of a command -/

section
variable {s₀ s : State}

theorem State.settle_newest (hw : s.work = []) : (State.settle s₀ s).newest = s.newest := by
  simp only [State.newest, State.settle_events s₀ s hw]

@[simp] theorem State.settle_stream (k : Nat) : (State.settle s₀ s).stream k = s.stream k := by
  simp only [State.stream, State.settle_intake]

@[simp] theorem State.settle_brk (hw : s.work = []) (b : Nat) : (State.settle s₀ s).brk b = s.brk b := by
  simp only [State.brk, State.settle_breakers s₀ s hw]

@[simp] theorem State.settle_source (x : Nat) : (State.settle s₀ s).source x = s.source x := by
  simp only [State.source, State.settle_sources]

end


end Sys2Proof.Machine
end

section
/-! # SAMPLE frames -/

namespace Sys2Proof.Machine

/-! # Frames and lines that leave points, setpoints and HEALTHY alone -/

section
variable {s : State}

theorem RequestFrame.refl (s : State) : RequestFrame s s := ⟨rfl, fun _ => rfl, rfl, fun _ => rfl, fun _ => rfl, rfl⟩

theorem State.modPort_frame (l : Link) (f : LinkPort → LinkPort) (hf : ∀ p, (f p).up = p.up) :
    RequestFrame s (s.modPort l f) where
  eq := by cases l <;> rfl
  up k := by cases l <;> cases k <;> first | exact hf _ | rfl
  time := by cases l <;> rfl
  valid _ := by cases l <;> rfl
  position _ := by cases l <;> rfl
  mgmt := by cases l <;> rfl

theorem State.reached_frame (l : Link) (c : FrameClass) (h : Header) : RequestFrame s (s.reached l c h) where
  eq := by cases l <;> rfl
  up k := by cases l <;> cases k <;> rfl
  time := by cases l <;> rfl
  valid _ := by cases l <;> rfl
  position _ := by cases l <;> rfl
  mgmt := by cases l <;> rfl

theorem State.modStream_frame (k : Nat) (f : StreamRec → StreamRec) (hf : ∀ r, (f r).valid = r.valid) :
    RequestFrame s (s.modStream k f) where
  eq := rfl
  up _ := rfl
  time := rfl
  valid i := apply_nth_modify f StreamRec.valid hf _ k i
  position _ := rfl
  mgmt := rfl

theorem State.modAligner_frame (f : Aligner → Aligner) (hf : (f s.aligner).time = s.aligner.time) :
    RequestFrame s (s.modAligner f) where
  eq := rfl
  up _ := rfl
  time := hf
  valid _ := rfl
  position _ := rfl
  mgmt := rfl

theorem State.Quiet.closing {s : State} (h : s.Quiet) : s.closing = none := h.2.1

theorem State.Quiet.risen {s : State} (h : s.Quiet) : s.risen = [] := h.2.2.2.1

/-- Between commands an event's label is the local instant. -/
theorem State.Quiet.eventLabel {s : State} (h : s.Quiet) : s.eventLabel = s.aligner.counter := by
  simp [State.eventLabel, h.closing]

theorem State.Quiet.only {s u : State} (h : s.Quiet) (c : Instr) (hu : exec c s = .next u) : Only (touches c) s u :=
  exec_only c s h.1 h.risen hu

/-! # SAMPLE frames (R23, R24, R29) -/

/-- A port after a frame on a link that is UP (R1). -/
def LinkPort.counted (p : LinkPort) : LinkPort := { p with silence := 0, taken := step32 p.taken }

theorem exec_sampleFrame {l : Link} {h : Header} (f : SampleBody) (hu : (s.port l).up = true)
    (hv : s.verdict .sample h = .taken) :
    exec (.sampleFrame l h f) s = finish s (State.takeSample h f (s.modPort l LinkPort.counted)) := by
  change finish s (s.receive l .sample h (State.takeSample h f)) = _
  rw [State.receive_sample s l h _ hu hv]
  rfl

section Place
variable {k seq : Nat} {f : SampleBody}

theorem State.place_late (h : s.beyond (s.positionOf ⟨f.second, f.index⟩) s.aligner.closingPoint < 0) :
    s.place k seq f = s.modStream k (fun r => { r with late := step32 r.late }) := by
  simp only [State.place, if_pos h]

theorem State.place_early (h : 16 ≤ s.beyond (s.positionOf ⟨f.second, f.index⟩) s.aligner.closingPoint) :
    s.place k seq f = s.modStream k (fun r => { r with early := step32 r.early }) := by
  have hlate : ¬ s.beyond (s.positionOf ⟨f.second, f.index⟩) s.aligner.closingPoint < 0 := by omega
  simp only [State.place, if_neg hlate]
  exact if_pos h

/-- A frame within the open instants is a duplicate or is delivered. -/
theorem State.place_open (h : 0 ≤ s.beyond (s.positionOf ⟨f.second, f.index⟩) s.aligner.closingPoint)
    (h' : s.beyond (s.positionOf ⟨f.second, f.index⟩) s.aligner.closingPoint < 16) :
    s.place k seq f =
      if (s.stream k).buffer.any (·.position == s.positionOf ⟨f.second, f.index⟩) then
        s.modStream k (fun r => { r with duplicate := step32 r.duplicate })
      else s.modStream k (fun r => r.deliver (fun m => 0 < s.beyond (s.positionOf ⟨f.second, f.index⟩) (s.positionOf m))
        ⟨f.second, f.index⟩ seq ⟨s.positionOf ⟨f.second, f.index⟩, f.quality, f.samples⟩) := by
  have hearly : ¬ (Config.openInstants : Int) ≤ s.beyond (s.positionOf ⟨f.second, f.index⟩) s.aligner.closingPoint :=
    Int.not_le.2 h'
  simp only [State.place, if_neg (Int.not_lt.2 h), if_neg hearly]

theorem State.place_duplicate (h : 0 ≤ s.beyond (s.positionOf ⟨f.second, f.index⟩) s.aligner.closingPoint)
    (h' : s.beyond (s.positionOf ⟨f.second, f.index⟩) s.aligner.closingPoint < 16)
    (hd : ∃ d ∈ (s.stream k).buffer, d.position = s.positionOf ⟨f.second, f.index⟩) :
    s.place k seq f = s.modStream k (fun r => { r with duplicate := step32 r.duplicate }) := by
  rw [State.place_open h h', if_pos (by simpa using hd)]

theorem State.place_delivered (h : 0 ≤ s.beyond (s.positionOf ⟨f.second, f.index⟩) s.aligner.closingPoint)
    (h' : s.beyond (s.positionOf ⟨f.second, f.index⟩) s.aligner.closingPoint < 16)
    (hd : ∀ d ∈ (s.stream k).buffer, d.position ≠ s.positionOf ⟨f.second, f.index⟩) :
    s.place k seq f =
      s.modStream k (fun r => r.deliver (fun m => 0 < s.beyond (s.positionOf ⟨f.second, f.index⟩) (s.positionOf m))
        ⟨f.second, f.index⟩ seq ⟨s.positionOf ⟨f.second, f.index⟩, f.quality, f.samples⟩) := by
  rw [State.place_open h h', if_neg (by simpa using hd)]

end Place

/-- A frame that matches stream `k` and lies in its second goes, with the time set, against the closing point. -/
theorem State.takeSample_timed {h : Header} {f : SampleBody} {k : Nat} (hm : s.matchStream h.src f.stream = some k)
    (hi : f.index < s.perSecond) (ht : s.aligner.time ≠ .unset) : State.takeSample h f s = s.place k h.seq f := by
  simp [State.takeSample, hm, Nat.not_le.2 hi, State.seed, ht]

/-- A judged frame's stream record is all that its command changes beside the link's counts. -/
theorem exec_sampleFrame_judged {l : Link} {h : Header} {f : SampleBody} {k : Nat} (hs : s.Quiet)
    (hu : (s.port l).up = true) (hv : s.verdict .sample h = .taken) (hm : s.matchStream h.src f.stream = some k)
    (hi : f.index < s.perSecond) (ht : s.aligner.time ≠ .unset) {g : StreamRec → StreamRec}
    (hg : ∀ r, (g r).valid = r.valid)
    (hp : (s.modPort l LinkPort.counted).place k h.seq f = (s.modPort l LinkPort.counted).modStream k g) :
    exec (.sampleFrame l h f) s = .next ((s.modPort l LinkPort.counted).modStream k g) := by
  have htaken : State.takeSample h f (s.modPort l LinkPort.counted) = (s.modPort l LinkPort.counted).modStream k g := by
    rw [← hp]
    cases l <;> exact State.takeSample_timed hm hi ht
  rw [exec_sampleFrame f hu hv, htaken]
  exact ((State.modPort_frame l LinkPort.counted fun _ => rfl).trans (State.modStream_frame k g hg)).finish hs

end

/-- Settles O13: the four places that a frame may have against the closing point, each with its update of the record. -/
theorem samplesAreJudged : Obligations.SamplesAreJudged := by
  intro s l h f k hs hu hv hm hi ht p ahead r
  have hjudged := fun g hg => exec_sampleFrame_judged (f := f) (g := g) hs hu hv hm hi ht hg
  have hbeyond : (s.modPort l LinkPort.counted).beyond ((s.modPort l LinkPort.counted).positionOf ⟨f.second, f.index⟩)
      (s.modPort l LinkPort.counted).aligner.closingPoint = ahead := by cases l <;> rfl
  have hbuffer : ((s.modPort l LinkPort.counted).stream k).buffer = (s.stream k).buffer := by cases l <;> rfl
  have hposition : (s.modPort l LinkPort.counted).positionOf ⟨f.second, f.index⟩ = p := by cases l <;> rfl
  refine ⟨fun hlate => ?_, fun hearly => ?_, fun h0 h16 hd => ?_, fun h0 h16 hd => ?_⟩
  · exact hjudged _ (fun _ => rfl) (State.place_late (hbeyond ▸ hlate))
  · exact hjudged _ (fun _ => rfl) (State.place_early (hbeyond ▸ hearly))
  · exact hjudged _ (fun _ => rfl) (State.place_duplicate (hbeyond ▸ h0) (hbeyond ▸ h16) (by rwa [hbuffer, hposition]))
  · refine hjudged _ (fun _ => rfl) ?_
    rw [State.place_delivered (hbeyond ▸ h0) (hbeyond ▸ h16) (by rwa [hbuffer, hposition])]
    refine congrArg (State.modStream _ k) (funext fun x => ?_)
    have hnewer : (fun m => decide (0 < (s.modPort l LinkPort.counted).beyond
        ((s.modPort l LinkPort.counted).positionOf ⟨f.second, f.index⟩)
        ((s.modPort l LinkPort.counted).positionOf m))) = fun m => decide (0 < s.beyond p (s.positionOf m)) := by
      cases l <;> rfl
    rw [hposition] at hnewer
    unfold StreamRec.deliver
    rw [hposition, hnewer]
    cases x.lastDelivered <;> cases x.lastSeq <;> simp

/-- Settles the strays of O14: no record of a stream changes. -/
theorem straySampleIsCounted : Clause.StraySampleIsCounted := by
  intro s l h f hs hu hv r
  have hcounts : ∀ i : Intake, i.streams = s.intake.streams → RequestFrame s { r with intake := i } := fun i hi =>
    ⟨by cases l <;> rfl, fun k => by cases l <;> cases k <;> rfl, by cases l <;> rfl,
      fun k => by simp only [State.stream, hi], fun _ => by cases l <;> rfl, by cases l <;> rfl⟩
  rw [exec_sampleFrame f hu hv]
  refine ⟨fun hm => ?_, fun k hm hi => ?_⟩
  · have htaken : State.takeSample h f r = { r with intake := { r.intake with unmatched := step32 r.intake.unmatched } } := by
      have hr : r.matchStream h.src f.stream = none := by cases l <;> exact hm
      simp [State.takeSample, hr]
    exact (congrArg (finish s) htaken).trans ((hcounts _ (by cases l <;> rfl)).finish hs)
  · have htaken : State.takeSample h f r =
        { r with intake := { r.intake with outOfRange := step32 r.intake.outOfRange } } := by
      have hr : r.matchStream h.src f.stream = some k := by cases l <;> exact hm
      have hlong : r.perSecond ≤ f.index := by cases l <;> exact hi
      simp [State.takeSample, hr, hlong]
    exact (congrArg (finish s) htaken).trans ((hcounts _ (by cases l <;> rfl)).finish hs)

section
variable {s : State}

theorem State.beyond_self (p : Nat) (h : 0 < s.perSecond) : s.beyond p p = 0 := by
  simp [State.beyond, State.span, h]

/-- A frame at the closing point that its stream does not hold yet is delivered. -/
theorem State.place_closing {k seq : Nat} {f : SampleBody} (h : 0 < s.perSecond)
    (hc : s.aligner.closingPoint = s.positionOf ⟨f.second, f.index⟩) (hb : (s.stream k).buffer = []) :
    s.place k seq f =
      s.modStream k (fun r => r.deliver (fun m => 0 < s.beyond (s.positionOf ⟨f.second, f.index⟩) (s.positionOf m))
        ⟨f.second, f.index⟩ seq ⟨s.positionOf ⟨f.second, f.index⟩, f.quality, f.samples⟩) := by
  have hahead : s.beyond (s.positionOf ⟨f.second, f.index⟩) s.aligner.closingPoint = 0 := hc ▸ State.beyond_self _ h
  exact State.place_delivered (by omega) (by omega) (by simp [hb])

/-- The state in which the first frame is delivered. -/
theorem State.seed_unset {l : Label} (h : s.aligner.time = .unset) :
    s.seed l = ((s.relabel 0).modAligner (fun a =>
      { a with counter := l, closingPoint := s.positionOf l, time := .holdover, seedings := step32 a.seedings })).event
        .time 6 0 4 (some l.second) := by
  simp [State.seed, h]

/-- With the time unset a frame in its second goes to the seeded state. -/
theorem State.takeSample_first {h : Header} {f : SampleBody} {k : Nat} (hm : s.matchStream h.src f.stream = some k)
    (hi : f.index < s.perSecond) : State.takeSample h f s = (s.seed ⟨f.second, f.index⟩).place k h.seq f := by
  simp [State.takeSample, hm, Nat.not_le.2 hi]

/-- A stream that a frame can match is one of the sixteen. -/
theorem State.matchStream_lt {src n k : Nat} (h : s.matchStream src n = some k) : k < 16 := by
  simpa using List.mem_of_find?_eq_some h

end

/-- Settles the first frame of O14: the counter and the closing point take its instant, so that it is delivered. -/
theorem firstSampleSeedsTheCounter : Clause.FirstSampleSeedsTheCounter := by
  intro s l h f k hs hu hv hm hi _ ht
  have hexec := exec_sampleFrame f hu hv
  refine ⟨_, hexec, ?_⟩
  have honly := hs.only _ hexec
  set r := s.modPort l LinkPort.counted with hr
  have halign : r.aligner = s.aligner := by simp [hr]
  have hposition : ∀ m, r.positionOf m = s.positionOf m := fun m => by simp only [State.positionOf, State.perSecond, halign]
  have hper : r.perSecond = s.perSecond := by simp only [State.perSecond, halign]
  have hmatch : r.matchStream h.src f.stream = some k := by cases l <;> exact hm
  have hwork : r.work = [] := by simp [hr, hs.1]
  have hk : k < r.intake.streams.length := by
    simpa [hr, hs.streams_length] using State.matchStream_lt hm
  set v := r.seed ⟨f.second, f.index⟩ with hv'
  have hseed := State.seed_unset (s := r) (l := ⟨f.second, f.index⟩) (by rw [halign]; exact ht)
  have hvper : v.perSecond = s.perSecond := by rw [hv', hseed]; simpa [State.perSecond, State.relabel] using hper
  have hvalign : v.aligner = { s.aligner with
      counter := ⟨f.second, f.index⟩, closingPoint := s.positionOf ⟨f.second, f.index⟩, time := .holdover
      seedings := step32 s.aligner.seedings } := by
    rw [hv', hseed]; simp [State.relabel, halign, hposition]
  have hvposition : ∀ m, v.positionOf m = s.positionOf m := fun m => by simp only [State.positionOf, hvper]
  have hvstream : v.stream k = { s.stream k with buffer := [] } := by
    rw [hv', hseed, State.event_stream]
    refine (nth_map _ hk).trans ?_
    simp [hr, State.stream]
  have hplace := State.place_closing (s := v) (k := k) (seq := h.seq) (f := f) (by omega)
    (by rw [hvalign, hvposition]) (by rw [hvstream])
  have htaken := State.takeSample_first (s := r) (h := h) (f := f) hmatch (by omega)
  rw [← hv', hplace, hvposition] at htaken
  have hlength : k < v.intake.streams.length := by
    rw [hv', hseed]; simpa [State.relabel] using hk
  refine ⟨?_, ?_, ?_, ?_, honly⟩
  · rw [State.settle_aligner, htaken]
    exact hvalign
  · rw [State.settle_stream, htaken, State.stream_modStream_same _ _ hlength, hvstream]
    rfl
  · rw [State.settle_stream, htaken, State.stream_modStream_same _ _ hlength, hvstream]
    rfl
  · have hvwork : v.work = [] := by rw [hv', hseed]; simpa [State.relabel] using hwork
    rw [State.settle_newest (by rw [htaken]; exact hvwork), htaken]
    change v.newest = _
    rw [hv', hseed, State.event_newest]
    simp [State.eventLabel, State.relabel, hr, hs.closing]

/-- Settles O14. -/
theorem strayAndFirstSamples : Obligations.StrayAndFirstSamples := ⟨straySampleIsCounted, firstSampleSeedsTheCounter⟩


end Sys2Proof.Machine
end

section
/-! # TIME frames -/

namespace Sys2Proof.Machine

/-! # TIME frames (R26 to R28) -/

section
variable {s : State}

@[simp] theorem State.reached_aligner (l : Link) (c : FrameClass) (h : Header) : (s.reached l c h).aligner = s.aligner := by
  cases l <;> rfl

@[simp] theorem State.reached_events (l : Link) (c : FrameClass) (h : Header) : (s.reached l c h).events = s.events := by
  cases l <;> rfl

theorem Touches.reached {ps : List StatePart} {t : State} (l : Link) (c : FrameClass) (x : Header) (h : Touches ps s t)
    (hl : .links ∈ ps := by decide) : Touches ps s (t.reached l c x) := (h.links _ hl).modPort _ _ hl

theorem exec_timeFrame {l : Link} {h : Header} (f : TimeBody) (hu : (s.port l).up = true)
    (hv : s.verdict .time h = .taken) :
    exec (.timeFrame l h f) s = finish s (State.takeTime f (s.reached l .time h)) := by
  change finish s (s.receive l .time h (State.takeTime f)) = _
  rw [State.receive_taken s l _ h _ hu hv (by decide)]

theorem State.takeTime_unlocked {f : TimeBody} (h : f.locked = false) :
    State.takeTime f s = s.modAligner (fun a => { a with unlocked := step32 a.unlocked }) := by
  simp [State.takeTime, h]

theorem State.takeTime_agreeing {f : TimeBody} (h : f.locked = true) (h₁ : -24 ≤ s.timeOffset f.second)
    (h₂ : s.timeOffset f.second ≤ 23) :
    State.takeTime f s = (s.modAligner (fun a => { a with slew := slewOf (s.timeOffset f.second) })).track := by
  simp [State.takeTime, h, h₁, h₂]

theorem State.takeTime_stepping {f : TimeBody} (h : f.locked = true)
    (hd : s.timeOffset f.second < -24 ∨ 23 < s.timeOffset f.second) :
    State.takeTime f s = (s.timeStep f.second).track := by
  have hnot : ¬ (-24 ≤ s.timeOffset f.second ∧ s.timeOffset f.second ≤ 23) := by omega
  simp [State.takeTime, h, hnot]

theorem State.track_tracking (h : s.aligner.time = .tracking) :
    s.track = s.modAligner (fun a => { a with timeout := 0, time := .tracking }) := by
  simp [State.track, h]

theorem State.track_other (h : s.aligner.time ≠ .tracking) :
    s.track = (s.modAligner (fun a => { a with timeout := 0, time := .tracking })).event .time 6 0 1 none := by
  simp [State.track, h]

theorem State.track_aligner : s.track.aligner = { s.aligner with timeout := 0, time := .tracking } := by
  by_cases h : s.aligner.time = .tracking
  · rw [State.track_tracking h]; rfl
  · rw [State.track_other h, State.event_aligner]; rfl

theorem State.track_intake : s.track.intake = s.intake := by
  by_cases h : s.aligner.time = .tracking
  · rw [State.track_tracking h]; rfl
  · rw [State.track_other h, State.event_intake]; rfl

end

/-- Settles the first part of O15: the three agreeing cases, of which only the last records an event. -/
theorem timeFrameAgrees : Clause.TimeFrameAgrees := by
  intro s l h f hs hu hv d slew
  have hframe : RequestFrame s (s.reached l .time h) := State.reached_frame l .time h
  have hoffset : (s.reached l .time h).timeOffset f.second = d := by cases l <;> rfl
  rw [exec_timeFrame f hu hv]
  refine ⟨fun hlocked => ?_, fun hlocked h₁ h₂ ht => ?_, fun hlocked h₁ h₂ ht => ⟨_, rfl, ?_⟩⟩
  · rw [State.takeTime_unlocked hlocked]
    exact (hframe.trans (State.modAligner_frame _ rfl)).finish hs
  · rw [State.takeTime_agreeing hlocked (hoffset ▸ h₁) (hoffset ▸ h₂), State.track_tracking (by simpa using ht), hoffset]
    refine Eq.trans (congrArg (finish s) ?_) ((hframe.trans (State.modAligner_frame _ rfl)).finish hs)
    simp [State.modAligner, slewOf, slew, ht]
  · have htake := State.takeTime_agreeing (s := s.reached l .time h) hlocked (hoffset ▸ h₁) (hoffset ▸ h₂)
    have hwork : (s.reached l .time h).work = [] := by cases l <;> exact hs.1
    have hclosing : (s.reached l .time h).closing = none := by cases l <;> exact hs.closing
    rw [hoffset] at htake
    refine ⟨?_, ?_, ?_⟩
    · rw [State.settle_aligner, htake, State.track_aligner]
      simp [slewOf, slew]
    · rw [htake, State.track_other (by simpa using ht), Records, State.settle_newest (by simpa using hwork),
        State.event_newest]
      simp [State.eventLabel, hclosing]
    · rw [htake]
      exact (((Touches.refl _ s).reached l _ h).modAligner _).track.only_calm hs.1 hs.risen

/-- Settles the second part of O15: the step relabels, and the time is tracked after it. -/
theorem timeFrameSteps : Clause.TimeFrameSteps := by
  intro s l h f hs hu hv hlocked d hd
  have hexec := exec_timeFrame f hu hv
  have honly := hs.only _ hexec
  have hoffset : (s.reached l .time h).timeOffset f.second = d := by cases l <;> rfl
  refine ⟨_, hexec, ?_, ?_, honly⟩
  · rw [State.settle_aligner, State.takeTime_stepping hlocked (hoffset.symm ▸ hd), State.track_aligner, State.timeStep,
      State.event_aligner, hoffset]
    cases l <;> rfl
  · rw [State.settle_intake, State.takeTime_stepping hlocked (hoffset.symm ▸ hd), State.track_intake, State.timeStep,
      State.event_intake]
    cases l <;> rfl

/-- Settles O15. -/
theorem timeFramesAreTaken : Obligations.TimeFramesAreTaken := ⟨timeFrameAgrees, timeFrameSteps⟩

end Sys2Proof.Machine
end

section
/-! # Transmission -/

namespace Sys2Proof.Machine

/-! # Transmission (R4, R12 to R15) -/

section
variable {s : State}

/-! ### One port -/

theorem State.modPort_congr {l : Link} {f g : LinkPort → LinkPort} (h : f (s.port l) = g (s.port l)) :
    s.modPort l f = s.modPort l g := by
  simp only [State.modPort, h]

theorem State.modPort_modPort (l : Link) (f g : LinkPort → LinkPort) :
    (s.modPort l f).modPort l g = s.modPort l (fun p => g (f p)) := by
  cases l <;> rfl

theorem State.modPort_modPort_other (l : Link) (f g : LinkPort → LinkPort) :
    (s.modPort l f).modPort l.other g = (s.modPort l.other g).modPort l f := by
  cases l <;> rfl

@[simp] theorem State.port_modPort_same (l : Link) (f : LinkPort → LinkPort) : (s.modPort l f).port l = f (s.port l) := by
  cases l <;> rfl

theorem RequestFrame.of_modBrk (b : Nat) (f : BreakerRec → BreakerRec) (hf : ∀ r, (f r).position = r.position) :
    RequestFrame s (s.modBrk b f) where
  eq := rfl
  up _ := rfl
  time := rfl
  valid _ := rfl
  position i := apply_nth_modify f BreakerRec.position hf _ b i
  mgmt := rfl

theorem State.modBrk_congr {b : Nat} {f g : BreakerRec → BreakerRec} (h : f (s.brk b) = g (s.brk b)) :
    s.modBrk b f = s.modBrk b g := by
  have hrecs : s.breakers.recs.modify b f = s.breakers.recs.modify b g := by
    refine List.ext_getElem (by simp) fun i hi hi' => ?_
    by_cases hib : b = i
    · subst hib
      have hb : b < s.breakers.recs.length := by simpa using hi
      have hbrk : s.brk b = s.breakers.recs[b] := by simp [State.brk, nth, hb]
      simpa [hbrk] using h
    · simp [hib]
  simp only [State.modBrk, hrecs]

/-! ### What a request-like change leaves to the tests of a CLOSE -/

namespace RequestFrame
variable {t : State}

theorem fld (h : RequestFrame s t) (k : TableId) (e id : Nat) : t.fld k e id = s.fld k e id := by
  simp only [State.fld, h.tables]

theorem lines (h : RequestFrame s t) : t.lines = s.lines := by rw [h.eq]

theorem par (h : RequestFrame s t) : t.par = s.par := by rw [h.eq]

theorem termHolds (h : RequestFrame s t) (x : Nat) : t.termHolds x = s.termHolds x := by
  simp only [State.termHolds, h.point]

theorem expression (h : RequestFrame s t) (x : Nat) : t.expression x = s.expression x := by
  have hfld := h.fld .interlock x
  have hterms : t.groupTerms = s.groupTerms := by
    funext y i n
    rw [State.groupTerms, State.groupTerms, show t.fld .interlock y = s.fld .interlock y from funext (h.fld _ y)]
  have hholds : t.groupHolds = s.groupHolds := by
    funext ts
    rw [State.groupHolds, State.groupHolds, show t.termHolds = s.termHolds from funext h.termHolds]
  simp only [State.expression, hterms, hholds, hfld]

theorem interlockTrue (h : RequestFrame s t) (b : Nat) : t.interlockTrue b = s.interlockTrue b := by
  simp only [State.interlockTrue, h.fld, h.expression]

/-- The test of R15 reads the breaker's record beside what stands. -/
theorem frameTest (h : RequestFrame s t) {b : Nat} (hb : t.brk b = s.brk b) (tag : Nat) (mirror : Bool) :
    t.frameTest b tag mirror = s.frameTest b tag mirror := by
  have htoken : t.holdsToken = s.holdsToken := by
    funext q
    cases q <;> simp only [State.holdsToken, h.par]
  have hguarded : t.guarded b = s.guarded b := by simp only [State.guarded, h.fld]
  simp only [State.frameTest, hb, h.lines, h.interlockTrue, htoken, hguarded]

end RequestFrame

/-! ### The head frame (R12) -/

theorem LinkPort.head?_urgent {p : LinkPort} {f : OutFrame} {rest : List OutFrame} (h : p.urgent = f :: rest) :
    p.head? = some (.urgent, f) := by
  simp [LinkPort.head?, h]

theorem LinkPort.head?_normal {p : LinkPort} {f : OutFrame} {rest : List OutFrame} (hu : p.urgent = [])
    (h : p.normal = f :: rest) : p.head? = some (.normal, f) := by
  simp [LinkPort.head?, hu, h]

theorem LinkPort.head?_bulk {p : LinkPort} {f : OutFrame} {rest : List BulkPlace} (hu : p.urgent = [])
    (hn : p.normal = []) (h : p.bulk = .frame f :: rest) : p.head? = some (.bulk, f) := by
  rw [LinkPort.head?, hu, hn, h]
  rfl

theorem LinkPort.frames_ne_nil {p : LinkPort} {x : QueueName × OutFrame} (h : p.head? = some x) : p.frames ≠ [] := by
  intro hf
  simp only [LinkPort.frames, List.append_eq_nil_iff, List.filterMap_eq_nil_iff] at hf
  obtain ⟨⟨hu, hn⟩, hb⟩ := hf
  have hbulk : bulkHead p.bulk = none := by simpa [bulkHead] using hb
  simp [LinkPort.head?, hu, hn, hbulk] at h

theorem LinkPort.head?_none {p : LinkPort} (h : p.frames = []) : p.head? = none := by
  cases hx : p.head? with
  | none => rfl
  | some x => exact absurd h (LinkPort.frames_ne_nil hx)

/-- The port whose head frame is taken onto the wire. -/
def LinkPort.taking (p : LinkPort) (q : QueueName) (w : Option Sent) : LinkPort := { p.dropHead q with wire := w }

theorem exec_transmitFrame (s : State) (l : Link) : exec (.transmitFrame l) s = finish s (s.transmit l) := rfl

/-- With no frame to send the wire stays free. -/
theorem State.transmit_idle {l : Link} (h : (s.port l).up = false ∨ (s.port l).frames = []) :
    s.transmit l = s.modPort l (fun p => { p with wire := none }) := by
  unfold State.transmit
  obtain hdown | hempty := h
  · simp [hdown]
  · simp [hempty, State.transmitNext]

/-- A frame that is not a CLOSE, or that passes the test of R15, begins transmission. -/
theorem State.transmit_head {l : Link} {q : QueueName} {f : OutFrame} (hu : (s.port l).up = true)
    (hh : (s.port l).head? = some (q, f))
    (ht : ∀ b tag, f.closeFrame? = some (b, tag) → s.frameTest b tag f.mirror = none) :
    s.transmit l = (s.modPort l (fun p => p.taking q none)).beginFrame l f := by
  have hne := LinkPort.frames_ne_nil hh
  obtain ⟨n, hn⟩ : ∃ n, (s.port l).frames.length = n + 1 := ⟨_, (Nat.succ_pred_eq_of_pos (List.length_pos_iff.2 hne)).symm⟩
  have hhead : ((s.modPort l (fun p => { p with wire := none })).port l).head? = some (q, f) := by
    rw [State.port_modPort_same]; exact hh
  have hdrop : ((s.modPort l (fun p => { p with wire := none })).modPort l (fun p => p.dropHead q)) =
      s.modPort l (fun p => p.taking q none) := by
    rw [State.modPort_modPort]
    exact State.modPort_congr (by cases q <;> rfl)
  unfold State.transmit
  rw [if_pos hu, hn, State.transmitNext, hhead]
  dsimp only
  rw [hdrop]
  have hframe : RequestFrame s (s.modPort l (fun p => p.taking q none)) :=
    State.modPort_frame l _ fun p => by cases q <;> rfl
  have hbrk : ∀ b, (s.modPort l (fun p => p.taking q none)).brk b = s.brk b := fun b => by cases l <;> rfl
  split
  · rfl
  next b tag hc => rw [hframe.frameTest (hbrk b), ht b tag hc]

/-- A frame that is neither for a BIU nor an EVENT leaves with no further effect. -/
theorem State.beginFrame_plain {l : Link} {f : OutFrame} (hb : f.biu? = none) (he : f.isEvent = false) :
    s.beginFrame l f = s.modPort l (fun p => { p with wire := some (s.onWire l f) }) := by
  simp [State.beginFrame, hb, he]

theorem State.beginFrame_event {l : Link} {f : OutFrame} (hb : f.biu? = none) (he : f.isEvent = true) :
    s.beginFrame l f = (s.modPort l (fun p => { p with wire := some (s.onWire l f) })).modPort l.other
      (fun p => p.markLeft f.seq) := by
  simp [State.beginFrame, hb, he]

theorem State.beginFrame_biu {l : Link} {f : OutFrame} {b tag : Nat} (hb : f.biu? = some (b, tag)) :
    s.beginFrame l f = ((s.modPort l (fun p => { p with wire := some (s.onWire l f) })).markCommandLeft b tag).mirrorCopy
      l f := by
  simp [State.beginFrame, hb]

/-- The head frame that begins transmission with no further effect. -/
theorem State.transmit_plain {l : Link} {q : QueueName} {f : OutFrame} (hu : (s.port l).up = true)
    (hh : (s.port l).head? = some (q, f))
    (ht : ∀ b tag, f.closeFrame? = some (b, tag) → s.frameTest b tag f.mirror = none) (hb : f.biu? = none)
    (he : f.isEvent = false) : s.transmit l = s.modPort l (fun p => p.taking q (some (s.onWire l f))) := by
  rw [State.transmit_head hu hh ht, State.beginFrame_plain hb he, State.modPort_modPort]
  cases l <;> rfl

theorem State.transmit_event {l : Link} {q : QueueName} {f : OutFrame} {rs : List EventRecord}
    (hu : (s.port l).up = true) (hh : (s.port l).head? = some (q, f)) (he : f.body = .event rs) :
    s.transmit l = (s.modPort l (fun p => p.taking q (some (s.onWire l f)))).modPort l.other
      (fun p => p.markLeft f.seq) := by
  have hclose : f.closeFrame? = none := by simp [OutFrame.closeFrame?, he]
  rw [State.transmit_head hu hh (by simp [hclose]), State.beginFrame_event (by simp [OutFrame.biu?, he])
    (by simp [OutFrame.isEvent, he]), State.modPort_modPort]
  cases l <;> rfl

theorem State.transmit_biu {l : Link} {q : QueueName} {f : OutFrame} {b n tag : Nat} {a : Action} {o : Origins}
    (hu : (s.port l).up = true) (hh : (s.port l).head? = some (q, f)) (hf : f.body = .command b n a tag o)
    (hm : f.mirror = false) (ht : ∀ b tag, f.closeFrame? = some (b, tag) → s.frameTest b tag f.mirror = none) :
    s.transmit l = ((s.modPort l (fun p => p.taking q (some (s.onWire l f)))).markCommandLeft b tag).mirrorCopy l f := by
  have hbiu : f.biu? = some (b, tag) := by simp [OutFrame.biu?, hf, hm]
  rw [State.transmit_head hu hh ht, State.beginFrame_biu hbiu, State.modPort_modPort]
  cases l <;> rfl

end

section
variable {s : State}

/-- What a frame that leaves alone leaves behind. -/
theorem State.exec_transmit_plain {l : Link} {q : QueueName} {f : OutFrame} (hs : s.Quiet) (hu : (s.port l).up = true)
    (hh : (s.port l).head? = some (q, f))
    (ht : ∀ b tag, f.closeFrame? = some (b, tag) → s.frameTest b tag f.mirror = none) (hb : f.biu? = none)
    (he : f.isEvent = false) {g : LinkPort → LinkPort} (hg : (s.port l).taking q (s.wired l f) = g (s.port l)) :
    exec (.transmitFrame l) s = .next (s.modPort l g) := by
  have hframe : RequestFrame s (s.modPort l (fun p => p.taking q (some (s.onWire l f)))) :=
    State.modPort_frame l _ fun p => by cases q <;> rfl
  rw [exec_transmitFrame, State.transmit_plain hu hh ht hb he, hframe.finish hs]
  exact congrArg _ (State.modPort_congr hg)

theorem LinkPort.markLeft_eq (p : LinkPort) (seq : Nat) : p.markLeft seq = Clause.eventLeft p seq := by
  have hmark : (fun f : OutFrame => if f.isEvent && f.seq == seq then { f with left := true } else f) =
      fun f => if f.isEvent ∧ f.seq = seq then { f with left := true } else f := by
    funext f; simp
  have hnormal : (p.markLeft seq).normal = (Clause.eventLeft p seq).normal := congrArg (fun m => p.normal.map m) hmark
  have hbulk : (p.markLeft seq).bulk = (Clause.eventLeft p seq).bulk :=
    List.map_congr_left fun x _ => by
      cases x with
      | frame f => exact congrArg BulkPlace.frame (congrFun hmark f)
      | reserved n => rfl
  change { p with normal := (p.markLeft seq).normal, bulk := (p.markLeft seq).bulk } = _
  rw [hnormal, hbulk]
  rfl

theorem State.exec_transmit_event {l : Link} {q : QueueName} {f : OutFrame} {rs : List EventRecord} (hs : s.Quiet)
    (hu : (s.port l).up = true) (hh : (s.port l).head? = some (q, f)) (he : f.body = .event rs) {g : LinkPort → LinkPort}
    (hg : (s.port l).taking q (s.wired l f) = g (s.port l)) :
    exec (.transmitFrame l) s = .next ((s.modPort l g).modPort l.other (fun p => Clause.eventLeft p f.seq)) := by
  have hframe : RequestFrame s ((s.modPort l (fun p => p.taking q (some (s.onWire l f)))).modPort l.other
      (fun p => p.markLeft f.seq)) :=
    (State.modPort_frame l _ fun p => by cases q <;> rfl).trans (State.modPort_frame _ _ fun _ => rfl)
  have hport : s.modPort l (fun p => p.taking q (some (s.onWire l f))) = s.modPort l g := State.modPort_congr hg
  rw [exec_transmitFrame, State.transmit_event hu hh he, hframe.finish hs, hport]
  exact congrArg _ (congrArg _ (funext fun p => p.markLeft_eq f.seq))

theorem LinkPort.mirrored_eq (f : OutFrame) (p : LinkPort) :
    (if s.mirrorAddress == 0 then p else p.offerMirror { f with dst := s.mirrorAddress }) = Clause.mirrored s f p := by
  unfold Clause.mirrored LinkPort.offerMirror LinkPort.bulkRoom LinkPort.bulkAdd State.mirrorAddress Config.bulkPlaces
  by_cases h : s.station 3 = 0 <;> simp [h]

/-- A command whose frame with this tag begins transmission (R104). -/
def Command.leaves (tag : Nat) (c : Command) : Command :=
  if c.tag = tag ∧ c.phase ≠ .queued then { c with left := true } else c

/-- A breaker's record as a frame with this tag begins transmission. -/
def BreakerRec.leaves (tag : Nat) (r : BreakerRec) : BreakerRec := { r with slot := r.slot.map (Command.leaves tag) }

theorem State.markCommandLeft_eq (b tag : Nat) : s.markCommandLeft b tag = s.modBrk b (BreakerRec.leaves tag) := by
  have hleaves : (fun c : Command => if c.tag == tag && c.phase != .queued then { c with left := true } else c) =
      Command.leaves tag := by
    funext c; simp [Command.leaves]
  unfold State.markCommandLeft
  rw [hleaves]
  rfl

/-- A COMMAND to a BIU leaves with its command's mark and its mirror copy. -/
theorem State.exec_transmit_biu {l : Link} {q : QueueName} {f : OutFrame} {b n tag : Nat} {a : Action} {o : Origins}
    (hs : s.Quiet) (hu : (s.port l).up = true) (hh : (s.port l).head? = some (q, f))
    (hf : f.body = .command b n a tag o) (hm : f.mirror = false)
    (ht : ∀ b tag, f.closeFrame? = some (b, tag) → s.frameTest b tag f.mirror = none) {g : LinkPort → LinkPort}
    (hg : (s.port l).taking q (s.wired l f) = g (s.port l)) :
    exec (.transmitFrame l) s =
      .next ((s.modPort l (fun p => Clause.mirrored s f (g p))).modBrk b (BreakerRec.leaves tag)) := by
  have htransmit : s.transmit l = (s.modPort l (fun p => Clause.mirrored s f (g p))).modBrk b (BreakerRec.leaves tag) := by
    have hport : s.modPort l (fun p => p.taking q (some (s.onWire l f))) = s.modPort l g := State.modPort_congr hg
    have haddress : ((s.modPort l g).modBrk b (BreakerRec.leaves tag)).mirrorAddress = s.mirrorAddress := by
      cases l <;> rfl
    have hmirrored : (fun p => Clause.mirrored s f (g p)) = fun p =>
        (if s.mirrorAddress == 0 then g p else (g p).offerMirror { f with dst := s.mirrorAddress }) :=
      funext fun p => (LinkPort.mirrored_eq f (g p)).symm
    rw [State.transmit_biu hu hh hf hm ht, hport, State.markCommandLeft_eq, hmirrored, State.mirrorCopy, haddress]
    by_cases hzero : s.mirrorAddress = 0
    · simp [hzero]
    · simp only [beq_iff_eq, hzero, if_false]
      cases l <;> rfl
  have hup : (g (s.port l)).up = true := by rw [← hg]; cases q <;> exact hu
  rw [exec_transmitFrame, htransmit]
  refine RequestFrame.finish hs (RequestFrame.trans ?_ (RequestFrame.of_modBrk b _ fun _ => rfl))
  refine ⟨by cases l <;> rfl, fun k => ?_, by cases l <;> rfl, fun _ => by cases l <;> rfl, fun _ => by cases l <;> rfl,
    by cases l <;> rfl⟩
  have hmirrored : ∀ p, (Clause.mirrored s f p).up = p.up := fun p => by
    unfold Clause.mirrored; split <;> [rfl; split <;> rfl]
  cases l <;> cases k <;> first | rfl | exact (hmirrored _).trans (hup.trans hu.symm)

end

/-- Settles the head frames of O11 that leave with no further effect. -/
theorem headFrame : Clause.HeadFrame := by
  intro s l hs
  refine ⟨fun h => ?_, fun f rest g x hu hurgent hnormal hf => ?_, fun f rest n k st tg a b d hu hurgent hnormal hbulk hf => ?_⟩
  · rw [exec_transmitFrame, State.transmit_idle h]
    exact (State.modPort_frame l (fun p => { p with wire := none }) fun _ => rfl).finish hs
  · exact State.exec_transmit_plain hs hu (LinkPort.head?_normal hurgent hnormal) (by simp [OutFrame.closeFrame?, hf])
      (by simp [OutFrame.biu?, hf]) (by simp [OutFrame.isEvent, hf]) (by simp [LinkPort.taking, LinkPort.dropHead, hnormal])
  · exact State.exec_transmit_plain hs hu (LinkPort.head?_bulk hurgent hnormal hbulk) (by simp [OutFrame.closeFrame?, hf])
      (by simp [OutFrame.biu?, hf]) (by simp [OutFrame.isEvent, hf])
      (by simp [LinkPort.taking, LinkPort.dropHead, hbulk, bulkTail])

/-- Settles the EVENT and ABILITY frames and the mirror copies of O11. -/
theorem otherFrames : Clause.OtherFrames := by
  intro s l f hs hu hurgent
  refine ⟨fun rest rs hnormal hf => ?_, fun rest rs hnormal hbulk hf => ?_, fun rest g x hnormal hf => ?_,
    fun rest b n tag o hnormal hbulk hf hm => ?_⟩
  · exact State.exec_transmit_event hs hu (LinkPort.head?_normal hurgent hnormal) hf
      (by simp [LinkPort.taking, LinkPort.dropHead, hnormal])
  · exact State.exec_transmit_event hs hu (LinkPort.head?_bulk hurgent hnormal hbulk) hf
      (by simp [LinkPort.taking, LinkPort.dropHead, hbulk, bulkTail])
  · exact State.exec_transmit_plain hs hu (LinkPort.head?_normal hurgent hnormal) (by simp [OutFrame.closeFrame?, hf])
      (by simp [OutFrame.biu?, hf]) (by simp [OutFrame.isEvent, hf]) (by simp [LinkPort.taking, LinkPort.dropHead, hnormal])
  · exact State.exec_transmit_plain hs hu (LinkPort.head?_bulk hurgent hnormal hbulk) (by simp [OutFrame.closeFrame?, hf])
      (by simp [OutFrame.biu?, hf, hm]) (by simp [OutFrame.isEvent, hf])
      (by simp [LinkPort.taking, LinkPort.dropHead, hbulk, bulkTail])

/-- Settles the OPEN frames of O11. -/
theorem openFrame : Clause.OpenFrame := by
  intro s l f rest b n tag o hs hu hurgent hf hm
  exact State.exec_transmit_biu hs hu (LinkPort.head?_urgent hurgent) hf hm (by simp [OutFrame.closeFrame?, hf])
    (g := fun p => { p with urgent := rest, wire := s.wired l f }) (by simp [LinkPort.taking, LinkPort.dropHead, hurgent])

/-- Settles the CLOSE frames of O11. -/
theorem closeFrame : Clause.CloseFrame := by
  intro s l f b n tag o hs hu hurgent hf htrips hlatch hlockout hlock
  have hinterlock : s.interlockTrue b = true := by
    simpa [State.interlockTrue, Config.noneField] using hlock
  have hclose : f.closeFrame? = some (b, tag) := by simp [OutFrame.closeFrame?, hf]
  have hmirror : s.frameTest b tag true = none := by
    simp [State.frameTest, firstReason, htrips, hlatch, hlockout, hinterlock]
  refine ⟨fun c rest hnormal hm hslot haction htag hphase hdead => ?_, fun rest hnormal hbulk hm => ?_⟩
  · have htoken : (c.closeKind == .dead && s.guarded b && !s.holdsToken c.requester) = false := by
      by_contra hne
      simp only [Bool.not_eq_false, Bool.and_eq_true, beq_iff_eq, State.guarded, Bool.not_eq_true'] at hne
      obtain ⟨⟨hk, hg⟩, hh⟩ := hne
      obtain ⟨p, hp, ht⟩ := hdead hk hg
      simp [State.holdsToken, hp, ht] at hh
    have htest : s.frameTest b tag false = none := by
      simp [State.frameTest, firstReason, htrips, hlatch, hlockout, hinterlock, hslot, haction, htag, hphase, htoken]
    rw [State.exec_transmit_biu hs hu (LinkPort.head?_normal hurgent hnormal) hf hm
      (fun b' tag' h => by obtain ⟨rfl, rfl⟩ : b = b' ∧ tag = tag' := by simpa [hclose] using h
                           rw [hm]; exact htest)
      (g := fun p => { p with normal := rest, wire := s.wired l f }) (by simp [LinkPort.taking, LinkPort.dropHead, hnormal])]
    refine congrArg _ (State.modBrk_congr ?_)
    have hbrk : (s.modPort l (fun p => Clause.mirrored s f { p with normal := rest, wire := s.wired l f })).brk b =
        s.brk b := by cases l <;> rfl
    simp [hbrk, BreakerRec.leaves, Command.leaves, hslot, htag, hphase]
  · exact State.exec_transmit_plain hs hu (LinkPort.head?_bulk hurgent hnormal hbulk)
      (fun b' tag' h => by obtain ⟨rfl, rfl⟩ : b = b' ∧ tag = tag' := by simpa [hclose] using h
                           rw [hm]; exact hmirror)
      (by simp [OutFrame.biu?, hf, hm]) (by simp [OutFrame.isEvent, hf])
      (by simp [LinkPort.taking, LinkPort.dropHead, hbulk, bulkTail])

/-- Settles O11. -/
theorem headFrameIsTransmitted : Obligations.HeadFrameIsTransmitted := ⟨headFrame, otherFrames, openFrame, closeFrame⟩

end Sys2Proof.Machine
end

section
/-! # A CLOSE that is withheld -/

namespace Sys2Proof.Machine

/-! # A CLOSE that is withheld (R15, R104) -/

section
variable {s : State}

/-- The port whose head frame is discarded. -/
def LinkPort.withholding (p : LinkPort) (q : QueueName) : LinkPort :=
  { p.dropHead q with wire := none, withheld := step32 p.withheld }

/-- A CLOSE at the head that fails the test of R15 is discarded, and its command abandoned where it is the BIU's frame. -/
theorem State.transmit_withheld {l : Link} {q : QueueName} {f : OutFrame} {b tag : Nat} {reason : Option Reason}
    (hu : (s.port l).up = true) (hh : (s.port l).head? = some (q, f)) (hc : f.closeFrame? = some (b, tag))
    (ht : s.frameTest b tag f.mirror = some reason) :
    s.transmit l = State.transmitNext l ((s.port l).frames.length - 1)
      (if f.mirror then s.modPort l (fun p => p.withholding q)
        else (s.modPort l (fun p => p.withholding q)).abandonClose b reason) := by
  have hne := LinkPort.frames_ne_nil hh
  obtain ⟨n, hn⟩ : ∃ n, (s.port l).frames.length = n + 1 := ⟨_, (Nat.succ_pred_eq_of_pos (List.length_pos_iff.2 hne)).symm⟩
  have hhead : ((s.modPort l (fun p => { p with wire := none })).port l).head? = some (q, f) := by
    rw [State.port_modPort_same]; exact hh
  have hdrop : ((s.modPort l (fun p => { p with wire := none })).modPort l (fun p => p.dropHead q)) =
      s.modPort l (fun p => p.taking q none) := by
    rw [State.modPort_modPort]
    exact State.modPort_congr (by cases q <;> rfl)
  have hwithhold : (s.modPort l (fun p => p.taking q none)).withholdFrame l =
      s.modPort l (fun p => p.withholding q) := by
    rw [State.withholdFrame, State.modPort_modPort]
    exact State.modPort_congr (by cases q <;> rfl)
  have hframe : RequestFrame s (s.modPort l (fun p => p.taking q none)) :=
    State.modPort_frame l _ fun p => by cases q <;> rfl
  have hbrk : (s.modPort l (fun p => p.taking q none)).brk b = s.brk b := by cases l <;> rfl
  unfold State.transmit
  rw [if_pos hu, hn, State.transmitNext, hhead]
  dsimp only
  rw [hdrop, hc]
  dsimp only
  rw [hframe.frameTest hbrk, ht]
  dsimp only
  rw [hwithhold]
  rfl

/-- The frames of an ended command are withdrawn unless it never left its queue. -/
def State.withoutFrames (s : State) (b : Nat) (c : Command) : State :=
  if c.phase == .queued then s else s.withdrawFrame b c.tag

/-- A breaker's record once its command has ended. -/
def BreakerRec.ended (r : BreakerRec) (o : Outcome) : BreakerRec :=
  { r with slot := none, lastOutcome := some o, outcomes := r.outcomes.modify o.code step32 }

theorem State.endCommand_eq {b : Nat} {c : Command} (h : (s.brk b).slot = some c) (o : Outcome) :
    s.endCommand b o = ((((s.withoutFrames b c).modBrk b (·.ended o)).event .breaker (o.priority c.tripOpen) b 6
      (some o.value)).returnOutcome b c o).concludeClose b c := by
  rw [State.endCommand, h]
  rfl

/-- The end of an operator's command goes no further than its record and its event. -/
theorem State.endCommand_operator {b : Nat} {c : Command} (h : (s.brk b).slot = some c) (o : Outcome)
    (hr : c.requester = .operator) (ho : c.origins = { operator := true }) :
    s.endCommand b o = ((s.withoutFrames b c).modBrk b (·.ended o)).event .breaker (o.priority c.tripOpen) b 6
      (some o.value) := by
  rw [State.endCommand_eq h, State.returnOutcome, ho, State.concludeClose, hr]
  cases c.action <;> rfl

theorem State.abandonClose_refused {b : Nat} {c : Command} (h : (s.brk b).slot = some c) (y : Reason) :
    s.abandonClose b (some y) = if c.left then s else s.endCommand b (.refused y) := by
  simp [State.abandonClose, h]

@[simp] theorem State.withoutFrames_brk (b : Nat) (c : Command) (a : Nat) : (s.withoutFrames b c).brk a = s.brk a := by
  unfold State.withoutFrames; split <;> rfl

@[simp] theorem State.withoutFrames_breakers (b : Nat) (c : Command) : (s.withoutFrames b c).breakers = s.breakers := by
  unfold State.withoutFrames; split <;> rfl

@[simp] theorem State.withoutFrames_work (b : Nat) (c : Command) : (s.withoutFrames b c).work = s.work := by
  unfold State.withoutFrames; split <;> rfl

@[simp] theorem State.withoutFrames_events (b : Nat) (c : Command) : (s.withoutFrames b c).events = s.events := by
  unfold State.withoutFrames; split <;> rfl

@[simp] theorem State.withoutFrames_eventLabel (b : Nat) (c : Command) :
    (s.withoutFrames b c).eventLabel = s.eventLabel := by
  unfold State.withoutFrames; split <;> rfl

theorem Touches.withoutFrames {ps : List StatePart} {t : State} (b : Nat) (c : Command) (h : Touches ps s t)
    (hl : .links ∈ ps := by decide) : Touches ps s (t.withoutFrames b c) :=
  Touches.ite h (h.links _ hl)

/-- Neither the end of a command nor an event moves what stands on a wire or a count of withheld frames. -/
theorem State.withoutFrames_port (b : Nat) (c : Command) (l : Link) :
    ((s.withoutFrames b c).port l).wire = (s.port l).wire ∧ ((s.withoutFrames b c).port l).withheld = (s.port l).withheld := by
  unfold State.withoutFrames
  split
  · exact ⟨rfl, rfl⟩
  · cases l <;> exact ⟨rfl, rfl⟩

theorem LinkFrame.port {x y : Links} (h : LinkFrame x y) {u v : State} (hu : u.links = x) (hv : v.links = y) (l : Link) :
    PortFrame (u.port l) (v.port l) := by
  subst hu hv
  cases l
  · exact h.a
  · exact h.b

/-- What work leaves of a port beside its queues. -/
theorem PortFrame.wire {p q : LinkPort} (h : PortFrame p q) : q.wire = p.wire := by rw [h.eq]

theorem PortFrame.withheld {p q : LinkPort} (h : PortFrame p q) : q.withheld = p.withheld := by rw [h.eq]

theorem State.settle_port (s₀ : State) (l : Link) : PortFrame (s.port l) ((State.settle s₀ s).port l) :=
  (State.settle_links s₀ s).port rfl rfl l

theorem State.event_port (c : EventClass) (priority object code : Nat) (value : Option Nat) (l : Link) :
    PortFrame (s.port l) ((s.event c priority object code value).port l) :=
  (State.event_links s c priority object code value).port rfl rfl l

end

/-- Settles O12: the frame's test fails for LOCKOUT first, so that the operator's command ends with no further work. -/
theorem withheldCloseIsRefused : Obligations.WithheldCloseIsRefused := by
  intro s l f b n tag o c hs hb hu hurgent hnormal hbulk hf hm hslot haction htag hphase hleft hrequester horigins htrips
    hlatch hlockout
  have hhead := LinkPort.head?_normal (f := f) hurgent hnormal
  have hclose : f.closeFrame? = some (b, tag) := by simp [OutFrame.closeFrame?, hf]
  have htest : s.frameTest b tag f.mirror = some (some .lockout) := by
    simp [State.frameTest, firstReason, htrips, hlatch, hlockout, hm, hslot, haction, htag, hphase]
  have hlength : (s.port l).frames.length - 1 = 0 := by simp [LinkPort.frames, hurgent, hnormal, hbulk]
  set w := s.modPort l (fun p => p.withholding .normal) with hw
  have hwslot : (w.brk b).slot = some c := by rw [hw]; cases l <;> exact hslot
  have htransmit : s.transmit l = ((w.withoutFrames b c).modBrk b (·.ended (.refused .lockout))).event .breaker 11 b 6
      (some (2 + 256 * 3)) := by
    rw [State.transmit_withheld hu hhead hclose htest, hlength, State.transmitNext, hm, if_neg (by simp), ← hw,
      State.abandonClose_refused hwslot, if_neg (by simp [hleft]), State.endCommand_operator hwslot _ hrequester horigins]
    simp [Outcome.priority, Outcome.value, Reason.code]
  have hwbrk : ∀ a, w.brk a = s.brk a := fun a => by rw [hw]; cases l <;> rfl
  have hlt : b < (w.withoutFrames b c).breakers.recs.length := by
    have : w.breakers = s.breakers := by rw [hw]; cases l <;> rfl
    simp [this, hs.recs_length, hb]
  have hwork : (s.transmit l).work = [] := by
    rw [htransmit]
    simp [hw, hs.1]
  have hport : ((State.settle s (s.transmit l)).port l).wire = (w.port l).wire ∧
      ((State.settle s (s.transmit l)).port l).withheld = (w.port l).withheld := by
    obtain ⟨hwire, hcount⟩ := State.withoutFrames_port (s := w) b c l
    have hevent := State.event_port (s := (w.withoutFrames b c).modBrk b (·.ended (.refused .lockout))) .breaker 11 b 6
      (some (2 + 256 * 3)) l
    rw [← htransmit] at hevent
    have hframe := hevent.trans (State.settle_port s l)
    exact ⟨hframe.wire.trans hwire, hframe.withheld.trans hcount⟩
  refine ⟨_, exec_transmitFrame s l, ?_, ?_, ?_, fun a ha => ?_, ?_, ?_⟩
  · rw [hport.1, hw, State.port_modPort_same]; rfl
  · rw [hport.2, hw, State.port_modPort_same]; rfl
  · rw [State.settle_brk hwork, htransmit, State.event_brk, State.brk_modBrk_same _ _ hlt, State.withoutFrames_brk, hwbrk]
    rfl
  · rw [State.settle_brk hwork, htransmit, State.event_brk, State.brk_modBrk_other _ _ ha.symm, State.withoutFrames_brk,
      hwbrk]
  · rw [Records, State.settle_newest hwork, htransmit, State.event_newest]
    have hlabel : w.eventLabel = s.aligner.counter := by rw [← hs.eventLabel, hw]; cases l <;> rfl
    have hnext : w.events = s.events := by rw [hw]; cases l <;> rfl
    have hstand : ((w.withoutFrames b c).modBrk b (·.ended (.refused .lockout))).eventLabel =
      (w.withoutFrames b c).eventLabel := rfl
    simp [hstand, hlabel, hnext]
  · rw [htransmit]
    exact ((((Touches.refl _ s).modPort l _).withoutFrames b c).modBrk b _).event _ _ _ _ _ |>.only_calm hs.1 hs.risen


end Sys2Proof.Machine
end

section
/-! # No CLOSE begins that may not -/

namespace Sys2Proof.Machine

/-! # What a CLOSE that is withheld leaves to the frames behind it (R15) -/

section
variable {s t u : State}

/-! ### The points that no end of a CLOSE moves -/

/-- From `s` to `t` nothing changes that a point other than TOKEN_HELD (237) and CHANNEL_0 (239) is computed from (R80). -/
structure ImageFrame (s t : State) : Prop where
  position : ∀ b, (t.brk b).position = (s.brk b).position
  valid : ∀ k, (t.stream k).valid = (s.stream k).valid
  gen : ∀ g, (t.gen g).state = (s.gen g).state
  up : ∀ l, (t.port l).up = (s.port l).up
  elements : t.elements = s.elements
  seq : t.seq = s.seq
  lines : t.lines = s.lines
  aligner : t.aligner = s.aligner
  capture : t.capture = s.capture
  mgmt : t.mgmt = s.mgmt

namespace ImageFrame

theorem refl (s : State) : ImageFrame s s :=
  ⟨fun _ => rfl, fun _ => rfl, fun _ => rfl, fun _ => rfl, rfl, rfl, rfl, rfl, rfl, rfl⟩

theorem trans (h : ImageFrame s t) (k : ImageFrame t u) : ImageFrame s u where
  position b := (k.position b).trans (h.position b)
  valid i := (k.valid i).trans (h.valid i)
  gen g := (k.gen g).trans (h.gen g)
  up l := (k.up l).trans (h.up l)
  elements := k.elements.trans h.elements
  seq := k.seq.trans h.seq
  lines := k.lines.trans h.lines
  aligner := k.aligner.trans h.aligner
  capture := k.capture.trans h.capture
  mgmt := k.mgmt.trans h.mgmt

theorem point (h : ImageFrame s t) {n : Nat} (hn : n ≠ 237) (hn' : n ≠ 239) : t.point n = s.point n := by
  have ha : t.links.a.up = s.links.a.up := h.up .a
  have hb : t.links.b.up = s.links.b.up := h.up .b
  simp only [State.point, State.element, State.run?, State.parallelRuns, State.source, h.position, h.valid, h.gen, ha, hb,
    h.elements, h.seq, h.lines, h.aligner, h.capture, h.mgmt, beq_iff_eq, hn, hn', if_false]

theorem fld (h : ImageFrame s t) (k : TableId) (e id : Nat) : t.fld k e id = s.fld k e id := by
  simp only [State.fld, h.mgmt]

end ImageFrame

/-! ### Frames that join the queues with an event -/

/-- Every frame of `q` is one of `p` or an EVENT. -/
def LinkPort.GainsEvents (p q : LinkPort) : Prop := ∀ f ∈ q.frames, f ∈ p.frames ∨ f.isEvent = true

theorem LinkPort.GainsEvents.refl (p : LinkPort) : p.GainsEvents p := fun _ h => .inl h

theorem LinkPort.GainsEvents.trans {p q r : LinkPort} (h : p.GainsEvents q) (k : q.GainsEvents r) : p.GainsEvents r :=
  fun f hf => (k f hf).elim (h f) .inr

theorem LinkPort.admitNormal_gains (p : LinkPort) {f : OutFrame} (c : OutFrame → Bool) (hf : f.isEvent = true) :
    p.GainsEvents (p.admitNormal c f).1 := by
  intro x hx
  unfold LinkPort.admitNormal at hx
  split at hx
  · simp only [LinkPort.frames, List.mem_append, List.mem_singleton] at hx ⊢
    rcases hx with (hx | hx | rfl) | hx
    · exact .inl (.inl (.inl hx))
    · exact .inl (.inl (.inr hx))
    · exact .inr hf
    · exact .inl (.inr hx)
  · exact .inl hx

theorem LinkPort.admitBulk_gains (p : LinkPort) {f : OutFrame} (hf : f.isEvent = true) :
    p.GainsEvents (p.admitBulk f).1 := by
  intro x hx
  unfold LinkPort.admitBulk at hx
  split at hx
  · simp only [LinkPort.frames, LinkPort.bulkAdd, List.filterMap_append, List.mem_append] at hx ⊢
    rcases hx with hx | hx | hx
    · exact .inl (.inl hx)
    · exact .inl (.inr hx)
    · obtain rfl : x = f := by simpa [BulkPlace.frame?] using hx
      exact .inr hf
  · exact .inl hx

theorem State.onUpLinks_gains (f : LinkPort → LinkPort × Bool) (hf : ∀ p : LinkPort, p.GainsEvents (f p).1) (l : Link) :
    (s.port l).GainsEvents ((s.onUpLinks f).1.port l) := by
  cases l
  · simp only [State.onUpLinks, State.port]
    split
    · exact hf _
    · exact .refl _
  · simp only [State.onUpLinks, State.port]
    split
    · exact hf _
    · exact .refl _

theorem State.sendEvents_gains (urgent : Bool) (l : Link) : (s.port l).GainsEvents ((s.sendEvents urgent).port l) := by
  unfold State.sendEvents
  dsimp only
  split
  · exact .refl _
  have hadmit : ∀ (x : Nat) (f : OutFrame), f.isEvent = true → (s.port l).GainsEvents
      ((State.onUpLinks { s with links := { s.links with eventSeq := x } }
        (if urgent then LinkPort.admitNormal OutFrame.isEvent f else LinkPort.admitBulk f)).1.port l) := by
    intro x f hf
    have h := State.onUpLinks_gains (s := { s with links := { s.links with eventSeq := x } })
      (if urgent then LinkPort.admitNormal OutFrame.isEvent f else LinkPort.admitBulk f) (fun p => by
        split
        · exact p.admitNormal_gains _ hf
        · exact p.admitBulk_gains hf) l
    cases l <;> exact h
  split <;> exact hadmit _ _ rfl

theorem State.event_gains (c : EventClass) (priority object code : Nat) (value : Option Nat) (l : Link) :
    (s.port l).GainsEvents ((s.event c priority object code value).port l) :=
  (State.sendEvents_gains (s := { s with events := s.events.append _ }) true l).trans (State.sendEvents_gains false l)

theorem State.withoutFrames_gains (b : Nat) (c : Command) (l : Link) :
    (s.port l).GainsEvents ((s.withoutFrames b c).port l) := by
  intro f hf
  unfold State.withoutFrames at hf
  split at hf
  · exact .inl hf
  · refine .inl ?_
    simp only [LinkPort.frames, List.mem_append] at hf ⊢
    cases l <;> exact hf.imp_left (Or.imp (fun h => List.mem_of_mem_filter h) fun h => List.mem_of_mem_filter h)

/-! ### The end of a CLOSE -/

/-- What abandoned CLOSEs may do: take commands out of their slots, free the token, give a channel back, withdraw frames and
send EVENT frames. -/
structure Yields (s t : State) : Prop where
  image : ImageFrame s t
  trips : ∀ b, (t.brk b).trips = (s.brk b).trips
  slot : ∀ b, (t.brk b).slot = (s.brk b).slot ∨ (t.brk b).slot = none
  token : t.par.token = s.par.token ∨ t.par.token = none
  frames : ∀ l, (s.port l).GainsEvents (t.port l)
  wire : ∀ l, (t.port l).wire = (s.port l).wire
  withheld : ∀ l, (t.port l).withheld = (s.port l).withheld

namespace Yields

theorem refl (s : State) : Yields s s :=
  ⟨.refl s, fun _ => rfl, fun _ => .inl rfl, .inl rfl, fun _ => .refl _, fun _ => rfl, fun _ => rfl⟩

theorem trans (h : Yields s t) (k : Yields t u) : Yields s u where
  image := h.image.trans k.image
  trips b := (k.trips b).trans (h.trips b)
  slot b := (k.slot b).elim (fun e => by rw [e]; exact h.slot b) .inr
  token := k.token.elim (fun e => by rw [e]; exact h.token) .inr
  frames l := (h.frames l).trans (k.frames l)
  wire l := (k.wire l).trans (h.wire l)
  withheld l := (k.withheld l).trans (h.withheld l)

theorem withoutFrames (b : Nat) (c : Command) (h : Yields s t) : Yields s (t.withoutFrames b c) := by
  refine h.trans ⟨?_, fun _ => by simp, fun _ => .inl (by simp), .inl ?_, State.withoutFrames_gains b c,
    fun l => (State.withoutFrames_port b c l).1, fun l => (State.withoutFrames_port b c l).2⟩
  · unfold State.withoutFrames
    split
    · exact .refl _
    · exact ⟨fun _ => rfl, fun _ => rfl, fun _ => rfl, fun l => by cases l <;> rfl, rfl, rfl, rfl, rfl, rfl, rfl⟩
  · unfold State.withoutFrames
    split <;> rfl

theorem ended (b : Nat) (o : Outcome) (h : Yields s t) : Yields s (t.modBrk b (·.ended o)) := by
  refine h.trans ⟨⟨?_, fun _ => rfl, fun _ => rfl, fun _ => rfl, rfl, rfl, rfl, rfl, rfl, rfl⟩, ?_, fun a => ?_, .inl rfl,
    fun _ => .refl _, fun _ => rfl, fun _ => rfl⟩
  · exact fun a => apply_nth_modify (fun r : BreakerRec => r.ended o) BreakerRec.position (fun _ => rfl) _ b a
  · exact fun a => apply_nth_modify (fun r : BreakerRec => r.ended o) BreakerRec.trips (fun _ => rfl) _ b a
  · by_cases hab : b = a
    · subst hab
      by_cases hb : b < t.breakers.recs.length
      · exact .inr (by rw [State.brk_modBrk_same _ _ hb]; rfl)
      · exact .inl (by simp [State.brk, State.modBrk, nth, List.getElem?_eq_none (Nat.not_lt.1 hb)])
    · exact .inl (by rw [State.brk_modBrk_other _ _ hab])

theorem event (c : EventClass) (priority object code : Nat) (value : Option Nat) (h : Yields s t) :
    Yields s (t.event c priority object code value) := by
  have hport := fun l => State.event_port (s := t) c priority object code value l
  refine h.trans ⟨⟨fun _ => by simp, fun _ => by simp, fun _ => by simp, fun l => by simp, by simp, by simp, by simp,
    by simp, by simp, by simp⟩, fun _ => by simp, fun _ => .inl (by simp), .inl (by simp), State.event_gains _ _ _ _ _,
    fun l => (hport l).wire, fun l => (hport l).withheld⟩

theorem post (w : Work) (h : Yields s t) : Yields s (t.post w) :=
  h.trans ⟨⟨fun _ => rfl, fun _ => rfl, fun _ => rfl, fun _ => rfl, rfl, rfl, rfl, rfl, rfl, rfl⟩, fun _ => rfl,
    fun _ => .inl rfl, .inl rfl, fun _ => .refl _, fun _ => rfl, fun _ => rfl⟩

theorem modPar (f : Paralleling → Paralleling) (hg : ∀ g, (nth (f t.par).gens g).state = (t.gen g).state)
    (ht : (f t.par).token = t.par.token ∨ (f t.par).token = none) (h : Yields s t) : Yields s (t.modPar f) :=
  h.trans ⟨⟨fun _ => rfl, fun _ => rfl, hg, fun _ => rfl, rfl, rfl, rfl, rfl, rfl, rfl⟩, fun _ => rfl,
    fun _ => .inl rfl, ht, fun _ => .refl _, fun _ => rfl, fun _ => rfl⟩

theorem clearBiases (gs : List Nat) (h : Yields s t) : Yields s (t.clearBiases gs) := by
  unfold State.clearBiases State.forEach
  induction gs generalizing t with
  | nil => exact h
  | cons g gs ih =>
    exact ih (h.modPar _ (fun i => apply_nth_modify (fun r : GenRec => { r with speedBias := 0, voltageBias := 0 })
      GenRec.state (fun _ => rfl) _ g i) (.inl rfl))

theorem endRunOf (p : Party) (b : Nat) (h : Yields s t) : Yields s (t.endRunOf p b) := by
  unfold State.endRunOf
  split
  · exact h
  unfold State.endRun
  split
  · exact h
  next r _ =>
    have hgiven := fun n => (h.clearBiases r.wrote).modPar (fun u => { u with channels := u.channels.set n none })
      (fun _ => rfl) (.inl rfl)
    dsimp only
    split
    · exact hgiven _
    · exact (hgiven _).post _

theorem freeToken (p : Party) (h : Yields s t) : Yields s (t.freeToken p) := by
  unfold State.freeToken
  split
  · exact (h.modPar (fun u => { u with token := none }) (fun _ => rfl) (.inr rfl)).post _
  · exact h

theorem returnOutcome (b : Nat) (c : Command) (o : Outcome) (h : Yields s t) : Yields s (t.returnOutcome b c o) := by
  have hseq : Yields s (if c.origins.changeover then t.post (.seqOutcome b c.action o) else t) := by
    split
    · exact h.post _
    · exact h
  unfold State.returnOutcome
  dsimp only
  split
  · exact hseq.post _
  · exact hseq

theorem concludeClose (b : Nat) (c : Command) (h : Yields s t) : Yields s (t.concludeClose b c) := by
  unfold State.concludeClose
  split
  · split
    · exact h
    · exact h.freeToken _
    · exact h.endRunOf _ _
  · exact h

theorem abandonClose (b : Nat) (reason : Option Reason) (h : Yields s t) : Yields s (t.abandonClose b reason) := by
  unfold State.abandonClose
  split
  next y c hslot =>
    split
    · exact h
    · rw [State.endCommand_eq hslot]
      exact ((((h.withoutFrames b c).ended b _).event _ _ _ _ _).returnOutcome b c _).concludeClose b c
  · exact h

end Yields

/-! ### From the head of the queues to the frame that begins -/

/-- From `s` to `t`, `k` CLOSE frames of link `l` have been withheld, and their commands abandoned. -/
structure Withholds (l : Link) (k : Nat) (s t : State) : Prop where
  image : ImageFrame s t
  trips : ∀ b, (t.brk b).trips = (s.brk b).trips
  slot : ∀ b, (t.brk b).slot = (s.brk b).slot ∨ (t.brk b).slot = none
  token : t.par.token = s.par.token ∨ t.par.token = none
  frames : (s.port l).GainsEvents (t.port l)
  wire : (t.port l).wire = none
  withheld : (t.port l).withheld = step32^[k] (s.port l).withheld
  untouched : k = 0 → t.par = s.par

theorem LinkPort.dropHead_gains (p : LinkPort) (q : QueueName) : p.GainsEvents (p.dropHead q) := by
  have hbulk : ∀ ps : List BulkPlace, ∀ x ∈ (bulkTail ps).filterMap BulkPlace.frame?,
      x ∈ ps.filterMap BulkPlace.frame? := by
    intro ps
    induction ps with
    | nil => exact fun x h => h
    | cons y ys ih =>
      cases y with
      | frame f => exact fun x h => by simp [bulkTail, BulkPlace.frame?] at h ⊢; exact .inr h
      | reserved n => exact fun x h => by simpa [bulkTail, BulkPlace.frame?] using ih x (by simpa [bulkTail, BulkPlace.frame?] using h)
  intro f hf
  refine .inl ?_
  simp only [LinkPort.frames, List.mem_append] at hf ⊢
  cases q with
  | urgent => exact hf.imp_left (Or.imp_left List.mem_of_mem_tail)
  | normal => exact hf.imp_left (Or.imp_right List.mem_of_mem_tail)
  | bulk => exact hf.imp_right (hbulk _ f)

theorem Withholds.drop {l : Link} {k : Nat} (q : QueueName) (h : Withholds l k s t) :
    Withholds l k s (t.modPort l (fun p => p.dropHead q)) where
  image := h.image.trans ⟨fun _ => by cases l <;> rfl, fun _ => by cases l <;> rfl, fun _ => by cases l <;> rfl,
    fun i => by cases l <;> cases i <;> cases q <;> rfl, by cases l <;> rfl, by cases l <;> rfl, by cases l <;> rfl,
    by cases l <;> rfl, by cases l <;> rfl, by cases l <;> rfl⟩
  trips b := by rw [← h.trips]; cases l <;> rfl
  slot b := by have := h.slot b; cases l <;> exact this
  token := by have := h.token; cases l <;> exact this
  frames := by
    rw [State.port_modPort_same]
    exact h.frames.trans (LinkPort.dropHead_gains _ q)
  wire := by rw [State.port_modPort_same, ← h.wire]; cases q <;> rfl
  withheld := by rw [State.port_modPort_same, ← h.withheld]; cases q <;> rfl
  untouched hk := by rw [← h.untouched hk]; cases l <;> rfl

theorem Withholds.withhold {l : Link} {k : Nat} (h : Withholds l k s t) : Withholds l (k + 1) s (t.withholdFrame l) where
  image := h.image.trans ⟨fun _ => by cases l <;> rfl, fun _ => by cases l <;> rfl, fun _ => by cases l <;> rfl,
    fun i => by cases l <;> cases i <;> rfl, by cases l <;> rfl, by cases l <;> rfl, by cases l <;> rfl,
    by cases l <;> rfl, by cases l <;> rfl, by cases l <;> rfl⟩
  trips b := by rw [← h.trips]; cases l <;> rfl
  slot b := by have := h.slot b; cases l <;> exact this
  token := by have := h.token; cases l <;> exact this
  frames := by
    rw [State.withholdFrame, State.port_modPort_same]
    exact h.frames
  wire := by rw [State.withholdFrame, State.port_modPort_same, ← h.wire]
  withheld := by rw [State.withholdFrame, State.port_modPort_same, Function.iterate_succ_apply', ← h.withheld]
  untouched hk := absurd hk (by omega)

theorem Withholds.yields {l : Link} {k : Nat} (hk : k ≠ 0) (h : Withholds l k s t) (y : Yields t u) :
    Withholds l k s u where
  image := h.image.trans y.image
  trips b := (y.trips b).trans (h.trips b)
  slot b := (y.slot b).elim (fun e => by rw [e]; exact h.slot b) .inr
  token := y.token.elim (fun e => by rw [e]; exact h.token) .inr
  frames := h.frames.trans (y.frames l)
  wire := (y.wire l).trans h.wire
  withheld := (y.withheld l).trans h.withheld
  untouched h0 := absurd h0 hk

/-- A frame that begins on the wire: it is the head of a state that the withheld ones have led to, and if it is a CLOSE it
has passed the test of R15 there. -/
def State.Begun (s : State) (l : Link) (n : Nat) (u : State) : Prop :=
  ∃ (k : Nat) (t : State) (f : OutFrame), k ≤ n ∧ Withholds l k s t ∧ (f ∈ (s.port l).frames ∨ f.isEvent = true) ∧
    (u.port l).wire.map Sent.payload = some f.bytes ∧ (u.port l).withheld = step32^[k] (s.port l).withheld ∧
    ∀ b tag, f.closeFrame? = some (b, tag) → t.frameTest b tag f.mirror = none

theorem State.beginFrame_port {l : Link} (f : OutFrame) :
    ((s.beginFrame l f).port l).wire = some (s.onWire l f) ∧ ((s.beginFrame l f).port l).withheld = (s.port l).withheld := by
  have hmirror : ∀ t : State, ((t.mirrorCopy l f).port l).wire = (t.port l).wire ∧
      ((t.mirrorCopy l f).port l).withheld = (t.port l).withheld := fun t => by
    unfold State.mirrorCopy
    split
    · exact ⟨rfl, rfl⟩
    · rw [State.port_modPort_same, LinkPort.offerMirror]
      split <;> exact ⟨rfl, rfl⟩
  unfold State.beginFrame
  dsimp only
  split
  · obtain ⟨hw, hn⟩ := hmirror ((s.modPort l (fun p => { p with wire := some (s.onWire l f) })).markCommandLeft _ _)
    rw [hw, hn]
    cases l <;> exact ⟨rfl, rfl⟩
  · split <;> cases l <;> exact ⟨rfl, rfl⟩

theorem LinkPort.head?_mem {p : LinkPort} {q : QueueName} {f : OutFrame} (h : p.head? = some (q, f)) : f ∈ p.frames := by
  simp only [LinkPort.frames, List.mem_append, List.mem_filterMap]
  cases hu : p.urgent with
  | cons g rest =>
    obtain ⟨-, rfl⟩ : QueueName.urgent = q ∧ g = f := by simpa [LinkPort.head?_urgent hu] using h
    exact .inl (.inl (by simp))
  | nil =>
    cases hn : p.normal with
    | cons g rest =>
      obtain ⟨-, rfl⟩ : QueueName.normal = q ∧ g = f := by simpa [LinkPort.head?_normal hu hn] using h
      exact .inl (.inr (by simp))
    | nil =>
      cases hb : bulkHead p.bulk with
      | none => simp [LinkPort.head?, hu, hn, hb] at h
      | some g =>
        obtain ⟨-, rfl⟩ : QueueName.bulk = q ∧ g = f := by simpa [LinkPort.head?, hu, hn, hb] using h
        obtain ⟨x, hx, hxf⟩ := List.exists_of_findSome?_eq_some hb
        exact .inr ⟨x, hx, hxf⟩

/-- Frames are taken from the head until one begins or none is left. -/
theorem State.transmitNext_begun {l : Link} (n k m : Nat) (hkm : k + n ≤ m) (h : Withholds l k s t) :
    ((State.transmitNext l n t).port l).wire = none ∨ s.Begun l m (State.transmitNext l n t) := by
  induction n generalizing t k with
  | zero => exact .inl h.wire
  | succ n ih =>
    unfold State.transmitNext
    split
    · exact .inl h.wire
    next q f hf =>
      have hdrop := h.drop q
      have hbegin : ∀ ht : (∀ b tag, f.closeFrame? = some (b, tag) →
          (t.modPort l (fun p => p.dropHead q)).frameTest b tag f.mirror = none),
          s.Begun l m ((t.modPort l (fun p => p.dropHead q)).beginFrame l f) := fun ht => by
        obtain ⟨hw, hc⟩ := State.beginFrame_port (s := t.modPort l (fun p => p.dropHead q)) (l := l) f
        exact ⟨k, _, f, by omega, hdrop, h.frames f (LinkPort.head?_mem hf), by rw [hw]; rfl, by rw [hc, hdrop.withheld], ht⟩
      dsimp only
      split
      next hclose => exact .inr (hbegin fun b tag hb => absurd hb (by simp [hclose]))
      next b tag hclose =>
        split
        next htest =>
          exact .inr (hbegin fun b' tag' hb => by
            obtain ⟨rfl, rfl⟩ : b = b' ∧ tag = tag' := by simpa [hclose] using hb
            exact htest)
        · refine ih (k + 1) (by omega) ?_
          split
          · exact hdrop.withhold
          · exact hdrop.withhold.yields (by omega) ((Yields.refl _).abandonClose b _)

/-- Fewer than 2^32 steps of a count bring it back to its value only if there are none. -/
theorem step32_iterate_eq {n k : Nat} (hk : k < 2 ^ 32) (h : step32^[k] n = n) : k = 0 := by
  by_contra hne
  have hiter : ∀ j, step32^[j + 1] n = (n + (j + 1)) % 2 ^ 32 := by
    intro j
    induction j with
    | zero => rfl
    | succ j ih =>
      rw [Function.iterate_succ_apply', ih]
      unfold step32
      omega
  obtain ⟨j, rfl⟩ : ∃ j, k = j + 1 := ⟨k - 1, by omega⟩
  rw [hiter] at h
  omega

/-- Only a COMMAND with action CLOSE is spelt as one (R19). -/
theorem OutFrame.closing_of_bytes {f : OutFrame} (h : closeCommand f.bytes) :
    ∃ b n tag o, f.body = .command b n .closing tag o := by
  obtain ⟨hclass, haction⟩ := h
  cases hf : f.body with
  | command b n a tag o =>
    cases a with
    | opening =>
      simp [OutFrame.bytes, hf, OutBody.class_, OutBody.bytes, stationBytes, beBytes, fieldAt, sliceBytes, beNat,
        Action.code] at haction
    | closing => exact ⟨b, n, tag, o, rfl⟩
  | genset _ _ | ability _ _ | event _ | response _ _ _ _ _ _ _ =>
    simp [OutFrame.bytes, hf, OutBody.class_, stationBytes, beBytes, fieldAt, sliceBytes, beNat,
      FrameClass.code] at hclass

/-- What a CLOSE that passes the test of R15 tells of the state in which it is made. -/
theorem State.frameTest_none {b tag : Nat} {mirror : Bool} (h : s.frameTest b tag mirror = none) :
    (s.brk b).trips = [] ∧ s.lines.tripLatch = false ∧ s.lines.lockout = false ∧ s.interlockTrue b = true ∧
      (mirror = false → ∃ c, (s.brk b).slot = some c ∧ c.action = .closing ∧ c.tag = tag ∧ c.phase ≠ .queued ∧
        (c.closeKind = .dead → s.guarded b = true → s.holdsToken c.requester = true)) := by
  cases mirror with
  | true =>
    have htests : (s.brk b).trips = [] ∧ s.lines.tripLatch = false ∧ s.lines.lockout = false ∧
        s.interlockTrue b = true := by
      simpa [State.frameTest, firstReason, and_assoc] using h
    obtain ⟨htrips, hlatch, hlockout, hinterlock⟩ := htests
    exact ⟨htrips, hlatch, hlockout, hinterlock, fun hm => absurd hm (by simp)⟩
  | false =>
    cases hslot : (s.brk b).slot with
    | none => simp [State.frameTest, hslot] at h
    | some c =>
      simp only [State.frameTest, hslot, Bool.false_eq_true, if_false] at h
      split at h
      next => simp at h
      next hissued =>
        have htests : (s.brk b).trips = [] ∧ s.lines.tripLatch = false ∧ s.lines.lockout = false ∧
            (c.closeKind = .dead → s.guarded b = true → s.holdsToken c.requester = true) ∧ s.interlockTrue b = true := by
          simpa [firstReason, and_assoc] using h
        obtain ⟨htrips, hlatch, hlockout, htoken, hinterlock⟩ := htests
        have hcommand : c.action = .closing ∧ c.tag = tag ∧ c.phase ≠ .queued := by simpa [not_or, and_assoc] using hissued
        obtain ⟨haction, htag, hphase⟩ := hcommand
        exact ⟨htrips, hlatch, hlockout, hinterlock, fun _ => ⟨c, rfl, haction, htag, hphase, htoken⟩⟩

/-- The frame that a TRANSMIT_FRAME leaves on a wire is one that begins. -/
theorem State.transmit_begun {l : Link} {w : Sent} (h : ((s.transmit l).port l).wire = some w) :
    s.Begun l (s.port l).frames.length (s.transmit l) := by
  have hfree : Withholds l 0 s (s.modPort l (fun p => { p with wire := none })) :=
    ⟨⟨fun _ => by cases l <;> rfl, fun _ => by cases l <;> rfl, fun _ => by cases l <;> rfl,
      fun i => by cases l <;> cases i <;> rfl, by cases l <;> rfl, by cases l <;> rfl, by cases l <;> rfl,
      by cases l <;> rfl, by cases l <;> rfl, by cases l <;> rfl⟩, fun _ => by cases l <;> rfl,
      fun _ => .inl (by cases l <;> rfl), .inl (by cases l <;> rfl), by rw [State.port_modPort_same]; exact .refl _,
      by rw [State.port_modPort_same], by rw [State.port_modPort_same]; rfl, fun _ => by cases l <;> rfl⟩
  unfold State.transmit at h ⊢
  dsimp only at h ⊢
  split at h
  · next hu =>
    rw [if_pos hu]
    exact (State.transmitNext_begun _ 0 _ (by omega) hfree).resolve_left (by rw [h]; simp)
  · rw [hfree.wire] at h
    simp at h

/-- An interlock that is true after frames were withheld was true before, where it does not read what they may move. -/
theorem Withholds.expression {l : Link} {k : Nat} (h : Withholds l k s t) {x : Nat}
    (hx : (∀ id, 3 ≤ id → s.fld .interlock x id % 256 ∉ [237, 239]) ∨ k = 0) (ht : t.expression x = true) :
    s.expression x = true := by
  have hpoint : ∀ id, 3 ≤ id → t.point (s.fld .interlock x id % 256) = s.point (s.fld .interlock x id % 256) := by
    intro id hid
    obtain hother | h0 := hx
    · have hne : s.fld .interlock x id % 256 ≠ 237 ∧ s.fld .interlock x id % 256 ≠ 239 := by simpa using hother id hid
      exact h.image.point hne.1 hne.2
    · by_cases h237 : s.fld .interlock x id % 256 = 237
      · rw [h237, State.point, State.point, h.untouched h0]; rfl
      · by_cases h239 : s.fld .interlock x id % 256 = 239
        · have hchannel : t.channel 0 = s.channel 0 := by simp only [State.channel, h.untouched h0]
          rw [h239, State.point, State.point, hchannel]; rfl
        · exact h.image.point h237 h239
  have hterm : ∀ id, 3 ≤ id → t.termHolds (t.fld .interlock x id) = s.termHolds (s.fld .interlock x id) := fun id hid => by
    rw [h.image.fld, State.termHolds, State.termHolds, hpoint id hid]
  rw [State.expression_iff, State.groupHolds_groupTerms_iff, State.groupHolds_groupTerms_iff] at ht ⊢
  rw [h.image.fld, h.image.fld] at ht
  refine ht.imp_right (Or.imp (And.imp_right fun hall i hi => ?_) (And.imp_right fun hall i hi => ?_))
  · rw [← hterm _ (by omega)]; exact hall i hi
  · rw [← hterm _ (by omega)]; exact hall i hi

theorem LinkPort.frames_length_le (p : LinkPort) :
    p.frames.length ≤ p.urgent.length + p.normal.length + p.bulk.length := by
  have := List.length_filterMap_le BulkPlace.frame? p.bulk
  simp only [LinkPort.frames, List.length_append]
  omega

theorem State.Quiet.frames_length {s : State} (h : s.Quiet) (l : Link) : (s.port l).frames.length ≤ 136 := by
  obtain ⟨-, -, -, -, -, ha, hb, -⟩ := h
  have hport : (s.port l).Sound := by cases l <;> assumption
  obtain ⟨-, hu, hn, hk, -⟩ := hport
  have := (s.port l).frames_length_le
  omega

end

/-- Settles O6: the frames before the one that begins were withheld, which frees slots, the token and a channel alone; and
the one that begins has passed the test of R15 after them. -/
theorem noCloseLeavesUnderLockout : Obligations.NoCloseLeavesUnderLockout := by
  intro s t l w hs ht hwire hclose
  obtain rfl := Host.Outcome.next.inj ht
  have hport := State.settle_port (s := s.transmit l) s l
  rw [hport.wire] at hwire
  rw [hport.withheld]
  obtain ⟨k, x, f, hk, hx, hf, hpayload, hcount, htest⟩ := State.transmit_begun hwire
  have hbytes : w.payload = f.bytes := by simpa [hwire] using hpayload
  obtain ⟨b, n, tag, o, hbody⟩ := OutFrame.closing_of_bytes (hbytes ▸ hclose)
  have hframe : f ∈ (s.port l).frames := hf.resolve_right (by simp [OutFrame.isEvent, hbody])
  obtain ⟨htrips, hlatch, hlockout, hinterlock, hissued⟩ := State.frameTest_none
    (htest b tag (by simp [OutFrame.closeFrame?, hbody]))
  rw [hx.image.lines] at hlatch hlockout
  rw [hx.trips] at htrips
  refine ⟨hlockout, hlatch, f, b, n, tag, o, hframe, hbody, hbytes, htrips, fun hnamed hmoved => ?_, fun hm => ?_⟩
  · have hexpression : x.expression (s.fld .breaker b 6) = true := by
      simpa [State.interlockTrue, hx.image.fld, Config.noneField, hnamed] using hinterlock
    refine hx.expression (hmoved.imp_right fun heq => ?_) hexpression
    have := hs.frames_length l
    exact step32_iterate_eq (by omega) (hcount.symm.trans heq)
  · obtain ⟨c, hslot, haction, htag, hphase, htoken⟩ := hissued hm
    have hslot' : (s.brk b).slot = some c := by
      obtain hsame | hnone := hx.slot b
      · rw [← hsame, hslot]
      · rw [hnone] at hslot; simp at hslot
    refine ⟨c, hslot', haction, htag, hphase, fun hdead hguarded => ?_⟩
    have hholds := htoken hdead (by simpa [State.guarded, hx.image.fld] using hguarded)
    cases hr : c.requester with
    | operator => simp [State.holdsToken, hr] at hholds
    | party p =>
      have hheld : x.par.token = some p := by simpa [State.holdsToken, hr] using hholds
      obtain hsame | hnone := hx.token
      · exact ⟨p, rfl, hsame ▸ hheld⟩
      · rw [hnone] at hheld; simp at hheld


end Sys2Proof.Machine
end

section
/-! # Reception: what the duplicate windows know, and what a taken frame does to them -/

namespace Sys2Proof.Machine

/-! # What the work on a received frame leaves of reception -/

section
variable {s t u : State}

/-- What reception has counted on a port stands. -/
structure LinkPort.Stands (p q : LinkPort) : Prop where
  up : q.up = p.up
  silence : q.silence = p.silence
  taken : q.taken = p.taken
  ignored : q.ignored = p.ignored
  second : q.second = p.second

theorem LinkPort.Stands.refl (p : LinkPort) : p.Stands p := ⟨rfl, rfl, rfl, rfl, rfl⟩

theorem LinkPort.Stands.trans {p q r : LinkPort} (h : p.Stands q) (k : q.Stands r) : p.Stands r :=
  ⟨k.up.trans h.up, k.silence.trans h.silence, k.taken.trans h.taken, k.ignored.trans h.ignored, k.second.trans h.second⟩

theorem PortFrame.stands {p q : LinkPort} (h : PortFrame p q) : p.Stands q := by
  rw [h.eq]
  exact ⟨rfl, rfl, rfl, rfl, rfl⟩

/-- What the tests of 1.1 read of the tables and the windows stands (R4, R6, R7, R8). -/
def SameNames (s t : State) : Prop :=
  t.links.windows = s.links.windows ∧ t.station 1 = s.station 1 ∧ t.station 2 = s.station 2

/-- An entry's fields but the one that is written stand. -/
theorem Entry.get_map_other (e : Entry) {id i : Nat} (h : id ≠ i) (v : Nat) :
    Entry.get (e.map (fun f => if f.1 == i then (i, v) else f)) id = Entry.get e id := by
  unfold Entry.get
  congr 1
  induction e with
  | nil => rfl
  | cons f fs ih =>
    obtain ⟨j, n⟩ := f
    by_cases hj : j = i
    · have hne : (id == i) = false := by simpa using h
      subst hj
      simpa [List.lookup_cons, hne] using ih
    · rw [List.map_cons, if_neg (by simpa using hj), List.lookup_cons, List.lookup_cons, ih]

/-- A field of STATION that SET-AUTO does not write stands (R138). -/
theorem State.station_withStationField (s : State) {id : Nat} (hid : id ≠ 10) (v : Nat) :
    (s.withStationField 10 v).station id = s.station id := by
  have hentry : ∀ c : Table, Entry.get ((c.map (fun e => e.map (fun f => if f.1 == 10 then (10, v) else f))).getD 0 []) id =
      Entry.get (c.getD 0 []) id := fun c => by
    cases c with
    | nil => rfl
    | cons e es => exact Entry.get_map_other e hid v
  have hset : ∀ c : Table, (s.mgmt.tables.set TableId.station.number c).getD TableId.station.number [] = c ∨
      s.mgmt.tables.set TableId.station.number c = s.mgmt.tables := fun c => by
    by_cases hlt : TableId.station.number < s.mgmt.tables.length
    · exact .inl (by simp [hlt])
    · exact .inr (List.set_eq_of_length_le (Nat.not_lt.1 hlt))
  simp only [State.station, State.fld, State.withStationField, State.setTable, State.modMgmt, tableField]
  obtain h | h := hset ((s.table .station).map (fun e => e.map (fun f => if f.1 == 10 then (10, v) else f)))
  · rw [h]
    exact hentry _
  · rw [h]

/-- From `s` to `t` the ports keep what reception counted; and `names` says whether what the tests of 1.1 read stands. -/
structure Listens (names : Prop) (s t : State) : Prop where
  ports : ∀ l, (s.port l).Stands (t.port l)
  names : names → SameNames s t

namespace Listens
variable {names : Prop}

theorem refl (names : Prop) (s : State) : Listens names s s := ⟨fun _ => .refl _, fun _ => ⟨rfl, rfl, rfl⟩⟩

theorem trans (h : Listens names s t) (k : Listens names t u) : Listens names s u where
  ports l := (h.ports l).trans (k.ports l)
  names hn := by
    obtain ⟨hw, ha, hp⟩ := h.names hn
    obtain ⟨kw, ka, kp⟩ := k.names hn
    exact ⟨kw.trans hw, ka.trans ha, kp.trans hp⟩

theorem of_links (hl : ∀ l, (s.port l).Stands (t.port l)) (hw : t.links.windows = s.links.windows)
    (hm : t.mgmt.tables = s.mgmt.tables) : Listens names s t :=
  ⟨hl, fun _ => ⟨hw, by simp only [State.station, State.fld, hm], by simp only [State.station, State.fld, hm]⟩⟩

/-- A change of other parts, and of the management unit but for its tables. -/
theorem same (h : Listens names s t) (hl : u.links = t.links := by rfl) (hm : u.mgmt.tables = t.mgmt.tables := by rfl) :
    Listens names s u :=
  h.trans (of_links (fun l => by simp only [State.port, hl]; exact .refl _) (by rw [hl]) hm)

/-- A change of the links that work between the blocks may make. -/
theorem linked (h : Listens names s t) (hl : LinkFrame t.links u.links) (hm : u.mgmt.tables = t.mgmt.tables) :
    Listens names s u :=
  h.trans (of_links (fun l => (hl.port rfl rfl l).stands) hl.windows hm)

theorem ite {c : Prop} [Decidable c] (ha : Listens names s t) (hb : Listens names s u) :
    Listens names s (if c then t else u) := by
  split <;> assumption

theorem ite_fst {α : Type} {c : Prop} [Decidable c] {a b : State × α} (ha : Listens names s a.1)
    (hb : Listens names s b.1) : Listens names s (if c then a else b).1 := by
  split <;> assumption

theorem forEach (ns : List Nat) (f : Nat → State → State) (h : Listens names s t)
    (hf : ∀ n t, Listens names s t → Listens names s (f n t)) : Listens names s (t.forEach ns f) := by
  unfold State.forEach
  induction ns generalizing t with
  | nil => exact h
  | cons n ns ih => exact ih (hf n t h)

theorem event (c : EventClass) (priority object code : Nat) (value : Option Nat) (h : Listens names s t) :
    Listens names s (t.event c priority object code value) :=
  h.linked (State.event_links t c priority object code value) (by simp)

theorem onUpLinks (f : LinkPort → LinkPort × Bool) (hf : ∀ p : LinkPort, p.Stands (f p).1) (h : Listens names s t) :
    Listens names s (t.onUpLinks f).1 := by
  refine h.trans (of_links (fun l => ?_) rfl rfl)
  cases l
  · simp only [State.onUpLinks, State.port]
    split
    · exact hf _
    · exact .refl _
  · simp only [State.onUpLinks, State.port]
    split
    · exact hf _
    · exact .refl _

theorem modPort (l : Link) (f : LinkPort → LinkPort) (hf : ∀ p : LinkPort, p.Stands (f p)) (h : Listens names s t) :
    Listens names s (t.modPort l f) := by
  refine h.trans (of_links (fun i => ?_) (by cases l <;> rfl) (by cases l <;> rfl))
  cases l <;> cases i <;> first | exact hf _ | exact .refl _

/-- Work between the blocks. -/
theorem work (h : Listens names s t) (k : Evolves t u) : Listens names s u := by
  refine h.trans ?_
  clear h
  induction k with
  | refl => exact refl _ _
  | work x _ ih => exact ih.same
  | noting v _ ih => exact ih.same
  | modBrk b f _ ih => exact ih.same
  | ask q _ ih => exact ih.same
  | unmatched n _ ih => exact ih.same
  | modGen g f _ ih => exact ih.same
  | modPar f hg _ ih => exact ih.same
  | modSeq f hs _ ih => exact ih.same
  | event c p o k v _ ih => exact ih.event _ _ _ _ _
  | sendCommand b a tag o _ _ ih => exact ih.linked (State.sendCommand_links _ b a tag o) rfl
  | sendGenset g p _ _ ih => exact ih.linked (State.sendGenset_links _ g p) rfl
  | sendPage g p _ ih =>
    refine ih.linked (State.sendPage_links _ g p) ?_
    unfold State.sendPage
    split <;> rfl
  | withdrawFrame b tag _ ih => exact ih.linked (State.withdrawFrame_links _ b tag) rfl

/-- The windows are rebuilt, which a COMMIT may do. -/
theorem windows (x : List DupWindow) (h : Listens False s t) :
    Listens False s { t with links := { t.links with windows := x } } :=
  ⟨fun l => (h.ports l).trans (by cases l <;> exact .refl _), fun hn => hn.elim⟩

theorem setTable (k : TableId) (x : Table) (h : Listens False s t) : Listens False s (t.setTable k x) :=
  ⟨fun l => (h.ports l).trans (.refl _), fun hn => hn.elim⟩

/-! ### Requests -/

theorem fill (n : Nat) (f : OutFrame) (p : LinkPort) : p.Stands (p.fill n f).1 := by
  unfold LinkPort.fill
  split <;> exact ⟨rfl, rfl, rfl, rfl, rfl⟩

theorem reserve (n : Nat) (p : LinkPort) : p.Stands (p.reserve n).1 := by
  unfold LinkPort.reserve
  split
  · exact ⟨rfl, rfl, rfl, rfl, rfl⟩
  · split <;> exact ⟨rfl, rfl, rfl, rfl, rfl⟩

theorem answer (k : Ticket) (r : Option Reply) (h : Listens names s t) : Listens names s (t.answer k r) := by
  cases r with
  | none => exact h
  | some r =>
    rw [State.answer, State.respond_eq]
    exact h.trans (of_links (fun l => by cases l <;> exact fill _ _ _) rfl rfl)

theorem take (kind : Nat) (exempt : Bool) (q : Request) (work : Ticket → State → State × Option Reply)
    (h : Listens names s t) (hw : ∀ k u, Listens names s u → Listens names s (work k u).1) :
    Listens names s (t.take kind exempt q work) := by
  have hplace : Listens names s (t.onUpLinks (LinkPort.reserve (t.ticketFor kind q).number)).1 :=
    h.onUpLinks _ (reserve _)
  unfold State.take
  dsimp only
  split
  · exact hplace
  · have hcount : Listens names s (State.countRequest (t.onUpLinks (LinkPort.reserve (t.ticketFor kind q).number)).1) :=
      hplace.same
    exact Listens.ite (hcount.answer _ _) ((hw _ _ hcount).answer _ _)

theorem withTable (q : Request) (work : TableId → State → State × Option Reply) (h : Listens names s t)
    (hw : ∀ k, Listens names s (work k t).1) : Listens names s (t.withTable q work).1 := by
  unfold State.withTable
  split
  · exact h
  · exact hw _

theorem pageReply (es : Staged) (h : Listens names s t) : Listens names s (t.pageReply es).1 := by
  unfold State.pageReply
  dsimp only
  split
  · exact h
  · exact h.same

theorem readTable (q : Request) (x : TableId) (h : Listens names s t) : Listens names s (State.readTable q x t).1 := by
  unfold State.readTable
  split
  · exact h.pageReply _
  · exact Listens.ite_fst h (h.pageReply _)
  · exact h

theorem writeSegment (q : Request) (x : TableId) (h : Listens names s t) :
    Listens names s (State.writeSegment q x t).1 := by
  unfold State.writeSegment
  dsimp only
  refine Listens.ite_fst h (Listens.ite_fst h.same (Listens.ite_fst h.same ?_))
  split
  · unfold State.segmentRefused
    split
    · exact h.same
    · exact h.same
  · exact h.same

theorem discardStaging (x : TableId) (h : Listens names s t) : Listens names s (State.discardStaging x t).1 :=
  Listens.ite_fst h h.same

theorem readArea (q : Request) (h : Listens names s t) : Listens names s (State.readArea q t).1 := by
  unfold State.readArea
  split
  · exact h
  · exact h.pageReply _

theorem rearm (h : Listens names s t) : Listens names s t.rearm :=
  h.trans (of_links (fun l => by cases l <;> exact ⟨rfl, rfl, rfl, rfl, rfl⟩) rfl rfl)

theorem readEvents (q : Request) (h : Listens names s t) : Listens names s (State.readEvents q t).1 :=
  Listens.ite_fst h (Listens.ite_fst h h)

theorem readCapture (q : Request) (h : Listens names s t) : Listens names s (State.readCapture q t).1 := by
  refine Listens.ite_fst h (Listens.ite_fst h ?_)
  split
  · exact h.same
  · exact h

theorem acceptStore (k : Ticket) (h : Listens names s t) : Listens names s (State.acceptStore k t).1 := by
  unfold State.acceptStore
  dsimp only
  split
  · exact h
  split
  · exact h
  · dsimp only
    exact h.same

theorem startRestart (h : Listens names s t) : Listens names s t.startRestart.1 := by
  unfold State.startRestart
  split
  · exact h
  · dsimp only
    exact h.same

theorem operatorDone (q : Request) (r : Reply) (h : Listens names s t) : Listens names s (t.operatorDone q r).1 :=
  h.event _ _ _ _ _

theorem afterAnswer (q : Request) {r : State × Answer} (h : Listens names s r.1) :
    Listens names s (State.afterAnswer q r).1 := Listens.ite_fst (h.operatorDone q _) h

theorem operatorOpen (q : Request) (h : Listens names s t) : Listens names s (State.operatorOpen q t).1 :=
  Listens.ite_fst h (Listens.afterAnswer q (h.work (State.openRequest_evolves _ _ _ .refl)))

theorem operatorClose (q : Request) (h : Listens names s t) : Listens names s (State.operatorClose q t).1 :=
  Listens.ite_fst h (Listens.afterAnswer q (h.work (State.closeRequest_evolves _ _ _ _ _ .refl)))

theorem runPlan (q : Request) (h : Listens names s t) : Listens names s (State.runPlan q t).1 := by
  refine Listens.ite_fst h ?_
  split
  · exact h
  · exact h
  · exact h
  · exact h
  · exact Listens.ite_fst (h.work (State.startPlan_evolves _ _ .refl)) h

theorem operatorDemand (q : Request) (h : Listens names s t) : Listens names s (State.operatorDemand q t).1 :=
  (h.work (State.writeDemand_evolves _ .refl)).operatorDone q _

theorem startGens (q : Request) (h : Listens names s t) : Listens names s (State.startGens q t).1 :=
  Listens.ite_fst h (Listens.ite_fst h (Listens.ite_fst h (h.operatorDemand q)))

theorem stopGens (q : Request) (h : Listens names s t) : Listens names s (State.stopGens q t).1 :=
  Listens.ite_fst h (Listens.ite_fst h (Listens.ite_fst h (h.operatorDemand q)))

theorem acknowledgeHalt (h : Listens names s t) : Listens names s t.acknowledgeHalt.1 := by
  unfold State.acknowledgeHalt
  split
  · exact Listens.ite_fst h ((h.event _ _ _ _ _).work (State.goLineup_evolves .refl))
  · exact h

theorem clearGenFault (q : Request) (h : Listens names s t) : Listens names s (State.clearGenFault q t).1 :=
  Listens.ite_fst h (Listens.ite_fst h (Listens.ite_fst h
    ((h.work (State.genEnter_evolves _ _ (State.modGen_evolves _ _ .refl))).operatorDone q _)))

theorem operatorRenegotiate (q : Request) (h : Listens names s t) : Listens names s (State.operatorRenegotiate q t).1 :=
  Listens.ite_fst h (Listens.ite_fst h (Listens.ite_fst ((h.work (State.modGen_evolves _ _ .refl)).operatorDone q _)
    ((h.work (State.renegotiate_evolves _ .refl)).operatorDone q _)))

theorem clearStationTrip (h : Listens names s t) : Listens names s t.clearStationTrip.1 :=
  Listens.ite_fst h (Listens.ite_fst
    (Listens.event _ _ _ _ _ (Listens.forEach _ _ (h.same (u := t.modLines (fun l => { l with tripLatch := false })))
      fun _ _ hu => hu.same)) h)

theorem setPoint (q : Request) (h : Listens names s t) : Listens names s (State.setPoint q t).1 :=
  Listens.ite_fst h (Listens.ite_fst h (Listens.ite h
    (Listens.event _ _ _ _ _ (h.same (u := t.modMgmt (fun m => { m with soft := m.soft.set (q.argA - 240) (q.argB == 1) })))))
  )

theorem releaseCapture (h : Listens names s t) : Listens names s t.releaseCapture :=
  Listens.ite h (Listens.event _ _ _ _ _ (h.same (u := t.modCapture _)))

/-- SET-AUTO writes one field of STATION, which is none of the address and the protocol type. -/
theorem withStationField (v : Nat) (h : Listens names s t) : Listens names s (t.withStationField 10 v) := by
  have hother : ∀ id, id ≠ 10 → (t.withStationField 10 v).station id = t.station id := by
    intro id hid
    exact State.station_withStationField t hid v
  exact h.trans ⟨fun _ => .refl _, fun _ => ⟨rfl, hother 1 (by decide), hother 2 (by decide)⟩⟩

theorem setAuto (q : Request) (h : Listens names s t) : Listens names s (State.setAuto q t).1 := by
  refine Listens.ite_fst h ?_
  exact Listens.ite (h.withStationField _)
    (((h.withStationField _).event _ _ _ _ _).work (State.recomputeAuto_evolves .refl))

/-! ### Streams, time and ability pages -/

theorem relabel (d : Int) (h : Listens names s t) : Listens names s (t.relabel d) := h.same

theorem place (k seq : Nat) (f : SampleBody) (h : Listens names s t) : Listens names s (t.place k seq f) :=
  Listens.ite h.same (Listens.ite h.same (Listens.ite h.same h.same))

theorem takeSample (x : Header) (f : SampleBody) (h : Listens names s t) : Listens names s (State.takeSample x f t) := by
  unfold State.takeSample
  split
  · exact h.same
  · refine Listens.ite h.same (Listens.place _ _ _ ?_)
    exact Listens.ite (Listens.event _ _ _ _ _ (h.same (u := (t.relabel 0).modAligner _))) h

theorem track (h : Listens names s t) : Listens names s t.track :=
  Listens.ite h.same (Listens.event _ _ _ _ _ (h.same (u := t.modAligner _)))

theorem takeTime (f : TimeBody) (h : Listens names s t) : Listens names s (State.takeTime f t) :=
  Listens.ite h.same (Listens.ite (Listens.track (h.same (u := t.modAligner _)))
    (Listens.track (Listens.event _ _ _ _ _ (h.same (u := (t.relabel _).modAligner _)))))

theorem takePage (x : Header) (f : Page) (h : Listens names s t) : Listens names s (State.takePage x f t) := by
  have hack : ∀ g toggle c v u, Listens names s u → Listens names s (u.sendAck g toggle c v) :=
    fun g toggle c v u hu => (hu.same (u := u.draw)).work (State.sendPage_evolves _ _ .refl)
  unfold State.takePage
  split
  · exact h
  next g _ =>
    have hgap := h.work (State.modGen_evolves g (fun r => { r with exchange := { r.exchange with gap := 0 } }) .refl)
    refine Listens.ite h ?_
    dsimp only
    split
    · exact hgap.work (State.takeBase_evolves _ _ _ .refl)
    next c v _ _ =>
      have hsent := fun toggle k => hack g toggle c v _ (hgap.work (State.modGen_evolves g k .refl))
      exact Listens.ite (Listens.ite (hsent _ _) ((hsent _ _).work (State.exchangeDone_evolves _ .refl)))
        (Listens.ite (hack g _ _ _ _ hgap) hgap)
    · exact hgap

/-! ### COMMIT, the ports of which stand -/

theorem enterStream (k : Nat) (h : Listens names s t) : Listens names s (t.enterStream k) := h.same

theorem activateSource (x : Nat) (h : Listens names s t) : Listens names s (State.activateSource x t) :=
  Listens.ite (h.same (u := t.modSource x _)) (Listens.event _ _ _ _ _ (h.same (u := t.modSource x _)))

theorem rebuild (h : Listens False s t) : Listens False s t.rebuild := h.windows _

theorem askAll (bs : List Nat) (f : Nat → State → State) (hf : ∀ b u, (∃ q, f b u = { u with breakers := q }))
    (h : Listens names s t) : Listens names s (t.forEach bs f) :=
  h.forEach _ _ fun b u hu => by
    obtain ⟨q, e⟩ := hf b u
    rw [e]
    exact hu.same

theorem activateStation (new : Table) (h : Listens False s t) : Listens False s (t.activateStation new) := by
  have hset : Listens False s (t.setTable .station new).rebuild := (h.setTable .station new).rebuild
  have hask := Listens.ite (c := (t.setTable .station new).rebuild.lines.tripLatch = true)
    ((hset.askAll (((t.setTable .station new).rebuild.stationTripSet).filter (fun b => !t.stationTripSet.contains b))
      (fun b x => x.askAdd b .stationTrip) fun b u => ⟨_, rfl⟩).askAll
        (t.stationTripSet.filter (fun b => !((((t.setTable .station new).rebuild)).stationTripSet).contains b))
          (fun b x => x.askRemove b .stationTrip) fun b u => ⟨_, rfl⟩) hset
  exact Listens.ite hask (hask.work (State.recomputeAuto_evolves .refl))

theorem activate (k : TableId) (new : Table) (changed : List Nat) (h : Listens False s t) :
    Listens False s (t.activate k new changed) := by
  have hset := h.setTable k new
  unfold State.activate
  dsimp only
  split
  · exact h.activateStation new
  · exact hset.forEach _ _ fun _ _ hu => hu.enterStream _
  · exact hset.rebuild.forEach _ _ fun _ _ hu => hu.work (State.activateBreaker_evolves _ _ .refl)
  · exact hset.forEach _ _ fun x _ hu => hu.activateSource x
  · exact hset.work (State.followLineup_evolves .refl)
  · exact hset.work (State.emptySlot_evolves .refl)
  · exact hset.work (State.emptySlot_evolves .refl)
  · exact hset.rebuild.work (State.activateGens_evolves _ .refl)
  · exact hset.same
  all_goals exact hset

theorem refuseCommit (x : TableId) (r : Reply) (h : Listens names s t) : Listens names s (t.refuseCommit x r).1 := h.same

theorem tableRefused (x : TableId) (n : Nat) (h : Listens names s t) : Listens names s (t.tableRefused x n) :=
  h.event _ _ _ _ _

/-- A COMMIT activates a table that changes an entry, or leaves the tables and what reception reads. -/
theorem commitTable_cases (k : Ticket) (q : Request) (x : TableId) (t : State) :
    (∃ new crc, (changedEntries (t.table x) new).isEmpty = false ∧ (State.commitTable k q x t).1 =
      ((t.activate x new (changedEntries (t.table x) new)).emptyStaging x).event .management 6 x.number 6 (some crc)) ∨
    Listens True t (State.commitTable k q x t).1 := by
  have h := Listens.refl True t
  unfold State.commitTable
  dsimp only
  split
  · exact .inr h
  split
  · exact .inr h
  split
  · exact .inr (h.refuseCommit _ _)
  split
  · exact .inr (((h.same (u := t.draw)).tableRefused _ _).refuseCommit _ _)
  split
  · exact .inr ((h.tableRefused _ _).refuseCommit _ _)
  split
  · exact .inr (h.refuseCommit _ _)
  unfold State.commitChecked
  dsimp only
  split
  · exact .inr h.same
  split
  · exact .inr h
  · cases hchanged : (changedEntries (t.table x) (candidate x (t.stagingOf x).entries).table).isEmpty with
    | true =>
      simp only [if_true]
      exact .inr ((h.same (u := t.emptyStaging x)).event _ _ _ _ _)
    | false =>
      simp only [Bool.false_eq_true, if_false]
      exact .inl ⟨_, _, hchanged, rfl⟩

end Listens

theorem Evolves.tables (h : Evolves s t) : t.mgmt.tables = s.mgmt.tables := by
  have hmgmt : t.mgmt = s.mgmt := congrArg Rest.mgmt h.rest
  rw [hmgmt]

theorem State.forEach_tables (ns : List Nat) (f : Nat → State → State)
    (hf : ∀ n (v : State), (f n v).mgmt.tables = v.mgmt.tables) (s : State) :
    (s.forEach ns f).mgmt.tables = s.mgmt.tables := by
  unfold State.forEach
  induction ns generalizing s with
  | nil => rfl
  | cons n ns ih => exact (ih _).trans (hf n s)

theorem State.activateStation_tables (new : Table) :
    (s.activateStation new).mgmt.tables = (s.setTable .station new).mgmt.tables := by
  have hask : ∀ (u : State) (bs cs : List Nat), ((u.forEach bs (fun b x => x.askAdd b .stationTrip)).forEach cs
      (fun b x => x.askRemove b .stationTrip)).mgmt.tables = u.mgmt.tables := fun u bs cs =>
    (State.forEach_tables _ (fun b x => x.askRemove b .stationTrip) (fun _ _ => rfl) _).trans
      (State.forEach_tables _ (fun b x => x.askAdd b .stationTrip) (fun _ _ => rfl) _)
  have hauto : ∀ u : State, (if u.station 10 == s.station 10 then u else u.recomputeAuto).mgmt.tables = u.mgmt.tables :=
    fun u => by
      split
      · rfl
      · exact Evolves.tables (State.recomputeAuto_evolves .refl)
  unfold State.activateStation
  refine (hauto _).trans ?_
  dsimp only
  split
  · exact hask _ _ _
  · rfl

/-- An activation leaves the tables that it makes active. -/
theorem State.activate_tables (x : TableId) (new : Table) (changed : List Nat) :
    (s.activate x new changed).mgmt.tables = (s.setTable x new).mgmt.tables := by
  unfold State.activate
  dsimp only
  split
  · exact State.activateStation_tables new
  · exact State.forEach_tables _ (fun k v => v.enterStream k) (fun _ _ => rfl) _
  · exact State.forEach_tables _ _ (fun b v => Evolves.tables (State.activateBreaker_evolves _ _ .refl)) _
  · refine State.forEach_tables _ _ (fun n v => ?_) _
    unfold State.activateSource
    split
    · rfl
    · simp
  · exact Evolves.tables (State.followLineup_evolves .refl)
  · exact Evolves.tables (State.emptySlot_evolves .refl)
  · exact Evolves.tables (State.emptySlot_evolves .refl)
  · exact Evolves.tables (s := (s.setTable .generator new).rebuild) (State.activateGens_evolves _ .refl)
  all_goals rfl

/-- A table that changes an entry is another. -/
theorem changedEntries_self (c : Table) : (changedEntries c c).isEmpty = true := by
  simp [changedEntries]

theorem State.setTable_tables_ne (hlen : s.mgmt.tables.length = 13) {x : TableId} {new : Table}
    (h : (changedEntries (s.table x) new).isEmpty = false) : (s.setTable x new).mgmt.tables ≠ s.mgmt.tables := by
  intro heq
  have hx : x.number < s.mgmt.tables.length := by cases x <;> simp [TableId.number, hlen]
  have hnew : (s.setTable x new).table x = new := by
    simp [State.table, State.setTable, State.modMgmt, hx]
  have hsame : s.table x = new := by rw [← hnew, State.table, State.table, heq]
  rw [hsame, changedEntries_self] at h
  simp at h

/-- What the frame of a COMMIT leaves of reception: the ports, and where the tables stand all of it. -/
theorem Listens.commitTable (hlen : s.mgmt.tables.length = 13) (k : Ticket) (q : Request) (x : TableId) :
    Listens ((State.commitTable k q x s).1.mgmt.tables = s.mgmt.tables) s (State.commitTable k q x s).1 := by
  obtain ⟨new, crc, hchanged, heq⟩ | h := Listens.commitTable_cases k q x s
  · refine ⟨?_, fun htables => absurd ?_ (State.setTable_tables_ne hlen hchanged)⟩
    · rw [heq]
      exact ((((Listens.refl False s).activate x new _).same (u := (s.activate x new _).emptyStaging x)).event _ _ _ _ _).ports
    · rw [heq, State.event_mgmt] at htables
      rw [← htables, ← State.activate_tables (s := s) x new (changedEntries (s.table x) new)]
      rfl
  · exact ⟨h.ports, fun _ => h.names trivial⟩

/-! ### Every received frame -/

/-- The state in which a frame that the tests take goes to its block. -/
def State.noted (s : State) (l : Link) (c : FrameClass) (h : Header) : State :=
  (if c == .sample then s.heard l else (s.heard l).noteTaken c h).countTaken l

theorem SameNames.verdict (h : SameNames s t) (c : FrameClass) (x : Header) : t.verdict c x = s.verdict c x := by
  obtain ⟨hw, ha, hp⟩ := h
  have hsees : t.sees x.eth = s.sees x.eth := by simp only [State.sees, State.protocolType, hp]
  have haddressed : t.addressed c x = s.addressed c x := by simp only [State.addressed, State.ownAddress, ha]
  have hwindow : t.window? x.src = s.window? x.src := by simp only [State.window?, hw]
  simp only [State.verdict, hsees, haddressed, hwindow]

theorem State.heard_names (l : Link) : SameNames s (s.heard l) := by
  have hport : Listens True (s.modPort l (fun p => { p with silence := 0, up := true }))
      ((s.modPort l (fun p => { p with silence := 0, up := true })).event .link 6 l.number 2 none) :=
    (Listens.refl _ _).event _ _ _ _ _
  have hraise : SameNames s (s.modPort l (fun p => { p with silence := 0, up := true })) := by
    cases l <;> exact ⟨rfl, rfl, rfl⟩
  unfold State.heard
  dsimp only
  split
  · exact hraise
  · obtain ⟨hw, ha, hp⟩ := hport.names trivial
    obtain ⟨kw, ka, kp⟩ := hraise
    exact ⟨hw.trans kw, ha.trans ka, hp.trans kp⟩

theorem State.receive_noted {l : Link} {c : FrameClass} {h : Header} (w : State → State) (hv : s.verdict c h = .taken) :
    s.receive l c h w = w (s.noted l c h) := by
  have hheard : (s.heard l).verdict c h = .taken := (s.heard_names l).verdict c h ▸ hv
  unfold State.receive
  dsimp only
  rw [hheard]
  rfl

theorem State.answer_tables (k : Ticket) (r : Option Reply) : (s.answer k r).mgmt.tables = s.mgmt.tables := by
  cases r with
  | none => rfl
  | some r => rw [State.answer_mgmt]

/-- A request is turned away, or its work is done on the state in which it is counted. -/
theorem State.take_cases (kind : Nat) (exempt : Bool) (q : Request) (work : Ticket → State → State × Option Reply) :
    Listens True s (s.take kind exempt q work) ∨
      ∃ k v, Listens True s v ∧ v.mgmt.tables = s.mgmt.tables ∧
        s.take kind exempt q work = (work k v).1.answer k (work k v).2 := by
  have hplace : Listens True s (s.onUpLinks (LinkPort.reserve (s.ticketFor kind q).number)).1 :=
    (Listens.refl _ _).onUpLinks _ (Listens.reserve _)
  have hcount : Listens True s (State.countRequest (s.onUpLinks (LinkPort.reserve (s.ticketFor kind q).number)).1) :=
    hplace.same
  unfold State.take
  dsimp only
  split
  · exact .inl hplace
  split
  · exact .inl (hcount.answer _ _)
  · exact .inr ⟨_, _, hcount, rfl, rfl⟩

/-- A COMMIT on its way through the management unit. -/
theorem commit_listens (hlen : s.mgmt.tables.length = 13) (q : Request) :
    Listens ((s.take 3 false q (fun k t => t.withTable q (State.commitTable k q))).mgmt.tables = s.mgmt.tables) s
      (s.take 3 false q (fun k t => t.withTable q (State.commitTable k q))) := by
  obtain h | ⟨k, v, hv, htables, heq⟩ := State.take_cases (s := s) 3 false q (fun k t => t.withTable q (State.commitTable k q))
  · exact ⟨h.ports, fun _ => h.names trivial⟩
  · have hv' : ∀ {p : Prop}, Listens p s v := ⟨hv.ports, fun _ => hv.names trivial⟩
    rw [heq, State.answer_tables, State.withTable]
    cases TableId.ofNumber q.target with
    | none => exact hv'.answer _ _
    | some x =>
      have hcommit := Listens.commitTable (s := v) (htables ▸ hlen) k q x
      rw [htables] at hcommit
      exact (hv'.trans hcommit).answer _ _

/-- A request goes through the management unit, whose work leaves what reception reads. -/
theorem State.serve_received (l : Link) (kind : Nat) (exempt : Bool) (q : Request)
    (work : Ticket → State → State × Option Reply)
    (hw : ∀ (k : Ticket) (u t : State), Listens True u t → Listens True u (work k t).1) (p : Prop) :
    ∃ w, finish s (s.serve l kind exempt q work) = finish s (s.receive l .mgmtReq q.header w) ∧
      ∀ u : State, u.mgmt.tables.length = 13 → Listens (p → (w u).mgmt.tables = u.mgmt.tables) u (w u) :=
  ⟨_, rfl, fun u _ =>
    have h := (Listens.refl True u).take kind exempt q work fun k v hv => hw k u v hv
    ⟨h.ports, fun _ => h.names trivial⟩⟩

theorem State.operate_received (l : Link) (q : Request) (work : State → State × Option Reply)
    (hw : ∀ u t : State, Listens True u t → Listens True u (work t).1) (p : Prop) :
    ∃ w, finish s (s.operate l q work) = finish s (s.receive l .mgmtReq q.header w) ∧
      ∀ u : State, u.mgmt.tables.length = 13 → Listens (p → (w u).mgmt.tables = u.mgmt.tables) u (w u) :=
  State.serve_received l 7 false q (fun _ => work) (fun _ => hw) p

/-- A received frame goes to its block, whose work leaves the ports as reception leaves them, and, but for a COMMIT that
changes a table, what the tests of 1.1 read. -/
theorem exec_received {i : Instr} {l : Link} {c : FrameClass} {h : Header} (hi : i.received? = some (l, c, h)) (s : State) :
    ∃ w, exec i s = finish s (s.receive l c h w) ∧ ∀ u : State, u.mgmt.tables.length = 13 →
      Listens ((∃ q, i = .commit l q) → (w u).mgmt.tables = u.mgmt.tables) u (w u) := by
  have hplain : ∀ {p : Prop} {u v : State}, Listens True u v → Listens p u v := fun h =>
    ⟨h.ports, fun _ => h.names trivial⟩
  have hr := fun u => Listens.refl True u
  cases i with
  | sampleFrame _ _ f =>
    cases hi
    exact ⟨_, rfl, fun u _ => hplain ((hr u).takeSample _ f)⟩
  | timeFrame _ _ f =>
    cases hi
    exact ⟨_, rfl, fun u _ => hplain ((hr u).takeTime f)⟩
  | positionFrame _ _ f =>
    cases hi
    exact ⟨_, rfl, fun u _ => hplain ((hr u).work (State.takePosition_evolves _ f .refl))⟩
  | genstatusFrame _ _ f =>
    cases hi
    exact ⟨_, rfl, fun u _ => hplain ((hr u).work (State.takeGenStatus_evolves _ f .refl))⟩
  | abilityFrame _ _ f =>
    cases hi
    exact ⟨_, rfl, fun u _ => hplain ((hr u).takePage _ f)⟩
  | readTable _ q =>
    cases hi
    exact State.serve_received _ 1 false q (fun _ t => t.withTable q (State.readTable q)) (fun _ _ v hv => hv.withTable q _ fun x => hv.readTable q x) _
  | writeSegment _ q =>
    cases hi
    exact State.serve_received _ 2 false q (fun _ t => t.withTable q (State.writeSegment q)) (fun _ _ v hv => hv.withTable q _ fun x => hv.writeSegment q x) _
  | commit _ q =>
    cases hi
    exact ⟨_, rfl, fun u hu => ⟨(commit_listens hu q).ports, fun hn => (commit_listens hu q).names (hn ⟨q, rfl⟩)⟩⟩
  | discard _ q =>
    cases hi
    exact State.serve_received _ 4 false q (fun _ t => t.withTable q State.discardStaging) (fun _ _ v hv => hv.withTable q _ fun x => hv.discardStaging x) _
  | readState _ q pin =>
    cases hi
    exact State.serve_received _ 5 true q (fun _ t => State.readArea q (t.modLines (fun x => { x with lockoutPin := pin }))) (fun _ _ v hv => Listens.readArea q (hv.same (u := v.modLines (fun x => { x with lockoutPin := pin })))) _
  | readLatches _ q =>
    cases hi
    exact State.serve_received _ 6 true q (fun _ t => t.readLatches) (fun _ _ v hv => hv.rearm) _
  | readEvents _ q =>
    cases hi
    exact State.serve_received _ 8 true q (fun _ t => State.readEvents q t) (fun _ _ v hv => hv.readEvents q) _
  | readCapture _ q =>
    cases hi
    exact State.serve_received _ 9 false q (fun _ t => State.readCapture q t) (fun _ _ v hv => hv.readCapture q) _
  | store _ q =>
    cases hi
    exact State.serve_received _ 10 false q State.acceptStore (fun _ _ v hv => hv.acceptStore _) _
  | restart _ q =>
    cases hi
    exact State.serve_received _ 11 false q (fun _ t => t.startRestart) (fun _ _ v hv => hv.startRestart) _
  | breakerOpen _ q =>
    cases hi
    exact State.operate_received _ q (State.operatorOpen q) (fun _ v hv => hv.operatorOpen q) _
  | breakerClose _ q =>
    cases hi
    exact State.operate_received _ q (State.operatorClose q) (fun _ v hv => hv.operatorClose q) _
  | runPlan _ q =>
    cases hi
    exact State.operate_received _ q (State.runPlan q) (fun _ v hv => hv.runPlan q) _
  | setAuto _ q =>
    cases hi
    exact State.operate_received _ q (State.setAuto q) (fun _ v hv => hv.setAuto q) _
  | startGens _ q =>
    cases hi
    exact State.operate_received _ q (State.startGens q) (fun _ v hv => hv.startGens q) _
  | stopGens _ q =>
    cases hi
    exact State.operate_received _ q (State.stopGens q) (fun _ v hv => hv.stopGens q) _
  | acknowledgeHalt _ q =>
    cases hi
    exact State.operate_received _ q State.acknowledgeHalt (fun _ v hv => hv.acknowledgeHalt) _
  | clearStationTrip _ q =>
    cases hi
    exact State.operate_received _ q State.clearStationTrip (fun _ v hv => hv.clearStationTrip) _
  | clearGenFault _ q =>
    cases hi
    exact State.operate_received _ q (State.clearGenFault q) (fun _ v hv => hv.clearGenFault q) _
  | renegotiate _ q =>
    cases hi
    exact State.operate_received _ q (State.operatorRenegotiate q) (fun _ v hv => hv.operatorRenegotiate q) _
  | setPoint _ q =>
    cases hi
    exact State.operate_received _ q (State.setPoint q) (fun _ v hv => hv.setPoint q) _
  | releaseCapture _ q =>
    cases hi
    exact State.operate_received _ q (fun t => (t.releaseCapture, some { detailA := t.capture.state.code })) (fun _ v hv => hv.releaseCapture) _
  | operateKindNotListed _ q =>
    cases hi
    exact State.operate_received _ q (fun t => (t, some (Reply.badArgument targetArgument))) (fun _ v hv => hv) _

  | _ => cases hi

end

end Sys2Proof.Machine
end

section
/-! # O9 and O10: the supervision of the links, and second copies -/

namespace Sys2Proof.Machine

/-! # Reception (R1 to R8) -/

section
variable {s : State}

theorem State.Quiet.tables_length {s : State} (h : s.Quiet) : s.mgmt.tables.length = 13 := by
  obtain ⟨-, -, -, -, -, -, -, -, -, -, -, hcounts⟩ := h
  obtain ⟨-, -, -, -, -, -, -, -, htables, -⟩ := hcounts
  exact htables

theorem State.heard_tables (l : Link) : (s.heard l).mgmt.tables = s.mgmt.tables := by
  unfold State.heard
  dsimp only
  split
  · simp
  · simp

theorem State.noted_tables (l : Link) (c : FrameClass) (h : Header) : (s.noted l c h).mgmt.tables = s.mgmt.tables := by
  unfold State.noted State.countTaken
  rw [State.modPort_mgmt]
  split
  · exact State.heard_tables l
  · exact State.heard_tables l

/-- The end of a received frame's command leaves of reception what its block's work leaves. -/
theorem Listens.settle {p : Prop} {u : State} (s₀ : State) (h : Listens p s u) : Listens p s (State.settle s₀ u) :=
  h.linked (State.settle_links s₀ u) (by simp)

/-! ### A second copy (R8) -/

theorem DupWindow.add_pair (w : DupWindow) (x : FrameClass × Nat) : x ∈ (w.add x).pairs := by
  simp [DupWindow.add]

/-- After a frame has been noted its pair is in the window of its source. -/
theorem State.noted_window {l : Link} {c : FrameClass} {h : Header} {w : DupWindow} (hc : c ≠ .sample)
    (hw : s.window? h.src = some w) : (s.noted l c h).window? h.src = some (w.add (c, h.seq)) := by
  obtain ⟨hwindows, -, -⟩ := s.heard_names l
  have hsample : (c == FrameClass.sample) = false := by simpa using hc
  have hnoted : (s.noted l c h).links.windows =
      s.links.windows.map (fun w => if w.address == h.src then w.add (c, h.seq) else w) := by
    unfold State.noted State.countTaken
    rw [hsample, State.noteTaken]
    rw [← hwindows]
    cases l <;> rfl
  have haddress : ∀ w : DupWindow, (if w.address == h.src then w.add (c, h.seq) else w).address = w.address := fun w => by
    split <;> rfl
  unfold State.window? at hw ⊢
  rw [hnoted, List.find?_map]
  have hfind : ((fun x : DupWindow => x.address == h.src) ∘
      fun w => if w.address == h.src then w.add (c, h.seq) else w) = fun x => x.address == h.src := by
    funext w; simp only [Function.comp, haddress]
  rw [hfind, hw, Option.map_some]
  have hsource : (w.address == h.src) = true := List.find?_some (p := fun x : DupWindow => x.address == h.src) hw
  rw [if_pos hsource]

theorem State.noted_second {l : Link} {c : FrameClass} {h : Header} (hc : c ≠ .sample) (hv : s.verdict c h = .taken) :
    (s.noted l c h).verdict c h = .second := by
  have hsees : s.sees h.eth = true := by
    cases hn : s.sees h.eth with
    | false => simp [State.verdict, hn] at hv
    | true => rfl
  have haddressed : s.addressed c h = true := by
    cases hn : s.addressed c h with
    | false => simp [State.verdict, hsees, hn] at hv
    | true => rfl
  obtain ⟨w, hw, hclass⟩ : ∃ w, s.window? h.src = some w ∧ c ∈ w.classes := by
    cases hw : s.window? h.src with
    | none => simp [State.verdict, hsees, haddressed, hc, hw] at hv
    | some w =>
      refine ⟨w, rfl, ?_⟩
      by_contra hn
      simp [State.verdict, hsees, haddressed, hc, hw, hn] at hv
  obtain ⟨-, hown, htype⟩ := s.heard_names l
  have hstation : ∀ id, (s.noted l c h).station id = s.station id := fun id => by
    simp only [State.station, State.fld, State.noted_tables]
  have hsees' : (s.noted l c h).sees h.eth = true := by
    simpa only [State.sees, State.protocolType, hstation] using hsees
  have haddressed' : (s.noted l c h).addressed c h = true := by
    simpa only [State.addressed, State.ownAddress, hstation] using haddressed
  have hpair : (c, h.seq) ∈ (w.add (c, h.seq)).pairs := w.add_pair _
  simp [State.verdict, hsees', haddressed', hc, State.noted_window hc hw, hpair, show (w.add (c, h.seq)).classes = w.classes from rfl, hclass]

end

/-- Settles O10: the pair of a noted frame is in its source's window, which the rest of the command leaves. -/
theorem takenFrameIsThenASecondCopy : Obligations.TakenFrameIsThenASecondCopy := by
  intro s t i l c h hs hi hc hv ht hcommit
  obtain ⟨w, hexec, hlistens⟩ := exec_received hi s
  rw [hexec, State.receive_noted w hv] at ht
  obtain rfl := Host.Outcome.next.inj ht
  have htables := State.noted_tables (s := s) l c h
  have hwork := (hlistens (s.noted l c h) (htables.symm ▸ hs.tables_length)).settle s
  have hstand : (∃ q, i = .commit l q) → (w (s.noted l c h)).mgmt.tables = (s.noted l c h).mgmt.tables := fun hq => by
    rw [htables, ← hcommit hq, State.settle_mgmt]
  rw [(hwork.names hstand).verdict]
  exact State.noted_second hc hv

/-! ### Frames that are not seen, and those that go no further -/

section
variable {s : State}

theorem State.sees_false {e : Ether} (h : e.good = false ∨ e.ptype ≠ s.station 2) : s.sees e = false := by
  obtain hbad | htype := h
  · simp [State.sees, hbad]
  · simp [State.sees, State.protocolType, htype]

/-- The header that a received frame is read to have. -/
def headerRead : RxFrame → Option Header
  | .malformed => none
  | .unlisted h | .sample h _ | .position h _ | .genstatus h _ | .ability h _ | .time h _ => some h
  | .mgmt _ q => some q.header

/-- The Ethernet part of the header that is read is that of the frame. -/
theorem parseFrame_eth {e : Ether} {p : List Byte} {h : Header} (hh : headerRead (parseFrame e p) = some h) : h.eth = e := by
  have hheader : headerRead (parseFrame e p) = none ∨ headerRead (parseFrame e p) = some (parseHeader e p) := by
    unfold parseFrame
    by_cases hm : malformedPayload p = true
    · exact .inl (by rw [if_pos hm]; rfl)
    · rw [if_neg hm]
      refine .inr ?_
      dsimp only
      split
      · rfl
      · cases parsePosition (sliceBytes p 10 (fieldAt p 8 2)) <;> rfl
      · rfl
      · cases parsePage (sliceBytes p 10 (fieldAt p 8 2)) <;> rfl
      · rfl
      · split <;> rfl
      · rfl
  obtain hnone | hsome := hheader
  · exact absurd (hnone.symm.trans hh) nofun
  · exact (Option.some.inj (hsome.symm.trans hh)) ▸ rfl

/-- The verdict on an unseen frame by its bytes, whatever they are. -/
theorem State.verdictOf_unseen {e : Ether} (h : s.sees e = false) (p : List Byte) : s.verdictOf e p = some .unseen := by
  have hverdict : ∀ (c : FrameClass) (x : Header), headerRead (parseFrame e p) = some x → s.verdict c x = .unseen :=
    fun c x hx => by simp [State.verdict, parseFrame_eth hx, h]
  unfold State.verdictOf
  cases hf : parseFrame e p with
  | malformed => simp [h]
  | unlisted => simp [h]
  | sample | position | genstatus | ability | time | mgmt => exact congrArg some (hverdict _ _ (by rw [hf]; rfl))

end

/-- Settles the first part of O9: no test of 1.1 is made on a frame that is not seen. -/
theorem unseenFrameHasNoEffect : Clause.UnseenFrameHasNoEffect := by
  intro s i e hs hi hunseen
  have hsees := State.sees_false hunseen
  have hstay : finish s s = .next s := (RequestFrame.refl s).finish hs
  have hraw := fun p => State.verdictOf_unseen hsees p
  have hreceived : ∀ (l : Link) (c : FrameClass) (h : Header), i.received? = some (l, c, h) → h.eth = e →
      exec i s = .next s := fun l c h hr he => by
    obtain ⟨w, hexec, -⟩ := exec_received hr s
    rw [hexec, s.receive_unseen l c h w (he ▸ hsees), hstay]
  cases i with
  | malformedFrame l f =>
    cases hi
    change finish s (s.receiveMalformed l f) = _
    rw [State.receiveMalformed, hraw, hstay]
  | ignoredFrame l f =>
    cases hi
    change finish s (s.receiveIgnored l f) = _
    rw [State.receiveIgnored, hraw, hstay]
  | secondCopy l f =>
    cases hi
    change finish s (s.receiveSecond l f) = _
    rw [State.receiveSecond, hraw, hstay]
  | sampleFrame l h f | timeFrame l h f | positionFrame l h f | genstatusFrame l h f | abilityFrame l h f =>
    cases hi
    exact hreceived _ _ _ rfl rfl
  | readTable l q | writeSegment l q | commit l q | discard l q | readState l q _ | readLatches l q | readEvents l q
  | readCapture l q | store l q | restart l q | breakerOpen l q | breakerClose l q | runPlan l q | setAuto l q
  | startGens l q | stopGens l q | acknowledgeHalt l q | clearStationTrip l q | clearGenFault l q | renegotiate l q
  | setPoint l q | releaseCapture l q | operateKindNotListed l q =>
    cases hi
    exact hreceived _ _ _ rfl rfl
  | _ => cases hi

/-- Settles the second part of O9. -/
theorem frameThatGoesNoFurther : Clause.FrameThatGoesNoFurther := by
  intro s l e p hs
  refine ⟨fun hgood htype hparse => ?_, fun hu hv => ?_, fun hu hv => ?_⟩
  · have hsees : s.sees e = true := by simp [State.sees, State.protocolType, hgood, htype]
    have hraw : s.verdictOf e p = none := by simp [State.verdictOf, hparse, hsees]
    change finish s (s.receiveMalformed l ⟨e, p⟩) = _
    rw [State.receiveMalformed, hraw]
    exact (State.modPort_frame l (fun x => { x with malformed := step32 x.malformed }) fun _ => rfl).finish hs
  · change finish s (s.receiveIgnored l ⟨e, p⟩) = _
    rw [State.receiveIgnored, hv]
    dsimp only
    rw [s.heard_up l hu, State.countIgnored, State.modPort_modPort]
    exact (State.modPort_frame l (fun x => { x with silence := 0, ignored := step32 x.ignored }) fun _ => rfl).finish hs
  · change finish s (s.receiveSecond l ⟨e, p⟩) = _
    rw [State.receiveSecond, hv]
    dsimp only
    rw [s.heard_up l hu, State.countSecond, State.modPort_modPort]
    exact (State.modPort_frame l (fun x => { x with silence := 0, second := step32 x.second }) fun _ => rfl).finish hs

/-! ### A link that comes UP (R1, R2) -/

section
variable {s : State}

/-- A link that a frame brings UP, before LINK_UP is recorded. -/
def State.raised (s : State) (l : Link) : State := s.modPort l (fun p => { p with silence := 0, up := true })

theorem State.heard_down {l : Link} (h : (s.port l).up = false) :
    s.heard l = (s.raised l).event .link 6 l.number 2 none := by
  unfold State.heard
  rw [if_neg (by simp [h])]
  rfl

/-- What the first frame on a DOWN link leaves of its port. -/
theorem State.heard_port {l : Link} (h : (s.port l).up = false) :
    ({ s.port l with silence := 0, up := true } : LinkPort).Stands ((s.heard l).port l) := by
  rw [State.heard_down h]
  have hport := (State.event_port (s := s.raised l) .link 6 l.number 2 none l).stands
  rwa [State.raised, State.port_modPort_same] at hport

theorem State.heard_newest {l : Link} (h : (s.port l).up = false) (hc : s.closing = none) :
    (s.heard l).newest = some ⟨s.events.nextSeq, s.aligner.counter, .link, 6, l.number, 2, none, false⟩ := by
  have hlabel : (s.raised l).eventLabel = s.aligner.counter := by
    simp [State.raised, State.eventLabel, hc]
  have hnext : (s.raised l).events = s.events := by simp [State.raised]
  rw [State.heard_down h, State.event_newest, hlabel, hnext]

theorem State.heard_work (l : Link) : (s.heard l).work = s.work := by
  unfold State.heard
  dsimp only
  split <;> simp

end

/-- Settles the third part of O9. -/
theorem firstFrameBringsTheLinkUp : Clause.FirstFrameBringsTheLinkUp := by
  intro s l e p hs hu hv
  have hcounted : s.receiveIgnored l ⟨e, p⟩ = (s.heard l).countIgnored l := by rw [State.receiveIgnored, hv]
  have hexec : exec (.ignoredFrame l ⟨e, p⟩) s = finish s ((s.heard l).countIgnored l) :=
    congrArg (finish s) hcounted
  have hwork : ((s.heard l).countIgnored l).work = [] := by
    rw [State.countIgnored, State.modPort_work, State.heard_work, hs.1]
  have hport := (State.settle_port (s := (s.heard l).countIgnored l) s l).stands
  rw [State.countIgnored, State.port_modPort_same] at hport
  obtain ⟨hup, hsilence, -, hignored, -⟩ := State.heard_port hu
  refine ⟨_, hexec, hport.up.trans hup, hport.silence.trans hsilence, hport.ignored.trans (congrArg step32 hignored), ?_,
    hs.only _ hexec⟩
  rw [Records, State.settle_newest hwork, ← State.heard_newest hu hs.closing, State.newest, State.newest,
    State.countIgnored, State.modPort_events]

/-- Settles the fourth part of O9: the work on the frame leaves the port as reception leaves it. -/
theorem takenFrameBringsTheLinkUp : Clause.TakenFrameBringsTheLinkUp := by
  intro s i l c h hs hi hu hv
  obtain ⟨w, hexec, hlistens⟩ := exec_received hi s
  rw [State.receive_noted w hv] at hexec
  have hlen : (s.noted l c h).mgmt.tables.length = 13 := by rw [State.noted_tables]; exact hs.tables_length
  have hport := ((hlistens _ hlen).settle s).ports l
  have hnoted : ({ (s.heard l).port l with taken := step32 ((s.heard l).port l).taken } : LinkPort).Stands
      ((s.noted l c h).port l) := by
    unfold State.noted State.countTaken
    rw [State.port_modPort_same]
    split <;> cases l <;> exact .refl _
  obtain ⟨hup, hsilence, htaken, hignored, hsecond⟩ := State.heard_port hu
  refine ⟨_, hexec, (hport.up.trans hnoted.up).trans hup, (hport.silence.trans hnoted.silence).trans hsilence,
    (hport.taken.trans hnoted.taken).trans (congrArg step32 htaken), (hport.ignored.trans hnoted.ignored).trans hignored,
    (hport.second.trans hnoted.second).trans hsecond, hs.only _ hexec, fun f hf hlocked => ?_⟩
  subst hf
  have hnoted' : exec (.timeFrame l h f) s = finish s (State.takeTime f (s.noted l .time h)) :=
    congrArg (finish s) (State.receive_noted (State.takeTime f) (by cases hi; exact hv))
  have hwork : ((s.noted l .time h).modAligner (fun a => { a with unlocked := step32 a.unlocked })).work = [] := by
    rw [State.modAligner_work, State.noted, State.countTaken, State.modPort_work]
    exact (State.heard_work l).trans hs.1
  rw [hexec] at hnoted'
  rw [Host.Outcome.next.inj hnoted', State.takeTime_unlocked hlocked, Records, State.settle_newest hwork,
    ← State.heard_newest hu hs.closing, State.newest, State.newest, State.modAligner_events, State.noted, State.countTaken,
    State.modPort_events]
  rfl

/-! ### A link that goes DOWN (R2, R171) -/

section
variable {s : State}

/-- A link that goes DOWN, its queues emptied. -/
def LinkPort.dropped (p : LinkPort) : LinkPort := { p with up := false, latch := false, urgent := [], normal := [], bulk := [] }

/-- The state in which LINK_DOWN is recorded. -/
def State.dropping (s : State) (l : Link) : State :=
  { s.modPort l LinkPort.dropped with events := s.events.unmark (s.emptiedRecords l) }

theorem PortFrame.up {p q : LinkPort} (h : PortFrame p q) : q.up = p.up := by rw [h.eq]

theorem PortFrame.latch {p q : LinkPort} (h : PortFrame p q) : q.latch = p.latch := by rw [h.eq]

theorem State.dropLink_silent {l : Link} (hu : (s.port l).up = true) (h : 24 ≤ (s.port l).silence) :
    s.dropLink l = (s.dropping l).event .link 12 l.number 1 none := by
  have hdue : ((s.port l).up && decide (Config.silenceLimit ≤ (s.port l).silence)) = true := by
    rw [hu, Bool.true_and]
    exact decide_eq_true h
  unfold State.dropLink
  rw [if_pos hdue]
  cases l <;> rfl

theorem State.dropLink_heard {l : Link} (h : (s.port l).silence < 24) : s.dropLink l = s := by
  have hdue : ¬ ((s.port l).up && decide (Config.silenceLimit ≤ (s.port l).silence)) = true := by
    intro hdue
    have hlate : 24 ≤ (s.port l).silence := of_decide_eq_true (Bool.and_eq_true_iff.mp hdue).2
    omega
  unfold State.dropLink
  rw [if_neg hdue]

theorem EventQueue.append_eq (q : EventQueue) (r : EventRecord) : q.append r = Clause.appended q r := by
  unfold EventQueue.append Clause.appended
  by_cases h : q.records.length < 128
  · simp [Config.eventRecords, h, step16, Nat.not_le.2 h]
  · simp [Config.eventRecords, h, step16, Nat.not_lt.1 h]

/-- The records that the fall of a link reports back are those of its EVENT frames that left on no link. -/
theorem State.emptiedRecords_contains (l : Link) (r : EventRecord) :
    (s.emptiedRecords l).contains { r with sent := false } = Clause.emptiedUnsent s l r := by
  unfold State.emptiedRecords Clause.emptiedUnsent
  rw [Bool.eq_iff_iff, List.contains_iff_mem, List.mem_flatMap, List.any_eq_true]
  refine exists_congr fun f => and_congr_right fun _ => ?_
  unfold reportedBack LinkPort.holdsEvent
  cases f.body with
  | event rs =>
    by_cases hl : f.left = true
    · simp [hl]
    · by_cases ho : ((s.port l.other).frames.any (fun g => g.isEvent && g.seq == f.seq)) = true
      · simp [ho]
      · rw [Bool.not_eq_true] at hl ho
        simp [hl, ho]
  | _ => simp

/-- What a send attempt may do to an event queue: mark records sent. -/
theorem EventQueue.markSent_events {t : State} {q : EventQueue} (seqs : List Nat) (h : t.events = q.markSent seqs)
    (hd : (t.port .a).up = false → (t.port .b).up = false → t.events = q) : Clause.EventsBecome t q := by
  refine ⟨by rw [h]; rfl, ?_, fun r hr hs => ?_, hd⟩
  · rw [h, EventQueue.markSent, List.map_map]
    refine List.map_congr_left fun r _ => ?_
    simp only [Function.comp]
    split <;> rfl
  · rw [h, EventQueue.markSent, List.mem_map]
    refine ⟨r, hr, ?_⟩
    split
    · cases r; simp_all
    · rfl

end

/-- Settles the fifth part of O9. -/
theorem silentLinkGoesDown : Clause.SilentLinkGoesDown := by
  intro s l hs hu
  refine ⟨fun h => ?_, fun h => ?_⟩
  · change finish s (s.dropLink l) = _
    rw [State.dropLink_heard h]
    exact (RequestFrame.refl s).finish hs
  · have hexec : exec (.linkDown l) s = finish s ((s.dropping l).event .link 12 l.number 1 none) :=
      congrArg (finish s) (State.dropLink_silent hu h)
    have hwork : (s.dropping l).work = [] := by rw [State.dropping]; simp [hs.1]
    have hwork' : ((s.dropping l).event .link 12 l.number 1 none).work = [] := by rw [State.event_work, hwork]
    have hlabel : (s.dropping l).eventLabel = s.aligner.counter := by
      rw [← hs.eventLabel]
      cases l <;> rfl
    have hnext : (s.dropping l).events.nextSeq = s.events.nextSeq := rfl
    have hdropped : (s.dropping l).port l = (s.port l).dropped := by cases l <;> rfl
    have hport := (State.event_port (s := s.dropping l) .link 12 l.number 1 none l).trans (State.settle_port s l)
    rw [hdropped] at hport
    obtain ⟨hurgent, hnormal, hbulk⟩ := hport.down rfl ⟨rfl, rfl, rfl⟩
    refine ⟨_, hexec, hport.up, hport.latch, hurgent, hnormal, hbulk, ?_, ?_, hs.only _ hexec⟩
    · rw [Records, State.settle_newest hwork', State.event_newest, hlabel, hnext]
    · obtain ⟨x, seqs, -, hevent⟩ := State.event_eq (s.dropping l) .link 12 l.number 1 none
      have hqueue : (s.dropping l).events.append
          ⟨(s.dropping l).events.nextSeq, (s.dropping l).eventLabel, .link, 12, l.number, 1, none, false⟩ =
          Clause.appended { s.events with records := s.events.records.map (fun r =>
              if Clause.emptiedUnsent s l r then { r with sent := false } else r) }
            ⟨s.events.nextSeq, s.aligner.counter, .link, 12, l.number, 1, none, false⟩ := by
        rw [EventQueue.append_eq, hlabel, hnext]
        refine congrArg (Clause.appended · _) ?_
        simp only [State.dropping, EventQueue.unmark, State.emptiedRecords_contains]
      refine EventQueue.markSent_events seqs ?_ fun ha hb => ?_
      · rw [State.settle_events _ _ hwork', hevent, ← hqueue]
      · have hup : ∀ k, ((State.settle s ((s.dropping l).event .link 12 l.number 1 none)).port k).up = false →
            ((s.dropping l).port k).up = false := fun k hk =>
          ((State.event_port (s := s.dropping l) .link 12 l.number 1 none k).trans (State.settle_port s k)).up.symm.trans hk
        rw [State.settle_events _ _ hwork', State.event_unsent _ _ _ _ _ _ (hup .a ha) (hup .b hb), ← hqueue]

/-- Settles O9. -/
theorem linksAreSupervised : Obligations.LinksAreSupervised :=
  ⟨unseenFrameHasNoEffect, frameThatGoesNoFurther, firstFrameBringsTheLinkUp, takenFrameBringsTheLinkUp,
    silentLinkGoesDown⟩


end Sys2Proof.Machine
end

section
/-! # Requests: what their booking leaves, and O43 -/

namespace Sys2Proof.Machine

/-! ### What the booking of a request leaves of the state -/

section
variable (s : State) (l : Link) (q : Request)

@[simp] theorem State.booked_work : (s.booked l q).work = s.work := by cases l <;> rfl
@[simp] theorem State.booked_lines : (s.booked l q).lines = s.lines := by cases l <;> rfl
@[simp] theorem State.booked_seq : (s.booked l q).seq = s.seq := by cases l <;> rfl
@[simp] theorem State.booked_par : (s.booked l q).par = s.par := by cases l <;> rfl
@[simp] theorem State.booked_capture : (s.booked l q).capture = s.capture := by cases l <;> rfl
@[simp] theorem State.booked_events : (s.booked l q).events = s.events := by cases l <;> rfl
@[simp] theorem State.booked_mgmt : (s.booked l q).mgmt = s.answered .done := by cases l <;> rfl
@[simp] theorem State.booked_table (x : TableId) : (s.booked l q).table x = s.table x := by cases l <;> rfl
@[simp] theorem State.booked_fld (x : TableId) (e id : Nat) : (s.booked l q).fld x e id = s.fld x e id := by cases l <;> rfl
@[simp] theorem State.booked_station (id : Nat) : (s.booked l q).station id = s.station id := by cases l <;> rfl
@[simp] theorem State.booked_brk (b : Nat) : (s.booked l q).brk b = s.brk b := by cases l <;> rfl
@[simp] theorem State.booked_gen (g : Nat) : (s.booked l q).gen g = s.gen g := by cases l <;> rfl
@[simp] theorem State.booked_run : (s.booked l q).run? = s.run? := by cases l <;> rfl
@[simp] theorem State.booked_eventLabel : (s.booked l q).eventLabel = s.eventLabel := by cases l <;> rfl
@[simp] theorem State.booked_point (n : Nat) : (s.booked l q).point n = s.point n :=
  (s.booked_awaiting l q).toRequestFrame.point n
@[simp] theorem State.booked_setpointOf (g : Nat) : (s.booked l q).setpointOf g = s.setpointOf g :=
  (s.booked_awaiting l q).toRequestFrame.setpointOf g

theorem Touches.booked {ps : List StatePart} (hl : .links ∈ ps := by decide) (hm : .mgmt ∈ ps := by decide) :
    Touches ps s (s.booked l q) where
  pending := by cases l <;> rfl
  moving h := by cases l <;> exact h
  calm _ := by cases l <;> exact ⟨rfl, rfl, rfl⟩
  stands p hp := by
    cases p
    case links => exact absurd hl hp
    case mgmt => exact absurd hm hp
    all_goals cases l <;> rfl

/-! ### Requests answered with no work done (R177) -/

variable {s l q}

/-- The answer to a request that has found nothing to do. -/
theorem State.booked_answered (hs : s.Quiet) (l : Link) (q : Request) (kind : Nat) (r : Reply) :
    ∃ t, finish s ((s.booked l q).answer (s.ticketFor kind q) (some r)) = .next t ∧
      Replies s t q kind r.status r.detailA r.detailB r.data ∧ t.mgmt = s.answered r.status ∧ Only [.links, .mgmt] s t := by
  obtain ⟨hanswer, hreplies, honly⟩ := (s.booked_awaiting l q).answered hs kind q r
    (ps := [.links, .mgmt]) (by simp) (by simp) (fun p hp _ => s.booked_kept l q hp)
  exact ⟨_, hanswer, hreplies, by rw [State.answer_mgmt, State.booked_mgmt]; rfl, honly⟩

/-- A request whose work leaves the state as it is. -/
theorem exec_answered {c : Instr} {kind : Nat} {r : Reply} (hs : s.Quiet)
    (h : exec c s = finish s ((s.booked l q).answer (s.ticketFor kind q) (some r))) :
    ∃ t, exec c s = .next t ∧ Replies s t q kind r.status r.detailA r.detailB r.data ∧ t.mgmt = s.answered r.status ∧
      Only [.links, .mgmt] s t := by
  rw [h]
  exact State.booked_answered hs l q kind r

/-- An OPERATE request that is taken (R185). -/
theorem finish_operate (h : s.Asked l q) (work : State → State × Option Reply) :
    finish s (s.operate l q work) =
      finish s ((work (s.booked l q)).1.answer (s.ticketFor 7 q) (work (s.booked l q)).2) :=
  congrArg (finish s) (s.serve_asked 7 false _ h)

/-! ### While a RESTART is in flight (R188) -/

theorem State.serve_busy (kind : Nat) (work : Ticket → State → State × Option Reply) (h : s.Served l q)
    (hr : s.mgmt.restart ≠ none) :
    s.serve l kind false q work = (s.booked l q).answer (s.ticketFor kind q) (some (Reply.of .busy)) := by
  obtain ⟨-, hu, hv, ha, hb⟩ := h
  obtain ⟨ks, hks⟩ := Option.ne_none_iff_exists'.1 hr
  unfold State.serve State.take
  rw [State.receive_taken s l _ _ _ hu hv (by simp)]
  dsimp only
  rw [State.reserve_placed]
  · have hflight : ∀ u : State, u.mgmt.restart = some ks → (u.mgmt.restart.isSome && !false) = true := fun u hu => by
      simp [hu]
    dsimp only
    rw [if_pos (hflight _ (by cases l <;> exact hks))]
    cases l <;> rfl
  · cases l
    · exact .inl hu
    · exact .inr hu
  · cases l <;> exact ha
  · cases l <;> exact hb

/-! ### Requests whose work touches more than the links and the counts -/

/-- `u` waits to answer the request next taken in `s`, whatever the request's work has moved: the place is reserved on each
link that is UP, and the response takes its next number and the own address. -/
structure Waiting (s u : State) : Prop where
  own : u.ownAddress = s.ownAddress
  responseSeq : u.links.responseSeq = s.links.responseSeq
  place : ∀ l, (s.port l).up = true → BulkPlace.reserved s.mgmt.nextTicket ∈ (u.port l).bulk

theorem Awaiting.waiting {u : State} (h : Awaiting s u) : Waiting s u := ⟨h.ownAddress, h.responseSeq, h.place⟩

theorem Waiting.of_links {u v : State} (h : Waiting s u) (hl : v.links = u.links) (ho : v.ownAddress = u.ownAddress) :
    Waiting s v where
  own := ho.trans h.own
  responseSeq := hl ▸ h.responseSeq
  place k hk := by
    have hport : v.port k = u.port k := by cases k <;> simp [State.port, hl]
    exact hport ▸ h.place k hk

/-- A record may join the queue before the answer. -/
theorem Waiting.event {u : State} (h : Waiting s u) (c : EventClass) (priority object code : Nat) (value : Option Nat) :
    Waiting s (u.event c priority object code value) := by
  obtain ⟨x, seqs, hgrows, hevent⟩ := u.event_eq c priority object code value
  rw [hevent]
  refine ⟨h.own, ?_, fun k hk => ?_⟩
  · rw [hgrows.eq]; exact h.responseSeq
  · cases k
    · exact hgrows.a.bulk.subset (h.place .a hk)
    · exact hgrows.b.bulk.subset (h.place .b hk)

/-- The frames of changed setpoints leave the bulk queues as they are. -/
theorem State.buildGenset_bulk (g : Nat) (k : Link) : ((s.buildGenset g).port k).bulk = (s.port k).bulk := by
  have hadmit : ∀ f (p : LinkPort), (if p.up then LinkPort.admitGenset g f p else (p, false)).1.bulk = p.bulk := fun f p => by
    split
    · unfold LinkPort.admitGenset
      split <;> rfl
    · rfl
  unfold State.buildGenset
  split
  · rfl
  · split
    · rfl
    · cases k <;> exact hadmit _ _

theorem State.settle_bulk (s₀ : State) (hw : s.work = []) (k : Link) :
    ((State.settle s₀ s).port k).bulk = (s.port k).bulk := by
  have hsend : ∀ (gs : List Nat) (t : State), ((t.forEach gs (fun g t =>
      if (t.setpointOf g).isSome && t.setpointOf g != s₀.setpointOf g then t.buildGenset g else t)).port k).bulk =
        (t.port k).bulk := by
    intro gs
    induction gs with
    | nil => exact fun _ => rfl
    | cons g gs ih =>
      intro t
      refine (ih _).trans ?_
      dsimp only
      split
      · exact t.buildGenset_bulk g k
      · rfl
  have hend : ∀ t : State, (((({ (State.noteEdges s₀ t).driveHealthy with closing := none, hushed := false, risen := [] } :
      State)).port k).bulk) = (t.port k).bulk := fun t => by cases k <;> rfl
  unfold State.settle
  rw [State.drain_of_none _ hw]
  exact (hend _).trans (hsend _ s)

@[simp] theorem State.answer_work (k : Ticket) (r : Reply) : (s.answer k (some r)).work = s.work := by
  rw [State.answer, State.respond_eq]
@[simp] theorem State.answer_lines (k : Ticket) (r : Reply) : (s.answer k (some r)).lines = s.lines := by
  rw [State.answer, State.respond_eq]
@[simp] theorem State.answer_seq (k : Ticket) (r : Reply) : (s.answer k (some r)).seq = s.seq := by
  rw [State.answer, State.respond_eq]
@[simp] theorem State.answer_par (k : Ticket) (r : Reply) : (s.answer k (some r)).par = s.par := by
  rw [State.answer, State.respond_eq]
@[simp] theorem State.answer_capture (k : Ticket) (r : Reply) : (s.answer k (some r)).capture = s.capture := by
  rw [State.answer, State.respond_eq]

/-- The counts of the management unit once the request is answered, where its work has left the unit as it was booked. -/
theorem State.settle_answered {u : State} (h : u.mgmt = s.answered .done) (k : Ticket) (r : Reply) :
    (State.settle s (u.answer k (some r))).mgmt = s.answered r.status := by
  rw [State.settle_mgmt, State.answer_mgmt, h]
  rfl

/-- The response stands at the end of the command, whatever the work of the request has moved. -/
theorem Waiting.replies {u : State} (h : Waiting s u) (hw : u.work = []) (kind : Nat) (q : Request) (r : Reply) :
    Replies s (State.settle s (u.answer (s.ticketFor kind q) (some r))) q kind r.status r.detailA r.detailB r.data := by
  intro k hk
  rw [State.settle_bulk s ((State.answer_work _ _).trans hw), State.answer, State.respond_eq, ← h.own, ← h.responseSeq]
  cases k <;> exact LinkPort.fill_mem _ _ _ (h.place _ hk)

end

/-- Settles O43. -/
theorem requestDuringRestartIsBusy : Obligations.RequestDuringRestartIsBusy := by
  intro s l q c kind hs hu hv ha hb hr hc
  have hbusy : ∀ work, finish s (s.serve l kind false q work) =
      finish s ((s.booked l q).answer (s.ticketFor kind q) (some (Reply.of .busy))) := fun work =>
    congrArg (finish s) (State.serve_busy kind work ⟨hs, hu, hv, ha, hb⟩ hr)
  refine exec_answered (l := l) (kind := kind) (r := Reply.of .busy) hs ?_
  simp only [List.mem_cons, Prod.mk.injEq, List.not_mem_nil, or_false] at hc
  rcases hc with ⟨rfl, rfl⟩ | ⟨rfl, rfl⟩ | ⟨rfl, rfl⟩ | ⟨rfl, rfl⟩ | ⟨rfl, rfl⟩ | ⟨rfl, rfl⟩ | ⟨rfl, rfl⟩ | ⟨rfl, rfl⟩ |
    ⟨rfl, rfl⟩ | ⟨rfl, rfl⟩ | ⟨rfl, rfl⟩ | ⟨rfl, rfl⟩ | ⟨rfl, rfl⟩ | ⟨rfl, rfl⟩ | ⟨rfl, rfl⟩ | ⟨rfl, rfl⟩ | ⟨rfl, rfl⟩ |
    ⟨rfl, rfl⟩ | ⟨rfl, rfl⟩ | ⟨rfl, rfl⟩ <;> exact hbusy _


end Sys2Proof.Machine
end

section
/-! # O44, O45 and O48: reading, and the staging areas -/

namespace Sys2Proof.Machine

/-! ### READ-TABLE (R179): the longest run of whole entries that fits -/

theorem fieldListBytes_cons (e : Nat × Entry) (es : Staged) :
    (fieldListBytes (e :: es)).length = (entryBytes e.1 e.2).length + (fieldListBytes es).length := by
  simp [fieldListBytes]

theorem fitEntries_longest (es : Staged) : ∀ room, ∃ k ≤ es.length, fitEntries room es = (es.take k, es.drop k) ∧
    (fieldListBytes (es.take k)).length ≤ room ∧
    (k < es.length → room < (fieldListBytes (es.take (k + 1))).length) := by
  induction es with
  | nil => exact fun room => ⟨0, Nat.le_refl _, rfl, Nat.zero_le _, fun h => absurd h (Nat.lt_irrefl _)⟩
  | cons e es ih =>
    intro room
    by_cases hfits : (entryBytes e.1 e.2).length ≤ room
    · obtain ⟨k, hk, heq, hle, hnext⟩ := ih (room - (entryBytes e.1 e.2).length)
      refine ⟨k + 1, Nat.succ_le_succ hk, ?_, ?_, fun h => ?_⟩
      · simp [fitEntries, hfits, heq]
      · rw [List.take_succ_cons, fieldListBytes_cons]
        omega
      · have hnext := hnext (Nat.lt_of_succ_lt_succ h)
        rw [List.take_succ_cons, fieldListBytes_cons]
        omega
    · refine ⟨0, Nat.zero_le _, by simp [fitEntries, hfits], Nat.zero_le _, fun _ => ?_⟩
      rw [List.take_succ_cons, fieldListBytes_cons]
      omega

section
variable {s : State} {l : Link} {q : Request}

theorem exec_readTable (h : s.Asked l q) : exec (.readTable l q) s =
    finish s (((s.booked l q).withTable q (State.readTable q)).1.answer (s.ticketFor 1 q)
      ((s.booked l q).withTable q (State.readTable q)).2) :=
  congrArg (finish s) (s.serve_asked 1 false _ h)

/-- Settles the first part of O44. -/
theorem readTableReturnsWholeEntries : Clause.ReadTableReturnsWholeEntries := by
  intro s l q h
  constructor
  · intro table htable hactive rest
    obtain ⟨k, hk, hfit, hle, hnext⟩ := fitEntries_longest rest 1470
    refine ⟨k, hk, hle, hnext, fun e he => ?_⟩
    have hwork : (s.booked l q).withTable q (State.readTable q) = (s.booked l q, some
        { detailA := e.1 + 1, detailB := rest.length - k, data := fieldListBytes (rest.take k) }) := by
      have hrest : entriesFrom q.argA (Table.indexed (s.table table)) = rest := rfl
      simp only [State.withTable, htable, State.readTable, hactive, State.booked_table, hrest, State.pageReply,
        Config.responseBytes, hfit, he, List.length_drop]
    exact exec_answered h.1 (by rw [exec_readTable h, hwork])
  · intro hnone
    have htable : TableId.ofNumber q.target = none := List.getElem?_eq_none (by simpa [TableId.all] using hnone)
    exact exec_answered (l := l) (kind := 1) (r := Reply.of .unknownTable) h.1 (by
      rw [exec_readTable h]
      simp only [State.withTable, htable])

/-! ### READ-STATE (R179) -/

theorem exec_readState (h : s.Served l q) (pin : Bool) : exec (.readState l q pin) s =
    finish s ((State.readArea q ((s.booked l q).modLines (fun x => { x with lockoutPin := pin }))).1.answer (s.ticketFor 5 q)
      (State.readArea q ((s.booked l q).modLines (fun x => { x with lockoutPin := pin }))).2) :=
  congrArg (finish s) (s.serve_exempt 5 _ h)

/-- The pin's level is kept with the answer, and nothing follows it. -/
theorem readState_answered (h : s.Served l q) (pin : Bool) (r : Reply)
    (hr : State.readArea q ((s.booked l q).modLines (fun x => { x with lockoutPin := pin })) =
      ((s.booked l q).modLines (fun x => { x with lockoutPin := pin }), some r)) :
    ∃ t, exec (.readState l q pin) s = .next t ∧ Replies s t q 5 r.status r.detailA r.detailB r.data ∧
      t.lines.lockoutPin = pin ∧ t.lines.lockout = s.lines.lockout ∧ t.mgmt = s.answered r.status ∧
      Only [.links, .lines, .mgmt] s t := by
  set u := (s.booked l q).modLines (fun x => { x with lockoutPin := pin }) with hu
  have hexec : exec (.readState l q pin) s = .next (State.settle s (u.answer (s.ticketFor 5 q) (some r))) := by
    rw [exec_readState h, ← hu, hr]
    rfl
  have hwork : u.work = [] := by
    rw [hu, State.modLines_work, State.booked_work]
    exact h.1.1
  have hlines : u.lines = { s.lines with lockoutPin := pin } := by
    rw [hu, State.modLines_lines, State.booked_lines]
  have htouch : Touches [.links, .lines, .mgmt] s (u.answer (s.ticketFor 5 q) (some r)) :=
    ((Touches.booked s l q).modLines _).answer _ _
  have hwaits : Waiting s u := (s.booked_awaiting l q).waiting.of_links (by rw [hu]; rfl) (by rw [hu]; rfl)
  refine ⟨_, hexec, hwaits.replies hwork 5 q r, ?_, ?_, ?_,
    htouch.only_calm h.1.1 h.1.risen⟩
  · rw [State.settle_lines, State.answer_lines, hlines]
  · rw [State.settle_lines, State.answer_lines, hlines]
  · exact State.settle_answered (by rw [hu, State.modLines_mgmt, State.booked_mgmt]) _ _

/-- The bytes of the event queue's area (R176, R179). -/
def State.eventArea (s : State) : List Byte := fieldListBytes [(0, numbered s.eventFields)]

theorem State.numbered_eventFields (s : State) : numbered s.eventFields = [(1, s.events.records.length),
    (2, (s.events.records.filter (fun r => !r.sent)).length),
    (3, (s.events.records.head?.map (·.seq)).getD Config.noneValue), (4, s.events.nextSeq),
    (5, s.events.overwritten % 2 ^ 32), (6, s.events.overwritten / 2 ^ 32)] := rfl

/-- Settles the second part of O44. -/
theorem readStateReturnsAnArea : Clause.ReadStateReturnsAnArea := by
  intro s l q pin h
  refine ⟨fun htarget hfirst => ?_, fun hnone => ?_⟩
  · have harea : ∀ u : State, u.events = s.events →
        State.readArea q u = (u, some { detailA := 1, detailB := 0, data := s.eventArea }) := by
      intro u hevents
      have hfields : u.eventFields = s.eventFields := by rw [State.eventFields, hevents]; rfl
      have hsize : (entryBytes 0 (numbered s.eventFields)).length ≤ Config.responseBytes := by
        rw [State.numbered_eventFields]
        exact (by decide : 33 ≤ Config.responseBytes)
      have hentries : areaFrom q.argA (none, [(0, numbered s.eventFields)]) = [(0, numbered s.eventFields)] := by
        rw [hfirst]; rfl
      simp only [State.readArea, htarget, State.area, hfields, hentries, State.pageReply, fitEntries, if_pos hsize]
      rfl
    have hbytes : s.eventArea = entryBytes 0 [(1, s.events.records.length),
        (2, (s.events.records.filter (fun r => !r.sent)).length),
        (3, match s.events.records with | [] => 0xFFFFFFFF | r :: _ => r.seq), (4, s.events.nextSeq),
        (5, s.events.overwritten % 2 ^ 32), (6, s.events.overwritten / 2 ^ 32)] := by
      rw [State.eventArea, State.numbered_eventFields]
      cases s.events.records <;> simp [fieldListBytes, Config.noneValue]
    obtain ⟨t, hexec, hreplies, hpin, hlevel, hmgmt, honly⟩ := readState_answered h pin _ (harea _ (s.booked_events l q))
    rw [hbytes] at hreplies
    exact ⟨t, hexec, hreplies, hpin, hlevel, hmgmt, honly⟩
  · have harea : ∀ u : State, u.area q.target = none := fun u => by
      unfold State.area
      split <;> first | omega | rfl
    obtain ⟨t, hexec, hreplies, hpin, -, hmgmt, honly⟩ := readState_answered h pin (Reply.badArgument targetArgument) (by
      simp only [State.readArea, harea])
    exact ⟨t, hexec, hreplies, hpin, hmgmt, honly⟩

/-- Settles O44. -/
theorem tablesAndStateAreRead : Obligations.TablesAndStateAreRead := ⟨readTableReturnsWholeEntries, readStateReturnsAnArea⟩

/-! ### READ-EVENTS (R172) -/

theorem exec_readEvents (h : s.Served l q) : exec (.readEvents l q) s =
    finish s ((State.readEvents q (s.booked l q)).1.answer (s.ticketFor 8 q) (State.readEvents q (s.booked l q)).2) :=
  congrArg (finish s) (s.serve_exempt 8 _ h)

/-- The records of a range, counted from its first number on. -/
theorem State.recordsIn_eq {first : Nat} (count : Nat) (h : first ≤ 65535) : s.recordsIn first count =
    s.events.records.filter (fun r => (r.seq + (65536 - first)) % 65536 < count) := by
  refine List.filter_congr fun r _ => ?_
  rw [Nat.mod_eq_of_lt (Nat.lt_succ_of_le h), Nat.add_sub_assoc (Nat.le_succ_of_le h)]

end

/-- Settles O45. -/
theorem readEventsReturnsTheRange : Obligations.ReadEventsReturnsTheRange := by
  intro s l q h
  refine ⟨fun hone hcount hfirst => ?_, fun hcount => ?_⟩
  · have hlow : ¬ ((decide (q.argB < 1) || decide (77 < q.argB)) = true) := by
      rw [Bool.or_eq_true, decide_eq_true_eq, decide_eq_true_eq]
      omega
    refine exec_answered (l := l) (kind := 8) (r := {
      detailA := (match s.events.records with | [] => 0 | r :: _ => r.seq + 65536 * s.events.records.length)
      detailB := s.events.overwritten % 2 ^ 32
      data := (s.events.records.filter (fun r => (r.seq + (65536 - q.argA)) % 65536 < q.argB)).flatMap EventRecord.bytes })
      h.1 ((exec_readEvents h).trans ?_)
    rw [State.readEvents, if_neg hlow, if_neg (Nat.not_lt.2 hfirst), State.recordsIn_eq _ (s := s.booked l q) hfirst,
      State.booked_events] <;> rfl
  · have hlow : (decide (q.argB < 1) || decide (77 < q.argB)) = true := by
      rw [Bool.or_eq_true, decide_eq_true_eq, decide_eq_true_eq]
      omega
    exact exec_answered (l := l) (kind := 8) (r := Reply.badArgument argumentB) h.1 ((exec_readEvents h).trans (by
      rw [State.readEvents, if_pos hlow]))

/-! ### WRITE-SEGMENT (R180) -/

section
variable {s : State} {l : Link} {q : Request}

theorem State.setStaging_frame (x : TableId) (a : Staging) : RequestFrame s (s.setStaging x a) :=
  ⟨rfl, fun _ => rfl, rfl, fun _ => rfl, fun _ => rfl, rfl⟩

theorem State.setStaging_kept {u : State} (x : TableId) (a : Staging) {p : StatePart} (hp : p ∈ latchOwners)
    (h : p.Kept s u) : p.Kept s (u.setStaging x a) := by
  simp only [latchOwners, List.mem_cons, List.not_mem_nil, or_false] at hp
  rcases hp with rfl | rfl | rfl | rfl <;> exact h

/-- A request whose work writes a staging area and is answered at once. -/
theorem staging_answered (hs : s.Quiet) (kind : Nat) (x : TableId) (a : Staging) (r : Reply) :
    ∃ t, finish s (((s.booked l q).setStaging x a).answer (s.ticketFor kind q) (some r)) = .next t ∧
      Replies s t q kind r.status r.detailA r.detailB r.data ∧
      t.mgmt = { s.answered r.status with staging := s.mgmt.staging.set x.number a } ∧ Only [.links, .mgmt] s t := by
  have hwaits : Awaiting s ((s.booked l q).setStaging x a) :=
    (s.booked_awaiting l q).work (State.setStaging_frame x a) rfl (fun _ => rfl)
  obtain ⟨hanswer, hreplies, honly⟩ := hwaits.answered hs kind q r (ps := [.links, .mgmt]) (by simp) (by simp)
    (fun p hp _ => State.setStaging_kept x a hp (s.booked_kept l q hp))
  refine ⟨_, hanswer, hreplies, ?_, honly⟩
  rw [State.answer_mgmt]
  cases l <;> rfl

theorem exec_writeSegment (h : s.Asked l q) {table : TableId} (htable : TableId.ofNumber q.target = some table) :
    exec (.writeSegment l q) s = finish s ((State.writeSegment q table (s.booked l q)).1.answer (s.ticketFor 2 q)
      (State.writeSegment q table (s.booked l q)).2) := by
  refine (congrArg (finish s) (s.serve_asked 2 false _ h)).trans ?_
  simp only [State.withTable, htable]

end

/-- Settles O48. -/
theorem segmentsFillTheStaging : Obligations.SegmentsFillTheStaging := by
  intro s l q table h htable hfree area
  have hexec := exec_writeSegment h htable
  have hstaging : (s.booked l q).stagingOf table = area := s.booked_stagingOf l q table
  refine ⟨fun es hnumber hlast hread => ?_, fun hnumber => ?_⟩
  · have hwork : State.writeSegment q table (s.booked l q) = ((s.booked l q).setStaging table
        ⟨if q.argB = 1 then .complete else .filling (q.argA + 1), es⟩, some { detailA := es.length }) := by
      simp [State.writeSegment, hstaging, area, hfree, hnumber, hread, Nat.not_lt.2 hlast]
    rw [hwork] at hexec
    rw [hexec]
    exact staging_answered h.1 2 table _ _
  · have hwork : State.writeSegment q table (s.booked l q) =
        ((s.booked l q).setStaging table {}, some (Reply.of .sequence)) := by
      simp [State.writeSegment, hstaging, area, hfree, hnumber, State.emptyStaging]
    rw [hwork] at hexec
    rw [hexec]
    exact staging_answered h.1 2 table {} (Reply.of .sequence)


end Sys2Proof.Machine
end

section
/-! # The end of a request -/

namespace Sys2Proof.Machine

/-! ### The end of a command that leaves no work and moves no setpoint -/

/-- The state with the marks of a running command dropped, the rises that wait set and HEALTHY driven. -/
def State.endedWith (u : State) (edges : List Nat) (healthy : Bool) : State :=
  { u with
    closing := none
    hushed := false
    risen := []
    capture := { u.capture with edges := edges }
    lines := { u.lines with healthy := healthy } }

section
variable (u : State) (es : List Nat) (b : Bool)

@[simp] theorem State.endedWith_links : (u.endedWith es b).links = u.links := rfl
@[simp] theorem State.endedWith_port (l : Link) : (u.endedWith es b).port l = u.port l := rfl
@[simp] theorem State.endedWith_aligner : (u.endedWith es b).aligner = u.aligner := rfl
@[simp] theorem State.endedWith_intake : (u.endedWith es b).intake = u.intake := rfl
@[simp] theorem State.endedWith_breakers : (u.endedWith es b).breakers = u.breakers := rfl
@[simp] theorem State.endedWith_brk (n : Nat) : (u.endedWith es b).brk n = u.brk n := rfl
@[simp] theorem State.endedWith_seq : (u.endedWith es b).seq = u.seq := rfl
@[simp] theorem State.endedWith_par : (u.endedWith es b).par = u.par := rfl
@[simp] theorem State.endedWith_gen (g : Nat) : (u.endedWith es b).gen g = u.gen g := rfl
@[simp] theorem State.endedWith_events : (u.endedWith es b).events = u.events := rfl
@[simp] theorem State.endedWith_newest : (u.endedWith es b).newest = u.newest := rfl
@[simp] theorem State.endedWith_mgmt : (u.endedWith es b).mgmt = u.mgmt := rfl
@[simp] theorem State.endedWith_lines : (u.endedWith es b).lines = { u.lines with healthy := b } := rfl
@[simp] theorem State.endedWith_capture : (u.endedWith es b).capture = { u.capture with edges := es } := rfl
@[simp] theorem State.endedWith_healthyNow : (u.endedWith es b).healthyNow = u.healthyNow := rfl
@[simp] theorem State.endedWith_point (n : Nat) : (u.endedWith es b).point n = u.point n := rfl
@[simp] theorem State.endedWith_table (x : TableId) : (u.endedWith es b).table x = u.table x := rfl
@[simp] theorem State.endedWith_fld (x : TableId) (e id : Nat) : (u.endedWith es b).fld x e id = u.fld x e id := rfl
@[simp] theorem State.endedWith_station (id : Nat) : (u.endedWith es b).station id = u.station id := rfl
@[simp] theorem State.endedWith_ownAddress : (u.endedWith es b).ownAddress = u.ownAddress := rfl
@[simp] theorem State.endedWith_captureTriggers : (u.endedWith es b).captureTriggers = u.captureTriggers := rfl

end

section
variable {s u : State}

theorem State.settle_steady (hw : u.work = []) (hset : ∀ g, u.setpointOf g = s.setpointOf g) :
    State.settle s u = u.endedWith (State.noteEdges s u).capture.edges u.healthyNow :=
  State.settle_same _ _ hw hset

/-- Without rises noted by the command itself, the trigger points that stand higher have risen. -/
theorem State.noteEdges_risesOf (hr : u.risen = []) (es : List Nat) (b : Bool) :
    (State.noteEdges s u).capture.edges = u.capture.edges ++ risesOf s (u.endedWith es b) := by
  rw [State.noteEdges_plain s u hr]
  rfl

/-- The newest record of the answer is that of the request's work. -/
@[simp] theorem State.answer_newest (k : Ticket) (r : Reply) : (u.answer k (some r)).newest = u.newest := by
  rw [State.newest, State.answer_events]
  rfl

@[simp] theorem State.answer_risen (k : Ticket) (r : Reply) : (u.answer k (some r)).risen = u.risen := by
  rw [State.answer, State.respond_eq]

@[simp] theorem State.answer_tables' (k : Ticket) (r : Reply) : (u.answer k (some r)).mgmt.tables = u.mgmt.tables := by
  rw [State.answer_mgmt]

@[simp] theorem State.answer_setpointOf (k : Ticket) (r : Reply) (g : Nat) :
    (u.answer k (some r)).setpointOf g = u.setpointOf g :=
  State.setpointOf_congr (by rw [State.answer_par]) (State.answer_tables' k r) g

@[simp] theorem State.answer_point (k : Ticket) (r : Reply) (n : Nat) : (u.answer k (some r)).point n = u.point n :=
  (u.answer_frame k r).point n

@[simp] theorem State.answer_gen (k : Ticket) (r : Reply) (g : Nat) : (u.answer k (some r)).gen g = u.gen g := by
  simp only [State.gen, State.answer_par]

/-- A request whose work moves no setpoint and hands on no work: its response, and the end of the command. -/
theorem Waiting.ends (h : Waiting s u) (hw : u.work = []) (hset : ∀ g, u.setpointOf g = s.setpointOf g) (kind : Nat)
    (q : Request) (r : Reply) :
    ∃ es b, finish s (u.answer (s.ticketFor kind q) (some r)) =
        .next ((u.answer (s.ticketFor kind q) (some r)).endedWith es b) ∧
      b = (u.answer (s.ticketFor kind q) (some r)).healthyNow ∧
      (u.risen = [] → ((u.answer (s.ticketFor kind q) (some r)).endedWith es b).capture = { u.capture with
        edges := u.capture.edges ++ risesOf s ((u.answer (s.ticketFor kind q) (some r)).endedWith es b) }) ∧
      Replies s ((u.answer (s.ticketFor kind q) (some r)).endedWith es b) q kind r.status r.detailA r.detailB r.data := by
  have hsettle := State.settle_steady (s := s) (u := u.answer (s.ticketFor kind q) (some r))
    ((State.answer_work _ _).trans hw) (fun g => (State.answer_setpointOf _ _ g).trans (hset g))
  have hreplies := h.replies hw kind q r
  rw [hsettle] at hreplies
  refine ⟨_, _, congrArg Host.Outcome.next hsettle, rfl, fun hr => ?_, hreplies⟩
  have hedges := State.noteEdges_risesOf (s := s) ((State.answer_risen (s.ticketFor kind q) r).trans hr)
    (State.noteEdges s (u.answer (s.ticketFor kind q) (some r))).capture.edges
    (u.answer (s.ticketFor kind q) (some r)).healthyNow
  rw [State.answer_capture] at hedges
  rw [State.endedWith_capture, State.answer_capture]
  exact congrArg (fun es => { u.capture with edges := es }) hedges

/-- The management unit after the answer, where the request's work has left it as it was booked. -/
theorem State.ended_answered (h : u.mgmt = s.answered .done) (k : Ticket) (r : Reply) (es : List Nat) (b : Bool) :
    ((u.answer k (some r)).endedWith es b).mgmt = s.answered r.status := by
  rw [State.endedWith_mgmt, State.answer_mgmt, h]
  rfl

theorem State.ended_records {c : EventClass} {priority object code : Nat} {value : Option Nat}
    (h : Records s u c priority object code value) (k : Ticket) (r : Reply) (es : List Nat) (b : Bool) :
    Records s ((u.answer k (some r)).endedWith es b) c priority object code value := by
  rw [Records, State.endedWith_newest, State.answer_newest]
  exact h

/-- A record made where the queue and the counter stand as they stood. -/
theorem State.event_records {c : EventClass} {priority object code : Nat} {value : Option Nat} (hs : s.Quiet)
    (he : u.events.nextSeq = s.events.nextSeq) (hl : u.eventLabel = s.eventLabel) :
    Records s (u.event c priority object code value) c priority object code value := by
  rw [Records, State.event_newest, he, hl, hs.eventLabel]

/-- What such a request touches. -/
theorem Touches.ended {ps : List StatePart} (ht : Touches ps s u) (hs : s.Quiet) (hw : u.work = [])
    (hset : ∀ g, u.setpointOf g = s.setpointOf g) {k : Ticket} {r : Reply} {t : State}
    (hend : finish s (u.answer k (some r)) = .next t) (hl : .links ∈ ps := by decide) (hm : .mgmt ∈ ps := by decide) :
    Only ps s t := by
  have honly := (ht.answer k (some r) hl hm).only hs.1 hs.risen (.inl ((State.answer_work _ _).trans hw))
    (.inl fun g => (State.answer_setpointOf _ _ g).trans (hset g))
  exact Host.Outcome.next.inj hend ▸ honly

end


end Sys2Proof.Machine
end

section
/-! # SET-POINT (O57) -/

namespace Sys2Proof.Machine

section
variable {s : State} {l : Link} {q : Request}

/-! ### Points and events -/

/-- A record moves no point, no setpoint and no condition of HEALTHY. -/
theorem State.event_requestFrame (s : State) (c : EventClass) (priority object code : Nat) (value : Option Nat) :
    RequestFrame s (s.event c priority object code value) where
  eq := by
    obtain ⟨x, seqs, -, hevent⟩ := s.event_eq c priority object code value
    rw [hevent]
  up k := State.event_up _ _ _ _ _ _ k
  time := by rw [State.event_aligner]
  valid k := by rw [State.event_stream]
  position b := by rw [State.event_brk]
  mgmt := by rw [State.event_mgmt]

@[simp] theorem State.event_point (s : State) (c : EventClass) (priority object code : Nat) (value : Option Nat) (n : Nat) :
    (s.event c priority object code value).point n = s.point n :=
  (s.event_requestFrame c priority object code value).point n

theorem State.point_soft (s : State) {n : Nat} (h : 240 ≤ n) (h' : n ≤ 255) : s.point n = s.mgmt.soft.getD (n - 240) false := by
  unfold State.point
  repeat rw [if_neg (by first | omega | simp; omega)]
  rw [if_pos (by omega)]

/-- The SOFT points are the management unit's, and no other point is. -/
theorem State.point_modSoft (s : State) (f : Management → Management) (hc : (f s.mgmt).configured = s.mgmt.configured)
    {n : Nat} (hn : n < 240 ∨ 255 < n) : (s.modMgmt f).point n = s.point n := by
  have hconfigured : (s.modMgmt f).mgmt.configured = s.mgmt.configured := hc
  unfold State.point
  rw [hconfigured]
  simp only [beq_iff_eq]
  repeat refine ite_congr rfl (fun _ => rfl) (fun _ => ?_)
  exact ite_congr rfl (fun _ => by omega) (fun _ => rfl)

/-! ### SET-POINT (R86) -/

/-- The state in which SET-POINT has written a SOFT point. -/
def State.withSoft (s : State) (n : Nat) (v : Bool) : State := s.modMgmt (fun m => { m with soft := m.soft.set n v })

theorem exec_setPoint (h : s.Asked l q) : exec (.setPoint l q) s = finish s
    ((State.setPoint q (s.booked l q)).1.answer (s.ticketFor 7 q) (State.setPoint q (s.booked l q)).2) :=
  finish_operate h (State.setPoint q)

theorem setPoint_other {u : State} (h : q.argA < 240 ∨ 255 < q.argA) : State.setPoint q u = (u, some (Reply.of .notPermitted)) := by
  have hother : (decide (q.argA < 240) || decide (255 < q.argA)) = true := by simpa using h
  rw [State.setPoint, if_pos hother]

theorem setPoint_value {u : State} (h : 240 ≤ q.argA) (h' : q.argA ≤ 255) (hv : 1 < q.argB) :
    State.setPoint q u = (u, some (Reply.badArgument argumentB)) := by
  have hsoft : ¬ (decide (q.argA < 240) || decide (255 < q.argA)) = true := by simp; omega
  rw [State.setPoint, if_neg hsoft, if_pos hv]

theorem setPoint_written {u : State} (h : 240 ≤ q.argA) (h' : q.argA ≤ 255) {v : Bool} (hv : q.argB = if v then 1 else 0) :
    State.setPoint q u = (if u.point q.argA = v then u
      else (u.withSoft (q.argA - 240) v).event .management 5 q.argA 1 (some q.argB),
      some { detailA := q.argA, detailB := if u.point q.argA then 1 else 0 }) := by
  have hsoft : ¬ (decide (q.argA < 240) || decide (255 < q.argA)) = true := by simp; omega
  have hlow : ¬ 1 < q.argB := by rw [hv]; split <;> omega
  have hnew : (q.argB == 1) = v := by rw [hv]; cases v <;> rfl
  have hold : bitVal (u.point q.argA) 0 = if u.point q.argA then 1 else 0 := by cases u.point q.argA <;> rfl
  rw [State.setPoint, if_neg hsoft, if_neg hlow]
  simp only [hnew, hold, beq_iff_eq]
  rfl

theorem State.withSoft_point_other (n : Nat) (v : Bool) {k : Nat} (hk : k ≠ 240 + n) :
    (s.withSoft n v).point k = s.point k := by
  by_cases hsoft : 240 ≤ k ∧ k ≤ 255
  · rw [State.point_soft _ hsoft.1 hsoft.2, State.point_soft _ hsoft.1 hsoft.2]
    exact (List.getD_eq_getElem?_getD ..).trans ((congrArg (·.getD false) (List.getElem?_set_ne (by omega))).trans
      (List.getD_eq_getElem?_getD ..).symm)
  · exact s.point_modSoft _ rfl (by omega)

theorem State.withSoft_point_same (n : Nat) (v : Bool) (hn : n < 16) (hlen : s.mgmt.soft.length = 16) :
    (s.withSoft n v).point (240 + n) = v := by
  rw [State.point_soft _ (by omega) (by omega), Nat.add_sub_cancel_left]
  exact (List.getD_eq_getElem?_getD ..).trans (by
    show ((s.mgmt.soft.set n v)[n]?).getD false = v
    rw [List.getElem?_set_self (by omega), Option.getD_some])

theorem State.Quiet.soft_length (h : s.Quiet) : s.mgmt.soft.length = 16 := by
  obtain ⟨-, -, -, -, -, -, -, -, -, -, -, -, -, -, -, -, -, -, -, -, -, hsoft⟩ := h
  exact hsoft

/-- Settles the first part of O57. -/
theorem setPointWritesASoftPoint : Clause.SetPointWritesASoftPoint := by
  intro s l q h
  refine ⟨fun hother => ?_, fun hlow hhigh hvalue => ?_, fun v hlow hhigh hv => ?_⟩
  · exact exec_answered (l := l) (kind := 7) (r := Reply.of .notPermitted) h.1 ((exec_setPoint h).trans (by rw [setPoint_other hother]))
  · exact exec_answered (l := l) (kind := 7) (r := Reply.badArgument argumentB) h.1
      ((exec_setPoint h).trans (by rw [setPoint_value hlow hhigh hvalue]))
  have hexec := exec_setPoint h
  rw [setPoint_written hlow hhigh hv, State.booked_point] at hexec
  have hlen := h.1.soft_length
  obtain ⟨n, hn⟩ := Nat.exists_eq_add_of_le hlow
  have hn16 : n < 16 := by omega
  have hwaits := (s.booked_awaiting l q).waiting
  by_cases hsame : s.point q.argA = v
  · rw [if_pos hsame] at hexec
    obtain ⟨es, b, hend, -, -, hreplies⟩ := hwaits.ends ((s.booked_work l q).trans h.1.1) (s.booked_setpointOf l q) 7 q
      { detailA := q.argA, detailB := if s.point q.argA then 1 else 0 }
    have hsoft : s.mgmt.soft.set (q.argA - 240) v = s.mgmt.soft := by
      rw [State.point_soft _ hlow hhigh] at hsame
      refine List.ext_getElem? fun i => ?_
      rw [List.getElem?_set]
      split
      · next hi =>
        subst hi
        rw [if_pos (by omega), ← hsame, List.getD_eq_getElem?_getD, List.getElem?_eq_getElem (by omega), Option.getD_some]
      · rfl
    refine ⟨_, hexec.trans hend, hreplies, by simp [hsame], fun k _ => by simp, ?_, fun hd => absurd hsame hd, fun _ => by simp,
      (Touches.booked s l q).ended h.1 ((s.booked_work l q).trans h.1.1) (s.booked_setpointOf l q) hend⟩
    rw [hsoft, State.endedWith_mgmt, State.answer_mgmt, State.booked_mgmt]
    rfl
  · rw [if_neg hsame] at hexec
    have hwork : (((s.booked l q).withSoft (q.argA - 240) v).event .management 5 q.argA 1 (some q.argB)).work = [] := by
      rw [State.event_work]
      exact (s.booked_work l q).trans h.1.1
    have hset : ∀ g, (((s.booked l q).withSoft (q.argA - 240) v).event .management 5 q.argA 1 (some q.argB)).setpointOf g =
        s.setpointOf g := fun g => by
      rw [State.event_setpointOf, ← s.booked_setpointOf l q g]
      rfl
    have htouch : Touches [.links, .events, .mgmt] s
        (((s.booked l q).withSoft (q.argA - 240) v).event .management 5 q.argA 1 (some q.argB)) :=
      ((Touches.booked s l q).modMgmt _).event _ _ _ _ _
    have hwaits' : Waiting s (((s.booked l q).withSoft (q.argA - 240) v).event .management 5 q.argA 1 (some q.argB)) :=
      (hwaits.of_links (v := (s.booked l q).withSoft (q.argA - 240) v) rfl rfl).event ..
    obtain ⟨es, b, hend, -, -, hreplies⟩ := hwaits'.ends hwork hset 7 q
      { detailA := q.argA, detailB := if s.point q.argA then 1 else 0 }
    refine ⟨_, hexec.trans hend, hreplies, ?_, fun k hk => ?_, ?_, fun _ => ?_, fun hc => absurd hc hsame,
      htouch.ended h.1 hwork hset hend⟩
    · rw [State.endedWith_point, State.answer_point, State.event_point, hn, Nat.add_sub_cancel_left]
      exact State.withSoft_point_same _ _ hn16 (by rw [State.booked_mgmt]; exact hlen)
    · rw [State.endedWith_point, State.answer_point, State.event_point,
        State.withSoft_point_other _ _ (by omega), State.booked_point]
    · rw [State.endedWith_mgmt, State.answer_mgmt, State.event_mgmt]
      show ({ ({ (s.booked l q).mgmt with soft := (s.booked l q).mgmt.soft.set (q.argA - 240) v } : Management) with
        statusCounts := _ } : Management) = _
      rw [State.booked_mgmt]
      rfl
    · rw [Records, State.endedWith_newest, State.answer_newest, State.event_newest, ← h.1.eventLabel]
      cases l <;> rfl

/-! ### The SOFT points at power-on and in a RESTART (R86, R187, R188) -/

theorem Evolves.mgmt {u : State} (h : Evolves s u) : u.mgmt = s.mgmt := congrArg Rest.mgmt h.rest

/-- A part of a RESTART other than the management unit's own leaves that unit alone. -/
theorem State.restartPart_mgmt {k : Block} (hk : k ≠ .management) : (s.restartPart k).mgmt = s.mgmt := by
  have hr := fun ps => Touches.refl ps s
  cases k with
  | streams =>
    exact ((hr [.intake, .measures]).forEach _ _ fun _ _ hu => hu.enterStream _).stands .mgmt (by decide)
  | protection =>
    exact ((hr [.links, .events, .elements, .breakers]).forEach _ _ fun _ _ hu =>
      (hu.modElement _ _).elementOutputs _ _ _ _ _).stands .mgmt (by decide)
  | breakers => exact Evolves.mgmt (State.restartBreakers_evolves .refl)
  | sequencer => exact Evolves.mgmt (State.restartSeq_evolves .refl)
  | paralleling => exact Evolves.mgmt (State.restartParalleling_evolves .refl)
  | capture =>
    exact ((hr [.links, .events, .capture]).releaseCapture.modCapture (fun c => { c with ring := [] })).stands .mgmt (by decide)
  | management => exact absurd rfl hk

theorem State.restartPart_soft (k : Block) : (s.restartPart k).mgmt.soft = s.mgmt.soft := by
  by_cases hk : k = .management
  · subst hk; rfl
  · rw [State.restartPart_mgmt hk]

theorem State.closeRestart_soft : s.closeRestart.mgmt.soft = s.mgmt.soft := by
  unfold State.closeRestart
  split
  · rw [State.event_mgmt]; rfl
  · rfl

theorem State.blockRestart_soft (k : Block) : (State.blockRestart k s).mgmt.soft = s.mgmt.soft := by
  unfold State.blockRestart
  split
  · rfl
  · split
    · rw [State.closeRestart_soft]
      exact State.restartPart_soft (s := { s with hushed := true }) k
    · rfl

/-- Every SOFT point is 0. -/
def State.SoftClear (s : State) : Prop := s.mgmt.soft = List.replicate 16 false

theorem State.SoftClear.event (h : s.SoftClear) (c : EventClass) (priority object code : Nat) (value : Option Nat) :
    (s.event c priority object code value).SoftClear := by
  rw [State.SoftClear, State.event_mgmt]
  exact h

theorem State.SoftClear.modCapture (h : s.SoftClear) (f : Capture → Capture) : (s.modCapture f).SoftClear := h

theorem State.SoftClear.driveHealthy (h : s.SoftClear) : s.driveHealthy.SoftClear := h

theorem State.SoftClear.resume (h : s.SoftClear) (cs : List Instr) (n : Nat) :
    ({ s with pending := cs, free := n } : State).SoftClear := h

theorem State.fresh_softClear (tables : List Table) (configured : Bool) (image : TableStore) :
    (State.fresh tables configured image).SoftClear := rfl

theorem State.powerOn_softClear (s : State) : s.powerOn.SoftClear := by
  unfold State.powerOn
  dsimp only
  refine State.SoftClear.resume (State.SoftClear.driveHealthy (State.SoftClear.modCapture (State.SoftClear.event ?_ _ _ _ _ _) _)) _ _
  split <;> exact (State.fresh_softClear _ _ _).event ..

/-- Settles the second part of O57. -/
theorem softPointsStartClearAndStay : Clause.SoftPointsStartClearAndStay := by
  refine fun s hs => ⟨⟨_, rfl, fun n hlow hhigh => ?_⟩, fun k => ⟨_, rfl, fun n hlow hhigh => ?_⟩⟩
  · rw [State.point_soft _ hlow hhigh, State.powerOn_softClear, List.getD_eq_getElem?_getD,
      List.getElem?_replicate_of_lt (by omega), Option.getD_some]
  · rw [State.point_soft _ hlow hhigh, State.point_soft _ hlow hhigh, State.settle_mgmt, State.blockRestart_soft]

/-- Settles O57. -/
theorem softPointsAreSet : Obligations.SoftPointsAreSet := ⟨setPointWritesASoftPoint, softPointsStartClearAndStay⟩

end


end Sys2Proof.Machine
end

section
/-! # Capture (O58) -/

namespace Sys2Proof.Machine

/-! ### A trigger of capture (R175) -/

section
variable {s u : State} {l : Link} {q : Request}

/-- The end of a command, not of a request, that leaves no work and moves no setpoint. -/
theorem finish_steady (hw : u.work = []) (hset : ∀ g, u.setpointOf g = s.setpointOf g) (hr : u.risen = []) :
    ∃ es b, finish s u = .next (u.endedWith es b) ∧ b = u.healthyNow ∧
      (u.endedWith es b).capture = { u.capture with edges := u.capture.edges ++ risesOf s (u.endedWith es b) } :=
  ⟨_, _, congrArg Host.Outcome.next (State.settle_steady hw hset), rfl,
    congrArg (fun es => { u.capture with edges := es }) (State.noteEdges_risesOf hr _ _)⟩

theorem State.captureTrigger_idle {p : Nat} (h : p ∉ s.capture.edges) : s.captureTrigger p = s := by
  rw [State.captureTrigger, if_pos (by simpa using h)]

theorem State.captureTrigger_armed {p : Nat} (h : p ∈ s.capture.edges) (he : s.capture.state = .empty)
    (ha : s.captureField 1 = 1) :
    s.captureTrigger p = (s.modCapture (fun c => { c with edges := c.edges.erase p })).captureBegin p := by
  have harmed : s.captureArmed = true := by rw [State.captureArmed, ha]; rfl
  simp [State.captureTrigger, h, he, harmed]

theorem State.captureTrigger_unarmed {p : Nat} (h : p ∈ s.capture.edges) (he : s.capture.state = .empty)
    (ha : s.captureField 1 ≠ 1) : s.captureTrigger p = s.modCapture (fun c => { c with edges := c.edges.erase p }) := by
  have harmed : s.captureArmed = false := by rw [State.captureArmed]; simpa using ha
  simp [State.captureTrigger, h, he, harmed]

theorem State.captureTrigger_refused {p : Nat} (h : p ∈ s.capture.edges) (he : s.capture.state ≠ .empty) :
    s.captureTrigger p = (s.modCapture (fun c =>
      { c with edges := c.edges.erase p, refused := step32 c.refused })).event .capture 4 0 1 (some p) := by
  unfold State.captureTrigger
  rw [if_neg (by simpa using h)]
  dsimp only
  split
  · exact absurd ‹_› he
  · rfl

theorem State.modCapture_setpointOf (f : Capture → Capture) (g : Nat) : (s.modCapture f).setpointOf g = s.setpointOf g := rfl

/-- Capture's own points aside, a change of capture moves no point. -/
theorem State.modCapture_point {f : Capture → Capture} (hf : (f s.capture).state = s.capture.state) (n : Nat) :
    (s.modCapture f).point n = s.point n := by
  have hstate : (s.modCapture f).capture.state = s.capture.state := hf
  unfold State.point
  rw [hstate]
  rfl

theorem State.point_236 (s : State) : s.point 236 = (s.capture.state == .recording) := rfl

/-- The state in which a capture begun by a trigger is recorded. -/
def State.capturing (s : State) (p : Nat) : State :=
  s.modCapture (fun c =>
    let copied := c.ring.drop (c.ring.length - s.captureField 16)
    { c with
      edges := c.edges.erase p
      state := .recording
      buffer := copied
      copied := copied.length
      triggerPoint := some p
      triggerLabel := s.aligner.lastClosed
      triggerIndex := if copied.isEmpty then none else some (copied.length - 1) })

/-- Settles the first part of O58. -/
theorem triggerBeginsACapture : Clause.TriggerBeginsACapture := by
  intro s p hs
  have hexec : exec (.captureTrigger p) s = finish s (s.captureTrigger p) := rfl
  refine ⟨fun hp => ?_, fun hp he ha => ?_, fun hp he ha => ?_, fun hp he => ?_⟩
  · rw [hexec, State.captureTrigger_idle hp]
    exact (RequestFrame.refl s).finish hs
  · rw [State.captureTrigger_armed hp he ha] at hexec
    obtain ⟨es, b, hend, -, hcapture⟩ := finish_steady (s := s) (u := (s.capturing p).event .capture 9 0 2 (some p))
      (by rw [State.event_work]; exact hs.1) (fun g => by rw [State.event_setpointOf]; rfl)
      (by rw [State.event_risen]; exact hs.risen)
    rw [State.event_capture] at hcapture
    refine ⟨_, hexec.trans hend, hcapture.trans ?_, ?_, ?_, hs.only _ (hexec.trans hend)⟩
    · simp [State.capturing]
    · rw [State.point_236, hcapture]
      rfl
    · rw [Records, State.endedWith_newest, State.event_newest, ← hs.eventLabel]
      rfl
  · rw [hexec, State.captureTrigger_unarmed hp he ha]
    exact finish_exact s hs.1 hs.risen hs.closing hs.2.2.1 (fun g => rfl) (fun n => State.modCapture_point (f := _) rfl n) hs.2.2.2.2.1
  · rw [State.captureTrigger_refused hp he] at hexec
    obtain ⟨es, b, hend, -, hcapture⟩ := finish_steady (s := s) (u := (s.modCapture (fun c =>
        { c with edges := c.edges.erase p, refused := step32 c.refused })).event .capture 4 0 1 (some p))
      (by rw [State.event_work]; exact hs.1) (fun g => by rw [State.event_setpointOf]; rfl)
      (by rw [State.event_risen]; exact hs.risen)
    rw [State.event_capture] at hcapture
    refine ⟨_, hexec.trans hend, hcapture, ?_, ?_, hs.only _ (hexec.trans hend)⟩
    · rw [State.point_236, hcapture]
      rfl
    · rw [Records, State.endedWith_newest, State.event_newest, ← hs.eventLabel]
      rfl

/-! ### READ-CAPTURE and RELEASE-CAPTURE (R176) -/

theorem exec_readCapture (h : s.Asked l q) : exec (.readCapture l q) s =
    finish s ((State.readCapture q (s.booked l q)).1.answer (s.ticketFor 9 q) (State.readCapture q (s.booked l q)).2) :=
  congrArg (finish s) (s.serve_asked 9 false _ h)

/-- Settles the second part of O58. -/
theorem readCaptureReturnsRecords : Clause.ReadCaptureReturnsRecords := by
  intro s l q h hone hcount
  have hcounted : ¬ (decide (q.argB < 1) || decide (32 < q.argB)) = true := by simp; omega
  have hexec := exec_readCapture h
  rw [State.readCapture, if_neg hcounted, State.booked_capture] at hexec
  refine ⟨fun he => ?_, fun r rest he hd => ?_⟩
  · rw [if_pos (by rw [he]; rfl)] at hexec
    exact exec_answered (l := l) (kind := 9) (r := Reply.of .notPermitted) h.1 hexec
  · rw [if_neg (by simpa using he)] at hexec
    simp only [hd] at hexec
    exact exec_answered (l := l) (kind := 9) h.1 hexec

/-- The state in which RELEASE-CAPTURE is recorded. -/
def State.releasing (s : State) : State :=
  s.modCapture (fun c =>
    { c with
      state := .empty
      buffer := []
      copied := 0
      triggerPoint := none
      triggerLabel := none
      triggerIndex := none })

theorem exec_releaseCapture (h : s.Asked l q) : exec (.releaseCapture l q) s =
    finish s ((s.booked l q).releaseCapture.answer (s.ticketFor 7 q)
      (some { detailA := s.capture.state.code })) := by
  have hexec : exec (.releaseCapture l q) s = finish s ((s.booked l q).releaseCapture.answer (s.ticketFor 7 q)
      (some { detailA := (s.booked l q).capture.state.code })) :=
    finish_operate h (fun t => (t.releaseCapture, some { detailA := t.capture.state.code }))
  rwa [State.booked_capture] at hexec

theorem State.releaseCapture_empty (h : s.capture.state = .empty) : s.releaseCapture = s := by
  rw [State.releaseCapture, if_pos (by rw [h]; rfl)]

theorem State.releaseCapture_held (h : s.capture.state ≠ .empty) :
    s.releaseCapture = s.releasing.event .capture 5 0 4 (some s.capture.buffer.length) := by
  rw [State.releaseCapture, if_neg (by simpa using h)]
  rfl

/-- Settles the third part of O58. -/
theorem releaseCaptureEmptiesTheBuffer : Clause.ReleaseCaptureEmptiesTheBuffer := by
  intro s l q h
  have hexec := exec_releaseCapture h
  refine ⟨fun n hn => ?_, fun he => ?_⟩
  · have hcode : s.capture.state.code = n := by
      obtain ⟨hstate, rfl⟩ | ⟨hstate, rfl⟩ := hn <;> rw [hstate] <;> rfl
    have hheld : s.capture.state ≠ .empty := by
      obtain ⟨hstate, -⟩ | ⟨hstate, -⟩ := hn <;> rw [hstate] <;> decide
    rw [State.releaseCapture_held (by rwa [State.booked_capture]), State.booked_capture, hcode] at hexec
    set v := (s.booked l q).releasing with hv
    have hwork : (v.event .capture 5 0 4 (some s.capture.buffer.length)).work = [] := by
      rw [State.event_work]; exact (s.booked_work l q).trans h.1.1
    have hset : ∀ g, (v.event .capture 5 0 4 (some s.capture.buffer.length)).setpointOf g = s.setpointOf g := fun g => by
      rw [State.event_setpointOf]; exact s.booked_setpointOf l q g
    have hwaits : Waiting s (v.event .capture 5 0 4 (some s.capture.buffer.length)) :=
      ((s.booked_awaiting l q).waiting.of_links (v := v) rfl rfl).event ..
    have htouch : Touches [.links, .events, .capture, .mgmt] s (v.event .capture 5 0 4 (some s.capture.buffer.length)) :=
      ((Touches.booked s l q).modCapture _).event _ _ _ _ _
    obtain ⟨es, b, hend, -, hcapture', hreplies⟩ := hwaits.ends hwork hset 7 q { detailA := n }
    have hrisen : (v.event .capture 5 0 4 (some s.capture.buffer.length)).risen = [] := by
      rw [State.event_risen]; exact (show v.risen = s.risen by cases l <;> rfl).trans h.1.risen
    have hcapture : v.capture = s.releasing.capture := by rw [hv]; cases l <;> rfl
    have hmgmt : v.mgmt = s.answered .done := s.booked_mgmt l q
    refine ⟨_, hexec.trans hend, hreplies, ?_, ?_, ?_, ?_, htouch.ended h.1 hwork hset hend⟩
    · rw [State.endedWith_point, State.answer_point, State.event_point, State.point_236, hcapture]
      rfl
    · refine (hcapture' hrisen).trans ?_
      rw [State.event_capture, hcapture]
      rfl
    · rw [State.endedWith_mgmt, State.answer_mgmt, State.event_mgmt, hmgmt]
      rfl
    · rw [Records, State.endedWith_newest, State.answer_newest, State.event_newest, ← h.1.eventLabel, hv]
      cases l <;> rfl
  · rw [State.releaseCapture_empty (by rw [State.booked_capture, he]), he] at hexec
    exact exec_answered (l := l) (kind := 7) h.1 hexec

/-- Settles O58. -/
theorem captureBeginsIsReadAndReleased : Obligations.CaptureBeginsIsReadAndReleased :=
  ⟨triggerBeginsACapture, readCaptureReturnsRecords, releaseCaptureEmptiesTheBuffer⟩

end

end Sys2Proof.Machine
end

section
/-! # ACKNOWLEDGE-HALT, CLEAR-STATION-TRIP and unlisted kinds (O59) -/

namespace Sys2Proof.Machine

section
variable {s u : State} {l : Link} {q : Request}

/-! ### ACKNOWLEDGE-HALT (R141) -/

theorem exec_acknowledgeHalt (h : s.Asked l q) : exec (.acknowledgeHalt l q) s = finish s
    ((s.booked l q).acknowledgeHalt.1.answer (s.ticketFor 7 q) (s.booked l q).acknowledgeHalt.2) :=
  finish_operate h State.acknowledgeHalt

theorem State.goLineup_none (hl : s.lines.lockout = false) (hn : s.seq.lineup = .none) :
    s.goLineup = s.setSeqState .noLineup := by
  rw [State.goLineup, if_neg (by simp [hl]), hn]

theorem State.acknowledgeHalt_refused (h : (∀ y, s.seq.state ≠ .halted y) ∨ s.lines.tripLatch = true) :
    s.acknowledgeHalt = (s, some (Reply.of .notPermitted)) := by
  unfold State.acknowledgeHalt
  split
  · next y hy => rw [if_pos (h.resolve_left fun hn => hn y hy)]
  · rfl

theorem State.acknowledgeHalt_halted {y : HaltReason} (hy : s.seq.state = .halted y) (ht : s.lines.tripLatch = false) :
    s.acknowledgeHalt = ((s.event .transfer 7 0 15 none).goLineup, some { detailA := y.code }) := by
  unfold State.acknowledgeHalt
  simp [hy, ht]

/-! ### A new state of the sequencer: what stands -/

@[simp] theorem State.setSeqState_work (x : SeqState) : (s.setSeqState x).work = s.work := rfl
@[simp] theorem State.setSeqState_links (x : SeqState) : (s.setSeqState x).links = s.links := rfl
@[simp] theorem State.setSeqState_ownAddress (x : SeqState) : (s.setSeqState x).ownAddress = s.ownAddress := rfl
@[simp] theorem State.setSeqState_mgmt (x : SeqState) : (s.setSeqState x).mgmt = s.mgmt := rfl
@[simp] theorem State.setSeqState_events (x : SeqState) : (s.setSeqState x).events = s.events := rfl
@[simp] theorem State.setSeqState_newest (x : SeqState) : (s.setSeqState x).newest = s.newest := rfl
@[simp] theorem State.setSeqState_setpointOf (x : SeqState) (g : Nat) : (s.setSeqState x).setpointOf g = s.setpointOf g := rfl
@[simp] theorem State.setSeqState_seq (x : SeqState) : (s.setSeqState x).seq = { s.seq with state := x } := rfl

theorem Records.setSeqState {c : EventClass} {priority object code : Nat} {value : Option Nat}
    (h : Records s u c priority object code value) (x : SeqState) :
    Records s (u.setSeqState x) c priority object code value := by
  rw [Records, State.setSeqState_newest]
  exact h

/-- Settles the first part of O59. -/
theorem acknowledgeLeavesHalted : Clause.AcknowledgeLeavesHalted := by
  intro s l q h
  have hexec := exec_acknowledgeHalt h
  refine ⟨fun y hy ht hl hn => ?_, fun hno => ?_⟩
  · have hgo : ((s.booked l q).event .transfer 7 0 15 none).goLineup =
        ((s.booked l q).event .transfer 7 0 15 none).setSeqState .noLineup :=
      State.goLineup_none (by simpa using hl) (by simpa using hn)
    rw [State.acknowledgeHalt_halted (by simpa using hy) (by simpa using ht), hgo] at hexec
    have hwork : (((s.booked l q).event .transfer 7 0 15 none).setSeqState .noLineup).work = [] := by simp [h.1.1]
    have hset : ∀ g, (((s.booked l q).event .transfer 7 0 15 none).setSeqState .noLineup).setpointOf g = s.setpointOf g :=
      fun g => by simp
    have hwaits : Waiting s (((s.booked l q).event .transfer 7 0 15 none).setSeqState .noLineup) :=
      ((s.booked_awaiting l q).waiting.event .transfer 7 0 15 none).of_links (State.setSeqState_links _)
        (State.setSeqState_ownAddress _)
    have htouch : Touches [.links, .events, .seq, .mgmt] s
        (((s.booked l q).event .transfer 7 0 15 none).setSeqState .noLineup) :=
      (((Touches.booked s l q).event .transfer 7 0 15 none).modSeq _).noting _
    obtain ⟨es, b, hend, -, -, hreplies⟩ := hwaits.ends hwork hset 7 q { detailA := y.code }
    have hrecords := (State.event_records (c := .transfer) (priority := 7) (object := 0) (code := 15) (value := none)
      (u := s.booked l q) h.1 (by simp) (by simp)).setSeqState .noLineup
    refine ⟨_, hexec.trans hend, ?_, by simp, State.ended_answered (by simp) _ _ _ _, State.ended_records hrecords _ _ _ _,
      htouch.ended h.1 hwork hset hend⟩
    cases y <;> exact hreplies
  · rw [State.acknowledgeHalt_refused (by simpa using hno)] at hexec
    exact exec_answered (l := l) (kind := 7) (r := Reply.of .notPermitted) h.1 hexec

/-! ### CLEAR-STATION-TRIP (R93) -/

theorem exec_clearStationTrip (h : s.Asked l q) : exec (.clearStationTrip l q) s = finish s
    ((s.booked l q).clearStationTrip.1.answer (s.ticketFor 7 q) (s.booked l q).clearStationTrip.2) :=
  finish_operate h State.clearStationTrip

/-- Requests to leave sets join the list in the order of the breakers. -/
theorem State.forEach_askRemove (m : Member) (bs : List Nat) : ∀ s : State, s.forEach bs (fun b u => u.askRemove b m) =
    { s with breakers := { s.breakers with requests := s.breakers.requests ++ bs.map (fun b => ⟨false, b, m⟩) } } := by
  induction bs with
  | nil => intro s; simp [State.forEach]
  | cons b bs ih =>
    intro s
    refine (ih (s.askRemove b m)).trans ?_
    simp [State.askRemove]

/-- The breakers whose sets STATION_TRIP is asked to leave. -/
def State.tripHolders (s : State) : List Nat :=
  (List.range 24).filter (fun b => (s.brk b).trips.contains .stationTrip || s.addOutstanding b .stationTrip)

/-- The state in which the clearing of the latch is recorded. -/
def State.unlatched (s : State) : State :=
  { s with
    lines := { s.lines with tripLatch := false }
    breakers := { s.breakers with
      requests := s.breakers.requests ++ s.tripHolders.map (fun b => ⟨false, b, .stationTrip⟩) } }

@[simp] theorem State.unlatched_work : s.unlatched.work = s.work := rfl
@[simp] theorem State.unlatched_links : s.unlatched.links = s.links := rfl
@[simp] theorem State.unlatched_ownAddress : s.unlatched.ownAddress = s.ownAddress := rfl
@[simp] theorem State.unlatched_mgmt : s.unlatched.mgmt = s.mgmt := rfl
@[simp] theorem State.unlatched_events : s.unlatched.events = s.events := rfl
@[simp] theorem State.unlatched_eventLabel : s.unlatched.eventLabel = s.eventLabel := rfl
@[simp] theorem State.unlatched_setpointOf (g : Nat) : s.unlatched.setpointOf g = s.setpointOf g := rfl
@[simp] theorem State.unlatched_lines : s.unlatched.lines = { s.lines with tripLatch := false } := rfl
@[simp] theorem State.unlatched_breakers : s.unlatched.breakers = { s.breakers with
    requests := s.breakers.requests ++ s.tripHolders.map (fun b => ⟨false, b, .stationTrip⟩) } := rfl

theorem State.clearLatch_eq : s.clearLatch = s.unlatched.event .management 8 1 5 none := by
  unfold State.clearLatch
  dsimp only
  rw [State.forEach_askRemove]
  rfl

theorem State.tripHolders_eq : s.tripHolders = (List.range 24).filter (fun b =>
    decide (Member.stationTrip ∈ (s.brk b).trips ∨ ⟨true, b, .stationTrip⟩ ∈ s.breakers.requests)) := by
  refine List.filter_congr fun b _ => ?_
  rw [Bool.decide_or]
  refine congrArg₂ _ (by simp) ?_
  rw [State.addOutstanding, Bool.eq_iff_iff, List.any_eq_true, decide_eq_true_eq]
  constructor
  · rintro ⟨⟨add, b', m⟩, hx, hq⟩
    simp only [Bool.and_eq_true, beq_iff_eq] at hq
    obtain ⟨⟨rfl, rfl⟩, rfl⟩ := hq
    exact hx
  · exact fun hx => ⟨_, hx, by simp⟩

/-- Settles the second part of O59. -/
theorem clearStationTripClearsTheLatch : Clause.ClearStationTripClearsTheLatch := by
  intro s l q h
  have hexec := exec_clearStationTrip h
  refine ⟨fun hp => ?_, fun hp ht => ?_, fun hp ht => ?_⟩
  · have hwork : (s.booked l q).clearStationTrip = (s.booked l q, some (Reply.of .notPermitted)) := by
      simp [State.clearStationTrip, hp]
    rw [hwork] at hexec
    exact exec_answered (l := l) (kind := 7) (r := Reply.of .notPermitted) h.1 hexec
  · have hwork : (s.booked l q).clearStationTrip = (s.booked l q, some { detailA := 0 }) := by
      simp [State.clearStationTrip, hp, ht]
    rw [hwork] at hexec
    exact exec_answered (l := l) (kind := 7) (r := { detailA := 0 }) h.1 hexec
  · have hclear : (s.booked l q).clearStationTrip =
        ((s.booked l q).unlatched.event .management 8 1 5 none, some { detailA := 1 }) := by
      rw [State.clearStationTrip, if_neg (by simp [hp]), if_pos (by simpa using ht), State.clearLatch_eq]
    rw [hclear] at hexec
    have hwork : ((s.booked l q).unlatched.event .management 8 1 5 none).work = [] := by simp [h.1.1]
    have hset : ∀ g, ((s.booked l q).unlatched.event .management 8 1 5 none).setpointOf g = s.setpointOf g := fun g => by
      simp
    have hwaits : Waiting s ((s.booked l q).unlatched.event .management 8 1 5 none) :=
      ((s.booked_awaiting l q).waiting.of_links (State.unlatched_links) (State.unlatched_ownAddress)).event ..
    have htouch : Touches [.links, .events, .lines, .breakers, .mgmt] s
        ((s.booked l q).unlatched.event .management 8 1 5 none) :=
      (((Touches.booked s l q).modLines (fun x => { x with tripLatch := false })).breakers _).event _ _ _ _ _
    obtain ⟨es, b, hend, hb, -, hreplies⟩ := hwaits.ends hwork hset 7 q { detailA := 1 }
    have hrecords : Records s ((s.booked l q).unlatched.event .management 8 1 5 none) .management 8 1 5 none :=
      State.event_records h.1 (by simp) (by simp)
    refine ⟨_, hexec.trans hend, hreplies, ?_, ?_, State.ended_answered (by simp) _ _ _ _,
      State.ended_records hrecords _ _ _ _, htouch.ended h.1 hwork hset hend⟩
    · rw [State.endedWith_lines, State.answer_lines, State.event_lines, State.endedWith_healthyNow, ← hb,
        State.unlatched_lines, State.booked_lines]
    · rw [State.endedWith_breakers, State.answer_breakers, State.event_breakers, State.unlatched_breakers,
        State.tripHolders_eq]
      simp only [State.booked_brk, State.booked_breakers]

/-- Settles the third part of O59. -/
theorem unlistedKindIsInvalid : Clause.UnlistedKindIsInvalid := by
  intro s l q h
  exact exec_answered (l := l) (kind := 7) (r := Reply.badArgument targetArgument) h.1
    (finish_operate h (fun t => (t, some (Reply.badArgument targetArgument))))

/-- Settles O59. -/
theorem haltAndStationTripAreCleared : Obligations.HaltAndStationTripAreCleared :=
  ⟨acknowledgeLeavesHalted, clearStationTripClearsTheLatch, unlistedKindIsInvalid⟩

end

end Sys2Proof.Machine
end

section
/-! # SET-AUTO, START-GENS and STOP-GENS (O55) -/

namespace Sys2Proof.Machine

section
variable {s u : State} {l : Link} {q : Request}

/-! ### A request whose work moves no setpoint -/

/-- The response, the end of the command and what it touches, for work that moves no setpoint and hands on no work. -/
theorem exec_worked {c : Instr} {kind : Nat} {r : Reply} {ps : List StatePart} (hs : s.Quiet) (hwaits : Waiting s u)
    (hw : u.work = []) (hset : ∀ g, u.setpointOf g = s.setpointOf g) (htouch : Touches ps s u)
    (hexec : exec c s = finish s (u.answer (s.ticketFor kind q) (some r))) (hl : .links ∈ ps := by decide)
    (hm : .mgmt ∈ ps := by decide) :
    ∃ es b, exec c s = .next ((u.answer (s.ticketFor kind q) (some r)).endedWith es b) ∧
      Replies s ((u.answer (s.ticketFor kind q) (some r)).endedWith es b) q kind r.status r.detailA r.detailB r.data ∧
      Only ps s ((u.answer (s.ticketFor kind q) (some r)).endedWith es b) := by
  obtain ⟨es, b, hend, -, -, hreplies⟩ := hwaits.ends hw hset kind q r
  exact ⟨es, b, hexec.trans hend, hreplies, htouch.ended hs hw hset hend hl hm⟩

@[simp] theorem State.answer_table (k : Ticket) (r : Reply) (x : TableId) : (u.answer k (some r)).table x = u.table x := by
  rw [State.table, State.table, State.answer_tables']

@[simp] theorem State.answer_fld (k : Ticket) (r : Reply) (x : TableId) (e id : Nat) :
    (u.answer k (some r)).fld x e id = u.fld x e id := by
  rw [State.fld, State.fld, State.answer_tables']

@[simp] theorem State.answer_station (k : Ticket) (r : Reply) (id : Nat) :
    (u.answer k (some r)).station id = u.station id :=
  State.answer_fld k r .station 0 id

/-! ### START-GENS and STOP-GENS (R154) -/

/-- The state in which the demand is written. -/
def State.demanding (s : State) (q : Request) : State :=
  (s.writeDemand q.argA).event .management 7 q.target 8 (some q.argA)

@[simp] theorem State.demanding_work : (s.demanding q).work = s.work := by simp [State.demanding, State.writeDemand]
@[simp] theorem State.demanding_mgmt : (s.demanding q).mgmt = s.mgmt := by simp [State.demanding, State.writeDemand]
@[simp] theorem State.demanding_par : (s.demanding q).par = { s.par with demand := q.argA, demandDue := true } := by
  simp [State.demanding, State.writeDemand]
theorem State.demanding_setpointOf (g : Nat) : (s.demanding q).setpointOf g = s.setpointOf g :=
  State.setpointOf_congr (by rw [State.demanding_par]) (by rw [State.demanding_mgmt]) g

theorem exec_demanding {c : Instr} (h : s.Asked l q)
    (hexec : exec c s = finish s (((s.booked l q).demanding q).answer (s.ticketFor 7 q) (some { detailA := s.par.demand }))) :
    ∃ t, exec c s = .next t ∧ Replies s t q 7 .done s.par.demand 0 [] ∧
      t.par = { s.par with demand := q.argA, demandDue := true } ∧ t.mgmt = s.answered .done ∧
      Records s t .management 7 q.target 8 (some q.argA) ∧ Only [.links, .events, .par, .mgmt] s t := by
  have hrecords : Records s ((s.booked l q).demanding q) .management 7 q.target 8 (some q.argA) :=
    State.event_records h.1 (State.booked_events s l q ▸ rfl) (State.booked_eventLabel s l q)
  have hwaits : Waiting s ((s.booked l q).demanding q) :=
    ((s.booked_awaiting l q).waiting.of_links (v := (s.booked l q).writeDemand q.argA) rfl rfl).event _ _ _ _ _
  have htouch : Touches [.links, .events, .par, .mgmt] s ((s.booked l q).demanding q) :=
    ((Touches.booked s l q).modPar _).event _ _ _ _ _
  obtain ⟨es, b, hend, hreplies, honly⟩ := exec_worked h.1 hwaits
    (State.demanding_work.trans ((s.booked_work l q).trans h.1.1))
    (fun g => (State.demanding_setpointOf g).trans (s.booked_setpointOf l q g)) htouch hexec
  exact ⟨_, hend, hreplies, by simp, State.ended_answered (by simp) _ _ _ _, State.ended_records hrecords _ _ _ _, honly⟩

end

section
variable {s u : State} {l : Link} {q : Request}

theorem startGens_written (hq : q.argA ≤ 8) (hrun : u.run? = none) (ht : u.lines.tripLatch = false)
    (hd : u.par.demand ≤ q.argA) : State.startGens q u = (u.demanding q, some { detailA := u.par.demand }) := by
  rw [State.startGens, if_neg (by omega), hrun, if_neg (by simp), if_neg (by simp [ht, hd])]
  rfl

theorem startGens_refused (hq : q.argA ≤ 8) (hrun : u.run? = none) (h : u.lines.tripLatch = true ∨ q.argA < u.par.demand) :
    State.startGens q u = (u, some (Reply.of .notPermitted)) := by
  rw [State.startGens, if_neg (by omega), hrun, if_neg (by simp), if_pos (by simpa using h)]

theorem stopGens_written (hq : q.argA ≤ 8) (hrun : u.run? = none) (hd : q.argA ≤ u.par.demand) :
    State.stopGens q u = (u.demanding q, some { detailA := u.par.demand }) := by
  rw [State.stopGens, if_neg (by omega), hrun, if_neg (by simp), if_neg (by omega)]
  rfl

theorem stopGens_refused (hq : q.argA ≤ 8) (hrun : u.run? = none) (hd : u.par.demand < q.argA) :
    State.stopGens q u = (u, some (Reply.of .notPermitted)) := by
  rw [State.stopGens, if_neg (by omega), hrun, if_neg (by simp), if_pos hd]

/-- Settles the second part of O55. -/
theorem operatorWritesTheDemand : Clause.OperatorWritesTheDemand := by
  intro s l q h hq hrun
  have hrun' : (s.booked l q).run? = none := (s.booked_run l q).trans hrun
  have hstart : exec (.startGens l q) s = finish s ((State.startGens q (s.booked l q)).1.answer (s.ticketFor 7 q)
    (State.startGens q (s.booked l q)).2) := finish_operate h (State.startGens q)
  have hstop : exec (.stopGens l q) s = finish s ((State.stopGens q (s.booked l q)).1.answer (s.ticketFor 7 q)
    (State.stopGens q (s.booked l q)).2) := finish_operate h (State.stopGens q)
  refine ⟨fun ht hd => ?_, fun href => ?_, fun hd => ?_, fun hd => ?_⟩
  · rw [startGens_written hq hrun' (by simpa using ht) (by simpa using hd), State.booked_par] at hstart
    exact exec_demanding h hstart
  · rw [startGens_refused hq hrun' (by simpa using href)] at hstart
    exact exec_answered (l := l) (kind := 7) (r := Reply.of .notPermitted) h.1 hstart
  · rw [stopGens_written hq hrun' (by simpa using hd), State.booked_par] at hstop
    exact exec_demanding h hstop
  · rw [stopGens_refused hq hrun' (by simpa using hd)] at hstop
    exact exec_answered (l := l) (kind := 7) (r := Reply.of .notPermitted) h.1 hstop

end

/-! ### SET-AUTO (R138) -/

section
variable {s : State} {l : Link} {q : Request}

/-- An entry with one field written. -/
def Entry.written (e : Entry) (id v : Nat) : Entry := e.map (fun f => if f.1 == id then (id, v) else f)

theorem Entry.written_get_same (e : Entry) (id v : Nat) (h : ∃ w, (id, w) ∈ e) : (e.written id v).get id = v := by
  obtain ⟨w, hw⟩ := h
  have hlookup : (e.written id v).lookup id = some v := by
    induction e with
    | nil => cases hw
    | cons f e ih =>
      by_cases hf : f.1 = id
      · simp [Entry.written, hf]
      · have hmem : (id, w) ∈ e := (List.mem_cons.1 hw).resolve_left fun heq => hf (by rw [← heq])
        have hne : (id == f.1) = false := by simpa using fun heq => hf heq.symm
        have hrest := ih hmem
        simp only [Entry.written, beq_iff_eq] at hrest
        simp [Entry.written, hf, List.lookup, hne, hrest]
  rw [Entry.get, hlookup]
  rfl

theorem Entry.written_get_other (e : Entry) {id k : Nat} (v : Nat) (h : k ≠ id) : (e.written id v).get k = e.get k := by
  have hlookup : (e.written id v).lookup k = e.lookup k := by
    induction e with
    | nil => rfl
    | cons f e ih =>
      simp only [Entry.written, beq_iff_eq] at ih
      by_cases hf : f.1 = id
      · have hne : (k == id) = false := by simpa using h
        simp [Entry.written, hf, List.lookup, hne, ih]
      · cases hk : k == f.1 <;> simp [Entry.written, hf, List.lookup, hk, ih]
  rw [Entry.get, hlookup]
  rfl

theorem State.setTable_table_same (hlen : s.mgmt.tables.length = 13) (x : TableId) (new : Table) :
    (s.setTable x new).table x = new := by
  have hx : x.number < s.mgmt.tables.length := by cases x <;> simp [TableId.number, hlen]
  simp [State.table, State.setTable, State.modMgmt, hx]

theorem State.setTable_table_other {x y : TableId} (new : Table) (h : y ≠ x) : (s.setTable x new).table y = s.table y := by
  have hne : x.number ≠ y.number := by cases x <;> cases y <;> simp [TableId.number] at h ⊢
  simp [State.table, State.setTable, State.modMgmt, hne]

theorem State.fld_table (x : TableId) (e id : Nat) : s.fld x e id = Entry.get ((s.table x).getD e []) id := rfl

theorem State.setTable_fld_other {x y : TableId} (new : Table) (h : y ≠ x) (e id : Nat) :
    (s.setTable x new).fld y e id = s.fld y e id := by
  rw [State.fld_table, State.fld_table, State.setTable_table_other new h]

section
variable {e : Entry} (hlen : s.mgmt.tables.length = 13) (he : s.table .station = [e])
include hlen he

theorem State.withStationField_table (id v : Nat) : (s.withStationField id v).table .station = [e.written id v] := by
  rw [State.withStationField, State.setTable_table_same hlen, he]
  rfl

theorem State.withStationField_station_same (id v : Nat) (h : ∃ w, (id, w) ∈ e) : (s.withStationField id v).station id = v := by
  rw [State.station, State.fld_table, State.withStationField_table hlen he]
  exact e.written_get_same id v h

theorem State.withStationField_station_other {id k : Nat} (v : Nat) (h : k ≠ id) :
    (s.withStationField id v).station k = s.station k := by
  rw [State.station, State.fld_table, State.withStationField_table hlen he, State.station, State.fld_table, he]
  exact e.written_get_other v h

end

/-- Outside IDLE the rules are not examined. -/
theorem State.recomputeAuto_eq (h : ∀ k, s.seq.state ≠ .idle k) :
    s.recomputeAuto = s.modSeq (fun q => { q with autoEffective := s.station 10 == 1 && !s.lines.lockout }) := by
  unfold State.recomputeAuto State.evaluateRules
  dsimp only
  split
  · split
    · next k hk => exact absurd hk (h k)
    · rfl
  · rfl

/-- The state in which a changed field is recorded and AUTO_TRANSFER_EFFECTIVE recomputed. -/
def State.autoSet (s : State) (v : Nat) : State := (s.event .transfer 7 0 11 (some v)).recomputeAuto

theorem setAuto_invalid {u : State} (h : 1 < q.argA) : State.setAuto q u = (u, some (Reply.badArgument argumentA)) := by
  rw [State.setAuto, if_pos h]

theorem setAuto_same {u : State} (h : q.argA ≤ 1) (hs : u.station 10 = q.argA) :
    State.setAuto q u = (u.withStationField 10 q.argA, some { detailA := u.station 10 }) := by
  rw [State.setAuto, if_neg (by omega)]
  simp [hs]

theorem setAuto_changed {u : State} (h : q.argA ≤ 1) (hs : u.station 10 ≠ q.argA) :
    State.setAuto q u = ((u.withStationField 10 q.argA).autoSet q.argA, some { detailA := u.station 10 }) := by
  rw [State.setAuto, if_neg (by omega)]
  simp [hs, State.autoSet]

@[simp] theorem State.withStationField_work (id v : Nat) : (s.withStationField id v).work = s.work := rfl
@[simp] theorem State.withStationField_links (id v : Nat) : (s.withStationField id v).links = s.links := rfl
@[simp] theorem State.withStationField_lines (id v : Nat) : (s.withStationField id v).lines = s.lines := rfl
@[simp] theorem State.withStationField_seq (id v : Nat) : (s.withStationField id v).seq = s.seq := rfl
@[simp] theorem State.withStationField_par (id v : Nat) : (s.withStationField id v).par = s.par := rfl
@[simp] theorem State.withStationField_events (id v : Nat) : (s.withStationField id v).events = s.events := rfl
@[simp] theorem State.withStationField_eventLabel (id v : Nat) : (s.withStationField id v).eventLabel = s.eventLabel := rfl

theorem State.withStationField_setpointOf (id v g : Nat) : (s.withStationField id v).setpointOf g = s.setpointOf g := by
  have hconfigured : (s.withStationField id v).genConfigured g = s.genConfigured g :=
    congrArg (· == 1) (State.setTable_fld_other _ (by decide) g 1)
  unfold State.setpointOf
  rw [hconfigured]
  rfl

theorem Touches.autoSet {ps : List StatePart} {u : State} (h : Touches ps s u) (v : Nat) (hn : ∀ k, u.seq.state ≠ .idle k)
    (hl : .links ∈ ps := by decide) (he : .events ∈ ps := by decide) (hs : .seq ∈ ps := by decide) :
    Touches ps s (u.autoSet v) := by
  rw [State.autoSet, State.recomputeAuto_eq (by simpa using hn)]
  exact (h.event _ _ _ _ _ hl he).modSeq _ hs

section
variable {u : State} (hn : ∀ k, u.seq.state ≠ .idle k)
include hn

theorem State.autoSet_eq (v : Nat) : u.autoSet v =
    (u.event .transfer 7 0 11 (some v)).modSeq (fun q => { q with autoEffective := u.station 10 == 1 && !u.lines.lockout }) := by
  rw [State.autoSet, State.recomputeAuto_eq (by simpa using hn)]
  simp

theorem State.autoSet_records (v : Nat) (hs : s.Quiet) (he : u.events.nextSeq = s.events.nextSeq)
    (hl : u.eventLabel = s.eventLabel) : Records s (u.autoSet v) .transfer 7 0 11 (some v) := by
  rw [State.autoSet_eq hn]
  exact State.event_records hs he hl

theorem Waiting.autoSet (v : Nat) (h : Waiting s u) : Waiting s (u.autoSet v) := by
  rw [State.autoSet_eq hn]
  exact (h.event _ _ _ _ _).of_links rfl rfl

theorem State.autoSet_work (v : Nat) : (u.autoSet v).work = u.work := by
  rw [State.autoSet_eq hn]
  exact State.event_work _ _ _ _ _ _

theorem State.autoSet_mgmt (v : Nat) : (u.autoSet v).mgmt = u.mgmt := by
  rw [State.autoSet_eq hn]
  exact State.event_mgmt _ _ _ _ _ _

theorem State.autoSet_par (v : Nat) : (u.autoSet v).par = u.par := by
  rw [State.autoSet_eq hn]
  exact State.event_par _ _ _ _ _ _

theorem State.autoSet_table (v : Nat) (x : TableId) : (u.autoSet v).table x = u.table x := by
  rw [State.table, State.table, State.autoSet_mgmt hn]

theorem State.autoSet_station (v id : Nat) : (u.autoSet v).station id = u.station id := by
  rw [State.station, State.station, State.fld, State.fld, State.autoSet_mgmt hn]

theorem State.autoSet_seq (v : Nat) : (u.autoSet v).seq =
    { u.seq with autoEffective := u.station 10 == 1 && !u.lines.lockout } := by
  rw [State.autoSet_eq hn]
  simp [State.modSeq]

end

end

section
variable {s : State} {l : Link} {q : Request}

/-- Settles the first part of O55. -/
theorem setAutoWritesTheField : Clause.SetAutoWritesTheField := by
  intro s l q e h
  have hexec : exec (.setAuto l q) s = finish s ((State.setAuto q (s.booked l q)).1.answer (s.ticketFor 7 q)
    (State.setAuto q (s.booked l q)).2) := finish_operate h (State.setAuto q)
  refine ⟨fun hq => ?_, fun hq htable hfield hidle => ?_⟩
  · rw [setAuto_invalid hq] at hexec
    exact exec_answered (l := l) (kind := 7) (r := Reply.badArgument argumentA) h.1 hexec
  have hlen : (s.booked l q).mgmt.tables.length = 13 := by rw [State.booked_mgmt]; exact h.1.tables_length
  have he : (s.booked l q).table .station = [e] := by simpa using htable
  have hnidle : ∀ k, ((s.booked l q).withStationField 10 q.argA).seq.state ≠ .idle k := by simpa using hidle
  have hown : ((s.booked l q).withStationField 10 q.argA).ownAddress = (s.booked l q).ownAddress :=
    State.withStationField_station_other hlen he q.argA (by decide)
  have hwaits : Waiting s ((s.booked l q).withStationField 10 q.argA) :=
    (s.booked_awaiting l q).waiting.of_links (State.withStationField_links _ _) hown
  have htouch : Touches [.links, .events, .seq, .mgmt] s ((s.booked l q).withStationField 10 q.argA) :=
    (Touches.booked s l q).setTable .station _
  have hwork : ((s.booked l q).withStationField 10 q.argA).work = [] := (s.booked_work l q).trans h.1.1
  have hset : ∀ g, ((s.booked l q).withStationField 10 q.argA).setpointOf g = s.setpointOf g := fun g =>
    (State.withStationField_setpointOf _ _ g).trans (s.booked_setpointOf l q g)
  have hten : ((s.booked l q).withStationField 10 q.argA).station 10 = q.argA :=
    State.withStationField_station_same hlen he 10 q.argA hfield
  have hothers : ∀ id, id ≠ 10 → ((s.booked l q).withStationField 10 q.argA).station id = s.station id := fun id hid =>
    (State.withStationField_station_other hlen he q.argA hid).trans (s.booked_station l q id)
  have htables : ∀ x, x ≠ TableId.station → ((s.booked l q).withStationField 10 q.argA).table x = s.table x := fun x hx =>
    (State.setTable_table_other _ hx).trans (s.booked_table l q x)
  by_cases hsame : s.station 10 = q.argA
  · rw [setAuto_same hq ((s.booked_station l q 10).trans hsame), State.booked_station] at hexec
    obtain ⟨es, b, hend, hreplies, honly⟩ := exec_worked h.1 hwaits hwork hset htouch hexec
    exact ⟨_, hend, hreplies, by simpa using hten, fun id hid => by simpa using hothers id hid,
      fun x hx => by simpa using htables x hx, fun hd => absurd hsame hd, fun _ => by simp, honly⟩
  · rw [setAuto_changed hq (by simpa using hsame), State.booked_station] at hexec
    dsimp only at hexec
    have hset' : ∀ g, (((s.booked l q).withStationField 10 q.argA).autoSet q.argA).setpointOf g = s.setpointOf g := fun g =>
      (State.setpointOf_congr (by rw [State.autoSet_par hnidle]) (by rw [State.autoSet_mgmt hnidle]) g).trans (hset g)
    have htouch' : Touches [.links, .events, .seq, .mgmt] s (((s.booked l q).withStationField 10 q.argA).autoSet q.argA) :=
      htouch.autoSet q.argA hnidle
    obtain ⟨es, b, hend, hreplies, honly⟩ := exec_worked h.1 (hwaits.autoSet hnidle q.argA)
      ((State.autoSet_work hnidle _).trans hwork) hset' htouch' hexec
    refine ⟨_, hend, hreplies, ?_, ?_, ?_, fun _ => ⟨State.ended_records (State.autoSet_records hnidle _ h.1 (by simp) (by simp))
      _ _ _ _, ?_⟩, fun hs => absurd hs hsame, honly⟩
    · rw [State.endedWith_station, State.answer_station, State.autoSet_station hnidle, hten]
    · intro id hid
      rw [State.endedWith_station, State.answer_station, State.autoSet_station hnidle, hothers id hid]
    · intro x hx
      rw [State.endedWith_table, State.answer_table, State.autoSet_table hnidle, htables x hx]
    · rw [State.endedWith_seq, State.answer_seq, State.autoSet_seq hnidle, hten]
      simp [beq_eq_decide]

/-- Settles O55. -/
theorem operatorWritesAutoAndDemand : Obligations.OperatorWritesAutoAndDemand :=
  ⟨setAutoWritesTheField, operatorWritesTheDemand⟩

end

end Sys2Proof.Machine
end

section
/-! # Work handed on, and RUN-PLAN (O54) -/

namespace Sys2Proof.Machine

/-! ### Work handed on, piece by piece -/

/-- `v` is what the work of `u` leads to in `n` pieces. -/
inductive Drains : Nat → State → State → Prop
  | done {u : State} (h : u.work = []) : Drains 0 u u
  | piece {n : Nat} {u v : State} {w : Work} {ws : List Work} (h : u.work = w :: ws)
      (hrest : Drains n { State.handle { u with work := [] } w with
        work := (State.handle { u with work := [] } w).work ++ ws } v) : Drains (n + 1) u v

namespace Drains
variable {n : Nat} {s u v : State}

theorem work (h : Drains n u v) : v.work = [] := by
  induction h with
  | done h => exact h
  | piece _ _ ih => exact ih

theorem drain (h : Drains n u v) (m : Nat) : State.drain (n + m) u = v := by
  induction h with
  | done h => exact State.drain_of_none _ h
  | @piece n u v w ws h _ ih =>
    rw [Nat.succ_add]
    exact (State.drain_cons _ _ h).trans ih

/-- A command ends as its work does. -/
theorem settle (h : Drains n u v) (hn : n ≤ Config.workBound := by decide) : State.settle s u = State.settle s v := by
  have hdrain : State.drain Config.workBound u = State.drain Config.workBound v := by
    obtain ⟨m, hm⟩ := Nat.exists_eq_add_of_le hn
    rw [State.drain_of_none _ h.work, hm, h.drain m]
  unfold State.settle
  rw [hdrain]

/-- The last piece of work. -/
theorem last {w : Work} (h : u.work = [w]) (hrest : Drains n (State.handle { u with work := [] } w) v) : Drains (n + 1) u v :=
  .piece h (by rw [List.append_nil]; exact hrest)

end Drains

section
variable {s u : State}

/-! ### The first step of a plan (R127, R132) -/

/-- A WAIT_TIME step begins: it waits (R128, R132). -/
theorem State.beginStep_waitTime {p : Nat} {c : Cause} (hrun : u.seq.state = .running { plan := p, cause := c })
    (hdef : u.fld .plan p 5 ≠ 0) (hkind : u.stepField p 0 0 = 6) :
    u.beginStep = u.modSeq (fun q => { q with state := .running { plan := p, cause := c, wait := .time } }) := by
  have hrun? : u.run? = some { plan := p, cause := c } := by rw [State.run?, hrun]
  have hkind' : ∀ f, (u.modRun f).stepField p 0 0 = 6 := fun f => hkind
  unfold State.beginStep
  rw [hrun?]
  dsimp only
  rw [if_neg (by omega), if_neg (by simp), State.beginKind]
  dsimp only
  rw [hkind']
  simp [State.setWait, State.modRun, State.modSeq, hrun]

/-- The state of the sequencer once a plan that begins with a WAIT_TIME step has started. -/
def Sequencer.waiting (q : Sequencer) (p : Nat) (c : Cause) : Sequencer :=
  { q with state := .running { plan := p, cause := c, wait := .time }, lastPlan := some p }

/-- The work that the start of such a plan hands on. -/
theorem Drains.begun {p : Nat} {c : Cause} (hw : u.work = [.seqBegin])
    (hrun : u.seq = { u.seq with state := .running { plan := p, cause := c }, lastPlan := some p })
    (hdef : u.fld .plan p 5 ≠ 0) (hkind : u.stepField p 0 0 = 6) :
    Drains 1 u { u with work := [], seq := u.seq.waiting p c } := by
  have hstate : u.seq.state = .running { plan := p, cause := c } := congrArg Sequencer.state hrun
  have hbegin : State.handle { u with work := [] } .seqBegin = { u with work := [], seq := u.seq.waiting p c } := by
    refine (State.beginStep_waitTime (u := { u with work := [] }) hstate hdef hkind).trans ?_
    show { u with work := [], seq := _ } = _
    rw [hrun]
    rfl
  exact .last hw (by rw [hbegin]; exact .done rfl)

/-- The state in which the sequencer has taken a plan up. -/
def State.planTaken (u : State) (p : Nat) (c : Cause) : State :=
  (u.modSeq (fun q => { q with lastPlan := some p })).setSeqState (.running { plan := p, cause := c })

/-- The state in which the start of a plan is recorded. -/
def State.planRecorded (u : State) (p : Nat) (c : Cause) : State := (u.planTaken p c).event .transfer 10 p 3 (some c.value)

/-- The state in which a plan that begins with a WAIT_TIME step has started. -/
def State.planStarted (u : State) (p : Nat) (c : Cause) : State :=
  (u.planRecorded p c).modSeq (fun _ => u.seq.waiting p c)

section
variable (u : State) (p : Nat) (c : Cause)

@[simp] theorem State.planTaken_work : (u.planTaken p c).work = u.work := rfl
@[simp] theorem State.planTaken_links : (u.planTaken p c).links = u.links := rfl
@[simp] theorem State.planTaken_ownAddress : (u.planTaken p c).ownAddress = u.ownAddress := rfl
@[simp] theorem State.planTaken_mgmt : (u.planTaken p c).mgmt = u.mgmt := rfl
@[simp] theorem State.planTaken_par : (u.planTaken p c).par = u.par := rfl
@[simp] theorem State.planTaken_lines : (u.planTaken p c).lines = u.lines := rfl
@[simp] theorem State.planTaken_breakers : (u.planTaken p c).breakers = u.breakers := rfl
@[simp] theorem State.planTaken_events : (u.planTaken p c).events = u.events := rfl
@[simp] theorem State.planTaken_eventLabel : (u.planTaken p c).eventLabel = u.eventLabel := rfl
@[simp] theorem State.planTaken_seq : (u.planTaken p c).seq =
    { u.seq with state := .running { plan := p, cause := c }, lastPlan := some p } := rfl

@[simp] theorem State.planRecorded_work : (u.planRecorded p c).work = u.work := by simp [State.planRecorded]
@[simp] theorem State.planRecorded_mgmt : (u.planRecorded p c).mgmt = u.mgmt := by simp [State.planRecorded]
@[simp] theorem State.planRecorded_par : (u.planRecorded p c).par = u.par := by simp [State.planRecorded]
@[simp] theorem State.planRecorded_lines : (u.planRecorded p c).lines = u.lines := by simp [State.planRecorded]
@[simp] theorem State.planRecorded_breakers : (u.planRecorded p c).breakers = u.breakers := by simp [State.planRecorded]
@[simp] theorem State.planRecorded_seq : (u.planRecorded p c).seq =
    { u.seq with state := .running { plan := p, cause := c }, lastPlan := some p } := by simp [State.planRecorded]
@[simp] theorem State.planRecorded_fld (x : TableId) (e id : Nat) : (u.planRecorded p c).fld x e id = u.fld x e id := by
  rw [State.fld, State.fld, State.planRecorded_mgmt]

@[simp] theorem State.planStarted_seq : (u.planStarted p c).seq = u.seq.waiting p c := rfl
@[simp] theorem State.planStarted_work : (u.planStarted p c).work = u.work := u.planRecorded_work p c
@[simp] theorem State.planStarted_mgmt : (u.planStarted p c).mgmt = u.mgmt := u.planRecorded_mgmt p c
@[simp] theorem State.planStarted_par : (u.planStarted p c).par = u.par := u.planRecorded_par p c
@[simp] theorem State.planStarted_lines : (u.planStarted p c).lines = u.lines := u.planRecorded_lines p c
@[simp] theorem State.planStarted_breakers : (u.planStarted p c).breakers = u.breakers := u.planRecorded_breakers p c
@[simp] theorem State.planStarted_setpointOf (g : Nat) : (u.planStarted p c).setpointOf g = u.setpointOf g :=
  State.setpointOf_congr (by rw [State.planStarted_par]) (by rw [State.planStarted_mgmt]) g

variable {u p c}

theorem State.planRecorded_records (hs : s.Quiet) (he : u.events.nextSeq = s.events.nextSeq)
    (hl : u.eventLabel = s.eventLabel) : Records s (u.planRecorded p c) .transfer 10 p 3 (some c.value) :=
  State.event_records (u := u.planTaken p c) hs ((congrArg (·.nextSeq) (u.planTaken_events p c)).trans he)
    ((u.planTaken_eventLabel p c).trans hl)

theorem State.modSeq_newest (f : Sequencer → Sequencer) : (s.modSeq f).newest = s.newest := rfl

theorem State.planStarted_newest : (u.planStarted p c).newest = (u.planRecorded p c).newest :=
  State.modSeq_newest _

theorem State.planStarted_records (hs : s.Quiet) (he : u.events.nextSeq = s.events.nextSeq)
    (hl : u.eventLabel = s.eventLabel) : Records s (u.planStarted p c) .transfer 10 p 3 (some c.value) := by
  rw [Records, State.planStarted_newest]
  exact State.planRecorded_records hs he hl

theorem Touches.planRecorded {ps : List StatePart} (h : Touches ps s u) (hl : .links ∈ ps)
    (he : .events ∈ ps) (hs : .seq ∈ ps) : Touches ps s (u.planRecorded p c) := by
  have htaken : Touches ps s (u.planTaken p c) := ((h.modSeq _ hs).modSeq _ hs).noting _ hs
  exact htaken.event _ _ _ _ _ hl he

theorem Touches.planStarted {ps : List StatePart} (h : Touches ps s u) (hl : .links ∈ ps := by decide)
    (he : .events ∈ ps := by decide) (hs : .seq ∈ ps := by decide) : Touches ps s (u.planStarted p c) :=
  (h.planRecorded hl he hs).modSeq _ hs

theorem Waiting.planStarted (h : Waiting s u) : Waiting s (u.planStarted p c) := by
  have hrecorded : Waiting s (u.planRecorded p c) :=
    (h.of_links (u.planTaken_links p c) (u.planTaken_ownAddress p c)).event _ _ _ _ _
  exact hrecorded.of_links (State.modSeq_links _ _) rfl

theorem State.startPlan_eq : u.startPlan p c = (u.planRecorded p c).post .seqBegin := rfl

/-- What such a plan's start leads to. -/
theorem Drains.startPlan (hw : u.work = []) (hdef : u.fld .plan p 5 ≠ 0) (hkind : u.stepField p 0 0 = 6) :
    Drains 1 (u.startPlan p c) (u.planStarted p c) := by
  have hwork : (u.planRecorded p c).work = [] := (u.planRecorded_work p c).trans hw
  have hposted : u.startPlan p c = { u.planRecorded p c with work := [.seqBegin] } := by
    rw [State.startPlan_eq, State.post, hwork, List.nil_append]
  have hwaiting : u.planStarted p c =
      { u.planRecorded p c with work := [], seq := (u.planRecorded p c).seq.waiting p c } := by
    rw [State.planStarted, State.modSeq, State.planRecorded_seq, ← hwork]
    rfl
  rw [hposted, hwaiting]
  exact .begun rfl (by dsimp only; rw [State.planRecorded_seq]) ((u.planRecorded_fld p c _ _ _).trans_ne hdef)
    ((u.planRecorded_fld p c _ _ _).trans hkind)

theorem State.startPlan_seq : (u.startPlan p c).seq =
    { u.seq with state := .running { plan := p, cause := c }, lastPlan := some p } := u.planRecorded_seq p c

theorem State.answer_waiting (k : Ticket) (r : Reply) : { (u.startPlan p c).answer k (some r) with
    work := u.work, seq := ((u.startPlan p c).answer k (some r)).seq.waiting p c } = (u.planStarted p c).answer k (some r) := by
  have hwork : (u.planStarted p c).work = u.work := u.planStarted_work p c
  have hseq : (u.startPlan p c).seq.waiting p c = u.seq.waiting p c := by rw [State.startPlan_seq]; rfl
  rw [State.answer_seq, hseq]
  simp only [State.answer, State.respond_eq, ← hwork]
  rfl

/-- The same of a request that has started the plan. -/
theorem State.begun_answered (hw : u.work = []) (hdef : u.fld .plan p 5 ≠ 0) (hkind : u.stepField p 0 0 = 6) (k : Ticket)
    (r : Reply) :
    finish s ((u.startPlan p c).answer k (some r)) = finish s ((u.planStarted p c).answer k (some r)) := by
  have hfld : ∀ id, ((u.startPlan p c).answer k (some r)).fld .plan p id = u.fld .plan p id := fun id =>
    (State.answer_fld ..).trans (u.planRecorded_fld p c ..)
  have hposted : ((u.startPlan p c).answer k (some r)).work = [.seqBegin] := by
    rw [State.answer_work, State.startPlan_eq, State.post, State.planRecorded_work, hw, List.nil_append]
  have hdrains := Drains.begun (p := p) (c := c) hposted (by
    rw [State.answer_seq, State.startPlan_seq]) ((hfld 5).trans_ne hdef) ((hfld _).trans hkind)
  rw [← State.answer_waiting, hw]
  exact congrArg Host.Outcome.next hdrains.settle

end

end

/-! ### RUN-PLAN (R141) -/

section
variable {s u : State} {l : Link} {q : Request}

theorem runPlan_number (h : 16 ≤ q.argA) : State.runPlan q u = (u, some (Reply.badArgument argumentA)) := by
  rw [State.runPlan, if_pos h]

/-- The reply of RUN-PLAN in the states that start no plan. -/
def SeqState.runReply : SeqState → Option Reply
  | .lockedOut => some (Reply.of .locked)
  | .running _ => some (Reply.of .busy)
  | .init => some (Reply.of .notPermitted)
  | .halted _ => some (Reply.of .notPermitted)
  | _ => none

theorem runPlan_state {r : Reply} (h : q.argA < 16) (hs : u.seq.state.runReply = some r) :
    State.runPlan q u = (u, some r) := by
  rw [State.runPlan, if_neg (by omega)]
  split <;> simp_all [SeqState.runReply]

theorem runPlan_ready (h : q.argA < 16) (hs : (∃ k, u.seq.state = .idle k) ∨ u.seq.state = .noLineup) :
    State.runPlan q u = if u.planDefined q.argA && u.planFrom q.argA then
      (u.startPlan q.argA .operator, some (Reply.of .done)) else (u, some (Reply.of .notPermitted)) := by
  rw [State.runPlan, if_neg (by omega)]
  obtain ⟨k, hk⟩ | hk := hs <;> rw [hk]

/-- Settles O54. -/
theorem runPlanStartsAPlan : Obligations.RunPlanStartsAPlan := by
  intro s l q h
  have hexec : exec (.runPlan l q) s = finish s ((State.runPlan q (s.booked l q)).1.answer (s.ticketFor 7 q)
    (State.runPlan q (s.booked l q)).2) := finish_operate h (State.runPlan q)
  have hstate : ∀ r, q.argA < 16 → s.seq.state.runReply = some r → ∃ t, exec (.runPlan l q) s = .next t ∧
      Replies s t q 7 r.status r.detailA r.detailB r.data ∧ t.mgmt = s.answered r.status ∧ Only [.links, .mgmt] s t :=
    fun r hq hr => by
      rw [runPlan_state hq (by rw [State.booked_seq]; exact hr)] at hexec
      exact exec_answered h.1 hexec
  refine ⟨fun hq => ?_, fun hq hs => ?_, fun r hq hs => ?_, fun y hq hs => ?_, fun hq hs => ?_, fun hq hs hno => ?_,
    fun hq hs hdef hfrom hkind => ?_⟩
  · rw [runPlan_number hq] at hexec
    exact exec_answered (l := l) (kind := 7) (r := Reply.badArgument argumentA) h.1 hexec
  · exact hstate (Reply.of .locked) hq (by rw [hs]; rfl)
  · exact hstate (Reply.of .busy) hq (by rw [hs]; rfl)
  · exact hstate (Reply.of .notPermitted) hq (by rw [hs]; rfl)
  · exact hstate (Reply.of .notPermitted) hq (by rw [hs]; rfl)
  · have hplan : ¬ ((s.booked l q).planDefined q.argA && (s.booked l q).planFrom q.argA) = true := by
      simp only [State.planDefined, State.planFrom, State.booked_fld, State.booked_seq]
      obtain hz | ⟨hany, hcur⟩ := hno <;> simp_all
    rw [runPlan_ready hq (by rw [State.booked_seq]; exact hs), if_neg hplan] at hexec
    exact exec_answered (l := l) (kind := 7) (r := Reply.of .notPermitted) h.1 hexec
  · have hplan : ((s.booked l q).planDefined q.argA && (s.booked l q).planFrom q.argA) = true := by
      simp only [State.planDefined, State.planFrom, State.booked_fld, State.booked_seq]
      obtain hany | hcur := hfrom <;> simp_all
    have hready : (∃ k, (s.booked l q).seq.state = .idle k) ∨ (s.booked l q).seq.state = .noLineup := by
      rw [State.booked_seq]
      exact hs.imp_right (·.1)
    rw [runPlan_ready hq hready, if_pos hplan] at hexec
    dsimp only at hexec
    have hwork : (s.booked l q).work = [] := (s.booked_work l q).trans h.1.1
    rw [State.begun_answered hwork (by simpa using hdef) (by simpa [State.stepField] using hkind)] at hexec
    have htouch : Touches [.links, .events, .seq, .mgmt] s ((s.booked l q).planStarted q.argA .operator) :=
      (Touches.booked s l q).planStarted
    obtain ⟨es, b, hend, hreplies, honly⟩ := exec_worked h.1 (s.booked_awaiting l q).waiting.planStarted
      ((State.planStarted_work ..).trans hwork)
      (fun g => (State.planStarted_setpointOf ..).trans (s.booked_setpointOf l q g)) htouch hexec
    exact ⟨_, hend, hreplies, by simp [Sequencer.waiting], State.ended_answered (by simp) _ _ _ _,
      State.ended_records (State.planStarted_records h.1 (by simp) (by simp)) _ _ _ _, honly⟩

end

end Sys2Proof.Machine
end

section
/-! # The sequencer takes a change of LOCKOUT (O29) -/

namespace Sys2Proof.Machine

section
variable {s u : State}

/-! ### The end of a command that leaves no work and moves no setpoint -/

/-- What such a command, which is no request, answers and touches. -/
theorem finish_settled {ps : List StatePart} (hs : s.Quiet) (htouch : Touches ps s u) (hw : u.work = [])
    (hset : ∀ g, u.setpointOf g = s.setpointOf g) :
    ∃ es, finish s u = .next (u.endedWith es u.healthyNow) ∧ Only ps s (u.endedWith es u.healthyNow) := by
  have hsettle := State.settle_steady hw hset
  exact ⟨_, congrArg Host.Outcome.next hsettle, hsettle ▸ htouch.only hs.1 hs.risen (.inl hw) (.inl hset)⟩

/-- A command that finds nothing to do. -/
theorem finish_idle (hs : s.Quiet) : finish s s = .next s := 
  finish_exact s hs.1 hs.risen hs.closing hs.2.2.1 (fun _ => rfl) (fun _ => rfl) hs.2.2.2.2.1

/-! ### The sequencer takes a change of LOCKOUT (R139) -/

/-- The state in which the oldest change of LOCKOUT is taken and AUTO_TRANSFER_EFFECTIVE is 0. -/
def State.changeTaken (s : State) (rest : List Bool) : State :=
  (s.modLines (fun l => { l with lockoutChanges := rest })).modSeq (fun q => { q with autoEffective := false })

@[simp] theorem State.changeTaken_work (rest : List Bool) : (s.changeTaken rest).work = s.work := rfl
@[simp] theorem State.changeTaken_seq (rest : List Bool) :
    (s.changeTaken rest).seq = { s.seq with autoEffective := false } := rfl
@[simp] theorem State.changeTaken_lines (rest : List Bool) :
    (s.changeTaken rest).lines = { s.lines with lockoutChanges := rest } := rfl
@[simp] theorem State.changeTaken_events (rest : List Bool) : (s.changeTaken rest).events = s.events := rfl
@[simp] theorem State.changeTaken_eventLabel (rest : List Bool) : (s.changeTaken rest).eventLabel = s.eventLabel := rfl
@[simp] theorem State.changeTaken_setpointOf (rest : List Bool) (g : Nat) :
    (s.changeTaken rest).setpointOf g = s.setpointOf g := rfl

theorem Touches.changeTaken {ps : List StatePart} (h : Touches ps s u) (rest : List Bool) (hl : .lines ∈ ps := by decide)
    (hs : .seq ∈ ps := by decide) : Touches ps s (u.changeTaken rest) :=
  (h.modLines _ hl).modSeq _ hs

theorem State.recomputeAuto_off (h : (s.station 10 == 1 && !s.lines.lockout) = false) :
    s.recomputeAuto = s.modSeq (fun q => { q with autoEffective := false }) := by
  unfold State.recomputeAuto
  dsimp only
  rw [h, Bool.false_and]
  rfl

theorem State.takeLockoutChange_none (h : s.lines.lockoutChanges = []) : s.takeLockoutChange = s := by
  rw [State.takeLockoutChange, h]

theorem State.takeLockoutChange_off {rise : Bool} {rest : List Bool} (h : s.lines.lockoutChanges = rise :: rest)
    (hoff : (s.station 10 == 1 && !s.lines.lockout) = false) :
    s.takeLockoutChange = (s.modLines (fun l => { l with lockoutChanges := rest })).seqLockout rise ∧
      (s.modLines (fun l => { l with lockoutChanges := rest })).recomputeAuto = s.changeTaken rest := by
  refine ⟨?_, State.recomputeAuto_off hoff⟩
  rw [State.takeLockoutChange, h]

theorem State.seqLockout_rise (hstate : u.seq.state = .init ∨ u.seq.state = .noLineup ∨ ∃ k, u.seq.state = .idle k)
    (h : s.recomputeAuto = u) : s.seqLockout true = u.lockOut := by
  unfold State.seqLockout
  dsimp only
  rw [h]
  obtain hk | hk | ⟨k, hk⟩ := hstate <;> rw [hk]

theorem State.seqLockout_fall (hstate : u.seq.state = .lockedOut) (hl : u.lines.lockout = false)
    (h : s.recomputeAuto = u) : s.seqLockout false = u.goLineup := by
  unfold State.seqLockout
  dsimp only
  rw [h, hstate]
  dsimp only
  rw [if_neg (by simp [hl])]

@[simp] theorem State.setSeqState_lines (x : SeqState) : (s.setSeqState x).lines = s.lines := rfl
@[simp] theorem State.setSeqState_eventLabel (x : SeqState) : (s.setSeqState x).eventLabel = s.eventLabel := rfl
@[simp] theorem State.setSeqState_par (x : SeqState) : (s.setSeqState x).par = s.par := rfl
@[simp] theorem State.setSeqState_breakers (x : SeqState) : (s.setSeqState x).breakers = s.breakers := rfl
@[simp] theorem State.setSeqState_fld (x : SeqState) (y : TableId) (e id : Nat) :
    (s.setSeqState x).fld y e id = s.fld y e id := rfl

/-- With the pending slot empty LOCKED_OUT records its entry alone. -/
theorem State.lockOut_eq (h : s.seq.slot = none) :
    s.lockOut = (s.setSeqState .lockedOut).event .transfer 9 0 13 none := by
  have hslot : (s.setSeqState .lockedOut).seq.slot = none := h
  rw [State.lockOut, State.emptySlot, hslot]

theorem Touches.setSeqState {ps : List StatePart} (h : Touches ps s u) (x : SeqState) (hs : .seq ∈ ps := by decide) :
    Touches ps s (u.setSeqState x) :=
  (h.modSeq _ hs).noting _ hs

end

/-- Settles O29. -/
theorem lockoutLocksTheSequencer : Obligations.LockoutLocksTheSequencer := by
  intro s rest hs
  have hexec : exec .seqLockoutChange s = finish s s.takeLockoutChange := rfl
  refine ⟨fun hchange hl hslot hstate => ?_, fun hchange hl hstate hlineup hauto => ?_, fun hchange => ?_⟩
  · obtain ⟨htake, hrecompute⟩ := State.takeLockoutChange_off hchange (by simp [hl])
    rw [htake, State.seqLockout_rise (by simpa using hstate) hrecompute,
      State.lockOut_eq (by simpa using hslot)] at hexec
    have htouch : Touches [.links, .events, .lines, .seq] s
        (((s.changeTaken rest).setSeqState .lockedOut).event .transfer 9 0 13 none) :=
      (((Touches.refl _ s).changeTaken rest).setSeqState _).event _ _ _ _ _
    obtain ⟨es, hend, honly⟩ := finish_settled hs htouch (by simp [hs.1]) (fun g => by simp)
    have hrecords : Records s (((s.changeTaken rest).setSeqState .lockedOut).event .transfer 9 0 13 none) .transfer 9 0 13 none :=
      State.event_records hs (by simp) (by simp)
    exact ⟨_, hexec.trans hend, by simp, by simp, hrecords, honly⟩
  · obtain ⟨htake, hrecompute⟩ := State.takeLockoutChange_off hchange (by simp [hauto])
    rw [htake, State.seqLockout_fall (by simpa using hstate) (by simpa using hl) hrecompute,
      State.goLineup_none (by simpa using hl) (by simpa using hlineup)] at hexec
    have htouch : Touches [.lines, .seq] s ((s.changeTaken rest).setSeqState .noLineup) :=
      ((Touches.refl _ s).changeTaken rest).setSeqState _
    obtain ⟨es, hend, honly⟩ := finish_settled hs htouch (by simp [hs.1]) (fun g => by simp)
    exact ⟨_, hexec.trans hend, by simp, by simp, honly⟩
  · rw [hexec, State.takeLockoutChange_none hchange]
    exact finish_idle hs


end Sys2Proof.Machine
end

section
/-! # Line-ups and the entry into IDLE (O30) -/

namespace Sys2Proof.Machine

section
variable {s u : State}

/-! ### Line-ups (R123, R124) -/

theorem State.lineupMatches_iff (k : Nat) : s.lineupMatches k = true ↔ Clause.pairsMatch s k := by
  simp only [State.lineupMatches, idRun, List.map_map, List.all_map, List.all_eq_true, List.mem_range, Function.comp,
    State.pairMatches, beq_iff_eq, Clause.pairsMatch]

theorem State.positionUnknown_iff :
    (watchedBreakers s.mgmt.tables).any (fun b => (s.brk b).position == .unknown) = true ↔ Clause.positionUnknown s := by
  simp only [List.any_eq_true, beq_iff_eq, Clause.positionUnknown]

theorem State.findLineup_unknown (h : Clause.positionUnknown s) : s.findLineup = .unknown := by
  rw [State.findLineup, if_pos (State.positionUnknown_iff.2 h)]

theorem State.findLineup_is (h : ¬ Clause.positionUnknown s) {k : Nat} (hk : k < 8)
    (hm : s.fld .lineup k 1 ≠ 0 ∧ Clause.pairsMatch s k)
    (hlow : ∀ j < k, ¬ (s.fld .lineup j 1 ≠ 0 ∧ Clause.pairsMatch s j)) : s.findLineup = .is k := by
  have hfind : (List.range 8).find? (fun k => s.fld .lineup k 1 != 0 && s.lineupMatches k) = some k :=
    List.find?_range_eq_some.2 ⟨by simp [hm.1, (State.lineupMatches_iff k).2 hm.2], List.mem_range.2 hk, fun j hj => by
      simpa [← State.lineupMatches_iff, or_iff_not_imp_left] using hlow j hj⟩
  rw [State.findLineup, if_neg (State.positionUnknown_iff.not.2 h), hfind]

theorem State.findLineup_none (h : ¬ Clause.positionUnknown s)
    (hno : ∀ k < 8, ¬ (s.fld .lineup k 1 ≠ 0 ∧ Clause.pairsMatch s k)) : s.findLineup = .none := by
  have hfind : (List.range 8).find? (fun k => s.fld .lineup k 1 != 0 && s.lineupMatches k) = none :=
    List.find?_range_eq_none.2 fun k hk => by simpa [← State.lineupMatches_iff, or_iff_not_imp_left] using hno k hk
  rw [State.findLineup, if_neg (State.positionUnknown_iff.not.2 h), hfind]

/-! ### The line-up found anew (R124) -/

/-- The state in which the line-up is found. -/
def State.lineupNoted (s : State) : State :=
  s.noting (s.modSeq (fun q => { q with lineup := s.findLineup, lineupDue := false }))

@[simp] theorem State.lineupNoted_seq : s.lineupNoted.seq = { s.seq with lineup := s.findLineup, lineupDue := false } := rfl
@[simp] theorem State.lineupNoted_work : s.lineupNoted.work = s.work := rfl
@[simp] theorem State.lineupNoted_lines : s.lineupNoted.lines = s.lines := rfl
@[simp] theorem State.lineupNoted_par : s.lineupNoted.par = s.par := rfl
@[simp] theorem State.lineupNoted_mgmt : s.lineupNoted.mgmt = s.mgmt := rfl

theorem State.refreshLineup_eq : s.refreshLineup =
    if s.findLineup == s.seq.lineup then s.lineupNoted else s.lineupNoted.event .transfer 5 0 2 (some s.findLineup.code) := rfl

@[simp] theorem State.refreshLineup_seq :
    s.refreshLineup.seq = { s.seq with lineup := s.findLineup, lineupDue := false } := by
  rw [State.refreshLineup_eq]; split <;> simp
@[simp] theorem State.refreshLineup_work : s.refreshLineup.work = s.work := by
  rw [State.refreshLineup_eq]; split <;> simp
@[simp] theorem State.refreshLineup_lines : s.refreshLineup.lines = s.lines := by
  rw [State.refreshLineup_eq]; split <;> simp
@[simp] theorem State.refreshLineup_par : s.refreshLineup.par = s.par := by
  rw [State.refreshLineup_eq]; split <;> simp
@[simp] theorem State.refreshLineup_mgmt : s.refreshLineup.mgmt = s.mgmt := by
  rw [State.refreshLineup_eq]; split <;> simp
@[simp] theorem State.refreshLineup_fld (x : TableId) (e id : Nat) : s.refreshLineup.fld x e id = s.fld x e id := by
  rw [State.fld, State.fld, State.refreshLineup_mgmt]
@[simp] theorem State.refreshLineup_setpointOf (g : Nat) : s.refreshLineup.setpointOf g = s.setpointOf g :=
  State.setpointOf_congr (by rw [State.refreshLineup_par]) (by rw [State.refreshLineup_mgmt]) g

theorem Touches.refreshLineup {ps : List StatePart} (h : Touches ps s u) (hl : .links ∈ ps := by decide)
    (he : .events ∈ ps := by decide) (hs : .seq ∈ ps := by decide) : Touches ps s u.refreshLineup := by
  have hnoted : Touches ps s u.lineupNoted := (h.modSeq _ hs).noting _ hs
  rw [State.refreshLineup_eq]
  exact .ite hnoted (hnoted.event _ _ _ _ _ hl he)

theorem State.followLineup_eq (h : s.seq.state.follows = true) : s.followLineup = s.refreshLineup.goLineup := by
  unfold State.followLineup
  dsimp only
  rw [if_pos (by simpa using h)]

theorem State.goLineup_unknown (hl : s.lines.lockout = false) (hn : s.seq.lineup = .unknown) :
    s.goLineup = s.setSeqState .init := by
  rw [State.goLineup, if_neg (by simp [hl]), hn]

theorem State.goLineup_is {k : Nat} (hl : s.lines.lockout = false) (hn : s.seq.lineup = .is k) (hk : s.seq.state ≠ .idle k) :
    s.goLineup = (s.setSeqState (.idle k)).post (.idleEntered k) := by
  rw [State.goLineup, if_neg (by simp [hl]), hn]
  dsimp only
  rw [if_neg (by simpa using hk)]

theorem State.goLineup_idle {k : Nat} (hl : s.lines.lockout = false) (hn : s.seq.lineup = .is k) (hk : s.seq.state = .idle k) :
    s.goLineup = s := by
  rw [State.goLineup, if_neg (by simp [hl]), hn]
  dsimp only
  rw [if_pos (by simpa using hk)]

/-! ### IDLE(k) is entered (R125, R136, R137) -/

theorem Drains.of_eq {n : Nat} {v w : State} (h : u = v) (hv : Drains n v w) : Drains n u w := h ▸ hv

/-- What the entry into IDLE hands on. -/
theorem Drains.idleEntered {n k : Nat} {v : State} (hw : u.work = []) (h : Drains n ((u.setSeqState (.idle k)).enteredIdle k) v) :
    Drains (n + 1) ((u.setSeqState (.idle k)).post (.idleEntered k)) v := by
  have hwork : (u.setSeqState (.idle k)).work = [] := hw
  have hposted : (u.setSeqState (.idle k)).post (.idleEntered k) =
      { u.setSeqState (.idle k) with work := [.idleEntered k] } := by
    rw [State.post, hwork, List.nil_append]
  have hhandle : State.handle { { u.setSeqState (.idle k) with work := [.idleEntered k] } with work := [] } (.idleEntered k) =
      (u.setSeqState (.idle k)).enteredIdle k := by
    rw [← hwork]
    rfl
  rw [hposted]
  exact .last rfl (by rw [hhandle]; exact h)

theorem State.enteredIdle_empty {k : Nat} (hk : u.seq.state = .idle k) (hslot : u.seq.slot = none) :
    u.enteredIdle k = u.evaluateRules := by
  rw [State.enteredIdle, if_neg (by simp [hk]), hslot]

theorem State.evaluateRules_off (h : u.seq.autoEffective = false) : u.evaluateRules = u := by
  unfold State.evaluateRules
  split
  · rw [if_neg (by simp [h])]
  · rfl

theorem State.evaluateRules_idle {k : Nat} (hk : u.seq.state = .idle k) (h : u.seq.autoEffective = true) :
    u.evaluateRules = u.startRule k (fun _ => true) := by
  rw [State.evaluateRules, hk]
  dsimp only
  rw [if_pos h]

/-! ### Auto-rules (R136) -/

theorem State.ruleStands_iff (i : Nat) : s.ruleStands i = true ↔ Clause.ruleStands s i := by
  have hgoverning : (s.source (s.fld .autorule i 3)).governing = Clause.governing s (s.fld .autorule i 3) := by
    simp only [SourceRec.governing, Clause.governing, beq_iff_eq]
  rw [State.ruleStands, hgoverning, Clause.ruleStands]
  unfold conditionIs
  split
  · next h => simp [h]
  · next h => simp [h]
  · next h h' => exact iff_of_false (by simp) (fun hs => hs.2.elim (fun h0 => h h0.1) (fun h1 => h' h1.1))

theorem State.ruleMatches_iff (k i : Nat) : s.ruleMatches k i = true ↔ Clause.ruleMatches s k i := by
  simp only [State.ruleMatches, Bool.and_eq_true, State.ruleStands_iff, State.planDefined, Bool.or_eq_true, beq_iff_eq,
    bne_iff_ne, Clause.ruleMatches]
  tauto

theorem State.startRule_some {k i : Nat} {among : Nat → Bool} (hi : i < 12) (ha : among i = true)
    (hm : Clause.ruleMatches s k i) (hlow : ∀ j < i, among j = true → ¬ Clause.ruleMatches s k j) :
    s.startRule k among = s.startPlan (s.fld .autorule i 5) (.auto i) := by
  have hfind : (List.range 12).find? (fun i => among i && s.ruleMatches k i) = some i :=
    List.find?_range_eq_some.2 ⟨by simp [ha, (State.ruleMatches_iff k i).2 hm], List.mem_range.2 hi, fun j hj => by
      simpa [← State.ruleMatches_iff, or_iff_not_imp_left] using hlow j hj⟩
  rw [State.startRule, hfind]

theorem State.startRule_none {k : Nat} {among : Nat → Bool} (h : ∀ i < 12, among i = true → ¬ Clause.ruleMatches s k i) :
    s.startRule k among = s := by
  have hfind : (List.range 12).find? (fun i => among i && s.ruleMatches k i) = none :=
    List.find?_range_eq_none.2 fun i hi => by simpa [← State.ruleMatches_iff, or_iff_not_imp_left] using h i hi
  rw [State.startRule, hfind]

/-- A rule is judged by the tables and the sources. -/
theorem State.ruleMatches_congr (htables : u.mgmt.tables = s.mgmt.tables) (hsources : u.seq.sources = s.seq.sources) (k i : Nat) :
    Clause.ruleMatches u k i ↔ Clause.ruleMatches s k i := by
  unfold Clause.ruleMatches Clause.ruleStands Clause.governing State.fld State.source
  rw [htables, hsources]

theorem State.planStarted_newest_map (p : Nat) (c : Cause) :
    (u.planStarted p c).newest.map (fun r => (r.cls, r.priority, r.object, r.code, r.value)) =
      some (.transfer, 10, p, 3, some c.value) := by
  rw [State.planStarted_newest, State.planRecorded, State.event_newest]
  rfl

theorem State.enteredIdle_starts {k : Nat} {a : AutoRequest} (hk : u.seq.state = .idle k) (hslot : u.seq.slot = some a)
    (hauto : u.seq.autoEffective = true) (hm : Clause.ruleMatches u k a.rule) : u.enteredIdle k =
      (u.modSeq (fun q => { q with slot := none })).startPlan (u.fld .autorule a.rule 5) (.auto a.rule) := by
  rw [State.enteredIdle, if_neg (by simp [hk]), hslot]
  dsimp only
  rw [if_pos (by rw [hauto, (State.ruleMatches_iff k a.rule).2 hm]; rfl)]

theorem State.enteredIdle_discards {k : Nat} {a : AutoRequest} (hk : u.seq.state = .idle k) (hslot : u.seq.slot = some a)
    (h : u.seq.autoEffective = false ∨ ¬ Clause.ruleMatches u k a.rule) : u.enteredIdle k =
      ((u.modSeq (fun q => { q with slot := none })).event .transfer 7 a.rule 10 none).evaluateRules := by
  rw [State.enteredIdle, if_neg (by simp [hk]), hslot]
  dsimp only
  rw [if_neg (by rw [Bool.and_eq_true, State.ruleMatches_iff]; rintro ⟨hauto, hm⟩; simp_all), State.emptySlot, hslot]

/-- What a state from which a plan may start keeps of the state before the command: `y` is its sequencer. -/
structure Poised (s u : State) (y : Sequencer) : Prop where
  touches : Touches [.links, .events, .seq] s u
  work : u.work = []
  par : u.par = s.par
  mgmt : u.mgmt = s.mgmt
  seq : u.seq = y

namespace Poised
variable {y : Sequencer}

theorem setpointOf (h : Poised s u y) (g : Nat) : u.setpointOf g = s.setpointOf g :=
  State.setpointOf_congr (by rw [h.par]) (by rw [h.mgmt]) g

theorem fld (h : Poised s u y) (x : TableId) (e id : Nat) : u.fld x e id = s.fld x e id := by
  rw [State.fld, State.fld, h.mgmt]

theorem setSeqState (h : Poised s u y) (x : SeqState) : Poised s (u.setSeqState x) { y with state := x } where
  touches := h.touches.setSeqState x
  work := h.work
  par := h.par
  mgmt := h.mgmt
  seq := by rw [State.setSeqState_seq, h.seq]

theorem modSeq (h : Poised s u y) (f : Sequencer → Sequencer) : Poised s (u.modSeq f) (f y) where
  touches := h.touches.modSeq f
  work := h.work
  par := h.par
  mgmt := h.mgmt
  seq := congrArg f h.seq

theorem event (h : Poised s u y) (c : EventClass) (priority object code : Nat) (value : Option Nat) :
    Poised s (u.event c priority object code value) y where
  touches := h.touches.event _ _ _ _ _
  work := (State.event_work ..).trans h.work
  par := (State.event_par ..).trans h.par
  mgmt := (State.event_mgmt ..).trans h.mgmt
  seq := (State.event_seq ..).trans h.seq

theorem refreshLineup (hw : s.work = []) :
    Poised s s.refreshLineup { s.seq with lineup := s.findLineup, lineupDue := false } where
  touches := (Touches.refl _ s).refreshLineup
  work := State.refreshLineup_work.trans hw
  par := State.refreshLineup_par
  mgmt := State.refreshLineup_mgmt
  seq := State.refreshLineup_seq

theorem planStarted (h : Poised s u y) (p : Nat) (c : Cause) : Poised s (u.planStarted p c) (y.waiting p c) where
  touches := h.touches.planStarted
  work := (u.planStarted_work p c).trans h.work
  par := (u.planStarted_par p c).trans h.par
  mgmt := (u.planStarted_mgmt p c).trans h.mgmt
  seq := (u.planStarted_seq p c).trans (congrArg (Sequencer.waiting · p c) h.seq)

/-- The command ends as this state. -/
theorem finish (h : Poised s u y) (hs : s.Quiet) : ∃ t, finish s u = .next t ∧ t.seq = y ∧ t.newest = u.newest ∧
    Only [.links, .events, .seq] s t := by
  obtain ⟨es, hend, honly⟩ := finish_settled hs h.touches h.work h.setpointOf
  exact ⟨_, hend, h.seq, rfl, honly⟩

/-- The command ends with a rule's plan begun. -/
theorem starts (h : Poised s u y) (hs : s.Quiet) {v : State} {n i : Nat}
    (hv : ∀ w, Drains 1 (u.startPlan (s.fld .autorule i 5) (.auto i)) w → Drains n v w)
    (hdef : s.fld .plan (s.fld .autorule i 5) 5 ≠ 0) (htimed : s.stepField (s.fld .autorule i 5) 0 0 = 6)
    (hn : n ≤ Config.workBound := by decide) :
    ∃ t, Machine.finish s v = .next t ∧ t.seq = y.waiting (s.fld .autorule i 5) (.auto i) ∧
      t.newest.map (fun r => (r.cls, r.priority, r.object, r.code, r.value)) =
        some (.transfer, 10, s.fld .autorule i 5, 3, some (1 + 256 * i)) ∧ Only [.links, .events, .seq] s t := by
  have hdrains : Drains n v (u.planStarted (s.fld .autorule i 5) (.auto i)) :=
    hv _ (.startPlan h.work ((h.fld ..).trans_ne hdef) ((h.fld ..).trans htimed))
  obtain ⟨t, hend, hseq, hnewest, honly⟩ := (h.planStarted (s.fld .autorule i 5) (.auto i)).finish hs
  refine ⟨t, (congrArg Host.Outcome.next (hdrains.settle hn)).trans hend, hseq, ?_, honly⟩
  rw [hnewest, State.planStarted_newest_map]
  rfl

end Poised

end

/-- Settles the first part of O30. -/
theorem lineupIsFollowed : Clause.LineupIsFollowed := by
  intro s hs hdue hfollows hlockout hauto hslot
  have hexec : exec .lineupChange s = finish s (if s.seq.lineupDue then s.followLineup else s) := rfl
  rw [if_pos hdue, State.followLineup_eq hfollows] at hexec
  have htouch : Touches [.links, .events, .seq] s s.refreshLineup := (Touches.refl _ s).refreshLineup
  have hwork : s.refreshLineup.work = [] := State.refreshLineup_work.trans hs.1
  have hkept : ∀ x, (s.refreshLineup.setSeqState x).work = [] := fun x => (State.setSeqState_work x).trans hwork
  have hset : ∀ x g, (s.refreshLineup.setSeqState x).setpointOf g = s.setpointOf g := fun x g => by simp
  refine ⟨fun hu => ?_, fun hu k hk hm hlow => ?_, fun hu hno => ?_⟩
  · rw [State.goLineup_unknown (by simpa using hlockout) (by simpa using State.findLineup_unknown hu)] at hexec
    obtain ⟨es, hend, honly⟩ := finish_settled hs (htouch.setSeqState .init) (hkept .init) (hset .init)
    exact ⟨_, hexec.trans hend, by simp [State.findLineup_unknown hu], honly⟩
  · have hfound := State.findLineup_is hu hk hm hlow
    by_cases hidle : s.seq.state = .idle k
    · rw [State.goLineup_idle (k := k) (by simpa using hlockout) (by simpa using hfound) (by simpa using hidle)] at hexec
      obtain ⟨es, hend, honly⟩ := finish_settled hs htouch hwork (fun g => by simp)
      exact ⟨_, hexec.trans hend, by simp [hfound, hidle], honly⟩
    · rw [State.goLineup_is (k := k) (by simpa using hlockout) (by simpa using hfound) (by simpa using hidle)] at hexec
      have hdrains : Drains 1 ((s.refreshLineup.setSeqState (.idle k)).post (.idleEntered k))
          (s.refreshLineup.setSeqState (.idle k)) := by
        refine .idleEntered hwork ?_
        rw [State.enteredIdle_empty rfl (by simpa using hslot), State.evaluateRules_off (by simpa using hauto)]
        exact .done (hkept _)
      have hfinish : exec .lineupChange s = finish s (s.refreshLineup.setSeqState (.idle k)) :=
        hexec.trans (congrArg Host.Outcome.next hdrains.settle)
      obtain ⟨es, hend, honly⟩ := finish_settled hs (htouch.setSeqState (.idle k)) (hkept (.idle k)) (hset (.idle k))
      exact ⟨_, hfinish.trans hend, by simp [hfound], honly⟩
  · rw [State.goLineup_none (by simpa using hlockout) (by simpa using State.findLineup_none hu hno)] at hexec
    obtain ⟨es, hend, honly⟩ := finish_settled hs (htouch.setSeqState .noLineup) (hkept .noLineup) (hset .noLineup)
    exact ⟨_, hexec.trans hend, by simp [State.findLineup_none hu hno], honly⟩

/-- Settles the second part of O30. -/
theorem idleExaminesTheSlot : Clause.IdleExaminesTheSlot := by
  intro s k hs hdue hfollows hlockout hk hk8 hu hcount hpairs hlow
  have hfound := State.findLineup_is hu hk8 ⟨hcount, hpairs⟩ hlow
  have hexec : exec .lineupChange s = finish s (if s.seq.lineupDue then s.followLineup else s) := rfl
  rw [if_pos hdue, State.followLineup_eq hfollows, State.goLineup_is (k := k) (by simpa using hlockout)
    (by simpa using hfound) (by simpa using hk)] at hexec
  have hidle : Poised s (s.refreshLineup.setSeqState (.idle k))
      { s.seq with lineup := .is k, lineupDue := false, state := .idle k } := by
    rw [← hfound]
    exact (Poised.refreshLineup hs.1).setSeqState (.idle k)
  have hemptied : Poised s ((s.refreshLineup.setSeqState (.idle k)).modSeq (fun q => { q with slot := none }))
      { s.seq with lineup := .is k, lineupDue := false, state := .idle k, slot := none } :=
    hidle.modSeq (fun q => { q with slot := none })
  have hmatches : ∀ {u y}, Poised s u y → y.sources = s.seq.sources → ∀ i, Clause.ruleMatches u k i ↔ Clause.ruleMatches s k i :=
    fun hu hy => State.ruleMatches_congr (by rw [hu.mgmt]) (by rw [hu.seq, hy]) k
  have hstate : (s.refreshLineup.setSeqState (.idle k)).seq.state = .idle k := rfl
  have hslot : (s.refreshLineup.setSeqState (.idle k)).seq.slot = s.seq.slot := by rw [hidle.seq]
  have hauto : (s.refreshLineup.setSeqState (.idle k)).seq.autoEffective = s.seq.autoEffective := by rw [hidle.seq]
  refine ⟨fun a ha heff hm htimed => ?_, fun i hi heff hno hm hlower htimed => ?_, fun a ha hnone => ?_⟩
  · have hstarts := State.enteredIdle_starts hstate (hslot.trans ha) (hauto.trans heff) ((hmatches hidle rfl a.rule).2 hm)
    rw [hidle.fld] at hstarts
    obtain ⟨t, hend, hseq, hnewest, honly⟩ := hemptied.starts hs (n := 2) (i := a.rule)
      (fun w hw => .idleEntered (State.refreshLineup_work.trans hs.1) (.of_eq hstarts hw)) hm.2.2.1 htimed
    exact ⟨t, hexec.trans hend, hseq, hnewest, honly⟩
  · have hrule : ∀ {u y}, Poised s u y → y.sources = s.seq.sources → y.state = .idle k → y.autoEffective = true →
        u.evaluateRules = u.startPlan (s.fld .autorule i 5) (.auto i) := fun {u y} hu hsources hku hau => by
      rw [State.evaluateRules_idle (by rw [hu.seq, hku]) (by rw [hu.seq, hau]), ← hu.fld]
      exact State.startRule_some hi rfl ((hmatches hu hsources i).2 hm) fun j hj _ hmj =>
        hlower j hj ((hmatches hu hsources j).1 hmj)
    cases ha : s.seq.slot with
    | none =>
      have hstarts := (State.enteredIdle_empty hstate (hslot.trans ha)).trans (hrule hidle rfl rfl heff)
      obtain ⟨t, hend, hseq, hnewest, honly⟩ := hidle.starts hs (n := 2) (i := i)
        (fun w hw => .idleEntered (State.refreshLineup_work.trans hs.1) (.of_eq hstarts hw)) hm.2.2.1 htimed
      exact ⟨t, hexec.trans hend, by rw [hseq, ← ha]; rfl, hnewest, honly⟩
    | some a =>
      have hrecorded := hemptied.event .transfer 7 a.rule 10 none
      have hstarts := (State.enteredIdle_discards hstate (hslot.trans ha)
        (.inr ((hmatches hidle rfl a.rule).not.2 (hno a ha)))).trans (hrule hrecorded rfl rfl heff)
      obtain ⟨t, hend, hseq, hnewest, honly⟩ := hrecorded.starts hs (n := 2) (i := i)
        (fun w hw => .idleEntered (State.refreshLineup_work.trans hs.1) (.of_eq hstarts hw)) hm.2.2.1 htimed
      exact ⟨t, hexec.trans hend, hseq, hnewest, honly⟩
  · have hrecorded := hemptied.event .transfer 7 a.rule 10 none
    have hrests : ((((s.refreshLineup.setSeqState (.idle k)).modSeq (fun q => { q with slot := none })).event .transfer 7 a.rule
        10 none)).evaluateRules = (((s.refreshLineup.setSeqState (.idle k)).modSeq (fun q => { q with slot := none })).event
          .transfer 7 a.rule 10 none) := by
      cases heff : s.seq.autoEffective with
      | false => exact State.evaluateRules_off (by rw [hrecorded.seq, heff])
      | true =>
        obtain ⟨-, hno⟩ := hnone.resolve_left (by simp [heff])
        rw [State.evaluateRules_idle (k := k) (by rw [hrecorded.seq]) (by rw [hrecorded.seq, heff])]
        exact State.startRule_none fun i hi _ => (hmatches hrecorded rfl i).not.2 (hno i hi)
    have hdiscards := (State.enteredIdle_discards hstate (hslot.trans ha) (hnone.imp (hauto.trans ·)
      fun h => (hmatches hidle rfl a.rule).not.2 h.1)).trans hrests
    have hdrains := Drains.idleEntered (k := k) (State.refreshLineup_work.trans hs.1) (.of_eq hdiscards (.done hrecorded.work))
    obtain ⟨t, hend, hseq, hnewest, honly⟩ := hrecorded.finish hs
    exact ⟨t, hexec.trans ((congrArg Host.Outcome.next hdrains.settle).trans hend), hseq, by
      rw [hnewest, State.event_newest]; rfl, honly⟩

/-- Settles O30. -/
theorem lineupIsFoundAnew : Obligations.LineupIsFoundAnew := ⟨lineupIsFollowed, idleExaminesTheSlot⟩


end Sys2Proof.Machine
end

section
/-! # The end of a source's delay (O28) -/

namespace Sys2Proof.Machine

section
variable {s u : State}

/-! ### A source takes a state (R121) -/

/-- The record of a source that has taken a qualified state. -/
def SourceRec.taken (r : SourceRec) (new : SourceState) : SourceRec :=
  { r with state := new, delay := 0, availablePoint := new == .available, failedPoint := new == .failed }

/-- The sources once one has taken a state. -/
def State.sourceTaken (s : State) (x : Nat) (new : SourceState) : State := s.modSource x (fun r => r.taken new)

theorem State.setSource_eq (x : Nat) {new : SourceState} (h : new ≠ .unverified) :
    s.setSource x new 0 = (s.noting (s.sourceTaken x new)).event .transfer new.priority x 1 (some new.code) := by
  have hnew : (new == .unverified) = false := by simpa using h
  unfold State.setSource
  rw [hnew]
  rfl

theorem Poised.setSource (hw : s.work = []) (x : Nat) {new : SourceState} (h : new ≠ .unverified) :
    Poised s (s.setSource x new 0) { s.seq with sources := (s.sourceTaken x new).seq.sources } := by
  have htaken : Poised s (s.noting (s.sourceTaken x new)) { s.seq with sources := (s.sourceTaken x new).seq.sources } :=
    { touches := ((Touches.refl _ s).modSource x _).noting _
      work := hw
      par := rfl
      mgmt := rfl
      seq := rfl }
  rw [State.setSource_eq x h]
  exact htaken.event _ _ _ _ _

theorem State.setSource_source_same {x : Nat} (hx : x < s.seq.sources.length) {new : SourceState} (h : new ≠ .unverified) :
    (s.setSource x new 0).source x = (s.source x).taken new := by
  rw [State.setSource_eq x h, State.event_source]
  exact State.source_modSource_same _ _ hx

theorem State.setSource_source_other {x y : Nat} (hy : y ≠ x) {new : SourceState} (h : new ≠ .unverified) :
    (s.setSource x new 0).source y = s.source y := by
  rw [State.setSource_eq x h, State.event_source]
  exact State.source_modSource_other _ _ hy.symm

/-! ### A source's governing state has changed (R136, R137) -/

theorem State.governingChanged_off {x : Nat} (h : u.seq.autoEffective = false) : u.governingChanged x = u := by
  rw [State.governingChanged, if_pos (by simp [h])]

theorem State.governingChanged_idle {x k : Nat} (h : u.seq.autoEffective = true) (hk : u.seq.state = .idle k) :
    u.governingChanged x = u.startRule k (fun i => u.fld .autorule i 3 == x) := by
  rw [State.governingChanged, if_neg (by simp [h]), hk]

theorem State.governingChanged_rests {x : Nat} (h : (∃ y, u.seq.state = .halted y) ∨ u.seq.state = .lockedOut) :
    u.governingChanged x = u := by
  unfold State.governingChanged
  split
  · rfl
  · obtain ⟨y, hy⟩ | hl := h
    · rw [hy]
    · rw [hl]

/-- The states from which a request is offered to the pending slot. -/
def SeqState.offers : SeqState → Bool
  | .idle _ | .halted _ | .lockedOut => false
  | _ => true

theorem State.governingChanged_offers {x : Nat} (h : u.seq.autoEffective = true) (hs : u.seq.state.offers = true) :
    u.governingChanged x = ((List.range 12).find? (fun i => u.fld .autorule i 3 == x && u.ruleStands i)).elim u u.offerRequest := by
  unfold State.governingChanged
  rw [if_neg (by simp [h])]
  split
  · next hk => simp [hk, SeqState.offers] at hs
  · next hk => simp [hk, SeqState.offers] at hs
  · next hk => simp [hk, SeqState.offers] at hs
  · split
    · next hfind => rw [hfind]; rfl
    · next hfind => rw [hfind]; rfl

theorem State.firstRule_some {x i : Nat} (hi : i < 12) (hx : u.fld .autorule i 3 = x) (hm : Clause.ruleStands u i)
    (hlow : ∀ j < i, u.fld .autorule j 3 = x → ¬ Clause.ruleStands u j) :
    (List.range 12).find? (fun i => u.fld .autorule i 3 == x && u.ruleStands i) = some i :=
  List.find?_range_eq_some.2 ⟨by simp [hx, (State.ruleStands_iff i).2 hm], List.mem_range.2 hi, fun j hj => by
    simpa [← State.ruleStands_iff, or_iff_not_imp_left] using hlow j hj⟩

theorem State.firstRule_none {x : Nat} (h : ∀ i < 12, u.fld .autorule i 3 = x → ¬ Clause.ruleStands u i) :
    (List.range 12).find? (fun i => u.fld .autorule i 3 == x && u.ruleStands i) = none :=
  List.find?_range_eq_none.2 fun i hi => by
    simpa [← State.ruleStands_iff, or_iff_not_imp_left] using h i hi

/-- A rule stands by the tables and the sources. -/
theorem State.ruleStands_congr (htables : u.mgmt.tables = s.mgmt.tables) (hsources : u.seq.sources = s.seq.sources) (i : Nat) :
    Clause.ruleStands u i ↔ Clause.ruleStands s i := by
  unfold Clause.ruleStands Clause.governing State.fld State.source
  rw [htables, hsources]

theorem State.offerRequest_kept {i : Nat} {old : AutoRequest} (h : u.seq.slot = some old) (hr : old.rule = i) :
    u.offerRequest i = u := by
  simp [State.offerRequest, h, hr]

/-- The request that rule `i` makes. -/
def State.requestOf (s : State) (i : Nat) : AutoRequest := ⟨i, s.fld .autorule i 5, s.fld .autorule i 3, s.fld .autorule i 4⟩

theorem State.offerRequest_joins {i : Nat} (h : u.seq.slot = none) :
    u.offerRequest i = (u.modSeq (fun q => { q with slot := some (u.requestOf i) })).event .transfer 6 i 8 none := by
  simp [State.offerRequest, h, State.requestOf]

theorem State.offerRequest_replaces {i : Nat} {old : AutoRequest} (h : u.seq.slot = some old) (hr : old.rule ≠ i) :
    u.offerRequest i =
      (u.modSeq (fun q => { q with slot := some (u.requestOf i) })).event .transfer 8 i 9 (some old.rule) := by
  simp [State.offerRequest, h, hr, State.requestOf]

/-! ### The end of a delay (R121) -/

theorem sourceId_number_lt (x : SourceId) : x.number < 3 := by cases x <;> decide

/-- The command ends a delay as the source's new state. -/
theorem exec_delayEnds {x : SourceId} {c : Instr} (h : Clause.DelayEnds s x c) : ∃ new : SourceState, new ≠ .unverified ∧
    exec c s = finish s ((s.setSource x.number new 0).governingChanged x.number) := by
  obtain ⟨rfl, hstate, hdelay⟩ | ⟨rfl, hstate, hdelay⟩ := h
  · exact ⟨.failed, by decide, congrArg (finish s) (if_pos (by rw [hstate, decide_eq_true hdelay]; rfl))⟩
  · exact ⟨.available, by decide, congrArg (finish s) (if_pos (by rw [hstate, decide_eq_true hdelay]; rfl))⟩

/-- What the end of a delay touches, and the tables and sources after it. -/
theorem finish_delayEnds (hs : s.Quiet) (x : Nat) {new : SourceState} (hnew : new ≠ .unverified) :
    ∃ t, finish s ((s.setSource x new 0).governingChanged x) = .next t ∧ t.mgmt.tables = s.mgmt.tables ∧
      t.seq.sources = (s.setSource x new 0).seq.sources ∧ Only [.links, .events, .breakers, .seq, .par] s t := by
  have hevolves : Evolves (s.setSource x new 0) ((s.setSource x new 0).governingChanged x) :=
    State.governingChanged_evolves _ .refl
  refine ⟨_, rfl, ?_, ?_, Touches.only_working (((Touches.refl workParts s).setSource x new 0).work hevolves) hs.1 hs.risen⟩
  · rw [State.settle_mgmt, hevolves.mgmt, (Poised.setSource hs.1 x hnew).mgmt]
  · rw [State.settle_sources]
    exact congrArg Rest.sources hevolves.rest

/-- A source moves at the end of its delay, and the others stand. -/
theorem delayMoves (hs : s.Quiet) (x : SourceId) {new : SourceState} (hnew : new ≠ .unverified) :
    ∃ t, finish s ((s.setSource x.number new 0).governingChanged x.number) = .next t ∧
      t.source x.number = (s.source x.number).taken new ∧ (∀ y, y ≠ x.number → t.source y = s.source y) ∧
      (s.seq.autoEffective = false → Records s t .transfer new.priority x.number 1 (some new.code)) ∧
      Only [.links, .events, .breakers, .seq, .par] s t := by
  obtain ⟨t, hend, -, hsources, honly⟩ := finish_delayEnds hs x.number hnew
  have hsource : ∀ y, t.source y = (s.setSource x.number new 0).source y := fun y => by
    rw [State.source, State.source, hsources]
  refine ⟨t, hend, ?_, fun y hy => ?_, fun hauto => ?_, honly⟩
  · exact (hsource _).trans (State.setSource_source_same (hs.sources_length.symm ▸ sourceId_number_lt x) hnew)
  · exact (hsource y).trans (State.setSource_source_other hy hnew)
  · have hmoved := Poised.setSource hs.1 x.number hnew
    rw [State.governingChanged_off (by rw [hmoved.seq, hauto])] at hend
    obtain ⟨t', hend', -, hnewest, -⟩ := hmoved.finish hs
    obtain rfl : t = t' := Host.Outcome.next.inj (hend.symm.trans hend')
    rw [Records, hnewest, State.setSource_eq _ hnew]
    exact State.event_records hs rfl rfl

end

/-- Settles the first part of O28. -/
theorem delayMovesTheSource : Clause.DelayMovesTheSource := by
  intro s x hs
  refine ⟨fun hstate hdelay => ?_, fun hstate => ?_, fun hstate hdelay => ?_, fun hstate => ?_⟩
  · have hexec : exec (.sourceFailDelayExpiry x) s =
        finish s ((s.setSource x.number .failed 0).governingChanged x.number) :=
      congrArg (finish s) (if_pos (by rw [hstate, decide_eq_true hdelay]; rfl))
    rw [hexec]
    exact delayMoves hs x (by decide)
  · have hexec : exec (.sourceFailDelayExpiry x) s = finish s s := congrArg (finish s) (if_neg (by simp [hstate]))
    exact hexec.trans (finish_idle hs)
  · have hexec : exec (.sourceRestoreDelayExpiry x) s =
        finish s ((s.setSource x.number .available 0).governingChanged x.number) :=
      congrArg (finish s) (if_pos (by rw [hstate, decide_eq_true hdelay]; rfl))
    rw [hexec]
    exact delayMoves hs x (by decide)
  · have hexec : exec (.sourceRestoreDelayExpiry x) s = finish s s := congrArg (finish s) (if_neg (by simp [hstate]))
    exact hexec.trans (finish_idle hs)

/-- Settles the second part of O28. -/
theorem sourceChangeStartsARule : Clause.SourceChangeStartsARule := by
  intro s x c k hs hauto hk hends
  obtain ⟨new, hnew, hexec⟩ := exec_delayEnds hends
  obtain ⟨t, hend, htables, hsources, honly⟩ := finish_delayEnds hs x.number hnew
  have hmoved := Poised.setSource hs.1 x.number hnew
  have hmatches : ∀ i, Clause.ruleMatches (s.setSource x.number new 0) k i ↔ Clause.ruleMatches t k i :=
    State.ruleMatches_congr (by rw [hmoved.mgmt, htables]) hsources.symm k
  rw [State.governingChanged_idle (k := k) (by rw [hmoved.seq, hauto]) (by rw [hmoved.seq, hk])] at hend hexec
  refine ⟨t, hexec.trans hend, fun i hi hx hm hlow htimed => ?_, fun hno => ?_, honly⟩
  · rw [State.startRule_some hi (by simpa [hmoved.fld] using hx) ((hmatches i).2 hm) (fun j hj hjx hjm =>
      hlow j hj (by simpa [hmoved.fld] using hjx) ((hmatches j).1 hjm)), hmoved.fld] at hend
    obtain ⟨t', hend', hseq, hnewest, -⟩ := hmoved.starts hs (n := 1) (i := i) (fun w hw => hw) (by
      simpa [hmoved.fld] using ((hmatches i).2 hm).2.2.1) htimed
    obtain rfl : t = t' := Host.Outcome.next.inj (hend.symm.trans hend')
    exact ⟨by rw [hseq]; rfl, hnewest⟩
  · rw [State.startRule_none (fun i hi hix him => hno i hi (by simpa [hmoved.fld] using hix) ((hmatches i).1 him))] at hend
    obtain ⟨t', hend', hseq, -, -⟩ := hmoved.finish hs
    obtain rfl : t = t' := Host.Outcome.next.inj (hend.symm.trans hend')
    rw [hseq]

/-- Settles the third part of O28. -/
theorem sourceChangeFillsTheSlot : Clause.SourceChangeFillsTheSlot := by
  intro s x c hs hauto hends hidle
  obtain ⟨new, hnew, hexec⟩ := exec_delayEnds hends
  obtain ⟨t, hend, htables, hsources, honly⟩ := finish_delayEnds hs x.number hnew
  have hmoved := Poised.setSource hs.1 x.number hnew
  have hstands : ∀ i, Clause.ruleStands (s.setSource x.number new 0) i ↔ Clause.ruleStands t i :=
    State.ruleStands_congr (by rw [hmoved.mgmt, htables]) hsources.symm
  have hrests : (s.setSource x.number new 0).governingChanged x.number = s.setSource x.number new 0 →
      t.seq = { s.seq with sources := t.seq.sources } := fun hrest => by
    rw [hrest] at hend
    obtain ⟨t', hend', hseq, -, -⟩ := hmoved.finish hs
    obtain rfl : t = t' := Host.Outcome.next.inj (hend.symm.trans hend')
    rw [hseq]
  have hoffers : ((∀ y, s.seq.state ≠ .halted y) ∧ s.seq.state ≠ .lockedOut) → (s.setSource x.number new 0).seq.state.offers = true := by
    rw [hmoved.seq]
    rintro ⟨hhalted, hlocked⟩
    cases hstate : s.seq.state <;> simp_all [SeqState.offers]
  have hauto' : (s.setSource x.number new 0).seq.autoEffective = true := by rw [hmoved.seq, hauto]
  refine ⟨t, hexec.trans hend, fun i hi ho hx hm hlow => ?_, fun hno => ?_, honly⟩
  · have hfirst := State.firstRule_some hi ((hmoved.fld ..).trans hx) ((hstands i).2 hm) (fun j hj hjx hjm =>
      hlow j hj ((hmoved.fld ..).symm.trans hjx) ((hstands j).1 hjm))
    have hchanged := State.governingChanged_offers (x := x.number) hauto' (hoffers ho)
    rw [hfirst, Option.elim_some] at hchanged
    have hslot : (s.setSource x.number new 0).seq.slot = s.seq.slot := by rw [hmoved.seq]
    have hrequest : (s.setSource x.number new 0).requestOf i = ⟨i, s.fld .autorule i 5, x.number, s.fld .autorule i 4⟩ := by
      rw [State.requestOf, hmoved.fld, hmoved.fld, hmoved.fld, hx]
    have hplaced : ∀ (priority code : Nat) (value : Option Nat),
        (s.setSource x.number new 0).governingChanged x.number =
          ((s.setSource x.number new 0).modSeq (fun q => { q with slot := some ((s.setSource x.number new 0).requestOf i) })).event
            .transfer priority i code value →
        t.seq = { s.seq with sources := t.seq.sources, slot := some ⟨i, s.fld .autorule i 5, x.number, s.fld .autorule i 4⟩ } ∧
          t.newest.map (fun r => (r.cls, r.priority, r.object, r.code, r.value)) = some (.transfer, priority, i, code, value) :=
      fun priority code value hplace => by
        rw [hplace, hrequest] at hend
        obtain ⟨t', hend', hseq, hnewest, -⟩ := ((hmoved.modSeq _).event .transfer priority i code value).finish hs
        obtain rfl : t = t' := Host.Outcome.next.inj (hend.symm.trans hend')
        exact ⟨by rw [hseq], by rw [hnewest, State.event_newest]; rfl⟩
    refine ⟨fun hnone => hplaced 6 8 none (hchanged.trans (State.offerRequest_joins (hslot.trans hnone))),
      fun old hold hr => hplaced 8 9 (some old.rule) (hchanged.trans (State.offerRequest_replaces (hslot.trans hold) hr)),
      fun old hold hr => hrests (hchanged.trans (State.offerRequest_kept (hslot.trans hold) hr))⟩
  · by_cases ho : (∀ y, s.seq.state ≠ .halted y) ∧ s.seq.state ≠ .lockedOut
    · have hchanged := State.governingChanged_offers (x := x.number) hauto' (hoffers ho)
      rw [State.firstRule_none (fun i hi hix him => (hno.resolve_left (not_not_intro ho)) i hi ((hmoved.fld ..).symm.trans hix)
        ((hstands i).1 him)), Option.elim_none] at hchanged
      exact hrests hchanged
    · refine hrests (State.governingChanged_rests ?_)
      rw [hmoved.seq]
      simpa [or_iff_not_imp_left] using ho

/-- Settles O28. -/
theorem sourceDelaysEnd : Obligations.SourceDelaysEnd :=
  ⟨delayMovesTheSource, sourceChangeStartsARule, sourceChangeFillsTheSlot⟩


end Sys2Proof.Machine
end

section
/-! # Step timeouts, the parallel limit and failed plans (O31) -/

namespace Sys2Proof.Machine

section
variable {s u v : State} {r : PlanRun}

/-! ### The paralleling unit at rest -/

/-- No sync run, no token and nobody who waits for it. -/
structure State.UnitRests (s : State) : Prop where
  channels : ∀ c < 4, s.channel c = none
  token : s.par.token = none
  list : s.par.tokenList = []

theorem State.UnitRests.congr (h : s.UnitRests) (hp : u.par = s.par) : u.UnitRests where
  channels c hc := by rw [State.channel, hp]; exact h.channels c hc
  token := by rw [hp, h.token]
  list := by rw [hp, h.list]

theorem State.leaveRun_rests (h : s.UnitRests) (p : Party) : s.leaveRun p = s := by
  have hnone : s.channelOf p = none := List.find?_eq_none.2 fun c hc => by
    rw [h.channels c (List.mem_range.1 hc)]
    simp
  rw [State.leaveRun, hnone]

theorem State.dropRequest_rests (h : s.UnitRests) (p : Party) : s.dropRequest p = s := by
  have hlist : s.par.tokenList.filter (fun x => x != p) = s.par.tokenList := by rw [h.list]; rfl
  unfold State.dropRequest State.modPar
  dsimp only
  rw [hlist]

theorem State.leaveToken_rests (h : s.UnitRests) (p : Party) : s.leaveToken p = s := by
  rw [State.leaveToken, State.dropRequest_rests h, State.freeToken, h.token, if_neg (by simp)]

/-! ### A plan ends (R134, R135) -/

theorem State.endStep_rests (h : s.UnitRests) (hclose : [2, 3, 4].contains (s.stepField r.plan r.step 0) = true →
    s.withdrawClose (s.stepBreaker r) .sequencer = s) : s.endStep r = s := by
  unfold State.endStep
  dsimp only
  rw [State.leaveRun_rests h]
  split
  · rw [hclose ‹_›, State.leaveToken_rests h]
  · exact State.leaveToken_rests h _

/-- A run record whose plan has ended (R135). -/
def PlanRun.ended (r : PlanRun) : PlanRun := { r with parallel := none, wait := .nothing }

theorem State.endRunRecord_rests (hend : s.endStep r = s) (hp : r.parallel = none ∨ r.limitRaised = true) :
    s.endRunRecord r = s.modRun PlanRun.ended := by
  unfold State.endRunRecord
  dsimp only
  rw [hend, if_neg (by obtain hp | hp := hp <;> simp [hp])]
  rfl

theorem State.withdrawClose_other {b : Nat} {p : Party} (h : ∀ c, (s.brk b).slot = some c → c.requester ≠ .party p) :
    s.withdrawClose b p = s := by
  unfold State.withdrawClose
  split
  · rfl
  · next c hc => rw [if_neg (by simp [h c hc])]

theorem State.currentLineup_same (h : s.seq.lineupDue = false) : s.currentLineup = s := by
  rw [State.currentLineup, if_neg (by simp [h])]

/-- With the pending slot empty HALTED records its entry alone. -/
theorem State.halt_eq (h : s.seq.slot = none) (y : HaltReason) : s.halt y =
    (s.setSeqState (.halted y)).event .transfer 13 (s.seq.lastPlan.getD Config.noneField) 7 (some y.code) := by
  have hslot : (s.setSeqState (.halted y)).seq.slot = none := h
  rw [State.halt, State.emptySlot, hslot]

/-! ### A plan fails (R134) -/

section
variable (hend : s.endRunRecord r = u) (hdue : u.seq.lineupDue = false) (hstop : r.stopMark = false)
include hend hdue hstop

theorem State.failPlan_abort {p : Nat} (hc : r.cause = .abort p) : s.failPlan r = u.halt .abortFailed := by
  unfold State.failPlan
  dsimp only
  rw [hend, State.currentLineup_same hdue, if_neg (by simp [hstop]), hc]

theorem State.failPlan_stops (hc : ∀ p, r.cause ≠ .abort p)
    (h : u.fld .plan r.plan 3 = 0xFFFF ∨ u.fld .plan (u.fld .plan r.plan 3) 5 = 0) : s.failPlan r = u.halt .stepFailed := by
  unfold State.failPlan
  dsimp only
  rw [hend, State.currentLineup_same hdue, if_neg (by simp [hstop])]
  split
  · exact absurd ‹_› (hc _)
  · rw [if_pos (by simpa [State.planDefined, Config.noneField] using h)]

theorem State.failPlan_notApplicable (hc : ∀ p, r.cause ≠ .abort p) (h : u.fld .plan r.plan 3 ≠ 0xFFFF)
    (hdef : u.fld .plan (u.fld .plan r.plan 3) 5 ≠ 0) (hfrom : u.planFrom (u.fld .plan r.plan 3) = false) :
    s.failPlan r = u.halt .abortNotApplicable := by
  unfold State.failPlan
  dsimp only
  rw [hend, State.currentLineup_same hdue, if_neg (by simp [hstop])]
  split
  · exact absurd ‹_› (hc _)
  · rw [if_neg (by simp [State.planDefined, Config.noneField, h, hdef]), if_pos (by simp [hfrom])]

theorem State.failPlan_starts (hc : ∀ p, r.cause ≠ .abort p) (h : u.fld .plan r.plan 3 ≠ 0xFFFF)
    (hdef : u.fld .plan (u.fld .plan r.plan 3) 5 ≠ 0) (hfrom : u.planFrom (u.fld .plan r.plan 3) = true) :
    s.failPlan r = u.startPlan (u.fld .plan r.plan 3) (.abort r.plan) := by
  unfold State.failPlan
  dsimp only
  rw [hend, State.currentLineup_same hdue, if_neg (by simp [hstop])]
  split
  · exact absurd ‹_› (hc _)
  · rw [if_neg (by simp [State.planDefined, Config.noneField, h, hdef]), if_neg (by simp [hfrom])]

end

/-- The state in which the failure of a step is recorded. -/
def State.stepFailed (u : State) (r : PlanRun) (value : Nat) : State :=
  (u.modSeq (fun q => { q with lastStepFailed := some value })).event .transfer 12 r.plan 4 (some value)

theorem State.failStep_eq (h : u.seq.state = .running r) (code reason : Nat) :
    u.failStep code reason = (u.stepFailed r (r.step + 256 * code + 65536 * reason)).failPlan r := by
  have hrun : u.run? = some r := by rw [State.run?, h]
  rw [State.failStep, hrun]
  rfl

namespace Poised
variable {y : Sequencer}

theorem refl (hw : s.work = []) : Poised s s s.seq where
  touches := .refl _ s
  work := hw
  par := rfl
  mgmt := rfl
  seq := rfl

theorem breakers (h : Poised s u y) : u.breakers = s.breakers := h.touches.stands .breakers (by decide)

theorem stepFailed (h : Poised s u y) (r : PlanRun) (value : Nat) :
    Poised s (u.stepFailed r value) { y with lastStepFailed := some value } :=
  (h.modSeq (fun q => { q with lastStepFailed := some value })).event .transfer 12 r.plan 4 (some value)

theorem planEnded (h : Poised s u y) (hr : y.state = .running r) :
    Poised s (u.modRun PlanRun.ended) { y with state := .running r.ended } := by
  have hended := h.modSeq (fun q => { q with state := (match q.state with | .running r => .running r.ended | x => x) })
  rw [hr] at hended
  exact hended

theorem halt (h : Poised s u y) (hslot : y.slot = none) (z : HaltReason) :
    Poised s (u.halt z) { y with state := .halted z } := by
  rw [State.halt_eq (by rw [h.seq, hslot])]
  exact (h.setSeqState (.halted z)).event _ _ _ _ _

theorem endRunRecord (h : Poised s u y) (hrests : s.UnitRests) (hp : r.parallel = none ∨ r.limitRaised = true)
    (hclose : [2, 3, 4].contains (s.stepField r.plan r.step 0) = true →
      ∀ c, (s.brk (s.stepBreaker r)).slot = some c → c.requester ≠ .party .sequencer) :
    u.endRunRecord r = u.modRun PlanRun.ended := by
  refine State.endRunRecord_rests (State.endStep_rests (hrests.congr h.par) fun hk => ?_) hp
  have hstep : ∀ i, u.stepField r.plan r.step i = s.stepField r.plan r.step i := fun i => h.fld ..
  refine State.withdrawClose_other fun c hc => ?_
  rw [hstep] at hk
  rw [State.brk, h.breakers, State.stepBreaker, hstep] at hc
  exact hclose hk c hc

end Poised

theorem State.halt_newest (h : s.seq.slot = none) (y : HaltReason) :
    (s.halt y).newest.map (fun x => (x.cls, x.priority, x.code, x.value)) = some (.transfer, 13, 7, some y.code) := by
  rw [State.halt_eq h, State.event_newest]
  rfl

end
/-! ### A WAIT_POINT step reaches its timeout (R128) -/

section
variable {s : State} {r : PlanRun}

theorem stepExpiry_zero (hrun : s.seq.state = .running r) (h : s.stepField r.plan r.step 4 = 0) : s.stepExpiry = s := by
  have hrun? : s.run? = some r := by rw [State.run?, hrun]
  rw [State.stepExpiry, hrun?]
  dsimp only
  rw [if_neg (by simp [h])]

/-- What the timeout of a step that has nothing else to end leads to: its failure is recorded and its plan fails. -/
theorem stepExpiry_fails (hs : s.Quiet) (hrun : s.seq.state = .running r) (h0 : s.stepField r.plan r.step 4 ≠ 0)
    (ht : s.stepField r.plan r.step 4 ≤ r.timer) (hn : r.step < s.fld .plan r.plan 5) (hkind : s.stepField r.plan r.step 0 = 5)
    (hp : r.parallel = none) (hrests : s.UnitRests) :
    ∃ v u : State, exec .stepTimeout s = finish s (v.failPlan r) ∧ v.endRunRecord r = u ∧
      Poised s u { s.seq with state := .running r.ended, lastStepFailed := some (r.step + 256 * 7) } := by
  have hrun? : s.run? = some r := by rw [State.run?, hrun]
  have hexpires : s.stepExpiry = s.failStep 7 0 := by
    rw [State.stepExpiry, hrun?]
    dsimp only
    rw [if_pos (by simp [h0, ht, hn])]
  have hfailed := (Poised.refl hs.1).stepFailed r (r.step + 256 * 7 + 65536 * 0)
  refine ⟨_, _, congrArg (finish s) (hexpires.trans (State.failStep_eq hrun 7 0)),
    hfailed.endRunRecord hrests (.inl hp) (fun hk => ?_), hfailed.planEnded hrun⟩
  rw [hkind] at hk
  exact absurd hk (by decide)

/-- HALTED as the end of such a command. -/
theorem Poised.halts {u : State} {y : Sequencer} (h : Poised s u y) (hs : s.Quiet) (hslot : y.slot = none) (z : HaltReason) :
    ∃ t, Machine.finish s (u.halt z) = .next t ∧ t.seq = { y with state := .halted z } ∧
      t.newest.map (fun x => (x.cls, x.priority, x.code, x.value)) = some (.transfer, 13, 7, some z.code) ∧
      Only [.links, .events, .seq] s t := by
  obtain ⟨t, hend, hseq, hnewest, honly⟩ := (h.halt hslot z).finish hs
  exact ⟨t, hend, hseq, by rw [hnewest, State.halt_newest (by rw [h.seq, hslot])], honly⟩

end

/-- Settles the first part of O31. -/
theorem stepTimeoutHalts : Clause.StepTimeoutHalts := by
  intro s r hs hrun
  refine ⟨fun h0 => ?_, fun h0 ht hn hkind hcause hstop hp habort hdue hslot hch htok hlist => ?_⟩
  · exact (congrArg (finish s) (stepExpiry_zero hrun h0)).trans (finish_idle hs)
  · obtain ⟨v, u, hexec, hend, hu⟩ := stepExpiry_fails hs hrun h0 ht hn hkind hp ⟨hch, htok, hlist⟩
    rw [State.failPlan_stops hend (by rw [hu.seq, ← hdue]) hstop (by simp [hcause]) (.inl ((hu.fld ..).trans habort))] at hexec
    obtain ⟨t, hfinish, hseq, hnewest, honly⟩ := hu.halts hs hslot .stepFailed
    exact ⟨t, hexec.trans hfinish, hseq, hnewest, honly⟩

/-! ### The parallel limit (R133) -/

section
variable {s : State} {r : PlanRun}

/-- The state in which PARALLEL_LIMIT is asked for at the departing breaker. -/
def State.limitRaised (s : State) (d : Nat) : State :=
  ((s.askAdd d .parallelLimit).event .transfer 14 d 5 none).modRun (fun r => { r with limitRaised := true })

/-- A run record whose limit has been raised. -/
def PlanRun.raised (r : PlanRun) : PlanRun := { r with limitRaised := true }

@[simp] theorem State.modRun_work (f : PlanRun → PlanRun) : (s.modRun f).work = s.work := rfl
@[simp] theorem State.modRun_par (f : PlanRun → PlanRun) : (s.modRun f).par = s.par := rfl
@[simp] theorem State.modRun_mgmt (f : PlanRun → PlanRun) : (s.modRun f).mgmt = s.mgmt := rfl
@[simp] theorem State.modRun_breakers (f : PlanRun → PlanRun) : (s.modRun f).breakers = s.breakers := rfl

theorem State.modRun_seq (f : PlanRun → PlanRun) {q : Sequencer} (h : s.seq = q) (hq : q.state = .running r) :
    (s.modRun f).seq = { q with state := .running (f r) } := by
  subst h
  unfold State.modRun State.modSeq
  dsimp only
  rw [hq]

theorem State.limitRaised_work (d : Nat) : (s.limitRaised d).work = s.work := by simp [State.limitRaised]
theorem State.limitRaised_par (d : Nat) : (s.limitRaised d).par = s.par := by simp [State.limitRaised]
theorem State.limitRaised_mgmt (d : Nat) : (s.limitRaised d).mgmt = s.mgmt := by simp [State.limitRaised]
theorem State.limitRaised_breakers (d : Nat) : (s.limitRaised d).breakers =
    { s.breakers with requests := s.breakers.requests ++ [⟨true, d, .parallelLimit⟩] } := by simp [State.limitRaised]
theorem State.limitRaised_seq (d : Nat) (h : s.seq.state = .running r) :
    (s.limitRaised d).seq = { s.seq with state := .running r.raised } :=
  State.modRun_seq _ (State.event_seq ..) h

theorem Touches.modRun {ps : List StatePart} {u : State} (h : Touches ps s u) (f : PlanRun → PlanRun)
    (hs : .seq ∈ ps := by decide) : Touches ps s (u.modRun f) := h.modSeq _ hs

theorem State.limitRaised_touches (d : Nat) : Touches [.links, .events, .breakers, .seq] s (s.limitRaised d) := by
  have hasked : Touches [.links, .events, .breakers, .seq] s (s.askAdd d .parallelLimit) := (Touches.refl _ s).breakers _
  have hrecorded := hasked.event .transfer 14 d 5 none
  exact hrecorded.modRun _

theorem limitParallel_below {n : Nat} (hrun : s.seq.state = .running r) (hp : r.parallel = some n)
    (h : n < s.fld .plan r.plan 4) : s.limitParallel = s := by
  have hrun? : s.run? = some r := by rw [State.run?, hrun]
  rw [State.limitParallel, hrun?]
  dsimp only
  rw [if_neg (by simp [hp, h])]

theorem limitParallel_reached {n d : Nat} (hrun : s.seq.state = .running r) (hp : r.parallel = some n)
    (h : s.fld .plan r.plan 4 ≤ n) (hl : r.limitRaised = false) (hd : r.departing = some d) :
    s.limitParallel = (s.limitRaised d).failStep 8 0 := by
  have hrun? : s.run? = some r := by rw [State.run?, hrun]
  rw [State.limitParallel, hrun?]
  dsimp only
  rw [if_pos (by simp [hp, h, hl]), State.raiseLimit, hd]
  rfl

end

/-- Settles the second part of O31. -/
theorem parallelLimitTripsTheDeparting : Clause.ParallelLimitTripsTheDeparting := by
  intro s r n d hs hrun hp hl hd
  refine ⟨fun h => ?_, fun h hkind hcause hstop habort hdue hslot hch htok hlist => ?_⟩
  · exact (congrArg (finish s) (limitParallel_below hrun hp h)).trans (finish_idle hs)
  have hseq := State.limitRaised_seq d hrun
  have hrests : (s.limitRaised d).UnitRests := State.UnitRests.congr ⟨hch, htok, hlist⟩ (State.limitRaised_par d)
  have hfld : ∀ x e id, (s.limitRaised d).fld x e id = s.fld x e id := fun x e id => by
    rw [State.fld, State.fld, State.limitRaised_mgmt]
  have hfailed := (Poised.refl ((State.limitRaised_work d).trans hs.1)).stepFailed r.raised (r.step + 256 * 8 + 65536 * 0)
  have hstep : (s.limitRaised d).stepField r.raised.plan r.raised.step 0 = 5 := (hfld ..).trans hkind
  have hend := hfailed.endRunRecord (r := r.raised) hrests (.inr rfl) (fun hk => by
    rw [hstep] at hk
    exact absurd hk (by decide))
  have hended := hfailed.planEnded (r := r.raised) (by rw [hseq])
  have hexec : exec .parallelLimit s = finish s (((s.limitRaised d).stepFailed r.raised (r.step + 256 * 8 + 65536 * 0)).failPlan
      r.raised) :=
    congrArg (finish s) ((limitParallel_reached hrun hp h hl hd).trans (State.failStep_eq (by rw [hseq]) 8 0))
  rw [State.failPlan_stops hend (by rw [hended.seq, hseq]; exact hdue) hstop (by simp [PlanRun.raised, hcause])
    (.inl ((hended.fld ..).trans ((hfld ..).trans habort)))] at hexec
  have hhalt := hended.halt (by rw [hseq]; exact hslot) .stepFailed
  have htouch := (State.limitRaised_touches d).trans (hhalt.touches.mono (qs := [.links, .events, .breakers, .seq]) (by decide))
  have hset : ∀ g, (s.limitRaised d).setpointOf g = s.setpointOf g :=
    State.setpointOf_congr (by rw [State.limitRaised_par]) (by rw [State.limitRaised_mgmt])
  obtain ⟨es, hfinish, honly⟩ := finish_settled hs htouch hhalt.work (fun g => (hhalt.setpointOf g).trans (hset g))
  refine ⟨_, hexec.trans hfinish, ?_, ?_, honly⟩
  · rw [State.endedWith_breakers, hhalt.breakers, State.limitRaised_breakers]
  · rw [State.endedWith_seq, hhalt.seq, hseq]

/-- Settles the third part of O31. -/
theorem failedPlanAborts : Clause.FailedPlanAborts := by
  intro s r hs hrun h0 ht hn hkind hstop hp hdue hslot hch htok hlist
  obtain ⟨v, u, hexec, hend, hu⟩ := stepExpiry_fails hs hrun h0 ht hn hkind hp ⟨hch, htok, hlist⟩
  have hdue' : u.seq.lineupDue = false := by rw [hu.seq, ← hdue]
  have hfrom : ∀ p, u.planFrom p = true ↔ s.fld .plan p 1 = 8 ∨ s.seq.lineup = .is (s.fld .plan p 1) := fun p => by
    simp [State.planFrom, hu.fld, hu.seq]
  have hhalts : ∀ z : HaltReason, v.failPlan r = u.halt z → ∃ t, exec .stepTimeout s = .next t ∧
      t.seq = { s.seq with state := .halted z, lastStepFailed := some (r.step + 256 * 7) } ∧
      t.newest.map (fun x => (x.cls, x.priority, x.code, x.value)) = some (.transfer, 13, 7, some z.code) ∧
      Only [.links, .events, .seq] s t := fun z hz => by
    rw [hz] at hexec
    obtain ⟨t, hfinish, hseq, hnewest, honly⟩ := hu.halts hs hslot z
    exact ⟨t, hexec.trans hfinish, hseq, hnewest, honly⟩
  refine ⟨fun ⟨p, hc⟩ => ?_, fun hc hno hdef => ?_, fun hc hno hdef husable => ?_, fun hc hno hdef husable htimed => ?_⟩
  · exact hhalts .abortFailed (State.failPlan_abort hend hdue' hstop hc)
  · exact hhalts .stepFailed (State.failPlan_stops hend hdue' hstop (not_exists.1 hc) (.inr (by rw [hu.fld, hu.fld, hdef])))
  · exact hhalts .abortNotApplicable (State.failPlan_notApplicable hend hdue' hstop (not_exists.1 hc) (by rwa [hu.fld])
      (by rwa [hu.fld, hu.fld]) (by rw [← Bool.not_eq_true, hfrom, hu.fld]; exact husable))
  · rw [State.failPlan_starts hend hdue' hstop (not_exists.1 hc) (by rwa [hu.fld]) (by rwa [hu.fld, hu.fld])
      (by rw [hfrom, hu.fld]; exact husable), hu.fld] at hexec
    obtain ⟨t, hfinish, hseq, hnewest, honly⟩ := (hu.planStarted (s.fld .plan r.plan 3) (.abort r.plan)).finish hs
    have hdrains := Drains.startPlan (c := .abort r.plan) hu.work ((hu.fld ..).trans_ne hdef) ((hu.fld ..).trans htimed)
    exact ⟨t, hexec.trans ((congrArg Host.Outcome.next hdrains.settle).trans hfinish), hseq,
      by rw [hnewest, State.planStarted_newest_map]; rfl, honly⟩

/-- Settles O31. -/
theorem stepAndParallelLimitsHalt : Obligations.StepAndParallelLimitsHalt :=
  ⟨stepTimeoutHalts, parallelLimitTripsTheDeparting, failedPlanAborts⟩


end Sys2Proof.Machine
end

section
/-! # Waits end their steps (O32) -/

namespace Sys2Proof.Machine

section
variable {s u v : State} {r : PlanRun}

/-! ### The next step, and the end of the steps (R128, R134) -/

/-- The record of a run that goes to its next step. -/
def PlanRun.onward (r : PlanRun) : PlanRun := { r with step := r.step + 1, wait := .nothing }

theorem State.run_running (h : s.seq.state = .running r) : s.run? = some r := by rw [State.run?, h]

theorem State.completeStep_goesOn (hrun : s.seq.state = .running r) (hstop : r.stopMark = false)
    (hkind : s.stepField r.plan r.step 0 ≠ 10) : s.completeStep = (s.modRun PlanRun.onward).post .seqBegin := by
  rw [State.completeStep, State.run_running hrun]
  dsimp only
  rw [if_neg (by simp [hstop]), if_neg (by simp [hkind])]
  rfl

theorem State.beginStep_time (hrun : u.seq.state = .running r) (hstop : r.stopMark = false)
    (hn : r.step < u.fld .plan r.plan 5) (hkind : u.stepField r.plan r.step 0 = 6) :
    u.beginStep = u.modSeq (fun q => { q with state := .running { r with timer := 0, wait := .time } }) := by
  have hkind' : ∀ f, (u.modRun f).stepField r.plan r.step 0 = 6 := fun f => hkind
  unfold State.beginStep
  rw [State.run_running hrun]
  dsimp only
  rw [if_neg (by omega), if_neg (by simp [hstop]), State.beginKind]
  dsimp only
  rw [hkind']
  simp [State.setWait, State.modRun, State.modSeq, hrun]

theorem State.beginStep_last (hrun : u.seq.state = .running r) (hn : u.fld .plan r.plan 5 ≤ r.step) :
    u.beginStep = u.finishPlan := by
  unfold State.beginStep
  rw [State.run_running hrun]
  dsimp only
  rw [if_pos hn]

/-- What the completion of a step hands on. -/
theorem Drains.onward {n : Nat} (hw : s.work = []) (h : Drains n (s.modRun PlanRun.onward).beginStep v) :
    Drains (n + 1) ((s.modRun PlanRun.onward).post .seqBegin) v := by
  have hposted : (s.modRun PlanRun.onward).post .seqBegin = { s.modRun PlanRun.onward with work := [.seqBegin] } := by
    rw [State.post, State.modRun_work, hw, List.nil_append]
  have hhandle : State.handle { { s.modRun PlanRun.onward with work := [.seqBegin] } with work := [] } .seqBegin =
      (s.modRun PlanRun.onward).beginStep := by
    have hwork : (s.modRun PlanRun.onward).work = [] := hw
    rw [← hwork]
    rfl
  rw [hposted]
  exact .last rfl (.of_eq hhandle h)

theorem State.finishPlan_reached (hrun : u.seq.state = .running r) (hstop : r.stopMark = false)
    (hgoal : u.fld .plan r.plan 2 = 8 ∨ u.lineupMatches (u.fld .plan r.plan 2) = true)
    (hend : (u.event .transfer 8 r.plan 6 none).endRunRecord r = v) (hdue : v.seq.lineupDue = false) :
    (∀ p, r.cause = .abort p → u.finishPlan = v.halt .abortCompleted) ∧
      ((∀ p, r.cause ≠ .abort p) → u.finishPlan = v.goLineup) := by
  unfold State.finishPlan
  rw [State.run_running hrun]
  dsimp only
  rw [if_neg (by simp [hstop]), if_pos (by simpa using hgoal), hend, State.currentLineup_same hdue]
  refine ⟨fun p hp => by rw [hp], fun hp => ?_⟩
  split
  · exact absurd ‹_› (hp _)
  · rfl

theorem State.finishPlan_missed (hrun : u.seq.state = .running r) (hstop : r.stopMark = false)
    (hgoal : ¬ (u.fld .plan r.plan 2 = 8 ∨ u.lineupMatches (u.fld .plan r.plan 2) = true)) :
    u.finishPlan = u.failStep 9 0 := by
  unfold State.finishPlan
  rw [State.run_running hrun]
  dsimp only
  rw [if_neg (by simp [hstop]), if_neg (by simpa using hgoal)]

/-! ### WAIT_TIME and WAIT_POINT (R132) -/

theorem State.timeWaited_eq (hrun : s.seq.state = .running r) (hw : r.wait = .time) :
    s.timeWaited = if s.stepField r.plan r.step 1 ≤ r.timer then s.completeStep else s := by
  rw [State.timeWaited, State.run_running hrun]
  simp [hw]

theorem State.pointMet_eq (hrun : s.seq.state = .running r) (hw : r.wait = .point) :
    s.pointMet = if s.termHolds (s.stepField r.plan r.step 1) then s.completeStep else s := by
  rw [State.pointMet, State.run_running hrun]
  simp [hw]

/-- The points see a run's parallel alone. -/
theorem State.point_running {r' : PlanRun} (hrun : s.seq.state = .running r) (hp : r'.parallel = r.parallel) (n : Nat) :
    (s.modSeq (fun q => { q with state := .running r' })).point n = s.point n := by
  have hrun? : s.run? = some r := State.run_running hrun
  have hmod? : (s.modSeq (fun q => { q with state := .running r' })).run? = some r' := rfl
  have hpar : (s.modSeq (fun q => { q with state := .running r' })).parallelRuns = s.parallelRuns := by
    rw [State.parallelRuns, State.parallelRuns, hrun?, hmod?, Option.any_some, Option.any_some, hp]
  have hstate : (s.modSeq (fun q => { q with state := .running r' })).seq.state = .running r' := rfl
  unfold State.point
  rw [hpar, hrun?, hmod?, hrun, hstate]
  rfl

/-- A command that leaves the run at its next step, a WAIT_TIME. -/
theorem finish_waits (hs : s.Quiet) (hrun : s.seq.state = .running r) (hstop : r.stopMark = false)
    (hn : r.step + 1 < s.fld .plan r.plan 5) (hnext : s.stepField r.plan (r.step + 1) 0 = 6)
    (hkind : s.stepField r.plan r.step 0 ≠ 10) : finish s s.completeStep = .next { s with
      seq := { s.seq with state := .running { r with step := r.step + 1, timer := 0, wait := .time } } } := by
  have honward : (s.modRun PlanRun.onward).seq = { s.seq with state := .running r.onward } := State.modRun_seq _ rfl hrun
  have hbegin : (s.modRun PlanRun.onward).beginStep = s.modSeq (fun q =>
      { q with state := .running { r with step := r.step + 1, timer := 0, wait := .time } }) := by
    rw [State.beginStep_time (u := s.modRun PlanRun.onward) (r := r.onward) (by rw [honward]) hstop hn hnext]
    unfold State.modSeq
    rw [honward]
    rfl
  have hdrains := Drains.onward hs.1 (.of_eq hbegin (.done hs.1))
  rw [State.completeStep_goesOn hrun hstop hkind]
  refine (congrArg Host.Outcome.next hdrains.settle).trans ?_
  exact finish_exact s hs.1 hs.risen hs.closing hs.2.2.1 (fun g => rfl) (fun n => State.point_running hrun rfl n) hs.2.2.2.2.1

end

/-- Settles the first part of O32. -/
theorem waitsComplete : Clause.WaitsComplete := by
  intro s r hs hrun hstop hn hnext
  refine ⟨fun hw hkind ht => ?_, fun hw ht => ?_, fun hw hkind hterm => ?_, fun hw hterm => ?_⟩
  · have hexec : exec .waitTimeExpiry s = finish s s.completeStep :=
      congrArg (finish s) ((State.timeWaited_eq hrun hw).trans (if_pos ht))
    exact hexec.trans (finish_waits hs hrun hstop hn hnext (by omega))
  · have hexec : exec .waitTimeExpiry s = finish s s :=
      congrArg (finish s) ((State.timeWaited_eq hrun hw).trans (if_neg (by omega)))
    exact hexec.trans (finish_idle hs)
  · have hexec : exec .waitPointMet s = finish s s.completeStep :=
      congrArg (finish s) ((State.pointMet_eq hrun hw).trans (if_pos ((s.termHolds_iff _).2 hterm)))
    exact hexec.trans (finish_waits hs hrun hstop hn hnext (by omega))
  · have hexec : exec .waitPointMet s = finish s s :=
      congrArg (finish s) ((State.pointMet_eq hrun hw).trans (if_neg ((s.termHolds_iff _).not.2 hterm)))
    exact hexec.trans (finish_idle hs)

section
variable {s u v : State} {r : PlanRun} {y : Sequencer}

/-- The state that the sequencer takes by a line-up (R125). -/
def Lineup.state : Lineup → SeqState
  | .is k => .idle k
  | .none => .noLineup
  | .unknown => .init

/-- The sequencer follows the line-up after a plan. -/
theorem Poised.follows (h : Poised s u y) (hr : y.state = .running r) (hl : s.lines.lockout = false)
    (hslot : y.slot = none) (hauto : y.autoEffective = false) :
    ∃ n ≤ 1, ∃ w, Drains n u.goLineup w ∧ w.newest = u.newest ∧ Poised s w { y with state := y.lineup.state } := by
  have hlines : u.lines = s.lines := h.touches.stands .lines (by decide)
  have hl' : u.lines.lockout = false := by rw [hlines, hl]
  have hstate : ∀ k, u.seq.state ≠ .idle k := by simp [h.seq, hr]
  obtain ⟨x, hy⟩ : ∃ x, y.lineup = x := ⟨_, rfl⟩
  rw [show y.lineup.state = x.state by rw [hy]]
  cases x with
  | unknown =>
    have hgoes := State.goLineup_unknown hl' (by rw [h.seq, hy])
    exact ⟨0, by omega, _, .of_eq hgoes (.done h.work), rfl, h.setSeqState .init⟩
  | none =>
    have hgoes := State.goLineup_none hl' (by rw [h.seq, hy])
    exact ⟨0, by omega, _, .of_eq hgoes (.done h.work), rfl, h.setSeqState .noLineup⟩
  | is k =>
    have hgoes := State.goLineup_is (k := k) hl' (by rw [h.seq, hy]) (hstate k)
    have hidle := h.setSeqState (.idle k)
    have hrests : (u.setSeqState (.idle k)).enteredIdle k = u.setSeqState (.idle k) :=
      (State.enteredIdle_empty rfl (by rw [hidle.seq, hslot])).trans (State.evaluateRules_off (by rw [hidle.seq, hauto]))
    exact ⟨1, le_refl 1, _, .of_eq hgoes (.idleEntered h.work (.of_eq hrests (.done hidle.work))), rfl, hidle⟩

/-- A line-up is judged by the tables and the breakers. -/
theorem State.lineupMatches_congr (hm : u.mgmt = s.mgmt) (hb : u.breakers = s.breakers) (k : Nat) :
    u.lineupMatches k = s.lineupMatches k := by
  unfold State.lineupMatches State.pairMatches State.fld State.brk
  rw [hm, hb]

theorem State.completed_newest (s : State) (p : Nat) (f : PlanRun → PlanRun) :
    ((s.event .transfer 8 p 6 none).modRun f).newest.map (fun x => (x.cls, x.priority, x.code, x.value)) =
      some (.transfer, 8, 6, none) := by
  show (s.event .transfer 8 p 6 none).newest.map _ = _
  rw [State.event_newest]
  rfl

end

theorem nth_default {α : Type} [Inhabited α] {l : List α} {i : Nat} (h : l.length ≤ i) : nth l i = default :=
  List.getD_eq_default _ _ h

/-- Settles the second part of O32. -/
theorem lastStepEndsThePlan : Clause.LastStepEndsThePlan := by
  intro s r hs hrun hstop hp hwait hkind ht hlast hdue hslot hlockout hauto hch htok hlist hclose
  have hrests : s.UnitRests := ⟨hch, htok, hlist⟩
  have hcompletes : exec .waitTimeExpiry s = finish s ((s.modRun PlanRun.onward).post .seqBegin) :=
    congrArg (finish s) ((State.timeWaited_eq hrun hwait).trans ((if_pos ht).trans
      (State.completeStep_goesOn hrun hstop (by omega))))
  have hon : Poised s (s.modRun PlanRun.onward) { s.seq with state := .running r.onward } :=
    { touches := (Touches.refl _ s).modRun _, work := hs.1, par := rfl, mgmt := rfl, seq := State.modRun_seq _ rfl hrun }
  have hrun' : (s.modRun PlanRun.onward).seq.state = .running r.onward := by rw [hon.seq]
  have hends : ∀ {n w t}, Drains n (s.modRun PlanRun.onward).finishPlan w → n ≤ 2 → finish s w = .next t →
      exec .waitTimeExpiry s = .next t := fun {n w t} hd hn hw => by
    have hdrains := Drains.onward hs.1 (.of_eq (State.beginStep_last (u := s.modRun PlanRun.onward) hrun' hlast.ge) hd)
    exact hcompletes.trans ((congrArg Host.Outcome.next (hdrains.settle (le_trans (Nat.add_le_add_right hn 1) (by decide)))).trans hw)
  have hgoal : ((s.modRun PlanRun.onward).fld .plan r.onward.plan 2 = 8 ∨
      (s.modRun PlanRun.onward).lineupMatches ((s.modRun PlanRun.onward).fld .plan r.onward.plan 2) = true) ↔
      (s.fld .plan r.plan 2 = 8 ∨ Clause.pairsMatch s (s.fld .plan r.plan 2)) := by
    rw [State.lineupMatches_congr hon.mgmt hon.breakers, hon.fld, State.lineupMatches_iff]
    rfl
  have hslots : ∀ c, (s.brk (s.stepBreaker r.onward)).slot = some c → c.requester ≠ .party .sequencer := by
    intro c hc
    by_cases hb : s.stepBreaker r.onward < 24
    · exact hclose _ hb c hc
    · rw [State.brk, nth_default (by rw [hs.recs_length]; omega)] at hc
      cases hc
  have hcompleted := hon.event .transfer 8 r.plan 6 none
  have hend := hcompleted.endRunRecord (r := r.onward) hrests (.inl hp) (fun _ => hslots)
  have hended := hcompleted.planEnded (r := r.onward) rfl
  refine ⟨fun hreached hc => ?_, fun hreached ⟨p, hc⟩ => ?_, fun hmissed hc habort => ?_⟩
  · obtain ⟨-, hgoes⟩ := State.finishPlan_reached hrun' hstop (hgoal.2 hreached) hend (by rw [hended.seq, ← hdue])
    obtain ⟨n, hn, w, hdrains, hnewest, hw⟩ := hended.follows (r := r.onward.ended) rfl hlockout hslot hauto
    obtain ⟨t, hfinish, hseq, hlast, honly⟩ := hw.finish hs
    refine ⟨t, hends (.of_eq (hgoes (not_exists.1 hc)) hdrains) (by omega) hfinish, ?_, ?_, honly⟩
    · refine hseq.trans (congrArg (fun z => ({ s.seq with state := z } : Sequencer)) ?_)
      show s.seq.lineup.state = _
      cases s.seq.lineup <;> rfl
    · dsimp only
      rw [hlast, hnewest]
      exact State.completed_newest _ _ _
  · obtain ⟨hhalts, -⟩ := State.finishPlan_reached hrun' hstop (hgoal.2 hreached) hend (by rw [hended.seq, ← hdue])
    have hhalt := hended.halt hslot .abortCompleted
    obtain ⟨t, hfinish, hseq, hnewest, honly⟩ := hended.halts hs hslot .abortCompleted
    exact ⟨t, hends (.of_eq (hhalts p hc) (.done hhalt.work)) (by omega) hfinish, hseq, hnewest, honly⟩
  · have hfails := State.finishPlan_missed hrun' hstop (hgoal.not.2 hmissed)
    have hfailed := hon.stepFailed r.onward (r.onward.step + 256 * 9 + 65536 * 0)
    have hend := hfailed.endRunRecord (r := r.onward) hrests (.inl hp) (fun _ => hslots)
    have hended := hfailed.planEnded (r := r.onward) rfl
    have hplan := State.failPlan_stops hend (by rw [hended.seq, ← hdue]) hstop (by simp [PlanRun.onward, hc])
      (.inl ((hended.fld ..).trans habort))
    have hhalt := hended.halt hslot .stepFailed
    obtain ⟨t, hfinish, hseq, hnewest, honly⟩ := hended.halts hs hslot .stepFailed
    refine ⟨t, hends (.of_eq (hfails.trans ((State.failStep_eq hrun' 9 0).trans hplan)) (.done hhalt.work)) (by omega) hfinish,
      ?_, hnewest, honly⟩
    rw [hseq, ← hlast]
    rfl

/-- Settles O32. -/
theorem waitsEndTheirSteps : Obligations.WaitsEndTheirSteps := ⟨waitsComplete, lastStepEndsThePlan⟩


end Sys2Proof.Machine
end

section
/-! # BREAKER-OPEN and BREAKER-CLOSE (O52, O53) -/

namespace Sys2Proof.Machine

/-! ### A COMMAND frame is handed over (R11, R14) -/

section
variable (s : State) (b : Nat) (a : Action) (tag : Nat) (o : Origins)

@[simp] theorem State.sendCommand_work : (s.sendCommand b a tag o).work = s.work := rfl
@[simp] theorem State.sendCommand_lines : (s.sendCommand b a tag o).lines = s.lines := rfl
@[simp] theorem State.sendCommand_breakers : (s.sendCommand b a tag o).breakers = s.breakers := rfl
@[simp] theorem State.sendCommand_brk (n : Nat) : (s.sendCommand b a tag o).brk n = s.brk n := rfl
@[simp] theorem State.sendCommand_seq : (s.sendCommand b a tag o).seq = s.seq := rfl
@[simp] theorem State.sendCommand_par : (s.sendCommand b a tag o).par = s.par := rfl
@[simp] theorem State.sendCommand_mgmt : (s.sendCommand b a tag o).mgmt = s.mgmt := rfl
@[simp] theorem State.sendCommand_events : (s.sendCommand b a tag o).events = s.events := rfl
@[simp] theorem State.sendCommand_eventLabel : (s.sendCommand b a tag o).eventLabel = s.eventLabel := rfl
@[simp] theorem State.sendCommand_ownAddress : (s.sendCommand b a tag o).ownAddress = s.ownAddress := rfl
@[simp] theorem State.sendCommand_responseSeq :
    (s.sendCommand b a tag o).links.responseSeq = s.links.responseSeq := rfl

/-- The frame that is handed over. -/
def State.commandFrame : OutFrame :=
  ⟨s.ownAddress, s.fld .breaker b 2, s.links.commandSeq, .command b (s.fld .breaker b 3) a tag o, false, false⟩

theorem State.sendCommand_port (l : Link) : (s.sendCommand b a tag o).port l =
    if (s.port l).up then ((s.port l).admitCommand b a (s.commandFrame b a tag o)).1 else s.port l := by
  cases l <;> (simp only [State.sendCommand, State.onUpLinks, State.port, State.commandFrame]; split <;> simp [*])

/-- Reserved places stand. -/
theorem LinkPort.admitCommand_reserved {p : LinkPort} {f : OutFrame} {n : Nat} (h : BulkPlace.reserved n ∈ p.bulk) :
    BulkPlace.reserved n ∈ (p.admitCommand b a f).1.bulk := by
  have hkept : BulkPlace.reserved n ∈ (p.removeCommand b).bulk := List.mem_filter.2 ⟨h, rfl⟩
  cases a <;> exact hkept

end

theorem Waiting.sendCommand {s u : State} (h : Waiting s u) (b : Nat) (a : Action) (tag : Nat) (o : Origins) :
    Waiting s (u.sendCommand b a tag o) where
  own := h.own
  responseSeq := h.responseSeq
  place l hl := by
    rw [State.sendCommand_port]
    split
    · exact LinkPort.admitCommand_reserved b a (h.place l hl)
    · exact h.place l hl

theorem Touches.sendCommand {s u : State} {ps : List StatePart} (h : Touches ps s u) (b : Nat) (a : Action) (tag : Nat)
    (o : Origins) (hl : .links ∈ ps := by decide) : Touches ps s (u.sendCommand b a tag o) :=
  h.trans ⟨rfl, id, fun _ => ⟨rfl, rfl, rfl⟩, fun p hp => by cases p <;> first | exact absurd hl hp | rfl⟩

/-! ### A command is issued (R105) -/

section
variable {s : State} {b : Nat} {c : Command}

/-- The record of a breaker whose command is issued with the next tag. -/
def BreakerRec.issuing (r : BreakerRec) (c : Command) : BreakerRec :=
  { r with
    slot := some { c with tag := r.tagCounter, phase := .sent, left := false, timer := 0 }
    tagCounter := (r.tagCounter + 1) % 256
    issued := step32 r.issued }

/-- The state in which the command of a NORMAL breaker is issued, but for TRIP_ISSUED. -/
def State.commandIssued (s : State) (b : Nat) (c : Command) : State :=
  (s.modBrk b (fun r => { r.tagged (fun c n => { c with tag := n, phase := .sent, left := false, timer := 0 }) with
    issued := step32 r.issued })).sendCommand b c.action (s.brk b).tagCounter c.origins

theorem State.issueCommand_normal (hc : (s.brk b).slot = some c) (hi : s.isolated b = false) (ht : c.tripOpen = false) :
    s.issueCommand b = s.commandIssued b c := by
  unfold State.issueCommand
  rw [hc]
  dsimp only
  rw [if_neg (by simp [hi]), State.tripIssued, if_neg (by simp [ht])]
  rfl

@[simp] theorem State.commandIssued_work : (s.commandIssued b c).work = s.work := rfl
@[simp] theorem State.commandIssued_lines : (s.commandIssued b c).lines = s.lines := rfl
@[simp] theorem State.commandIssued_seq : (s.commandIssued b c).seq = s.seq := rfl
@[simp] theorem State.commandIssued_par : (s.commandIssued b c).par = s.par := rfl
@[simp] theorem State.commandIssued_mgmt : (s.commandIssued b c).mgmt = s.mgmt := rfl
@[simp] theorem State.commandIssued_events : (s.commandIssued b c).events = s.events := rfl
@[simp] theorem State.commandIssued_eventLabel : (s.commandIssued b c).eventLabel = s.eventLabel := rfl
@[simp] theorem State.commandIssued_setpointOf (g : Nat) : (s.commandIssued b c).setpointOf g = s.setpointOf g := rfl

theorem State.commandIssued_brk_same (hb : b < s.breakers.recs.length) (hc : (s.brk b).slot = some c) :
    (s.commandIssued b c).brk b = (s.brk b).issuing c := by
  rw [State.commandIssued, State.sendCommand_brk, State.brk_modBrk_same _ _ hb]
  simp only [BreakerRec.tagged, hc, Option.map_some, BreakerRec.issuing]

theorem State.commandIssued_brk_other {a : Nat} (h : a ≠ b) : (s.commandIssued b c).brk a = s.brk a := by
  rw [State.commandIssued, State.sendCommand_brk, State.brk_modBrk_other _ _ h.symm]

theorem Touches.commandIssued {s u : State} {ps : List StatePart} (h : Touches ps s u) (b : Nat) (c : Command)
    (hl : .links ∈ ps := by decide) (hb : .breakers ∈ ps := by decide) : Touches ps s (u.commandIssued b c) :=
  (h.modBrk _ _ hb).sendCommand b _ _ _ hl

theorem Waiting.commandIssued {s u : State} (h : Waiting s u) (b : Nat) (c : Command) : Waiting s (u.commandIssued b c) :=
  (h.of_links (State.modBrk_links _ b _) rfl).sendCommand b _ _ _

/-- The frame of a CLOSE stands in the normal queue of each link that is UP. -/
theorem State.commandIssued_normal (ha : c.action = .closing) {l : Link} (hl : (s.port l).up = true) :
    ∃ f ∈ ((s.commandIssued b c).port l).normal,
      f.body = .command b (s.fld .breaker b 3) .closing (s.brk b).tagCounter c.origins := by
  have hup : ((s.modBrk b (fun r => { r.tagged (fun c n => { c with tag := n, phase := .sent, left := false, timer := 0 }) with
    issued := step32 r.issued })).port l).up = true := hl
  rw [State.commandIssued, State.sendCommand_port, if_pos hup, ha]
  exact ⟨_, List.mem_append_right _ (List.mem_singleton.2 rfl), rfl⟩

end
/-! ### BREAKER-OPEN and BREAKER-CLOSE (R101, R102, R185) -/

section
variable {s u : State} {b : Nat}

/-- The state in which a command has taken the slot. -/
def State.slotted (s : State) (b : Nat) (c : Command) : State := s.modBrk b (fun r => { r with slot := some c })

@[simp] theorem State.slotted_work (c : Command) : (s.slotted b c).work = s.work := rfl
@[simp] theorem State.slotted_links (c : Command) : (s.slotted b c).links = s.links := rfl
@[simp] theorem State.slotted_ownAddress (c : Command) : (s.slotted b c).ownAddress = s.ownAddress := rfl
@[simp] theorem State.slotted_lines (c : Command) : (s.slotted b c).lines = s.lines := rfl
@[simp] theorem State.slotted_par (c : Command) : (s.slotted b c).par = s.par := rfl
@[simp] theorem State.slotted_mgmt (c : Command) : (s.slotted b c).mgmt = s.mgmt := rfl
@[simp] theorem State.slotted_seq (c : Command) : (s.slotted b c).seq = s.seq := rfl
@[simp] theorem State.slotted_events (c : Command) : (s.slotted b c).events = s.events := rfl
@[simp] theorem State.slotted_eventLabel (c : Command) : (s.slotted b c).eventLabel = s.eventLabel := rfl
@[simp] theorem State.slotted_setpointOf (c : Command) (g : Nat) : (s.slotted b c).setpointOf g = s.setpointOf g := rfl

/-- The state in which a new command of a breaker is issued. -/
def State.placed (s : State) (b : Nat) (c : Command) : State := (s.slotted b c).commandIssued b c

@[simp] theorem State.placed_work (c : Command) : (s.placed b c).work = s.work := rfl
@[simp] theorem State.placed_par (c : Command) : (s.placed b c).par = s.par := rfl
@[simp] theorem State.placed_mgmt (c : Command) : (s.placed b c).mgmt = s.mgmt := rfl
@[simp] theorem State.placed_events (c : Command) : (s.placed b c).events = s.events := rfl
@[simp] theorem State.placed_eventLabel (c : Command) : (s.placed b c).eventLabel = s.eventLabel := rfl
@[simp] theorem State.placed_setpointOf (c : Command) (g : Nat) : (s.placed b c).setpointOf g = s.setpointOf g := rfl

theorem State.slotted_brk_same (hb : b < s.breakers.recs.length) (c : Command) :
    (s.slotted b c).brk b = { s.brk b with slot := some c } := State.brk_modBrk_same _ _ hb

theorem State.slotted_brk_other {a : Nat} (h : a ≠ b) (c : Command) : (s.slotted b c).brk a = s.brk a :=
  State.brk_modBrk_other _ _ h.symm

theorem State.slotted_recs_length (c : Command) : (s.slotted b c).breakers.recs.length = s.breakers.recs.length :=
  List.length_modify ..

theorem State.placed_brk_same (hb : b < s.breakers.recs.length) (c : Command) :
    (s.placed b c).brk b = (s.brk b).issuing c := by
  rw [State.placed, State.commandIssued_brk_same (by rwa [State.slotted_recs_length]) (by rw [State.slotted_brk_same hb]),
    State.slotted_brk_same hb]
  rfl

theorem State.placed_brk_other {a : Nat} (h : a ≠ b) (c : Command) : (s.placed b c).brk a = s.brk a := by
  rw [State.placed, State.commandIssued_brk_other h, State.slotted_brk_other h]

theorem Touches.placed {ps : List StatePart} (h : Touches ps s u) (b : Nat) (c : Command) (hl : .links ∈ ps := by decide)
    (hb : .breakers ∈ ps := by decide) : Touches ps s (u.placed b c) :=
  Touches.commandIssued (h.modBrk b _ hb) b c hl hb

theorem Waiting.placed (h : Waiting s u) (b : Nat) (c : Command) : Waiting s (u.placed b c) :=
  (h.of_links (State.slotted_links c) (State.slotted_ownAddress c)).commandIssued b c

theorem State.issueCommand_placed (hb : b < s.breakers.recs.length) (hi : s.isolated b = false) {c : Command}
    (ht : c.tripOpen = false) : (s.slotted b c).issueCommand b = s.placed b c :=
  State.issueCommand_normal (by rw [State.slotted_brk_same hb]) hi ht

/-- An OPEN of no trip-class origin for a NORMAL breaker whose slot is empty is issued (R101). -/
theorem State.openRequest_issued (hb : b < s.breakers.recs.length) (hc : s.brkConfigured b = true) (hi : s.isolated b = false)
    (hslot : (s.brk b).slot = none) (hp : (s.brk b).position ≠ .opened) {o : Origins} (ho : o.trip = false) (g : Option Nat) :
    s.openRequest b o g =
      (s.placed b { action := .opening, origins := o, generator := g }, .taken (s.brk b).tagCounter) := by
  have htaken : s.takeOpen b o g = s.slotted b { action := .opening, origins := o, generator := g } := by
    simp only [State.takeOpen, ho, State.slotted, Bool.false_eq_true, if_false]
  rw [State.openRequest, if_neg (by simp [hc]), hslot]
  dsimp only
  rw [if_neg (by simp [hp]), htaken, State.issueCommand_placed hb hi (by simp [Command.tripOpen, ho])]

theorem State.openRequest_open (hc : s.brkConfigured b = true) (hslot : (s.brk b).slot = none)
    (hp : (s.brk b).position = .opened) (o : Origins) (g : Option Nat) : s.openRequest b o g = (s, .done) := by
  rw [State.openRequest, if_neg (by simp [hc]), hslot]
  dsimp only
  rw [if_pos (by simp [hp])]

end

section
variable {s : State} {l : Link} {q : Request}

theorem operatorOpen_eq {u : State} (h : q.argA < 24) :
    State.operatorOpen q u = State.afterAnswer q (u.openRequest q.argA { operator := true } none) := by
  rw [State.operatorOpen, if_neg (by omega)]

theorem afterAnswer_done {u : State} {a : Answer} (h : a.reply.status = .done) :
    State.afterAnswer q (u, a) = (u.event .management 7 q.target 8 (some q.argA), some a.reply) := by
  rw [State.afterAnswer, if_pos (by simp [h])]
  rfl

theorem afterAnswer_refused {u : State} {a : Answer} (h : a.reply.status ≠ .done) :
    State.afterAnswer q (u, a) = (u, some a.reply) := by
  rw [State.afterAnswer, if_neg (by simp [h])]

/-- A request that has placed a command is answered with its tag, and recorded. -/
theorem exec_placed {i : Instr} {c : Command} (h : s.Asked l q) (hq : q.argA < 24)
    (hexec : exec i s = finish s ((((s.booked l q).placed q.argA c).event .management 7 q.target 8 (some q.argA)).answer
      (s.ticketFor 7 q) (some { detailB := (s.brk q.argA).tagCounter }))) :
    ∃ t, exec i s = .next t ∧ Replies s t q 7 .done 0 (s.brk q.argA).tagCounter [] ∧
      t.brk q.argA = (s.brk q.argA).issuing c ∧ (∀ a, a ≠ q.argA → t.brk a = s.brk a) ∧ t.mgmt = s.answered .done ∧
      Records s t .management 7 q.target 8 (some q.argA) ∧ Only [.links, .events, .breakers, .mgmt] s t := by
  have hb : q.argA < (s.booked l q).breakers.recs.length := by
    have hrecs : (s.booked l q).breakers.recs.length = 24 := by cases l <;> exact h.1.recs_length
    omega
  have hplaced : Touches [.links, .events, .breakers, .mgmt] s ((s.booked l q).placed q.argA c) :=
    (Touches.booked s l q).placed q.argA c
  have hwaits : Waiting s ((s.booked l q).placed q.argA c) := (s.booked_awaiting l q).waiting.placed q.argA c
  obtain ⟨es, b, hend, hreplies, honly⟩ := exec_worked h.1 (hwaits.event .management 7 q.target 8 (some q.argA))
    (by simp [h.1.1]) (fun g => by simp) (hplaced.event .management 7 q.target 8 (some q.argA)) hexec
  refine ⟨_, hend, hreplies, ?_, fun a ha => ?_, State.ended_answered (by simp) _ _ _ _,
    State.ended_records (State.event_records h.1 (by simp) (by simp)) _ _ _ _, honly⟩
  · rw [State.endedWith_brk, State.answer_brk, State.event_brk, State.placed_brk_same hb, State.booked_brk]
  · rw [State.endedWith_brk, State.answer_brk, State.event_brk, State.placed_brk_other ha, State.booked_brk]

/-- Settles O52. -/
theorem operatorOpensABreaker : Obligations.OperatorOpensABreaker := by
  intro s l q h hq hconf hiso hslot
  have hexec : exec (.breakerOpen l q) s = finish s ((State.operatorOpen q (s.booked l q)).1.answer (s.ticketFor 7 q)
    (State.operatorOpen q (s.booked l q)).2) := finish_operate h (State.operatorOpen q)
  have hconf' : (s.booked l q).brkConfigured q.argA = true := by simpa [State.brkConfigured] using hconf
  have hiso' : (s.booked l q).isolated q.argA = false := by simpa [State.isolated] using hiso
  have hslot' : ((s.booked l q).brk q.argA).slot = none := by rw [State.booked_brk, hslot]
  have hb : q.argA < (s.booked l q).breakers.recs.length := by
    have hrecs : (s.booked l q).breakers.recs.length = 24 := by cases l <;> exact h.1.recs_length
    omega
  refine ⟨fun hp => ?_, fun hp => ?_⟩
  · rw [operatorOpen_eq hq, State.openRequest_issued hb hconf' hiso' hslot' (by rw [State.booked_brk]; exact hp) rfl,
      afterAnswer_done rfl, State.booked_brk] at hexec
    exact exec_placed h hq hexec
  · rw [operatorOpen_eq hq, State.openRequest_open hconf' hslot' (by rw [State.booked_brk]; exact hp),
      afterAnswer_done rfl] at hexec
    have htouch : Touches [.links, .events, .mgmt] s ((s.booked l q).event .management 7 q.target 8 (some q.argA)) :=
      (Touches.booked s l q).event _ _ _ _ _
    obtain ⟨es, b, hend, hreplies, honly⟩ := exec_worked h.1
      ((s.booked_awaiting l q).waiting.event .management 7 q.target 8 (some q.argA)) (by simp [h.1.1]) (fun g => by simp)
      htouch hexec
    exact ⟨_, hend, hreplies, State.ended_answered (by simp) _ _ _ _,
      State.ended_records (State.event_records h.1 (by simp) (by simp)) _ _ _ _, honly⟩

/-- The code of the first of the tests of R102 that a PLAIN close of a NORMAL breaker which is not CLOSED fails; 0 where all
pass. -/
def State.refusalCode (s : State) (b : Nat) : Nat :=
  let r := s.brk b
  if r.trips ≠ [] then 1 else if s.lines.tripLatch then 2 else if s.lines.lockout then 3
  else if r.position = .unknown then 4 else if r.position = .travel then 5
  else if s.fld .breaker b 5 = 1 then 6
  else if s.fld .breaker b 6 ≠ 0xFFFF ∧ s.expression (s.fld .breaker b 6) = false then 8
  else if r.unresponsive then 9 else if r.health.tripCircuit = false then 10
  else if r.health.spring = false then 12 else if r.health.localControl then 11 else 0

theorem firstReason_cons_code (b : Bool) (y : Reason) (ts : List (Bool × Reason)) :
    (firstReason ((b, y) :: ts)).elim 0 Reason.code = if b = true then y.code else (firstReason ts).elim 0 Reason.code := by
  cases b <;> rfl

theorem firstReason_nil_code : (firstReason []).elim 0 Reason.code = 0 := rfl

/-- The refusal, if any, has the code of the first test that fails. -/
theorem State.closeReason_code {b : Nat} (hi : s.isolated b = false) (hp : (s.brk b).position ≠ .closed) :
    (s.closeReason b .plain .operator).elim 0 Reason.code = s.refusalCode b := by
  have hhealth : s.healthTests b = [((s.brk b).unresponsive, .unresponsive), (!(s.brk b).health.tripCircuit, .tripCircuit),
      (!(s.brk b).health.spring, .spring), ((s.brk b).health.localControl, .localControl)] := by
    rw [State.healthTests, hi]
    rfl
  have hinterlock : (!s.interlockTrue b) = true ↔
      s.fld .breaker b 6 ≠ 0xFFFF ∧ s.expression (s.fld .breaker b 6) = false := by
    simp [State.interlockTrue, Config.noneField]
  rw [State.closeReason, hhealth, State.closeTests]
  simp only [List.cons_append, List.nil_append, firstReason_cons_code, firstReason_nil_code, State.refusalCode]
  rw [if_neg (c := ((s.brk b).position == .closed) = true) (by simpa using hp),
    if_neg (c := (CloseKind.plain == CloseKind.dead && s.guarded b && !s.holdsToken .operator) = true) (by simp)]
  refine ite_congr (by simp) (fun _ => rfl) fun _ => ite_congr rfl (fun _ => rfl) fun _ => ite_congr rfl (fun _ => rfl)
    fun _ => ite_congr (by simp) (fun _ => rfl) fun _ => ite_congr (by simp) (fun _ => rfl) fun _ =>
    ite_congr (by simp [State.guarded]) (fun _ => rfl) fun _ => ite_congr (propext hinterlock) (fun _ => rfl) fun _ =>
    ite_congr rfl (fun _ => rfl) fun _ => ite_congr (by simp) (fun _ => rfl) fun _ => ite_congr (by simp) (fun _ => rfl)
    fun _ => rfl

theorem Reason.code_pos (y : Reason) : y.code ≠ 0 := by
  cases y <;> first | decide | (rename_i z; cases z <;> decide)

theorem Reason.code_lockout {y : Reason} : y.code = 3 ↔ y = .lockout := by
  cases y <;> first | decide | (rename_i z; cases z <;> decide)

theorem State.closeReason_none {b : Nat} (hi : s.isolated b = false) (hp : (s.brk b).position ≠ .closed)
    (h : s.refusalCode b = 0) : s.closeReason b .plain .operator = none := by
  have hcode := State.closeReason_code hi hp
  cases hy : s.closeReason b .plain .operator with
  | none => rfl
  | some y =>
    rw [hy, h] at hcode
    exact absurd hcode (Reason.code_pos y)

theorem State.closeReason_some {b : Nat} (hi : s.isolated b = false) (hp : (s.brk b).position ≠ .closed)
    (h : s.refusalCode b ≠ 0) : ∃ y, s.closeReason b .plain .operator = some y ∧ y.code = s.refusalCode b := by
  have hcode := State.closeReason_code hi hp
  cases hy : s.closeReason b .plain .operator with
  | none =>
    rw [hy] at hcode
    exact absurd hcode.symm h
  | some y =>
    rw [hy] at hcode
    exact ⟨y, rfl, hcode⟩

/-- The reply to a refused request. -/
theorem Answer.reply_refused (y : Reason) :
    (Answer.refused y).reply = { status := if y.code = 3 then .locked else .notPermitted, detailB := y.code } := by
  cases y <;> first | rfl | (rename_i z; cases z <;> rfl)

/-- A PLAIN close that passes the tests is issued (R102, R103). -/
theorem State.closeRequest_issued {u : State} {b : Nat} (hb : b < u.breakers.recs.length) (hc : u.brkConfigured b = true)
    (hi : u.isolated b = false) (hslot : (u.brk b).slot = none) (hp : (u.brk b).position ≠ .closed)
    (h : u.closeReason b .plain .operator = none) (o : Origins) :
    u.closeRequest b .plain .operator o none =
      (u.placed b { action := .closing, requester := .operator, origins := o }, .taken (u.brk b).tagCounter) := by
  have htaken : u.takeClose b .plain .operator o none =
      (u.slotted b { action := .closing, requester := .operator, origins := o }).issueCommand b := rfl
  rw [State.closeRequest, if_neg (by simp [hc]), if_neg (by simp [hslot]), if_neg (by simpa using hp), h]
  dsimp only
  rw [htaken, State.issueCommand_placed hb hi rfl]

theorem State.closeRequest_refused {u : State} {b : Nat} {y : Reason} (hc : u.brkConfigured b = true)
    (hslot : (u.brk b).slot = none) (hp : (u.brk b).position ≠ .closed)
    (h : u.closeReason b .plain .operator = some y) (o : Origins) :
    u.closeRequest b .plain .operator o none = (u.countRefused b, .refused y) := by
  rw [State.closeRequest, if_neg (by simp [hc]), if_neg (by simp [hslot]), if_neg (by simpa using hp), h]

theorem operatorClose_eq {u : State} (h : q.argA < 24) : State.operatorClose q u =
    State.afterAnswer q (u.closeRequest q.argA .plain .operator { operator := true } none) := by
  rw [State.operatorClose, if_neg (by omega)]

/-- A request that is refused by the breaker controller is counted there. -/
theorem exec_refused {i : Instr} {r : Reply} (h : s.Asked l q) (hq : q.argA < 24)
    (hexec : exec i s = finish s (((s.booked l q).countRefused q.argA).answer (s.ticketFor 7 q) (some r))) :
    ∃ t, exec i s = .next t ∧ Replies s t q 7 r.status r.detailA r.detailB r.data ∧
      t.brk q.argA = { s.brk q.argA with refusals := step32 (s.brk q.argA).refusals } ∧
      (∀ a, a ≠ q.argA → t.brk a = s.brk a) ∧ t.mgmt = s.answered r.status ∧ Only [.links, .breakers, .mgmt] s t := by
  have hb : q.argA < (s.booked l q).breakers.recs.length := by
    have hrecs : (s.booked l q).breakers.recs.length = 24 := by cases l <;> exact h.1.recs_length
    omega
  have htouch : Touches [.links, .breakers, .mgmt] s ((s.booked l q).countRefused q.argA) :=
    (Touches.booked s l q).modBrk _ _
  have hwaits : Waiting s ((s.booked l q).countRefused q.argA) :=
    (s.booked_awaiting l q).waiting.of_links (State.modBrk_links _ _ _) rfl
  obtain ⟨es, b, hend, hreplies, honly⟩ := exec_worked h.1 hwaits ((s.booked_work l q).trans h.1.1)
    (fun g => s.booked_setpointOf l q g) htouch hexec
  refine ⟨_, hend, hreplies, ?_, fun a ha => ?_, ?_, honly⟩
  · rw [State.endedWith_brk, State.answer_brk, State.countRefused, State.brk_modBrk_same _ _ hb, State.booked_brk]
  · rw [State.endedWith_brk, State.answer_brk, State.countRefused, State.brk_modBrk_other _ _ ha.symm, State.booked_brk]
  · exact State.ended_answered (by rw [State.countRefused, State.modBrk_mgmt, State.booked_mgmt]) _ _ _ _

/-- The booking of a request moves none of the tests. -/
theorem State.booked_refusalCode (s : State) (l : Link) (q : Request) (b : Nat) :
    (s.booked l q).refusalCode b = s.refusalCode b := by
  simp only [State.refusalCode, State.booked_brk, State.booked_lines, State.booked_fld,
    (s.booked_awaiting l q).toRequestFrame.expression]

/-- Settles O53. -/
theorem operatorClosesABreaker : Obligations.OperatorClosesABreaker := by
  intro s l q h hq hconf hiso hslot hp
  have hexec : exec (.breakerClose l q) s = finish s ((State.operatorClose q (s.booked l q)).1.answer (s.ticketFor 7 q)
    (State.operatorClose q (s.booked l q)).2) := finish_operate h (State.operatorClose q)
  have hconf' : (s.booked l q).brkConfigured q.argA = true := by simpa [State.brkConfigured] using hconf
  have hiso' : (s.booked l q).isolated q.argA = false := by simpa [State.isolated] using hiso
  have hslot' : ((s.booked l q).brk q.argA).slot = none := by rw [State.booked_brk, hslot]
  have hp' : ((s.booked l q).brk q.argA).position ≠ .closed := by rw [State.booked_brk]; exact hp
  have hb : q.argA < (s.booked l q).breakers.recs.length := by
    have hrecs : (s.booked l q).breakers.recs.length = 24 := by cases l <;> exact h.1.recs_length
    omega
  refine ⟨fun hpass => ?_, fun hfail => ?_⟩
  · have hpass' : (s.booked l q).refusalCode q.argA = 0 := (s.booked_refusalCode l q _).trans hpass
    rw [operatorClose_eq hq, State.closeRequest_issued hb hconf' hiso' hslot' hp' (State.closeReason_none hiso' hp' hpass'),
      afterAnswer_done rfl, State.booked_brk] at hexec
    exact exec_placed h hq hexec
  · have hfail' : (s.booked l q).refusalCode q.argA ≠ 0 := (s.booked_refusalCode l q _).trans_ne hfail
    obtain ⟨y, hy, hcode⟩ := State.closeReason_some hiso' hp' hfail'
    rw [State.booked_refusalCode] at hcode
    rw [operatorClose_eq hq, State.closeRequest_refused hconf' hslot' hp' hy,
      afterAnswer_refused (by rw [Answer.reply_refused]; dsimp only; split <;> decide), Answer.reply_refused, hcode] at hexec
    exact exec_refused h hq hexec

end


end Sys2Proof.Machine
end

section
/-! # A released DEAD close (O33) -/

namespace Sys2Proof.Machine

section
variable {s u : State}

/-! ### What the tests of a close read (R89, R102) -/

theorem State.interlockTrue_congr (hm : u.mgmt = s.mgmt) (hp : ∀ n, u.point n = s.point n) (b : Nat) :
    u.interlockTrue b = s.interlockTrue b := by
  have hfld : u.fld = s.fld := by funext x e id; rw [State.fld, State.fld, hm]
  have hterms : u.groupTerms = s.groupTerms := by
    funext y i n
    rw [State.groupTerms, State.groupTerms, hfld]
  have hholds : u.groupHolds = s.groupHolds := by
    funext ts
    rw [State.groupHolds, State.groupHolds, show u.termHolds = s.termHolds from funext fun t => by
      rw [State.termHolds, State.termHolds, hp]]
  simp only [State.interlockTrue, State.expression, hfld, hterms, hholds]

/-- The tests read the breakers, the lines, the token, the tables and the points. -/
theorem State.closeReason_congr (hb : u.breakers = s.breakers) (hl : u.lines = s.lines) (hpar : u.par = s.par)
    (hm : u.mgmt = s.mgmt) (hp : ∀ n, u.point n = s.point n) (b : Nat) (k : CloseKind) (q : Requester) :
    u.closeReason b k q = s.closeReason b k q := by
  have hbrk : u.brk b = s.brk b := by rw [State.brk, State.brk, hb]
  have hguarded : u.guarded b = s.guarded b := by rw [State.guarded, State.guarded, State.fld, State.fld, hm]
  have hisolated : u.isolated b = s.isolated b := by rw [State.isolated, State.isolated, State.fld, State.fld, hm]
  have htoken : u.holdsToken q = s.holdsToken q := by cases q <;> simp only [State.holdsToken, hpar]
  simp only [State.closeReason, State.closeTests, State.healthTests, hbrk, hl, hguarded, hisolated, htoken,
    State.interlockTrue_congr hm hp]

/-! ### A queued close is released (R103, R131) -/

theorem State.releaseClose_issued {b : Nat} {c : Command} (hc : (s.brk b).slot = some c) (ha : c.action = .closing)
    (hq : c.phase = .queued) (hpass : s.closeReason b c.closeKind c.requester = none) (hi : s.isolated b = false) :
    s.releaseClose b = s.commandIssued b c := by
  rw [State.releaseClose, hc]
  dsimp only
  rw [if_pos (by simp [ha, hq]), hpass]
  exact State.issueCommand_normal hc hi (by simp [Command.tripOpen, ha])

/-- The state in which the step of a run waits for something else. -/
def State.waitingFor (s : State) (r : PlanRun) (w : StepWait) : State :=
  s.modSeq (fun q => { q with state := .running { r with wait := w } })

theorem State.setWait_eq {r : PlanRun} (hrun : s.seq.state = .running r) (w : StepWait) :
    s.setWait w = s.waitingFor r w := by
  unfold State.setWait State.modRun State.waitingFor State.modSeq
  dsimp only
  rw [hrun]

theorem State.deadTermMet_eq {r : PlanRun} (hrun : s.seq.state = .running r) (hw : r.wait = .deadTerm)
    (hterm : s.termHolds (s.stepField r.plan r.step 2) = true) :
    s.deadTermMet = (s.post (.release (s.stepField r.plan r.step 1))).waitingFor r .command := by
  rw [State.deadTermMet, State.run_running hrun]
  dsimp only
  rw [if_pos (by simp [hw]), State.stepDeadTerm, if_pos hterm]
  exact State.setWait_eq (s := s.post (.release (s.stepBreaker r))) hrun _

end

/-- Settles O33. -/
theorem deadTermReleasesTheClose : Obligations.DeadTermReleasesTheClose := by
  intro s r c hs hrun hwait b term hb hterm hc ha hphase hkind hreq hpass hiso
  have hexec : exec .deadTermHolds s = finish s ((s.post (.release b)).waitingFor r .command) :=
    congrArg (finish s) (State.deadTermMet_eq hrun hwait ((s.termHolds_iff term).2 hterm))
  have hiso' : (s.waitingFor r .command).isolated b = false := beq_false_of_ne hiso
  have hpass' : (s.waitingFor r .command).closeReason b c.closeKind c.requester = none := by
    rw [hkind, hreq]
    exact (State.closeReason_congr (s := s) (u := s.waitingFor r .command) rfl rfl rfl rfl
      (fun n => State.point_running hrun rfl n) b _ _).trans hpass
  have hdrains : Drains 1 ((s.post (.release b)).waitingFor r .command) ((s.waitingFor r .command).commandIssued b c) := by
    have hposted : (s.post (.release b)).waitingFor r .command = { s.waitingFor r .command with work := [.release b] } := by
      rw [State.post, hs.1]
      rfl
    have hhandle : State.handle { { s.waitingFor r .command with work := [.release b] } with work := [] } (.release b) =
        (s.waitingFor r .command).commandIssued b c := by
      have hwork : (s.waitingFor r .command).work = [] := hs.1
      rw [← State.releaseClose_issued (s := s.waitingFor r .command) hc ha hphase hpass' hiso', ← hwork]
      rfl
    rw [hposted]
    exact .last rfl (.of_eq hhandle (.done hs.1))
  have htouch : Touches [.links, .breakers, .seq] s ((s.waitingFor r .command).commandIssued b c) :=
    Touches.commandIssued ((Touches.refl _ s).modSeq _) b c
  obtain ⟨es, hfinish, honly⟩ := finish_settled hs htouch hs.1 (fun g => rfl)
  have hlen : b < (s.waitingFor r .command).breakers.recs.length := hs.recs_length.symm ▸ hb
  refine ⟨_, hexec.trans ((congrArg Host.Outcome.next hdrains.settle).trans hfinish), ?_, fun a ha' => ?_, rfl,
    fun l hl => ?_, honly⟩
  · rw [State.endedWith_brk, State.commandIssued_brk_same hlen hc]
    rfl
  · rw [State.endedWith_brk, State.commandIssued_brk_other ha']
    rfl
  · rw [State.endedWith_port]
    exact State.commandIssued_normal ha hl


end Sys2Proof.Machine
end

section
/-! # The GENSET of a changed setpoint -/

namespace Sys2Proof.Machine

section
variable {s t u v : State} {g : Nat}

/-! ### A command touches fewer parts than its list names -/

theorem Only.narrow {qs : List StatePart} (h : Only qs s t) (ps : List StatePart)
    (hkept : ∀ p, p ∈ qs → p ∉ ps → p.Kept s t) (hpar : .par ∈ ps := by decide) (hcap : .capture ∉ qs := by decide) :
    Only ps s t := by
  obtain ⟨hclosing, hhushed, hrisen, hpending, hparts, hrises⟩ := h
  obtain ⟨n, hedges, hcount⟩ := hrises hcap
  refine ⟨hclosing, hhushed, hrisen, hpending, fun p hp => ?_, fun _ => ⟨n, hedges, fun p => ⟨(hcount p).1, fun hm => ?_⟩⟩⟩
  · by_cases hq : p ∈ qs
    · exact hkept p hq hp
    · exact hparts p hq
  · exact (hcount p).2 (hm.imp_right fun hno => absurd hpar hno.2)

/-! ### The GENSET of a changed setpoint (R153) -/

theorem LinkPort.admitGenset_mem (g : Nat) (f : OutFrame) (p : LinkPort) : f ∈ (p.admitGenset g f).1.normal := by
  unfold LinkPort.admitGenset
  split
  · next h =>
    obtain ⟨x, hx, hg⟩ := List.any_eq_true.1 h
    exact List.mem_map.2 ⟨x, hx, by rw [if_pos hg]⟩
  · exact List.mem_append_right _ (List.mem_singleton.2 rfl)

/-- A frame that is no GENSET stays queued as one is placed. -/
theorem LinkPort.admitGenset_kept {g : Nat} {f x : OutFrame} {p : LinkPort} (hx : x ∈ p.normal) (hg : x.gensetFor g = false) :
    x ∈ (p.admitGenset g f).1.normal := by
  unfold LinkPort.admitGenset
  split
  · exact List.mem_map.2 ⟨x, hx, by simp [hg]⟩
  · exact List.mem_append_left _ hx

theorem State.sendGenset_port (s : State) (g : Nat) (p : Setpoint) (l : Link) : (s.sendGenset g p).port l =
    if (s.port l).up then ((s.port l).admitGenset g
      ⟨s.ownAddress, s.fld .generator g 2, s.links.gensetSeq, .genset g p, false, false⟩).1 else s.port l := by
  cases l <;> (simp only [State.sendGenset, State.onUpLinks, State.port]; split <;> simp [*])

/-- The state in which the GENSET of a setpoint is built. -/
def State.gensetBuilt (s : State) (g : Nat) (p : Setpoint) : State :=
  (s.sendGenset g p).modGen g (fun r => { r with refreshTimer := 0 })

theorem State.buildGenset_some {p : Setpoint} (hp : s.setpointOf g = some p) (hh : s.hushed = false) :
    s.buildGenset g = s.gensetBuilt g p := by
  rw [State.buildGenset, hp]
  dsimp only
  rw [if_neg (by simp [hh])]
  rfl

@[simp] theorem State.gensetBuilt_work (p : Setpoint) : (s.gensetBuilt g p).work = s.work := rfl
@[simp] theorem State.gensetBuilt_mgmt (p : Setpoint) : (s.gensetBuilt g p).mgmt = s.mgmt := rfl
@[simp] theorem State.gensetBuilt_seq (p : Setpoint) : (s.gensetBuilt g p).seq = s.seq := rfl
@[simp] theorem State.gensetBuilt_breakers (p : Setpoint) : (s.gensetBuilt g p).breakers = s.breakers := rfl
@[simp] theorem State.gensetBuilt_events (p : Setpoint) : (s.gensetBuilt g p).events = s.events := rfl
@[simp] theorem State.gensetBuilt_newest (p : Setpoint) : (s.gensetBuilt g p).newest = s.newest := rfl
@[simp] theorem State.gensetBuilt_lines (p : Setpoint) : (s.gensetBuilt g p).lines = s.lines := rfl
@[simp] theorem State.gensetBuilt_hushed (p : Setpoint) : (s.gensetBuilt g p).hushed = s.hushed := rfl
@[simp] theorem State.gensetBuilt_gensetSeq (p : Setpoint) :
    (s.gensetBuilt g p).links.gensetSeq = step16 s.links.gensetSeq := rfl
@[simp] theorem State.gensetBuilt_abilitySeq (p : Setpoint) :
    (s.gensetBuilt g p).links.abilitySeq = s.links.abilitySeq := rfl

theorem State.gensetBuilt_gen_same (hg : g < s.par.gens.length) (p : Setpoint) :
    (s.gensetBuilt g p).gen g = { s.gen g with refreshTimer := 0 } := State.gen_modGen_same _ _ hg

theorem State.gensetBuilt_gen_other {j : Nat} (h : j ≠ g) (p : Setpoint) : (s.gensetBuilt g p).gen j = s.gen j :=
  State.gen_modGen_other _ _ h.symm

/-- A setpoint is that of the generator's record but for its refresh timer. -/
theorem State.setpointOf_of_gen {j n : Nat} (htables : u.mgmt.tables = s.mgmt.tables)
    (hgen : u.gen j = { s.gen j with refreshTimer := n }) : u.setpointOf j = s.setpointOf j := by
  unfold State.setpointOf State.genConfigured State.fld
  rw [hgen, htables]

theorem State.gensetBuilt_setpointOf (hg : g < s.par.gens.length) (p : Setpoint) (j : Nat) :
    (s.gensetBuilt g p).setpointOf j = s.setpointOf j := by
  by_cases h : j = g
  · subst h
    exact State.setpointOf_of_gen rfl (State.gensetBuilt_gen_same hg p)
  · exact State.setpointOf_of_gen (n := (s.gen j).refreshTimer) rfl (State.gensetBuilt_gen_other h p)

theorem State.gensetBuilt_sends (p : Setpoint) {l : Link} (hl : (s.port l).up = true) :
    (⟨s.ownAddress, s.fld .generator g 2, s.links.gensetSeq, .genset g p, false, false⟩ : OutFrame) ∈
      ((s.gensetBuilt g p).port l).normal := by
  show _ ∈ ((s.sendGenset g p).port l).normal
  rw [State.sendGenset_port, if_pos hl]
  exact LinkPort.admitGenset_mem _ _ _

theorem State.gensetBuilt_keeps (p : Setpoint) {l : Link} {x : OutFrame} (hx : x ∈ (s.port l).normal)
    (hg : x.gensetFor g = false) : x ∈ ((s.gensetBuilt g p).port l).normal := by
  show _ ∈ ((s.sendGenset g p).port l).normal
  rw [State.sendGenset_port]
  split
  · exact LinkPort.admitGenset_kept hx hg
  · exact hx

/-! ### The end of a command that moves the setpoint of one generator -/

/-- Where the setpoint of one generator alone has changed, its GENSET alone is built. -/
theorem State.sendSetpoints_one (hg : g < 8) (hlen : u.par.gens.length = 8) (hh : u.hushed = false) {p : Setpoint}
    (hp : u.setpointOf g = some p) (hchanged : u.setpointOf g ≠ s.setpointOf g)
    (hothers : ∀ j, j ≠ g → u.setpointOf j = s.setpointOf j) : State.sendSetpoints s u = u.gensetBuilt g p := by
  have hskip : ∀ (ns : List Nat) (v : State), (∀ j ∈ ns, v.setpointOf j = s.setpointOf j ∨ j = g) → g ∉ ns →
      v.forEach ns (fun j t => if (t.setpointOf j).isSome && t.setpointOf j != s.setpointOf j then t.buildGenset j else t) = v := by
    intro ns
    induction ns with
    | nil => exact fun _ _ _ => rfl
    | cons j ns ih =>
      intro v hv hno
      obtain ⟨hne, hno'⟩ : g ≠ j ∧ g ∉ ns := by simpa using hno
      have hsame := (hv j (List.mem_cons_self ..)).resolve_right (fun h => hne h.symm)
      have hstep : (if (v.setpointOf j).isSome && v.setpointOf j != s.setpointOf j then v.buildGenset j else v) = v :=
        if_neg (by simp [hsame])
      exact (congrArg (fun w => State.forEach w ns _) hstep).trans
        (ih v (fun i hi => hv i (List.mem_cons_of_mem _ hi)) hno')
  have hsplit : List.range 8 = List.range g ++ g :: (List.range (7 - g)).map (g + 1 + ·) := by
    interval_cases g <;> rfl
  unfold State.sendSetpoints
  rw [hsplit]
  unfold State.forEach at hskip ⊢
  rw [List.foldl_append, hskip _ u (fun j _ => or_iff_not_imp_right.2 (hothers j)) (by simp), List.foldl_cons]
  dsimp only
  rw [if_pos (by simp [hp ▸ hchanged, hp]), State.buildGenset_some hp hh]
  refine hskip _ _ (fun j _ => or_iff_not_imp_right.2 fun hj => ?_) (by simp; omega)
  rw [State.gensetBuilt_setpointOf (hlen.symm ▸ hg), hothers j hj]

/-- The end of a command that leaves no work. -/
theorem State.settle_sent (hw : u.work = []) : State.settle s u = (State.sendSetpoints s u).endedWith
    (State.noteEdges s (State.sendSetpoints s u)).capture.edges (State.sendSetpoints s u).healthyNow := by
  have hend : ∀ v : State, ({ (State.noteEdges s v).driveHealthy with closing := none, hushed := false, risen := [] } : State) =
      v.endedWith (State.noteEdges s v).capture.edges v.healthyNow := fun v => by
    unfold State.noteEdges State.driveHealthy
    rfl
  unfold State.settle
  rw [State.drain_of_none _ hw]
  exact hend _

end

end Sys2Proof.Machine
end

section
/-! # Generators: one record moves -/

namespace Sys2Proof.Machine

/-- A state within a command that moves no generator but `g`. -/
structure Tends (s u : State) (g : Nat) : Prop where
  work : u.work = []
  hushed : u.hushed = false
  tables : u.mgmt.tables = s.mgmt.tables
  count : u.par.gens.length = 8
  others : ∀ j, j ≠ g → u.gen j = s.gen j

/-! ### Setpoints (R153) -/

/-- The setpoint that a generator's record gives. -/
def GenRec.setpoint (r : GenRec) : Setpoint where
  start := r.state.startDemand
  baseLoaded := r.state.loaded && r.baseLoaded
  speedBias := r.speedBias
  voltageBias := r.voltageBias
  target := if r.state.loaded then r.target else 0
  ramp := r.params.ramp

theorem State.setpointOf_eq (s : State) (g : Nat) : s.setpointOf g =
    if !s.genConfigured g || (s.gen g).state == .absent then none else some (s.gen g).setpoint := rfl

theorem State.setpointOf_same {s u : State} {g : Nat} (htables : u.mgmt.tables = s.mgmt.tables)
    (hstate : (u.gen g).state = (s.gen g).state) (hset : (u.gen g).setpoint = (s.gen g).setpoint) :
    u.setpointOf g = s.setpointOf g := by
  have hconf : u.genConfigured g = s.genConfigured g := by
    rw [State.genConfigured, State.genConfigured, State.fld, State.fld, htables]
  rw [State.setpointOf_eq, State.setpointOf_eq, hconf, hstate, hset]

theorem State.setpointOf_absent {s : State} {g : Nat} (h : (s.gen g).state = .absent) : s.setpointOf g = none := by
  rw [State.setpointOf_eq, h]
  simp

theorem State.setpointOf_present {s : State} {g : Nat} (hc : s.genConfigured g = true) (h : (s.gen g).state ≠ .absent) :
    s.setpointOf g = some (s.gen g).setpoint := by
  rw [State.setpointOf_eq, if_neg (by simp [hc, h])]

/-! ### What moves no generator but one -/

theorem State.Quiet.tends {s : State} (hs : s.Quiet) (g : Nat) : Tends s s g :=
  ⟨hs.1, hs.2.2.1, rfl, hs.gens_length, fun _ _ => rfl⟩

/-- Where no setpoint but one that has gone has changed no GENSET is built. -/
theorem State.sendSetpoints_still {s u : State} (h : ∀ j, u.setpointOf j = s.setpointOf j ∨ u.setpointOf j = none) :
    State.sendSetpoints s u = u := by
  unfold State.sendSetpoints State.forEach
  suffices k : ∀ ns : List Nat, ns.foldl (fun t g =>
      if (t.setpointOf g).isSome && t.setpointOf g != s.setpointOf g then t.buildGenset g else t) u = u from k _
  intro ns
  induction ns with
  | nil => rfl
  | cons g ns ih =>
    rw [List.foldl_cons, if_neg (by obtain hg | hg := h g <;> simp [hg])]
    exact ih

namespace Tends
variable {s u v : State} {g : Nat}

theorem setpointOf (h : Tends s u g) {j : Nat} (hj : j ≠ g) : u.setpointOf j = s.setpointOf j :=
  State.setpointOf_of_gen (n := (s.gen j).refreshTimer) h.tables (h.others j hj)

/-- What leaves the generators alone. -/
theorem still (h : Tends s u g) (hw : v.work = u.work) (hh : v.hushed = u.hushed) (hm : v.mgmt.tables = u.mgmt.tables)
    (hp : v.par.gens = u.par.gens) : Tends s v g where
  work := hw.trans h.work
  hushed := hh.trans h.hushed
  tables := hm.trans h.tables
  count := (congrArg List.length hp).trans h.count
  others j hj := by rw [State.gen, hp]; exact h.others j hj

theorem modGen (h : Tends s u g) (f : GenRec → GenRec) : Tends s (u.modGen g f) g where
  work := h.work
  hushed := h.hushed
  tables := h.tables
  count := (List.length_modify ..).trans h.count
  others j hj := (State.gen_modGen_other _ _ hj.symm).trans (h.others j hj)

theorem event (h : Tends s u g) (c : EventClass) (priority object code : Nat) (value : Option Nat) :
    Tends s (u.event c priority object code value) g :=
  h.still (State.event_work ..) (State.event_hushed ..) (by rw [State.event_mgmt]) (by rw [State.event_par])

theorem gen_same (h : Tends s u g) (hg : g < 8) (f : GenRec → GenRec) : (u.modGen g f).gen g = f (u.gen g) :=
  State.gen_modGen_same _ _ (h.count.symm ▸ hg)

theorem gensetBuilt (h : Tends s u g) (p : Setpoint) : Tends s (u.gensetBuilt g p) g :=
  (h.still (v := u.sendGenset g p) rfl rfl rfl rfl).modGen _

/-! ### The end of such a command -/

/-- No GENSET is built where the generator's setpoint stands or has gone. -/
theorem finish_still (h : Tends s u g) (hp : u.setpointOf g = s.setpointOf g ∨ u.setpointOf g = none) :
    ∃ es b, finish s u = .next (u.endedWith es b) := by
  have hsend : State.sendSetpoints s u = u := State.sendSetpoints_still fun j => by
    by_cases hj : j = g
    · exact hj ▸ hp
    · exact .inl (h.setpointOf hj)
  have hsettle := State.settle_sent (s := s) h.work
  rw [hsend] at hsettle
  exact ⟨_, _, congrArg Host.Outcome.next hsettle⟩

/-- A changed setpoint is sent. -/
theorem finish_sent (h : Tends s u g) (hg : g < 8) {p : Setpoint} (hp : u.setpointOf g = some p)
    (hchanged : u.setpointOf g ≠ s.setpointOf g) : ∃ es b, finish s u = .next ((u.gensetBuilt g p).endedWith es b) := by
  have hsettle := State.settle_sent (s := s) h.work
  rw [State.sendSetpoints_one hg h.count h.hushed hp hchanged fun j hj => h.setpointOf hj] at hsettle
  exact ⟨_, _, congrArg Host.Outcome.next hsettle⟩

end Tends

/-! ### The refresh of a GENSET (R153) -/

/-- Settles the fourth part of O37. -/
theorem refreshBuildsAGenset : Clause.RefreshBuildsAGenset := by
  intro s g p hs hg hp
  refine ⟨fun ht => ?_, fun ht => ?_⟩
  · have hrefresh : s.refresh g = s := by
      rw [State.refresh]
      exact if_neg (by simp [Config.absentInstants, ht])
    exact (congrArg (finish s) hrefresh).trans (finish_idle hs)
  · have hrefresh : s.refresh g = s.gensetBuilt g p := by
      rw [State.refresh, ← State.buildGenset_some hp hs.2.2.1]
      exact if_pos (by simp [Config.absentInstants, ht])
    have htends := (hs.tends g).gensetBuilt p
    have hlen : g < s.par.gens.length := hs.gens_length.symm ▸ hg
    obtain ⟨es, b, hend⟩ := htends.finish_still (.inl (State.gensetBuilt_setpointOf hlen p g))
    have hexec : exec (.gensetRefresh g) s = .next ((s.gensetBuilt g p).endedWith es b) :=
      (congrArg (finish s) hrefresh).trans hend
    exact ⟨_, hexec, State.gensetBuilt_gen_same hlen p, htends.others, fun l hl => State.gensetBuilt_sends p hl, rfl,
      hs.only _ hexec⟩

/-! ### A generator takes a state (R148) -/

section
variable {s u v : State} {g : Nat} {new : GenState}

/-- The state in which a generator's new state is recorded. -/
def State.genEntered (s : State) (g : Nat) (new : GenState) : State :=
  (s.noting ((s.modGen g (fun r => r.enter new)).modPar (fun p =>
    { p with waitList := p.waitList.filter (· != g), demandDue := true }))).event .generator
      (genPriority (s.gen g).state new) g 1 (some new.code)

/-- The OPEN of a generator that comes to FAULT or STOPPING with its breaker not OPEN. -/
def State.opensFor (v : State) (g : Nat) (new : GenState) : State :=
  if (new == .fault || new == .stopping) && v.genPosition g != .opened then (v.genOpen g).1 else v

theorem State.genMove_same (h : (s.gen g).state = new) : s.genMove g new = s := by
  rw [State.genMove]
  exact if_pos (by simp [h])

/-- Where no close attempt is left. -/
theorem State.genMove_eq (hne : (s.gen g).state ≠ new) (ha : ((s.gen g).state.attempting && !new.attempting) = false) :
    s.genMove g new = if (s.gen g).state.loaded || new.loaded then ((s.genEntered g new).opensFor g new).post .gensReport
      else (s.genEntered g new).opensFor g new := by
  unfold State.genMove
  dsimp only
  rw [if_neg (by simp [hne]), ha]
  rfl

/-- Where no renegotiation is deferred. -/
theorem State.genEnter_eq (h : ((s.genMove g new).gen g).deferred = false) : s.genEnter g new = s.genMove g new := by
  unfold State.genEnter
  dsimp only
  rw [if_neg (by simp [h])]

theorem State.opensFor_other (h : new ≠ .fault) (h' : new ≠ .stopping) : s.opensFor g new = s := by
  rw [State.opensFor, if_neg (by simp [h, h'])]

theorem State.opensFor_open (h : s.genPosition g = .opened) : s.opensFor g new = s := by
  rw [State.opensFor, if_neg (by simp [h])]

@[simp] theorem State.genEntered_work : (s.genEntered g new).work = s.work := by simp [State.genEntered]
@[simp] theorem State.genEntered_hushed : (s.genEntered g new).hushed = s.hushed := by simp [State.genEntered]
@[simp] theorem State.genEntered_mgmt : (s.genEntered g new).mgmt = s.mgmt := by simp [State.genEntered]
@[simp] theorem State.genEntered_seq : (s.genEntered g new).seq = s.seq := by simp [State.genEntered]
@[simp] theorem State.genEntered_breakers : (s.genEntered g new).breakers = s.breakers := by simp [State.genEntered]
@[simp] theorem State.genEntered_fld (x : TableId) (e id : Nat) : (s.genEntered g new).fld x e id = s.fld x e id := by
  rw [State.fld, State.fld, State.genEntered_mgmt]

theorem State.genEntered_gen_same (hg : g < s.par.gens.length) : (s.genEntered g new).gen g = (s.gen g).enter new := by
  rw [State.genEntered, State.event_gen]
  exact State.gen_modGen_same _ _ hg

theorem State.genEntered_newest : (s.genEntered g new).newest = some ⟨s.events.nextSeq, s.eventLabel, .generator,
    genPriority (s.gen g).state new, g, 1, some new.code, false⟩ := by
  rw [State.genEntered, State.event_newest]
  rfl

namespace Tends

theorem genEntered (h : Tends s u g) : Tends s (u.genEntered g new) g := by
  have hmoved : Tends s (u.noting ((u.modGen g (fun r => r.enter new)).modPar (fun p =>
      { p with waitList := p.waitList.filter (· != g), demandDue := true }))) g := (h.modGen _).still rfl rfl rfl rfl
  exact hmoved.event ..

theorem gen_genEntered (h : Tends s u g) (hg : g < 8) : (u.genEntered g new).gen g = (u.gen g).enter new :=
  State.genEntered_gen_same (h.count.symm ▸ hg)

end Tends

/-- A generator that goes from one state at rest to another. -/
theorem State.genEnter_plain (hg : g < s.par.gens.length) (hne : (s.gen g).state ≠ new)
    (ha : ((s.gen g).state.attempting && !new.attempting) = false) (hl : ((s.gen g).state.loaded || new.loaded) = false)
    (hd : (s.gen g).deferred = false) (hf : new ≠ .fault) (hs : new ≠ .stopping) : s.genEnter g new = s.genEntered g new := by
  have hmove : s.genMove g new = s.genEntered g new := by
    rw [State.genMove_eq hne ha, if_neg (by rw [hl]; decide), State.opensFor_other hf hs]
  rw [State.genEnter_eq, hmove]
  rw [hmove, State.genEntered_gen_same hg]
  cases new <;> exact hd

end

/-- A command of the unit that leaves the breakers and the sequencer alone. -/
theorem Only.of_unit {s t : State} (h : Only [.links, .events, .breakers, .seq, .par] s t) (hb : t.breakers = s.breakers)
    (hq : t.seq = s.seq) : Only [.links, .events, .par] s t := by
  refine h.narrow _ fun p hp hno => ?_
  cases p
  case breakers => exact hb
  case seq => exact hq
  all_goals simp at hp hno

/-! ### A generator without GENSTATUS (R149) -/

/-- Settles the first part of O37. -/
theorem silentGeneratorIsAbsent : Clause.SilentGeneratorIsAbsent := by
  intro s g hs hg hconf
  have hconf' : s.genConfigured g = true := by simpa [State.genConfigured] using hconf
  have hmarked := (hs.tends g).modGen (fun r => { r with absentTaken := true })
  have hgen := (hs.tends g).gen_same hg (fun r => { r with absentTaken := true })
  refine ⟨fun ht => ?_, fun ht htaken hdeferred hstate => ?_, fun ht htaken hstate => ?_⟩
  · have hlow : ¬ Config.absentInstants ≤ (s.gen g).absentTimer := by simpa [Config.absentInstants] using ht
    have hidle : s.absentExpiry g = s := by
      rw [State.absentExpiry]
      exact if_neg (by simp [hlow])
    exact (congrArg (finish s) hidle).trans (finish_idle hs)
  · have hexpires : s.absentExpiry g = (s.modGen g (fun r => { r with absentTaken := true })).genEntered g .absent := by
      unfold State.absentExpiry
      dsimp only
      rw [if_pos (by simp [Config.absentInstants, ht, htaken, hconf']), if_neg (by simp [hstate])]
      exact State.genEnter_plain (by simpa using hs.gens_length.symm ▸ hg) (by simp [hgen, hstate]) (by simp [GenState.attempting, hgen, hstate])
        (by simp [GenState.loaded, hgen, hstate]) (by simp [hgen, hdeferred]) (by decide) (by decide)
    have hmoved := hmarked.genEntered (new := .absent)
    have hown : ((s.modGen g (fun r => { r with absentTaken := true })).genEntered g .absent).gen g =
        { s.gen g with state := .absent, absentTaken := true, exchange := {} } := by
      rw [hmarked.gen_genEntered hg, hgen]
      rfl
    obtain ⟨es, b, hend⟩ := hmoved.finish_still (.inr (State.setpointOf_absent (by rw [hown])))
    have hexec : exec (.genAbsentTimeout g) s = _ := (congrArg (finish s) hexpires).trans hend
    refine ⟨_, hexec, hown, hmoved.others, ?_, (hs.only _ hexec).of_unit (by simp) (by simp)⟩
    rw [Records, State.endedWith_newest, State.genEntered_newest, hgen, hstate, ← hs.eventLabel]
    rfl
  · have hexpires : s.absentExpiry g = (s.modGen g (fun r => { r with absentTaken := true })).event .generator 9 g 2 none := by
      unfold State.absentExpiry
      dsimp only
      rw [if_pos (by simp [Config.absentInstants, ht, htaken, hconf']), if_pos (by simp [hstate])]
    have hrecorded := hmarked.event .generator 9 g 2 none
    have hown : ((s.modGen g (fun r => { r with absentTaken := true })).event .generator 9 g 2 none).gen g =
        { s.gen g with absentTaken := true } := (State.event_gen ..).trans hgen
    obtain ⟨es, b, hend⟩ := hrecorded.finish_still
      (.inl (State.setpointOf_same hrecorded.tables (by rw [hown]) (by rw [hown]; rfl)))
    have hexec : exec (.genAbsentTimeout g) s = _ := (congrArg (finish s) hexpires).trans hend
    exact ⟨_, hexec, hown, hrecorded.others, State.event_records hs rfl rfl,
      (hs.only _ hexec).of_unit (by simp) (by simp)⟩


end Sys2Proof.Machine
end

section
/-! # What a generator that moves leads to -/

namespace Sys2Proof.Machine

section
variable {s u v : State} {g : Nat} {new : GenState}

/-- The end of a command that moves generator `g` alone. -/
theorem Tends.finish (h : Tends s u g) (hg : g < 8) : ∃ t, finish s u = .next t ∧
    (∃ n, t.gen g = { u.gen g with refreshTimer := n }) ∧ (∀ j, j ≠ g → t.gen j = s.gen j) ∧ t.newest = u.newest ∧
      t.breakers = u.breakers ∧ t.seq = u.seq ∧ t.mgmt = u.mgmt := by
  by_cases hp : u.setpointOf g = s.setpointOf g ∨ u.setpointOf g = none
  · obtain ⟨es, b, hend⟩ := h.finish_still hp
    exact ⟨_, hend, ⟨_, rfl⟩, h.others, rfl, rfl, rfl, rfl⟩
  · obtain ⟨hchanged, hsome⟩ := not_or.1 hp
    obtain ⟨p, hp⟩ := Option.ne_none_iff_exists'.1 hsome
    obtain ⟨es, b, hend⟩ := h.finish_sent hg hp hchanged
    exact ⟨_, hend, ⟨0, State.gensetBuilt_gen_same (h.count.symm ▸ hg) p⟩, (h.gensetBuilt p).others, rfl, rfl, rfl, rfl⟩

/-! ### What a generator's OPEN moves (R101) -/

/-- An OPEN of no trip class at a breaker with an empty slot moves the breakers and the queues alone. -/
theorem State.openRequest_empty {b : Nat} {o : Origins} {k : Option Nat} (hslot : (s.brk b).slot = none) (ho : o.trip = false) :
    ∃ l x, (s.openRequest b o k).1 = { s with links := l, breakers := x } := by
  have htaken : s.takeOpen b o k = s.slotted b { action := .opening, origins := o, generator := k } := by
    simp only [State.takeOpen, ho, State.slotted, Bool.false_eq_true, if_false]
  have hplain : ∀ c : Command, c.tripOpen = false → ∀ v : State, v.tripIssued b c = v := fun c hc v => by
    rw [State.tripIssued, if_neg (by simp [hc])]
  unfold State.openRequest
  split
  · exact ⟨_, _, rfl⟩
  · dsimp only
    rw [hslot]
    dsimp only
    split
    · exact ⟨_, _, rfl⟩
    · rw [htaken]
      unfold State.issueCommand
      split
      · exact ⟨_, _, rfl⟩
      · next c hc =>
        split
        · exact ⟨_, _, rfl⟩
        · by_cases hb : b < s.breakers.recs.length
          · rw [State.slotted_brk_same hb] at hc
            obtain rfl := Option.some.inj hc
            dsimp only
            rw [hplain _ (by simp [Command.tripOpen, ho])]
            exact ⟨_, _, rfl⟩
          · have hnone : (s.slotted b { action := .opening, origins := o, generator := k }).brk b = default := by
              refine nth_default ?_
              rw [State.slotted_recs_length]
              omega
            rw [hnone] at hc
            cases hc

/-- So does the OPEN of a generator that stops. -/
theorem State.opensFor_moves (hslot : (s.brk (s.genBreaker g)).slot = none) :
    ∃ l x, s.opensFor g new = { s with links := l, breakers := x } := by
  unfold State.opensFor
  split
  · exact State.openRequest_empty hslot rfl
  · exact ⟨_, _, rfl⟩

theorem Tends.opensFor (h : Tends s u g) (hslot : (u.brk (u.genBreaker g)).slot = none) :
    Tends s (u.opensFor g new) g ∧ (u.opensFor g new).gen g = u.gen g ∧ (u.opensFor g new).newest = u.newest ∧
      (u.opensFor g new).seq = u.seq ∧ (u.opensFor g new).mgmt = u.mgmt := by
  obtain ⟨l, x, hmoves⟩ := State.opensFor_moves (new := new) hslot
  rw [hmoves]
  exact ⟨h.still rfl rfl rfl rfl, rfl, rfl, rfl, rfl⟩

/-! ### The report of the loaded counts (R132) -/

theorem State.testGens_rests (h : s.run? = none) : s.testGens = s := by
  rw [State.testGens, h]

/-- Without a plan the report of the generators' counts finds nobody. -/
theorem Drains.gensReport (hw : u.work = []) (hr : u.run? = none) : Drains 1 (u.post .gensReport) u := by
  have hposted : u.post .gensReport = { u with work := [.gensReport] } := by rw [State.post, hw]; rfl
  have hhandle : State.handle { { u with work := [.gensReport] } with work := [] } .gensReport = u := by
    rw [← hw]
    exact State.testGens_rests hr
  rw [hposted]
  exact .last rfl (.of_eq hhandle (.done hw))

/-! ### A generator that leaves NEGOTIATING (R151) -/

/-- What the entry of a generator that makes no attempt and is not loaded leads to, where no plan runs. -/
theorem State.genEnter_leads (h : Tends s u g) (hg : g < 8) (hne : (u.gen g).state ≠ new)
    (ha : (u.gen g).state.attempting = false) (hd : (u.gen g).deferred = false) (hr : u.run? = none)
    (hslot : (u.brk (u.genBreaker g)).slot = none) (hnew : new ≠ .absent) :
    ∃ n ≤ 1, ∃ w, Drains n (u.genEnter g new) w ∧ Tends s w g ∧ w.gen g = (u.gen g).enter new ∧
      w.newest = (u.genEntered g new).newest ∧ w.seq = u.seq ∧ w.mgmt = u.mgmt := by
  have hentered := h.genEntered (new := new)
  have hgen := h.gen_genEntered (new := new) hg
  have hslot' : ((u.genEntered g new).brk ((u.genEntered g new).genBreaker g)).slot = none := by
    rw [State.genBreaker, State.genEntered_fld, State.brk, State.genEntered_breakers]
    exact hslot
  obtain ⟨htends, hwgen, hwnewest, hwseq, hwmgmt⟩ := hentered.opensFor (new := new) hslot'
  rw [hgen] at hwgen
  rw [State.genEntered_seq] at hwseq
  rw [State.genEntered_mgmt] at hwmgmt
  generalize hw : (u.genEntered g new).opensFor g new = w at htends hwgen hwnewest hwseq hwmgmt
  have hdeferred : ∀ v : State, v.gen g = (u.gen g).enter new → (v.gen g).deferred = false := fun v hv => by
    rw [hv, ← hd]
    cases new <;> rfl
  have hmove := State.genMove_eq (new := new) hne (by rw [ha]; rfl)
  rw [hw] at hmove
  split at hmove
  · have henter : u.genEnter g new = w.post .gensReport := by
      rw [State.genEnter_eq, hmove]
      rw [hmove]
      exact hdeferred w hwgen
    exact ⟨1, le_refl 1, w, .of_eq henter (.gensReport htends.work (by rw [State.run?, hwseq]; exact hr)), htends, hwgen,
      hwnewest, hwseq, hwmgmt⟩
  · have henter : u.genEnter g new = w := by
      rw [State.genEnter_eq, hmove]
      rw [hmove]
      exact hdeferred w hwgen
    exact ⟨0, by omega, w, .of_eq henter (.done htends.work), htends, hwgen, hwnewest, hwseq, hwmgmt⟩

end

end Sys2Proof.Machine
end

section
/-! # Silence of a generator (O37) -/

namespace Sys2Proof.Machine

/-! ### An exchange that ends without its pages (R150) -/

section
variable {s u : State} {g : Nat}

/-- The record of an exchange that ends UNDECLARED. -/
def GenRec.undeclared (r : GenRec) (p : Parameters) : GenRec :=
  { r.agree { noAbilities with remoteStart := true } .undeclared with params := p }

/-- The exchange has ended UNDECLARED, with its event, and no more. -/
def State.undeclared (s : State) (g : Nat) : State :=
  (s.modGen g (fun r => r.undeclared (tableParameters s.mgmt.tables g))).event .generator 9 g 4 none

theorem State.gapExpiry_due (hx : (s.gen g).exchange.state = .awaitBase ∨ (s.gen g).exchange.state = .receiving)
    (ht : 720 ≤ (s.gen g).exchange.gap) : s.gapExpiry g = (s.undeclared g).afterExchange g := by
  have hruns : (s.gen g).exchange.state.running = true := by obtain h | h := hx <;> rw [h] <;> rfl
  rw [State.gapExpiry]
  exact if_pos (by simp [hruns, Config.gapInstants, ht])

theorem exec_gap_early (hs : s.Quiet) (ht : (s.gen g).exchange.gap < 720) : exec (.abilityGapTimeout g) s = .next s := by
  have hidle : s.gapExpiry g = s := by
    rw [State.gapExpiry]
    exact if_neg (by simp [Config.gapInstants, Nat.not_le.2 ht])
  exact (congrArg (finish s) hidle).trans (finish_idle hs)

theorem Tends.undeclared (h : Tends s u g) : Tends s (u.undeclared g) g := (h.modGen _).event ..

theorem State.undeclared_gen (hg : g < s.par.gens.length) :
    (s.undeclared g).gen g = (s.gen g).undeclared (tableParameters s.mgmt.tables g) :=
  (State.event_gen ..).trans (State.gen_modGen_same _ _ hg)

theorem State.undeclared_records (hs : s.Quiet) {t : State} (h : t.newest = (s.undeclared g).newest) :
    Records s t .generator 9 g 4 none := by
  rw [Records, h, State.undeclared, State.event_newest, ← hs.eventLabel]
  rfl

/-- Settles the second part of O37. -/
theorem pageGapEndsTheExchange : Clause.PageGapEndsTheExchange := by
  intro s g hs hg hstate hx
  refine ⟨exec_gap_early hs, fun ht => ?_⟩
  have htends := (hs.tends g).undeclared
  have hgen := State.undeclared_gen (s := s) (g := g) (hs.gens_length.symm ▸ hg)
  have hexpires : s.gapExpiry g = s.undeclared g := by
    rw [State.gapExpiry_due hx ht, State.afterExchange, hgen]
    exact if_neg (by simp [GenRec.undeclared, GenRec.agree, hstate])
  obtain ⟨t, hend, ⟨n, hown⟩, hothers, hnewest, hbreakers, hseq, -⟩ := htends.finish hg
  have hexec : exec (.abilityGapTimeout g) s = .next t := (congrArg (finish s) hexpires).trans hend
  rw [hgen] at hown
  refine ⟨t, hexec, ?_, ?_, ?_, ?_, ?_, ?_, hothers, State.undeclared_records hs hnewest,
    (hs.only _ hexec).of_unit ?_ ?_⟩
  · rw [hown]; rfl
  · rw [hown]; rfl
  · rw [hown]; rfl
  · rw [hown]; rfl
  · rw [hown]; rfl
  · rw [hown]; exact hstate
  · rw [hbreakers]; simp [State.undeclared]
  · rw [hseq]; simp [State.undeclared]

/-- The state for which NEGOTIATING is left, by the standing facts (R151). -/
def State.settledState (s : State) (g : Nat) : GenState :=
  match (s.brk (s.fld .generator g 3)).position, (s.gen g).status.running with
  | .unknown, _ => .negotiating
  | .closed, true => .online
  | .closed, false => .stopping
  | _, true => if Clause.rated s g then .ready else .standby
  | _, false => .standby

theorem State.settledState_unknown (h : (s.brk (s.fld .generator g 3)).position = .unknown) :
    s.settledState g = .negotiating := by
  rw [State.settledState, h]

theorem State.settledState_mem (h : (s.brk (s.fld .generator g 3)).position ≠ .unknown) :
    s.settledState g ∈ [GenState.online, .stopping, .ready, .standby] := by
  unfold State.settledState
  split
  · exact absurd ‹_› h
  · exact List.mem_of_elem_eq_true rfl
  · exact List.mem_of_elem_eq_true rfl
  · split
    · exact List.mem_of_elem_eq_true rfl
    · exact List.mem_of_elem_eq_true rfl
  · exact List.mem_of_elem_eq_true rfl

@[simp] theorem GenRec.enter_state (r : GenRec) (new : GenState) : (r.enter new).state = new := by cases new <;> rfl
@[simp] theorem GenRec.enter_common (r : GenRec) (new : GenState) : (r.enter new).common = r.common := by cases new <;> rfl
@[simp] theorem GenRec.enter_params (r : GenRec) (new : GenState) : (r.enter new).params = r.params := by cases new <;> rfl
@[simp] theorem GenRec.enter_speedBias (r : GenRec) (new : GenState) : (r.enter new).speedBias = r.speedBias := by
  cases new <;> rfl
@[simp] theorem GenRec.enter_voltageBias (r : GenRec) (new : GenState) : (r.enter new).voltageBias = r.voltageBias := by
  cases new <;> rfl
theorem GenRec.enter_exchange (r : GenRec) {new : GenState} (h : new ≠ .absent) : (r.enter new).exchange = r.exchange := by
  cases new with
  | absent => exact absurd rfl h
  | _ => rfl

@[simp] theorem State.undeclared_mgmt : (s.undeclared g).mgmt = s.mgmt := by simp [State.undeclared]
@[simp] theorem State.undeclared_seq : (s.undeclared g).seq = s.seq := by simp [State.undeclared]
@[simp] theorem State.undeclared_breakers : (s.undeclared g).breakers = s.breakers := by simp [State.undeclared]
@[simp] theorem State.undeclared_measures : (s.undeclared g).measures = s.measures := by simp [State.undeclared]
@[simp] theorem State.undeclared_aligner : (s.undeclared g).aligner = s.aligner := by simp [State.undeclared]
@[simp] theorem State.undeclared_brk (b : Nat) : (s.undeclared g).brk b = s.brk b := by simp [State.brk]
@[simp] theorem State.undeclared_fld (x : TableId) (e id : Nat) : (s.undeclared g).fld x e id = s.fld x e id := by
  simp [State.fld]
@[simp] theorem State.undeclared_measure (k : Nat) : (s.undeclared g).measure k = s.measure k := by simp [State.measure]
@[simp] theorem State.undeclared_phasor (k q : Nat) : (s.undeclared g).phasor k q = s.phasor k q := by
  simp [State.phasor]

theorem State.undeclared_genPosition : (s.undeclared g).genPosition g = (s.brk (s.fld .generator g 3)).position := by
  simp [State.genPosition, State.genBreaker]

theorem State.undeclared_atRated : (s.undeclared g).atRated g = Clause.rated s g := by
  simp [State.atRated, Clause.rated]

/-- The state is taken where the position is known. -/
theorem State.settleNegotiated_known (hrun : ((s.undeclared g).gen g).status.running = (s.gen g).status.running)
    (hpos : (s.brk (s.fld .generator g 3)).position ≠ .unknown) :
    (s.undeclared g).settleNegotiated g = (s.undeclared g).genEnter g (s.settledState g) := by
  rw [State.settleNegotiated, State.settledState, State.undeclared_genPosition, State.undeclared_atRated, hrun]
  cases hp : (s.brk (s.fld .generator g 3)).position <;> cases hr : (s.gen g).status.running
  case unknown.false => exact absurd hp hpos
  case unknown.true => exact absurd hp hpos
  all_goals simp

end

/-- A command of the unit that leaves the sequencer alone. -/
theorem Only.of_seq {s t : State} (h : Only [.links, .events, .breakers, .seq, .par] s t) (hq : t.seq = s.seq) :
    Only [.links, .events, .breakers, .par] s t := by
  refine h.narrow _ fun p hp hno => ?_
  cases p
  case seq => exact hq
  all_goals simp at hp hno

/-- Settles the third part of O37. -/
theorem pageGapSettlesTheState : Clause.PageGapSettlesTheState := by
  intro s g hs hg hstate hdeferred hx hrun hslot position
  refine ⟨exec_gap_early hs, fun ht => ?_⟩
  have htends := (hs.tends g).undeclared
  have hgen := State.undeclared_gen (s := s) (g := g) (hs.gens_length.symm ▸ hg)
  have hnegotiating : ((s.undeclared g).gen g).state = .negotiating := by rw [hgen]; exact hstate
  have hafter : s.gapExpiry g = (s.undeclared g).settleNegotiated g := by
    rw [State.gapExpiry_due hx ht, State.afterExchange]
    exact if_pos (by rw [hgen]; simp [GenRec.undeclared, GenRec.agree, GenRec.exchangeEnded, hstate])
  by_cases hpos : position = .unknown
  · have hexpires : s.gapExpiry g = s.undeclared g := by
      rw [hafter, State.settleNegotiated, State.undeclared_genPosition,
        show (s.brk (s.fld .generator g 3)).position = .unknown from hpos]
    obtain ⟨t, hend, ⟨n, hown⟩, hothers, hnewest, hbreakers, hseq, -⟩ := htends.finish hg
    have hexec : exec (.abilityGapTimeout g) s = .next t := (congrArg (finish s) hexpires).trans hend
    rw [hgen] at hown
    refine ⟨t, hexec, by rw [hown]; rfl, by rw [hown]; rfl, by rw [hown]; rfl, by rw [hown]; rfl, by rw [hown]; rfl, ?_,
      hothers, fun _ => State.undeclared_records hs hnewest, fun h => absurd hpos h, ?_⟩
    · show (t.gen g).state = s.settledState g
      rw [State.settledState_unknown hpos, hown]
      exact hstate
    · exact (hs.only _ hexec).of_seq (hseq.trans State.undeclared_seq)
  · have hmem := State.settledState_mem hpos
    have hne : s.settledState g ≠ .negotiating := fun h => by rw [h] at hmem; exact absurd hmem (by decide)
    have hpresent : s.settledState g ≠ .absent := fun h => by rw [h] at hmem; exact absurd hmem (by decide)
    have hfault : s.settledState g ≠ .fault := fun h => by rw [h] at hmem; exact absurd hmem (by decide)
    obtain ⟨n, hn, w, hdrains, hw, hwgen, hwnewest, hwseq, -⟩ := State.genEnter_leads (new := s.settledState g) htends hg
      (by rw [hnegotiating]; exact hne.symm) (by rw [hnegotiating]; rfl) (by rw [hgen]; exact hdeferred)
      (by rw [State.run?, State.undeclared_seq]; exact hrun)
      (by rw [State.genBreaker, State.undeclared_fld, State.undeclared_brk]; exact hslot) hpresent
    have hexpires : s.gapExpiry g = (s.undeclared g).genEnter g (s.settledState g) :=
      hafter.trans (State.settleNegotiated_known (by rw [hgen]; rfl) hpos)
    obtain ⟨t, hend, ⟨m, hown⟩, hothers, hnewest, hbreakers, hseq, -⟩ := hw.finish hg
    have hexec : exec (.abilityGapTimeout g) s = .next t :=
      ((congrArg (finish s) hexpires).trans (congrArg Host.Outcome.next (hdrains.settle (hn.trans (by decide))))).trans hend
    rw [hwgen, hgen] at hown
    refine ⟨t, hexec, ?_, ?_, ?_, ?_, ?_, ?_, hothers, fun h => absurd h hpos, fun _ => ?_, ?_⟩
    · rw [hown]; exact GenRec.enter_common ..
    · rw [hown]; exact GenRec.enter_speedBias ..
    · rw [hown]; exact GenRec.enter_voltageBias ..
    · rw [hown]; exact GenRec.enter_params ..
    · rw [hown]; exact GenRec.enter_exchange _ hpresent
    · rw [hown]; exact GenRec.enter_state ..
    · have hpriority : genPriority ((s.undeclared g).gen g).state (s.settledState g) = 6 := by
        unfold genPriority
        split <;> simp_all
      rw [hnewest, hwnewest, State.genEntered_newest, hpriority, hown]
      simp
    · exact (hs.only _ hexec).of_seq ((hseq.trans hwseq).trans State.undeclared_seq)

/-- Settles O37. -/
theorem silenceOfAGenerator : Obligations.SilenceOfAGenerator :=
  ⟨silentGeneratorIsAbsent, pageGapEndsTheExchange, pageGapSettlesTheState, refreshBuildsAGenset⟩


end Sys2Proof.Machine
end

section
/-! # The operator's CLEAR-GEN-FAULT and RENEGOTIATE (O56) -/

namespace Sys2Proof.Machine

section
variable {s u v : State} {g : Nat} {l : Link} {q : Request}

/-! ### A page of the ability exchange is built (R150) -/

/-- The state in which a page is built and handed over. -/
def State.paged (s : State) (g : Nat) (p : Page) : State :=
  ({ s with links := { s.links with abilitySeq := step16 s.links.abilitySeq } }.onUpLinks
    (LinkPort.admitNormal OutFrame.isAbility
      ⟨s.ownAddress, s.fld .generator g 2, s.links.abilitySeq, .ability g p, false, false⟩)).1

theorem State.sendPage_paged (h : s.hushed = false) (p : Page) : s.sendPage g p = s.paged g p := by
  rw [State.sendPage]
  exact if_neg (by simp [h])

@[simp] theorem State.paged_work (p : Page) : (s.paged g p).work = s.work := rfl
@[simp] theorem State.paged_hushed (p : Page) : (s.paged g p).hushed = s.hushed := rfl
@[simp] theorem State.paged_mgmt (p : Page) : (s.paged g p).mgmt = s.mgmt := rfl
@[simp] theorem State.paged_seq (p : Page) : (s.paged g p).seq = s.seq := rfl
@[simp] theorem State.paged_breakers (p : Page) : (s.paged g p).breakers = s.breakers := rfl
@[simp] theorem State.paged_par (p : Page) : (s.paged g p).par = s.par := rfl
@[simp] theorem State.paged_newest (p : Page) : (s.paged g p).newest = s.newest := rfl
@[simp] theorem State.paged_gen (p : Page) (j : Nat) : (s.paged g p).gen j = s.gen j := rfl
@[simp] theorem State.paged_abilitySeq (p : Page) : (s.paged g p).links.abilitySeq = step16 s.links.abilitySeq := rfl
@[simp] theorem State.paged_gensetSeq (p : Page) : (s.paged g p).links.gensetSeq = s.links.gensetSeq := rfl

theorem State.paged_port (p : Page) (l : Link) : (s.paged g p).port l =
    if (s.port l).up then ((s.port l).admitNormal OutFrame.isAbility
      ⟨s.ownAddress, s.fld .generator g 2, s.links.abilitySeq, .ability g p, false, false⟩).1 else s.port l := by
  cases l <;> (simp only [State.paged, State.onUpLinks, State.port]; split <;> simp [*])

theorem LinkPort.admitNormal_bulk (t : OutFrame → Bool) (f : OutFrame) (p : LinkPort) : (p.admitNormal t f).1.bulk = p.bulk := by
  unfold LinkPort.admitNormal
  split <;> rfl

theorem Waiting.paged (h : Waiting s u) (p : Page) : Waiting s (u.paged g p) where
  own := h.own
  responseSeq := h.responseSeq
  place l hl := by
    have hbulk : ((u.paged g p).port l).bulk = (u.port l).bulk := by
      rw [State.paged_port]
      split
      · exact LinkPort.admitNormal_bulk ..
      · rfl
    exact hbulk ▸ h.place l hl

theorem Tends.paged (h : Tends s u g) (p : Page) : Tends s (u.paged g p) g := h.still rfl rfl rfl rfl

/-- The page stands in the normal queue of each link that is UP with room for its class. -/
theorem State.paged_sends (p : Page) (hl : (s.port l).up = true) (hroom : (s.port l).normalCount OutFrame.isAbility < 8) :
    (⟨s.ownAddress, s.fld .generator g 2, s.links.abilitySeq, .ability g p, false, false⟩ : OutFrame) ∈
      ((s.paged g p).port l).normal := by
  rw [State.paged_port, if_pos hl, LinkPort.admitNormal, if_pos (by exact hroom)]
  exact List.mem_append_right _ (List.mem_singleton_self _)

/-! ### An operator's request that moves one generator -/

theorem Waiting.genEntered {new : GenState} (h : Waiting s u) : Waiting s (u.genEntered g new) :=
  (h.of_links (v := u.noting ((u.modGen g (fun r => r.enter new)).modPar (fun p =>
    { p with waitList := p.waitList.filter (· != g), demandDue := true }))) rfl rfl).event _ _ _ _ _

theorem State.booked_tends (h : s.Quiet) (l : Link) (q : Request) (g : Nat) : Tends s (s.booked l q) g where
  work := (s.booked_work l q).trans h.1
  hushed := by cases l <;> exact h.2.2.1
  tables := by rw [State.booked_mgmt]; rfl
  count := by rw [State.booked_par]; exact h.gens_length
  others j _ := s.booked_gen l q j

/-- The request is answered, and no other generator moves. -/
theorem exec_tended {i : Instr} {r : Reply} (hu : Tends s u g) (hwaits : Waiting s u) (hg : g < 8)
    (hm : u.mgmt = s.answered .done) (hexec : exec i s = finish s (u.answer (s.ticketFor 7 q) (some r))) :
    ∃ t, exec i s = .next t ∧ Replies s t q 7 r.status r.detailA r.detailB r.data ∧
      (∃ n, t.gen g = { u.gen g with refreshTimer := n }) ∧ (u.setpointOf g = s.setpointOf g → t.gen g = u.gen g) ∧
      (∀ j, j ≠ g → t.gen j = s.gen j) ∧ t.newest = u.newest ∧ t.mgmt = s.answered r.status ∧
      t.breakers = u.breakers ∧ t.seq = u.seq := by
  have hanswer : Tends s (u.answer (s.ticketFor 7 q) (some r)) g :=
    hu.still (State.answer_work _ _) (by rw [State.answer, State.respond_eq]) (State.answer_tables' _ _)
      (by rw [State.answer_par])
  obtain ⟨t, hend, hgen, hothers, hnewest, hbreakers, hseq, -⟩ := hanswer.finish hg
  have hanswered : (u.answer (s.ticketFor 7 q) (some r)).gen g = u.gen g :=
    congrArg (fun p : Paralleling => nth p.gens g) (State.answer_par _ _)
  have hset : (u.answer (s.ticketFor 7 q) (some r)).setpointOf g = u.setpointOf g := State.answer_setpointOf _ _ g
  have ht : t = State.settle s (u.answer (s.ticketFor 7 q) (some r)) := (Host.Outcome.next.inj hend).symm
  refine ⟨t, hexec.trans hend, ht ▸ hwaits.replies hu.work 7 q r, ?_, fun hsame => ?_, hothers, ?_,
    ht ▸ State.settle_answered hm _ _, ?_, ?_⟩
  · rw [hanswered] at hgen
    exact hgen
  · obtain ⟨es, b, hend'⟩ := hanswer.finish_still (.inl (hset.trans hsame))
    rw [← Host.Outcome.next.inj (hend'.symm.trans hend), State.endedWith_gen, hanswered]
  · rw [hnewest, State.answer_newest]
  · rw [hbreakers, State.answer_breakers]
  · rw [hseq, State.answer_seq]

/-- Such a request touches no breaker and leaves the sequencer alone. -/
theorem Only.of_operator {t : State} (h : Only [.links, .events, .breakers, .seq, .par, .mgmt] s t)
    (hb : t.breakers = s.breakers) (hq : t.seq = s.seq) : Only [.links, .events, .par, .mgmt] s t := by
  refine h.narrow _ fun p hp hno => ?_
  cases p
  case breakers => exact hb
  case seq => exact hq
  all_goals simp at hp hno

/-! ### CLEAR-GEN-FAULT (R167) -/

/-- The state in which a generator's failure counts are 0. -/
def State.failuresCleared (s : State) (g : Nat) : State :=
  s.modGen g (fun r => { r with deadFailures := 0, closeFailures := 0 })

theorem State.clearGenFault_done (hq : q.argA < 8) (hlen : q.argA < s.par.gens.length) (hstate : (s.gen q.argA).state = .fault)
    (hruns : (s.gen q.argA).status.running = false) (hfault : (s.gen q.argA).status.fault = false)
    (hopen : s.genPosition q.argA = .opened) (hd : (s.gen q.argA).deferred = false) :
    State.clearGenFault q s = ((s.failuresCleared q.argA).genEntered q.argA .standby).operatorDone q (Reply.of .done) := by
  have hgen : (s.failuresCleared q.argA).gen q.argA = { s.gen q.argA with deadFailures := 0, closeFailures := 0 } :=
    State.gen_modGen_same _ _ hlen
  have henter : (s.failuresCleared q.argA).genEnter q.argA .standby = (s.failuresCleared q.argA).genEntered q.argA .standby :=
    State.genEnter_plain ((List.length_modify ..).symm ▸ hlen) (by rw [hgen]; simp [hstate])
      (by rw [hgen]; simp [hstate, GenState.attempting]) (by rw [hgen]; simp [hstate, GenState.loaded])
      (by rw [hgen]; exact hd) (by decide) (by decide)
  rw [State.clearGenFault]
  rw [if_neg (by omega), if_neg (by simp [hstate]), if_neg (by simp [hruns, hfault, hopen]), ← henter]
  rfl

theorem State.clearGenFault_refused (hq : q.argA < 8) (h : (s.gen q.argA).state ≠ .fault ∨
    (s.gen q.argA).status.running = true ∨ (s.gen q.argA).status.fault = true ∨ s.genPosition q.argA ≠ .opened) :
    State.clearGenFault q s = (s, some (Reply.of .notPermitted)) := by
  rw [State.clearGenFault]
  rw [if_neg (by omega)]
  split
  · rfl
  · next hf => exact if_pos (by simpa [or_assoc] using h.resolve_left (by simpa using hf))

/-! ### RENEGOTIATE (R152) -/

/-- The state in which a generator that was in STANDBY begins its exchange anew. -/
def State.negotiating (s : State) (g : Nat) : State :=
  (((s.modGen g (fun r => { r with deferred := false })).genEntered g .negotiating).modGen g (fun r =>
    { r with exchange := { state := .awaitBase }, params := tableParameters s.mgmt.tables g })).paged g
      ⟨false, false, false, .base (Abilities.ofByte (s.fld .generator g 11))⟩

theorem State.beginExchange_eq (hh : s.hushed = false) : s.beginExchange g = (s.modGen g (fun r =>
    { r with exchange := { state := .awaitBase }, params := tableParameters s.mgmt.tables g })).paged g
      ⟨false, false, false, .base (Abilities.ofByte (s.fld .generator g 11))⟩ := by
  rw [State.beginExchange, State.sendPage_paged (by exact hh)]
  rfl

theorem State.renegotiate_eq (hlen : g < s.par.gens.length) (hh : s.hushed = false) (hf : (s.gen g).state ≠ .fault)
    (hn : (s.gen g).state ≠ .negotiating) (ha : (s.gen g).state.attempting = false) (hl : (s.gen g).state.loaded = false) :
    s.renegotiate g = s.negotiating g := by
  have hgen : (s.modGen g (fun r => { r with deferred := false })).gen g = { s.gen g with deferred := false } :=
    State.gen_modGen_same _ _ hlen
  have hmove : (s.modGen g (fun r => { r with deferred := false })).genMove g .negotiating =
      (s.modGen g (fun r => { r with deferred := false })).genEntered g .negotiating := by
    rw [State.genMove_eq (by rw [hgen]; exact hn) (by rw [hgen]; simp [ha]),
      if_neg (by rw [hgen]; dsimp only; rw [hl]; decide), State.opensFor_other (by decide) (by decide)]
  rw [State.renegotiate]
  rw [if_neg (by rw [hgen]; simp [hf]), hmove, State.beginExchange_eq (by rw [State.genEntered_hushed]; exact hh),
    State.genEntered_fld, State.genEntered_mgmt]
  rfl

@[simp] theorem State.negotiating_mgmt : (s.negotiating g).mgmt = s.mgmt := by simp [State.negotiating]
@[simp] theorem State.negotiating_seq : (s.negotiating g).seq = s.seq := by simp [State.negotiating]
@[simp] theorem State.negotiating_breakers : (s.negotiating g).breakers = s.breakers := by simp [State.negotiating]

theorem Tends.negotiating (h : Tends s u g) : Tends s (u.negotiating g) g := by
  have hentered := (h.modGen (fun r => { r with deferred := false })).genEntered (new := .negotiating)
  exact (hentered.modGen _).paged _

theorem Tends.gen_negotiating (h : Tends s u g) (hg : g < 8) : (u.negotiating g).gen g = { u.gen g with
    state := .negotiating, deferred := false, exchange := { state := .awaitBase }
    params := tableParameters s.mgmt.tables g } := by
  have hcleared := h.modGen (fun r => { r with deferred := false })
  have hentered := hcleared.genEntered (new := .negotiating)
  rw [State.negotiating, State.paged_gen, hentered.gen_same hg, hcleared.gen_genEntered hg, h.gen_same hg, h.tables]
  rfl

theorem Waiting.modGen (h : Waiting s u) (f : GenRec → GenRec) : Waiting s (u.modGen g f) := h.of_links rfl rfl

theorem Waiting.negotiating (h : Waiting s u) : Waiting s (u.negotiating g) := by
  have hentered := (h.modGen (g := g) (fun r => { r with deferred := false })).genEntered (g := g) (new := .negotiating)
  exact (hentered.modGen _).paged _

theorem State.operatorRenegotiate_eq (hq : q.argA < 8) (hconf : s.genConfigured q.argA = true)
    (ha : (s.gen q.argA).state ≠ .absent) : State.operatorRenegotiate q s =
      if (s.gen q.argA).state.keepsAbilities then
        (s.modGen q.argA (fun r => { r with deferred := true })).operatorDone q (Reply.of .done)
      else (s.renegotiate q.argA).operatorDone q (Reply.of .done) := by
  rw [State.operatorRenegotiate, if_neg (by omega), if_neg (by simp [hconf, ha])]

theorem State.operatorRenegotiate_absent (hq : q.argA < 8) (ha : (s.gen q.argA).state = .absent) :
    State.operatorRenegotiate q s = (s, some (Reply.of .notPermitted)) := by
  rw [State.operatorRenegotiate, if_neg (by omega), if_pos (by simp [ha])]

/-- A request that moves one generator ends with the record of the operator's action (R185). -/
theorem exec_operated {i : Instr} (hu : Tends s u q.argA) (hwaits : Waiting s u) (hq : q.argA < 8)
    (hm : u.mgmt = s.answered .done) (hb : u.breakers = s.breakers) (hseq : u.seq = s.seq)
    (hexec : exec i s = finish s ((u.operatorDone q (Reply.of .done)).1.answer (s.ticketFor 7 q)
      (u.operatorDone q (Reply.of .done)).2)) :
    ∃ t, exec i s = .next t ∧ Replies s t q 7 .done 0 0 [] ∧
      (∃ n, t.gen q.argA = { u.gen q.argA with refreshTimer := n }) ∧
      (u.setpointOf q.argA = s.setpointOf q.argA → t.gen q.argA = u.gen q.argA) ∧ (∀ j, j ≠ q.argA → t.gen j = s.gen j) ∧
      t.newest.map (fun x => (x.cls, x.priority, x.object, x.code, x.value)) =
        some (.management, 7, q.target, 8, some q.argA) ∧
      t.mgmt = s.answered .done ∧ t.breakers = s.breakers ∧ t.seq = s.seq := by
  obtain ⟨t, hend, hreplies, hgen, hsame, hothers, hnewest, hmgmt, hbreakers, hsequencer⟩ :=
    exec_tended (hu.event .management 7 q.target 8 (some q.argA)) (hwaits.event ..) hq (by rw [State.event_mgmt, hm]) hexec
  rw [State.event_gen] at hgen hsame
  refine ⟨t, hend, hreplies, hgen, fun h => hsame ((State.event_setpointOf ..).trans h), hothers, ?_, hmgmt, ?_, ?_⟩
  · rw [hnewest, State.event_newest]
    rfl
  · rw [hbreakers, State.event_breakers, hb]
  · rw [hsequencer, State.event_seq, hseq]

end

section
variable {s : State} {l : Link} {q : Request}

theorem State.booked_genConfigured (g : Nat) : (s.booked l q).genConfigured g = s.genConfigured g := by
  simp [State.genConfigured]

theorem State.booked_genPosition (g : Nat) : (s.booked l q).genPosition g = s.genPosition g := by
  simp [State.genPosition, State.genBreaker]

theorem exec_clearGenFault_done (h : s.Asked l q) (hq : q.argA < 8) (hconf : s.genConfigured q.argA = true)
    (hstate : (s.gen q.argA).state = .fault) (hruns : (s.gen q.argA).status.running = false)
    (hfault : (s.gen q.argA).status.fault = false) (hopen : s.genPosition q.argA = .opened)
    (hd : (s.gen q.argA).deferred = false) :
    ∃ t, exec (.clearGenFault l q) s = .next t ∧ Replies s t q 7 .done 0 0 [] ∧
      t.gen q.argA = { s.gen q.argA with state := .standby, deadFailures := 0, closeFailures := 0 } ∧
      (∀ j, j ≠ q.argA → t.gen j = s.gen j) ∧ t.newest.map (fun x => (x.cls, x.priority, x.object, x.code, x.value)) =
        some (.management, 7, q.target, 8, some q.argA) ∧
      t.mgmt = s.answered .done ∧ Only [.links, .events, .par, .mgmt] s t := by
  have hexec : exec (.clearGenFault l q) s = finish s ((State.clearGenFault q (s.booked l q)).1.answer (s.ticketFor 7 q)
    (State.clearGenFault q (s.booked l q)).2) := finish_operate h (State.clearGenFault q)
  have hgen := s.booked_gen l q q.argA
  have htends := State.booked_tends h.1 l q q.argA
  have hwaits := (s.booked_awaiting l q).waiting
  rw [State.clearGenFault_done hq (htends.count.symm ▸ hq) (by rw [hgen, hstate]) (by rw [hgen, hruns]) (by rw [hgen, hfault])
    ((State.booked_genPosition _).trans hopen) (by rw [hgen, hd])] at hexec
  have hcleared : Tends s ((s.booked l q).failuresCleared q.argA) q.argA := htends.modGen _
  have hown : (((s.booked l q).failuresCleared q.argA).genEntered q.argA .standby).gen q.argA =
      { s.gen q.argA with state := .standby, deadFailures := 0, closeFailures := 0 } := by
    rw [hcleared.gen_genEntered hq, State.failuresCleared, htends.gen_same hq, hgen]
    rfl
  have hset : (((s.booked l q).failuresCleared q.argA).genEntered q.argA .standby).setpointOf q.argA =
      s.setpointOf q.argA := by
    rw [State.setpointOf_present hconf (by rw [hstate]; decide), State.setpointOf_present
      (by rw [State.genConfigured, State.genEntered_fld]; exact (s.booked_genConfigured (l := l) (q := q) q.argA).trans hconf)
      (by rw [hown]; simp), hown]
    exact congrArg some (by simp only [GenRec.setpoint, hstate]; rfl)
  have hwaited : Waiting s (((s.booked l q).failuresCleared q.argA).genEntered q.argA .standby) :=
    Waiting.genEntered (hwaits.modGen _)
  obtain ⟨t, hend, hreplies, -, hsame, hothers, hrecorded, hm, hb, hseq⟩ := exec_operated
    (hcleared.genEntered (new := .standby)) hwaited hq (by rw [State.genEntered_mgmt]; exact s.booked_mgmt l q)
    (by rw [State.genEntered_breakers]; exact s.booked_breakers l q) (by rw [State.genEntered_seq]; exact s.booked_seq l q) hexec
  exact ⟨t, hend, hreplies, (hsame hset).trans hown, hothers, hrecorded, hm, (h.1.only _ hend).of_operator hb hseq⟩

theorem exec_renegotiate (h : s.Asked l q) : exec (.renegotiate l q) s =
    finish s ((State.operatorRenegotiate q (s.booked l q)).1.answer (s.ticketFor 7 q)
      (State.operatorRenegotiate q (s.booked l q)).2) := finish_operate h (State.operatorRenegotiate q)

theorem exec_renegotiate_standby (h : s.Asked l q) (hq : q.argA < 8) (hconf : s.genConfigured q.argA = true)
    (hstate : (s.gen q.argA).state = .standby) :
    ∃ t n, exec (.renegotiate l q) s = .next t ∧ Replies s t q 7 .done 0 0 [] ∧
      t.gen q.argA = { s.gen q.argA with
        state := .negotiating, deferred := false, exchange := { state := .awaitBase }
        params := tableParameters s.mgmt.tables q.argA, refreshTimer := n } ∧
      (∀ j, j ≠ q.argA → t.gen j = s.gen j) ∧ t.newest.map (fun x => (x.cls, x.priority, x.object, x.code, x.value)) =
        some (.management, 7, q.target, 8, some q.argA) ∧
      t.mgmt = s.answered .done ∧ Only [.links, .events, .par, .mgmt] s t := by
  have hexec := exec_renegotiate h
  have hgen := s.booked_gen l q q.argA
  have htends := State.booked_tends h.1 l q q.argA
  rw [State.operatorRenegotiate_eq hq ((State.booked_genConfigured _).trans hconf) (by rw [hgen, hstate]; decide),
    if_neg (by rw [hgen, hstate]; decide),
    State.renegotiate_eq (htends.count.symm ▸ hq) htends.hushed (by rw [hgen, hstate]; decide)
      (by rw [hgen, hstate]; decide) (by rw [hgen, hstate]; rfl) (by rw [hgen, hstate]; rfl)] at hexec
  obtain ⟨t, hend, hreplies, ⟨n, hnow⟩, -, hothers, hrecorded, hm, hb, hseq⟩ := exec_operated htends.negotiating
    (s.booked_awaiting l q).waiting.negotiating hq ((State.negotiating_mgmt).trans (s.booked_mgmt l q))
    ((State.negotiating_breakers).trans (s.booked_breakers l q)) ((State.negotiating_seq).trans (s.booked_seq l q)) hexec
  rw [htends.gen_negotiating hq, hgen] at hnow
  exact ⟨t, n, hend, hreplies, hnow, hothers, hrecorded, hm, (h.1.only _ hend).of_operator hb hseq⟩

theorem exec_renegotiate_online (h : s.Asked l q) (hq : q.argA < 8) (hconf : s.genConfigured q.argA = true)
    (hstate : (s.gen q.argA).state = .online) :
    ∃ t, exec (.renegotiate l q) s = .next t ∧ Replies s t q 7 .done 0 0 [] ∧
      t.gen q.argA = { s.gen q.argA with deferred := true } ∧
      (∀ j, j ≠ q.argA → t.gen j = s.gen j) ∧ t.newest.map (fun x => (x.cls, x.priority, x.object, x.code, x.value)) =
        some (.management, 7, q.target, 8, some q.argA) ∧
      t.mgmt = s.answered .done ∧ Only [.links, .events, .par, .mgmt] s t := by
  have hexec := exec_renegotiate h
  have hgen := s.booked_gen l q q.argA
  have htends := State.booked_tends h.1 l q q.argA
  rw [State.operatorRenegotiate_eq hq ((State.booked_genConfigured _).trans hconf) (by rw [hgen, hstate]; decide),
    if_pos (by rw [hgen, hstate]; decide)] at hexec
  have hown : ((s.booked l q).modGen q.argA (fun r => { r with deferred := true })).gen q.argA =
      { s.gen q.argA with deferred := true } := by rw [htends.gen_same hq, hgen]
  have hset : ((s.booked l q).modGen q.argA (fun r => { r with deferred := true })).setpointOf q.argA =
      s.setpointOf q.argA :=
    State.setpointOf_same htends.tables (by rw [hown]) (by rw [hown]; rfl)
  obtain ⟨t, hend, hreplies, -, hsame, hothers, hrecorded, hm, hb, hseq⟩ := exec_operated (htends.modGen _)
    ((s.booked_awaiting l q).waiting.modGen _) hq ((State.modGen_mgmt ..).trans (s.booked_mgmt l q))
    ((State.modGen_breakers ..).trans (s.booked_breakers l q)) ((State.modGen_seq ..).trans (s.booked_seq l q)) hexec
  exact ⟨t, hend, hreplies, (hsame hset).trans hown, hothers, hrecorded, hm, (h.1.only _ hend).of_operator hb hseq⟩

end

/-- Settles O56. -/
theorem operatorTendsTheGenerators : Obligations.OperatorTendsTheGenerators := by
  intro s l q h hq hconf r others recorded
  have hconf' : s.genConfigured q.argA = true := by simpa [State.genConfigured] using hconf
  refine ⟨exec_clearGenFault_done h hq hconf', fun hno => ?_, fun hstate => ?_, exec_renegotiate_online h hq hconf',
    fun hstate => ?_⟩
  · have hexec : exec (.clearGenFault l q) s = finish s ((State.clearGenFault q (s.booked l q)).1.answer (s.ticketFor 7 q)
      (State.clearGenFault q (s.booked l q)).2) := finish_operate h (State.clearGenFault q)
    rw [State.clearGenFault_refused hq (by rw [s.booked_gen, State.booked_genPosition]; exact hno)] at hexec
    exact exec_answered h.1 hexec
  · obtain ⟨t, n, hend, hreplies, hnow, hrest⟩ := exec_renegotiate_standby h hq hconf' hstate
    exact ⟨t, hend, hreplies, by rw [hnow], by rw [hnow], by rw [hnow]; rfl, by rw [hnow], hrest⟩
  · have hexec := exec_renegotiate h
    rw [State.operatorRenegotiate_absent hq (by rw [s.booked_gen]; exact hstate)] at hexec
    exact exec_answered h.1 hexec


end Sys2Proof.Machine
end

section
/-! # GENSTATUS frames (O35) -/

namespace Sys2Proof.Machine

section
variable {s u v : State} {g : Nat} {l : Link}

/-! ### What a record leaves of the unit's frames -/

theorem State.onUpLinks_port (f : LinkPort → LinkPort × Bool) (l : Link) :
    (s.onUpLinks f).1.port l = if (s.port l).up then (f (s.port l)).1 else s.port l := by
  cases l <;> (simp only [State.onUpLinks, State.port]; split <;> simp [*])

/-- Frames of no other class join with an EVENT frame. -/
theorem State.sendEvents_abilities (urgent : Bool) (l : Link) :
    ((s.sendEvents urgent).port l).normalCount OutFrame.isAbility = (s.port l).normalCount OutFrame.isAbility := by
  have hadmit : ∀ (f : OutFrame) (p : LinkPort), f.isAbility = false →
      ((if urgent then LinkPort.admitNormal OutFrame.isEvent f else LinkPort.admitBulk f) p).1.normalCount OutFrame.isAbility =
        p.normalCount OutFrame.isAbility := by
    intro f p hf
    cases urgent
    · rw [if_neg (by decide), LinkPort.admitBulk]
      split <;> rfl
    · rw [if_pos rfl, LinkPort.admitNormal]
      split
      · simp [LinkPort.normalCount, hf]
      · rfl
  have hport : ∀ (t : State) (f : OutFrame), f.isAbility = false → ((t.onUpLinks
      (if urgent then LinkPort.admitNormal OutFrame.isEvent f else LinkPort.admitBulk f)).1.port l).normalCount
        OutFrame.isAbility = (t.port l).normalCount OutFrame.isAbility := by
    intro t f hf
    rw [State.onUpLinks_port]
    split
    · exact hadmit f _ hf
    · rfl
  unfold State.sendEvents
  dsimp only
  split
  · rfl
  · split
    · exact (hport _ _ rfl).trans (by cases l <;> rfl)
    · exact (hport _ _ rfl).trans (by cases l <;> rfl)

theorem State.event_abilities (c : EventClass) (priority object code : Nat) (value : Option Nat) (l : Link) :
    ((s.event c priority object code value).port l).normalCount OutFrame.isAbility =
      (s.port l).normalCount OutFrame.isAbility := by
  rw [State.event, State.sendAttempt, State.sendEvents_abilities, State.sendEvents_abilities]
  cases l <;> rfl

@[simp] theorem State.event_gensetSeq (c : EventClass) (priority object code : Nat) (value : Option Nat) :
    (s.event c priority object code value).links.gensetSeq = s.links.gensetSeq := by
  obtain ⟨x, seqs, hgrows, hevent⟩ := s.event_eq c priority object code value
  rw [hevent]
  show x.gensetSeq = _
  rw [hgrows.eq]

@[simp] theorem State.event_abilitySeq (c : EventClass) (priority object code : Nat) (value : Option Nat) :
    (s.event c priority object code value).links.abilitySeq = s.links.abilitySeq := by
  obtain ⟨x, seqs, hgrows, hevent⟩ := s.event_eq c priority object code value
  rw [hevent]
  show x.abilitySeq = _
  rw [hgrows.eq]

/-- What the frames of the unit for generator `g` read of the state stands, and the room for them. -/
structure Sending (s u : State) : Prop where
  own : u.ownAddress = s.ownAddress
  tables : u.mgmt.tables = s.mgmt.tables
  gensetSeq : u.links.gensetSeq = s.links.gensetSeq
  abilitySeq : u.links.abilitySeq = s.links.abilitySeq
  up : ∀ l, (u.port l).up = (s.port l).up
  room : ∀ l, (u.port l).normalCount OutFrame.isAbility = (s.port l).normalCount OutFrame.isAbility

namespace Sending

theorem reached (s : State) (l : Link) (c : FrameClass) (h : Header) : Sending s (s.reached l c h) := by
  cases l <;> exact ⟨rfl, rfl, rfl, rfl, fun k => by cases k <;> rfl, fun k => by cases k <;> rfl⟩

theorem same (h : Sending s u) (hl : v.links = u.links) (hm : v.mgmt.tables = u.mgmt.tables) : Sending s v where
  own := by rw [← h.own, State.ownAddress, State.ownAddress, State.station, State.station, State.fld, State.fld, hm]
  tables := hm.trans h.tables
  gensetSeq := hl ▸ h.gensetSeq
  abilitySeq := hl ▸ h.abilitySeq
  up l := by
    have hport : v.port l = u.port l := by cases l <;> simp [State.port, hl]
    rw [hport, h.up l]
  room l := by
    have hport : v.port l = u.port l := by cases l <;> simp [State.port, hl]
    rw [hport, h.room l]

theorem modGen (h : Sending s u) (f : GenRec → GenRec) : Sending s (u.modGen g f) := h.same rfl rfl

theorem event (h : Sending s u) (c : EventClass) (priority object code : Nat) (value : Option Nat) :
    Sending s (u.event c priority object code value) where
  own := by rw [← h.own, State.ownAddress, State.ownAddress, State.event_station]
  tables := by rw [State.event_mgmt]; exact h.tables
  gensetSeq := (State.event_gensetSeq ..).trans h.gensetSeq
  abilitySeq := (State.event_abilitySeq ..).trans h.abilitySeq
  up l := (State.event_up ..).trans (h.up l)
  room l := (State.event_abilities ..).trans (h.room l)

theorem genEntered {new : GenState} (h : Sending s u) : Sending s (u.genEntered g new) :=
  (h.same (v := u.noting ((u.modGen g (fun r => r.enter new)).modPar (fun p =>
    { p with waitList := p.waitList.filter (· != g), demandDue := true }))) rfl rfl).event _ _ _ _ _

theorem fld (h : Sending s u) (x : TableId) (e id : Nat) : u.fld x e id = s.fld x e id := by
  rw [State.fld, State.fld, h.tables]

/-- The page that is built next, and then the GENSET, stand in the queues. -/
theorem paged (h : Sending s u) (p : Page) : Clause.PageJoins s (u.paged g p) g p := fun l hl hroom => by
  have hsends := State.paged_sends (g := g) p ((h.up l).trans hl) ((h.room l).trans_lt hroom)
  rw [h.own, h.fld, h.abilitySeq] at hsends
  exact hsends

theorem gensetBuilt (h : Sending s u) (pg : Page) (p : Setpoint) (l : Link) (hl : (s.port l).up = true) :
    (⟨s.station 1, s.fld .generator g 2, s.links.gensetSeq, .genset g p, false, false⟩ : OutFrame) ∈
      (((u.paged g pg).gensetBuilt g p).port l).normal := by
  have hup : ((u.paged g pg).port l).up = true := by
    rw [State.paged_port]
    split
    · rw [LinkPort.admitNormal]
      split <;> exact (h.up l).trans hl
    · exact (h.up l).trans hl
  have hsends := State.gensetBuilt_sends (g := g) p hup
  have hown : (u.paged g pg).ownAddress = s.ownAddress := h.own
  have hfld : (u.paged g pg).fld .generator g 2 = s.fld .generator g 2 := h.fld _ _ _
  rw [hown, hfld, State.paged_gensetSeq, h.gensetSeq] at hsends
  exact hsends

/-- The page and the GENSET that follow a negotiation's beginning. -/
theorem negotiating (h : Sending s u) (p : Setpoint) :
    Clause.PageJoins s ((u.negotiating g).gensetBuilt g p) g
      ⟨false, false, false, .base (Abilities.ofByte (s.fld .generator g 11))⟩ ∧
    (∀ l, (s.port l).up = true →
      (⟨s.station 1, s.fld .generator g 2, s.links.gensetSeq, .genset g p, false, false⟩ : OutFrame) ∈
        (((u.negotiating g).gensetBuilt g p).port l).normal) ∧
    ((u.negotiating g).gensetBuilt g p).links.gensetSeq = step16 s.links.gensetSeq ∧
    ((u.negotiating g).gensetBuilt g p).links.abilitySeq = step16 s.links.abilitySeq := by
  have hentered : Sending s ((u.modGen g (fun r => { r with deferred := false })).genEntered g .negotiating) :=
    (h.modGen _).genEntered
  have hbegun := hentered.modGen (g := g) (fun r =>
    { r with exchange := { state := .awaitBase }, params := tableParameters u.mgmt.tables g })
  rw [State.negotiating, h.fld]
  refine ⟨fun l hl hroom => State.gensetBuilt_keeps p (hbegun.paged _ l hl hroom) rfl, hbegun.gensetBuilt _ p, ?_, ?_⟩
  · rw [State.gensetBuilt_gensetSeq, State.paged_gensetSeq, hbegun.gensetSeq]
  · rw [State.gensetBuilt_abilitySeq, State.paged_abilitySeq, hbegun.abilitySeq]

end Sending

@[simp] theorem State.modGen_newest (f : GenRec → GenRec) : (s.modGen g f).newest = s.newest := rfl

theorem State.negotiating_newest (hlen : g < s.par.gens.length) : (s.negotiating g).newest =
    some ⟨s.events.nextSeq, s.eventLabel, .generator, genPriority (s.gen g).state .negotiating, g, 1, some 1, false⟩ := by
  rw [State.negotiating, State.paged_newest, State.modGen_newest, State.genEntered_newest, State.gen_modGen_same _ _ hlen]
  rfl

/-! ### A generator's record that moves neither its state nor its setpoint -/

theorem State.modGen_state {f : GenRec → GenRec} (hf : ∀ r, (f r).state = r.state) (j : Nat) :
    ((s.modGen g f).gen j).state = (s.gen j).state :=
  apply_nth_modify f GenRec.state hf _ g j

theorem State.modGen_setpointOf {f : GenRec → GenRec} (hf : ∀ r, (f r).state = r.state)
    (hp : ∀ r, (f r).setpoint = r.setpoint) (j : Nat) : (s.modGen g f).setpointOf j = s.setpointOf j :=
  State.setpointOf_same rfl (State.modGen_state hf j) (apply_nth_modify f GenRec.setpoint hp _ g j)

theorem State.modGen_point {f : GenRec → GenRec} (hf : ∀ r, (f r).state = r.state) (n : Nat) :
    (s.modGen g f).point n = s.point n := by
  simp only [State.point, State.modGen_state hf]
  rfl

/-- The end of a command finds nothing to do. -/
theorem finish_modGen (hs : s.Quiet) (h : RequestFrame s u) {f : GenRec → GenRec} (hf : ∀ r, (f r).state = r.state)
    (hp : ∀ r, (f r).setpoint = r.setpoint) : finish s (u.modGen g f) = .next (u.modGen g f) := by
  obtain ⟨hwork, hclosing, hhushed, hrisen, hhealthy, -⟩ := hs
  have hlines : u.lines = s.lines := by rw [h.eq]
  refine finish_exact s ?_ ?_ ?_ ?_ (fun j => (State.modGen_setpointOf hf hp j).trans (h.setpointOf j))
    (fun n => (State.modGen_point hf n).trans (h.point n)) ?_
  · show u.work = []
    rw [h.eq]; exact hwork
  · show u.risen = []
    rw [h.eq]; exact hrisen
  · show u.closing = none
    rw [h.eq]; exact hclosing
  · show u.hushed = false
    rw [h.eq]; exact hhushed
  · show u.lines.healthy = u.healthyNow
    rw [hlines, h.healthyNow, hhealthy]

/-- A generator that was ABSENT begins its negotiation: the end of such a command (R149 to R151, R153). -/
theorem finish_negotiating (hs : s.Quiet) (hg : g < 8) (hu : Tends s u g) (hsending : Sending s u)
    (hconf : s.genConfigured g = true) (habsent : (s.gen g).state = .absent) (hstate : (u.gen g).state = .absent)
    (hevents : u.events = s.events) (hlabel : u.eventLabel = s.eventLabel) :
    ∃ t, finish s (u.negotiating g) = .next t ∧
      t.gen g = { u.gen g with
        state := .negotiating, deferred := false, exchange := { state := .awaitBase }
        params := tableParameters s.mgmt.tables g, refreshTimer := 0 } ∧
      t.setpointOf g = some ⟨false, false, (u.gen g).speedBias, (u.gen g).voltageBias, 0, s.fld .generator g 8⟩ ∧
      Clause.GensetJoins s t g ∧ t.links.gensetSeq = step16 s.links.gensetSeq ∧
      Clause.PageJoins s t g ⟨false, false, false, .base (Abilities.ofByte (s.fld .generator g 11))⟩ ∧
      t.links.abilitySeq = step16 s.links.abilitySeq ∧ (∀ j, j ≠ g → t.gen j = s.gen j) ∧
      Records s t .generator 6 g 1 (some 1) ∧ t.breakers = u.breakers ∧ t.seq = u.seq := by
  have hown := hu.gen_negotiating hg
  have hmoved := hu.negotiating
  have hlen : g < (u.negotiating g).par.gens.length := hmoved.count.symm ▸ hg
  have hset : (u.negotiating g).setpointOf g =
      some ⟨false, false, (u.gen g).speedBias, (u.gen g).voltageBias, 0, s.fld .generator g 8⟩ := by
    rw [State.setpointOf_present _ (by rw [hown]; exact GenState.noConfusion), hown]
    · rfl
    · rw [State.genConfigured, State.fld, hmoved.tables]
      exact hconf
  have hnewest := State.negotiating_newest (s := u) (g := g) (hu.count.symm ▸ hg)
  have hbreakers : (u.negotiating g).breakers = u.breakers := State.negotiating_breakers
  have hseq : (u.negotiating g).seq = u.seq := State.negotiating_seq
  obtain ⟨hpage, hgenset, hgensetSeq, habilitySeq⟩ := hsending.negotiating (g := g)
    ⟨false, false, (u.gen g).speedBias, (u.gen g).voltageBias, 0, s.fld .generator g 8⟩
  generalize u.negotiating g = v at *
  generalize hp : (⟨false, false, (u.gen g).speedBias, (u.gen g).voltageBias, 0, s.fld .generator g 8⟩ : Setpoint) = p at *
  have hchanged : v.setpointOf g ≠ s.setpointOf g := by
    rw [hset, State.setpointOf_absent habsent]
    exact Option.some_ne_none _
  obtain ⟨es, b, hend⟩ := hmoved.finish_sent hg hset hchanged
  have hset' : ((v.gensetBuilt g p).endedWith es b).setpointOf g = some p :=
    (State.gensetBuilt_setpointOf hlen p g).trans hset
  refine ⟨_, hend, ?_, hset', fun q hq l hl => ?_, hgensetSeq, hpage, habilitySeq, (hmoved.gensetBuilt p).others, ?_,
    hbreakers, hseq⟩
  · rw [State.endedWith_gen, State.gensetBuilt_gen_same hlen, hown]
  · obtain rfl := Option.some.inj (hset'.symm.trans hq)
    exact hgenset l hl
  · rw [Records, State.endedWith_newest, State.gensetBuilt_newest, hnewest, hstate, hevents, hlabel, hs.eventLabel]
    rfl

/-! ### GENSTATUS frames (R149) -/

theorem State.reached_matchGen (l : Link) (c : FrameClass) (h : Header) (src : Nat) :
    (s.reached l c h).matchGen src = s.matchGen src := by cases l <;> rfl

theorem State.matchGen_lt {src : Nat} (h : s.matchGen src = some g) : g < 8 :=
  List.mem_range.1 (List.mem_of_find?_eq_some h)

theorem State.matchGen_configured {src : Nat} (h : s.matchGen src = some g) : s.genConfigured g = true := by
  have hfound := List.find?_some h
  simp only [Bool.and_eq_true] at hfound
  exact hfound.1

theorem State.reached_tends (hs : s.Quiet) (l : Link) (c : FrameClass) (h : Header) (g : Nat) :
    Tends s (s.reached l c h) g := by
  cases l <;> exact ⟨hs.1, hs.2.2.1, rfl, hs.gens_length, fun _ _ => rfl⟩

/-- The state in which a GENSTATUS frame is held. -/
def State.statusHeld (s : State) (g : Nat) (f : GenStatus) : State :=
  s.modGen g (fun r => { r with absentTimer := 0, absentTaken := false, status := f })

theorem State.takeGenStatus_held {h : Header} {f : GenStatus} (hm : s.matchGen h.src = some g) (hlen : g < s.par.gens.length)
    (ha : (s.gen g).state ≠ .absent) (hst : (s.gen g).state ≠ .stopping) (hf : f.fault = false)
    (hbias : f.biasMode = true → (s.gen g).common.biasControl = true)
    (hload : f.loadMode = true → (s.gen g).common.loadControl = true) :
    State.takeGenStatus h f s = s.statusHeld g f := by
  have hgen : (s.statusHeld g f).gen g = { s.gen g with absentTimer := 0, absentTaken := false, status := f } :=
    State.gen_modGen_same _ _ hlen
  have hagrees : ((s.statusHeld g f).gen g).inConflict = false := by
    rw [hgen, GenRec.inConflict]
    dsimp only
    cases hb : f.biasMode <;> cases hl : f.loadMode <;> simp_all
  have hconflict : (s.statusHeld g f).testConflict g = s.statusHeld g f := by
    rw [State.testConflict]
    exact if_pos (by simp [hagrees])
  have hstopped : (s.statusHeld g f).testStopped g = s.statusHeld g f := by
    rw [State.testStopped]
    exact if_neg (by simp [hgen, hst])
  unfold State.takeGenStatus
  rw [hm]
  dsimp only
  rw [show s.modGen g _ = s.statusHeld g f from rfl, if_neg (by simp [hf]), if_neg (by simp [hgen, ha]), hconflict, hstopped]

theorem State.takeGenStatus_absent {h : Header} {f : GenStatus} (hm : s.matchGen h.src = some g) (hlen : g < s.par.gens.length)
    (hh : s.hushed = false) (ha : (s.gen g).state = .absent)
    (hown : ((s.statusHeld g f).negotiating g).gen g = { s.gen g with
      state := .negotiating, absentTimer := 0, absentTaken := false, status := f, deferred := false,
      exchange := { state := .awaitBase }, params := tableParameters s.mgmt.tables g }) :
    State.takeGenStatus h f s = (s.statusHeld g f).negotiating g := by
  have hgen : (s.statusHeld g f).gen g = { s.gen g with absentTimer := 0, absentTaken := false, status := f } :=
    State.gen_modGen_same _ _ hlen
  have hnegotiates : (s.statusHeld g f).renegotiate g = (s.statusHeld g f).negotiating g :=
    State.renegotiate_eq ((List.length_modify ..).symm ▸ hlen) hh (by rw [hgen]; simp [ha]) (by rw [hgen]; simp [ha])
      (by rw [hgen]; simp [ha, GenState.attempting]) (by rw [hgen]; simp [ha, GenState.loaded])
  have habsent : (if ((s.statusHeld g f).gen g).state == .absent then (s.statusHeld g f).renegotiate g
      else s.statusHeld g f) = (s.statusHeld g f).negotiating g := by
    rw [if_pos (by simp [hgen, ha]), hnegotiates]
  unfold State.takeGenStatus
  rw [hm]
  dsimp only
  rw [show s.modGen g _ = s.statusHeld g f from rfl, habsent]
  generalize (s.statusHeld g f).negotiating g = v at hown
  have hconflict : v.testConflict g = v := by
    rw [State.testConflict]
    exact if_pos (by simp [hown, GenRec.exchangeEnded])
  have hstopped : v.testStopped g = v := by
    rw [State.testStopped]
    exact if_neg (by simp [hown])
  rw [if_neg (by simp [hown]), hconflict, hstopped]

theorem Sending.statusHeld (h : Sending s u) (f : GenStatus) : Sending s (u.statusHeld g f) := h.same rfl rfl

end

/-- Settles O35. -/
theorem genStatusIsHeld : Obligations.GenStatusIsHeld := by
  intro s l h f g hs hu hv hm
  have hg := State.matchGen_lt hm
  have htends := State.reached_tends hs l .genstatus h g
  have hm' := (s.reached_matchGen l .genstatus h h.src).trans hm
  have hgen : (s.reached l .genstatus h).gen g = s.gen g := by cases l <;> rfl
  have hlen : g < (s.reached l .genstatus h).par.gens.length := htends.count.symm ▸ hg
  have hexec : exec (.genstatusFrame l h f) s = finish s (State.takeGenStatus h f (s.reached l .genstatus h)) := by
    change finish s (s.receive l .genstatus h _) = _
    rw [State.receive_taken s l _ h _ hu hv (by decide)]
  have hheld := htends.modGen (fun r => { r with absentTimer := 0, absentTaken := false, status := f })
  refine ⟨fun ha hst hf hbias hload => ?_, fun ha => ?_⟩
  · rw [State.takeGenStatus_held hm' hlen (by rw [hgen]; exact ha) (by rw [hgen]; exact hst) hf (by rw [hgen]; exact hbias)
      (by rw [hgen]; exact hload)] at hexec
    exact hexec.trans (finish_modGen hs (State.reached_frame l .genstatus h) (fun _ => rfl) (fun _ => rfl))
  · have hown := hheld.gen_negotiating hg
    have hstatus := htends.gen_same hg (fun r => { r with absentTimer := 0, absentTaken := false, status := f })
    rw [hgen] at hstatus
    rw [hstatus] at hown
    rw [State.takeGenStatus_absent hm' hlen htends.hushed (by rw [hgen]; exact ha) (by rw [htends.tables, hgen]; exact hown)] at hexec
    obtain ⟨t, hend, hnow, hset, hgenset, hgensetSeq, hpage, habilitySeq, hothers, hrecords, hbreakers, hseq⟩ :=
      finish_negotiating (u := (s.reached l .genstatus h).statusHeld g f) hs hg hheld
        ((Sending.reached s l .genstatus h).statusHeld f) (State.matchGen_configured hm) ha
        (by rw [State.statusHeld, hstatus]; exact ha) (by cases l <;> rfl) (by cases l <;> rfl)
    have hexec' := hexec.trans hend
    rw [State.statusHeld, hstatus] at hnow hset
    exact ⟨t, hexec', hnow, hset, hgenset, hgensetSeq, hpage, habilitySeq, hothers, hrecords,
      (hs.only _ hexec').of_unit (hbreakers.trans (by cases l <;> rfl)) (hseq.trans (by cases l <;> rfl))⟩


end Sys2Proof.Machine
end

section
/-! # Pages of the ability exchange (O36) -/

namespace Sys2Proof.Machine

/-! ### Pages of the ability exchange (R150, R151) -/

section
variable {s u v : State} {g : Nat} {l : Link} {h : Header} {f : Page}

theorem State.takePage_idle (hm : s.matchGen h.src = some g) (hx : (s.gen g).exchange.state ≠ .awaitBase)
    (hy : (s.gen g).exchange.state ≠ .receiving) : State.takePage h f s = s := by
  have hruns : (s.gen g).exchange.state.running = false := by
    cases hz : (s.gen g).exchange.state with
    | awaitBase => exact absurd hz hx
    | receiving => exact absurd hz hy
    | _ => rfl
  unfold State.takePage
  rw [hm]
  dsimp only
  rw [if_pos (by simp [hruns])]

/-- The state in which a page has restarted the gap timer. -/
def State.gapRestarted (s : State) (g : Nat) : State :=
  s.modGen g (fun r => { r with exchange := { r.exchange with gap := 0 } })

theorem State.takePage_base {set : Abilities} (hm : s.matchGen h.src = some g)
    (hx : (s.gen g).exchange.state = .awaitBase) (hb : f.body = .base set) (ha : f.ack = true) (hmore : f.more = true) :
    State.takePage h f s = (s.gapRestarted g).modGen g (fun r =>
      { r with exchange := { r.exchange with
          controllerSet := set, state := .receiving, expected := false, lastApplied := none } }) := by
  unfold State.takePage
  rw [hm]
  dsimp only
  rw [hx, hb, if_neg (by decide)]
  dsimp only
  rw [State.takeBase, if_neg (by simp [ha])]
  exact if_pos hmore

/-- The state in which a NEXT page is applied. -/
def State.applied (s : State) (g : Nat) (f : Page) (c : AbilityCode) (v : Nat) : State :=
  s.modGen g (fun r => { r with
    params := r.params.apply (tableParameters s.mgmt.tables g) c v
    exchange := { r.exchange with gap := 0, expected := !r.exchange.expected, lastApplied := some f.toggle } })

theorem State.modGen_modGen (f k : GenRec → GenRec) : (s.modGen g f).modGen g k = s.modGen g (fun r => k (f r)) := by
  simp only [State.modGen, State.modPar, List.modify_modify_eq]
  rfl

theorem State.takePage_next {c : AbilityCode} {v : Nat} (hm : s.matchGen h.src = some g) (hlen : g < s.par.gens.length)
    (hx : (s.gen g).exchange.state = .receiving) (hb : f.body = .next c v) (ht : f.toggle = (s.gen g).exchange.expected)
    (hmore : f.more = true) : State.takePage h f s = (s.applied g f c v).sendAck g f.toggle c v := by
  have hgen : (s.gapRestarted g).gen g = { s.gen g with exchange := { (s.gen g).exchange with gap := 0 } } :=
    State.gen_modGen_same _ _ hlen
  have happlied : (s.gapRestarted g).modGen g (fun r =>
      { r with
        params := r.params.apply (tableParameters (s.gapRestarted g).mgmt.tables g) c v
        exchange := { r.exchange with expected := !r.exchange.expected, lastApplied := some f.toggle } }) = s.applied g f c v :=
    State.modGen_modGen _ _
  unfold State.takePage
  rw [hm]
  dsimp only
  rw [hx, hb, if_neg (by decide)]
  dsimp only
  rw [show s.modGen g _ = s.gapRestarted g from rfl, State.takeNext]
  dsimp only
  rw [if_pos (by simp [hgen, ht]), happlied]
  exact if_pos hmore

/-- A command of the unit that leaves the breakers, the sequencer and the event queue alone. -/
theorem Only.of_pages {t : State} (ho : Only [.links, .events, .breakers, .seq, .par, .free] s t)
    (he : t.events = s.events) (hb : t.breakers = s.breakers) (hq : t.seq = s.seq) : Only [.links, .par, .free] s t := by
  refine ho.narrow _ fun p hp hno => ?_
  cases p
  case events => exact he
  case breakers => exact hb
  case seq => exact hq
  all_goals simp at hp hno

@[simp] theorem State.paged_events (p : Page) : (s.paged g p).events = s.events := rfl
@[simp] theorem State.paged_free (p : Page) : (s.paged g p).free = s.free := rfl
@[simp] theorem State.endedWith_free (es : List Nat) (b : Bool) : (s.endedWith es b).free = s.free := rfl
@[simp] theorem State.endedWith_breakers' (es : List Nat) (b : Bool) : (s.endedWith es b).breakers = s.breakers := rfl
@[simp] theorem State.gensetBuilt_free (p : Setpoint) : (s.gensetBuilt g p).free = s.free := rfl

/-- The end of a command that sends a page for a generator whose record it moves, and its GENSET where that changes. -/
theorem finish_paged (hg : g < 8) (hu : Tends s u g) (hsending : Sending s u) (p : Page) :
    ∃ t, finish s (u.paged g p) = .next t ∧ (∃ n, t.gen g = { u.gen g with refreshTimer := n }) ∧
      (∀ j, j ≠ g → t.gen j = s.gen j) ∧ Clause.PageJoins s t g p ∧ t.links.abilitySeq = step16 s.links.abilitySeq ∧
      ((u.gen g).params.ramp ≠ (s.gen g).params.ramp → Clause.GensetJoins s t g) ∧
      t.free = u.free ∧ t.events = u.events ∧ t.breakers = u.breakers ∧ t.seq = u.seq := by
  have hpaged := hu.paged p
  have hpage := hsending.paged (g := g) p
  have hability : (u.paged g p).links.abilitySeq = step16 s.links.abilitySeq := by
    rw [State.paged_abilitySeq, hsending.abilitySeq]
  have hlen : g < (u.paged g p).par.gens.length := hpaged.count.symm ▸ hg
  have hgensets := hsending.gensetBuilt (g := g) p
  have hgen : (u.paged g p).gen g = u.gen g := rfl
  obtain ⟨hfree, hevents, hbreakers, hseq⟩ : (u.paged g p).free = u.free ∧ (u.paged g p).events = u.events ∧
    (u.paged g p).breakers = u.breakers ∧ (u.paged g p).seq = u.seq := ⟨rfl, rfl, rfl, rfl⟩
  generalize u.paged g p = v at *
  by_cases hset : v.setpointOf g = s.setpointOf g ∨ v.setpointOf g = none
  · obtain ⟨es, b, hend⟩ := hpaged.finish_still hset
    refine ⟨_, hend, ⟨_, hgen⟩, hpaged.others, hpage, hability, fun hramp q hq => ?_, hfree, hevents, hbreakers, hseq⟩
    have hq' : v.setpointOf g = some q := hq
    have hsame : s.setpointOf g = some q := by
      obtain h | h := hset
      · exact h ▸ hq'
      · exact absurd (h.symm.trans hq') (Option.some_ne_none q).symm
    have hramps : ∀ w : State, w.setpointOf g = some q → q.ramp = (w.gen g).params.ramp := fun w hw => by
      rw [State.setpointOf_eq] at hw
      split at hw
      · cases hw
      · obtain rfl := Option.some.inj hw
        rfl
    exact absurd ((congrArg (·.params.ramp) hgen).symm.trans ((hramps v hq').symm.trans (hramps s hsame))) hramp
  · obtain ⟨hchanged, hsome⟩ := not_or.1 hset
    obtain ⟨q, hq⟩ := Option.ne_none_iff_exists'.1 hsome
    obtain ⟨es, b, hend⟩ := hpaged.finish_sent hg hq hchanged
    have hset' : ((v.gensetBuilt g q).endedWith es b).setpointOf g = some q :=
      (State.gensetBuilt_setpointOf hlen q g).trans hq
    refine ⟨_, hend, ⟨0, ?_⟩, (hpaged.gensetBuilt q).others, fun l hl hroom => State.gensetBuilt_keeps q (hpage l hl hroom) rfl,
      hability, fun _ r hr l hl => ?_, hfree, hevents, hbreakers, hseq⟩
    · rw [State.endedWith_gen, State.gensetBuilt_gen_same hlen, hgen]
    · obtain rfl := Option.some.inj (hset'.symm.trans hr)
      exact hgensets q l hl

theorem Tends.draw (h : Tends s u g) : Tends s u.draw g := h.still rfl rfl rfl rfl
theorem Sending.draw (h : Sending s u) : Sending s u.draw := h.same rfl rfl
theorem Tends.applied (h : Tends s u g) (f : Page) (c : AbilityCode) (v : Nat) : Tends s (u.applied g f c v) g := h.modGen _
theorem Sending.applied (h : Sending s u) (f : Page) (c : AbilityCode) (v : Nat) : Sending s (u.applied g f c v) := h.modGen _
theorem State.sendAck_eq (hh : s.hushed = false) (toggle : Bool) (c : AbilityCode) (v : Nat) : s.sendAck g toggle c v =
    s.draw.paged g ⟨toggle, bitOf s.drawn 0, bitOf s.drawn 1, .ack c v⟩ := by
  rw [State.sendAck, State.sendPage_paged (by exact hh)]

theorem State.applied_gen (hlen : g < s.par.gens.length) (f : Page) (c : AbilityCode) (v : Nat) :
    (s.applied g f c v).draw.gen g = { s.gen g with
      params := (s.gen g).params.apply (tableParameters s.mgmt.tables g) c v
      exchange := { (s.gen g).exchange with
        gap := 0, expected := !(s.gen g).exchange.expected, lastApplied := some f.toggle } } :=
  State.gen_modGen_same _ _ hlen

end

/-- Settles O36. -/
theorem abilityPagesAreTaken : Obligations.AbilityPagesAreTaken := by
  intro s l h f g hs hu hv hm x
  have hg := State.matchGen_lt hm
  have htends := State.reached_tends hs l .ability h g
  have hm' := (s.reached_matchGen l .ability h h.src).trans hm
  have hgen : (s.reached l .ability h).gen g = s.gen g := by cases l <;> rfl
  have hlen : g < (s.reached l .ability h).par.gens.length := htends.count.symm ▸ hg
  have hexec : exec (.abilityFrame l h f) s = finish s (State.takePage h f (s.reached l .ability h)) := by
    change finish s (s.receive l .ability h _) = _
    rw [State.receive_taken s l _ h _ hu hv (by decide)]
  refine ⟨fun hx hy => ?_, fun set hx hb ha hmore => ?_, fun v hx hb ht hmore => ?_⟩
  · rw [State.takePage_idle hm' (by rw [hgen]; exact hx) (by rw [hgen]; exact hy)] at hexec
    exact hexec.trans ((State.reached_frame l .ability h).finish hs)
  · rw [State.takePage_base hm' (by rw [hgen]; exact hx) hb ha hmore, State.gapRestarted, State.modGen_modGen] at hexec
    exact hexec.trans (finish_modGen hs (State.reached_frame l .ability h) (fun _ => rfl) (fun _ => rfl))
  · rw [State.takePage_next hm' hlen (by rw [hgen]; exact hx) hb (by rw [hgen]; exact ht) hmore,
      State.sendAck_eq (htends.applied ..).hushed] at hexec
    have hsending := ((Sending.reached s l .ability h).applied (g := g) f .rampRate v).draw
    obtain ⟨t, hend, ⟨n, hnow⟩, hothers, hpage, hability, hgenset, hfree, hevents, hbreakers, hseq⟩ :=
      finish_paged hg (htends.applied f .rampRate v).draw hsending
        ⟨f.toggle, bitOf ((s.reached l .ability h).applied g f .rampRate v).drawn 0,
          bitOf ((s.reached l .ability h).applied g f .rampRate v).drawn 1, .ack .rampRate v⟩
    have hexec' := hexec.trans hend
    have hown : ((s.reached l .ability h).applied g f .rampRate v).draw.gen g = { s.gen g with
        params := (s.gen g).params.apply (tableParameters s.mgmt.tables g) .rampRate v
        exchange := { x with gap := 0, expected := !x.expected, lastApplied := some f.toggle } } := by
      rw [State.applied_gen hlen, htends.tables, hgen]
    rw [hown] at hnow hgenset
    refine ⟨t, hexec', ?_, ?_, ⟨_, _, hpage⟩, hability, fun hramp => hgenset ?_, hothers, ?_, ?_⟩
    · rw [hnow]; rfl
    · rw [hnow]
      show ({ x with gap := 0, expected := !x.expected, lastApplied := some f.toggle } : Exchange) = _
      rw [show x.state = .receiving from hx]
    · rw [hnow] at hramp
      exact hramp
    · rw [hfree]
      cases l <;> rfl
    · exact (hs.only _ hexec').of_pages (hevents.trans (by cases l <;> rfl)) (hbreakers.trans (by cases l <;> rfl))
        (hseq.trans (by cases l <;> rfl))


end Sys2Proof.Machine
end

section
/-! # Breaker failure escalates (O26) -/

namespace Sys2Proof.Machine

section
variable {s u : State} {b : Nat} {c : Command}

/-! ### A command that moves breakers, links and the event queue alone -/

/-- The end of such a command. -/
theorem finish_breakers (hs : s.Quiet) (ht : Touches [.links, .events, .breakers] s u) (hw : u.work = []) :
    ∃ t, finish s u = .next t ∧ t.breakers = u.breakers ∧ (∀ a, t.brk a = u.brk a) ∧ t.newest = u.newest ∧
      Only [.links, .events, .breakers] s t := by
  have hpar : u.par = s.par := ht.stands .par (by decide)
  have hmgmt : u.mgmt = s.mgmt := ht.stands .mgmt (by decide)
  have hset : ∀ g, u.setpointOf g = s.setpointOf g :=
    State.setpointOf_congr (congrArg Paralleling.gens hpar) (congrArg Management.tables hmgmt)
  obtain ⟨es, hend, honly⟩ := finish_settled hs ht hw hset
  exact ⟨_, hend, rfl, fun _ => rfl, rfl, honly⟩

/-! ### Breaker failure (R113, R114) -/

theorem State.Quiet.lt_recs (hs : s.Quiet) (hb : b < 24) : b < s.breakers.recs.length := hs.recs_length.symm ▸ hb

theorem State.issueCommand_trip (hc : (s.brk b).slot = some c) (hi : s.isolated b = false) (ht : c.tripOpen = true) :
    s.issueCommand b = (s.commandIssued b c).event .breaker 13 b 4 (some c.origins.byte) := by
  unfold State.issueCommand
  rw [hc]
  dsimp only
  rw [if_neg (by simp [hi]), State.tripIssued, if_pos ht]
  rfl

/-- The state in which a retrip is recorded. -/
def State.retripped (s : State) (b : Nat) : State :=
  (s.modBrk b (fun r => { r with bf := .retripped })).event .breaker 13 b 7 none

theorem State.isolated_eq_false (h : s.fld .breaker b 21 ≠ 1) : s.isolated b = false := by simpa [State.isolated] using h

/-- Settles the first part of O26. -/
theorem retripIssuesAgain : Clause.RetripIssuesAgain := by
  intro s b c hs hb hbf hslot haction htrip hiso
  have hlen := hs.lt_recs hb
  refine ⟨fun ht => ?_, fun ht => ?_⟩
  · have hidle : s.retrip b = s := by
      rw [State.retrip]
      exact if_neg (by simp [ht])
    exact (congrArg (finish s) hidle).trans (finish_idle hs)
  · have hown : (s.retripped b).brk b = { s.brk b with bf := .retripped } := by
      rw [State.retripped, State.event_brk, State.brk_modBrk_same _ _ hlen]
    have hslot' : ((s.retripped b).brk b).slot = some c := by rw [hown]; exact hslot
    have hiso' : (s.retripped b).isolated b = false := by
      simpa [State.retripped, State.isolated, State.fld] using hiso
    have hlen' : b < (s.retripped b).breakers.recs.length := by
      simpa [State.retripped, State.modBrk] using hlen
    have hopens : c.tripOpen = true := by simp [Command.tripOpen, haction, htrip]
    have hexpires : s.retrip b =
        ((s.retripped b).commandIssued b c).event .breaker 13 b 4 (some c.origins.byte) := by
      rw [State.retrip]
      refine (if_pos (by simp [hbf, ht])).trans ?_
      show (s.retripped b).retripOpen b = _
      rw [State.retripOpen, hslot']
      dsimp only
      rw [if_neg (by simp [hiso']), if_pos hopens, State.issueCommand_trip hslot' hiso' hopens]
    have htouch : Touches [.links, .events, .breakers] s (s.retripped b) :=
      ((Touches.refl _ s).modBrk b _).event _ _ _ _ _
    obtain ⟨t, hend, -, hbrk, -, honly⟩ := finish_breakers hs ((htouch.commandIssued b c).event .breaker 13 b 4 _)
      (by simp [State.retripped, hs.1])
    refine ⟨t, (congrArg (finish s) hexpires).trans hend, ?_, fun a ha => ?_, honly⟩
    · rw [hbrk, State.event_brk, State.commandIssued_brk_same hlen' hslot', hown]
      rfl
    · rw [hbrk, State.event_brk, State.commandIssued_brk_other ha, State.retripped, State.event_brk,
        State.brk_modBrk_other _ _ ha.symm]

/-- A run of requests to add a member joins the list. -/
theorem State.forEach_askAdd (m : Member) (bs : List Nat) : ∀ s : State, s.forEach bs (fun b u => u.askAdd b m) =
    { s with breakers := { s.breakers with requests := s.breakers.requests ++ bs.map (fun b => ⟨true, b, m⟩) } } := by
  induction bs with
  | nil => exact fun s => by simp [State.forEach]
  | cons b bs ih =>
    intro s
    refine (ih (s.askAdd b m)).trans ?_
    simp [State.askAdd]

/-- The state in which the requests of a backup wait. -/
def State.asked (s : State) (m : Member) (bs : List Nat) : State :=
  { s with breakers := { s.breakers with requests := s.breakers.requests ++ bs.map (fun b => ⟨true, b, m⟩) } }

/-- The state in which a backup waits for its record. -/
def State.backedUp (s : State) (b : Nat) : State :=
  (s.modBrk b (fun r => { r with bf := .backupIssued, bfOccurred := true })).asked (.backup b) (s.backupSet b)

theorem State.issueBackup_eq : s.issueBackup b =
    (s.backedUp b).event .breaker 14 b 8 (some ((s.backupSet b).map (fun a => 2 ^ a)).sum) := by
  rw [State.issueBackup, State.forEach_askAdd]
  rfl

@[simp] theorem State.backedUp_work : (s.backedUp b).work = s.work := rfl
@[simp] theorem State.backedUp_events : (s.backedUp b).events = s.events := rfl
@[simp] theorem State.backedUp_eventLabel : (s.backedUp b).eventLabel = s.eventLabel := rfl
@[simp] theorem State.backedUp_requests : (s.backedUp b).breakers.requests =
    s.breakers.requests ++ (s.backupSet b).map (fun a => ⟨true, a, .backup b⟩) := rfl
theorem State.backedUp_brk_same (hb : b < s.breakers.recs.length) :
    (s.backedUp b).brk b = { s.brk b with bf := .backupIssued, bfOccurred := true } := State.brk_modBrk_same _ _ hb
theorem State.backedUp_brk_other {a : Nat} (h : a ≠ b) : (s.backedUp b).brk a = s.brk a := State.brk_modBrk_other _ _ h.symm

theorem Touches.asked {ps : List StatePart} (h : Touches ps s u) (m : Member) (bs : List Nat) (hb : .breakers ∈ ps := by decide) :
    Touches ps s (u.asked m bs) :=
  h.trans ⟨rfl, id, fun _ => ⟨rfl, rfl, rfl⟩, fun p hp => by cases p <;> first | exact absurd hb hp | rfl⟩

theorem Touches.backedUp {ps : List StatePart} (h : Touches ps s u) (b : Nat) (hb : .breakers ∈ ps := by decide) :
    Touches ps s (u.backedUp b) := (h.modBrk b _ hb).asked _ _ hb

/-- The adjacent breakers that backup trips, as R114 names them. -/
theorem State.backupSet_eq : s.backupSet b = [17, 18, 19, 20].filterMap (fun id =>
    if s.fld .breaker b id ≠ 0xFFFF ∧ s.fld .breaker (s.fld .breaker b id) 1 = 1 then some (s.fld .breaker b id) else none) := by
  have hrun : idRun 17 4 = [17, 18, 19, 20] := rfl
  rw [State.backupSet, State.adjacent, hrun, List.filter_filter, List.filter_map, ← List.filterMap_eq_map, ← List.filterMap_eq_filter,
    List.filterMap_filterMap]
  refine List.filterMap_congr fun id _ => ?_
  by_cases h : s.fld .breaker b id ≠ 0xFFFF ∧ s.fld .breaker (s.fld .breaker b id) 1 = 1
  · rw [if_pos h]
    simp [Option.guard, Config.noneField, State.brkConfigured, h]
  · rw [if_neg h]
    simpa [Option.guard, Config.noneField, State.brkConfigured, and_comm] using h

/-- Settles the second part of O26. -/
theorem backupAsksTheAdjacent : Clause.BackupAsksTheAdjacent := by
  intro s b hs hb hbf
  have hlen := hs.lt_recs hb
  refine ⟨fun ht => ?_, ?_⟩
  · have hidle : s.backup b = s := by
      rw [State.backup]
      exact if_neg (by simp [ht])
    exact (congrArg (finish s) hidle).trans (finish_idle hs)
  · intro ht hbeyond adjacent
    have hexpires : s.backup b = s.issueBackup b := by
      rw [State.backup]
      exact if_pos (by simp [hbf, ht, hbeyond])
    rw [State.issueBackup_eq] at hexpires
    obtain ⟨t, hend, hbreakers, hbrk, hnewest, honly⟩ := finish_breakers hs
      (((Touches.refl _ s).backedUp b).event .breaker 14 b 8 (some ((s.backupSet b).map (fun a => 2 ^ a)).sum))
      (by rw [State.event_work, State.backedUp_work, hs.1])
    have hset : s.backupSet b = adjacent := State.backupSet_eq
    refine ⟨t, (congrArg (finish s) hexpires).trans hend, ?_, fun a ha => ?_, ?_, ?_, honly⟩
    · rw [hbrk, State.event_brk, State.backedUp_brk_same hlen]
    · rw [hbrk, State.event_brk, State.backedUp_brk_other ha]
    · rw [hbreakers, State.event_breakers, State.backedUp_requests, hset]
    · rw [Records, hnewest, State.event_newest, State.backedUp_events, State.backedUp_eventLabel, hs.eventLabel, hset]

/-- Settles O26. -/
theorem breakerFailureEscalates : Obligations.BreakerFailureEscalates := ⟨retripIssuesAgain, backupAsksTheAdjacent⟩

end

end Sys2Proof.Machine
end

section
/-! # Commands end by their timers (O25) -/

namespace Sys2Proof.Machine

section
variable {s u : State} {b : Nat} {c : Command} {o : Outcome}

/-! ### The end of a command that no other block waits for (R109) -/

/-- The state in which such a command has ended. -/
def State.commandEnded (s : State) (b : Nat) (c : Command) (o : Outcome) : State :=
  ((s.withoutFrames b c).modBrk b (·.ended o)).event .breaker (o.priority c.tripOpen) b 6 (some o.value)

theorem State.endCommand_ended (h : (s.brk b).slot = some c) (hc : c.origins.changeover = false)
    (hp : c.origins.paralleling = false) (hr : c.action = .opening ∨ c.requester = .operator) :
    s.endCommand b o = s.commandEnded b c o := by
  rw [State.endCommand_eq h, State.returnOutcome, hc, hp, State.concludeClose]
  obtain h | h := hr <;> rw [h]
  · rfl
  · cases c.action <;> rfl

@[simp] theorem State.commandEnded_work : (s.commandEnded b c o).work = s.work := by simp [State.commandEnded]
@[simp] theorem State.commandEnded_mgmt : (s.commandEnded b c o).mgmt = s.mgmt := by
  simp only [State.commandEnded, State.event_mgmt, State.modBrk_mgmt]
  unfold State.withoutFrames
  split <;> rfl
theorem State.commandEnded_newest : (s.commandEnded b c o).newest = some ⟨s.events.nextSeq, s.eventLabel, .breaker,
    o.priority c.tripOpen, b, 6, some o.value, false⟩ := by
  have hlabel : ((s.withoutFrames b c).modBrk b (·.ended o)).eventLabel = s.eventLabel :=
    s.withoutFrames_eventLabel b c
  rw [State.commandEnded, State.event_newest, hlabel, State.modBrk_events, State.withoutFrames_events]
theorem State.commandEnded_brk_same (hb : b < s.breakers.recs.length) :
    (s.commandEnded b c o).brk b = (s.brk b).ended o := by
  rw [State.commandEnded, State.event_brk, State.brk_modBrk_same _ _ (by simpa using hb), State.withoutFrames_brk]
theorem State.commandEnded_brk_other {a : Nat} (h : a ≠ b) : (s.commandEnded b c o).brk a = s.brk a := by
  rw [State.commandEnded, State.event_brk, State.brk_modBrk_other _ _ h.symm, State.withoutFrames_brk]
@[simp] theorem State.commandEnded_seq : (s.commandEnded b c o).seq = s.seq := by
  simp only [State.commandEnded, State.event_seq, State.modBrk_seq]
  unfold State.withoutFrames
  split <;> rfl
@[simp] theorem State.commandEnded_run : (s.commandEnded b c o).run? = s.run? := by
  rw [State.run?, State.commandEnded_seq, State.run?]
theorem State.commandEnded_length : (s.commandEnded b c o).breakers.recs.length = s.breakers.recs.length := by
  rw [State.commandEnded, State.event_breakers]
  exact (List.length_modify ..).trans (by rw [State.withoutFrames_breakers])
@[simp] theorem State.commandEnded_requests : (s.commandEnded b c o).breakers.requests = s.breakers.requests := by
  rw [State.commandEnded, State.event_breakers]
  show (s.withoutFrames b c).breakers.requests = _
  rw [State.withoutFrames_breakers]
@[simp] theorem State.commandEnded_fld (x : TableId) (e id : Nat) : (s.commandEnded b c o).fld x e id = s.fld x e id := by
  rw [State.fld, State.commandEnded_mgmt, State.fld]

theorem Touches.commandEnded {ps : List StatePart} (h : Touches ps s u) (b : Nat) (c : Command) (o : Outcome)
    (hl : .links ∈ ps := by decide) (he : .events ∈ ps := by decide) (hb : .breakers ∈ ps := by decide) :
    Touches ps s (u.commandEnded b c o) :=
  ((h.withoutFrames b c hl).modBrk _ _ hb).event _ _ _ _ _ hl he

/-- The end of a command at which an operator's command has ended. -/
theorem finish_ended (hs : s.Quiet) (hb : b < 24) : ∃ t, finish s (s.commandEnded b c o) = .next t ∧
    t.brk b = (s.brk b).ended o ∧ (∀ a, a ≠ b → t.brk a = s.brk a) ∧
    Records s t .breaker (o.priority c.tripOpen) b 6 (some o.value) ∧ Only [.links, .events, .breakers] s t := by
  obtain ⟨t, hend, -, hbrk, hnewest, honly⟩ := finish_breakers hs ((Touches.refl _ s).commandEnded b c o)
    (by rw [State.commandEnded_work, hs.1])
  refine ⟨t, hend, ?_, fun a ha => ?_, ?_, honly⟩
  · rw [hbrk, State.commandEnded_brk_same (hs.lt_recs hb)]
  · rw [hbrk, State.commandEnded_brk_other ha]
  · rw [Records, hnewest, State.commandEnded_newest, hs.eventLabel]

/-- Settles the second part of O25. -/
theorem limitEndsTheCommand : Clause.LimitEndsTheCommand := by
  intro s b c hs hb hslot hphase hiso horigins hrequester limit
  have hlimit : s.commandLimit b c.action = limit := by
    show _ = if c.action = .opening then s.fld .breaker b 10 else s.fld .breaker b 11
    cases c.action <;> rfl
  refine ⟨fun ht => ?_, fun ht => ?_⟩
  · have hidle : s.limitExpiry b = s := by
      rw [State.limitExpiry, hslot]
      exact if_pos (by simp [hlimit, ht])
    exact (congrArg (finish s) hidle).trans (finish_idle hs)
  · have hexpires : s.limitExpiry b = s.commandEnded b c .failed := by
      rw [State.limitExpiry, hslot]
      dsimp only
      rw [if_neg (by simp [State.isolated_eq_false hiso, hphase, hlimit, ht]),
        State.endCommand_ended hslot (by rw [horigins]) (by rw [horigins]) (.inr hrequester)]
    obtain ⟨t, hend, hown, hothers, hrecords, honly⟩ := finish_ended (c := c) (o := .failed) hs hb
    have hplain : c.tripOpen = false := by simp [Command.tripOpen, horigins, Origins.trip]
    rw [hplain] at hrecords
    exact ⟨t, (congrArg (finish s) hexpires).trans hend, hown, hothers, hrecords, honly⟩

/-! ### Missing responses (R107) -/

/-- The state in which a command is to be sent again. -/
def State.resending (s : State) (b : Nat) (c : Command) : State := s.slotted b { c with resendDone := true }

/-- The state in which a trip-class OPEN has ended without a response. -/
def State.unanswered (s : State) (b : Nat) (c : Command) : State :=
  ((s.commandEnded b c .noResponse).modBrk b (fun r => { r with unresponsive := true })).event .breaker 13 b 5 none

theorem State.unanswered_brk_same (hb : b < s.breakers.recs.length) :
    (s.unanswered b c).brk b = { (s.brk b).ended .noResponse with unresponsive := true } := by
  rw [State.unanswered, State.event_brk, State.brk_modBrk_same _ _ (State.commandEnded_length.symm ▸ hb),
    State.commandEnded_brk_same hb]
theorem State.unanswered_brk_other {a : Nat} (h : a ≠ b) : (s.unanswered b c).brk a = s.brk a := by
  rw [State.unanswered, State.event_brk, State.brk_modBrk_other _ _ h.symm, State.commandEnded_brk_other h]
theorem State.unanswered_length : (s.unanswered b c).breakers.recs.length = s.breakers.recs.length := by
  rw [State.unanswered, State.event_breakers]
  exact (List.length_modify ..).trans (State.commandEnded_length (s := s) (b := b) (c := c))
@[simp] theorem State.unanswered_requests : (s.unanswered b c).breakers.requests = s.breakers.requests := by
  rw [State.unanswered, State.event_breakers]
  show (s.commandEnded b c .noResponse).breakers.requests = _
  rw [State.commandEnded_requests]
@[simp] theorem State.unanswered_work : (s.unanswered b c).work = s.work := by
  rw [State.unanswered, State.event_work, State.modBrk_work, State.commandEnded_work]
@[simp] theorem State.unanswered_mgmt : (s.unanswered b c).mgmt = s.mgmt := by
  rw [State.unanswered, State.event_mgmt, State.modBrk_mgmt, State.commandEnded_mgmt]

theorem Touches.unanswered {ps : List StatePart} (h : Touches ps s u) (b : Nat) (c : Command)
    (hl : .links ∈ ps := by decide) (he : .events ∈ ps := by decide) (hb : .breakers ∈ ps := by decide) :
    Touches ps s (u.unanswered b c) :=
  ((h.commandEnded b c _ hl he hb).modBrk _ _ hb).event _ _ _ _ _ hl he

theorem State.modBrk_stands {f : BreakerRec → BreakerRec} (h : f (s.brk b) = s.brk b) (hb : b < s.breakers.recs.length) :
    s.modBrk b f = s := by
  have hrecs : s.breakers.recs.modify b f = s.breakers.recs := by
    refine List.ext_getElem (List.length_modify ..) fun i hi hi' => ?_
    rw [List.getElem_modify]
    split
    · next hib =>
      subst hib
      have hnth : s.brk b = s.breakers.recs[b] := by simp [State.brk, nth, hb]
      rw [hnth] at h
      exact h
    · rfl
  rw [State.modBrk, hrecs]

/-- BF that runs for an origin beyond BACKUP goes to backup. -/
theorem State.escalateBf_running {o : Origins} (hbf : (s.brk b).bf = .timing) (hbeyond : (s.brk b).bfOrigins.beyondBackup = true)
    (hb : b < s.breakers.recs.length) : s.escalateBf b o = s.issueBackup b := by
  have hstands : s.modBrk b (fun r => { r with
      bfTimer := if r.bf == .idle then 0 else r.bfTimer, bfOrigins := (s.brk b).bfOrigins }) = s :=
    State.modBrk_stands (by rw [if_neg (by simp [hbf])]) hb
  rw [State.escalateBf]
  rw [if_neg (by simp [hbf] : ¬ ((s.brk b).bf == .idle) = true), if_neg (by simp [hbf, hbeyond]), hstands]

theorem State.backupSet_congr (hm : u.mgmt.tables = s.mgmt.tables) : u.backupSet b = s.backupSet b := by
  have hfld : ∀ x e id, u.fld x e id = s.fld x e id := fun x e id => by rw [State.fld, State.fld, hm]
  rw [State.backupSet_eq, State.backupSet_eq]
  simp only [hfld]

/-- Settles the first part of O25. -/
theorem missingResponse : Clause.MissingResponse := by
  intro s b c hs hb hslot hphase ht hiso
  have hlen := hs.lt_recs hb
  have hdue : (c.phase != .sent || decide (c.timer < s.fld .breaker b 9)) = false := by
    simp [hphase, ht]
  refine ⟨fun haction htrip hfirst => ?_, fun haction horigins hsecond hbf hbforigins => ?_,
    fun haction horigins hrequester => ?_⟩
  · have hopens : c.tripOpen = true := by simp [Command.tripOpen, haction, htrip]
    have hlen' : b < (s.resending b c).breakers.recs.length := by
      rw [State.resending, State.slotted_recs_length]
      exact hlen
    have hslot' : ((s.resending b c).brk b).slot = some { c with resendDone := true } := by
      rw [State.resending, State.slotted_brk_same hlen]
    have hexpires : s.responseExpiry b = ((s.resending b c).commandIssued b { c with resendDone := true }).event
        .breaker 13 b 4 (some c.origins.byte) := by
      rw [State.responseExpiry, hslot]
      dsimp only
      rw [if_neg (by simp [hdue]), if_pos (by simp [hopens, hfirst])]
      exact State.issueCommand_trip hslot' (State.isolated_eq_false hiso) hopens
    obtain ⟨t, hend, -, hbrk, hnewest, honly⟩ := finish_breakers hs
      ((((Touches.refl _ s).modBrk b _).commandIssued b { c with resendDone := true }).event .breaker 13 b 4
        (some c.origins.byte)) (u := ((s.resending b c).commandIssued b { c with resendDone := true }).event
        .breaker 13 b 4 (some c.origins.byte)) (by rw [State.event_work, State.commandIssued_work]; exact hs.1)
    refine ⟨t, (congrArg (finish s) hexpires).trans hend, ?_, fun a ha => ?_, ?_, honly⟩
    · rw [hbrk, State.event_brk, State.commandIssued_brk_same hlen' hslot', State.resending, State.slotted_brk_same hlen]
      simp only [BreakerRec.issuing, hphase]
    · rw [hbrk, State.event_brk, State.commandIssued_brk_other ha, State.resending, State.slotted_brk_other ha]
    · rw [Records, hnewest, State.event_newest, ← hs.eventLabel]
      rfl
  · have hopens : c.tripOpen = true := by simp [Command.tripOpen, haction, horigins, Origins.trip]
    have hown := State.unanswered_brk_same (c := c) hlen
    have hlen' : b < (s.unanswered b c).breakers.recs.length := State.unanswered_length.symm ▸ hlen
    have hexpires : s.responseExpiry b = ((s.unanswered b c).backedUp b).event .breaker 14 b 8
        (some (((s.unanswered b c).backupSet b).map (fun a => 2 ^ a)).sum) := by
      rw [State.responseExpiry, hslot]
      dsimp only
      rw [if_neg (by simp [hdue]), if_neg (by simp [hsecond]), if_pos hopens,
        State.endCommand_ended hslot (by rw [horigins]) (by rw [horigins]) (.inl haction)]
      show (s.unanswered b c).escalateBf b c.origins = _
      rw [State.escalateBf_running (by rw [hown]; exact hbf) (by
        rw [hown]
        show (s.brk b).bfOrigins.beyondBackup = true
        rw [hbforigins]
        rfl) hlen', State.issueBackup_eq]
    have hset : (s.unanswered b c).backupSet b = s.backupSet b :=
      State.backupSet_congr (congrArg Management.tables State.unanswered_mgmt)
    obtain ⟨t, hend, hbreakers, hbrk, -, honly⟩ := finish_breakers hs
      ((((Touches.refl _ s).unanswered b c).backedUp b).event .breaker 14 b 8
        (some (((s.unanswered b c).backupSet b).map (fun a => 2 ^ a)).sum))
      (by rw [State.event_work, State.backedUp_work, State.unanswered_work, hs.1])
    refine ⟨t, (congrArg (finish s) hexpires).trans hend, ?_, fun a ha => ?_, ?_, honly⟩
    · rw [hbrk, State.event_brk, State.backedUp_brk_same hlen', hown]
      rfl
    · rw [hbrk, State.event_brk, State.backedUp_brk_other ha, State.unanswered_brk_other ha]
    · rw [hbreakers, State.event_breakers, State.backedUp_requests, State.unanswered_requests, hset]
  · have hplain : c.tripOpen = false := by simp [Command.tripOpen, haction]
    have hexpires : s.responseExpiry b = s.commandEnded b c .noResponse := by
      rw [State.responseExpiry, hslot]
      dsimp only
      rw [if_neg (by simp [hdue]), if_neg (by simp [hplain]), if_neg (by simp [hplain]),
        State.endCommand_ended hslot (by rw [horigins]) (by rw [horigins]) (.inr hrequester)]
    obtain ⟨t, hend, hown, hothers, hrecords, honly⟩ := finish_ended (c := c) (o := .noResponse) hs hb
    rw [hplain] at hrecords
    exact ⟨t, (congrArg (finish s) hexpires).trans hend, hown, hothers, hrecords, honly⟩

/-! ### Positions change (R98, R108) -/

/-- The state in which a breaker's new position is recorded. -/
def State.positioned (s : State) (b : Nat) (new : Position) : State :=
  (s.modBrk b (fun r => { r with
    position := new
    trips := if new == .opened then r.trips.filter (· != .parallelLimit) else r.trips })).event .breaker 9 b 1 (some new.code)

/-- The state in which the line-up is due where the breaker is watched (R124). -/
def State.lineupMarked (s : State) (b : Nat) : State :=
  if (watchedBreakers s.mgmt.tables).contains b then s.modSeq (fun q => { q with lineupDue := true }) else s

@[simp] theorem State.post_brk (w : Work) (a : Nat) : (s.post w).brk a = s.brk a := rfl
@[simp] theorem State.post_run (w : Work) : (s.post w).run? = s.run? := rfl
@[simp] theorem State.post_newest (w : Work) : (s.post w).newest = s.newest := rfl

/-- The state in which a change of position is handed to the paralleling unit. -/
def State.moved (s : State) (b : Nat) (new : Position) : State :=
  ((s.positioned b new).lineupMarked b).post
    (.genPosition b (s.brk b).position new ((s.brk b).ownOpen new) (!(s.brk b).trips.isEmpty))

theorem State.changePosition_eq (new : Position) : s.changePosition b new =
    ((((s.moved b new).completeCommand b).checkTrips b).testBf b).post (.seqPosition b) := rfl

@[simp] theorem State.positioned_work (new : Position) : (s.positioned b new).work = s.work := by simp [State.positioned]
@[simp] theorem State.positioned_mgmt (new : Position) : (s.positioned b new).mgmt = s.mgmt := by simp [State.positioned]
@[simp] theorem State.positioned_seq (new : Position) : (s.positioned b new).seq = s.seq := by simp [State.positioned]
theorem State.positioned_brk_same (hb : b < s.breakers.recs.length) (new : Position) : (s.positioned b new).brk b =
    { s.brk b with
      position := new, trips := if new == .opened then (s.brk b).trips.filter (· != .parallelLimit) else (s.brk b).trips } := by
  rw [State.positioned, State.event_brk, State.brk_modBrk_same _ _ hb]
theorem State.positioned_brk_other {a : Nat} (h : a ≠ b) (new : Position) : (s.positioned b new).brk a = s.brk a := by
  rw [State.positioned, State.event_brk, State.brk_modBrk_other _ _ h.symm]
theorem State.positioned_length (new : Position) : (s.positioned b new).breakers.recs.length = s.breakers.recs.length := by
  rw [State.positioned, State.event_breakers]
  exact List.length_modify ..

@[simp] theorem State.lineupMarked_work : (s.lineupMarked b).work = s.work := by unfold State.lineupMarked; split <;> rfl
@[simp] theorem State.lineupMarked_mgmt : (s.lineupMarked b).mgmt = s.mgmt := by unfold State.lineupMarked; split <;> rfl
@[simp] theorem State.lineupMarked_breakers : (s.lineupMarked b).breakers = s.breakers := by
  unfold State.lineupMarked; split <;> rfl
@[simp] theorem State.lineupMarked_brk (a : Nat) : (s.lineupMarked b).brk a = s.brk a := by
  unfold State.lineupMarked; split <;> rfl
@[simp] theorem State.lineupMarked_run : (s.lineupMarked b).run? = s.run? := by unfold State.lineupMarked; split <;> rfl

@[simp] theorem State.moved_brk (new : Position) (a : Nat) : (s.moved b new).brk a = (s.positioned b new).brk a := by
  rw [State.moved, State.post_brk, State.lineupMarked_brk]
@[simp] theorem State.moved_mgmt (new : Position) : (s.moved b new).mgmt = s.mgmt := by
  rw [State.moved, State.post_mgmt, State.lineupMarked_mgmt, State.positioned_mgmt]
theorem State.moved_length (new : Position) : (s.moved b new).breakers.recs.length = s.breakers.recs.length := by
  rw [State.moved, State.post_breakers, State.lineupMarked_breakers, State.positioned_length]
theorem State.moved_work (hw : s.work = []) (new : Position) : (s.moved b new).work =
    [.genPosition b (s.brk b).position new ((s.brk b).ownOpen new) (!(s.brk b).trips.isEmpty)] := by
  rw [State.moved, State.post_work, State.lineupMarked_work, State.positioned_work, hw]
  rfl
theorem State.moved_run (new : Position) : (s.moved b new).run? = s.run? := by
  rw [State.moved, State.post_run, State.lineupMarked_run, State.run?, State.positioned_seq, State.run?]

theorem Touches.post {ps : List StatePart} (h : Touches ps s u) (w : Work) (hq : .seq ∈ ps := by decide) :
    Touches ps s (u.post w) :=
  h.trans ⟨rfl, id, fun hno => absurd hq hno, fun p _ => by cases p <;> rfl⟩

theorem Touches.rested {ps : List StatePart} (h : Touches ps s u) (hq : .seq ∈ ps := by decide) :
    Touches ps s { u with work := [] } :=
  h.trans ⟨rfl, id, fun hno => absurd hq hno, fun p _ => by cases p <;> rfl⟩

theorem Touches.moved {ps : List StatePart} (h : Touches ps s u) (b : Nat) (new : Position) (hl : .links ∈ ps := by decide)
    (he : .events ∈ ps := by decide) (hb : .breakers ∈ ps := by decide) (hq : .seq ∈ ps := by decide) :
    Touches ps s (u.moved b new) := by
  have hpositioned : Touches ps s (u.positioned b new) := (h.modBrk b _ hb).event _ _ _ _ _ hl he
  exact (Touches.ite (hpositioned.modSeq _ hq) hpositioned).post _ hq

/-- Work that finds nothing to do. -/
theorem Drains.idle : ∀ {ws : List Work} {u : State}, u.work = ws →
    (∀ w ∈ ws, State.handle { u with work := [] } w = { u with work := [] }) → Drains ws.length u { u with work := [] }
  | [], u, hw, _ => .of_eq (by rw [← hw]) (.done rfl)
  | w :: ws, u, hw, hidle => by
    have hhandle := hidle w (List.mem_cons_self ..)
    refine .piece hw ?_
    rw [hhandle]
    exact Drains.idle (u := { u with work := ws }) rfl fun x hx => hidle x (List.mem_cons_of_mem _ hx)

/-- A change of position concerns no other block where its breaker is no generator's and no plan runs. -/
theorem State.positionWork_idle {w : Work} {old new : Position} {own tripped : Bool} (hg : s.genOf b = none)
    (hr : s.run? = none) (hw : w ∈ [Work.genPosition b old new own tripped, .seqPosition b]) : State.handle s w = s := by
  simp only [List.mem_cons, List.not_mem_nil, or_false] at hw
  obtain rfl | rfl := hw
  · show s.genMoved b old new own tripped = s
    rw [State.genMoved, hg]
  · show s.seqMoved b = s
    rw [State.seqMoved, hr]

theorem State.genOf_congr (hm : u.mgmt.tables = s.mgmt.tables) : u.genOf b = s.genOf b := by
  simp only [State.genOf, State.genConfigured, State.genBreaker, State.fld, hm]

/-- The end of a command that moves breakers, links, the sequencer and the event queue alone. -/
theorem finish_moved (hs : s.Quiet) (ht : Touches [.links, .events, .breakers, .seq] s u) (hw : u.work = []) :
    ∃ t, finish s u = .next t ∧ t.breakers = u.breakers ∧ (∀ a, t.brk a = u.brk a) ∧ t.seq = u.seq ∧ t.newest = u.newest ∧
      Only [.links, .events, .breakers, .seq] s t := by
  have hpar : u.par = s.par := ht.stands .par (by decide)
  have hmgmt : u.mgmt = s.mgmt := ht.stands .mgmt (by decide)
  have hset : ∀ g, u.setpointOf g = s.setpointOf g :=
    State.setpointOf_congr (congrArg Paralleling.gens hpar) (congrArg Management.tables hmgmt)
  obtain ⟨es, hend, honly⟩ := finish_settled hs ht hw hset
  exact ⟨_, hend, rfl, fun _ => rfl, rfl, rfl, honly⟩

theorem State.completeCommand_done (h : (s.brk b).slot = some c) (hp : c.phase ≠ .queued) (ht : c.action.target = (s.brk b).position) :
    s.completeCommand b = s.endCommand b .done := by
  rw [State.completeCommand, h]
  exact if_pos (by simp [hp, ht])

theorem State.checkTrips_none (h : (s.brk b).trips = []) : s.checkTrips b = s := by
  rw [State.checkTrips]
  exact if_neg (by simp [h])

theorem State.testBf_idle (h : (s.brk b).bf = .idle) : s.testBf b = s := by
  rw [State.testBf]
  exact if_neg (by simp [h])

/-- The state in which a position has completed the command in the slot. -/
def State.arrived (s : State) (b : Nat) (new : Position) (c : Command) : State :=
  ((s.moved b new).commandEnded b c .done).post (.seqPosition b)

/-- A change of position that completes an operator's command, where no trip demand stands and no BF runs. -/
theorem State.changePosition_arrived (hb : b < s.breakers.recs.length) {new : Position} (hslot : (s.brk b).slot = some c)
    (hp : c.phase ≠ .queued) (ht : c.action.target = new) (ho : c.origins = { operator := true })
    (hr : c.requester = .operator) (htrips : (s.brk b).trips = []) (hbf : (s.brk b).bf = .idle) :
    s.changePosition b new = s.arrived b new c ∧
      (s.arrived b new c).brk b = { s.brk b with
        position := new, slot := none, lastOutcome := some .done, outcomes := (s.brk b).outcomes.modify 0 step32 } := by
  have hmoved : (s.moved b new).brk b = { s.brk b with position := new } := by
    have hkept : (if new == .opened then (s.brk b).trips.filter (· != .parallelLimit) else (s.brk b).trips) =
        (s.brk b).trips := by
      rw [htrips]
      split <;> rfl
    rw [State.moved_brk, State.positioned_brk_same hb, hkept]
  have hlen : b < (s.moved b new).breakers.recs.length := (State.moved_length new).symm ▸ hb
  have hended := State.commandEnded_brk_same (s := s.moved b new) (c := c) (o := .done) hlen
  rw [hmoved] at hended
  refine ⟨?_, ?_⟩
  · rw [State.changePosition_eq, State.completeCommand_done (by rw [hmoved]; exact hslot) hp (by rw [hmoved]; exact ht),
      State.endCommand_ended (by rw [hmoved]; exact hslot) (by rw [ho]) (by rw [ho]) (.inr hr),
      State.checkTrips_none (by rw [hended]; exact htrips), State.testBf_idle (by rw [hended]; exact hbf)]
    rfl
  · rw [State.arrived, State.post_brk, hended]
    rfl

theorem State.arrived_brk_other {a : Nat} {new : Position} (h : a ≠ b) : (s.arrived b new c).brk a = s.brk a := by
  rw [State.arrived, State.post_brk, State.commandEnded_brk_other h, State.moved_brk, State.positioned_brk_other h]

theorem Touches.arrived {ps : List StatePart} (h : Touches ps s u) (b : Nat) (new : Position) (c : Command)
    (hl : .links ∈ ps := by decide) (he : .events ∈ ps := by decide) (hb : .breakers ∈ ps := by decide)
    (hq : .seq ∈ ps := by decide) : Touches ps s (u.arrived b new c) := by
  have hended := (h.moved b new hl he hb hq).commandEnded b c .done hl he hb
  exact hended.post (.seqPosition b) hq

theorem Drains.positionWork {old new : Position} {own tripped : Bool}
    (hwork : u.work = [.genPosition b old new own tripped, .seqPosition b]) (hg : u.genOf b = none) (hr : u.run? = none) :
    Drains 2 u { u with work := [] } :=
  Drains.idle hwork fun _ hw => State.positionWork_idle (s := { u with work := [] }) hg hr hw

/-- The work that this hands on finds nothing to do at a breaker of no generator where no plan runs. -/
theorem Drains.arrived (hw : s.work = []) {new : Position} (hg : s.genOf b = none) (hr : s.run? = none) :
    Drains 2 (s.arrived b new c) { s.arrived b new c with work := [] } := by
  have hwork : (s.arrived b new c).work = [.genPosition b (s.brk b).position new ((s.brk b).ownOpen new)
      (!(s.brk b).trips.isEmpty), .seqPosition b] := by
    rw [State.arrived, State.post_work, State.commandEnded_work, State.moved_work hw]
    rfl
  have hmgmt : (s.arrived b new c).mgmt = s.mgmt := by
    rw [State.arrived, State.post_mgmt, State.commandEnded_mgmt, State.moved_mgmt]
  have hrun : (s.arrived b new c).run? = none := by
    rw [State.arrived, State.post_run, State.commandEnded_run, State.moved_run, hr]
  exact Drains.positionWork hwork ((State.genOf_congr (congrArg Management.tables hmgmt)).trans hg) hrun

/-- Settles the third part of O25. -/
theorem simulatedCommandCompletes : Clause.SimulatedCommandCompletes := by
  intro s b c hs hb hslot hphase hiso horigins hrequester ht htrips hbf hg hrun
  have hlen := hs.lt_recs hb
  have htime : s.simulationTime b c.action ≤ c.timer := by
    have h : s.simulationTime b c.action = if c.action = .opening then s.fld .breaker b 8 else s.fld .breaker b 7 := by
      cases c.action <;> rfl
    exact h ▸ ht
  have hown₀ : (s.modBrk b (fun r => { r with candidate := none })).brk b = { s.brk b with candidate := none } :=
    State.brk_modBrk_same _ _ hlen
  have hexpires : s.simulatedEnd b =
      (s.modBrk b (fun r => { r with candidate := none })).changePosition b c.action.target := by
    rw [State.simulatedEnd, hslot]
    dsimp only
    rw [if_neg (by simp [State.isolated, hiso, hphase, htime])]
  obtain ⟨harrives, hown⟩ := State.changePosition_arrived (s := s.modBrk b (fun r => { r with candidate := none }))
    (new := c.action.target) ((List.length_modify ..).symm ▸ hlen) (by rw [hown₀]; exact hslot) (by rw [hphase]; decide) rfl
    horigins hrequester (by rw [hown₀]; exact htrips) (by rw [hown₀]; exact hbf)
  have hdrains := Drains.arrived (s := s.modBrk b (fun r => { r with candidate := none })) (b := b) (c := c)
    (new := c.action.target) hs.1 hg hrun
  have htouch : Touches [.links, .events, .breakers, .seq] s (s.modBrk b (fun r => { r with candidate := none })) :=
    (Touches.refl _ s).modBrk _ _
  have harrived : Touches [.links, .events, .breakers, .seq] s
      ((s.modBrk b (fun r => { r with candidate := none })).arrived b c.action.target c) := htouch.arrived b _ c
  have hothers : ∀ a, a ≠ b → ((s.modBrk b (fun r => { r with candidate := none })).arrived b c.action.target c).brk a =
      s.brk a := fun a ha => (State.arrived_brk_other ha).trans (State.brk_modBrk_other _ _ ha.symm)
  rw [hown₀] at hown
  rw [harrives] at hexpires
  generalize (s.modBrk b (fun r => { r with candidate := none })).arrived b c.action.target c = v at *
  obtain ⟨t, hend, -, hbrk, -, -, honly⟩ := finish_moved hs harrived.rested rfl
  exact ⟨t, ((congrArg (finish s) hexpires).trans (congrArg Host.Outcome.next (hdrains.settle (s := s)))).trans hend,
    (hbrk b).trans hown, fun a ha => (hbrk a).trans (hothers a ha), honly⟩

/-- Settles O25. -/
theorem commandsEndByTheirTimers : Obligations.CommandsEndByTheirTimers :=
  ⟨missingResponse, limitEndsTheCommand, simulatedCommandCompletes⟩

end

end Sys2Proof.Machine
end

section
/-! # The GENSETs of a command's end -/

namespace Sys2Proof.Machine

section
variable {s u v : State} {g j : Nat}

/-! ### The GENSETs of a command's end (R153) -/

/-- Generator `g` has a setpoint record that stands otherwise than before the command. -/
def State.Changed (s u : State) (g : Nat) : Prop := u.setpointOf g ≠ none ∧ u.setpointOf g ≠ s.setpointOf g

/-- Where a state differs from another at most by the refresh timers of generators and by frames in the queues. -/
structure Refreshed (u v : State) : Prop where
  eq : v = { u with links := v.links, par := { u.par with gens := v.par.gens } }
  gen : ∀ j, ∃ n, v.gen j = { u.gen j with refreshTimer := n }
  length : v.par.gens.length = u.par.gens.length

namespace Refreshed

theorem refl (u : State) : Refreshed u u := ⟨rfl, fun _ => ⟨_, rfl⟩, rfl⟩

theorem mgmt (h : Refreshed u v) : v.mgmt = u.mgmt := by rw [h.eq]
theorem hushed (h : Refreshed u v) : v.hushed = u.hushed := by rw [h.eq]

theorem setpointOf (h : Refreshed u v) (j : Nat) : v.setpointOf j = u.setpointOf j := by
  obtain ⟨n, hn⟩ := h.gen j
  exact State.setpointOf_of_gen (by rw [h.mgmt]) hn

theorem built (h : Refreshed u v) (p : Setpoint) : Refreshed u (v.gensetBuilt g p) where
  eq := by
    have e := h.eq
    generalize hl : v.links = l at e
    generalize hg : v.par.gens = gs at e
    rw [e]
    rfl
  gen i := by
    obtain ⟨n, hn⟩ := h.gen i
    by_cases hi : i = g
    · subst hi
      by_cases hlen : i < v.par.gens.length
      · exact ⟨0, by rw [State.gensetBuilt_gen_same hlen, hn]⟩
      · refine ⟨n, ?_⟩
        have hlen' : (v.gensetBuilt i p).par.gens.length ≤ i := by
          rw [show (v.gensetBuilt i p).par.gens.length = v.par.gens.length from List.length_modify ..]
          exact Nat.not_lt.1 hlen
        rw [← hn, State.gen, State.gen, nth_default (Nat.not_lt.1 hlen), nth_default hlen']
    · exact ⟨n, (State.gensetBuilt_gen_other hi p).trans hn⟩
  length := (List.length_modify ..).trans h.length

end Refreshed

/-- One turn of the loop that builds the GENSETs. -/
def State.setpointSent (s : State) (g : Nat) (t : State) : State :=
  if (t.setpointOf g).isSome && t.setpointOf g != s.setpointOf g then t.buildGenset g else t

theorem State.setpointSent_changed (hh : v.hushed = false) (h : State.Changed s v g) :
    ∃ p, v.setpointOf g = some p ∧ s.setpointSent g v = v.gensetBuilt g p := by
  obtain ⟨hsome, hchanged⟩ := h
  obtain ⟨p, hp⟩ := Option.ne_none_iff_exists'.1 hsome
  refine ⟨p, hp, ?_⟩
  rw [State.setpointSent, if_pos (by simp [hp ▸ hchanged, hp]), State.buildGenset_some hp hh]

theorem State.setpointSent_same (h : ¬ State.Changed s v g) : s.setpointSent g v = v := by
  rw [State.setpointSent]
  refine if_neg fun hc => h ?_
  simpa [State.Changed, Option.isSome_iff_ne_none] using hc

/-- What the loop makes of each generator. -/
theorem State.setpointsSent (hh : u.hushed = false) (hlen : u.par.gens.length = 8) (ns : List Nat) (hns : ∀ j ∈ ns, j < 8) :
    Refreshed u (u.forEach ns s.setpointSent) ∧
      ∀ j, (State.Changed s u j → j ∈ ns → ((u.forEach ns s.setpointSent).gen j).refreshTimer = 0) ∧
        (¬ State.Changed s u j ∨ j ∉ ns → (u.forEach ns s.setpointSent).gen j = u.gen j) := by
  induction ns using List.reverseRecOn with
  | nil => exact ⟨.refl u, fun j => ⟨fun _ h => absurd h List.not_mem_nil, fun _ => rfl⟩⟩
  | append_singleton ns g ih =>
    obtain ⟨hsent, hgens⟩ := ih fun j hj => hns j (List.mem_append_left _ hj)
    have hg : g < 8 := hns g (List.mem_append_right _ (List.mem_singleton_self g))
    have hstep : u.forEach (ns ++ [g]) s.setpointSent = s.setpointSent g (u.forEach ns s.setpointSent) := by
      rw [State.forEach, List.foldl_append]
      rfl
    rw [hstep]
    generalize u.forEach ns s.setpointSent = v at *
    have hsame : State.Changed s v g ↔ State.Changed s u g := by rw [State.Changed, State.Changed, hsent.setpointOf]
    by_cases hc : State.Changed s u g
    · obtain ⟨p, -, hp⟩ := State.setpointSent_changed (hsent.hushed.trans hh) (hsame.2 hc)
      rw [hp]
      have hlen' : g < v.par.gens.length := by rw [hsent.length, hlen]; exact hg
      refine ⟨hsent.built p, fun j => ⟨fun hj hmem => ?_, fun hj => ?_⟩⟩
      · by_cases hjg : j = g
        · rw [hjg, State.gensetBuilt_gen_same hlen']
        · rw [State.gensetBuilt_gen_other hjg]
          exact (hgens j).1 hj ((List.mem_append.1 hmem).resolve_right fun h => hjg (List.mem_singleton.1 h))
      · have hjg : j ≠ g := fun h => by
          obtain hj | hj := hj
          · exact hj (h ▸ hc)
          · exact hj (List.mem_append_right _ (List.mem_singleton.2 h))
        rw [State.gensetBuilt_gen_other hjg]
        exact (hgens j).2 (hj.imp_right fun h hmem => h (List.mem_append_left _ hmem))
    · rw [State.setpointSent_same fun h => hc (hsame.1 h)]
      refine ⟨hsent, fun j => ⟨fun hj hmem => ?_, fun hj => ?_⟩⟩
      · have hjg : j ≠ g := fun h => hc (h ▸ hj)
        exact (hgens j).1 hj ((List.mem_append.1 hmem).resolve_right fun h => hjg (List.mem_singleton.1 h))
      · by_cases hcj : State.Changed s u j
        · exact (hgens j).2 (.inr fun hmem => (hj.resolve_left (not_not.2 hcj)) (List.mem_append_left _ hmem))
        · exact (hgens j).2 (.inl hcj)

/-- The end of a command that leaves no work: what it makes of the generators, and what it leaves. -/
theorem finish_gensets (hw : u.work = []) (hh : u.hushed = false) (hlen : u.par.gens.length = 8) :
    ∃ t, finish s u = .next t ∧
      (∀ j < 8, t.gen j = { u.gen j with refreshTimer := (t.gen j).refreshTimer }) ∧
      (∀ j < 8, State.Changed s u j → t.gen j = { u.gen j with refreshTimer := 0 }) ∧
      (∀ j, ¬ State.Changed s u j → t.gen j = u.gen j) ∧ t.par = { u.par with gens := t.par.gens } ∧
      t.breakers = u.breakers ∧ t.seq = u.seq ∧ t.mgmt = u.mgmt ∧ t.newest = u.newest ∧ t.events = u.events := by
  obtain ⟨hsent, hgens⟩ := State.setpointsSent (s := s) hh hlen (List.range 8) fun j hj => List.mem_range.1 hj
  have hloop : State.sendSetpoints s u = u.forEach (List.range 8) s.setpointSent := rfl
  have hsettle := State.settle_sent (s := s) hw
  rw [hloop] at hsettle
  generalize u.forEach (List.range 8) s.setpointSent = v at *
  have hgen : ∀ j, v.gen j = { u.gen j with refreshTimer := (v.gen j).refreshTimer } := fun j => by
    obtain ⟨n, hn⟩ := hsent.gen j
    rw [hn]
  have heq := hsent.eq
  refine ⟨_, congrArg Host.Outcome.next hsettle, fun j _ => hgen j, fun j hj hc => ?_, fun j hc => (hgens j).2 (.inl hc), ?_, ?_,
    ?_, ?_, ?_, ?_⟩
  · have hzero := (hgens j).1 hc (List.mem_range.2 hj)
    exact (hgen j).trans (by rw [hzero])
  all_goals
    generalize v.links = l at heq
    generalize v.par.gens = gs at heq
    rw [heq]
    rfl

end

end Sys2Proof.Machine
end

section
/-! # Corrections of a sync run (O41) -/

namespace Sys2Proof.Machine

section
variable {s u v : State} {g j c : Nat} {r : SyncRun}

/-! ### Channels -/

@[simp] theorem State.setChannel_fld (x : Option SyncRun) (t : TableId) (e id : Nat) :
    (s.setChannel c x).fld t e id = s.fld t e id := rfl
@[simp] theorem State.setChannel_gens (x : Option SyncRun) : (s.setChannel c x).par.gens = s.par.gens := rfl
@[simp] theorem State.setChannel_gen (x : Option SyncRun) : (s.setChannel c x).gen j = s.gen j := rfl
@[simp] theorem State.setChannel_length (x : Option SyncRun) :
    (s.setChannel c x).par.channels.length = s.par.channels.length := List.length_set ..

theorem State.channel_lt (h : s.channel c = some r) : c < s.par.channels.length := by
  by_contra hno
  rw [State.channel, List.getD_eq_default _ _ (Nat.not_lt.1 hno)] at h
  cases h

theorem State.setChannel_same (hc : c < s.par.channels.length) (x : Option SyncRun) : (s.setChannel c x).channel c = x := by
  simp [State.channel, State.setChannel, State.modPar, hc]

theorem State.setChannel_other {k : Nat} (h : k ≠ c) (x : Option SyncRun) : (s.setChannel c x).channel k = s.channel k := by
  simp [State.channel, State.setChannel, State.modPar, h.symm]

@[simp] theorem State.disown_gens (gs : List Nat) : (s.disown gs).par.gens = s.par.gens := rfl
@[simp] theorem State.disown_work (gs : List Nat) : (s.disown gs).work = s.work := rfl
@[simp] theorem State.disown_hushed (gs : List Nat) : (s.disown gs).hushed = s.hushed := rfl
@[simp] theorem State.disown_mgmt (gs : List Nat) : (s.disown gs).mgmt = s.mgmt := rfl
@[simp] theorem State.disown_length (gs : List Nat) : (s.disown gs).par.channels.length = s.par.channels.length := List.length_map ..

/-! ### The biases of a correction (R162) -/

/-- The record of a generator whose biases are written. -/
def GenRec.biased (r : GenRec) (speed voltage : Int) : GenRec := { r with speedBias := speed, voltageBias := voltage }

theorem State.writeBiases_gen_same (hg : g < s.par.gens.length) :
    (s.writeBiases r g).gen g = (s.gen g).biased (Clause.speedBias s r g) (Clause.voltageBias s r g) :=
  State.gen_modGen_same _ _ hg

theorem State.writeBiases_gen_other (h : j ≠ g) : (s.writeBiases r g).gen j = s.gen j := State.gen_modGen_other _ _ h.symm

/-- What corrections read of a state, the generators' records apart. -/
structure SameMeasures (s u : State) : Prop where
  measures : u.measures = s.measures
  tables : u.mgmt.tables = s.mgmt.tables

theorem SameMeasures.biases (h : SameMeasures s u) (hg : u.gen g = s.gen g) :
    Clause.speedBias u r g = Clause.speedBias s r g ∧ Clause.voltageBias u r g = Clause.voltageBias s r g := by
  have hfld : ∀ x e id, u.fld x e id = s.fld x e id := fun x e id => by rw [State.fld, State.fld, h.tables]
  have hsfld : ∀ x e id, u.sfld x e id = s.sfld x e id := fun x e id => by rw [State.sfld, State.sfld, hfld]
  have hmeasure : ∀ k, u.measure k = s.measure k := fun k => by rw [State.measure, State.measure, h.measures]
  have hphasor : ∀ k q, u.phasor k q = s.phasor k q := fun k q => by rw [State.phasor, State.phasor, hmeasure]
  simp only [Clause.speedBias, Clause.voltageBias, hg, hfld, hsfld, hmeasure, hphasor, and_self]

/-- What a run of corrections makes of the generators. -/
theorem State.biasesWritten (hlen : s.par.gens.length = 8) (ns : List Nat) (hns : ∀ j ∈ ns, j < 8) (hnodup : ns.Nodup) :
    SameMeasures s (s.forEach ns (fun g t => t.writeBiases r g)) ∧
      s.forEach ns (fun g t => t.writeBiases r g) =
        { s with par := { s.par with gens := (s.forEach ns (fun g t => t.writeBiases r g)).par.gens } } ∧
      (s.forEach ns (fun g t => t.writeBiases r g)).par.gens.length = 8 ∧
      ∀ j, (s.forEach ns (fun g t => t.writeBiases r g)).gen j =
        if j ∈ ns then (s.gen j).biased (Clause.speedBias s r j) (Clause.voltageBias s r j) else s.gen j := by
  induction ns using List.reverseRecOn with
  | nil => exact ⟨⟨rfl, rfl⟩, rfl, hlen, fun j => (if_neg List.not_mem_nil).symm⟩
  | append_singleton ns g ih =>
    obtain ⟨hnodup', -, hfresh⟩ := List.nodup_append.1 hnodup
    obtain ⟨hsame, heq, hcount, hgens⟩ := ih (fun j hj => hns j (List.mem_append_left _ hj)) hnodup'
    have hg : g < 8 := hns g (List.mem_append_right _ (List.mem_singleton_self g))
    have hno : g ∉ ns := fun h => hfresh g h g (List.mem_singleton_self g) rfl
    have hstep : s.forEach (ns ++ [g]) (fun g t => t.writeBiases r g) =
        (s.forEach ns (fun g t => t.writeBiases r g)).writeBiases r g := by
      rw [State.forEach, List.foldl_append]
      rfl
    rw [hstep]
    generalize s.forEach ns (fun g t => t.writeBiases r g) = v at *
    have hown : v.gen g = s.gen g := (hgens g).trans (if_neg hno)
    obtain ⟨hspeed, hvoltage⟩ := hsame.biases (r := r) hown
    refine ⟨⟨hsame.measures, hsame.tables⟩, ?_, (List.length_modify ..).trans hcount, fun j => ?_⟩
    · generalize v.par.gens = gs at heq
      rw [heq]
      rfl
    · by_cases hj : j = g
      · subst hj
        rw [State.writeBiases_gen_same (hcount.symm ▸ hg), if_pos (List.mem_append_right _ (List.mem_singleton_self j)), hown,
          hspeed, hvoltage]
      · rw [State.writeBiases_gen_other hj, hgens]
        exact if_congr (by simp [hj]) rfl rfl

/-- The generators that a run's corrections count as its own. -/
def State.ownBiased (s : State) (r : SyncRun) : List Nat := (s.biased r).filter (fun g => (s.gen g).common.biasControl)

theorem State.correct_eq (h : s.channel c = some r) : s.correct c =
    ((s.forEach (s.biased r) (fun g t => t.writeBiases r g)).disown (s.ownBiased r)).setChannel c
      (some { r with wrote := r.wrote ++ (s.ownBiased r).filter (fun g => !r.wrote.contains g) }) := by
  rw [State.correct, h]
  rfl

/-- What a correction leaves, and what it makes of generators and channels. -/
structure Corrects (s u : State) (c : Nat) (r : SyncRun) : Prop where
  eq : u = { s with par := { s.par with gens := u.par.gens, channels := u.par.channels } }
  count : u.par.gens.length = 8
  gen : ∀ j, u.gen j =
    if j ∈ s.biased r then (s.gen j).biased (Clause.speedBias s r j) (Clause.voltageBias s r j) else s.gen j
  own : u.channel c = some { r with wrote := r.wrote ++ (s.ownBiased r).filter (fun g => !r.wrote.contains g) }
  other : ∀ k, k ≠ c → u.channel k =
    (s.channel k).map (fun r' => { r' with wrote := r'.wrote.filter (fun g => !(s.ownBiased r).contains g) })

theorem State.corrects (hlen : s.par.gens.length = 8) (h : s.channel c = some r) (hlt : ∀ j ∈ s.biased r, j < 8)
    (hnodup : (s.biased r).Nodup) : Corrects s (s.correct c) c r := by
  obtain ⟨-, heq, hcount, hgens⟩ := State.biasesWritten (r := r) hlen (s.biased r) hlt hnodup
  have hc := State.channel_lt h
  rw [State.correct_eq h]
  generalize s.forEach (s.biased r) (fun g t => t.writeBiases r g) = v at *
  have hchannels : v.par.channels = s.par.channels := by rw [heq]
  have hchannel : ∀ k, v.channel k = s.channel k := fun k => by rw [State.channel, State.channel, hchannels]
  refine ⟨?_, hcount, hgens, ?_, fun k hk => ?_⟩
  · generalize v.par.gens = gs at heq
    rw [heq]
    rfl
  · refine State.setChannel_same ?_ _
    rw [State.disown_length, hchannels]
    exact hc
  · rw [State.setChannel_other hk, State.disown_channel, hchannel]

/-- A generator's setpoint changes by a correction where it has one and a bias is not what it was. -/
theorem State.changed_biased (htables : u.mgmt.tables = s.mgmt.tables) {speed voltage : Int}
    (hgen : u.gen j = (s.gen j).biased speed voltage) : State.Changed s u j ↔
      s.fld .generator j 1 = 1 ∧ (s.gen j).state ≠ .absent ∧
        ((s.gen j).speedBias ≠ speed ∨ (s.gen j).voltageBias ≠ voltage) := by
  have hconf : u.genConfigured j = s.genConfigured j := by
    rw [State.genConfigured, State.genConfigured, State.fld, State.fld, htables]
  rw [State.Changed, State.setpointOf_eq, State.setpointOf_eq, hconf, hgen]
  by_cases hc : s.fld .generator j 1 = 1
  · by_cases ha : (s.gen j).state = .absent
    · simp [GenRec.biased, ha]
    · have hset : ((s.gen j).biased speed voltage).setpoint = (s.gen j).setpoint ↔
          speed = (s.gen j).speedBias ∧ voltage = (s.gen j).voltageBias := by
        simp only [GenRec.setpoint, GenRec.biased, Setpoint.mk.injEq, true_and, and_true]
        exact ⟨fun ⟨hs, hv, _⟩ => ⟨hs, hv⟩, fun ⟨hs, hv⟩ => ⟨hs, hv, rfl⟩⟩
      have hpresent : ¬ (!s.genConfigured j || (s.gen j).state == .absent) = true := by simp [State.genConfigured, hc, ha]
      rw [if_neg hpresent, if_neg (show ¬ (!s.genConfigured j || ((s.gen j).biased speed voltage).state == .absent) = true
        from hpresent), Ne, Ne, Option.some_inj, hset]
      simp only [reduceCtorEq, not_false_eq_true, true_and, hc, ne_eq, ha]
      rw [not_and_or, eq_comm, eq_comm (a := voltage)]
  · simp [State.genConfigured, hc]

theorem State.biased_congr (hg : ∀ j, u.gen j = s.gen j) : u.biased r = s.biased r ∧ u.ownBiased r = s.ownBiased r := by
  have hbiased : u.biased r = s.biased r := by
    unfold State.biased
    split
    · rfl
    · simp only [hg]
  refine ⟨hbiased, ?_⟩
  rw [State.ownBiased, State.ownBiased, hbiased]
  simp only [hg]

/-- The end of a command that makes a correction: the biases written, the GENSETs built, and the channels. -/
theorem finish_corrects (hg : ∀ j, v.gen j = s.gen j) (hm : SameMeasures s v) (hw : v.work = [])
    (hh : v.hushed = false) (hc : Corrects v u c r) : ∃ t, finish s u = .next t ∧
      (∀ j < 8, j ∈ s.biased r → t.gen j = Clause.corrected s r j) ∧ (∀ j, j ∉ s.biased r → t.gen j = s.gen j) ∧
      (∀ k, t.channel k = u.channel k) ∧ t.seq = v.seq := by
  have hequ := hc.eq
  have htables : u.mgmt.tables = s.mgmt.tables := by rw [hequ]; exact hm.tables
  obtain ⟨t, hend, -, hchanged, hstands, hpar, -, hseq, -⟩ :=
    finish_gensets (s := s) (u := u) (by rw [hequ]; exact hw) (by rw [hequ]; exact hh) hc.count
  have hown : ∀ j ∈ s.biased r, u.gen j = (s.gen j).biased (Clause.speedBias s r j) (Clause.voltageBias s r j) := fun j hj => by
    obtain ⟨hspeed, hvoltage⟩ := hm.biases (r := r) (hg j)
    rw [hc.gen, if_pos ((State.biased_congr hg).1 ▸ hj), hg, hspeed, hvoltage]
  refine ⟨t, hend, fun j hj hmem => ?_, fun j hno => ?_, fun k => ?_, hseq.trans (by rw [hequ])⟩
  · have hiff := State.changed_biased htables (hown j hmem)
    by_cases h : State.Changed s u j
    · rw [hchanged j hj h, hown j hmem, Clause.corrected, if_pos (hiff.1 h)]
      rfl
    · rw [hstands j h, hown j hmem, Clause.corrected, if_neg fun hc => h (hiff.2 hc)]
      rfl
  · have hsame : u.gen j = s.gen j := by rw [hc.gen, if_neg ((State.biased_congr hg).1 ▸ hno), hg]
    have hset : u.setpointOf j = s.setpointOf j :=
      State.setpointOf_same htables (by rw [hsame]) (by rw [hsame])
    rw [hstands j fun h => h.2 hset, hsame]
  · rw [State.channel, hpar, State.channel]

/-- A run on a channel that held one before moves no point. -/
theorem State.setChannel_point (h : s.channel c = some r) (x : SyncRun) (n : Nat) :
    (s.setChannel c (some x)).point n = s.point n := by
  have hheld : ((s.setChannel c (some x)).channel 0).isSome = (s.channel 0).isSome := by
    by_cases hc : c = 0
    · subst hc
      rw [State.setChannel_same (State.channel_lt h), h]
      rfl
    · rw [State.setChannel_other (Ne.symm hc)]
  simp only [State.point, hheld]
  rfl

theorem finish_setChannel (hs : s.Quiet) (h : s.channel c = some r) (x : SyncRun) :
    finish s (s.setChannel c (some x)) = .next (s.setChannel c (some x)) :=
  finish_exact s hs.1 hs.risen hs.closing hs.2.2.1 (State.setpointOf_congr rfl rfl) (State.setChannel_point h x)
    hs.2.2.2.2.1

theorem State.biased_sequencer (h : r.client = .sequencer) : s.biased r = Clause.online s := by
  rw [State.biased, h]
  rfl

theorem State.ownBiased_generator (h : r.client = .generator g) :
    s.ownBiased r = if (s.gen g).common.biasControl then [g] else [] := by
  rw [State.ownBiased, State.biased, h]
  cases hb : (s.gen g).common.biasControl <;> simp [hb]

theorem State.ownBiased_sequencer_filter (h : r.client = .sequencer) (wrote : List Nat) :
    wrote ++ (s.ownBiased r).filter (fun g => !wrote.contains g) = Clause.wroteOnline s wrote := by
  rw [State.ownBiased, State.biased_sequencer h, Clause.online, Clause.wroteOnline, List.filter_filter, List.filter_filter]
  refine congrArg (wrote ++ ·) (List.filter_congr fun g _ => ?_)
  cases (s.gen g).state == .online <;> cases (s.gen g).common.biasControl <;> cases wrote.contains g <;> rfl

theorem State.ownBiased_sequencer (h : r.client = .sequencer) (j : Nat) :
    (s.ownBiased r).contains j = (decide (j ∈ Clause.online s) && (s.gen j).common.biasControl) := by
  rw [Bool.eq_iff_iff]
  simp [State.ownBiased, State.biased_sequencer h]

theorem State.mem_biased_generator (h : r.client = .generator g) : j ∈ s.biased r ↔ j = g := by
  rw [State.biased, h]
  exact List.mem_singleton

end

/-- Settles O41. -/
theorem syncCorrectionWritesTheBiases : Obligations.SyncCorrectionWritesTheBiases := by
  intro s c r hs hc hchannel hphase
  have hlt : c < s.par.channels.length := State.channel_lt hchannel
  have hexpires : s.fld .sync r.entry 11 ≤ r.timer → s.correctionExpiry c =
      if r.ready then s.setChannel c (some { r with timer := 0 }) else (s.setChannel c (some { r with timer := 0 })).correct c :=
    fun ht => by
      rw [State.correctionExpiry, hchannel]
      dsimp only
      rw [if_neg (by simp [hphase, State.correctionInterval, Nat.not_lt.2 ht])]
  have hown := State.setChannel_same hlt (some { r with timer := 0 })
  have hsame : SameMeasures s (s.setChannel c (some { r with timer := 0 })) := ⟨rfl, rfl⟩
  refine ⟨fun ht => ?_, fun ht hready => ?_, fun g hg ht hready hclient => ?_, fun ht hready hclient => ?_⟩
  · have hidle : s.correctionExpiry c = s := by
      rw [State.correctionExpiry, hchannel]
      exact if_pos (by simp [State.correctionInterval, ht])
    exact (congrArg (finish s) hidle).trans (finish_idle hs)
  · exact (congrArg (finish s) ((hexpires ht).trans (if_pos hready))).trans (finish_setChannel hs hchannel _)
  · have hexec : exec (.syncCorrection c) s = finish s ((s.setChannel c (some { r with timer := 0 })).correct c) :=
      congrArg (finish s) ((hexpires ht).trans (if_neg (by simp [hready])))
    have hmem : ∀ j, j ∈ s.biased { r with timer := 0 } ↔ j = g := fun j => State.mem_biased_generator hclient
    have hcorrects := State.corrects (s := s.setChannel c (some { r with timer := 0 })) hs.gens_length hown
      (fun j hj => by rw [(hmem j).1 hj]; exact hg) (by rw [State.biased, hclient]; exact List.nodup_singleton g)
    obtain ⟨t, hend, hgens, hothers, hchannels, -⟩ := finish_corrects (s := s) (v := s.setChannel c (some { r with timer := 0 })) (fun _ => rfl) hsame hs.1 hs.2.2.1 hcorrects
    have hexec' := hexec.trans hend
    have hcounted : (s.setChannel c (some { r with timer := 0 })).ownBiased { r with timer := 0 } =
        if (s.gen g).common.biasControl then [g] else [] := State.ownBiased_generator hclient
    refine ⟨t, hexec', hgens g hg ((hmem g).2 rfl), fun j hj => hothers j fun h => hj ((hmem j).1 h), ?_, fun k hk => ?_,
      hs.only _ hexec'⟩
    · rw [hchannels, hcorrects.own, hcounted]
      refine congrArg (fun w => some { r with timer := 0, wrote := w }) ?_
      show r.wrote ++ (if (s.gen g).common.biasControl then [g] else []).filter (fun g => !r.wrote.contains g) = _
      by_cases hwrote : g ∈ r.wrote <;> cases hb : (s.gen g).common.biasControl <;> simp [hwrote]
    · rw [hchannels, hcorrects.other k hk, State.setChannel_other hk, hcounted, Clause.disowned]
      refine congrArg (fun p => (s.channel k).map (fun r' : SyncRun => { r' with wrote := r'.wrote.filter p })) (funext fun j => ?_)
      show (!(if (s.gen g).common.biasControl then [g] else []).contains j) = !(decide (j ∈ [g]) && (s.gen j).common.biasControl)
      by_cases hj : j = g
      · subst hj
        cases hb : (s.gen j).common.biasControl <;> simp
      · cases hb : (s.gen g).common.biasControl <;> simp [hj]
  · have hexec : exec (.syncCorrection c) s = finish s ((s.setChannel c (some { r with timer := 0 })).correct c) :=
      congrArg (finish s) ((hexpires ht).trans (if_neg (by simp [hready])))
    have hbiased : s.biased { r with timer := 0 } = Clause.online s := State.biased_sequencer hclient
    have hmem : ∀ j < 8, j ∈ s.biased { r with timer := 0 } ↔ (s.gen j).state = .online := fun j hj => by
      rw [hbiased, Clause.online, List.mem_filter, List.mem_range]
      simp [hj]
    have hcorrects := State.corrects (s := s.setChannel c (some { r with timer := 0 })) hs.gens_length hown
      (fun j hj => List.mem_range.1 (List.mem_of_mem_filter (hbiased ▸ hj)))
      (by rw [State.biased, hclient]; exact List.nodup_range.filter _)
    obtain ⟨t, hend, hgens, hothers, hchannels, -⟩ := finish_corrects (s := s) (v := s.setChannel c (some { r with timer := 0 }))
      (fun _ => rfl) hsame hs.1 hs.2.2.1 hcorrects
    have hexec' := hexec.trans hend
    refine ⟨t, hexec', fun g hg => ?_, ?_, fun k hk => ?_, hs.only _ hexec'⟩
    · split
      · next h => exact hgens g hg ((hmem g hg).2 h)
      · next h => exact hothers g fun hm => h ((hmem g hg).1 hm)
    · rw [hchannels, hcorrects.own]
      exact congrArg (fun w => some { r with timer := 0, wrote := w })
        (State.ownBiased_sequencer_filter (s := s) (r := { r with timer := 0 }) hclient r.wrote)
    · rw [hchannels, hcorrects.other k hk, State.setChannel_other hk, Clause.disowned]
      simp only [State.ownBiased_sequencer (s := s.setChannel c (some { r with timer := 0 })) (r := { r with timer := 0 }) hclient]
      rfl


end Sys2Proof.Machine
end

section
/-! # A sync retry starts a run (O34) -/

namespace Sys2Proof.Machine

section
variable {s u v : State} {c : Nat} {r : SyncRun}

theorem Corrects.modSeq (h : Corrects v u c r) (f : Sequencer → Sequencer) : Corrects (v.modSeq f) (u.modSeq f) c r where
  eq := by
    have e := h.eq
    generalize u.par.gens = gs at e
    generalize u.par.channels = cs at e
    rw [e]
    rfl
  count := h.count
  gen := h.gen
  own := h.own
  other := h.other

/-- The state in which a run has taken channel 0 and its step waits for it. -/
def State.retried (s : State) (p : PlanRun) (r : SyncRun) : State :=
  (s.noting (s.setChannel 0 (some r))).modSeq (fun q => { q with state := .running { p with wait := .sync } })

end

/-- Settles O34. -/
theorem syncRetryStartsARun : Obligations.SyncRetryStartsARun := by
  intro s p n hs hstate hwait
  have hrun : s.run? = some p := by rw [State.run?, hstate]
  refine ⟨fun ht => ?_, ?_⟩
  · have hidle : s.seqRetry = s := by
      rw [State.seqRetry, hrun]
      dsimp only
      rw [hwait]
      exact if_neg (by simp [State.correctionInterval, Nat.not_le.2 ht])
    exact (congrArg (finish s) hidle).trans (finish_idle hs)
  · intro ht hg hb x
    have hlt : 0 < s.par.channels.length := by rw [hs.channels_length]; decide
    have hstarts : s.seqRetry = s.stepRun p := by
      rw [State.seqRetry, hrun]
      dsimp only
      rw [hwait]
      exact if_pos (by simp [State.correctionInterval, ht, hg, hb])
    generalize hy : ({ x with wrote := (s.channel 0).elim [] (fun y => y.wrote) } : SyncRun) = y
    have hclient : y.client = .sequencer := by rw [← hy]
    have hown : (s.noting (s.setChannel 0 (some y))).channel 0 = some y := State.setChannel_same hlt _
    have hbiased : s.biased y = Clause.online s := State.biased_sequencer hclient
    have hbase := State.corrects (s := s.noting (s.setChannel 0 (some y))) hs.gens_length hown
      (fun j hj => List.mem_range.1 (List.mem_of_mem_filter (hbiased ▸ hj)))
      (by rw [State.biased, hclient]; exact List.nodup_range.filter _)
    have hcorrects := hbase.modSeq (fun q => { q with state := .running { p with wait := .sync } })
    have hexec : exec .syncRetry s = finish s (((s.noting (s.setChannel 0 (some y))).correct 0).modSeq
        (fun q => { q with state := .running { p with wait := .sync } })) := by
      refine (congrArg (finish s) hstarts).trans (congrArg (finish s) ?_)
      have hseq : ((s.noting (s.setChannel 0 (some y))).correct 0).seq.state = .running p := by
        rw [hbase.eq]
        exact hstate
      have hstart : s.startRun 0 .sequencer (s.stepBreaker p) (s.stepField p.plan p.step 2) (s.stepField p.plan p.step 3) 8 =
          (s.noting (s.setChannel 0 (some y))).correct 0 := by
        rw [← hy]
        rfl
      rw [State.stepRun, hstart, State.setWait_eq hseq]
      rfl
    obtain ⟨t, hend, hgens, hothers, hchannels, hseq⟩ := finish_corrects (s := s)
      (v := (s.noting (s.setChannel 0 (some y))).modSeq (fun q => { q with state := .running { p with wait := .sync } }))
      (fun _ => rfl) ⟨rfl, rfl⟩ hs.1 hs.2.2.1 hcorrects
    have hexec' := hexec.trans hend
    have hsamebias : ∀ g, Clause.corrected s y g = Clause.corrected s x g := fun g => by rw [← hy]; rfl
    refine ⟨t, hexec', ?_, hseq, fun k hk => ?_, fun g hg => ?_, hs.only _ hexec'⟩
    · rw [hchannels, hcorrects.own]
      refine (congrArg (fun w => some { y with wrote := w })
        (State.ownBiased_sequencer_filter (s := s) (r := y) hclient y.wrote)).trans ?_
      rw [← hy]
    · rw [hchannels, hcorrects.other k hk, Clause.disowned]
      simp only [State.ownBiased_sequencer (r := y) hclient]
      exact congrArg (Option.map _) (State.setChannel_other (s := s) hk (some y))
    · split
      · next h =>
        rw [hgens g hg (by rw [hbiased, Clause.online, List.mem_filter, List.mem_range]; simp [hg, h]), hsamebias]
      · next h =>
        refine hothers g fun hm => h ?_
        rw [hbiased, Clause.online, List.mem_filter] at hm
        simpa using hm.2


end Sys2Proof.Machine
end

section
/-! # The load is shared and shed (O42) -/

namespace Sys2Proof.Machine

section
variable {s u v : State} {g j : Nat}

/-! ### A run of changes to the records of generators -/

/-- `v` is `s` but for the records of generators, and generator `g` stands as it stood. -/
structure GensOnly (s v : State) : Prop where
  eq : v = { s with par := { s.par with gens := v.par.gens } }
  count : v.par.gens.length = 8

theorem State.forEach_modGen {F : Nat → State → State} {k : Nat → GenRec → GenRec} (hlen : s.par.gens.length = 8)
    (hF : ∀ g v, GensOnly s v → v.gen g = s.gen g → F g v = v.modGen g (k g)) (ns : List Nat) (hns : ∀ j ∈ ns, j < 8)
    (hnodup : ns.Nodup) :
    GensOnly s (s.forEach ns F) ∧ ∀ j, (s.forEach ns F).gen j = if j ∈ ns then k j (s.gen j) else s.gen j := by
  induction ns using List.reverseRecOn with
  | nil => exact ⟨⟨rfl, hlen⟩, fun j => (if_neg List.not_mem_nil).symm⟩
  | append_singleton ns g ih =>
    obtain ⟨hnodup', -, hfresh⟩ := List.nodup_append.1 hnodup
    obtain ⟨hsame, hgens⟩ := ih (fun j hj => hns j (List.mem_append_left _ hj)) hnodup'
    have hg : g < 8 := hns g (List.mem_append_right _ (List.mem_singleton_self g))
    have hno : g ∉ ns := fun h => hfresh g h g (List.mem_singleton_self g) rfl
    have hstep : s.forEach (ns ++ [g]) F = F g (s.forEach ns F) := by
      rw [State.forEach, List.foldl_append]
      rfl
    rw [hstep]
    generalize s.forEach ns F = v at *
    have hown : v.gen g = s.gen g := (hgens g).trans (if_neg hno)
    rw [hF g v hsame hown]
    refine ⟨⟨?_, (List.length_modify ..).trans hsame.count⟩, fun j => ?_⟩
    · have heq := hsame.eq
      generalize v.par.gens = gs at heq
      rw [heq]
      rfl
    · by_cases hj : j = g
      · subst hj
        rw [State.gen_modGen_same _ _ (hsame.count.symm ▸ hg), if_pos (List.mem_append_right _ (List.mem_singleton_self j)), hown]
      · rw [State.gen_modGen_other _ _ (Ne.symm hj), hgens]
        exact if_congr (by simp [hj]) rfl rfl

/-! ### The load is shared (R165) -/

/-- The state in which a load-sharing interval begins anew. -/
def State.shareBegun (s : State) : State := s.modPar (fun p => { p with shareTimer := 0 })

/-- What a load-sharing interval makes of an ONLINE generator that takes a share of the load. -/
def GenRec.sharing (r : GenRec) (share ramped : Nat) : GenRec :=
  { r with
    target := if !r.common.loadControl then 0 else if r.common.softLoad && r.soft then min share ramped else share
    baseLoaded := !r.common.loadControl
    soft := r.soft && decide (ramped < share) }

theorem GenRec.sharing_eq (r : GenRec) (share ramped : Nat) : r.sharing share ramped =
    { r with
      target := if r.common.loadControl = false then 0
        else if r.common.softLoad = true ∧ r.soft = true then min share ramped else share
      baseLoaded := !r.common.loadControl
      soft := r.soft && decide (ramped < share) } := by
  simp [GenRec.sharing]

theorem State.shareLoad_eq (hv : GensOnly s v) (hg : v.gen g = s.gen g) (load : Int) (ratings : Nat) :
    v.shareLoad load ratings g = v.modGen g (fun r => r.sharing (s.share g load ratings)
      ((s.gen g).params.ramp * s.wholeSeconds (s.gen g).onlineTimer)) := by
  have hshare : v.share g load ratings = s.share g load ratings := by rw [State.share, State.share, hg]
  have hseconds : ∀ n, v.wholeSeconds n = s.wholeSeconds n := fun n => by rw [hv.eq]; rfl
  rw [State.shareLoad]
  rw [hg, hshare, hseconds]
  rfl

theorem State.forEach_rests {F : Nat → State → State} : ∀ (ns : List Nat), (∀ j ∈ ns, F j s = s) → s.forEach ns F = s
  | [], _ => rfl
  | n :: ns, h => by
    have htail : s.forEach (n :: ns) F = (F n s).forEach ns F := rfl
    rw [htail, h n List.mem_cons_self]
    exact State.forEach_rests ns fun j hj => h j (List.mem_cons_of_mem _ hj)

/-- A loop over the eight generators that does something at `g` alone. -/
theorem State.forEach_one {F : Nat → State → State} (hg : g < 8) (hbefore : ∀ j < 8, j ≠ g → F j s = s)
    (hafter : ∀ j < 8, j ≠ g → F j (F g s) = F g s) : s.forEach (List.range 8) F = F g s := by
  obtain ⟨as, bs, hsplit⟩ := List.append_of_mem (List.mem_range.2 hg)
  have hnodup : (as ++ g :: bs).Nodup := hsplit ▸ List.nodup_range
  obtain ⟨-, hright, hfresh⟩ := List.nodup_append.1 hnodup
  have hloop : s.forEach (as ++ g :: bs) F = (F g (s.forEach as F)).forEach bs F := by
    rw [State.forEach, List.foldl_append]
    rfl
  have hlt : ∀ j ∈ as ++ g :: bs, j < 8 := fun j hj => List.mem_range.1 (hsplit ▸ hj)
  rw [hsplit, hloop, State.forEach_rests as fun j hj =>
    hbefore j (hlt j (List.mem_append_left _ hj)) (hfresh j hj g List.mem_cons_self)]
  exact State.forEach_rests bs fun j hj =>
    hafter j (hlt j (List.mem_append_right _ (List.mem_cons_of_mem _ hj))) fun h => (List.nodup_cons.1 hright).1 (h ▸ hj)

/-- A command of the unit that leaves everything but its own records and the queues. -/
theorem Only.of_records {t : State} (h : Only [.links, .events, .breakers, .seq, .par] s t) (he : t.events = s.events)
    (hb : t.breakers = s.breakers) (hq : t.seq = s.seq) : Only [.links, .par] s t := by
  refine h.narrow _ fun p hp hno => ?_
  cases p
  case events => exact he
  case breakers => exact hb
  case seq => exact hq
  all_goals simp at hp hno

theorem State.shedLoad_rests (h : (s.gen g).state ≠ .unloading) : s.shedLoad g = s := by
  rw [State.shedLoad]
  exact if_pos (by simp [h])

/-- The ONLINE generators, which share the load. -/
def State.sharers (s : State) : List Nat := (List.range 8).filter (fun g => (s.gen g).state == .online)

def State.sharedLoad (s : State) : Int := (s.sharers.map (fun g => (s.gen g).status.kw)).sum

def State.sharedRatings (s : State) : Nat := (s.sharers.map (fun g => (s.gen g).params.rating)).sum

/-- The state in which the load is shared. -/
def State.loadShared (s : State) : State :=
  if s.sharedRatings == 0 then s.shareBegun
  else s.shareBegun.forEach s.sharers (fun g v => v.shareLoad s.sharedLoad s.sharedRatings g)

theorem exec_sharing_early (hs : s.Quiet) (ht : s.par.shareTimer < s.fld .sync 8 11) : exec .loadSharing s = .next s := by
  have hidle : s.loadShare = s := by
    rw [State.loadShare]
    exact if_pos ht
  exact (congrArg (finish s) hidle).trans (finish_idle hs)

theorem exec_sharing_due (ht : s.fld .sync 8 11 ≤ s.par.shareTimer) :
    exec .loadSharing s = finish s (s.loadShared.forEach (List.range 8) (fun g v => v.shedLoad g)) := by
  have hdue : s.loadShare = s.loadShared.forEach (List.range 8) (fun g v => v.shedLoad g) := by
    rw [State.loadShare]
    exact if_neg (Nat.not_lt.2 ht)
  exact congrArg (finish s) hdue

end

/-- Settles the first part of O42. -/
theorem onlineGeneratorsShare : Clause.OnlineGeneratorsShare := by
  intro s hs hno online load ratings share ramped
  refine ⟨exec_sharing_early hs, fun ht hratings => ?_⟩
  obtain ⟨honly, hgens⟩ := State.forEach_modGen (s := s.shareBegun)
    (F := fun g v => v.shareLoad s.sharedLoad s.sharedRatings g) hs.gens_length (fun g v hv hg => State.shareLoad_eq hv hg _ _)
    s.sharers (fun j hj => List.mem_range.1 (List.mem_of_mem_filter hj)) (List.nodup_range.filter _)
  have hshared : s.loadShared = s.shareBegun.forEach s.sharers (fun g v => v.shareLoad s.sharedLoad s.sharedRatings g) := by
    have hsome : s.sharedRatings ≠ 0 := hratings
    rw [State.loadShared, if_neg (by simpa using hsome)]
  rw [← hshared] at honly hgens
  have hmem : ∀ j < 8, j ∈ s.sharers ↔ (s.gen j).state = .online := fun j hj => by simp [State.sharers, hj]
  have hexec := exec_sharing_due ht
  generalize s.loadShared = v at *
  have hsheds : v.forEach (List.range 8) (fun g v => v.shedLoad g) = v := by
    refine State.forEach_rests _ fun j hj => State.shedLoad_rests ?_
    have hstate : (v.gen j).state = (s.gen j).state := by
      rw [hgens]
      split <;> rfl
    exact hstate ▸ hno j (List.mem_range.1 hj)
  rw [hsheds] at hexec
  have heq := honly.eq
  obtain ⟨t, hend, hown, -, hstands, hpar, hbreakers, hseq, -, -, hevents⟩ := finish_gensets (s := s) (u := v)
    (by rw [heq]; exact hs.1) (by rw [heq]; exact hs.2.2.1) honly.count
  have hexec' := hexec.trans hend
  refine ⟨t, hexec', fun g hg honline => ?_, fun g hg hoff => ?_, ?_, (hs.only _ hexec').of_records ?_ ?_ ?_⟩
  · rw [hown g hg, hgens, if_pos ((hmem g hg).2 honline)]
    have hshare : s.shareBegun.share g s.sharedLoad s.sharedRatings = share g :=
      congrArg (max (s.gen g).params.minLoad) (min_comm ..)
    rw [hshare, GenRec.sharing_eq]
    rfl
  · have hsame : v.gen g = s.gen g := (hgens g).trans (if_neg fun h => hoff ((hmem g hg).1 h))
    rw [hstands g fun h => h.2 (State.setpointOf_same (by rw [heq]; rfl) (by rw [hsame]) (by rw [hsame])), hsame]
  · rw [hpar, heq]; rfl
  · rw [hevents, heq]; rfl
  · rw [hbreakers, heq]; rfl
  · rw [hseq, heq]; rfl

/-! ### The load is shed (R166) -/

section
variable {s u v : State} {g : Nat}

/-- The end of a command that moves generator `g` alone, with all that it leaves. -/
theorem finish_tended (h : Tends s u g) (hg : g < 8) : ∃ t, finish s u = .next t ∧
    t.gen g = { u.gen g with refreshTimer := (t.gen g).refreshTimer } ∧ (∀ j, j ≠ g → t.gen j = s.gen j) ∧
      t.par = { u.par with gens := t.par.gens } ∧ t.breakers = u.breakers ∧ t.seq = u.seq ∧ t.mgmt = u.mgmt ∧
      t.newest = u.newest ∧ t.events = u.events := by
  obtain ⟨t, hend, hown, -, hstands, hpar, hbreakers, hseq, hmgmt, hnewest, hevents⟩ :=
    finish_gensets (s := s) h.work h.hushed h.count
  exact ⟨t, hend, hown g hg, fun j hj => (hstands j fun hc => hc.2 (h.setpointOf hj)).trans (h.others j hj), hpar, hbreakers,
    hseq, hmgmt, hnewest, hevents⟩

/-- The target to which an UNLOADING generator lowers its load. -/
def State.shedTarget (s : State) (g : Nat) : Nat :=
  max (s.gen g).params.minLoad ((s.gen g).unloadFrom - (s.gen g).params.ramp * ((s.gen g).unloadTimer / s.perSecond))

/-- The state in which it has done so. -/
def State.shed (s : State) (g : Nat) : State := s.modGen g (fun r => { r with target := s.shedTarget g })

/-- The state in which the OPEN of its unload is asked for. -/
def State.unloadMarked (s : State) (g : Nat) : State := s.modGen g (fun r => { r with unloadAsked := true })

theorem State.shedLoad_fixed (h : ¬ ((s.gen g).common.loadControl = true ∧ (s.gen g).common.softLoad = true)) :
    s.shedLoad g = s := by
  rw [State.shedLoad]
  exact if_pos (by simpa [Abilities.ramped, -not_and] using .inr (by
    simpa [not_and_or, -not_and] using h))

theorem State.shedLoad_ramps (hu : (s.gen g).state = .unloading) (hl : (s.gen g).common.loadControl = true)
    (hr : (s.gen g).common.softLoad = true) : s.shedLoad g =
      if s.shedTarget g = (s.gen g).params.minLoad ∧ (s.gen g).unloadAsked = false then (s.shed g).unloadOpen g
      else s.shed g := by
  rw [State.shedLoad]
  dsimp only
  rw [if_neg (by simp [hu, Abilities.ramped, hl, hr])]
  refine if_congr ?_ rfl rfl
  rw [Bool.and_eq_true, beq_iff_eq, Bool.not_eq_true']
  rfl

theorem Tends.shed (h : Tends s u g) : Tends s (u.shed g) g := h.modGen _

theorem State.shed_gen (hg : g < s.par.gens.length) : (s.shed g).gen g = { s.gen g with target := s.shedTarget g } :=
  State.gen_modGen_same _ _ hg

/-- Where the breaker takes its OPEN. -/
theorem State.unloadOpen_issued (hb : s.genBreaker g < s.breakers.recs.length) (hc : s.brkConfigured (s.genBreaker g) = true)
    (hi : s.isolated (s.genBreaker g) = false) (hslot : (s.brk (s.genBreaker g)).slot = none)
    (hp : (s.brk (s.genBreaker g)).position ≠ .opened) : s.unloadOpen g = (s.unloadMarked g).placed (s.genBreaker g)
      { action := .opening, origins := { paralleling := true }, generator := some g } := by
  have hopen : (s.unloadMarked g).genOpen g = ((s.unloadMarked g).placed (s.genBreaker g)
      { action := .opening, origins := { paralleling := true }, generator := some g },
      .taken (s.brk (s.genBreaker g)).tagCounter) :=
    State.openRequest_issued (s := s.unloadMarked g) hb hc hi hslot hp rfl (some g)
  rw [State.unloadOpen]
  exact congrArg (fun r : State × Answer => match r.2 with
    | .done => r.1.genEnter g .stopping
    | .taken _ => r.1
    | .merged _ => r.1
    | _ => r.1.genEnter g .fault) hopen

/-- Where the breaker is OPEN already. -/
theorem State.unloadOpen_open (hc : s.brkConfigured (s.genBreaker g) = true) (hslot : (s.brk (s.genBreaker g)).slot = none)
    (hp : (s.brk (s.genBreaker g)).position = .opened) : s.unloadOpen g = (s.unloadMarked g).genEnter g .stopping := by
  have hopen : (s.unloadMarked g).genOpen g = (s.unloadMarked g, .done) :=
    State.openRequest_open (s := s.unloadMarked g) hc hslot hp _ (some g)
  rw [State.unloadOpen]
  exact congrArg (fun r : State × Answer => match r.2 with
    | .done => r.1.genEnter g .stopping
    | .taken _ => r.1
    | .merged _ => r.1
    | _ => r.1.genEnter g .fault) hopen

@[simp] theorem State.post_gen (w : Work) : (s.post w).gen g = s.gen g := rfl

@[simp] theorem State.placed_hushed (b : Nat) (c : Command) : (s.placed b c).hushed = s.hushed := rfl
@[simp] theorem State.placed_seq {b : Nat} (c : Command) : (s.placed b c).seq = s.seq := rfl
theorem State.placed_gen (b : Nat) (c : Command) : (s.placed b c).gen g = s.gen g := rfl

theorem Tends.placed {b : Nat} {c : Command} (h : Tends s u g) : Tends s (u.placed b c) g :=
  h.still (State.placed_work c) (State.placed_hushed b c) (by rw [State.placed_mgmt]) (by rw [State.placed_par])

/-- A generator that stops with its breaker OPEN. -/
theorem State.genEnter_stops (hg : g < s.par.gens.length) (hne : (s.gen g).state ≠ .stopping)
    (ha : (s.gen g).state.attempting = false) (hd : (s.gen g).deferred = false) (hp : s.genPosition g = .opened) :
    s.genEnter g .stopping = if (s.gen g).state.loaded then (s.genEntered g .stopping).post .gensReport
      else s.genEntered g .stopping := by
  have hposition : (s.genEntered g .stopping).genPosition g = .opened := by
    simpa [State.genPosition, State.genBreaker, State.brk] using hp
  have hmove : s.genMove g .stopping = if (s.gen g).state.loaded then (s.genEntered g .stopping).post .gensReport
      else s.genEntered g .stopping := by
    rw [State.genMove_eq hne (by rw [ha]; rfl), State.opensFor_open hposition]
    exact if_congr (by simp [GenState.loaded]) rfl rfl
  have hgen : (s.genEntered g .stopping).gen g = (s.gen g).enter .stopping := State.genEntered_gen_same hg
  rw [State.genEnter_eq, hmove]
  rw [hmove]
  split
  · rw [State.post_gen, hgen]
    exact hd
  · rw [hgen]
    exact hd

end

/-- Settles the second part of O42. -/
theorem unloadingGeneratorSheds : Clause.UnloadingGeneratorSheds := by
  intro s g hs hg ht hno hstate hdeferred hrun r b target ramps asks moves
  have hnone : s.loadShared = s.shareBegun := by
    have hsharers : s.sharers = [] := List.filter_eq_nil_iff.2 fun j hj => by
      by_cases hjg : j = g
      · simp [hjg, hstate]
      · have := hno j (List.mem_range.1 hj) hjg
        simp only [List.mem_cons, List.not_mem_nil, or_false, not_or] at this
        simp [this.1]
    rw [State.loadShared, if_pos (by simp [State.sharedRatings, hsharers])]
  have hbegun : Tends s s.shareBegun g := (hs.tends g).still rfl rfl rfl rfl
  have hlen : g < s.shareBegun.par.gens.length := hs.gens_length.symm ▸ hg
  have hothers : ∀ v : State, (∀ j, j ≠ g → v.gen j = s.gen j) → ∀ j < 8, j ≠ g → v.shedLoad j = v := fun v hv j hj hjg =>
    State.shedLoad_rests fun h => hno j hj hjg (by rw [← hv j hjg, h]; decide)
  have hloop : (∀ j, j ≠ g → (s.shareBegun.shedLoad g).gen j = s.gen j) →
      exec .loadSharing s = finish s (s.shareBegun.shedLoad g) := fun hv => by
    rw [exec_sharing_due ht, hnone, State.forEach_one (s := s.shareBegun) (F := fun g v => v.shedLoad g) hg
      (hothers _ fun _ _ => rfl) (hothers (s.shareBegun.shedLoad g) hv)]
  have hsettles : ∀ (y : GenRec) (f : BreakerRec → BreakerRec) (n : Nat) (u v : State), n ≤ 1 → s.shareBegun.shedLoad g = u →
      (∀ j, j ≠ g → u.gen j = s.gen j) → Drains n u v → Tends s v g → v.gen g = y → v.brk b = f (s.brk b) →
      (∀ a, a ≠ b → v.brk a = s.brk a) → v.par.shareTimer = 0 → v.seq = s.seq → moves y f :=
    fun y f n u v hn hu hgens hdrains htends hgen hown hother htimer hseq => by
      obtain ⟨t, hend, htgen, htothers, hpar, hbreakers, htseq, -⟩ := finish_tended htends hg
      have hexec : exec .loadSharing s = .next t := (hloop (hu ▸ hgens)).trans ((congrArg (finish s) hu).trans
        ((congrArg Host.Outcome.next (hdrains.settle (hn.trans (by decide)))).trans hend))
      refine ⟨t, hexec, hgen ▸ htgen, htothers, ?_, fun a ha => ?_, by rw [hpar]; exact htimer,
        (hs.only _ hexec).of_seq (htseq.trans hseq)⟩
      · rw [State.brk, hbreakers]; exact hown
      · rw [State.brk, hbreakers]; exact hother a ha
  have hstays : ∀ (y : GenRec) (f : BreakerRec → BreakerRec) (u : State), s.shareBegun.shedLoad g = u → Tends s u g →
      u.gen g = y → u.brk b = f (s.brk b) → (∀ a, a ≠ b → u.brk a = s.brk a) → u.par.shareTimer = 0 → u.seq = s.seq →
      moves y f := fun y f u hu htends =>
    hsettles y f 0 u u (by decide) hu htends.others (.done htends.work) htends
  refine ⟨fun hfixed => ?_, fun hramps hasks => ?_, fun hramps hasks hb hconf hiso hslot hpos => ?_,
    fun hramps hasks hb hconf hslot hpos => ?_⟩
  · exact hstays r id s.shareBegun (State.shedLoad_fixed hfixed) hbegun rfl rfl (fun _ _ => rfl) rfl rfl
  all_goals
    have hsheds := State.shedLoad_ramps (s := s.shareBegun) (g := g) hstate hramps.1 hramps.2
    have hshed : Tends s (s.shareBegun.shed g) g := hbegun.shed
    have hgen : (s.shareBegun.shed g).gen g = { s.gen g with target := target } := State.shed_gen hlen
  · exact hstays _ id (s.shareBegun.shed g) (hsheds.trans (if_neg hasks)) hshed hgen rfl (fun _ _ => rfl) rfl rfl
  all_goals
    have hasks' := hsheds.trans (if_pos hasks)
    have hconf' : s.brkConfigured b = true := by simpa [State.brkConfigured] using hconf
    have hmarked : Tends s ((s.shareBegun.shed g).unloadMarked g) g := hshed.modGen _
    have hmark : ((s.shareBegun.shed g).unloadMarked g).gen g = { s.gen g with target := target, unloadAsked := true } := by
      refine (State.gen_modGen_same _ _ (hshed.count.symm ▸ hg)).trans ?_
      rw [hgen]
    have hkept : ∀ a, ((s.shareBegun.shed g).unloadMarked g).brk a = s.brk a := fun _ => rfl
    have htimer : ((s.shareBegun.shed g).unloadMarked g).par.shareTimer = 0 := rfl
    have hseq : ((s.shareBegun.shed g).unloadMarked g).seq = s.seq := rfl
  · have hlt : b < ((s.shareBegun.shed g).unloadMarked g).breakers.recs.length := hs.lt_recs hb
    have hopen := hasks'.trans (State.unloadOpen_issued (s := s.shareBegun.shed g) (g := g) hlt hconf'
      (State.isolated_eq_false hiso) hslot hpos)
    generalize (s.shareBegun.shed g).unloadMarked g = u at hopen hmarked hmark hkept htimer hseq hlt
    refine hstays { r with target := target, unloadAsked := true }
      (fun x => Clause.issued x { action := .opening, origins := { paralleling := true }, generator := some g }) _ hopen hmarked.placed
      ((State.placed_gen ..).trans hmark) ?_ (fun a ha => ?_) (by rw [State.placed_par]; exact htimer) ((State.placed_seq _).trans hseq)
    · exact (State.placed_brk_same hlt _).trans (by rw [hkept]; rfl)
    · exact (State.placed_brk_other (s := u) ha _).trans (hkept a)
  · have hopen := hasks'.trans (State.unloadOpen_open (s := s.shareBegun.shed g) (g := g) hconf' hslot hpos)
    have hposition : ((s.shareBegun.shed g).unloadMarked g).genPosition g = .opened := hpos
    generalize (s.shareBegun.shed g).unloadMarked g = u at hopen hmarked hmark hkept htimer hseq hposition
    have hunloading : (u.gen g).state = .unloading := by rw [hmark]; exact hstate
    have hstops := (State.genEnter_stops (s := u) (hmarked.count.symm ▸ hg) (by rw [hunloading]; decide)
      (by rw [hunloading]; rfl) (by rw [hmark]; exact hdeferred) hposition).trans (if_pos (by rw [hunloading]; rfl))
    have hentered : Tends s (u.genEntered g .stopping) g := hmarked.genEntered
    have hdrains : Drains 1 (u.genEnter g .stopping) (u.genEntered g .stopping) :=
      .of_eq hstops (.gensReport hentered.work (by rw [State.run?, State.genEntered_seq, hseq]; exact hrun))
    refine hsettles { r with target := target, unloadAsked := true, state := .stopping } id 1 _ _ (le_refl 1) hopen (fun j hj => ?_) hdrains hentered
      ((hmarked.gen_genEntered hg).trans (by rw [hmark]; rfl)) (by rw [State.brk, State.genEntered_breakers]; exact hkept b)
      (fun a _ => by rw [State.brk, State.genEntered_breakers]; exact hkept a) ?_ (State.genEntered_seq.trans hseq)
    · rw [hstops, State.post_gen]
      exact hentered.others j hj
    · rw [State.genEntered, State.event_par]
      exact htimer

/-- Settles O42. -/
theorem loadIsShared : Obligations.LoadIsShared := ⟨onlineGeneratorsShare, unloadingGeneratorSheds⟩


end Sys2Proof.Machine
end

section
/-! # The evaluation of demand (O38) -/

namespace Sys2Proof.Machine

section
variable {s u v : State} {g j n : Nat}

/-! ### Counts of generators (R155) -/

theorem List.countP_split {p q : Nat → Bool} {ns : List Nat} (hg : g ∈ ns) (hnodup : ns.Nodup)
    (hsame : ∀ j ∈ ns, j ≠ g → p j = q j) : ns.countP p + (q g).toNat = ns.countP q + (p g).toNat := by
  induction ns with
  | nil => cases hg
  | cons k ns ih =>
    obtain ⟨hfresh, hrest⟩ := List.nodup_cons.1 hnodup
    rw [List.countP_cons, List.countP_cons]
    by_cases hk : k = g
    · subst hk
      have htail : ns.countP p = ns.countP q :=
        List.countP_congr fun j hj => by rw [hsame j (List.mem_cons_of_mem _ hj) fun h => hfresh (h ▸ hj)]
      rw [htail]
      cases p k <;> cases q k <;> simp
    · have hmem : g ∈ ns := (List.mem_cons.1 hg).resolve_left fun h => hk h.symm
      have htail := ih hmem hrest fun j hj => hsame j (List.mem_cons_of_mem _ hj)
      rw [hsame k List.mem_cons_self hk]
      omega

theorem State.countGens_moved (hg : g < 8) (hothers : ∀ j, j ≠ g → u.gen j = s.gen j) (t : GenState → Bool) :
    u.countGens t + (t (s.gen g).state).toNat = s.countGens t + (t (u.gen g).state).toNat := by
  rw [State.countGens, State.countGens, ← List.countP_eq_length_filter, ← List.countP_eq_length_filter]
  exact List.countP_split (p := fun j => t (u.gen j).state) (q := fun j => t (s.gen j).state) (List.mem_range.2 hg)
    List.nodup_range fun j _ hj => by rw [hothers j hj]

/-! ### The loops of the evaluation (R155) -/

theorem State.startLoop_rests (h : s.par.demand ≤ s.onlineCount + s.pendingCount) : State.startLoop n s = s := by
  cases n with
  | zero => rfl
  | succ n => rw [State.startLoop, if_neg (Nat.not_lt.2 h)]

theorem State.unloadLoop_rests (h : s.onlineCount ≤ s.par.demand) : State.unloadLoop n s = s := by
  cases n with
  | zero => rfl
  | succ n => rw [State.unloadLoop, if_neg (Nat.not_lt.2 h)]

theorem State.surplusLoop_rests (h : s.onlineCount + s.pendingCount ≤ s.par.demand) : State.surplusLoop n s = s := by
  cases n with
  | zero => rfl
  | succ n => rw [State.surplusLoop, if_neg (Nat.not_lt.2 h)]

theorem State.startLoop_starts (h : s.onlineCount + s.pendingCount < s.par.demand) (hg : s.startGen? = some g) :
    State.startLoop (n + 1) s = State.startLoop n (s.genEnter g .starting) := by
  rw [State.startLoop, if_pos h, hg]

theorem State.unloadLoop_unloads (h : s.par.demand < s.onlineCount) (hg : s.lastGen (· == .online) = some g) :
    State.unloadLoop (n + 1) s = State.unloadLoop n (s.enterUnloading g) := by
  rw [State.unloadLoop, if_pos h, hg]

theorem State.surplusLoop_stops (h : s.par.demand < s.onlineCount + s.pendingCount) (hg : s.lastGen GenState.surplus = some g) :
    State.surplusLoop (n + 1) s = State.surplusLoop n (s.genEnter g .stopping) := by
  rw [State.surplusLoop, if_pos h, hg]

/-- The last of the start order is taken where there is one. -/
theorem State.lastGen_listed {t : GenState → Bool} (h : (s.startOrder.filter (fun j => t (s.gen j).state)).getLast? = some g) :
    s.lastGen t = some g := by
  rw [State.lastGen, h]

theorem State.mem_startOrder : g ∈ s.startOrder → g < 8 ∧ s.genConfigured g = true := fun h => by
  obtain ⟨k, -, hk⟩ := List.mem_flatMap.1 h
  obtain ⟨hlt, hc⟩ := List.mem_filter.1 hk
  exact ⟨List.mem_range.1 hlt, (Bool.and_eq_true_iff.1 hc).1⟩

/-- The state in which an evaluation is no longer due. -/
def State.evaluated (s : State) : State := s.modPar (fun p => { p with demandDue := false })

theorem exec_demand_due (h : s.par.demandDue = true) : exec .demandEvaluation s =
    finish s (State.surplusLoop 8 (State.unloadLoop 8 (State.startLoop 8 s.evaluated))) := by
  have hdue : s.evaluateDemand = State.surplusLoop 8 (State.unloadLoop 8 (State.startLoop 8 s.evaluated)) := by
    rw [State.evaluateDemand]
    exact if_pos h
  exact congrArg (finish s) hdue

/-! ### A generator that takes another run demand (R153) -/

theorem Sending.evaluated (s : State) : Sending s s.evaluated := ⟨rfl, rfl, rfl, rfl, fun _ => rfl, fun _ => rfl⟩

theorem Tends.evaluated (hs : s.Quiet) (g : Nat) : Tends s s.evaluated g := (hs.tends g).still rfl rfl rfl rfl

/-- The end of a command that moves one generator to another setpoint. -/
theorem finish_moved_setpoint (h : Tends s u g) (hsend : Sending s u) (hg : g < 8) {p : Setpoint}
    (hp : u.setpointOf g = some p) (hchanged : u.setpointOf g ≠ s.setpointOf g) : ∃ t, finish s u = .next t ∧
      t.gen g = { u.gen g with refreshTimer := 0 } ∧ Clause.GensetJoins s t g ∧ (∀ j, j ≠ g → t.gen j = s.gen j) ∧
      t.newest = u.newest ∧ t.par = { u.par with gens := t.par.gens } ∧ t.breakers = u.breakers ∧ t.seq = u.seq := by
  obtain ⟨es, b, hend⟩ := h.finish_sent hg hp hchanged
  have hlen : g < u.par.gens.length := h.count.symm ▸ hg
  refine ⟨_, hend, State.gensetBuilt_gen_same hlen p, fun p' hp' l hl => ?_, (h.gensetBuilt p).others, rfl, rfl, rfl, rfl⟩
  have hsame : p' = p := by
    have hset := State.gensetBuilt_setpointOf (g := g) hlen p g
    exact Option.some.inj (hp'.symm.trans (hset.trans hp))
  have hsends := State.gensetBuilt_sends (g := g) p ((hsend.up l).trans hl)
  rw [hsend.own, hsend.fld, hsend.gensetSeq] at hsends
  rw [hsame]
  exact hsends

/-- The end of an evaluation of demand that has taken one generator from START to STOP or back. -/
theorem exec_demand_moves {new : GenState} (hs : s.Quiet) (hlisted : g ∈ s.startOrder) (hpresent : (s.gen g).state ≠ .absent)
    (hnew : new ≠ .absent) (hchanged : new.startDemand ≠ (s.gen g).state.startDemand)
    (hloop : exec .demandEvaluation s = finish s (s.evaluated.genEntered g new)) : ∃ t, exec .demandEvaluation s = .next t ∧
      t.gen g = { (s.gen g).enter new with refreshTimer := 0 } ∧ Clause.GensetJoins s t g ∧ (∀ j, j ≠ g → t.gen j = s.gen j) ∧
      t.par.waitList = s.par.waitList.filter (fun j => j != g) ∧
      Records s t .generator (genPriority (s.gen g).state new) g 1 (some new.code) ∧ Only [.links, .events, .par] s t := by
  obtain ⟨hg, hconf⟩ := State.mem_startOrder hlisted
  have htends := (Tends.evaluated hs g).genEntered (new := new)
  have hsend := (Sending.evaluated s).genEntered (g := g) (new := new)
  have hgen : (s.evaluated.genEntered g new).gen g = (s.gen g).enter new :=
    (State.genEntered_gen_same (s := s.evaluated) (hs.gens_length.symm ▸ hg)).trans rfl
  have hnewest := State.genEntered_newest (s := s.evaluated) (g := g) (new := new)
  have hwait : (s.evaluated.genEntered g new).par.waitList = s.par.waitList.filter (fun j => j != g) := by
    rw [State.genEntered, State.event_par]
    rfl
  have hbreakers : (s.evaluated.genEntered g new).breakers = s.breakers := State.genEntered_breakers
  have hseq : (s.evaluated.genEntered g new).seq = s.seq := State.genEntered_seq
  generalize s.evaluated.genEntered g new = u at *
  have hset : u.setpointOf g = some (u.gen g).setpoint := State.setpointOf_present
    (by rw [State.genConfigured, State.fld, htends.tables]; exact hconf) (by rw [hgen, GenRec.enter_state]; exact hnew)
  obtain ⟨t, hend, hown, hjoins, hothers, htnewest, hpar, htbreakers, htseq⟩ :=
    finish_moved_setpoint htends hsend hg hset fun h => by
      rw [hset, State.setpointOf_present hconf hpresent, hgen] at h
      have hstart := congrArg Setpoint.start (Option.some.inj h)
      simp only [GenRec.setpoint, GenRec.enter_state] at hstart
      exact hchanged hstart
  have hexec := hloop.trans hend
  refine ⟨t, hexec, hgen ▸ hown, hjoins, hothers, by rw [hpar]; exact hwait, ?_,
    (hs.only _ hexec).of_unit (htbreakers.trans hbreakers) (htseq.trans hseq)⟩
  rw [Records, htnewest, hnewest, ← hs.eventLabel]
  rfl

/-- The counts after a generator has taken a state. -/
theorem State.genEntered_counts {new : GenState} (hs : s.Quiet) (hg : g < 8) (t : GenState → Bool) :
    (s.evaluated.genEntered g new).countGens t + (t (s.gen g).state).toNat = s.countGens t + (t new).toNat := by
  have hgen : (s.evaluated.genEntered g new).gen g = (s.gen g).enter new :=
    (State.genEntered_gen_same (s := s.evaluated) (hs.gens_length.symm ▸ hg)).trans rfl
  have hcount := State.countGens_moved hg ((Tends.evaluated hs g).genEntered (new := new)).others t
  rwa [hgen, GenRec.enter_state] at hcount

theorem State.genEntered_demand {new : GenState} : (s.evaluated.genEntered g new).par.demand = s.par.demand := by
  rw [State.genEntered, State.event_par]
  rfl

end

/-- Settles the first part of O38. -/
theorem shortfallStartsAGenerator : Clause.ShortfallStartsAGenerator := by
  intro s hs
  refine ⟨fun h => ?_, fun h hmet => ?_, fun g h hshort hlatch hdeferred hfirst => ?_⟩
  · have hidle : s.evaluateDemand = s := by
      rw [State.evaluateDemand]
      exact if_neg (by simp [h])
    exact (congrArg (finish s) hidle).trans (finish_idle hs)
  · have hrests : State.surplusLoop 8 (State.unloadLoop 8 (State.startLoop 8 s.evaluated)) = s.evaluated := by
      rw [State.startLoop_rests (s := s.evaluated) (le_of_eq hmet.symm),
        State.unloadLoop_rests (s := s.evaluated) ((Nat.le_add_right _ _).trans (le_of_eq hmet)),
        State.surplusLoop_rests (s := s.evaluated) (le_of_eq hmet)]
    rw [exec_demand_due h, hrests]
    exact finish_exact s hs.1 hs.risen hs.closing hs.2.2.1 (State.setpointOf_congr rfl rfl) (fun _ => rfl) hs.2.2.2.2.1
  · have hlisted := List.mem_of_find?_eq_some hfirst
    have hg := (State.mem_startOrder hlisted).1
    have hfound := List.find?_some hfirst
    have hstate : (s.gen g).state = .standby := by
      rw [Bool.and_eq_true, beq_iff_eq] at hfound
      exact hfound.1
    have hstarts : s.startGen? = some g := by
      rw [State.startGen?, hlatch]
      simpa using hfirst
    have hlen : g < s.evaluated.par.gens.length := hs.gens_length.symm ▸ hg
    have henters : s.evaluated.genEnter g .starting = s.evaluated.genEntered g .starting := by
      have hstate' : (s.evaluated.gen g).state = .standby := hstate
      exact State.genEnter_plain hlen (by rw [hstate']; decide) (by rw [hstate']; rfl) (by rw [hstate']; rfl) hdeferred
        (by decide) (by decide)
    have hloop : exec .demandEvaluation s = finish s (s.evaluated.genEntered g .starting) := by
      rw [exec_demand_due h, State.startLoop_starts (s := s.evaluated) (Nat.lt_of_succ_le (le_of_eq hshort)) hstarts, henters]
      have honline := State.genEntered_counts (new := .starting) hs hg (· == .online)
      have hpending := State.genEntered_counts (new := .starting) hs hg GenState.pending
      have hdemand := State.genEntered_demand (s := s) (g := g) (new := .starting)
      generalize s.evaluated.genEntered g .starting = u at *
      rw [hstate] at honline hpending
      have hmet : u.onlineCount + u.pendingCount = u.par.demand := by
        have hcount : u.onlineCount = s.onlineCount := honline
        have hmore : u.pendingCount = s.pendingCount + 1 := hpending
        omega
      rw [State.startLoop_rests (le_of_eq hmet.symm), State.unloadLoop_rests ((Nat.le_add_right _ _).trans (le_of_eq hmet)),
        State.surplusLoop_rests (le_of_eq hmet)]
    obtain ⟨t, hexec, hown, hjoins, hothers, -, hrecords, honly⟩ :=
      exec_demand_moves hs hlisted (by rw [hstate]; decide) (by decide) (by rw [hstate]; decide) hloop
    rw [hstate] at hrecords
    exact ⟨t, hexec, hown, hjoins, hothers, hrecords, honly⟩

/-- Settles the third part of O38. -/
theorem surplusIsStopped : Clause.SurplusIsStopped := by
  intro s g hs h honline hsurplus hlast hstate hdeferred hpos
  have hlisted := List.mem_of_mem_filter (List.mem_of_getLast? hlast)
  have hg := (State.mem_startOrder hlisted).1
  have hpending : (s.gen g).state.pending = true ∧ (s.gen g).state.attempting = false ∧ (s.gen g).state.loaded = false ∧
      (s.gen g).state.startDemand = true ∧ (s.gen g).state ≠ .online ∧ (s.gen g).state ≠ .absent ∧
      (s.gen g).state ≠ .stopping := by
    obtain h | h := hstate <;> rw [h] <;> decide
  obtain ⟨hpends, hattempts, hloaded, hdemands, hoff, hpresent, hruns⟩ := hpending
  have hfound : s.evaluated.lastGen GenState.surplus = some g := by
    refine State.lastGen_listed (s := s.evaluated) ?_
    have hsame : ∀ j, decide ((s.gen j).state ∈ [GenState.starting, .ready, .claiming, .syncing]) =
        GenState.surplus (s.gen j).state := fun j => by
      cases (s.gen j).state <;> rfl
    simp only [hsame] at hlast
    exact hlast
  have hlen : g < s.evaluated.par.gens.length := hs.gens_length.symm ▸ hg
  have hstops : s.evaluated.genEnter g .stopping = s.evaluated.genEntered g .stopping := by
    have hstate' : (s.evaluated.gen g).state = (s.gen g).state := rfl
    rw [State.genEnter_stops hlen (by rw [hstate']; exact hruns) (by rw [hstate']; exact hattempts) hdeferred hpos, hstate',
      hloaded]
    rfl
  have hloop : exec .demandEvaluation s = finish s (s.evaluated.genEntered g .stopping) := by
    rw [exec_demand_due h, State.startLoop_rests (s := s.evaluated) (le_of_lt (Nat.lt_of_succ_le (le_of_eq hsurplus.symm))),
      State.unloadLoop_rests (s := s.evaluated) honline,
      State.surplusLoop_stops (s := s.evaluated) (Nat.lt_of_succ_le (le_of_eq hsurplus.symm)) hfound, hstops]
    have hcount := State.genEntered_counts (new := .stopping) hs hg (· == .online)
    have hless := State.genEntered_counts (new := .stopping) hs hg GenState.pending
    have hdemand := State.genEntered_demand (s := s) (g := g) (new := .stopping)
    generalize s.evaluated.genEntered g .stopping = u at *
    rw [hpends] at hless
    rw [beq_false_of_ne hoff] at hcount
    have hmet : u.onlineCount + u.pendingCount = u.par.demand := by
      have hcount' : u.onlineCount = s.onlineCount := hcount
      have hless' : u.pendingCount + 1 = s.pendingCount := hless
      omega
    exact congrArg (finish s) (State.surplusLoop_rests (le_of_eq hmet))
  obtain ⟨t, hexec, hown, hjoins, hothers, hwait, hrecords, honly⟩ :=
    exec_demand_moves hs hlisted hpresent (by decide) (by rw [hdemands]; decide) hloop
  exact ⟨t, hexec, hown, hjoins, hothers, hwait, hrecords, honly⟩

section
variable {s u : State} {g : Nat}

/-- A generator that takes a state in which a renegotiation waits. -/
theorem State.genEnter_keeps {new : GenState} (h : new.keepsAbilities = true) : s.genEnter g new = s.genMove g new := by
  unfold State.genEnter
  dsimp only
  rw [if_neg (by simp [h])]

/-- The state in which a generator's unloading begins (R166). -/
def State.unloadBegun (s : State) (g : Nat) : State :=
  (s.modGen g (fun r => { r with unloadFrom := r.target, unloadTimer := 0, unloadAsked := false })).genEntered g .unloading

theorem Tends.unloadBegun (h : Tends s u g) : Tends s (u.unloadBegun g) g := (h.modGen _).genEntered

theorem State.unloadBegun_gen (hg : g < s.par.gens.length) : (s.unloadBegun g).gen g =
    { s.gen g with state := .unloading, unloadFrom := (s.gen g).target, unloadTimer := 0, unloadAsked := false } := by
  rw [State.unloadBegun, State.genEntered_gen_same ((List.length_modify ..).symm ▸ hg), State.gen_modGen_same _ _ hg]
  rfl

@[simp] theorem State.unloadBegun_breakers : (s.unloadBegun g).breakers = s.breakers := State.genEntered_breakers
@[simp] theorem State.unloadBegun_seq : (s.unloadBegun g).seq = s.seq := State.genEntered_seq
@[simp] theorem State.unloadBegun_work : (s.unloadBegun g).work = s.work := State.genEntered_work
@[simp] theorem State.unloadBegun_mgmt : (s.unloadBegun g).mgmt = s.mgmt := State.genEntered_mgmt

theorem State.unloadBegun_par : (s.unloadBegun g).par.demand = s.par.demand ∧ (s.unloadBegun g).par.demandDue = true := by
  rw [State.unloadBegun, State.genEntered, State.event_par]
  exact ⟨rfl, rfl⟩

theorem State.unloadBegun_newest (hg : g < s.par.gens.length) (h : (s.gen g).state = .online) :
    (s.unloadBegun g).newest = some ⟨s.events.nextSeq, s.eventLabel, .generator, 6, g, 1, some 9, false⟩ := by
  rw [State.unloadBegun, State.genEntered_newest, State.gen_modGen_same _ _ hg, h]
  rfl

/-- The unloading of an ONLINE generator begins, with the report of the loaded counts. -/
theorem State.enterUnloading_eq (hg : g < s.par.gens.length) (h : (s.gen g).state = .online) : s.enterUnloading g =
    if (s.gen g).common.loadControl = true ∧ (s.gen g).common.softLoad = true ∧ (s.gen g).params.minLoad < (s.gen g).target
    then (s.unloadBegun g).post .gensReport else ((s.unloadBegun g).post .gensReport).unloadOpen g := by
  have honline : ((s.modGen g (fun r => { r with unloadFrom := r.target, unloadTimer := 0, unloadAsked := false })).gen g).state
      = .online := by
    rw [State.gen_modGen_same _ _ hg]
    exact h
  have henters : (s.modGen g (fun r => { r with unloadFrom := r.target, unloadTimer := 0, unloadAsked := false })).genEnter g
      .unloading = (s.unloadBegun g).post .gensReport := by
    rw [State.genEnter_keeps rfl, State.genMove_eq (by rw [honline]; decide) (by rw [honline]; rfl), if_pos (by rw [honline]; rfl),
      State.opensFor_other (by decide) (by decide)]
    rfl
  rw [State.enterUnloading, henters, State.post_gen, State.unloadBegun_gen hg]
  dsimp only
  by_cases hr : (s.gen g).common.loadControl = true ∧ (s.gen g).common.softLoad = true ∧
    (s.gen g).params.minLoad < (s.gen g).target
  · rw [if_pos hr, if_neg (by simp [Abilities.ramped, hr])]
  · rw [if_neg hr, if_pos]
    have hno : ¬ ((s.gen g).target ≤ (s.gen g).params.minLoad → False) ∨ ¬ (s.gen g).common.ramped = true := by
      by_contra hboth
      obtain ⟨hmore, hramped⟩ := not_or.1 hboth
      obtain ⟨hcontrol, hsoft⟩ := Bool.and_eq_true_iff.1 (not_not.1 hramped)
      exact hr ⟨hcontrol, hsoft, Nat.not_le.1 (not_not.1 hmore)⟩
    simpa using hno

end

/-- Settles the second part of O38. -/
theorem excessUnloadsTheLast : Clause.ExcessUnloadsTheLast := by
  intro s g hs h hexcess hnone hlast hrun b ramps unloading moves
  have hlisted := List.mem_of_mem_filter (List.mem_of_getLast? hlast)
  obtain ⟨hg, hconf⟩ := State.mem_startOrder hlisted
  have honline : (s.gen g).state = .online := by
    have := List.mem_filter.1 (List.mem_of_getLast? hlast)
    simpa using this.2
  have hlen : g < s.evaluated.par.gens.length := hs.gens_length.symm ▸ hg
  have hbegun : Tends s (s.evaluated.unloadBegun g) g := (Tends.evaluated hs g).unloadBegun
  have hgen : (s.evaluated.unloadBegun g).gen g = unloading := State.unloadBegun_gen hlen
  have henters := State.enterUnloading_eq (s := s.evaluated) hlen honline
  have hnewest := State.unloadBegun_newest (s := s.evaluated) hlen honline
  obtain ⟨hdemand, hdue⟩ := State.unloadBegun_par (s := s.evaluated) (g := g)
  have hbreakers : (s.evaluated.unloadBegun g).breakers = s.breakers := State.unloadBegun_breakers
  have hseq : (s.evaluated.unloadBegun g).seq = s.seq := State.unloadBegun_seq
  have hwork : (s.evaluated.unloadBegun g).work = [] := State.unloadBegun_work.trans hs.1
  have hmgmt : (s.evaluated.unloadBegun g).mgmt = s.mgmt := State.unloadBegun_mgmt
  generalize s.evaluated.unloadBegun g = w at *
  have hsettles : ∀ (y : GenRec) (f : BreakerRec → BreakerRec) (x : State), s.evaluated.enterUnloading g = x →
      x.work = [.gensReport] → Tends s { x with work := [] } g → x.gen g = y → y.state = .unloading →
      y.setpoint = (s.gen g).setpoint → x.brk b = f (s.brk b) → (∀ a, a ≠ b → x.brk a = s.brk a) → x.par.demand = s.par.demand →
      x.par.demandDue = true → x.newest = w.newest → x.seq = s.seq → moves y f :=
    fun y f x hx hxwork htends hxgen hstate hset hown hother hxdemand hxdue hxnewest hxseq => by
      have hcount := State.countGens_moved (s := s) (u := x) hg htends.others
      have hloop : exec .demandEvaluation s = finish s x := by
        have hon := hcount (· == .online)
        have hpend := hcount GenState.pending
        rw [hxgen, hstate, honline] at hon hpend
        have hless : x.onlineCount + 1 = s.onlineCount := hon
        have hstill : x.pendingCount = s.pendingCount := hpend
        rw [exec_demand_due h, State.startLoop_rests (s := s.evaluated) (show s.par.demand ≤ s.onlineCount + s.pendingCount by omega),
          State.unloadLoop_unloads (s := s.evaluated) (show s.par.demand < s.onlineCount by omega)
            (State.lastGen_listed (s := s.evaluated) hlast), hx, State.unloadLoop_rests (by omega),
          State.surplusLoop_rests (by omega)]
      have hdrains : Drains 1 x { x with work := [] } := Drains.idle hxwork fun k hk => by
        rw [List.mem_singleton.1 hk]
        exact State.testGens_rests (s := { x with work := [] }) (by rw [State.run?, hxseq]; exact hrun)
      have hsame : State.setpointOf { x with work := [] } g = s.setpointOf g := by
        have hown' : State.gen { x with work := [] } g = y := hxgen
        rw [State.setpointOf_present hconf (by rw [honline]; decide), State.setpointOf_present
          (by rw [State.genConfigured, State.fld, htends.tables]; exact hconf) (by rw [hown', hstate]; decide), hown', hset]
      obtain ⟨es, c, hend⟩ := htends.finish_still (.inl hsame)
      have hexec := (hloop.trans (congrArg Host.Outcome.next (hdrains.settle (by decide)))).trans hend
      refine ⟨_, hexec, hxgen, htends.others, hown, hother, hxdue, ?_, (hs.only _ hexec).of_seq hxseq⟩
      refine Eq.trans (b := x.newest) rfl ?_
      rw [hxnewest, hnewest, ← hs.eventLabel]
      rfl
  refine ⟨fun hramps => ?_, fun hstuck hb hconf hiso hslot hpos => ?_⟩
  all_goals
    have hunloads : unloading.setpoint = (s.gen g).setpoint := by
      simp [unloading, GenRec.setpoint, honline, GenState.startDemand, GenState.loaded]
    have hkept : ∀ a, (w.post .gensReport).brk a = s.brk a := fun a => congrArg (·.recs.getD a default) hbreakers
    have hposted : (w.post .gensReport).work = [.gensReport] := by rw [State.post, hwork]; rfl
    have htends : Tends s { w.post .gensReport with work := [] } g := hbegun.still hwork.symm rfl rfl rfl
    have hpgen : (w.post .gensReport).gen g = unloading := hgen
    have hrecs : (w.post .gensReport).breakers.recs.length = s.breakers.recs.length := congrArg (·.recs.length) hbreakers
    have hpmgmt : (w.post .gensReport).mgmt = s.mgmt := hmgmt
    have hpdemand : (w.post .gensReport).par.demand = s.par.demand := hdemand
    have hpdue : (w.post .gensReport).par.demandDue = true := hdue
    have hpnewest : (w.post .gensReport).newest = w.newest := rfl
    have hpseq : (w.post .gensReport).seq = s.seq := hseq
    generalize w.post .gensReport = p at *
  · exact hsettles unloading id p (henters.trans (if_pos hramps)) hposted htends hpgen rfl hunloads (hkept b) (fun a _ => hkept a)
      hpdemand hpdue hpnewest hpseq
  · have hfld : ∀ x e i, p.fld x e i = s.fld x e i := fun x e i => by rw [State.fld, State.fld, hpmgmt]
    have hpb : p.genBreaker g = b := hfld ..
    have hopens := State.unloadOpen_issued (s := p) (g := g) (by rw [hpb, hrecs]; exact hs.lt_recs hb)
      (by rw [hpb, State.brkConfigured, hfld]; simpa using hconf)
      (by rw [hpb]; exact State.isolated_eq_false (by rw [hfld]; exact hiso)) (by rw [hpb, hkept]; exact hslot)
      (by rw [hpb, hkept]; exact hpos)
    rw [hpb] at hopens
    have hmarked : Tends s { p.unloadMarked g with work := [] } g := htends.modGen _
    have hmgen : (p.unloadMarked g).gen g = { unloading with unloadAsked := true } :=
      (State.gen_modGen_same _ _ (htends.count.symm ▸ hg)).trans (by rw [hpgen])
    have hmkept : ∀ a, (p.unloadMarked g).brk a = s.brk a := hkept
    have hmrecs : b < (p.unloadMarked g).breakers.recs.length := hrecs.symm ▸ hs.lt_recs hb
    have hmwork : (p.unloadMarked g).work = [.gensReport] := hposted
    have hmdemand : (p.unloadMarked g).par.demand = s.par.demand := hpdemand
    have hmdue : (p.unloadMarked g).par.demandDue = true := hpdue
    have hmnewest : (p.unloadMarked g).newest = w.newest := hpnewest
    have hmseq : (p.unloadMarked g).seq = s.seq := hpseq
    generalize p.unloadMarked g = m at *
    refine hsettles { unloading with unloadAsked := true }
      (fun r => Clause.issued r { action := .opening, origins := { paralleling := true }, generator := some g }) _ ((henters.trans (if_neg hstuck)).trans hopens) hmwork
      (hmarked.still rfl rfl rfl rfl) hmgen rfl hunloads ?_ (fun a ha => (State.placed_brk_other (s := m) ha _).trans (hmkept a))
      hmdemand hmdue hmnewest hmseq
    exact (State.placed_brk_same hmrecs _).trans (by rw [hmkept]; rfl)

/-- Settles O38. -/
theorem demandStartsTheFirst : Obligations.DemandStartsTheFirst :=
  ⟨shortfallStartsAGenerator, excessUnloadsTheLast, surplusIsStopped⟩


end Sys2Proof.Machine
end

section
/-! # The STATION TRIP pin (O27) -/

namespace Sys2Proof.Machine

section
variable {s u v : State} {g j b : Nat}

/-! ### The latch is set and the sequencer halts (R92, R140) -/

/-- The end of a command that changes no setpoint. -/
theorem finish_unsent (hw : u.work = []) (hset : ∀ j, u.setpointOf j = s.setpointOf j) :
    ∃ es, finish s u = .next (u.endedWith es u.healthyNow) := by
  have hsend : State.sendSetpoints s u = u := State.sendSetpoints_still fun j => .inl (hset j)
  have hsettle := State.settle_sent (s := s) hw
  rw [hsend] at hsettle
  exact ⟨_, congrArg Host.Outcome.next hsettle⟩

/-- The state in which a counted edge has set the latch, and its requests wait. -/
def State.latched (s : State) : State :=
  (s.modLines (fun l => { l with tripPin := false, tripLatch := true, tripEdges := step32 l.tripEdges })).asked .stationTrip
    ((List.range 24).filter (fun b => s.station 9 / 2 ^ b % 2 = 1))

theorem State.tripEdge_latches (hp : s.lines.tripPin = true) (hl : s.lines.tripLatch = false) :
    s.tripEdge = (s.latched.stationTripSeq.stationTripGens).event .management 15 1 4 none := by
  have hbits : ∀ n, bitSet n 24 = (List.range 24).filter (fun b => n / 2 ^ b % 2 = 1) := fun n =>
    List.filter_congr fun b _ => beq_eq_decide ..
  rw [State.tripEdge, if_neg (by simp [hp]), hl, if_neg (by decide), State.stationTrip]
  rw [State.forEach_askAdd, hbits]
  rfl

/-- What a state shows of the sequencer's part of a station trip, and what that leaves. -/
structure Halts (s v : State) : Prop where
  seq : v.seq = { s.seq with state := .halted .stationTrip }
  work : v.work = s.work
  hushed : v.hushed = s.hushed
  lines : v.lines = s.lines
  breakers : v.breakers = s.breakers
  par : v.par = s.par
  mgmt : v.mgmt = s.mgmt

theorem State.stationTripSeq_halts (hr : s.run? = none) (hslot : s.seq.slot = none) : Halts s s.stationTripSeq := by
  have hstays : s.abandonPlan = s := by rw [State.abandonPlan, hr]
  have hset : Halts s (s.setSeqState (.halted .stationTrip)) := ⟨rfl, rfl, rfl, rfl, rfl, rfl, rfl⟩
  have hhalt : Halts s (s.halt .stationTrip) := by
    rw [State.halt_eq hslot]
    exact ⟨by rw [State.event_seq]; exact hset.seq, by rw [State.event_work]; exact hset.work,
      by rw [State.event_hushed]; exact hset.hushed, by rw [State.event_lines]; exact hset.lines,
      by rw [State.event_breakers]; exact hset.breakers, by rw [State.event_par]; exact hset.par,
      by rw [State.event_mgmt]; exact hset.mgmt⟩
  rw [State.stationTripSeq, hstays]
  split
  · exact hset
  · exact hhalt

/-- The paralleling unit's part, without a run. -/
theorem State.stationTripGens_eq (hc : ∀ c < 4, s.channel c = none) : s.stationTripGens =
    (s.writeDemand 0).forEach (List.range 8) (fun g u => if (u.gen g).state.tripStops then u.genEnter g .stopping else u) := by
  have hruns : (s.writeDemand 0).forEach (List.range 4) (fun c u =>
      if (u.channel c).any (fun r => r.phase == .running) then u.abortRun c else u) = s.writeDemand 0 := by
    refine State.forEach_rests _ fun c hmem => if_neg ?_
    have hnone : (s.writeDemand 0).channel c = none := hc c (List.mem_range.1 hmem)
    rw [hnone]
    decide
  rw [State.stationTripGens]
  rw [hruns]

end

/-- Settles the first part of O27. -/
theorem edgeSetsTheLatch : Clause.EdgeSetsTheLatch := by
  intro s hs
  refine ⟨fun hp => ?_, fun hp hl => ?_, fun hp hl hr hslot hgens hchannels => ?_, ?_⟩
  · have hidle : s.tripEdge = s := by rw [State.tripEdge, if_pos (by simp [hp])]
    exact (congrArg (finish s) hidle).trans (finish_idle hs)
  · have hcounts : s.tripEdge = s.modLines (fun l => { l with tripPin := false, tripEdges := step32 l.tripEdges }) := by
      rw [State.tripEdge, if_neg (by simp [hp]), hl, if_pos rfl]
      rfl
    exact (congrArg (finish s) hcounts).trans (finish_exact s hs.1 hs.risen hs.closing hs.2.2.1 (State.setpointOf_congr rfl rfl)
      (fun _ => rfl) hs.2.2.2.2.1)
  · have hhalts := State.stationTripSeq_halts (s := s.latched) hr hslot
    have htrips := State.tripEdge_latches hp hl
    generalize s.latched.stationTripSeq = v at hhalts htrips
    have hpar : v.par = s.par := hhalts.par
    have hgen : ∀ j, v.gen j = s.gen j := fun j => by rw [State.gen, hpar, State.gen]
    have hstops : v.stationTripGens = v.writeDemand 0 := by
      rw [State.stationTripGens_eq fun c hc => by rw [State.channel, hpar]; exact hchannels c hc]
      refine State.forEach_rests _ fun g hg => if_neg ?_
      have hstate : ((v.writeDemand 0).gen g).state = (s.gen g).state := congrArg GenRec.state (hgen g)
      have hrests := hgens g (List.mem_range.1 hg)
      simp only [List.mem_cons, List.not_mem_nil, or_false] at hrests
      rw [hstate]
      obtain h | h | h | h := hrests <;> rw [h] <;> decide
    rw [hstops] at htrips
    obtain ⟨es, hend⟩ := finish_unsent (s := s) (u := (v.writeDemand 0).event .management 15 1 4 none)
      (by rw [State.event_work]; exact hhalts.work.trans hs.1)
      (fun j => by rw [State.event_setpointOf]; exact State.setpointOf_congr (congrArg Paralleling.gens hpar) (congrArg Management.tables hhalts.mgmt) j)
    have hexec : exec .stationTripEdge s = _ := (congrArg (finish s) htrips).trans hend
    refine ⟨_, hexec, ?_, ?_, ?_, ?_, ?_, hs.only _ hexec⟩
    · have hlines : (v.writeDemand 0).lines =
          { s.lines with tripPin := false, tripLatch := true, tripEdges := step32 s.lines.tripEdges } := hhalts.lines.trans rfl
      rw [State.endedWith_lines, State.endedWith_healthyNow, State.event_lines, hlines]
    · rw [State.endedWith_breakers, State.event_breakers]
      exact hhalts.breakers
    · rw [State.endedWith_seq, State.event_seq]
      exact hhalts.seq
    · rw [State.endedWith_par, State.event_par, State.writeDemand, State.modPar, hpar]
    · rw [State.endedWith_newest, State.event_newest]
      rfl
  · exact finish_exact s hs.1 hs.risen hs.closing hs.2.2.1 (State.setpointOf_congr rfl rfl) (fun _ => rfl) hs.2.2.2.2.1

/-! ### What a command at one breaker leaves -/

/-- `x` is `u` but for breaker `b`, the queues, the events and the work. -/
structure AtBreaker (b : Nat) (u x : State) : Prop where
  par : x.par = u.par
  seq : x.seq = u.seq
  mgmt : x.mgmt = u.mgmt
  lines : x.lines = u.lines
  hushed : x.hushed = u.hushed
  others : ∀ a, a ≠ b → x.brk a = u.brk a
  count : x.breakers.recs.length = u.breakers.recs.length

/-- Work that finds nobody to do it where no plan runs and no generator makes a close attempt, but for the issue of an OPEN. -/
def Work.rests : Work → Bool
  | .seqOutcome .. | .genOutcome _ _ .closing _ _ | .gensReport | .issue _ => true
  | _ => false

namespace AtBreaker
variable {b : Nat} {u x y : State}

theorem refl (b : Nat) (u : State) : AtBreaker b u u := ⟨rfl, rfl, rfl, rfl, rfl, fun _ _ => rfl, rfl⟩

theorem trans (h : AtBreaker b u x) (h' : AtBreaker b x y) : AtBreaker b u y where
  par := h'.par.trans h.par
  seq := h'.seq.trans h.seq
  mgmt := h'.mgmt.trans h.mgmt
  lines := h'.lines.trans h.lines
  hushed := h'.hushed.trans h.hushed
  others a ha := (h'.others a ha).trans (h.others a ha)
  count := h'.count.trans h.count

theorem modBrk (h : AtBreaker b u x) (f : BreakerRec → BreakerRec) : AtBreaker b u (x.modBrk b f) :=
  h.trans ⟨rfl, rfl, rfl, rfl, rfl, fun _ ha => State.brk_modBrk_other _ _ ha.symm, List.length_modify ..⟩

theorem event (h : AtBreaker b u x) (c : EventClass) (priority object code : Nat) (value : Option Nat) :
    AtBreaker b u (x.event c priority object code value) :=
  h.trans ⟨State.event_par .., State.event_seq .., State.event_mgmt .., State.event_lines .., State.event_hushed ..,
    fun _ _ => State.event_brk .., by rw [State.event_breakers]⟩

theorem still (h : AtBreaker b u x) (hp : y.par = x.par) (hq : y.seq = x.seq) (hm : y.mgmt = x.mgmt) (hl : y.lines = x.lines)
    (hh : y.hushed = x.hushed) (hb : y.breakers = x.breakers) : AtBreaker b u y :=
  h.trans ⟨hp, hq, hm, hl, hh, fun _ _ => by rw [State.brk, hb, State.brk], by rw [hb]⟩

end AtBreaker

section
variable {s u v x : State} {g j b : Nat} {c : Command}

theorem AtBreaker.issueCommand (h : AtBreaker b u x) : AtBreaker b u (x.issueCommand b) ∧ (x.issueCommand b).work = x.work := by
  unfold State.issueCommand
  split
  · exact ⟨h, rfl⟩
  · next c _ =>
    split
    · exact ⟨h.modBrk _, rfl⟩
    · dsimp only
      have hsent : AtBreaker b u ((x.modBrk b (fun r =>
          { r.tagged (fun c n => { c with tag := n, phase := .sent, left := false, timer := 0 }) with
            issued := step32 r.issued })).sendCommand b c.action (x.brk b).tagCounter c.origins) :=
        (h.modBrk _).still rfl rfl rfl rfl rfl rfl
      unfold State.tripIssued
      split
      · exact ⟨hsent.event .., State.event_work ..⟩
      · exact ⟨hsent, rfl⟩

/-- `x` is `u` after something at breaker `b` that hands over at most `n` pieces of work which rest. -/
structure Hands (b n : Nat) (u x : State) : Prop where
  at_breaker : AtBreaker b u x
  work : ∃ ws, x.work = u.work ++ ws ∧ ws.length ≤ n ∧ ∀ w ∈ ws, Work.rests w = true

namespace Hands
variable {n : Nat}

theorem none (h : AtBreaker b u x) (hw : x.work = u.work) : Hands b 0 u x :=
  ⟨h, [], hw.trans (List.append_nil _).symm, le_refl 0, fun _ hw => absurd hw List.not_mem_nil⟩

theorem mono (h : Hands b n u x) {m : Nat} (hm : n ≤ m) : Hands b m u x :=
  let ⟨ws, hwork, hlen, hrests⟩ := h.work
  ⟨h.at_breaker, ws, hwork, hlen.trans hm, hrests⟩

theorem same (h : Hands b n u x) (hv : AtBreaker b x v) (hw : v.work = x.work) : Hands b n u v :=
  let ⟨ws, hwork, hlen, hrests⟩ := h.work
  ⟨h.at_breaker.trans hv, ws, hw.trans hwork, hlen, hrests⟩

theorem post (h : Hands b n u x) {w : Work} (hw : w.rests = true) : Hands b (n + 1) u (x.post w) := by
  obtain ⟨ws, hwork, hlen, hrests⟩ := h.work
  refine ⟨h.at_breaker.still rfl rfl rfl rfl rfl rfl, ws ++ [w], ?_, ?_, fun y hy => ?_⟩
  · rw [State.post_work, hwork, List.append_assoc]
  · rw [List.length_append]
    exact Nat.add_le_add_right hlen 1
  · obtain hy | hy := List.mem_append.1 hy
    · exact hrests y hy
    · rw [List.mem_singleton.1 hy]
      exact hw

end Hands

theorem AtBreaker.commandEnded (b : Nat) (x : State) (c : Command) (o : Outcome) : AtBreaker b x (x.commandEnded b c o) := by
  refine (AtBreaker.modBrk ?_ _).event ..
  unfold State.withoutFrames
  split
  · exact .refl ..
  · exact (AtBreaker.refl ..).still rfl rfl rfl rfl rfl rfl

/-- With the token and the channels free the conclusion of a close moves nothing. -/
theorem State.concludeClose_free (htoken : x.par.token = none) (hchannels : ∀ c < 4, x.channel c = none) :
    x.concludeClose b c = x := by
  have htok : ∀ p, x.freeToken p = x := fun p => by
    rw [State.freeToken, htoken]
    rfl
  have hrun : ∀ p, x.endRunOf p b = x := fun p => by
    have hnone : x.channelFor p b = none := by
      rw [State.channelFor]
      refine List.find?_eq_none.2 fun k hk => ?_
      rw [hchannels k (List.mem_range.1 hk)]
      exact Bool.false_ne_true
    rw [State.endRunOf, hnone]
  unfold State.concludeClose
  split
  · split
    · rfl
    · exact htok _
    · exact hrun _
  · rfl

/-- A CLOSE that ends with the token and the channels free. -/
theorem Hands.endCommand (htoken : x.par.token = .none) (hchannels : ∀ c < 4, x.channel c = .none) {o : Outcome}
    (hslot : (x.brk b).slot = some c) (hclose : c.action = .closing) : Hands b 2 x (x.endCommand b o) := by
  have hended : Hands b 0 x (x.commandEnded b c o) := .none (.commandEnded b x c o) State.commandEnded_work
  have hfree : ∀ n y, Hands b n x y → y.concludeClose b c = y := fun n y hy =>
    State.concludeClose_free (by rw [hy.at_breaker.par, htoken]) fun k hk => by
      rw [State.channel, hy.at_breaker.par]
      exact hchannels k hk
  have hreturned : Hands b 2 x ((x.commandEnded b c o).returnOutcome b c o) := by
    rw [State.returnOutcome, hclose]
    have hseq : Hands b 1 x (if c.origins.changeover then (x.commandEnded b c o).post (.seqOutcome b .closing o)
        else x.commandEnded b c o) := by
      split
      · exact hended.post rfl
      · exact hended.mono (by decide)
    split
    · exact hseq.post rfl
    · exact hseq.mono (by decide)
  rw [State.endCommand_eq hslot]
  have hconcludes := hfree 2 _ hreturned
  exact hconcludes.symm ▸ hreturned

/-- An OPEN of a generator with the token and the channels free. -/
theorem Hands.openRequest (htoken : x.par.token = .none) (hchannels : ∀ c < 4, x.channel c = .none) (o : Origins)
    (k : Option Nat) : Hands b 3 x (x.openRequest b o k).1 := by
  have htakes : ∀ n y, Hands b n x y → Hands b n x (y.takeOpen b o k) := fun n y hy => hy.same ((AtBreaker.refl ..).modBrk _) rfl
  unfold State.openRequest
  split
  · exact (Hands.none ((AtBreaker.refl ..).modBrk _) rfl).mono (by decide)
  · dsimp only
    split
    · split
      · exact (Hands.none (.refl ..) rfl).mono (by decide)
      · obtain ⟨hissue, hwork⟩ := (AtBreaker.refl b (x.takeOpen b o k)).issueCommand
        exact ((htakes 0 x (.none (.refl ..) rfl)).same hissue hwork).mono (by decide)
    · next c hslot =>
      split
      · exact (Hands.none ((AtBreaker.refl ..).modBrk _) rfl).mono (by decide)
      · next hclose =>
        have hended := Hands.endCommand htoken hchannels (o := .superseded) hslot hclose
        split
        · exact hended.mono (by decide)
        · exact (htakes 2 _ hended).post rfl

/-! ### Work that rests is done -/

/-- `v` is `u` but for breakers outside `p`, the queues, the events and the work, of which none is left. -/
structure Calms (p : Nat → Prop) (u v : State) : Prop where
  par : v.par = u.par
  seq : v.seq = u.seq
  mgmt : v.mgmt = u.mgmt
  lines : v.lines = u.lines
  hushed : v.hushed = u.hushed
  kept : ∀ b, p b → v.brk b = u.brk b

/-- No OPEN waits in the slot for its issue. -/
def BreakerRec.unqueued (r : BreakerRec) : Prop := r.slot.any (fun c => c.action == .opening && c.phase == .queued) = false

theorem State.handle_rests {w : Work} (hw : w.rests = true) (hr : u.run? = none)
    (hg : ∀ j, (u.gen j).state ≠ .syncing ∧ (u.gen j).state ≠ .closing) {p : Nat → Prop} (hp : ∀ b, p b → (u.brk b).unqueued) :
    Calms p u (State.handle u w) ∧ (State.handle u w).work = u.work := by
  have hidle : ∀ v : State, v = u → Calms p u v ∧ v.work = u.work := fun v hv =>
    hv ▸ ⟨⟨rfl, rfl, rfl, rfl, rfl, fun _ _ => rfl⟩, rfl⟩
  cases w with
  | seqOutcome b a o => exact hidle _ (by rw [State.handle, State.seqOutcome, hr])
  | genOutcome g b a k o =>
    cases a with
    | opening => cases hw
    | closing =>
      refine hidle _ ?_
      rw [State.handle, State.genOutcome]
      rw [if_neg (c := ((u.gen g).state == .syncing || (u.gen g).state == .closing) = true) (by simp [hg g]), ite_self]
  | gensReport => exact hidle _ (State.testGens_rests hr)
  | issue b =>
    by_cases hqueued : (u.brk b).slot.any (fun c => c.action == .opening && c.phase == .queued) = true
    · have hissues : State.handle u (.issue b) = u.issueCommand b := by
        rw [State.handle]
        exact if_pos hqueued
      obtain ⟨h, hwork⟩ := (AtBreaker.refl b u).issueCommand
      rw [hissues]
      refine ⟨⟨h.par, h.seq, h.mgmt, h.lines, h.hushed, fun a ha => h.others a ?_⟩, hwork⟩
      rintro rfl
      rw [hp a ha] at hqueued
      cases hqueued
    · refine hidle _ ?_
      rw [State.handle]
      exact if_neg hqueued
  | _ => cases hw

theorem Drains.rests {p : Nat → Prop} : ∀ (ws : List Work) (u : State), u.work = ws → (∀ w ∈ ws, Work.rests w = true) →
    u.run? = none → (∀ j, (u.gen j).state ≠ .syncing ∧ (u.gen j).state ≠ .closing) → (∀ b, p b → (u.brk b).unqueued) →
    ∃ v, Drains ws.length u v ∧ Calms p u v
  | [], u, hw, _, _, _, _ => ⟨u, .done hw, ⟨rfl, rfl, rfl, rfl, rfl, fun _ _ => rfl⟩⟩
  | w :: ws, u, hw, hrests, hr, hg, hp => by
    obtain ⟨hcalm, hwork⟩ := State.handle_rests (u := { u with work := [] }) (hrests w List.mem_cons_self) hr hg hp
    generalize hy : State.handle { u with work := [] } w = y at hcalm hwork
    have hgen : ∀ j, State.gen { y with work := y.work ++ ws } j = u.gen j := fun j => by
      have := hcalm.par
      rw [State.gen, State.gen]
      exact congrArg (fun p : Paralleling => nth p.gens j) this
    obtain ⟨v, hdrains, hv⟩ := Drains.rests (p := p) ws { y with work := y.work ++ ws } (by rw [hwork]; rfl)
      (fun k hk => hrests k (List.mem_cons_of_mem _ hk)) ((congrArg (fun q : Sequencer => State.run? { u with seq := q })
        hcalm.seq).trans hr) (fun j => by rw [hgen j]; exact hg j) (fun b hb => by
          have := hcalm.kept b hb
          exact (show State.brk { y with work := y.work ++ ws } b = u.brk b from this) ▸ hp b hb)
    exact ⟨v, .piece hw (hy.symm ▸ hdrains), hv.par.trans hcalm.par, hv.seq.trans hcalm.seq, hv.mgmt.trans hcalm.mgmt,
      hv.lines.trans hcalm.lines, hv.hushed.trans hcalm.hushed, fun b hb => (hv.kept b hb).trans (hcalm.kept b hb)⟩

/-! ### A generator is stopped by a station trip (R168) -/

/-- The command that opens a generator's breaker. -/
def generatorOpen (g : Nat) : Command := { action := .opening, origins := { paralleling := true }, generator := some g }

theorem State.genEnter_trips (hg : g < u.par.gens.length) (hne : (u.gen g).state ≠ .stopping)
    (ha : (u.gen g).state.attempting = false) (hd : (u.gen g).deferred = false) (htoken : u.par.token = .none)
    (hchannels : ∀ c < 4, u.channel c = .none) :
    ∃ x, u.genEnter g .stopping = x ∧ Hands (u.genBreaker g) 4 (u.genEntered g .stopping) x ∧
      x.brk (u.genBreaker g) = ((u.genEntered g .stopping).opensFor g .stopping).brk (u.genBreaker g) := by
  have hbreaker : (u.genEntered g .stopping).genBreaker g = u.genBreaker g := State.genEntered_fld ..
  have hgen : (u.genEntered g .stopping).gen g = (u.gen g).enter .stopping := State.genEntered_gen_same hg
  have hpar : (u.genEntered g .stopping).par.token = .none ∧ ∀ c < 4, (u.genEntered g .stopping).channel c = .none := by
    rw [State.genEntered]
    simp only [State.channel, State.event_par]
    exact ⟨htoken, hchannels⟩
  have hmove := State.genMove_eq (new := .stopping) hne (by rw [ha]; rfl)
  generalize u.genEntered g .stopping = e at *
  have hopens : Hands (u.genBreaker g) 3 e (e.opensFor g .stopping) := by
    rw [State.opensFor]
    split
    · rw [State.genOpen, hbreaker]
      exact .openRequest hpar.1 hpar.2 _ _
    · exact (Hands.none (.refl ..) rfl).mono (by decide)
  have henters : ∀ w, Hands (u.genBreaker g) 4 e w → u.genMove g .stopping = w → u.genEnter g .stopping = w := fun w hw h => by
    rw [State.genEnter_eq, h]
    rw [h, State.gen, hw.at_breaker.par]
    exact (congrArg GenRec.deferred hgen).trans hd
  split at hmove
  · exact ⟨_, henters _ (hopens.post rfl) hmove, hopens.post rfl, rfl⟩
  · exact ⟨_, henters _ (hopens.mono (by decide)) hmove, hopens.mono (by decide), rfl⟩

/-- The breaker of generator `j` takes an OPEN in NORMAL mode. -/
def State.Clear (d : State) (j : Nat) : Prop :=
  d.genConfigured j = true ∧ d.genBreaker j < d.breakers.recs.length ∧ d.brkConfigured (d.genBreaker j) = true ∧
    d.isolated (d.genBreaker j) = false ∧ (d.brk (d.genBreaker j)).slot = none

/-- What a station trip makes of a generator's breaker. -/
def State.opening (d : State) (j : Nat) : BreakerRec :=
  if (d.brk (d.genBreaker j)).position = .opened then d.brk (d.genBreaker j)
  else (d.brk (d.genBreaker j)).issuing (generatorOpen j)

/-- The breaker of a generator that stops, where it takes an OPEN. -/
theorem State.opensFor_clear {d e : State} (hm : e.mgmt = d.mgmt) (hcount : e.breakers.recs.length = d.breakers.recs.length)
    (hb : e.brk (d.genBreaker g) = d.brk (d.genBreaker g)) (h : d.Clear g) :
    (e.opensFor g .stopping).brk (d.genBreaker g) = d.opening g := by
  obtain ⟨-, hlt, hconf, hiso, hslot⟩ := h
  have hfld : ∀ x e' i, e.fld x e' i = d.fld x e' i := fun x e' i => by rw [State.fld, hm, State.fld]
  have hbreaker : e.genBreaker g = d.genBreaker g := hfld ..
  by_cases hp : (d.brk (d.genBreaker g)).position = .opened
  · rw [State.opensFor_open (by rw [State.genPosition, hbreaker, hb, hp]), hb, State.opening, if_pos hp]
  · have hopens : e.opensFor g .stopping = e.placed (d.genBreaker g) (generatorOpen g) := by
      rw [State.opensFor, if_pos (by simp [State.genPosition, hbreaker, hb, hp]), State.genOpen, hbreaker,
        State.openRequest_issued (by rw [hcount]; exact hlt) (by rw [State.brkConfigured, hfld]; exact hconf)
          (by rw [State.isolated, hfld]; exact hiso) (by rw [hb]; exact hslot) (by rw [hb]; exact hp) rfl]
      rfl
    rw [hopens, State.placed_brk_same (by rw [hcount]; exact hlt), hb, State.opening, if_neg hp]

/-- What stands after the generators among `ns` have been tripped. -/
structure Trips (d : State) (ns : List Nat) (u : State) : Prop where
  par : u.par = { d.par with gens := u.par.gens, waitList := u.par.waitList }
  seq : u.seq = d.seq
  mgmt : u.mgmt = d.mgmt
  lines : u.lines = d.lines
  hushed : u.hushed = d.hushed
  count : u.par.gens.length = 8
  breakers : u.breakers.recs.length = d.breakers.recs.length
  gen : ∀ j, u.gen j = if j ∈ ns ∧ (d.gen j).state.tripStops = true then { d.gen j with state := .stopping } else d.gen j
  brk : ∀ j < 8, d.Clear j → u.brk (d.genBreaker j) =
    if j ∈ ns ∧ (d.gen j).state.tripStops = true then d.opening j else d.brk (d.genBreaker j)
  length : u.work.length ≤ 4 * ns.length
  rests : ∀ w ∈ u.work, Work.rests w = true

theorem Trips.append {d : State} {ns : List Nat} (h : Trips d ns u) (hfresh : g ∉ ns) (hg : g < 8) (hown : d.OwnBreakers) (hdue : d.par.demandDue = true)
    (hconf : d.genConfigured g = false → (d.gen g).state = .absent) (hdeferred : (d.gen g).deferred = false)
    (hattempt : (d.gen g).state.attempting = false) (htoken : d.par.token = .none) (hchannels : ∀ c < 4, d.channel c = .none) :
    Trips d (ns ++ [g]) (if (u.gen g).state.tripStops then u.genEnter g .stopping else u) := by
  have hmine : u.gen g = d.gen g := (h.gen g).trans (if_neg fun hmem => hfresh hmem.1)
  have hlonger : u.work.length ≤ 4 * (ns ++ [g]).length := by
    have := h.length
    rw [List.length_append]
    omega
  have hmem : ∀ j, j ≠ g → (j ∈ ns ++ [g] ↔ j ∈ ns) := fun j hj => by simp [hj]
  rw [hmine]
  by_cases hstops : (d.gen g).state.tripStops = true
  · rw [if_pos hstops]
    have hpresent : d.genConfigured g = true := by
      by_contra hno
      rw [hconf (Bool.not_eq_true _ ▸ hno)] at hstops
      cases hstops
    have hlen : g < u.par.gens.length := h.count.symm ▸ hg
    have hfld : ∀ x e i, u.fld x e i = d.fld x e i := fun x e i => by rw [State.fld, h.mgmt, State.fld]
    have hbreaker : u.genBreaker g = d.genBreaker g := hfld ..
    obtain ⟨x, henters, hhands, hbrk⟩ := State.genEnter_trips hlen (by rw [hmine]; intro h; rw [h] at hstops; cases hstops)
      (by rw [hmine]; exact hattempt) (by rw [hmine]; exact hdeferred) (by rw [h.par]; exact htoken)
      (fun c hc => by rw [State.channel, h.par]; exact hchannels c hc)
    have hown' : (u.genEntered g .stopping).gen g = { d.gen g with state := .stopping } :=
      (State.genEntered_gen_same hlen).trans (by rw [hmine]; rfl)
    have hothers : ∀ j, j ≠ g → (u.genEntered g .stopping).gen j = u.gen j := fun j hj => by
      rw [State.genEntered, State.event_gen]
      exact State.gen_modGen_other _ _ hj.symm
    have hpar : (u.genEntered g .stopping).par = { d.par with
        gens := (u.genEntered g .stopping).par.gens, waitList := (u.genEntered g .stopping).par.waitList } := by
      have hentered : ∃ gs ws, (u.genEntered g .stopping).par = { u.par with gens := gs, waitList := ws, demandDue := true } :=
        ⟨_, _, (State.event_par ..).trans rfl⟩
      obtain ⟨gs, ws, hentered⟩ := hentered
      rw [hentered, h.par, ← hdue]
    have hcount : (u.genEntered g .stopping).par.gens.length = 8 := by
      rw [State.genEntered, State.event_par]
      exact (List.length_modify ..).trans h.count
    have hseq : (u.genEntered g .stopping).seq = d.seq := State.genEntered_seq.trans h.seq
    have hmgmt : (u.genEntered g .stopping).mgmt = d.mgmt := State.genEntered_mgmt.trans h.mgmt
    have hbreakers : (u.genEntered g .stopping).breakers = u.breakers := State.genEntered_breakers
    have hlines : (u.genEntered g .stopping).lines = d.lines := by
      rw [State.genEntered, State.event_lines]
      exact h.lines
    have hhushed : (u.genEntered g .stopping).hushed = d.hushed := State.genEntered_hushed.trans h.hushed
    have hwork : (u.genEntered g .stopping).work = u.work := State.genEntered_work
    rw [henters]
    generalize u.genEntered g .stopping = e at *
    obtain ⟨ws, hxwork, hwlen, hwrests⟩ := hhands.work
    have hat := hhands.at_breaker
    have hebrk : ∀ a, e.brk a = u.brk a := fun a => by rw [State.brk, hbreakers, State.brk]
    have hegen : ∀ j, x.gen j = e.gen j := fun j => by rw [State.gen, hat.par, State.gen]
    refine ⟨by rw [hat.par]; exact hpar, hat.seq.trans hseq, hat.mgmt.trans hmgmt, hat.lines.trans hlines,
      hat.hushed.trans hhushed, by rw [hat.par]; exact hcount, hat.count.trans (by rw [hbreakers]; exact h.breakers),
      fun j => ?_, fun j hj hclear => ?_, ?_, fun w hw => ?_⟩
    · rw [hegen]
      by_cases hjg : j = g
      · subst hjg
        rw [hown', if_pos ⟨List.mem_append_right _ (List.mem_singleton_self j), hstops⟩]
      · rw [hothers j hjg, h.gen]
        exact if_congr (and_congr_left fun _ => (hmem j hjg).symm) rfl rfl
    · by_cases hjg : j = g
      · subst hjg
        rw [if_pos ⟨List.mem_append_right _ (List.mem_singleton_self j), hstops⟩, ← hbreaker, hbrk, hbreaker]
        exact State.opensFor_clear hmgmt (by rw [hbreakers]; exact h.breakers)
          ((hebrk _).trans ((h.brk j hj hclear).trans (if_neg fun hc => hfresh hc.1))) hclear
      · have hne : d.genBreaker j ≠ u.genBreaker g := fun heq =>
          hjg (hown j hj g hg (by simpa [State.genConfigured] using hclear.1) (by simpa [State.genConfigured] using hpresent)
            (heq.trans hbreaker))
        rw [hat.others _ hne, hebrk, h.brk j hj hclear]
        exact if_congr (and_congr_left fun _ => (hmem j hjg).symm) rfl rfl
    · rw [hxwork, hwork, List.length_append, List.length_append]
      have := h.length
      simp only [List.length_singleton]
      omega
    · rw [hxwork, hwork] at hw
      exact (List.mem_append.1 hw).elim (h.rests w) (hwrests w)
  · rw [if_neg hstops]
    have hsame : ∀ j, (j ∈ ns ++ [g] ∧ (d.gen j).state.tripStops = true) ↔ (j ∈ ns ∧ (d.gen j).state.tripStops = true) := fun j => by
      by_cases hjg : j = g
      · subst hjg
        exact ⟨fun hc => absurd hc.2 hstops, fun hc => absurd hc.2 hstops⟩
      · rw [hmem j hjg]
    exact { h with
      gen := fun j => (h.gen j).trans (if_congr (hsame j).symm rfl rfl)
      brk := fun j hj hclear => (h.brk j hj hclear).trans (if_congr (hsame j).symm rfl rfl)
      length := hlonger }

theorem Trips.all {d : State} (hown : d.OwnBreakers) (hdue : d.par.demandDue = true)
    (hconf : ∀ g < 8, d.genConfigured g = false → (d.gen g).state = .absent) (hdeferred : ∀ g < 8, (d.gen g).deferred = false)
    (hattempt : ∀ g < 8, (d.gen g).state.attempting = false) (htoken : d.par.token = .none)
    (hchannels : ∀ c < 4, d.channel c = .none) (hcount : d.par.gens.length = 8) (hwork : d.work = []) (ns : List Nat)
    (hns : ∀ j ∈ ns, j < 8) (hnodup : ns.Nodup) :
    Trips d ns (d.forEach ns (fun g u => if (u.gen g).state.tripStops then u.genEnter g .stopping else u)) := by
  induction ns using List.reverseRecOn with
  | nil =>
    exact ⟨rfl, rfl, rfl, rfl, rfl, hcount, rfl, fun j => (if_neg fun h => List.not_mem_nil h.1).symm,
      fun j _ _ => (if_neg fun h => List.not_mem_nil h.1).symm, by rw [State.forEach, List.foldl_nil, hwork]; decide,
      fun w hw => absurd (hwork ▸ hw) List.not_mem_nil⟩
  | append_singleton ns g ih =>
    obtain ⟨hnodup', -, hfresh⟩ := List.nodup_append.1 hnodup
    have hg : g < 8 := hns g (List.mem_append_right _ (List.mem_singleton_self g))
    have hstep := (ih (fun j hj => hns j (List.mem_append_left _ hj)) hnodup').append
      (fun h => hfresh g h g (List.mem_singleton_self g) rfl) hg hown hdue (hconf g hg) (hdeferred g hg) (hattempt g hg) htoken
      hchannels
    rw [State.forEach, List.foldl_append]
    exact hstep

theorem Trips.event {d : State} {ns : List Nat} (h : Trips d ns u) (c : EventClass) (priority object code : Nat)
    (value : Option Nat) : Trips d ns (u.event c priority object code value) where
  par := by rw [State.event_par]; exact h.par
  seq := by rw [State.event_seq]; exact h.seq
  mgmt := by rw [State.event_mgmt]; exact h.mgmt
  lines := by rw [State.event_lines]; exact h.lines
  hushed := by rw [State.event_hushed]; exact h.hushed
  count := by rw [State.event_par]; exact h.count
  breakers := by rw [State.event_breakers]; exact h.breakers
  gen j := by rw [State.event_gen]; exact h.gen j
  brk j hj hc := by rw [State.event_brk]; exact h.brk j hj hc
  length := by rw [State.event_work]; exact h.length
  rests := by rw [State.event_work]; exact h.rests

theorem State.opening_unqueued {d : State} (h : d.Clear g) : (d.opening g).unqueued ∧ (d.brk (d.genBreaker g)).unqueued := by
  have hrests : (d.brk (d.genBreaker g)).unqueued := by
    rw [BreakerRec.unqueued, h.2.2.2.2]
    rfl
  refine ⟨?_, hrests⟩
  rw [State.opening]
  split
  · exact hrests
  · rfl

theorem GenState.attempting_eq (x : GenState) : x.attempting = decide (x ∈ [GenState.claiming, .syncing, .closing]) := by
  cases x <;> rfl

theorem GenState.tripStops_eq (x : GenState) : x.tripStops =
    decide (x ∈ [GenState.standby, .starting, .ready, .online, .unloading] ∨ x.attempting = true) := by
  cases x <;> rfl

theorem GenState.tripStops_iff (x : GenState) : x.tripStops = true ↔ x ∉ [GenState.absent, .negotiating, .stopping, .fault] := by
  cases x <;> decide

theorem settle_tripLatch (hw : u.work = []) (hh : u.hushed = false) (hlen : u.par.gens.length = 8) :
    (State.settle s u).lines.tripLatch = u.lines.tripLatch := by
  obtain ⟨hsent, -⟩ := State.setpointsSent (s := s) hh hlen (List.range 8) fun j hj => List.mem_range.1 hj
  have hloop : State.sendSetpoints s u = u.forEach (List.range 8) s.setpointSent := rfl
  rw [State.settle_sent hw, hloop, State.endedWith_lines, hsent.eq]

end

/-- Settles the second part of O27. -/
theorem tripStopsTheGenerators : Clause.TripStopsTheGenerators := by
  intro s hs hp hl hr hslot hchannels htoken hlist hown hconf hdeferred hattempt
  have hhalts := State.stationTripSeq_halts (s := s.latched) hr hslot
  have htrips := State.tripEdge_latches hp hl
  generalize s.latched.stationTripSeq = v at hhalts htrips
  have hpar : v.par = s.par := hhalts.par
  have hgen : ∀ j, (v.writeDemand 0).gen j = s.gen j := fun j =>
    (show (v.writeDemand 0).gen j = v.gen j from rfl).trans (congrArg (fun p : Paralleling => nth p.gens j) hpar)
  have hchannel : ∀ c, v.channel c = s.channel c := fun c => by rw [State.channel, hpar, State.channel]
  rw [State.stationTripGens_eq fun c hc => (hchannel c).trans (hchannels c hc)] at htrips
  have hmgmt : (v.writeDemand 0).mgmt = s.mgmt := hhalts.mgmt
  have hfld : ∀ x e i, (v.writeDemand 0).fld x e i = s.fld x e i := fun x e i => by rw [State.fld, hmgmt, State.fld]
  have hall := (Trips.all (d := v.writeDemand 0) (fun g hg j hj hcg hcj hb => hown g hg j hj (by rwa [hfld] at hcg) (by rwa [hfld] at hcj)
      (by rwa [hfld, hfld] at hb)) rfl
    (fun g hg h => by rw [hgen]; exact hconf g hg (by simpa [State.genConfigured, hfld] using h))
    (fun g hg => by rw [hgen]; exact hdeferred g hg)
    (fun g hg => by rw [hgen, GenState.attempting_eq]; exact decide_eq_false (hattempt g hg))
    ((congrArg Paralleling.token hpar).trans htoken) (fun c hc => (hchannel c).trans (hchannels c hc))
    ((congrArg (fun p : Paralleling => p.gens.length) hpar).trans hs.gens_length) (hhalts.work.trans hs.1) (List.range 8)
    (fun j hj => List.mem_range.1 hj) List.nodup_range).event .management 15 1 4 none
  have hlines : (v.writeDemand 0).lines.tripLatch = true := congrArg Lines.tripLatch hhalts.lines
  have hrecs' : v.breakers.recs = s.breakers.recs :=
    Eq.trans (b := s.latched.breakers.recs) (congrArg BreakerCtl.recs hhalts.breakers) rfl
  have hbreakers : ∀ a, (v.writeDemand 0).brk a = s.brk a := fun a =>
    (show (v.writeDemand 0).brk a = v.brk a from rfl).trans (congrArg (fun x => nth x a) hrecs')
  have hrecs : (v.writeDemand 0).breakers.recs.length = s.breakers.recs.length :=
    (show (v.writeDemand 0).breakers.recs.length = v.breakers.recs.length from rfl).trans
      (congrArg List.length hrecs')
  have hdemand : (v.writeDemand 0).par.demand = 0 ∧ (v.writeDemand 0).par.demandDue = true := ⟨rfl, rfl⟩
  have hrun : (v.writeDemand 0).seq = { s.seq with state := .halted .stationTrip } := hhalts.seq
  have hhushed : (v.writeDemand 0).hushed = false := hhalts.hushed.trans hs.2.2.1
  generalize v.writeDemand 0 = d at *
  generalize d.forEach (List.range 8) (fun g u => if (u.gen g).state.tripStops then u.genEnter g .stopping else u) = w at *
  generalize w.event .management 15 1 4 none = u at *
  have hugen : ∀ j, u.gen j = if j ∈ List.range 8 ∧ (s.gen j).state.tripStops = true then { s.gen j with state := .stopping }
      else s.gen j := fun j => by rw [hall.gen, hgen]
  have hrest : ∀ j, (u.gen j).state ≠ .syncing ∧ (u.gen j).state ≠ .closing := fun j => by
    rw [hugen]
    split
    · exact ⟨GenState.noConfusion, GenState.noConfusion⟩
    · next hno =>
      by_cases hj : j < 8
      · have hstays := fun h => hno ⟨List.mem_range.2 hj, h⟩
        exact ⟨fun h => hstays (by rw [h]; rfl), fun h => hstays (by rw [h]; rfl)⟩
      · rw [State.gen, nth_default (by rw [hs.gens_length]; omega)]
        exact ⟨by decide, by decide⟩
  obtain ⟨x, hdrains, hcalms⟩ := Drains.rests (p := fun b => ∃ j < 8, d.Clear j ∧ b = d.genBreaker j) u.work u rfl hall.rests
    (by rw [State.run?, hall.seq, hrun]) hrest (by
      rintro b ⟨j, hj, hclear, rfl⟩
      obtain ⟨hopening, hstill⟩ := State.opening_unqueued hclear
      rw [hall.brk j hj hclear]
      split
      · exact hopening
      · exact hstill)
  have hxcount : x.par.gens.length = 8 := by rw [hcalms.par]; exact hall.count
  have hxhushed : x.hushed = false := (hcalms.hushed.trans hall.hushed).trans hhushed
  obtain ⟨t, hend, hown', -, hstands, htpar, htbreakers, -⟩ := finish_gensets (s := s) hdrains.work hxhushed hxcount
  have hexec : exec .stationTripEdge s = .next t := ((congrArg (finish s) htrips).trans
    (congrArg Host.Outcome.next (hdrains.settle (hall.length.trans (by decide))))).trans hend
  have hxgen : ∀ j, x.gen j = u.gen j := fun j => by rw [State.gen, hcalms.par, State.gen]
  have hxpar : x.par.demand = 0 ∧ x.par.demandDue = true := by
    rw [hcalms.par, hall.par]
    exact hdemand
  refine ⟨t, hexec, ?_, by rw [htpar]; exact hxpar.1, by rw [htpar]; exact hxpar.2, fun g hg hmem => ⟨?_, ?_⟩, fun g hg hmem => ?_,
    hs.only _ hexec⟩
  · have hsettle : State.settle s x = t := Host.Outcome.next.inj hend
    rw [← hsettle, settle_tripLatch hdrains.work hxhushed hxcount, hcalms.lines, hall.lines, hlines]
  · have hstops : (s.gen g).state.tripStops = true := by rw [GenState.tripStops_eq]; exact decide_eq_true (Or.inl hmem)
    rw [hown' g hg, hxgen, hugen, if_pos ⟨List.mem_range.2 hg, hstops⟩]
  · intro b hb hcb hib hslot'
    have hstops : (s.gen g).state.tripStops = true := by rw [GenState.tripStops_eq]; exact decide_eq_true (Or.inl hmem)
    have hdb : d.genBreaker g = b := hfld ..
    have hpresent : s.fld .generator g 1 = 1 := by
      by_contra hno
      rw [hconf g hg hno] at hstops
      cases hstops
    have hclear : d.Clear g := ⟨by simp [State.genConfigured, hfld, hpresent], by rw [hdb, hrecs]; exact hs.lt_recs hb,
      by rw [hdb, State.brkConfigured, hfld]; simpa using hcb, by rw [hdb, State.isolated, hfld]; simpa using hib,
      by rw [hdb, hbreakers]; exact hslot'⟩
    have hopens : t.brk b = d.opening g := by
      rw [State.brk, htbreakers]
      refine (hcalms.kept b ⟨g, hg, hclear, hdb.symm⟩).trans ?_
      rw [← hdb, hall.brk g hg hclear, if_pos ⟨List.mem_range.2 hg, by rw [hgen]; exact hstops⟩]
    rw [hopens, State.opening, hdb, hbreakers]
    rfl
  · have hstays : u.gen g = s.gen g := (hugen g).trans (if_neg fun h => by
      rw [GenState.tripStops_iff] at h
      exact h.2 hmem)
    rw [hstands g fun hc => hc.2 ?_, hxgen, hstays]
    have hxstays := (hxgen g).trans hstays
    exact State.setpointOf_same (by rw [hcalms.mgmt, hall.mgmt, hmgmt]) (by rw [hxstays]) (by rw [hxstays])

/-- Settles O27. -/
theorem stationTripEdge : Obligations.StationTripEdge := ⟨edgeSetsTheLatch, tripStopsTheGenerators⟩


end Sys2Proof.Machine
end

section
/-! # Trip demand sets (O24) -/

namespace Sys2Proof.Machine

section
variable {s u v : State} {a b : Nat} {c : Command} {o : Origins} {m : Member} {rest : List DemandRequest}

/-! ### What an event does to the queues -/

/-- The urgent queue stands, and the normal queue gains EVENT frames alone. -/
structure LinkPort.Notified (p q : LinkPort) : Prop where
  urgent : q.urgent = p.urgent
  normal : ∃ fs, q.normal = p.normal ++ fs ∧ ∀ f ∈ fs, OutFrame.isEvent f = true

theorem LinkPort.Notified.refl (p : LinkPort) : p.Notified p :=
  ⟨rfl, [], (List.append_nil _).symm, fun _ h => absurd h List.not_mem_nil⟩

theorem LinkPort.Notified.trans {p q r : LinkPort} (h : p.Notified q) (h' : q.Notified r) : p.Notified r := by
  obtain ⟨fs, hfs, hevents⟩ := h.normal
  obtain ⟨gs, hgs, hevents'⟩ := h'.normal
  refine ⟨h'.urgent.trans h.urgent, fs ++ gs, by rw [hgs, hfs, List.append_assoc], fun f hf => ?_⟩
  exact (List.mem_append.1 hf).elim (hevents f) (hevents' f)

theorem LinkPort.admitNormal_notified (p : LinkPort) {f : OutFrame} (t : OutFrame → Bool) (hf : f.isEvent = true) :
    p.Notified (p.admitNormal t f).1 := by
  unfold LinkPort.admitNormal
  split
  · exact ⟨rfl, [f], rfl, fun x hx => by rw [List.mem_singleton.1 hx]; exact hf⟩
  · exact .refl p

theorem LinkPort.admitBulk_notified (p : LinkPort) (f : OutFrame) : p.Notified (p.admitBulk f).1 := by
  unfold LinkPort.admitBulk
  split
  · exact ⟨rfl, [], (List.append_nil _).symm, fun _ h => absurd h List.not_mem_nil⟩
  · exact .refl p

theorem State.onUpLinks_notified (f : LinkPort → LinkPort × Bool) (hf : ∀ p : LinkPort, p.Notified (f p).1) (l : Link) :
    (s.port l).Notified ((s.onUpLinks f).1.port l) := by
  cases l
  · simp only [State.onUpLinks, State.port]
    split
    · exact hf _
    · exact .refl _
  · simp only [State.onUpLinks, State.port]
    split
    · exact hf _
    · exact .refl _

theorem State.sendEvents_notified (urgent : Bool) (l : Link) : (s.port l).Notified ((s.sendEvents urgent).port l) := by
  have hadmit : ∀ (x : Nat) (f : OutFrame), f.isEvent = true → (s.port l).Notified
      ((State.onUpLinks { s with links := { s.links with eventSeq := x } }
        (if urgent then LinkPort.admitNormal OutFrame.isEvent f else LinkPort.admitBulk f)).1.port l) := fun x f hf => by
    have h := State.onUpLinks_notified (s := { s with links := { s.links with eventSeq := x } })
      (if urgent then LinkPort.admitNormal OutFrame.isEvent f else LinkPort.admitBulk f) (fun p => by
        split
        · exact p.admitNormal_notified _ hf
        · exact p.admitBulk_notified f) l
    cases l <;> exact h
  unfold State.sendEvents
  dsimp only
  split
  · exact .refl _
  · split <;> exact hadmit _ _ rfl

theorem State.event_notified (k : EventClass) (priority object code : Nat) (value : Option Nat) (l : Link) :
    (s.port l).Notified ((s.event k priority object code value).port l) :=
  (State.sendEvents_notified (s := { s with events := s.events.append _ }) true l).trans (State.sendEvents_notified false l)

/-- No frame of a command to its BIU joins. -/
theorem LinkPort.Notified.withdrawn {p q : LinkPort} (h : p.Notified q) {b tag : Nat}
    (hp : ∀ x ∈ p.urgent ++ p.normal, x.biuFrame b tag = false) : ∀ x ∈ q.urgent ++ q.normal, x.biuFrame b tag = false := by
  obtain ⟨fs, hfs, hevents⟩ := h.normal
  intro x hx
  rw [h.urgent, hfs, ← List.append_assoc] at hx
  obtain hx | hx := List.mem_append.1 hx
  · exact hp x hx
  · have hevent := hevents x hx
    unfold OutFrame.biuFrame
    unfold OutFrame.isEvent at hevent
    split
    · next hbody =>
      rw [hbody] at hevent
      cases hevent
    · rfl

theorem State.withoutFrames_withdrawn (hc : c.phase ≠ .queued) (l : Link) :
    ∀ x ∈ ((s.withoutFrames b c).port l).urgent ++ ((s.withoutFrames b c).port l).normal, x.biuFrame b c.tag = false := by
  have hfilters : ∃ xs ys : List OutFrame, ((s.withoutFrames b c).port l).urgent = xs.filter (fun f => !f.biuFrame b c.tag) ∧
      ((s.withoutFrames b c).port l).normal = ys.filter (fun f => !f.biuFrame b c.tag) := by
    rw [State.withoutFrames, if_neg (by simpa using hc)]
    cases l <;> exact ⟨_, _, rfl, rfl⟩
  obtain ⟨xs, ys, hxs, hys⟩ := hfilters
  intro x hx
  rw [hxs, hys, ← List.filter_append] at hx
  simpa using (List.mem_filter.1 hx).2

theorem State.commandEnded_withdrawn {y : Outcome} (hc : c.phase ≠ .queued) (l : Link) :
    ∀ x ∈ ((s.commandEnded b c y).port l).urgent ++ ((s.commandEnded b c y).port l).normal, x.biuFrame b c.tag = false := by
  refine (State.event_notified .breaker _ b 6 _ l).withdrawn ?_
  have hport : ((s.withoutFrames b c).modBrk b (·.ended y)).port l = (s.withoutFrames b c).port l := by cases l <;> rfl
  rw [hport]
  exact State.withoutFrames_withdrawn hc l

/-! ### Requests for trip demand sets (R110) -/

theorem settleRequests_head (q : DemandRequest) (rest : List DemandRequest) : settleRequests (q :: rest) q = rest := by
  have hrange : List.range (rest.length + 1) = 0 :: (List.range rest.length).map Nat.succ := List.range_succ_eq_map
  have hkept : ∀ x ∈ rest.zip ((List.range rest.length).map Nat.succ),
      (!(x.1.breaker == q.breaker && x.1.member == q.member && decide (x.2 ≤ 0))) = true := fun x hx => by
    obtain ⟨n, -, hn⟩ := List.mem_map.1 (List.of_mem_zip hx).2
    rw [← hn]
    simp
  rw [settleRequests, List.idxOf_cons_self, List.length_cons, hrange, List.zip_cons_cons,
    List.filter_cons_of_neg (by simp), List.filter_eq_self.2 hkept, List.map_fst_zip]
  simp

/-- The state in which the oldest request is taken. -/
def State.taken (s : State) (rest : List DemandRequest) : State :=
  { s with breakers := { s.breakers with requests := rest } }

theorem exec_demand_add (h : s.breakers.requests = ⟨true, b, m⟩ :: rest) :
    exec (.tripDemandAdd b m) s = finish s ((s.taken rest).addMember b m) := by
  have htakes : s.takeDemand ⟨true, b, m⟩ = (s.taken rest).addMember b m := by
    rw [State.takeDemand, if_pos (by rw [h]; simp), h, settleRequests_head]
    rfl
  exact congrArg (finish s) htakes

theorem exec_demand_remove (h : s.breakers.requests = ⟨false, b, m⟩ :: rest) :
    exec (.tripDemandRemove b m) s = finish s ((s.taken rest).removeMember b m) := by
  have htakes : s.takeDemand ⟨false, b, m⟩ = (s.taken rest).removeMember b m := by
    rw [State.takeDemand, if_pos (by rw [h]; simp), h, settleRequests_head]
    rfl
  exact congrArg (finish s) htakes

theorem State.modBrk_modBrk (f k : BreakerRec → BreakerRec) : (s.modBrk b f).modBrk b k = s.modBrk b (k ∘ f) := by
  simp only [State.modBrk, List.modify_modify_eq]

theorem State.modBrk_point {f : BreakerRec → BreakerRec} (hf : ∀ r, (f r).position = r.position) (n : Nat) :
    (s.modBrk b f).point n = s.point n := by
  have hpos : ∀ a, ((s.modBrk b f).brk a).position = (s.brk a).position := fun a =>
    apply_nth_modify f BreakerRec.position hf _ b a
  simp only [State.point, hpos]
  rfl

/-- The end of a request that changes its breaker's record alone. -/
theorem finish_taken (hs : s.Quiet) {f : BreakerRec → BreakerRec} (hf : ∀ r, (f r).position = r.position) :
    finish s ((s.taken rest).modBrk b f) = .next ((s.taken rest).modBrk b f) :=
  finish_exact s hs.1 hs.risen hs.closing hs.2.2.1 (State.setpointOf_congr rfl rfl)
    (fun n => (State.modBrk_point (s := s.taken rest) hf n).trans rfl) hs.2.2.2.2.1

/-- Settles the sixth part of O24. -/
theorem tripDemandRemovalIsPlain : Clause.TripDemandRemovalIsPlain := fun _ _ _ _ hs h =>
  (exec_demand_remove h).trans (finish_taken hs fun _ => rfl)

/-- The state in which a member has joined, its OPEN request yet to follow. -/
def State.joined (s : State) (b : Nat) (m : Member) (rest : List DemandRequest) : State :=
  (s.taken rest).modBrk b (fun r => { r with trips := r.trips ++ [m] })

theorem State.joined_brk_same (hb : b < s.breakers.recs.length) :
    (s.joined b m rest).brk b = { s.brk b with trips := (s.brk b).trips ++ [m] } := State.brk_modBrk_same _ _ hb

theorem State.joined_brk_other (h : a ≠ b) : (s.joined b m rest).brk a = s.brk a := State.brk_modBrk_other _ _ h.symm

@[simp] theorem State.joined_fld (x : TableId) (e id : Nat) : (s.joined b m rest).fld x e id = s.fld x e id := rfl

/-- PARALLEL_LIMIT that has just joined a set goes from it again. -/
theorem leaves_again (h : m ∉ (s.brk b).trips) (hm : m = .parallelLimit) :
    ((s.brk b).trips ++ [m]).filter (· != .parallelLimit) = (s.brk b).trips := by
  subst hm
  rw [List.filter_append, List.filter_eq_self.2 fun x hx => by simpa using fun hxm : x = .parallelLimit => h (hxm ▸ hx)]
  simp

/-- A member that is in the set joins it no more. -/
theorem State.addMember_member (h : m ∈ (s.brk b).trips) : (s.taken rest).addMember b m = s.taken rest := by
  rw [State.addMember]
  exact if_pos (List.contains_iff_mem.2 h)

theorem State.addMember_joins (h : m ∉ (s.brk b).trips) : (s.taken rest).addMember b m =
    if m = .parallelLimit ∧ (s.brkConfigured b = false ∨ (s.brk b).position = .opened) then
      ((s.joined b m rest).openFor b (Member.origin m)).modBrk b (fun r => { r with trips := r.trips.filter (· != .parallelLimit) })
    else (s.joined b m rest).openFor b (Member.origin m) := by
  rw [State.addMember, if_neg (by simpa [State.brk, State.taken] using h)]
  refine if_congr ?_ rfl rfl
  rw [Bool.and_eq_true, Bool.or_eq_true, beq_iff_eq, beq_iff_eq, Bool.not_eq_true']
  rfl

theorem Member.origin_trip (m : Member) : (Member.origin m).trip = true ∧ (Member.origin m).tripPart = Member.origin m := by
  cases m <;> exact ⟨rfl, rfl⟩

/-- Settles the fifth part of O24. -/
theorem tripDemandWithoutACommand : Clause.TripDemandWithoutACommand := by
  intro s b m rest hs hb
  have hlen := hs.lt_recs hb
  refine ⟨fun h hm => ?_, fun h hm hc hslot hp => ?_, fun h hm hc => ?_, fun h => ?_⟩
  · have hsame : (s.taken rest).modBrk b id = s.taken rest := State.modBrk_stands (s := s.taken rest) rfl hlen
    rw [Clause.Joins, exec_demand_add h, State.addMember_member hm]
    exact (congrArg (finish s) hsame.symm).trans (finish_taken hs fun _ => rfl)
  · have hopen : (s.joined b m rest).openFor b (Member.origin m) = s.joined b m rest := by
      rw [State.openFor, State.openRequest_open (by simpa [State.brkConfigured] using hc)
        (by rw [State.joined_brk_same hlen]; exact hslot) (by rw [State.joined_brk_same hlen]; exact hp)]
    have hjoins : (s.taken rest).addMember b m = (s.taken rest).modBrk b (fun r =>
        { r with trips := if m = .parallelLimit then r.trips else r.trips ++ [m] }) := by
      rw [State.addMember_joins hm, hopen]
      by_cases hpl : m = .parallelLimit
      · rw [if_pos ⟨hpl, .inr hp⟩, State.joined, State.modBrk_modBrk]
        refine State.modBrk_congr ?_
        show { s.brk b with trips := ((s.brk b).trips ++ [m]).filter (· != Member.parallelLimit) } = _
        rw [leaves_again hm hpl, if_pos hpl]
        rfl
      · rw [if_neg fun h => hpl h.1]
        simp only [if_neg hpl]
        rfl
    rw [Clause.Joins, exec_demand_add h, hjoins]
    exact finish_taken hs fun _ => rfl
  · have hrefused : (s.joined b m rest).openFor b (Member.origin m) = (s.joined b m rest).countRefused b := by
      rw [State.openFor, State.openRequest, if_pos]
      simpa [State.brkConfigured] using hc
    have hjoins : (s.taken rest).addMember b m = (s.taken rest).modBrk b (fun r =>
        { r with
          trips := if m = .parallelLimit then r.trips else r.trips ++ [m]
          refusals := step32 r.refusals }) := by
      rw [State.addMember_joins hm, hrefused, State.countRefused]
      by_cases hpl : m = .parallelLimit
      · rw [if_pos ⟨hpl, .inl (by simpa [State.brkConfigured] using hc)⟩, State.joined, State.modBrk_modBrk, State.modBrk_modBrk]
        refine State.modBrk_congr ?_
        show { s.brk b with
          trips := ((s.brk b).trips ++ [m]).filter (· != Member.parallelLimit), refusals := step32 (s.brk b).refusals } = _
        rw [leaves_again hm hpl, if_pos hpl]
        rfl
      · rw [if_neg fun h => hpl h.1, State.joined, State.modBrk_modBrk]
        simp only [if_neg hpl]
        rfl
    rw [Clause.Joins, exec_demand_add h, hjoins]
    exact finish_taken hs fun _ => rfl
  · have hidle : s.takeDemand ⟨true, b, m⟩ = s := by
      rw [State.takeDemand]
      exact if_neg (by simpa using h)
    exact (congrArg (finish s) hidle).trans (finish_idle hs)

/-- Settles the second part of O24. -/
theorem tripDemandMergesIntoAnOpen : Clause.TripDemandMergesIntoAnOpen := by
  intro s b m rest c hs hb h hc hslot haction hp hm merged joined
  have hlen := hs.lt_recs hb
  obtain ⟨htrip, hpart⟩ := Member.origin_trip m
  have hjoins : (s.taken rest).addMember b m =
      (s.taken rest).modBrk b (fun r => { r with trips := r.trips ++ [m] }.mergeOpen c (Member.origin m) none) := by
    have hmerges : (s.joined b m rest).openFor b (Member.origin m) =
        (s.joined b m rest).modBrk b (fun r => r.mergeOpen c (Member.origin m) none) := by
      rw [State.openFor, State.openRequest, if_neg (by simpa [State.brkConfigured] using hc),
        State.joined_brk_same hlen]
      dsimp only
      rw [hslot]
      dsimp only
      rw [haction]
    rw [State.addMember_joins hm, if_neg (by simp [State.brkConfigured, hc, hp]), hmerges, State.joined, State.modBrk_modBrk]
    rfl
  have hends : ∀ f : BreakerRec → BreakerRec, (∀ r, (f r).position = r.position) →
      { s.brk b with trips := (s.brk b).trips ++ [m] }.mergeOpen c (Member.origin m) none = f (s.brk b) →
      Clause.Joins s b m rest f := fun f hf hsame => by
    rw [Clause.Joins, exec_demand_add h, hjoins, State.modBrk_congr (s := s.taken rest) hsame]
    exact finish_taken hs hf
  refine ⟨fun hbf ht => hends _ (fun _ => rfl) ?_, fun hbf ht => hends _ (fun _ => rfl) ?_,
    fun hbf => hends _ (fun _ => rfl) ?_⟩
  · simp [BreakerRec.mergeOpen, htrip, ht, hbf, joined, merged]
  · simp [BreakerRec.mergeOpen, BreakerRec.startBf, htrip, hpart, ht, hbf, joined, merged]
  · cases ht : c.origins.trip <;> simp [BreakerRec.mergeOpen, BreakerRec.startBf, htrip, hpart, ht, hbf, joined, merged]

/-! ### A trip-class OPEN takes an empty slot (R101, R112) -/

/-- The record after a trip-class OPEN has taken its empty slot and is issued, with BF IDLE before. -/
def BreakerRec.tripped (r : BreakerRec) (o : Origins) : BreakerRec :=
  { r with
    slot := some { action := .opening, tag := r.tagCounter, origins := o, phase := .sent }
    tagCounter := (r.tagCounter + 1) % 256
    issued := step32 r.issued
    bf := .timing
    bfTimer := 0
    bfOrigins := o }

/-- The state in which a trip-class OPEN is issued and recorded. -/
def State.tripPlaced (s : State) (b : Nat) (o : Origins) : State :=
  ((s.takeOpen b o none).commandIssued b { action := .opening, origins := o }).event .breaker 13 b 4 (some o.byte)

theorem State.takeOpen_brk_same (hb : b < s.breakers.recs.length) (hbf : (s.brk b).bf = .idle) (ho : o.trip = true)
    (hpart : o.tripPart = o) : (s.takeOpen b o none).brk b =
      { s.brk b with slot := some { action := .opening, origins := o }, bf := .timing, bfTimer := 0, bfOrigins := o } := by
  rw [State.takeOpen, State.brk_modBrk_same _ _ hb]
  simp [ho, BreakerRec.startBf, hbf, hpart]

theorem State.takeOpen_length : (s.takeOpen b o none).breakers.recs.length = s.breakers.recs.length := List.length_modify ..

theorem State.tripPlaced_brk_same (hb : b < s.breakers.recs.length) (hbf : (s.brk b).bf = .idle) (ho : o.trip = true)
    (hpart : o.tripPart = o) : (s.tripPlaced b o).brk b = (s.brk b).tripped o := by
  rw [State.tripPlaced, State.event_brk, State.commandIssued_brk_same (by rwa [State.takeOpen_length])
    (by rw [State.takeOpen_brk_same hb hbf ho hpart]), State.takeOpen_brk_same hb hbf ho hpart]
  rfl

theorem State.tripPlaced_brk_other (h : a ≠ b) : (s.tripPlaced b o).brk a = s.brk a := by
  rw [State.tripPlaced, State.event_brk, State.commandIssued_brk_other h]
  exact State.brk_modBrk_other _ _ h.symm

theorem Touches.takeOpen {ps : List StatePart} (h : Touches ps s u) (b : Nat) (o : Origins) (hb : .breakers ∈ ps := by decide) :
    Touches ps s (u.takeOpen b o none) := h.modBrk b _ hb

theorem Touches.tripPlaced {ps : List StatePart} (h : Touches ps s u) (b : Nat) (o : Origins) (hl : .links ∈ ps := by decide)
    (he : .events ∈ ps := by decide) (hb : .breakers ∈ ps := by decide) : Touches ps s (u.tripPlaced b o) :=
  ((h.takeOpen b o hb).commandIssued b _ hl hb).event _ _ _ _ _ hl he

@[simp] theorem State.tripPlaced_work : (s.tripPlaced b o).work = s.work := by
  rw [State.tripPlaced, State.event_work]
  rfl

@[simp] theorem State.tripPlaced_requests : (s.tripPlaced b o).breakers.requests = s.breakers.requests := by
  rw [State.tripPlaced, State.event_breakers]
  rfl

theorem State.tripPlaced_newest : (s.tripPlaced b o).newest =
    some ⟨s.events.nextSeq, s.eventLabel, .breaker, 13, b, 4, some o.byte, false⟩ := by
  rw [State.tripPlaced, State.event_newest]
  rfl

/-- Its frame stands in the urgent queue of each link that is UP. -/
theorem State.tripPlaced_urgent {l : Link} (hl : (s.port l).up = true) : ∃ f ∈ ((s.tripPlaced b o).port l).urgent,
    f.body = .command b (s.fld .breaker b 3) .opening (s.brk b).tagCounter o ∧ f.dst = s.fld .breaker b 2 := by
  have htag : ((s.takeOpen b o none).brk b).tagCounter = (s.brk b).tagCounter := by
    refine apply_nth_modify _ BreakerRec.tagCounter (fun r => ?_) _ b b
    dsimp only
    split
    · unfold BreakerRec.startBf
      split <;> rfl
    · rfl
  rw [State.tripPlaced, (State.event_notified .breaker 13 b 4 (some o.byte) l).urgent, State.commandIssued,
    State.sendCommand_port, if_pos (by cases l <;> exact hl), htag]
  exact ⟨_, List.mem_append_right _ (List.mem_singleton.2 rfl), rfl, rfl⟩

theorem State.issueCommand_tripPlaced (hb : b < s.breakers.recs.length) (hi : s.isolated b = false) (hbf : (s.brk b).bf = .idle)
    (ho : o.trip = true) (hpart : o.tripPart = o) : (s.takeOpen b o none).issueCommand b = s.tripPlaced b o :=
  State.issueCommand_trip (by rw [State.takeOpen_brk_same hb hbf ho hpart]) hi (by simp [Command.tripOpen, ho])

theorem State.openRequest_trips (hb : b < s.breakers.recs.length) (hc : s.brkConfigured b = true) (hi : s.isolated b = false)
    (hslot : (s.brk b).slot = none) (hp : (s.brk b).position ≠ .opened) (hbf : (s.brk b).bf = .idle) (ho : o.trip = true)
    (hpart : o.tripPart = o) : s.openFor b o = s.tripPlaced b o := by
  rw [State.openFor, State.openRequest, if_neg (by simp [hc]), hslot]
  dsimp only
  rw [if_neg (by simp [hp]), State.issueCommand_tripPlaced hb hi hbf ho hpart]

theorem Touches.joined {ps : List StatePart} (h : Touches ps s u) (b : Nat) (m : Member) (rest : List DemandRequest)
    (hb : .breakers ∈ ps := by decide) : Touches ps s (u.joined b m rest) := by
  have htaken : Touches ps s (u.taken rest) :=
    h.trans ⟨rfl, id, fun _ => ⟨rfl, rfl, rfl⟩, fun p hp => by cases p <;> first | exact absurd hb hp | rfl⟩
  exact htaken.modBrk b _ hb

/-- The end of a command that moves breakers, links and the event queue alone, with its queues. -/
theorem finish_breakers_queues (hs : s.Quiet) (ht : Touches [.links, .events, .breakers] s u) (hw : u.work = []) :
    ∃ t, finish s u = .next t ∧ t.breakers = u.breakers ∧ (∀ a, t.brk a = u.brk a) ∧ t.newest = u.newest ∧
      (∀ l, t.port l = u.port l) ∧ Only [.links, .events, .breakers] s t := by
  have hset : ∀ g, u.setpointOf g = s.setpointOf g := State.setpointOf_congr
    (congrArg Paralleling.gens (ht.stands .par (by decide))) (congrArg Management.tables (ht.stands .mgmt (by decide)))
  obtain ⟨es, hend, honly⟩ := finish_settled hs ht hw hset
  exact ⟨_, hend, rfl, fun _ => rfl, rfl, fun l => by cases l <;> rfl, honly⟩

/-- Settles the first part of O24. -/
theorem tripDemandOpensTheBreaker : Clause.TripDemandOpensTheBreaker := by
  intro s b m rest hs hb h hc hi hslot hp hbf hm
  have hlen := hs.lt_recs hb
  have hlen' : b < (s.joined b m rest).breakers.recs.length := (List.length_modify ..).symm ▸ hlen
  obtain ⟨htrip, hpart⟩ := Member.origin_trip m
  have hown := State.joined_brk_same (m := m) (rest := rest) hlen
  have hopens : (s.joined b m rest).openFor b (Member.origin m) = (s.joined b m rest).tripPlaced b (Member.origin m) :=
    State.openRequest_trips hlen' (by simpa [State.brkConfigured] using hc) (by simpa [State.isolated] using hi)
      (by rw [hown]; exact hslot) (by rw [hown]; exact hp) (by rw [hown]; exact hbf) htrip hpart
  have hexec : exec (.tripDemandAdd b m) s = finish s ((s.joined b m rest).tripPlaced b (Member.origin m)) := by
    rw [exec_demand_add h, State.addMember_joins hm, if_neg (by simp [State.brkConfigured, hc, hp]), hopens]
  obtain ⟨t, hend, hbreakers, hbrk, hnewest, hport, honly⟩ := finish_breakers_queues hs
    (((Touches.refl _ s).joined b m rest).tripPlaced b (Member.origin m)) (State.tripPlaced_work.trans hs.1)
  refine ⟨t, hexec.trans hend, by rw [hbreakers, State.tripPlaced_requests]; rfl, ?_, fun a ha => ?_, fun l hl => ?_, ?_, honly⟩
  · rw [hbrk, State.tripPlaced_brk_same hlen' (by rw [hown]; exact hbf) htrip hpart, hown]
    rfl
  · rw [hbrk, State.tripPlaced_brk_other ha, State.joined_brk_other ha]
  · have hup : ((s.joined b m rest).port l).up = true := by cases l <;> exact hl
    obtain ⟨f, hf, hbody, hdst⟩ := State.tripPlaced_urgent (b := b) (o := Member.origin m) hup
    rw [State.joined_fld, hown] at hbody
    exact ⟨f, by rw [hport]; exact hf, hbody, hdst⟩
  · rw [Records, hnewest, State.tripPlaced_newest, ← hs.eventLabel]
    rfl

/-! ### A CLOSE is superseded (R101, R104) -/

/-- One piece of work that leads to a state without work. -/
theorem Drains.posted {w : Work} (hw : u.work = []) (hhandle : State.handle u w = v) (hv : v.work = []) :
    Drains 1 (u.post w) v := by
  have hposted : u.post w = { u with work := [w] } := by rw [State.post, hw]; rfl
  have hrun : State.handle { { u with work := [w] } with work := [] } w = v := by
    rw [← hhandle, ← hw]
  rw [hposted]
  exact .last rfl (.of_eq hrun (.done hv))

/-- The normal queue keeps no frame that has been withdrawn from it. -/
theorem State.tripPlaced_withdrawn {tag : Nat} {l : Link}
    (h : ∀ x ∈ (s.port l).urgent ++ (s.port l).normal, x.biuFrame b tag = false) :
    ∀ x ∈ ((s.tripPlaced b o).port l).normal, x.biuFrame b tag = false := by
  have hport : (s.takeOpen b o none).port l = s.port l := by cases l <;> rfl
  obtain ⟨fs, hfs, hevents⟩ := (State.event_notified (s := (s.takeOpen b o none).commandIssued b
    { action := .opening, origins := o }) .breaker 13 b 4 (some o.byte) l).normal
  have hsub : ∀ x ∈ (((s.takeOpen b o none).commandIssued b { action := .opening, origins := o }).port l).normal,
      x.biuFrame b tag = false := fun x hx => by
    have hmodport : ∀ f, ((s.takeOpen b o none).modBrk b f).port l = s.port l := fun f => by cases l <;> rfl
    rw [State.commandIssued, State.sendCommand_port, hmodport] at hx
    refine h x (List.mem_append_right _ ?_)
    split at hx
    · exact List.mem_of_mem_filter hx
    · exact hx
  intro x hx
  rw [State.tripPlaced, hfs] at hx
  obtain hx | hx := List.mem_append.1 hx
  · exact hsub x hx
  · have hevent := hevents x hx
    unfold OutFrame.isEvent at hevent
    unfold OutFrame.biuFrame
    split
    · next hbody =>
      rw [hbody] at hevent
      cases hevent
    · rfl

/-- The state in which an operator's CLOSE has ended SUPERSEDED by a member that joins. -/
def State.superseded (s : State) (b : Nat) (m : Member) (rest : List DemandRequest) (c : Command) : State :=
  (s.joined b m rest).commandEnded b c .superseded

theorem State.superseded_brk_same (hb : b < s.breakers.recs.length) : (s.superseded b m rest c).brk b =
    { s.brk b with trips := (s.brk b).trips ++ [m] }.ended .superseded := by
  rw [State.superseded, State.commandEnded_brk_same ((List.length_modify ..).symm ▸ hb), State.joined_brk_same hb]

theorem State.superseded_brk_other (h : a ≠ b) : (s.superseded b m rest c).brk a = s.brk a := by
  rw [State.superseded, State.commandEnded_brk_other h, State.joined_brk_other h]

theorem State.superseded_newest : (s.superseded b m rest c).newest =
    some ⟨s.events.nextSeq, s.eventLabel, .breaker, 8, b, 6, some 1, false⟩ :=
  State.commandEnded_newest.trans rfl

@[simp] theorem State.superseded_work : (s.superseded b m rest c).work = s.work := State.commandEnded_work

@[simp] theorem State.superseded_requests : (s.superseded b m rest c).breakers.requests = rest :=
  State.commandEnded_requests.trans rfl

@[simp] theorem State.superseded_fld (x : TableId) (e id : Nat) : (s.superseded b m rest c).fld x e id = s.fld x e id :=
  (State.commandEnded_fld ..).trans rfl

theorem State.superseded_length (hs : s.Quiet) (hb : b < 24) : b < (s.superseded b m rest c).breakers.recs.length := by
  rw [State.superseded, State.commandEnded_length]
  exact (List.length_modify ..).symm ▸ hs.lt_recs hb

theorem Touches.superseded (s : State) (b : Nat) (m : Member) (rest : List DemandRequest) (c : Command) :
    Touches [.links, .events, .breakers] s (s.superseded b m rest c) :=
  ((Touches.refl _ s).joined b m rest).commandEnded b c _

/-- The OPEN request of a member that finds an operator's CLOSE. -/
theorem State.openFor_supersedes (hb : b < s.breakers.recs.length) (hc : s.brkConfigured b = true)
    (hslot : (s.brk b).slot = some c) (ha : c.action = .closing) (ho : c.origins = { operator := true })
    (hr : c.requester = .operator) : (s.joined b m rest).openFor b (Member.origin m) =
      if s.closeRuns b c = false ∧ (s.brk b).position = .opened then s.superseded b m rest c
      else ((s.superseded b m rest c).takeOpen b (Member.origin m) none).post (.issue b) := by
  have hown := State.joined_brk_same (m := m) (rest := rest) hb
  have hends : (s.joined b m rest).endCommand b .superseded = s.superseded b m rest c :=
    State.endCommand_ended (by rw [hown]; exact hslot) (by rw [ho]) (by rw [ho]) (.inr hr)
  have hconf : (s.joined b m rest).brkConfigured b = true := hc
  have hruns : (s.joined b m rest).closeRuns b c = s.closeRuns b c := rfl
  rw [State.openFor, State.openRequest, if_neg (by rw [hconf]; decide), hown, hslot]
  dsimp only
  rw [ha]
  dsimp only
  rw [hends, hruns]
  cases s.closeRuns b c <;> by_cases hp : (s.brk b).position = .opened <;> simp [hp]

theorem exec_supersedes (h : s.breakers.requests = ⟨true, b, m⟩ :: rest) (hm : m ∉ (s.brk b).trips) (hpl : m ≠ .parallelLimit) :
    exec (.tripDemandAdd b m) s = finish s ((s.joined b m rest).openFor b (Member.origin m)) := by
  rw [exec_demand_add h, State.addMember_joins hm, if_neg fun h => hpl h.1]

/-- The state in which the command of a breaker in ISOLATED mode runs. -/
def State.simulated (s : State) (b : Nat) : State :=
  s.modBrk b (fun r => r.tagged (fun c n => { c with tag := n, phase := .accepted, timer := 0 }))

/-- The superseding OPEN is issued in NORMAL mode. -/
theorem Drains.supersedes (hs : s.Quiet) (hb : b < 24) (hi : s.isolated b = false) (hbf : (s.brk b).bf = .idle) :
    Drains 1 (((s.superseded b m rest c).takeOpen b (Member.origin m) none).post (.issue b))
      ((s.superseded b m rest c).tripPlaced b (Member.origin m)) := by
  obtain ⟨htrip, hpart⟩ := Member.origin_trip m
  have hlen := State.superseded_length (m := m) (rest := rest) (c := c) hs hb
  have hidle : ((s.superseded b m rest c).brk b).bf = .idle := by
    rw [State.superseded_brk_same (hs.lt_recs hb)]
    exact hbf
  have hiso : (s.superseded b m rest c).isolated b = false := by
    rw [State.isolated, State.superseded_fld]
    exact hi
  have hwork : (s.superseded b m rest c).work = [] := State.superseded_work.trans hs.1
  generalize s.superseded b m rest c = e at *
  refine .posted hwork ?_ (State.tripPlaced_work.trans hwork)
  rw [State.handle, if_pos, State.issueCommand_tripPlaced hlen hiso hidle htrip hpart]
  rw [State.takeOpen_brk_same hlen hidle htrip hpart]
  rfl

end

/-- Settles the third part of O24. -/
theorem tripDemandSupersedesAClose : Clause.TripDemandSupersedesAClose := by
  intro s b m rest c hs hb h hc hi hslot ha ho hr hm hpl hbf ended withdrawn
  have hlen := hs.lt_recs hb
  obtain ⟨htrip, hpart⟩ := Member.origin_trip m
  have hconf : s.brkConfigured b = true := by simpa [State.brkConfigured] using hc
  have hiso := State.isolated_eq_false hi
  have hruns : s.closeRuns b c = c.left := by simp [State.closeRuns, hiso]
  have hopens := State.openFor_supersedes (m := m) (rest := rest) hlen hconf hslot ha ho hr
  have hexec := exec_supersedes h hm hpl
  have hown := State.superseded_brk_same (m := m) (rest := rest) (c := c) hlen
  have hgone : c.phase ≠ .queued → ∀ k, ∀ x ∈ ((s.superseded b m rest c).port k).urgent ++
      ((s.superseded b m rest c).port k).normal, x.biuFrame b c.tag = false := fun hq k => State.commandEnded_withdrawn hq k
  rw [hruns] at hopens
  refine ⟨fun hruns => ?_, fun hleft hp => ?_⟩
  · rw [hopens, if_neg (by rintro ⟨hl, hp⟩; exact hruns.elim (by simp [hl]) (absurd hp))] at hexec
    have hdrains := Drains.supersedes (m := m) (rest := rest) (c := c) hs hb hiso hbf
    obtain ⟨t, hend, hbreakers, hbrk, hnewest, hport, honly⟩ := finish_breakers_queues hs
      ((Touches.superseded s b m rest c).tripPlaced b (Member.origin m))
      (State.tripPlaced_work.trans (State.superseded_work.trans hs.1))
    refine ⟨t, (hexec.trans (congrArg Host.Outcome.next (hdrains.settle (by decide)))).trans hend, ?_, fun a ha => ?_, ?_, ?_, ?_,
      honly⟩
    · rw [hbrk, State.tripPlaced_brk_same (State.superseded_length hs hb) (by rw [hown]; exact hbf) htrip hpart, hown]
      rfl
    · rw [hbrk, State.tripPlaced_brk_other ha, State.superseded_brk_other ha]
    · rw [hbreakers, State.tripPlaced_requests, State.superseded_requests]
    · refine or_iff_not_imp_left.2 fun hq k => ?_
      rw [hport]
      exact State.tripPlaced_withdrawn (hgone hq k)
    · rw [hnewest, State.tripPlaced_newest]
      rfl
  · rw [hopens, if_pos ⟨hleft, hp⟩] at hexec
    obtain ⟨t, hend, hbreakers, hbrk, hnewest, hport, honly⟩ := finish_breakers_queues hs (Touches.superseded s b m rest c)
      (State.superseded_work.trans hs.1)
    refine ⟨t, hexec.trans hend, by rw [hbrk, hown]; rfl, fun a ha => by rw [hbrk, State.superseded_brk_other ha],
      by rw [hbreakers, State.superseded_requests], ?_, ?_, honly⟩
    · refine or_iff_not_imp_left.2 fun hq k x hx => ?_
      rw [hport] at hx
      exact hgone hq k x (List.mem_append_right _ hx)
    · rw [Records, hnewest, State.superseded_newest, ← hs.eventLabel]

/-- Settles the fourth part of O24. -/
theorem tripDemandStopsASimulatedClose : Clause.TripDemandStopsASimulatedClose := by
  intro s b m rest c hs hb h hc hi hslot ha hphase ho hr hm hpl hbf
  have hlen := hs.lt_recs hb
  obtain ⟨htrip, hpart⟩ := Member.origin_trip m
  have hiso : s.isolated b = true := by simpa [State.isolated] using hi
  have hruns : s.closeRuns b c = true := by simp [State.closeRuns, hiso, hphase]
  have hopens := State.openFor_supersedes (m := m) (rest := rest) hlen (by simpa [State.brkConfigured] using hc) hslot ha ho hr
  rw [hruns, if_neg fun h => Bool.noConfusion h.1] at hopens
  have hexec := exec_supersedes h hm hpl
  have hown := State.superseded_brk_same (m := m) (rest := rest) (c := c) hlen
  have htouch := Touches.superseded s b m rest c
  have hlen' := State.superseded_length (m := m) (rest := rest) (c := c) hs hb
  have hwork : (s.superseded b m rest c).work = [] := State.superseded_work.trans hs.1
  have hiso' : (s.superseded b m rest c).isolated b = true := by rw [State.isolated, State.superseded_fld]; exact hiso
  have hothers : ∀ a, a ≠ b → (s.superseded b m rest c).brk a = s.brk a := fun a ha => State.superseded_brk_other ha
  have hrequests : (s.superseded b m rest c).breakers.requests = rest := State.superseded_requests
  have hnewest' := State.superseded_newest (s := s) (b := b) (m := m) (rest := rest) (c := c)
  rw [hopens] at hexec
  generalize s.superseded b m rest c = e at *
  have htaken := State.takeOpen_brk_same (s := e) (o := Member.origin m) hlen' (by rw [hown]; exact hbf) htrip hpart
  have hissues : State.handle (e.takeOpen b (Member.origin m) none) (.issue b) = (e.takeOpen b (Member.origin m) none).simulated b := by
    rw [State.handle, if_pos (by rw [htaken]; rfl), State.issueCommand, htaken]
    exact if_pos hiso'
  have hdrains := Drains.posted (u := e.takeOpen b (Member.origin m) none) (w := .issue b) hwork hissues hwork
  obtain ⟨t, hend, hbreakers, hbrk, hnewest, -, honly⟩ := finish_breakers_queues hs
    ((htouch.takeOpen b (Member.origin m)).modBrk b _) (u := (e.takeOpen b (Member.origin m) none).simulated b) hwork
  refine ⟨t, (hexec.trans (congrArg Host.Outcome.next (hdrains.settle (by decide)))).trans hend, ?_, fun a ha => ?_,
    by rw [hbreakers]; exact hrequests, ?_, honly⟩
  · rw [hbrk, State.simulated, State.brk_modBrk_same _ _ (by rw [State.takeOpen_length]; exact hlen'), htaken, hown]
    rfl
  · rw [hbrk, State.simulated, State.brk_modBrk_other _ _ ha.symm]
    exact (State.brk_modBrk_other _ _ ha.symm).trans (hothers a ha)
  · rw [Records, hnewest, ← hs.eventLabel]
    exact hnewest'

/-- Settles O24. -/
theorem tripDemandsOpenBreakers : Obligations.TripDemandsOpenBreakers :=
  ⟨tripDemandOpensTheBreaker, tripDemandMergesIntoAnOpen, tripDemandSupersedesAClose, tripDemandStopsASimulatedClose,
    tripDemandWithoutACommand, tripDemandRemovalIsPlain⟩


end Sys2Proof.Machine
end

section
/-! # Position reports (O23) -/

namespace Sys2Proof.Machine

section
variable {s u v : State} {l : Link} {h : Header} {f : PositionBody} {a b : Nat} {c : Command}

/-! ### Reports (R98, R99) -/

/-- The state in which a report has been counted. -/
def State.counted (s : State) (b : Nat) : State := s.modBrk b (fun r => { r with reports := step32 r.reports })

theorem State.reached_matchBreaker (l : Link) (k : FrameClass) (h : Header) (src n : Nat) :
    (s.reached l k h).matchBreaker src n = s.matchBreaker src n := by cases l <;> rfl

@[simp] theorem State.reached_brk (l : Link) (k : FrameClass) (h : Header) (a : Nat) : (s.reached l k h).brk a = s.brk a := by
  cases l <;> rfl

@[simp] theorem State.reached_fld (l : Link) (k : FrameClass) (h : Header) (x : TableId) (e id : Nat) :
    (s.reached l k h).fld x e id = s.fld x e id := by cases l <;> rfl

theorem State.matchBreaker_lt {src n : Nat} (h : s.matchBreaker src n = some b) : b < 24 :=
  List.mem_range.1 (List.mem_of_find?_eq_some h)

theorem State.matchBreaker_configured {src n : Nat} (h : s.matchBreaker src n = some b) : s.brkConfigured b = true := by
  have hfound := List.find?_some h
  rw [Bool.and_eq_true, Bool.and_eq_true] at hfound
  exact hfound.1.1

theorem exec_position (hu : (s.port l).up = true) (hv : s.verdict .position h = .taken)
    (hm : s.matchBreaker h.src f.biuNumber = some b) : exec (.positionFrame l h f) s =
      finish s ((((s.reached l .position h).counted b).handleResponse b f).post (.report b f.position f.health)) := by
  have hexec : exec (.positionFrame l h f) s = finish s (State.takePosition h f (s.reached l .position h)) := by
    show finish s (s.receive l .position h (State.takePosition h f)) = _
    rw [State.receive_taken s l _ h _ hu hv (by decide)]
  rw [hexec, State.takePosition, State.reached_matchBreaker, hm]
  rfl

/-- Where the slot awaits no response the response fields have no effect (R106). -/
theorem State.handleResponse_idle (h : ∀ c, (s.brk b).slot = some c →
    s.isolated b = true ∨ c.phase ≠ .sent ∨ c.tag ≠ f.tag ∨ f.response = .none) : s.handleResponse b f = s := by
  unfold State.handleResponse
  split
  · rfl
  · next c hc =>
    by_cases hidle : s.isolated b = true ∨ c.phase ≠ .sent ∨ c.tag ≠ f.tag
    · refine if_pos ?_
      simpa [or_assoc] using hidle
    · have hnone : f.response = .none := by
        obtain h | h | h | h := h c hc
        · exact absurd (.inl h) hidle
        · exact absurd (.inr (.inl h)) hidle
        · exact absurd (.inr (.inr h)) hidle
        · exact h
      rw [hnone, ite_self]

/-- The health flags without a change of the trip circuit (R99). -/
theorem State.handleHealth_same {x : Health} (h : x.tripCircuit = (s.brk b).health.tripCircuit) :
    s.handleHealth b x = s.modBrk b (fun r => { r with health := x, unresponsive := false }) := by
  rw [State.handleHealth, ← h]
  cases x.tripCircuit <;> rfl

/-- The state in which a SENT command has been accepted. -/
def State.commandAccepted (s : State) (b : Nat) (c : Command) : State :=
  s.modBrk b (fun r => { r with slot := some { c with phase := .accepted, timer := 0 } })

/-- The state in which a report without a change of position is held. -/
def State.reported (s : State) (b : Nat) (x : Health) (p : Reported) : State :=
  s.modBrk b (fun r => { r with health := x, unresponsive := false, candidate := some p })

/-- A report in NORMAL mode. -/
theorem State.handleReport_normal (hb : b < s.breakers.recs.length) (hi : s.isolated b = false) {x : Health} {p : Reported}
    (hx : x.tripCircuit = (s.brk b).health.tripCircuit) : s.handleReport b p x =
      if (s.brk b).candidate = some p ∧ (s.brk b).position ≠ reportedPosition p then
        (s.reported b x p).changePosition b (reportedPosition p)
      else s.reported b x p := by
  have hown : (s.modBrk b (fun r => { r with health := x, unresponsive := false })).brk b =
      { s.brk b with health := x, unresponsive := false } := State.brk_modBrk_same _ _ hb
  have hiso : (s.modBrk b (fun r => { r with health := x, unresponsive := false })).isolated b = false := hi
  have hset : (s.modBrk b (fun r => { r with health := x, unresponsive := false })).modBrk b
      (fun r => { r with candidate := some p }) = s.reported b x p := State.modBrk_modBrk _ _
  rw [State.handleReport, State.handleHealth_same hx, State.handlePosition, hiso, hown]
  dsimp only
  rw [if_neg Bool.false_ne_true, hset]
  exact if_congr (by simp) rfl rfl

theorem State.handleReport_isolated (hi : s.isolated b = true) {x : Health} {p : Reported}
    (hx : x.tripCircuit = (s.brk b).health.tripCircuit) : s.handleReport b p x = s.modBrk b (fun r =>
      { r with
        health := x
        unresponsive := false
        fieldPosition := if r.fieldCandidate = some p then reportedPosition p else r.fieldPosition
        fieldCandidate := some p }) := by
  have hiso : (s.modBrk b (fun r => { r with health := x, unresponsive := false })).isolated b = true := hi
  rw [State.handleReport, State.handleHealth_same hx, State.handlePosition, hiso]
  have hfield : ∀ r : BreakerRec, (if r.fieldCandidate == some p then reportedPosition p else r.fieldPosition) =
      if r.fieldCandidate = some p then reportedPosition p else r.fieldPosition := fun r => if_congr beq_iff_eq rfl rfl
  simp only [if_true, hfield]
  exact State.modBrk_modBrk _ _

/-- The end of a report that moves its breaker's record alone. -/
theorem exec_reported (hs : s.Quiet) {i : Instr} {k : BreakerRec → BreakerRec} (hk : ∀ r, (k r).position = r.position)
    (hexec : exec i s = finish s (u.post (.report b f.position f.health))) (hw : u.work = [])
    (hreport : u.handleReport b f.position f.health = (s.reached l .position h).modBrk b k) :
    exec i s = .next ((s.reached l .position h).modBrk b k) := by
  have hwork : ((s.reached l .position h).modBrk b k).work = [] := by cases l <;> exact hs.1
  have hdrains : Drains 1 (u.post (.report b f.position f.health)) ((s.reached l .position h).modBrk b k) :=
    Drains.posted hw hreport hwork
  exact (hexec.trans (congrArg Host.Outcome.next (hdrains.settle (by decide)))).trans
    (((s.reached_frame l .position h).trans (RequestFrame.of_modBrk b _ hk)).finish hs)

theorem State.reached_work (hs : s.Quiet) (k : FrameClass) : (s.reached l k h).work = [] := by cases l <;> exact hs.1

theorem State.reached_length (k : FrameClass) : (s.reached l k h).breakers.recs.length = s.breakers.recs.length := by
  cases l <;> rfl

theorem State.counted_brk_same (hb : b < s.breakers.recs.length) :
    (s.counted b).brk b = { s.brk b with reports := step32 (s.brk b).reports } := State.brk_modBrk_same _ _ hb

theorem State.counted_brk_other (h : a ≠ b) : (s.counted b).brk a = s.brk a := State.brk_modBrk_other _ _ h.symm

@[simp] theorem State.counted_fld (x : TableId) (e id : Nat) : (s.counted b).fld x e id = s.fld x e id := rfl

theorem State.counted_length : (s.counted b).breakers.recs.length = s.breakers.recs.length := List.length_modify ..

/-- What a matched report of a NORMAL breaker with an unchanged trip circuit leads to, where its response has no effect. -/
theorem exec_report (hs : s.Quiet) (hu : (s.port l).up = true) (hv : s.verdict .position h = .taken)
    (hm : s.matchBreaker h.src f.biuNumber = some b)
    (hidle : ∀ c, (s.brk b).slot = some c → s.isolated b = true ∨ c.phase ≠ .sent ∨ c.tag ≠ f.tag ∨ f.response = .none) :
    exec (.positionFrame l h f) s =
      finish s (((s.reached l .position h).counted b).post (.report b f.position f.health)) := by
  have hlen : b < (s.reached l .position h).breakers.recs.length :=
    (State.reached_length .position).symm ▸ hs.lt_recs (State.matchBreaker_lt hm)
  rw [exec_position hu hv hm, State.handleResponse_idle]
  intro c hc
  rw [State.counted_brk_same hlen, State.reached_brk] at hc
  rw [State.isolated, State.counted_fld, State.reached_fld]
  exact hidle c hc

end

/-- Settles the first part of O23. -/
theorem firstReportIsACandidate : Clause.FirstReportIsACandidate := by
  intro s l h f b hs hu hv hm hi hslot htrip hcand
  have hlen : b < (s.reached l .position h).breakers.recs.length :=
    (State.reached_length .position).symm ▸ hs.lt_recs (State.matchBreaker_lt hm)
  have hown := State.counted_brk_same (s := s.reached l .position h) hlen
  rw [State.reached_brk] at hown
  refine exec_reported hs (fun _ => rfl) (exec_report hs hu hv hm (by rw [hslot]; exact fun _ h => by cases h))
    (State.reached_work hs _) ?_
  rw [State.handleReport_normal (by rw [State.counted_length]; exact hlen)
    (by rw [State.isolated, State.counted_fld, State.reached_fld]; exact State.isolated_eq_false hi) (by rw [hown]; exact htrip),
    if_neg (by rw [hown]; exact fun h => hcand h.1), State.reported, State.counted, State.modBrk_modBrk]
  rfl

/-- Settles the eighth part of O23. -/
theorem isolatedReportIsOfTheField : Clause.IsolatedReportIsOfTheField := by
  intro s l h f b hs hu hv hm hi htrip
  have hlen : b < (s.reached l .position h).breakers.recs.length :=
    (State.reached_length .position).symm ▸ hs.lt_recs (State.matchBreaker_lt hm)
  have hown := State.counted_brk_same (s := s.reached l .position h) hlen
  rw [State.reached_brk] at hown
  have hiso : s.isolated b = true := by simpa [State.isolated] using hi
  refine exec_reported hs (fun _ => rfl) (exec_report hs hu hv hm fun _ _ => .inl hiso) (State.reached_work hs _) ?_
  rw [State.handleReport_isolated (by rw [State.isolated, State.counted_fld, State.reached_fld]; exact hiso)
    (by rw [hown]; exact htrip), State.counted, State.modBrk_modBrk]
  rfl

/-- Settles the third part of O23. -/
theorem responseIsHeld : Clause.ResponseIsHeld := by
  intro s l h f b c hs hu hv hm hi hslot htrip hstill r
  have hlen : b < (s.reached l .position h).breakers.recs.length :=
    (State.reached_length .position).symm ▸ hs.lt_recs (State.matchBreaker_lt hm)
  have hown := State.counted_brk_same (s := s.reached l .position h) hlen
  rw [State.reached_brk] at hown
  have hclen : b < ((s.reached l .position h).counted b).breakers.recs.length := State.counted_length.symm ▸ hlen
  have hiso : ((s.reached l .position h).counted b).isolated b = false := by
    rw [State.isolated, State.counted_fld, State.reached_fld]
    exact State.isolated_eq_false hi
  have hreports : ∀ u : State, b < u.breakers.recs.length → u.isolated b = false →
      (u.brk b).candidate = (s.brk b).candidate → (u.brk b).position = (s.brk b).position →
      (u.brk b).health = (s.brk b).health → u.handleReport b f.position f.health = u.reported b f.health f.position :=
    fun u hlt hui hcand hpos hhealth => by
      rw [State.handleReport_normal hlt hui (by rw [hhealth]; exact htrip), if_neg]
      rintro ⟨hc, hp⟩
      exact hp (by rw [hpos]; exact hstill (by rw [← hcand]; exact hc))
  have hresponds : ∀ y, c.phase = .sent → c.tag = f.tag → f.response = y → ((s.reached l .position h).counted b).handleResponse b f =
      match y with
      | .none => (s.reached l .position h).counted b
      | .accepted => ((s.reached l .position h).counted b).commandAccepted b c
      | .refused => ((s.reached l .position h).counted b).endCommand b (.refused (.biu f.reason)) := fun y hp ht hy => by
    rw [State.handleResponse, hown]
    dsimp only
    rw [hslot]
    dsimp only
    rw [hiso, hy]
    refine (if_neg (by simp [hp, ht])).trans ?_
    cases y <;> rfl
  refine ⟨fun hp ht hy => ?_, fun hp ht hy ho hr => ?_, fun hidle => ?_⟩
  · have hexec := exec_position hu hv hm
    rw [hresponds .accepted hp ht hy] at hexec
    dsimp only at hexec
    have hend := exec_reported (l := l) (h := h) (k := fun x => { Clause.reportedRecord x f with
        slot := some { c with phase := .accepted, timer := 0 } }) hs (fun _ => rfl) hexec (State.reached_work hs _) (by
      have hnew : (((s.reached l .position h).counted b).commandAccepted b c).brk b = _ := State.brk_modBrk_same _ _ hclen
      rw [hown] at hnew
      rw [hreports (((s.reached l .position h).counted b).commandAccepted b c) ((List.length_modify ..).symm ▸ hclen) hiso
        (by rw [hnew]) (by rw [hnew]) (by rw [hnew]), State.reported, State.commandAccepted, State.modBrk_modBrk, State.counted,
        State.modBrk_modBrk]
      rfl)
    rw [hend]
    refine congrArg Host.Outcome.next (State.modBrk_congr ?_)
    rw [State.reached_brk]
  · have hexec := exec_position hu hv hm
    have hends : ((s.reached l .position h).counted b).endCommand b (.refused (.biu f.reason)) =
        ((s.reached l .position h).counted b).commandEnded b c (.refused (.biu f.reason)) :=
      State.endCommand_ended (by rw [hown]; exact hslot) (by rw [ho]) (by rw [ho]) (.inr hr)
    rw [hresponds .refused hp ht hy] at hexec
    dsimp only at hexec
    rw [hends] at hexec
    have hnew := State.commandEnded_brk_same (s := (s.reached l .position h).counted b) (c := c)
      (o := .refused (.biu f.reason)) hclen
    have hothers : ∀ a, a ≠ b → (((s.reached l .position h).counted b).commandEnded b c (.refused (.biu f.reason))).brk a =
        s.brk a := fun a ha => by rw [State.commandEnded_brk_other ha, State.counted_brk_other ha, State.reached_brk]
    have hplain : c.tripOpen = false := by simp [Command.tripOpen, ho, Origins.trip]
    have hnewest : (((s.reached l .position h).counted b).commandEnded b c (.refused (.biu f.reason))).newest =
        some ⟨s.events.nextSeq, s.eventLabel, .breaker, 11, b, 6, some (2 + 256 * Reason.code (.biu f.reason)), false⟩ := by
      rw [State.commandEnded_newest, hplain]
      cases l <;> rfl
    have hgone : ∀ k, _ := fun k => State.commandEnded_withdrawn (s := (s.reached l .position h).counted b) (b := b) (c := c)
      (y := .refused (.biu f.reason)) (by rw [hp]; decide) k
    have helen := (State.commandEnded_length (s := (s.reached l .position h).counted b) (b := b) (c := c)
      (o := .refused (.biu f.reason))).symm ▸ hclen
    have heiso : (((s.reached l .position h).counted b).commandEnded b c (.refused (.biu f.reason))).isolated b = false := by
      rw [State.isolated, State.commandEnded_fld]
      exact hiso
    have hework : (((s.reached l .position h).counted b).commandEnded b c (.refused (.biu f.reason))).work = [] :=
      State.commandEnded_work.trans (State.reached_work hs _)
    have htouch : Touches [.links, .events, .breakers] s
        (((s.reached l .position h).counted b).commandEnded b c (.refused (.biu f.reason))) :=
      (((Touches.refl _ s).reached l .position h).modBrk b _).commandEnded b c _
    generalize ((s.reached l .position h).counted b).commandEnded b c (.refused (.biu f.reason)) = e at *
    have hdrains : Drains 1 (e.post (.report b f.position f.health)) (e.reported b f.health f.position) :=
      Drains.posted hework (hreports e helen heiso (by rw [hnew, hown]; rfl) (by rw [hnew, hown]; rfl) (by rw [hnew, hown]; rfl))
        hework
    obtain ⟨t, hend, -, hbrk, htnewest, hport, honly⟩ := finish_breakers_queues hs
      (htouch.modBrk b _) (u := e.reported b f.health f.position) hework
    refine ⟨t, (hexec.trans (congrArg Host.Outcome.next (hdrains.settle (by decide)))).trans hend, ?_, fun a ha => ?_,
      fun k => ?_, ?_, honly⟩
    · rw [hbrk, State.reported, State.brk_modBrk_same _ _ helen, hnew, hown]
      rfl
    · rw [hbrk, State.reported, State.brk_modBrk_other _ _ ha.symm, hothers a ha]
    · rw [hport]
      exact hgone k
    · rw [Records, htnewest, ← hs.eventLabel]
      refine hnewest.trans ?_
      cases f.reason <;> rfl
  · have hend := exec_reported (l := l) (h := h) (k := fun x => Clause.reportedRecord x f) hs (fun _ => rfl)
      (exec_report hs hu hv hm fun c' hc' => .inr ((Option.some.inj (hslot.symm.trans hc')) ▸ hidle)) (State.reached_work hs _) (by
        rw [hreports _ hclen hiso (by rw [hown]) (by rw [hown]) (by rw [hown]), State.reported, State.counted, State.modBrk_modBrk]
        rfl)
    rw [hend]
    refine congrArg Host.Outcome.next (State.modBrk_congr ?_)
    rw [State.reached_brk]

section
variable {s u v : State} {l : Link} {h : Header} {f : PositionBody} {a b n : Nat} {c : Command} {r : BreakerRec}

/-! ### A position is confirmed (R98) -/

/-- A piece of work that leads on. -/
theorem Drains.leads {x : State} {w : Work} (hw : u.work = []) (hhandle : State.handle u w = x) (hx : Drains n x v) :
    Drains (n + 1) (u.post w) v := by
  have hposted : u.post w = { u with work := [w] } := by rw [State.post, hw]; rfl
  have hrun : State.handle { { u with work := [w] } with work := [] } w = x := by
    rw [← hhandle, ← hw]
  rw [hposted]
  exact .last rfl (.of_eq hrun hx)

/-- What a report that confirms another position leads to. -/
theorem exec_confirms {i : Instr} {x : Health} {p : Reported} (hexec : exec i s = finish s (u.post (.report b p x)))
    (hw : u.work = []) (hb : b < u.breakers.recs.length) (hi : u.isolated b = false)
    (hx : x.tripCircuit = (u.brk b).health.tripCircuit) (hc : (u.brk b).candidate = some p)
    (hp : (u.brk b).position ≠ reportedPosition p) (hdrains : Drains n ((u.reported b x p).changePosition b (reportedPosition p)) v)
    (hn : n < Config.workBound := by decide) : exec i s = finish s v := by
  have hreport : u.handleReport b p x = (u.reported b x p).changePosition b (reportedPosition p) := by
    rw [State.handleReport_normal hb hi hx, if_pos ⟨hc, hp⟩]
  exact hexec.trans (congrArg Host.Outcome.next ((Drains.leads (w := .report b p x) hw hreport hdrains).settle hn))

/-- The state in which a report is held. -/
def State.reportHeld (s : State) (l : Link) (h : Header) (f : PositionBody) (b : Nat) : State :=
  ((s.reached l .position h).counted b).reported b f.health f.position

/-- What such a state leaves. -/
structure HoldsReport (s u : State) (b : Nat) (r : BreakerRec) : Prop where
  touches : Touches [.links, .events, .breakers] s u
  own : u.brk b = r
  others : ∀ a, a ≠ b → u.brk a = s.brk a
  length : b < u.breakers.recs.length
  requests : u.breakers.requests = s.breakers.requests
  work : u.work = []
  events : u.events = s.events
  label : u.eventLabel = s.eventLabel
  up : ∀ k, (u.port k).up = (s.port k).up
  hushed : u.hushed = s.hushed

theorem HoldsReport.modBrk (hh : HoldsReport s u b r) (k : BreakerRec → BreakerRec) :
    HoldsReport s (u.modBrk b k) b (k r) where
  touches := hh.touches.modBrk b k
  own := (State.brk_modBrk_same _ _ hh.length).trans (by rw [hh.own])
  others a ha := (State.brk_modBrk_other _ _ ha.symm).trans (hh.others a ha)
  length := (List.length_modify ..).symm ▸ hh.length
  requests := hh.requests
  work := hh.work
  events := hh.events
  label := hh.label
  up k := (by cases k <;> rfl : ((u.modBrk b _).port k).up = (u.port k).up).trans (hh.up k)
  hushed := hh.hushed

theorem State.reached_holds (hs : s.Quiet) (hb : b < 24) : HoldsReport s (s.reached l .position h) b (s.brk b) where
  touches := (Touches.refl _ s).reached l .position h
  own := State.reached_brk ..
  others a _ := State.reached_brk ..
  length := (State.reached_length .position).symm ▸ hs.lt_recs hb
  requests := by cases l <;> rfl
  work := State.reached_work hs _
  events := by cases l <;> rfl
  label := by cases l <;> rfl
  up k := by cases l <;> cases k <;> rfl
  hushed := by cases l <;> rfl

theorem State.reportHeld_holds (hs : s.Quiet) (hb : b < 24) :
    HoldsReport s (s.reportHeld l h f b) b (Clause.reportedRecord (s.brk b) f) :=
  ((State.reached_holds hs hb).modBrk _).modBrk _

namespace HoldsReport

theorem par (hh : HoldsReport s u b r) : u.par = s.par := hh.touches.stands .par (by decide)
theorem seq (hh : HoldsReport s u b r) : u.seq = s.seq := hh.touches.stands .seq (by decide)
theorem mgmt (hh : HoldsReport s u b r) : u.mgmt = s.mgmt := hh.touches.stands .mgmt (by decide)

theorem fld (hh : HoldsReport s u b r) (x : TableId) (e id : Nat) : u.fld x e id = s.fld x e id := by
  rw [State.fld, hh.mgmt, State.fld]

theorem run (hh : HoldsReport s u b r) : u.run? = s.run? := by rw [State.run?, hh.seq, State.run?]

theorem genOf (hh : HoldsReport s u b r) : u.genOf b = s.genOf b :=
  State.genOf_congr (congrArg Management.tables hh.mgmt)

end HoldsReport

/-- What a report that confirms another position leads to, where its response has no effect. -/
theorem exec_report_confirms (hs : s.Quiet) (hu : (s.port l).up = true) (hv : s.verdict .position h = .taken)
    (hm : s.matchBreaker h.src f.biuNumber = some b) (hi : s.fld .breaker b 21 ≠ 1) (hslot : (s.brk b).slot = none)
    (hx : f.health.tripCircuit = (s.brk b).health.tripCircuit) (hc : (s.brk b).candidate = some f.position)
    (hp : (s.brk b).position ≠ reportedPosition f.position)
    (hdrains : Drains n ((s.reportHeld l h f b).changePosition b (reportedPosition f.position)) v)
    (hn : n < Config.workBound := by decide) : exec (.positionFrame l h f) s = finish s v := by
  have hlen : b < (s.reached l .position h).breakers.recs.length :=
    (State.reached_length .position).symm ▸ hs.lt_recs (State.matchBreaker_lt hm)
  have hown := State.counted_brk_same (s := s.reached l .position h) hlen
  rw [State.reached_brk] at hown
  exact exec_confirms (exec_report hs hu hv hm (by rw [hslot]; exact fun _ h => by cases h)) (State.reached_work hs _)
    (State.counted_length.symm ▸ hlen)
    (by rw [State.isolated, State.counted_fld, State.reached_fld]; exact State.isolated_eq_false hi) (by rw [hown]; exact hx)
    (by rw [hown]; exact hc) (by rw [hown]; exact hp) hdrains hn

theorem State.completeCommand_none (h : (s.brk b).slot = none) : s.completeCommand b = s := by
  rw [State.completeCommand, h]

theorem State.checkTrips_open (h : (s.brk b).position = .opened) : s.checkTrips b = s := by
  rw [State.checkTrips]
  exact if_neg (by simp [h])

/-- A change of position of a breaker without a command, where nothing trips it again and no BF runs. -/
theorem State.changePosition_plain (hb : b < s.breakers.recs.length) {new : Position} (hslot : (s.brk b).slot = none)
    (htrips : (s.brk b).trips = [] ∨ new = .opened) (hbf : (s.brk b).bf = .idle) :
    s.changePosition b new = (s.moved b new).post (.seqPosition b) := by
  have hmoved : (s.moved b new).brk b = _ := (State.moved_brk new b).trans (State.positioned_brk_same hb new)
  have hchecks : (s.moved b new).checkTrips b = s.moved b new := by
    obtain htrips | hopen := htrips
    · refine State.checkTrips_none ?_
      rw [hmoved, htrips]
      exact ite_self _
    · exact State.checkTrips_open (by rw [hmoved]; exact hopen)
  rw [State.changePosition_eq, State.completeCommand_none (by rw [hmoved]; exact hslot), hchecks,
    State.testBf_idle (by rw [hmoved]; exact hbf)]

/-- The line-up is due where the breaker is watched. -/
theorem State.lineupMarked_seq : (s.lineupMarked b).seq =
    { s.seq with lineupDue := decide (b ∈ watchedBreakers s.mgmt.tables) || s.seq.lineupDue } := by
  rw [State.lineupMarked]
  by_cases hw : b ∈ watchedBreakers s.mgmt.tables
  · rw [if_pos (List.contains_iff_mem.2 hw), decide_eq_true hw]
    rfl
  · rw [if_neg (by simpa using hw), decide_eq_false hw]
    rfl

theorem State.lineupMarked_newest : (s.lineupMarked b).newest = s.newest := by unfold State.lineupMarked; split <;> rfl

theorem State.moved_seq {new : Position} : (s.moved b new).seq =
    { s.seq with lineupDue := decide (b ∈ watchedBreakers s.mgmt.tables) || s.seq.lineupDue } := by
  rw [State.moved, State.post_seq, State.lineupMarked_seq, State.positioned_seq, State.positioned_mgmt]

theorem State.moved_newest {new : Position} : (s.moved b new).newest =
    some ⟨s.events.nextSeq, s.eventLabel, .breaker, 9, b, 1, some new.code, false⟩ := by
  rw [State.moved, State.post_newest, State.lineupMarked_newest, State.positioned, State.event_newest]
  rfl

theorem State.moved_brk_other {new : Position} (h : a ≠ b) : (s.moved b new).brk a = s.brk a := by
  rw [State.moved_brk, State.positioned_brk_other h]

theorem State.moved_requests {new : Position} : (s.moved b new).breakers.requests = s.breakers.requests := by
  rw [State.moved, State.post_breakers, State.lineupMarked_breakers, State.positioned, State.event_breakers]
  rfl

theorem State.moved_fld {new : Position} (x : TableId) (e id : Nat) : (s.moved b new).fld x e id = s.fld x e id := by
  rw [State.fld, State.moved_mgmt, State.fld]

theorem State.post_port (w : Work) (k : Link) : (s.post w).port k = s.port k := by cases k <;> rfl

theorem State.lineupMarked_up (k : Link) : ((s.lineupMarked b).port k).up = (s.port k).up := by
  unfold State.lineupMarked
  split <;> cases k <;> rfl

theorem State.moved_up {new : Position} (k : Link) : ((s.moved b new).port k).up = (s.port k).up := by
  have hmod : ∀ f, ((s.modBrk b f).port k).up = (s.port k).up := fun f => by cases k <;> rfl
  rw [State.moved, State.post_port, State.lineupMarked_up, State.positioned,
    (State.event_port .breaker 9 b 1 (some new.code) k).up, hmod]

/-- The end of a report that concerns no generator and no plan. -/
theorem finish_confirmed (hs : s.Quiet) {old new : Position} {own tripped : Bool}
    (ht : Touches [.links, .events, .breakers, .seq] s u)
    (hwork : u.work = [.genPosition b old new own tripped, .seqPosition b]) (hg : s.genOf b = none) (hr : u.run? = none) :
    ∃ v t, Drains 2 u v ∧ finish s v = .next t ∧ t.breakers = u.breakers ∧ (∀ a, t.brk a = u.brk a) ∧ t.seq = u.seq ∧
      t.newest = u.newest ∧ (∀ k, t.port k = u.port k) ∧ Only [.links, .events, .breakers, .seq] s t := by
  have hmgmt : u.mgmt = s.mgmt := ht.stands .mgmt (by decide)
  have hpar : u.par = s.par := ht.stands .par (by decide)
  have hdrains := Drains.positionWork hwork ((State.genOf_congr (congrArg Management.tables hmgmt)).trans hg) hr
  have hset : ∀ g, u.setpointOf g = s.setpointOf g :=
    State.setpointOf_congr (congrArg Paralleling.gens hpar) (congrArg Management.tables hmgmt)
  obtain ⟨es, hend, honly⟩ := finish_settled hs ht.rested rfl hset
  exact ⟨_, _, hdrains, hend, rfl, fun _ => rfl, rfl, rfl, fun k => by cases k <;> rfl, honly⟩

end

/-- Settles the second part of O23. -/
theorem secondReportConfirms : Clause.SecondReportConfirms := by
  intro s l h f b hs hu hv hm hi hslot hx hc hp htrips hbf hg hr
  have hheld := State.reportHeld_holds (l := l) (h := h) (f := f) hs (State.matchBreaker_lt hm)
  have hexec := fun n v hd hn => exec_report_confirms (n := n) (v := v) hs hu hv hm hi hslot hx hc hp hd hn
  generalize s.reportHeld l h f b = u at *
  have hown := hheld.own
  have hmoves := State.changePosition_plain (new := reportedPosition f.position) hheld.length
    (by rw [hown]; exact hslot) (.inl (by rw [hown]; exact htrips)) (by rw [hown]; exact hbf)
  have hwork := congrArg (· ++ [Work.seqPosition b]) (State.moved_work hheld.work (reportedPosition f.position) (b := b))
  have htouch := (hheld.touches.mono (qs := [.links, .events, .breakers, .seq]) (by decide)).moved b (reportedPosition f.position)
  have hrun := (State.moved_run (b := b) (reportedPosition f.position)).trans (hheld.run.trans hr)
  have hnew : (u.moved b (reportedPosition f.position)).brk b = _ :=
    (State.moved_brk _ b).trans (State.positioned_brk_same hheld.length _)
  have hothers : ∀ a, a ≠ b → (u.moved b (reportedPosition f.position)).brk a = s.brk a := fun a ha =>
    (State.moved_brk_other ha).trans (hheld.others a ha)
  have hseq := State.moved_seq (s := u) (b := b) (new := reportedPosition f.position)
  have hnewest := State.moved_newest (s := u) (b := b) (new := reportedPosition f.position)
  generalize u.moved b (reportedPosition f.position) = w at *
  obtain ⟨v, t, hdrains, hend, -, hbrk, htseq, htnewest, -, honly⟩ := finish_confirmed hs (htouch.post (.seqPosition b)) hwork
    hg hrun
  refine ⟨t, (hexec 2 v (.of_eq hmoves hdrains) (by decide)).trans hend, ?_, fun a ha => ?_, ?_, ?_, honly⟩
  · refine (hbrk b).trans (hnew.trans ?_)
    have hkept : (u.brk b).trips.filter (· != .parallelLimit) = (u.brk b).trips := by rw [hown]; simp [Clause.reportedRecord, htrips]
    rw [hkept, ite_self, hown, Clause.reportedRecord, ← hc]
  · exact (hbrk a).trans (hothers a ha)
  · refine htseq.trans (hseq.trans ?_)
    rw [hheld.seq, hheld.mgmt]
  · rw [Records, htnewest]
    refine hnewest.trans ?_
    rw [hheld.events, hheld.label, ← hs.eventLabel]

section
variable {s : State} {l : Link} {h : Header} {f : PositionBody} {b : Nat} {c : Command}

/-- What a report that confirms another position leads to, where the slot holds a command that it does not refuse. -/
theorem exec_report_reaches (hs : s.Quiet) (hu : (s.port l).up = true) (hv : s.verdict .position h = .taken)
    (hm : s.matchBreaker h.src f.biuNumber = some b) (hi : s.fld .breaker b 21 ≠ 1) (hslot : (s.brk b).slot = some c)
    (hq : c.phase ≠ .queued) (hresponse : f.response ≠ .refused)
    (hx : f.health.tripCircuit = (s.brk b).health.tripCircuit) (hc : (s.brk b).candidate = some f.position)
    (hp : (s.brk b).position ≠ reportedPosition f.position) : ∃ u d,
      HoldsReport s u b { Clause.reportedRecord (s.brk b) f with slot := some d } ∧ d.phase ≠ .queued ∧ d.tag = c.tag ∧
      d.action = c.action ∧ d.origins = c.origins ∧ d.requester = c.requester ∧
      ∀ n v, Drains n (u.changePosition b (reportedPosition f.position)) v → n < Config.workBound →
        exec (.positionFrame l h f) s = finish s v := by
  have hlen : b < (s.reached l .position h).breakers.recs.length :=
    (State.reached_length .position).symm ▸ hs.lt_recs (State.matchBreaker_lt hm)
  have hown := State.counted_brk_same (s := s.reached l .position h) hlen
  rw [State.reached_brk] at hown
  have hclen : b < ((s.reached l .position h).counted b).breakers.recs.length := State.counted_length.symm ▸ hlen
  have hiso : ((s.reached l .position h).counted b).isolated b = false := by
    rw [State.isolated, State.counted_fld, State.reached_fld]
    exact State.isolated_eq_false hi
  have hexec := exec_position hu hv hm
  by_cases ha : c.phase = .sent ∧ c.tag = f.tag ∧ f.response = .accepted
  · obtain ⟨hsent, htag, haccepted⟩ := ha
    have hresponds : ((s.reached l .position h).counted b).handleResponse b f =
        ((s.reached l .position h).counted b).commandAccepted b c := by
      rw [State.handleResponse, hown]
      dsimp only
      rw [hslot]
      dsimp only
      rw [hiso, haccepted]
      exact if_neg (by simp [hsent, htag])
    have hheld : HoldsReport s ((((s.reached l .position h).counted b).commandAccepted b c).reported b f.health f.position) b
        { Clause.reportedRecord (s.brk b) f with slot := some { c with phase := .accepted, timer := 0 } } :=
      (((State.reached_holds hs (State.matchBreaker_lt hm)).modBrk _).modBrk _).modBrk _
    rw [hresponds] at hexec
    refine ⟨_, { c with phase := .accepted, timer := 0 }, hheld, by simp, rfl, rfl, rfl, rfl, fun n v hd hn => ?_⟩
    have hnew : (((s.reached l .position h).counted b).commandAccepted b c).brk b = _ := State.brk_modBrk_same _ _ hclen
    rw [hown] at hnew
    exact exec_confirms hexec (State.reached_work hs _) ((List.length_modify ..).symm ▸ hclen) hiso (by rw [hnew]; exact hx)
      (by rw [hnew]; exact hc) (by rw [hnew]; exact hp) hd hn
  · have hresponds : ((s.reached l .position h).counted b).handleResponse b f = (s.reached l .position h).counted b := by
      refine State.handleResponse_idle fun d hd => .inr ?_
      rw [hown] at hd
      obtain rfl := Option.some.inj (hslot.symm.trans hd)
      by_contra hno
      simp only [not_or, not_not] at hno
      obtain ⟨hsent, htag, hsome⟩ := hno
      refine ha ⟨hsent, htag, ?_⟩
      cases hf : f.response with
      | none => exact absurd hf hsome
      | accepted => rfl
      | refused => exact absurd hf hresponse
    have hheld := State.reportHeld_holds (l := l) (h := h) (f := f) hs (State.matchBreaker_lt hm)
    have hsame : Clause.reportedRecord (s.brk b) f = { Clause.reportedRecord (s.brk b) f with slot := some c } := by
      rw [← hslot]
      rfl
    rw [hresponds] at hexec
    refine ⟨_, c, hsame ▸ hheld, hq, rfl, rfl, rfl, rfl, fun n v hd hn => ?_⟩
    exact exec_confirms hexec (State.reached_work hs _) hclen hiso (by rw [hown]; exact hx) (by rw [hown]; exact hc)
      (by rw [hown]; exact hp) hd hn

end

/-- Settles the fourth part of O23. -/
theorem confirmationCompletes : Clause.ConfirmationCompletes := by
  intro s l h f b c hs hu hv hm hi hslot hq hresponse ho hrequester hx hc hp htarget htrips hbf hg hr
  obtain ⟨u, d, hheld, hdq, htag, haction, horigins, hdr, hexec⟩ :=
    exec_report_reaches hs hu hv hm hi hslot hq hresponse hx hc hp
  have hown := hheld.own
  have htarget' : d.action.target = reportedPosition f.position := by
    rw [htarget, haction]
    cases c.action <;> rfl
  obtain ⟨harrives, hnew⟩ := State.changePosition_arrived (s := u) (c := d) (new := reportedPosition f.position) hheld.length
    (by rw [hown]) hdq htarget' (horigins.trans ho) (hdr.trans hrequester) (by rw [hown]; exact htrips) (by rw [hown]; exact hbf)
  have hwork : (u.arrived b (reportedPosition f.position) d).work = [.genPosition b (u.brk b).position
      (reportedPosition f.position) ((u.brk b).ownOpen (reportedPosition f.position)) (!(u.brk b).trips.isEmpty),
      .seqPosition b] := by
    rw [State.arrived, State.post_work, State.commandEnded_work, State.moved_work hheld.work]
    rfl
  have hrun : (u.arrived b (reportedPosition f.position) d).run? = none := by
    rw [State.arrived, State.post_run, State.commandEnded_run, State.moved_run, hheld.run, hr]
  have hseq : (u.arrived b (reportedPosition f.position) d).seq =
      { u.seq with lineupDue := decide (b ∈ watchedBreakers u.mgmt.tables) || u.seq.lineupDue } := by
    rw [State.arrived, State.post_seq, State.commandEnded_seq, State.moved_seq]
  have htouch := (hheld.touches.mono (qs := [.links, .events, .breakers, .seq]) (by decide)).arrived b
    (reportedPosition f.position) d
  have hothers : ∀ a, a ≠ b → (u.arrived b (reportedPosition f.position) d).brk a = s.brk a := fun a ha =>
    (State.arrived_brk_other ha).trans (hheld.others a ha)
  have hgone : ∀ k, ∀ x ∈ ((u.arrived b (reportedPosition f.position) d).port k).urgent ++
      ((u.arrived b (reportedPosition f.position) d).port k).normal, x.biuFrame b c.tag = false := fun k => by
    rw [State.arrived, State.post_port, ← htag]
    exact State.commandEnded_withdrawn hdq k
  have hnewest : (u.arrived b (reportedPosition f.position) d).newest.map
      (fun x => (x.cls, x.priority, x.object, x.code, x.value)) = some (.breaker, 6, b, 6, some 0) := by
    have hplain : d.tripOpen = false := by simp [Command.tripOpen, horigins, ho, Origins.trip]
    rw [State.arrived, State.post_newest, State.commandEnded_newest, hplain]
    rfl
  generalize u.arrived b (reportedPosition f.position) d = w at *
  obtain ⟨v, t, hdrains, hend, -, hbrk, htseq, htnewest, hport, honly⟩ := finish_confirmed hs htouch hwork hg hrun
  refine ⟨t, (hexec 2 v (.of_eq harrives hdrains) (by decide)).trans hend, ?_, fun a ha => ?_, fun k => ?_, ?_, ?_, honly⟩
  · refine (hbrk b).trans (hnew.trans ?_)
    rw [hown]
    rfl
  · exact (hbrk a).trans (hothers a ha)
  · rw [hport]
    exact hgone k
  · rw [htnewest, hnewest]
  · rw [htseq, hseq, hheld.seq, hheld.mgmt]

section
variable {s u : State} {a b : Nat}

/-! ### BF ends with a confirmed OPEN (R115) -/

/-- Those that hold the BACKUP of a breaker or have it on its way. -/
def State.backupHolders (s : State) (b : Nat) : List Nat :=
  (List.range 24).filter (fun a => (s.brk a).trips.contains (.backup b) || s.addOutstanding a (.backup b))

theorem State.addOutstanding_eq {m : Member} : s.addOutstanding a m = decide (⟨true, a, m⟩ ∈ s.breakers.requests) := by
  rw [State.addOutstanding, Bool.eq_iff_iff, List.any_eq_true, decide_eq_true_eq]
  refine ⟨fun ⟨q, hq, hfits⟩ => ?_, fun hq => ⟨_, hq, by simp⟩⟩
  obtain ⟨add, brk, mem⟩ := q
  simp only [Bool.and_eq_true, beq_iff_eq] at hfits
  obtain ⟨⟨rfl, rfl⟩, rfl⟩ := hfits
  exact hq

/-- The requests that the end of BF brings. -/
def State.backupLeaves (s : State) (b : Nat) : List DemandRequest :=
  if (s.brk b).bf = .backupIssued then (s.backupHolders b).map (fun a => ⟨false, a, .backup b⟩) else []

/-- The state in which more requests wait. -/
def State.asking (s : State) (qs : List DemandRequest) : State :=
  { s with breakers := { s.breakers with requests := s.breakers.requests ++ qs } }

/-- The record without a BF. -/
def BreakerRec.bfEnded (r : BreakerRec) : BreakerRec := { r with bf := .idle, bfTimer := 0, bfOrigins := {} }

/-- The state in which BF is IDLE again and recorded so. -/
def State.bfReset (s : State) (b : Nat) : State :=
  ((s.modBrk b BreakerRec.bfEnded).asking (s.backupLeaves b)).event .breaker 9 b 9 none

theorem State.asking_nil : s.asking [] = s := by
  rw [State.asking, List.append_nil]

theorem State.resetBf_eq : s.resetBf b = s.bfReset b := by
  have hasks : ∀ t : State, t.forEach (s.backupHolders b) (fun a v => v.askRemove a (.backup b)) =
      t.asking ((s.backupHolders b).map (fun a => ⟨false, a, .backup b⟩)) := fun t => State.forEach_askRemove _ _ t
  rw [State.resetBf, State.bfReset, State.backupLeaves]
  by_cases h : (s.brk b).bf = .backupIssued
  · rw [if_pos (by simp [h]), if_pos h]
    exact congrArg (fun t : State => t.event .breaker 9 b 9 none) (hasks _)
  · rw [if_neg (by simp [h]), if_neg h, State.asking_nil]
    rfl

theorem State.bfReset_brk_same (hb : b < s.breakers.recs.length) : (s.bfReset b).brk b = (s.brk b).bfEnded := by
  rw [State.bfReset, State.event_brk]
  exact State.brk_modBrk_same _ _ hb

theorem State.bfReset_brk_other (h : a ≠ b) : (s.bfReset b).brk a = s.brk a := by
  rw [State.bfReset, State.event_brk]
  exact State.brk_modBrk_other _ _ h.symm

theorem State.bfReset_requests : (s.bfReset b).breakers.requests = s.breakers.requests ++ s.backupLeaves b := by
  rw [State.bfReset, State.event_breakers]
  rfl

theorem State.bfReset_work : (s.bfReset b).work = s.work := by
  rw [State.bfReset, State.event_work]
  rfl

theorem State.bfReset_run : (s.bfReset b).run? = s.run? := by
  rw [State.run?, State.bfReset, State.event_seq]
  rfl

theorem State.bfReset_newest : (s.bfReset b).newest.map (fun x => (x.cls, x.priority, x.object, x.code, x.value)) =
    some (.breaker, 9, b, 9, none) := by
  rw [State.bfReset, State.event_newest]
  rfl

theorem Touches.asking {ps : List StatePart} (h : Touches ps s u) (qs : List DemandRequest) (hb : .breakers ∈ ps := by decide) :
    Touches ps s (u.asking qs) :=
  h.trans ⟨rfl, id, fun _ => ⟨rfl, rfl, rfl⟩, fun p hp => by cases p <;> first | exact absurd hb hp | rfl⟩

theorem Touches.bfReset {ps : List StatePart} (h : Touches ps s u) (b : Nat) (hl : .links ∈ ps := by decide)
    (he : .events ∈ ps := by decide) (hb : .breakers ∈ ps := by decide) : Touches ps s (u.bfReset b) :=
  ((h.modBrk b _ hb).asking _ hb).event _ _ _ _ _ hl he

/-- BF at a breaker that is OPEN and without a current stream. -/
theorem State.testBf_resets (hp : (s.brk b).position = .opened) (hstream : s.fld .breaker b 14 = 0xFFFF)
    (hbf : (s.brk b).bf ≠ .idle) : s.testBf b = s.bfReset b := by
  have hpasses : s.failureTest b = false := by simp [State.failureTest, hp, hstream, Config.noneField]
  rw [State.testBf, ← State.resetBf_eq]
  exact if_pos (by simp [hbf, hpasses])

end

/-- Settles the fifth part of O23. -/
theorem confirmedOpenResetsBf : Clause.ConfirmedOpenResetsBf := by
  intro s l h f b hs hu hv hm hi hslot hx hf hc hp hbf hstream hg hr
  have hpos : reportedPosition f.position = .opened := by rw [hf]; rfl
  have hheld := State.reportHeld_holds (l := l) (h := h) (f := f) hs (State.matchBreaker_lt hm)
  have hexec := fun n v hd hn => exec_report_confirms (n := n) (v := v) hs hu hv hm hi hslot hx (by rw [hf]; exact hc)
    (by rw [hpos]; exact hp) hd hn
  generalize s.reportHeld l h f b = u at *
  have hown := hheld.own
  rw [hpos] at hexec
  have hnew : (u.moved b .opened).brk b = { Clause.reportedRecord (s.brk b) f with
      position := .opened, trips := (s.brk b).trips.filter (· != .parallelLimit) } := by
    rw [State.moved_brk, State.positioned_brk_same hheld.length, hown]
    rfl
  have hothers : ∀ a, a ≠ b → (u.moved b .opened).brk a = s.brk a := fun a ha =>
    (State.moved_brk_other ha).trans (hheld.others a ha)
  have hmoves : u.changePosition b .opened = ((u.moved b .opened).bfReset b).post (.seqPosition b) := by
    rw [State.changePosition_eq, State.completeCommand_none (by rw [hnew]; exact hslot),
      State.checkTrips_open (by rw [hnew]), State.testBf_resets (by rw [hnew]) (by rw [State.moved_fld, hheld.fld]; exact hstream)
        (by rw [hnew]; exact hbf)]
  have hholders : (u.moved b .opened).backupHolders b = (List.range 24).filter (fun a =>
      decide (Member.backup b ∈ (s.brk a).trips ∨ ⟨true, a, .backup b⟩ ∈ s.breakers.requests)) := by
    refine List.filter_congr fun a _ => ?_
    have hkept : ((u.moved b .opened).brk a).trips.contains (.backup b) = (s.brk a).trips.contains (.backup b) := by
      by_cases ha : a = b
      · rw [ha, hnew, Bool.eq_iff_iff, List.contains_iff_mem, List.contains_iff_mem]
        simp
      · rw [hothers a ha]
    rw [hkept, State.addOutstanding_eq, State.moved_requests, hheld.requests, Bool.decide_or, List.contains_eq_mem]
  have hleaves : (u.moved b .opened).backupLeaves b = if (s.brk b).bf = .backupIssued then
      ((List.range 24).filter (fun a => decide (Member.backup b ∈ (s.brk a).trips ∨
        ⟨true, a, .backup b⟩ ∈ s.breakers.requests))).map (fun a => ⟨false, a, .backup b⟩) else [] := by
    rw [State.backupLeaves, hnew, hholders]
    rfl
  have hlen : b < (u.moved b .opened).breakers.recs.length := (State.moved_length _).symm ▸ hheld.length
  have hmwork := State.moved_work hheld.work .opened (b := b)
  have hmrequests := (State.moved_requests (s := u) (b := b) (new := .opened)).trans hheld.requests
  have hmrun := (State.moved_run (b := b) .opened).trans (hheld.run.trans hr)
  have hmtouch := (hheld.touches.mono (qs := [.links, .events, .breakers, .seq]) (by decide)).moved b .opened
  generalize u.moved b .opened = w at *
  have hwork : ((w.bfReset b).post (.seqPosition b)).work = [.genPosition b (u.brk b).position .opened
      ((u.brk b).ownOpen .opened) (!(u.brk b).trips.isEmpty), .seqPosition b] := by
    rw [State.post_work, State.bfReset_work, hmwork]
    rfl
  obtain ⟨v, t, hdrains, hend, hbreakers, hbrk, -, htnewest, -, honly⟩ :=
    finish_confirmed hs ((hmtouch.bfReset b).post (.seqPosition b)) hwork hg (State.bfReset_run.trans hmrun)
  refine ⟨t, (hexec 2 v (.of_eq hmoves hdrains) (by decide)).trans hend, ?_, fun a ha => ?_, ?_, ?_, honly⟩
  · rw [hbrk, State.post_brk, State.bfReset_brk_same hlen, hnew]
    rfl
  · rw [hbrk, State.post_brk, State.bfReset_brk_other ha, hothers a ha]
  · rw [hbreakers, State.post_breakers, State.bfReset_requests, hmrequests, hleaves]
  · rw [htnewest, State.post_newest, State.bfReset_newest]

section
variable {s u : State} {b : Nat}

theorem originsOf_trip {ms : List Member} (h : ms ≠ []) : (originsOf ms).trip = true ∧ (originsOf ms).tripPart = originsOf ms := by
  have hfold : ∀ (ms : List Member) (o : Origins), o.tripPart = o →
      (ms.foldl (fun o m => o.union (Member.origin m)) o).tripPart = ms.foldl (fun o m => o.union (Member.origin m)) o ∧
        (o.trip = true → (ms.foldl (fun o m => o.union (Member.origin m)) o).trip = true) := by
    intro ms
    induction ms with
    | nil => exact fun o ho => ⟨ho, id⟩
    | cons m ms ih =>
      intro o ho
      obtain ⟨hpart, htrip⟩ := ih (o.union (Member.origin m)) (by
        rw [← ho]
        cases m <;> rfl)
      refine ⟨hpart, fun h => htrip ?_⟩
      rw [Origins.trip] at h ⊢
      cases m <;> simp_all [Origins.union, Member.origin]
  cases ms with
  | nil => exact absurd rfl h
  | cons m ms =>
    obtain ⟨hpart, htrip⟩ := hfold ms (({} : Origins).union (Member.origin m)) (by cases m <;> rfl)
    exact ⟨htrip (by cases m <;> rfl), hpart⟩

/-- A breaker found CLOSED or in travel under a trip demand without an OPEN. -/
theorem State.checkTrips_opens (hp : (s.brk b).position = .closed ∨ (s.brk b).position = .travel)
    (htrips : (s.brk b).trips ≠ []) (hslot : (s.brk b).slot = none) :
    s.checkTrips b = s.openFor b (originsOf (s.brk b).trips) := by
  rw [State.checkTrips]
  refine if_pos ?_
  rw [hslot]
  simp [hp, htrips]

theorem State.testBf_runs (hp : (s.brk b).position ≠ .opened) : s.testBf b = s := by
  rw [State.testBf]
  exact if_neg (by simp [State.failureTest, hp])

end

/-- Settles the sixth part of O23. -/
theorem demandedBreakerOpensAgain : Clause.DemandedBreakerOpensAgain := by
  intro s l h f b hs hu hv hm hi hslot hx hf hc hp htrips hbf hg hr o
  obtain ⟨htrip, hpart⟩ := originsOf_trip htrips
  have hclosed : reportedPosition f.position = .closed ∨ reportedPosition f.position = .travel := by
    obtain hf | hf := hf <;> rw [hf]
    · exact .inl rfl
    · exact .inr rfl
  have hopen : reportedPosition f.position ≠ .opened := by obtain h | h := hclosed <;> rw [h] <;> decide
  have hheld := State.reportHeld_holds (l := l) (h := h) (f := f) hs (State.matchBreaker_lt hm)
  have hexec := fun n v hd hn => exec_report_confirms (n := n) (v := v) hs hu hv hm hi hslot hx hc hp hd hn
  generalize s.reportHeld l h f b = u at *
  have hown := hheld.own
  have hnew : (u.moved b (reportedPosition f.position)).brk b = { Clause.reportedRecord (s.brk b) f with
      position := reportedPosition f.position } := by
    rw [State.moved_brk, State.positioned_brk_same hheld.length, if_neg (by simpa using hopen), hown]
  have hothers : ∀ a, a ≠ b → (u.moved b (reportedPosition f.position)).brk a = s.brk a := fun a ha =>
    (State.moved_brk_other ha).trans (hheld.others a ha)
  have hmoves := State.changePosition_eq (s := u) (b := b) (reportedPosition f.position)
  have hlen : b < (u.moved b (reportedPosition f.position)).breakers.recs.length := (State.moved_length _).symm ▸ hheld.length
  have hmwork := State.moved_work hheld.work (reportedPosition f.position) (b := b)
  have hmrequests := (State.moved_requests (s := u) (b := b) (new := reportedPosition f.position)).trans hheld.requests
  have hmrun := (State.moved_run (b := b) (reportedPosition f.position)).trans (hheld.run.trans hr)
  have hmtouch := (hheld.touches.mono (qs := [.links, .events, .breakers, .seq]) (by decide)).moved b (reportedPosition f.position)
  have hmfld : ∀ x e id, (u.moved b (reportedPosition f.position)).fld x e id = s.fld x e id := fun x e id =>
    (State.moved_fld x e id).trans (hheld.fld x e id)
  have hmup : ∀ k, ((u.moved b (reportedPosition f.position)).port k).up = (s.port k).up := fun k =>
    (State.moved_up k).trans (hheld.up k)
  generalize u.moved b (reportedPosition f.position) = w at *
  have htrips' : (w.brk b).trips = (s.brk b).trips := by rw [hnew]; rfl
  have hslot' : (w.brk b).slot = none := by rw [hnew]; exact hslot
  have hbf' : (w.brk b).bf = .idle := by rw [hnew]; exact hbf
  have hpos' : (w.brk b).position = reportedPosition f.position := by rw [hnew]
  have hopens : w.openFor b o = w.tripPlaced b o := State.openRequest_trips hlen
    (by rw [State.brkConfigured, hmfld]; exact State.matchBreaker_configured hm)
    (by rw [State.isolated, hmfld]; exact State.isolated_eq_false hi) hslot' (by rw [hpos']; exact hopen) hbf' htrip hpart
  have hplaced := State.tripPlaced_brk_same hlen hbf' htrip hpart
  rw [State.completeCommand_none hslot', State.checkTrips_opens (by rw [hpos']; exact hclosed) (by rw [htrips']; exact htrips) hslot',
    htrips', hopens, State.testBf_runs (by rw [hplaced, BreakerRec.tripped, hpos']; exact hopen)] at hmoves
  have hwork : ((w.tripPlaced b o).post (.seqPosition b)).work = [.genPosition b (u.brk b).position (reportedPosition f.position)
      ((u.brk b).ownOpen (reportedPosition f.position)) (!(u.brk b).trips.isEmpty), .seqPosition b] := by
    rw [State.post_work, State.tripPlaced_work, hmwork]
    rfl
  have hrun : ((w.tripPlaced b o).post (.seqPosition b)).run? = none := by
    rw [State.post_run, State.run?, State.tripPlaced, State.event_seq]
    exact hmrun
  obtain ⟨v, t, hdrains, hend, hbreakers, hbrk, -, htnewest, hport, honly⟩ :=
    finish_confirmed hs ((hmtouch.tripPlaced b o).post (.seqPosition b)) hwork hg hrun
  refine ⟨t, (hexec 2 v (.of_eq hmoves hdrains) (by decide)).trans hend, ?_, fun a ha => ?_, ?_, fun k hk => ?_, ?_, honly⟩
  · rw [hbrk, State.post_brk, hplaced, hnew]
    rfl
  · rw [hbrk, State.post_brk, State.tripPlaced_brk_other ha, hothers a ha]
  · rw [hbreakers, State.post_breakers, State.tripPlaced_requests, hmrequests]
  · obtain ⟨x, hx, hbody, hdst⟩ := State.tripPlaced_urgent (b := b) (o := o) ((hmup k).trans hk)
    rw [hmfld, hnew] at hbody
    rw [hmfld] at hdst
    exact ⟨x, by rw [hport, State.post_port]; exact hx, hbody, hdst⟩
  · rw [htnewest, State.post_newest, State.tripPlaced_newest]
    rfl

section
variable {s u v x : State} {a b g : Nat} {new : GenState} {old p : Position} {own tripped : Bool}

/-! ### A generator follows its breaker (R164, R167) -/

theorem State.genOf_some (h : s.genOf b = some g) : g < 8 ∧ s.genConfigured g = true ∧ s.genBreaker g = b := by
  have hfound := List.find?_some h
  rw [Bool.and_eq_true, beq_iff_eq] at hfound
  exact ⟨List.mem_range.1 (List.mem_of_find?_eq_some h), hfound⟩

/-- A change of position that its generator answers with a state `v`, the report of the loaded counts behind it or not. -/
theorem Drains.genPosition (hwork : u.work = [.genPosition b old p own tripped, .seqPosition b])
    (hx : State.genMoved { u with work := [] } b old p own tripped = x) (hv : v.work = [])
    (hreport : x = v ∨ x = v.post .gensReport) (hr : v.run? = none) : ∃ n ≤ 3, Drains n u v := by
  have hhandle : State.handle { u with work := [] } (.genPosition b old p own tripped) = x := hx
  have hrests : ∀ y : State, y.run? = none → ∀ w ∈ [Work.gensReport, .seqPosition b], State.handle y w = y := fun y hy w hw => by
    simp only [List.mem_cons, List.not_mem_nil, or_false] at hw
    obtain rfl | rfl := hw
    · exact State.testGens_rests hy
    · show y.seqMoved b = y
      rw [State.seqMoved, hy]
  have hends : ∀ y : State, { y with work := [] } = v → (∀ w ∈ y.work, w ∈ [Work.gensReport, .seqPosition b]) →
      Drains y.work.length y v := fun y hy hws => by
    have hrun : ({ y with work := [] } : State).run? = none := by rw [hy]; exact hr
    exact hy ▸ Drains.idle rfl fun w hw => hrests _ hrun w (hws w hw)
  have hkept : ∀ ws, { ({ v with work := ws } : State) with work := [] } = v := fun ws => by
    show { v with work := [] } = v
    rw [← hv]
  obtain hreport | hreport := hreport
  · refine ⟨2, by omega, .piece hwork ?_⟩
    rw [hhandle, hreport, hv]
    exact hends { v with work := [] ++ [Work.seqPosition b] } (hkept _) (by simp)
  · refine ⟨3, by omega, .piece hwork ?_⟩
    rw [hhandle, hreport]
    have hsame : { v.post .gensReport with work := (v.post .gensReport).work ++ [Work.seqPosition b] } =
        { v with work := [.gensReport, .seqPosition b] } := by
      rw [State.post, hv]
      rfl
    rw [hsame]
    exact hends { v with work := [.gensReport, .seqPosition b] } (hkept _) (by simp)

/-- A generator that takes a state without a close attempt left and without an OPEN of its own. -/
theorem State.genEnter_rests (hg : g < s.par.gens.length) (hne : (s.gen g).state ≠ new)
    (ha : (s.gen g).state.attempting = false) (hd : (s.gen g).deferred = false)
    (ho : (s.genEntered g new).opensFor g new = s.genEntered g new) :
    s.genEnter g new = s.genEntered g new ∨ s.genEnter g new = (s.genEntered g new).post .gensReport := by
  have hdeferred : ((s.genEntered g new).gen g).deferred = false := by
    rw [State.genEntered_gen_same hg, ← hd]
    cases new <;> rfl
  have hmove := State.genMove_eq (s := s) hne (by rw [ha]; rfl)
  rw [ho] at hmove
  split at hmove
  · right
    rw [State.genEnter_eq (by rw [hmove, State.post_gen]; exact hdeferred), hmove]
  · left
    rw [State.genEnter_eq (by rw [hmove]; exact hdeferred), hmove]

/-- The end of a command in which one generator has taken a state. -/
theorem finish_entered (h : Tends s u g) (hg : g < 8) (hc : s.genConfigured g = true) (hp : (s.gen g).state ≠ .absent)
    (hp' : (u.gen g).state ≠ .absent) : ∃ t, finish s u = .next t ∧ (∀ j, j ≠ g → t.gen j = s.gen j) ∧
      t.par.demandDue = u.par.demandDue ∧ t.newest = u.newest ∧
      ((u.gen g).setpoint.start ≠ (s.gen g).setpoint.start → t.gen g = { u.gen g with refreshTimer := 0 }) ∧
      ((u.gen g).setpoint = (s.gen g).setpoint → t.gen g = u.gen g) := by
  have hset := State.setpointOf_present (s := u) (by rw [State.genConfigured, State.fld, h.tables]; exact hc) hp'
  have hset₀ := State.setpointOf_present hc hp
  by_cases hsame : (u.gen g).setpoint = (s.gen g).setpoint
  · obtain ⟨es, b, hend⟩ := h.finish_still (.inl (by rw [hset, hset₀, hsame]))
    exact ⟨_, hend, h.others, rfl, rfl, fun hno => absurd (congrArg Setpoint.start hsame) hno, fun _ => rfl⟩
  · obtain ⟨es, b, hend⟩ := h.finish_sent hg hset (by rw [hset, hset₀]; exact fun heq => hsame (Option.some.inj heq))
    exact ⟨_, hend, (h.gensetBuilt _).others, rfl, rfl, fun _ => State.gensetBuilt_gen_same (h.count.symm ▸ hg) _,
      fun heq => absurd heq hsame⟩

theorem State.moved_hushed : (s.moved b p).hushed = s.hushed := by
  have hmarked : ∀ y : State, (y.lineupMarked b).hushed = y.hushed := fun y => by
    unfold State.lineupMarked
    split <;> rfl
  have hposts : ∀ (y : State) (w : Work), (y.post w).hushed = y.hushed := fun _ _ => rfl
  rw [State.moved, hposts, hmarked, State.positioned, State.event_hushed]
  rfl

theorem Touches.tends (h : Touches [.links, .events, .breakers, .seq] s u) (hs : s.Quiet) (hw : u.work = [])
    (hh : u.hushed = false) (g : Nat) : Tends s u g := by
  have hpar : u.par = s.par := h.stands .par (by decide)
  have hmgmt : u.mgmt = s.mgmt := h.stands .mgmt (by decide)
  exact ⟨hw, hh, by rw [hmgmt], by rw [hpar]; exact hs.gens_length, fun j _ => by rw [State.gen, hpar, State.gen]⟩

/-- What a confirmed position leaves that has been handed to the generator of its breaker. -/
structure HandsPosition (s u : State) (b : Nat) (r : BreakerRec) : Prop where
  touches : Touches [.links, .events, .breakers, .seq] s u
  own : u.brk b = r
  others : ∀ a, a ≠ b → u.brk a = s.brk a
  length : b < u.breakers.recs.length
  work : u.work = []
  hushed : u.hushed = false
  run : u.run? = none
  requests : u.breakers.requests = s.breakers.requests

namespace HandsPosition
variable {r : BreakerRec}

theorem par (h : HandsPosition s u b r) : u.par = s.par := h.touches.stands .par (by decide)
theorem mgmt (h : HandsPosition s u b r) : u.mgmt = s.mgmt := h.touches.stands .mgmt (by decide)
theorem gen (h : HandsPosition s u b r) (j : Nat) : u.gen j = s.gen j := by rw [State.gen, h.par, State.gen]
theorem fld (h : HandsPosition s u b r) (y : TableId) (e id : Nat) : u.fld y e id = s.fld y e id := by
  rw [State.fld, h.mgmt, State.fld]
theorem genBreaker (h : HandsPosition s u b r) (j : Nat) : u.genBreaker j = s.genBreaker j := h.fld ..

end HandsPosition

/-- The report of a NORMAL breaker without a command and a BF is handed to the generator of its breaker. -/
theorem exec_report_hands {l : Link} {h : Header} {f : PositionBody} (hs : s.Quiet) (hu : (s.port l).up = true)
    (hv : s.verdict .position h = .taken) (hm : s.matchBreaker h.src f.biuNumber = some b) (hi : s.fld .breaker b 21 ≠ 1)
    (hslot : (s.brk b).slot = none) (hx : f.health.tripCircuit = (s.brk b).health.tripCircuit)
    (hc : (s.brk b).candidate = some f.position) (hp : (s.brk b).position ≠ reportedPosition f.position)
    (htrips : (s.brk b).trips = [] ∨ reportedPosition f.position = .opened) (hbf : (s.brk b).bf = .idle) (hr : s.run? = none) :
    ∃ u, HandsPosition s u b { Clause.reportedRecord (s.brk b) f with
        position := reportedPosition f.position
        trips := if reportedPosition f.position == .opened then (s.brk b).trips.filter (· != .parallelLimit)
          else (s.brk b).trips } ∧
      ∀ x v, u.genMoved b (s.brk b).position (reportedPosition f.position) false (!(s.brk b).trips.isEmpty) = x → v.work = [] →
        (x = v ∨ x = v.post .gensReport) → v.run? = none → exec (.positionFrame l h f) s = finish s v := by
  have hheld := State.reportHeld_holds (l := l) (h := h) (f := f) hs (State.matchBreaker_lt hm)
  have hexec := fun n v hd hn => exec_report_confirms (n := n) (v := v) hs hu hv hm hi hslot hx hc hp hd hn
  generalize s.reportHeld l h f b = u at *
  have hown := hheld.own
  have hmoves := State.changePosition_plain (new := reportedPosition f.position) hheld.length
    (by rw [hown]; exact hslot) (by rw [hown]; exact htrips) (by rw [hown]; exact hbf)
  have hnew : (u.moved b (reportedPosition f.position)).brk b = _ :=
    (State.moved_brk _ b).trans (State.positioned_brk_same hheld.length _)
  rw [hown] at hnew
  have hothers : ∀ a, a ≠ b → (u.moved b (reportedPosition f.position)).brk a = s.brk a := fun a ha =>
    (State.moved_brk_other ha).trans (hheld.others a ha)
  have hlen : b < (u.moved b (reportedPosition f.position)).breakers.recs.length := (State.moved_length _).symm ▸ hheld.length
  have hmwork := State.moved_work hheld.work (reportedPosition f.position) (b := b)
  have hownOpen : (u.brk b).ownOpen (reportedPosition f.position) = false := by
    rw [BreakerRec.ownOpen, hown]
    show (_ && Option.any _ (s.brk b).slot) = false
    rw [hslot, Option.any_none, Bool.and_false]
  have hold : (u.brk b).position = (s.brk b).position ∧ (u.brk b).trips = (s.brk b).trips := by rw [hown]; exact ⟨rfl, rfl⟩
  rw [hownOpen, hold.1, hold.2] at hmwork
  have hmrun := (State.moved_run (b := b) (reportedPosition f.position)).trans (hheld.run.trans hr)
  have hmtouch := (hheld.touches.mono (qs := [.links, .events, .breakers, .seq]) (by decide)).moved b (reportedPosition f.position)
  have hhushed := (State.moved_hushed (s := u) (b := b) (p := reportedPosition f.position)).trans (hheld.hushed.trans hs.2.2.1)
  have hmrequests := (State.moved_requests (s := u) (b := b) (new := reportedPosition f.position)).trans hheld.requests
  generalize u.moved b (reportedPosition f.position) = w at *
  refine ⟨{ w.post (.seqPosition b) with work := [] }, ⟨(hmtouch.post (.seqPosition b)).rested, hnew, hothers, hlen, rfl, hhushed,
    hmrun, hmrequests⟩, fun x v hx hv hreport hrun => ?_⟩
  obtain ⟨n, hn, hdrains⟩ := Drains.genPosition (u := w.post (.seqPosition b)) (by rw [State.post_work, hmwork]; rfl) hx hv hreport hrun
  exact hexec n v (.of_eq hmoves hdrains) (lt_of_le_of_lt hn (by decide))

end

section
variable {s u : State} {b g : Nat} {old p : Position} {own tripped : Bool}

theorem State.genMoved_closed (hg : s.genOf b = some g) (hn : (s.gen g).state ≠ .negotiating) (hp : p = .closed) :
    s.genMoved b old p own tripped = s.genFoundClosed g := by
  rw [State.genMoved, hg, hp]
  dsimp only
  rw [if_neg (by simp [hn]), if_neg (by simp), if_pos (by decide)]

theorem State.genMoved_leaves (hg : s.genOf b = some g) (hl : (s.gen g).state.loaded = true) (ho : old = .closed)
    (hp : p = .opened) : s.genMoved b old p false tripped = s.genEnter g (if tripped then .fault else .stopping) := by
  have hstate : (s.gen g).state ≠ .negotiating ∧ (s.gen g).state ≠ .stopping := by
    constructor <;> intro h <;> rw [h] at hl <;> exact absurd hl (by decide)
  rw [State.genMoved, hg, hp, ho]
  dsimp only
  rw [if_neg (by simp [hstate.1]), if_neg (by simp [hstate.2]), if_neg (by decide), if_pos (by decide), State.genLeftClosed]
  rw [if_pos hl, if_neg (by simp)]

end

/-- Settles the seventh part of O23. -/
theorem generatorFollowsItsBreaker : Clause.GeneratorFollowsItsBreaker := by
  intro s l h f b g hs hu hv hm hi hslot hx hc hp hbf hg hd hr r x moves
  obtain ⟨hlt, hconf, hbreaker⟩ := State.genOf_some hg
  have hhands := exec_report_hands hs hu hv hm hi hslot hx hc hp
  have hfollows : ∀ (new : GenState) (y : GenRec) (priority code : Nat),
      ((s.brk b).trips = [] ∨ reportedPosition f.position = .opened) → x.state ≠ .absent → x.state ≠ new → new ≠ .absent →
      x.state.attempting = false → ((new ≠ .fault ∧ new ≠ .stopping) ∨ reportedPosition f.position = .opened) →
      (∀ u : State, u.genOf b = some g → u.gen g = x → u.genMoved b (s.brk b).position (reportedPosition f.position) false
        (!(s.brk b).trips.isEmpty) = u.genEnter g new) →
      ((x.enter new).setpoint.start ≠ x.setpoint.start ∧ y = { x.enter new with refreshTimer := 0 } ∨
        (x.enter new).setpoint = x.setpoint ∧ y = x.enter new) → genPriority x.state new = priority → new.code = code →
      moves y priority code :=
    fun new y priority code htrips hpresent hne hnew hattempts hopen henters hend hpriority hcode => by
      obtain ⟨u, hu', hexec⟩ := hhands htrips hbf hr
      have hugen : u.gen g = x := hu'.gen g
      have hgenOf : u.genOf b = some g := (State.genOf_congr (congrArg Management.tables hu'.mgmt)).trans hg
      have htends := hu'.touches.tends hs hu'.work hu'.hushed g
      have hlen : g < u.par.gens.length := htends.count.symm ▸ hlt
      have hrests : (u.genEntered g new).opensFor g new = u.genEntered g new := by
        obtain hother | hopened := hopen
        · exact State.opensFor_other hother.1 hother.2
        · refine State.opensFor_open ?_
          rw [State.genPosition, State.genBreaker, State.genEntered_fld, State.brk, State.genEntered_breakers]
          show (u.brk (u.genBreaker g)).position = .opened
          rw [hu'.genBreaker, hbreaker, hu'.own]
          exact hopened
      have hreport := State.genEnter_rests hlen (by rw [hugen]; exact hne) (by rw [hugen]; exact hattempts) (by rw [hugen]; exact hd)
        hrests
      have hentered : Tends s (u.genEntered g new) g := htends.genEntered
      have hown : (u.genEntered g new).gen g = x.enter new := (htends.gen_genEntered hlt).trans (by rw [hugen])
      have hnewest := State.genEntered_newest (s := u) (g := g) (new := new)
      have hdue : (u.genEntered g new).par.demandDue = true := by rw [State.genEntered, State.event_par]; rfl
      have hrun : (u.genEntered g new).run? = none := by rw [State.run?, State.genEntered_seq]; exact hu'.run
      have hfinish := hexec _ (u.genEntered g new) (henters u hgenOf hugen) hentered.work hreport hrun
      generalize u.genEntered g new = v at *
      obtain ⟨t, hends, hothers, htdue, htnewest, hchanged, hsame⟩ := finish_entered hentered hlt hconf hpresent
        (by rw [hown, GenRec.enter_state]; exact hnew)
      have hall := hfinish.trans hends
      refine ⟨t, hall, ?_, hothers, htdue.trans hdue, ?_, hs.only _ hall⟩
      · obtain ⟨hstart, hy⟩ | ⟨hset, hy⟩ := hend
        · rw [hchanged (by rw [hown]; exact hstart), hown, hy]
        · rw [hsame (by rw [hown]; exact hset), hown, hy]
      · rw [htnewest, hnewest, hugen, hpriority, hcode]
        rfl
  refine ⟨fun hstate hold hnew htrips => ?_, fun hstate hold hnew htrips => ?_, fun hstate hnew htrips hrunning => ?_,
    fun hstate hnew htrips => ?_⟩
  · have hpos : reportedPosition f.position = .opened := by rw [hnew]; rfl
    have hl : x.state.loaded = true := by obtain h | h := hstate <;> rw [h] <;> rfl
    refine hfollows .stopping _ 6 10 (.inr hpos) ?_ ?_ (by decide) ?_ (.inr hpos) (fun u hgu hxu => ?_) (.inl ⟨?_, rfl⟩) rfl rfl
    · obtain h | h := hstate <;> rw [h] <;> decide
    · obtain h | h := hstate <;> rw [h] <;> decide
    · obtain h | h := hstate <;> rw [h] <;> rfl
    · rw [State.genMoved_leaves hgu (by rw [hxu]; exact hl) hold hpos, htrips]
      rfl
    · show false ≠ x.state.startDemand
      obtain h | h := hstate <;> rw [h] <;> decide
  · have hpos : reportedPosition f.position = .opened := by rw [hnew]; rfl
    have hl : x.state.loaded = true := by obtain h | h := hstate <;> rw [h] <;> rfl
    refine hfollows .fault _ 12 11 (.inr hpos) ?_ ?_ (by decide) ?_ (.inr hpos) (fun u hgu hxu => ?_) (.inl ⟨?_, rfl⟩) rfl rfl
    · obtain h | h := hstate <;> rw [h] <;> decide
    · obtain h | h := hstate <;> rw [h] <;> decide
    · obtain h | h := hstate <;> rw [h] <;> rfl
    · rw [State.genMoved_leaves hgu (by rw [hxu]; exact hl) hold hpos, if_pos (by simpa using htrips)]
    · show false ≠ x.state.startDemand
      obtain h | h := hstate <;> rw [h] <;> decide
  · have hpos : reportedPosition f.position = .closed := by rw [hnew]; rfl
    refine hfollows .online _ 6 8 (.inl htrips) ?_ ?_ (by decide) ?_ (.inl (by decide)) (fun u hgu hxu => ?_) (.inr ⟨?_, rfl⟩) rfl rfl
    · obtain h | h := hstate <;> rw [h] <;> decide
    · obtain h | h := hstate <;> rw [h] <;> decide
    · obtain h | h := hstate <;> rw [h] <;> rfl
    · have hn : (u.gen g).state ≠ .negotiating := by rw [hxu]; obtain h | h := hstate <;> rw [h] <;> decide
      have htaken : State.genFoundClosed.taken u g = u.genEnter g .online := by
        rw [State.genFoundClosed.taken, hxu, hrunning]
        rfl
      rw [State.genMoved_closed hgu hn hpos, State.genFoundClosed, hxu]
      obtain h | h := hstate <;> rw [h] <;> exact htaken
    · have hstart : x.state.startDemand = true ∧ x.state.loaded = false := by
        obtain h | h := hstate <;> rw [h] <;> decide
      simp only [GenRec.setpoint, GenRec.enter, hstart.1, hstart.2]
      rfl
  · have hpos : reportedPosition f.position = .closed := by rw [hnew]; rfl
    obtain ⟨u, hu', hexec⟩ := hhands (.inl htrips) hbf hr
    have hgenOf : u.genOf b = some g := (State.genOf_congr (congrArg Management.tables hu'.mgmt)).trans hg
    have hown := hu'.own
    rw [if_neg (by rw [hpos]; decide)] at hown
    have hopens : u.genMoved b (s.brk b).position (reportedPosition f.position) false (!(s.brk b).trips.isEmpty) =
        u.placed b { action := .opening, origins := { paralleling := true }, generator := some g } := by
      have hn : (u.gen g).state ≠ .negotiating := by rw [hu'.gen]; obtain h | h := hstate <;> rw [h] <;> decide
      have hopen : (u.genOpen g).1 = u.placed b { action := .opening, origins := { paralleling := true }, generator := some g } := by
        rw [State.genOpen, hu'.genBreaker, hbreaker, State.openRequest_issued hu'.length
          (by rw [State.brkConfigured, hu'.fld]; exact State.matchBreaker_configured hm)
          (by rw [State.isolated, hu'.fld]; exact State.isolated_eq_false hi) (by rw [hown]; exact hslot)
          (by rw [hown, hpos]; exact fun h => nomatch h) rfl]
      rw [State.genMoved_closed hgenOf hn hpos, State.genFoundClosed, hu'.gen]
      obtain h | h := hstate <;> rw [h] <;> exact hopen
    have hplaced := State.placed_brk_same hu'.length { action := .opening, origins := { paralleling := true }, generator := some g }
    rw [hown] at hplaced
    have hfinish := hexec _ _ hopens ((State.placed_work _).trans hu'.work) (.inl rfl) hu'.run
    obtain ⟨t, hend, -, hbrk, -, -, honly⟩ := finish_moved hs (hu'.touches.placed b _) ((State.placed_work _).trans hu'.work)
    refine ⟨t, hfinish.trans hend, honly.2.2.2.2.1 .par (by decide), ?_, fun a ha => ?_, honly⟩
    · rw [hbrk, hplaced, ← hpos]
      rfl
    · rw [hbrk, State.placed_brk_other ha, hu'.others a ha]

/-- Settles O23. -/
theorem positionsNeedTwoReports : Obligations.PositionsNeedTwoReports :=
  ⟨firstReportIsACandidate, secondReportConfirms, responseIsHeld, confirmationCompletes, confirmedOpenResetsBf,
    demandedBreakerOpensAgain, generatorFollowsItsBreaker, isolatedReportIsOfTheField⟩


end Sys2Proof.Machine
end

section
/-! # The table store (O50) -/

namespace Sys2Proof.Machine

section
variable {s u : State} {l : Link} {q : Request} {w : StoreWait}

/-! ### The STORE (R186) -/

/-- The place that a request has reserved on a link holds its answer, whatever its command has recorded before. -/
theorem answer_fills (k : Ticket) (r : Reply) (h : .reserved k.number ∈ (u.port l).bulk) :
    BulkPlace.frame ⟨u.ownAddress, k.source, u.links.responseSeq,
      .response k.request k.kind r.status.code k.target r.detailA r.detailB r.data, false, false⟩ ∈
        ((u.answer k (some r)).port l).bulk := by
  rw [State.answer, State.respond_eq]
  cases l <;> exact LinkPort.fill_mem _ _ _ h

/-- The end of a command of the management unit that records an event and answers a request taken before. -/
theorem finish_answers (hs : s.Quiet) (hw : u.work = []) (hset : ∀ g, u.setpointOf g = s.setpointOf g)
    (hbulk : ∀ l, (u.port l).bulk = (s.port l).bulk) (hown : u.ownAddress = s.ownAddress)
    (hnext : u.links.responseSeq = s.links.responseSeq) (hevents : u.events = s.events) (hlabel : u.eventLabel = s.eventLabel)
    (priority code : Nat) (value : Option Nat) (k : Ticket) (r : Reply) {i : Instr}
    (hexec : exec i s = finish s ((u.event .management priority 0 code value).answer k (some r))) :
    ∃ t, exec i s = .next t ∧ t.mgmt = { u.mgmt with statusCounts :=
        if r.status == .done then u.mgmt.statusCounts else u.mgmt.statusCounts.modify (r.status.code - 1) step32 } ∧
      t.links.windows = u.links.windows ∧
      (∀ l, .reserved k.number ∈ (s.port l).bulk → BulkPlace.frame ⟨s.ownAddress, k.source, s.links.responseSeq,
        .response k.request k.kind r.status.code k.target r.detailA r.detailB r.data, false, false⟩ ∈ (t.port l).bulk) ∧
      Records s t .management priority 0 code value ∧ Only (touches i) s t := by
  have hset' : ∀ g, ((u.event .management priority 0 code value).answer k (some r)).setpointOf g = s.setpointOf g := fun g => by
    rw [State.answer_setpointOf, State.event_setpointOf, hset]
  have hwork : ((u.event .management priority 0 code value).answer k (some r)).work = [] := by
    rw [State.answer_work, State.event_work, hw]
  have hend := hexec.trans (congrArg Host.Outcome.next (State.settle_steady hwork hset'))
  obtain ⟨x, seqs, hgrows, hevent⟩ := u.event_eq .management priority 0 code value
  refine ⟨_, hend, ?_, ?_, fun l hl => ?_, ?_, hs.only _ hend⟩
  · rw [State.endedWith_mgmt, State.answer_mgmt, State.event_mgmt]
  · rw [State.endedWith_links, State.answer, State.respond_eq, hevent]
    exact (congrArg Links.windows hgrows.eq : x.windows = _)
  · have hplace : .reserved k.number ∈ ((u.event .management priority 0 code value).port l).bulk := by
      rw [hevent]
      have hin : .reserved k.number ∈ (u.port l).bulk := hbulk l ▸ hl
      cases l
      · exact hgrows.a.bulk.subset hin
      · exact hgrows.b.bulk.subset hin
    have hfilled := answer_fills k r hplace
    have hseq : (u.event .management priority 0 code value).links.responseSeq = s.links.responseSeq := by
      rw [hevent, ← hnext]
      exact (congrArg Links.responseSeq hgrows.eq : x.responseSeq = _)
    have haddress : (u.event .management priority 0 code value).ownAddress = s.ownAddress := by
      rw [hevent]
      exact hown
    rw [hseq, haddress] at hfilled
    exact hfilled
  · rw [Records, State.endedWith_newest, State.answer_newest, State.event_newest, hevents, hlabel, ← hs.eventLabel]

/-- The state in which a STORE is in flight. -/
def State.storing (s : State) (k : Ticket) : State :=
  s.modMgmt (fun m =>
    { m with
      store := some ⟨k, m.tables, imageCrc m.tables⟩
      image := { m.image with valid := false, content := m.tables } })

theorem State.acceptStore_taken {k : Ticket} (h : s.mgmt.store = none) (hc : s.commitInFlight = false)
    (ha : s.mgmt.configured = true ∨ s.station 4 ≠ 0 ∨ s.station 5 ≠ 0) : State.acceptStore k s = (s.storing k, none) := by
  rw [State.acceptStore, if_neg (by simp [h, hc]), if_neg]
  · rfl
  · simp only [Bool.and_eq_true, Bool.not_eq_true', beq_iff_eq, not_and]
    intro hno
    obtain ha | ha | ha := ha
    · exact absurd ha (by rw [hno.1]; decide)
    · exact absurd hno.2 ha
    · exact ha

/-- The state in which the STORE in flight is written. -/
def State.stored (s : State) (w : StoreWait) : State :=
  s.modMgmt (fun m =>
    { m with
      store := none, storesCompleted := step32 m.storesCompleted
      image := { valid := true, crc := w.crc, content := w.snapshot } })

/-- The state in which the STORE in flight is given up. -/
def State.storeGone (s : State) : State := s.modMgmt (fun m => { m with store := none })

theorem exec_store_completes (h : s.mgmt.store = some w) : exec (.storeComplete w.crc) s =
    finish s (((s.stored w).configure.event .management 8 0 9 (some w.crc)).answer w.ticket (some { detailA := w.crc })) := by
  have hcompletes : State.completeStore w.crc s =
      ((s.stored w).configure.event .management 8 0 9 (some w.crc)).answer w.ticket (some { detailA := w.crc }) := by
    rw [State.completeStore, h]
    exact if_pos (by simp)
  exact congrArg (finish s) hcompletes

theorem exec_store_fails {n : Nat} (h : s.mgmt.store = some w) (hn : n ≠ w.crc) : exec (.storeComplete n) s =
    finish s ((s.storeGone.event .management 12 0 10 none).answer w.ticket
      (some { status := .invalid, detailA := 0xFFFFFFFD })) := by
  have hfails : State.completeStore n s = (s.storeGone.event .management 12 0 10 none).answer w.ticket
      (some { status := .invalid, detailA := 0xFFFFFFFD }) := by
    rw [State.completeStore, h]
    exact if_neg (by simpa using hn)
  exact congrArg (finish s) hfails

/-! ### Windows (R7) -/

/-- The windows are those of the addresses named, but 0. -/
theorem mem_rebuildWindows {named : List (Nat × List FrameClass)} {old : List DupWindow} {a : Nat} :
    (∃ x ∈ rebuildWindows named old, x.address = a) ↔ a ≠ 0 ∧ ∃ n ∈ named, n.1 = a := by
  constructor
  · rintro ⟨x, hx, rfl⟩
    obtain ⟨a, ha, rfl⟩ := List.mem_map.1 hx
    obtain ⟨hin, hne⟩ := List.mem_filter.1 (List.mem_dedup.1 ha)
    exact ⟨by simpa using hne, List.mem_map.1 hin⟩
  · rintro ⟨hne, n, hn, rfl⟩
    exact ⟨_, List.mem_map_of_mem (List.mem_dedup.2 (List.mem_filter.2 ⟨List.mem_map_of_mem hn, by simpa using hne⟩)), rfl⟩

/-- A window that stood keeps its pairs. -/
theorem rebuildWindows_pairs {named : List (Nat × List FrameClass)} {old : List DupWindow} {x y : DupWindow}
    (hx : x ∈ rebuildWindows named old) (hy : old.find? (fun y => y.address == x.address) = some y) : x.pairs = y.pairs := by
  obtain ⟨a, -, rfl⟩ := List.mem_map.1 hx
  show ((old.find? (fun y => y.address == a)).map _).getD [] = y.pairs
  rw [show old.find? (fun y => y.address == a) = some y from hy]
  rfl

/-- The addresses that the tables name, without the commissioning address. -/
theorem mem_namedAddresses {ts : List Table} {a : Nat} : (∃ n ∈ namedAddresses ts true, n.1 = a) ↔
    (∃ b < 24, tableField ts .breaker b 2 = a) ∨ (∃ g < 8, tableField ts .generator g 2 = a) ∨
      a ∈ [tableField ts .station 0 4, tableField ts .station 0 5, tableField ts .station 0 6] := by
  simp only [namedAddresses, if_true, List.append_nil, List.mem_append, List.mem_map, List.mem_range, or_and_right, exists_or,
    or_assoc]
  refine or_congr (by simp) (or_congr (by simp) ?_)
  simp [eq_comm]

end

/-- Settles O50. -/
theorem storeWritesTheImage : Obligations.StoreWritesTheImage := by
  intro s answered
  refine ⟨fun l q h hstore hcommit hmay => ?_, fun w hs hstore hconf => ?_, fun w hs hstore hconf => ?_,
    fun w n hs hstore hn => ?_, fun n hs hstore => ?_⟩
  · have hexec : exec (.store l q) s = finish s ((s.booked l q).storing (s.ticketFor 10 q)) := by
      refine congrArg (finish s) ((s.serve_asked 10 false _ h).trans ?_)
      rw [State.acceptStore_taken (by rw [State.booked_mgmt]; exact hstore)
        (by rw [State.commitInFlight, State.booked_mgmt]; exact hcommit)
        (by rw [State.booked_mgmt, State.booked_station, State.booked_station]; exact hmay)]
      rfl
    have hmgmt : ((s.booked l q).storing (s.ticketFor 10 q)).mgmt = { s.answered .done with
        store := some ⟨⟨s.mgmt.nextTicket, q.src, q.number, 10, q.target⟩, s.mgmt.tables, imageCrc s.mgmt.tables⟩
        image := { s.mgmt.image with valid := false, content := s.mgmt.tables } } := by cases l <;> rfl
    have hwork : ((s.booked l q).storing (s.ticketFor 10 q)).work = [] := (State.booked_work s l q).trans h.1.1
    have hset : ∀ g, ((s.booked l q).storing (s.ticketFor 10 q)).setpointOf g = s.setpointOf g := fun g =>
      State.booked_setpointOf s l q g
    have htouch : Touches [.links, .mgmt] s ((s.booked l q).storing (s.ticketFor 10 q)) :=
      (Touches.booked s l q).modMgmt _
    generalize (s.booked l q).storing (s.ticketFor 10 q) = u at *
    obtain ⟨es, hend, honly⟩ := finish_settled h.1 htouch hwork hset
    refine ⟨_, hexec.trans hend, hmgmt, ?_, honly⟩
    show u.healthyNow = false
    rw [State.healthyNow, hmgmt]
    exact Bool.and_false _
  · have hconfigured : (s.stored w).configure = s.stored w := by
      rw [State.configure]
      exact if_pos hconf
    have hexec := exec_store_completes hstore
    rw [hconfigured] at hexec
    obtain ⟨t, hend, hmgmt, -, hanswered, hrecords, honly⟩ := finish_answers (u := s.stored w) hs hs.1 (fun _ => rfl)
      (fun l => by cases l <;> rfl) rfl rfl rfl rfl 8 9 (some w.crc) w.ticket { detailA := w.crc } hexec
    exact ⟨t, hend, hmgmt, hanswered, hrecords, honly⟩
  · have hconfigured : (s.stored w).configure = ((s.stored w).modMgmt (fun m => { m with configured := true })).rebuild := by
      rw [State.configure]
      exact if_neg (by show ¬ s.mgmt.configured = true; rw [hconf]; decide)
    have hexec := exec_store_completes hstore
    rw [hconfigured] at hexec
    obtain ⟨t, hend, hmgmt, hwindows, hanswered, hrecords, honly⟩ := finish_answers
      (u := ((s.stored w).modMgmt (fun m => { m with configured := true })).rebuild) hs hs.1 (fun _ => rfl)
      (fun l => by cases l <;> rfl) rfl rfl rfl rfl 8 9 (some w.crc) w.ticket { detailA := w.crc } hexec
    have hrebuilt : t.links.windows = rebuildWindows (namedAddresses s.mgmt.tables true) s.links.windows := hwindows
    refine ⟨t, hend, hmgmt, ?_, fun a => ?_, fun x hx y hy => ?_, hanswered, hrecords, honly⟩
    · show t.mgmt.configured = true
      rw [hmgmt]
      rfl
    · rw [hrebuilt, mem_rebuildWindows, mem_namedAddresses]
      rfl
    · rw [hrebuilt] at hx
      exact rebuildWindows_pairs hx hy
  · obtain ⟨t, hend, hmgmt, -, hanswered, hrecords, honly⟩ := finish_answers (u := s.storeGone) hs hs.1 (fun _ => rfl)
      (fun l => by cases l <;> rfl) rfl rfl rfl rfl 12 10 none w.ticket { status := .invalid, detailA := 0xFFFFFFFD }
      (exec_store_fails hstore hn)
    exact ⟨t, hend, hmgmt, hanswered, hrecords, honly⟩
  · have hidle : State.completeStore n s = s := by rw [State.completeStore, hstore]
    exact (congrArg (finish s) hidle).trans (finish_idle hs)


end Sys2Proof.Machine
end

section
/-! # Frames read back as written (O5) -/

namespace Sys2Proof.Machine

section
variable {p q : List Byte} {j k n o : Nat}

/-! ### Fields written most significant byte first (R19) -/

theorem beBytes_length (k n : Nat) : (beBytes k n).length = k := by
  induction k with
  | zero => rfl
  | succ k ih => rw [beBytes, List.length_cons, ih]

theorem foldl_beBytes (k n m : Nat) :
    (beBytes k n).foldl (fun x b => 256 * x + b.toNat) m = m * 256 ^ k + n % 256 ^ k := by
  induction k generalizing m with
  | zero => simp [beBytes, Nat.mod_one]
  | succ k ih =>
    have hdigit : n % 256 ^ (k + 1) = 256 ^ k * (n / 256 ^ k % 256) + n % 256 ^ k := by
      rw [pow_succ, Nat.mod_mul, Nat.add_comm]
    have hbyte : (BitVec.ofNat 8 (n / 256 ^ k)).toNat = n / 256 ^ k % 256 := BitVec.toNat_ofNat ..
    rw [beBytes, List.foldl_cons, ih, hdigit, hbyte]
    ring

theorem beNat_beBytes (h : n < 256 ^ k) : beNat (beBytes k n) = n := by
  rw [beNat, foldl_beBytes, Nat.zero_mul, Nat.zero_add, Nat.mod_eq_of_lt h]

/-- A field at the front. -/
theorem fieldAt_front (h : n < 256 ^ k) : fieldAt (beBytes k n ++ p) 0 k = n := by
  have hfront : sliceBytes (beBytes k n ++ p) 0 k = beBytes k n := by
    rw [sliceBytes, List.drop_zero, List.take_append_of_le_length (le_of_eq (beBytes_length k n).symm),
      List.take_of_length_le (le_of_eq (beBytes_length k n))]
  rw [fieldAt, hfront, beNat_beBytes h]

/-- A field that stands alone. -/
theorem fieldAt_alone (h : n < 256 ^ k) : fieldAt (beBytes k n) 0 k = n := by
  rw [← List.append_nil (beBytes k n), fieldAt_front h]

/-- A field behind another one. -/
theorem fieldAt_behind (h : j ≤ o) : fieldAt (beBytes j n ++ p) o k = fieldAt p (o - j) k := by
  rw [fieldAt, sliceBytes, List.drop_append, List.drop_of_length_le (by rw [beBytes_length]; exact h), beBytes_length]
  rfl

/-- What stands behind the bytes of interest. -/
theorem fieldAt_append (h : o + k ≤ p.length) : fieldAt (p ++ q) o k = fieldAt p o k := by
  rw [fieldAt, sliceBytes, List.drop_append_of_le_length (by omega),
    List.take_append_of_le_length (by rw [List.length_drop]; omega)]
  rfl

theorem signedOf_unsignedOf {x : Int} (h : -32768 ≤ x) (h' : x ≤ 32767) : signedOf 16 (unsignedOf 16 x) = x := by
  unfold signedOf unsignedOf
  omega

theorem unsignedOf_lt (x : Int) : unsignedOf 16 x < 256 ^ 2 := by
  unfold unsignedOf
  omega

/-! ### The header (R5, R19) -/

variable {c : FrameClass} {h : Header} {body pad : List Byte}

theorem ofCode_code (c : FrameClass) : FrameClass.ofCode c.code = some c := by cases c <;> rfl

/-- A frame that is written with a body as its class has it is read as one of that class, with its header and that body. -/
theorem parseFrame_written (hw : h.wf = true) (hl : body.length < 65536)
    (hok : bodyLengthOk (some c) body.length (body ++ pad) = true) :
    malformedPayload (frameBytes c h body ++ pad) = false ∧ parseHeader h.eth (frameBytes c h body ++ pad) = h ∧
      fieldAt (frameBytes c h body ++ pad) 1 1 = c.code ∧
      sliceBytes (frameBytes c h body ++ pad) 10 (fieldAt (frameBytes c h body ++ pad) 8 2) = body := by
  simp only [Header.wf, Bool.and_eq_true, decide_eq_true_eq] at hw
  obtain ⟨⟨⟨⟨⟨-, -⟩, hsrc⟩, -⟩, hdst⟩, hseq⟩ := hw
  have hcode : c.code < 256 ^ 1 := by cases c <;> decide
  have hwritten : frameBytes c h body ++ pad = beBytes 1 1 ++ (beBytes 1 c.code ++ (beBytes 2 h.src ++ (beBytes 2 h.dst ++
      (beBytes 2 h.seq ++ (beBytes 2 body.length ++ (body ++ pad)))))) := by
    simp only [frameBytes, stationBytes, List.append_assoc]
  have hdrop : (frameBytes c h body ++ pad).drop 10 = body ++ pad := by
    rw [hwritten]
    simp [List.drop_append, List.drop_of_length_le, beBytes_length]
  have hversion : fieldAt (frameBytes c h body ++ pad) 0 1 = 1 := by
    rw [hwritten, fieldAt_front (by decide)]
  have hclass : fieldAt (frameBytes c h body ++ pad) 1 1 = c.code := by
    rw [hwritten, fieldAt_behind (by decide), fieldAt_front hcode]
  have hsource : fieldAt (frameBytes c h body ++ pad) 2 2 = h.src := by
    rw [hwritten, fieldAt_behind (by decide), fieldAt_behind (by decide), fieldAt_front (by omega)]
  have htarget : fieldAt (frameBytes c h body ++ pad) 4 2 = h.dst := by
    rw [hwritten, fieldAt_behind (by decide), fieldAt_behind (by decide), fieldAt_behind (by decide), fieldAt_front (by omega)]
  have hnumber : fieldAt (frameBytes c h body ++ pad) 6 2 = h.seq := by
    rw [hwritten, fieldAt_behind (by decide), fieldAt_behind (by decide), fieldAt_behind (by decide),
      fieldAt_behind (by decide), fieldAt_front (by omega)]
  have hlength : fieldAt (frameBytes c h body ++ pad) 8 2 = body.length := by
    rw [hwritten, fieldAt_behind (by decide), fieldAt_behind (by decide), fieldAt_behind (by decide),
      fieldAt_behind (by decide), fieldAt_behind (by decide), fieldAt_front (by omega)]
  have hlong : 10 + body.length ≤ (frameBytes c h body ++ pad).length := by
    have hcount := congrArg List.length hwritten
    simp only [List.length_append, beBytes_length] at hcount ⊢
    omega
  refine ⟨?_, ?_, hclass, ?_⟩
  · rw [malformedPayload, hversion, hsource, htarget, hlength, hclass, ofCode_code, hdrop, hok]
    simp only [Bool.or_eq_false_iff, decide_eq_false_iff_not, bne_self_eq_false, Bool.not_true, and_true]
    omega
  · rw [parseHeader, hsource, htarget, hnumber]
  · rw [hlength, sliceBytes, hdrop, List.take_left']
    rfl

/-- The frame that such bytes are read as. -/
theorem parseFrame_of (hw : h.wf = true) (hl : body.length < 65536)
    (hok : bodyLengthOk (some c) body.length (body ++ pad) = true) :
    parseFrame h.eth (frameBytes c h body ++ pad) = match c with
      | .sample => .sample h (parseSample body)
      | .position => (parsePosition body).elim (.unlisted h) (.position h)
      | .genstatus => .genstatus h (parseGenStatus body)
      | .ability => (parsePage body).elim (.unlisted h) (.ability h)
      | .time => .time h (parseTime body)
      | .mgmtReq => if 1 ≤ fieldAt body 2 1 && fieldAt body 2 1 ≤ 11 then .mgmt (fieldAt body 2 1) (parseRequest h body)
        else .unlisted h
      | _ => .unlisted h := by
  obtain ⟨hgood, hheader, hclass, hbody⟩ := parseFrame_written hw hl hok
  rw [parseFrame, hgood, hheader, hbody, hclass, ofCode_code]
  cases c <;> rfl

/-! ### The bodies (R19) -/

theorem parseTime_timeBytes {f : TimeBody} (hf : f.wf = true) : parseTime (timeBytes f) = f := by
  have hsecond : f.second < 256 ^ 4 := by simpa [TimeBody.wf] using hf
  have hbit : bitVal f.locked 0 < 256 ^ 1 ∧ bitOf (bitVal f.locked 0) 0 = f.locked := by cases f.locked <;> decide
  rw [parseTime, timeBytes, fieldAt_front hsecond, fieldAt_behind (by decide), fieldAt_alone hbit.1, hbit.2]

theorem parseGenStatus_genStatusBytes {f : GenStatus} (hf : f.wf = true) : parseGenStatus (genStatusBytes f) = f := by
  obtain ⟨a, b, c, d, e, kw⟩ := f
  have hkw : -32768 ≤ kw ∧ kw ≤ 32767 := by simpa [GenStatus.wf] using hf
  have hbits : bitVal a 0 + bitVal b 1 + bitVal c 2 + bitVal d 3 + bitVal e 4 < 256 ^ 1 := by
    cases a <;> cases b <;> cases c <;> cases d <;> cases e <;> decide
  rw [parseGenStatus, genStatusBytes, fieldAt_front hbits, fieldAt_behind (by decide), fieldAt_alone (unsignedOf_lt kw),
    signedOf_unsignedOf hkw.1 hkw.2]
  congr 1 <;> cases a <;> cases b <;> cases c <;> cases d <;> cases e <;> rfl

theorem reportedOf_code (x : Reported) : reportedOf x.code = x := by cases x <;> rfl

theorem ofByte_byte (x : Health) : x.byte < 256 ^ 1 ∧ Health.ofByte x.byte = x := by
  obtain ⟨a, b, c⟩ := x
  cases a <;> cases b <;> cases c <;> exact ⟨by decide, rfl⟩

theorem parsePosition_positionBytes {f : PositionBody} (hf : f.wf = true) : parsePosition (positionBytes f) = some f := by
  have hnumbers : f.biuNumber < 256 ^ 1 ∧ f.tag < 256 ^ 1 := by simpa [PositionBody.wf] using hf
  have hposition : f.position.code < 256 ^ 1 := by
    cases f.position <;> decide
  have hresponse : f.response.code < 256 ^ 1 ∧ Response.ofCode f.response.code = some f.response := by
    cases f.response <;> exact ⟨by decide, rfl⟩
  have hreason : f.reason.code < 256 ^ 1 ∧ BiuReason.ofCode f.reason.code = some f.reason := by
    cases f.reason <;> exact ⟨by decide, rfl⟩
  have hwritten : positionBytes f = beBytes 1 f.biuNumber ++ (beBytes 1 f.position.code ++ (beBytes 1 f.health.byte ++
      (beBytes 1 f.tag ++ (beBytes 1 f.response.code ++ beBytes 1 f.reason.code)))) := by
    simp only [positionBytes, List.append_assoc]
  have hfields : fieldAt (positionBytes f) 0 1 = f.biuNumber ∧ fieldAt (positionBytes f) 1 1 = f.position.code ∧
      fieldAt (positionBytes f) 2 1 = f.health.byte ∧ fieldAt (positionBytes f) 3 1 = f.tag ∧
      fieldAt (positionBytes f) 4 1 = f.response.code ∧ fieldAt (positionBytes f) 5 1 = f.reason.code := by
    rw [hwritten]
    simp only [Std.le_refl, fieldAt_behind, tsub_self, Nat.one_le_ofNat, Nat.add_one_sub_one]
    exact ⟨fieldAt_front hnumbers.1, fieldAt_front hposition, fieldAt_front (ofByte_byte f.health).1, fieldAt_front hnumbers.2,
      fieldAt_front hresponse.1, fieldAt_alone hreason.1⟩
  obtain ⟨h0, h1, h2, h3, h4, h5⟩ := hfields
  rw [parsePosition, h0, h1, h2, h3, h4, h5, hresponse.2, hreason.2, reportedOf_code, (ofByte_byte f.health).2]

theorem abilities_byte (x : Abilities) : x.byte < 256 ^ 1 ∧ Abilities.ofByte x.byte = x := by
  obtain ⟨a, b, c, d, e⟩ := x
  cases a <;> cases b <;> cases c <;> cases d <;> cases e <;> exact ⟨by decide, rfl⟩

theorem ability_code (x : AbilityCode) : x.code < 256 ^ 1 ∧ AbilityCode.ofCode x.code = some x := by
  cases x <;> exact ⟨by decide, rfl⟩

/-- A page with its kind, its flags, its code byte and its value is read as its body has it. -/
theorem parsePage_written {a m k : Bool} {x y v : Nat} (hx : x < 256 ^ 1) (hy : y < 256 ^ 1) (hv : v < 256 ^ 4) :
    parsePage (beBytes 1 x ++ beBytes 1 (bitVal a 0 + bitVal m 1 + bitVal k 2) ++ beBytes 1 y ++ beBytes 4 v) =
      match x with
      | 0 => some ⟨a, m, k, .base (Abilities.ofByte y)⟩
      | 1 => (AbilityCode.ofCode y).map (fun c => ⟨a, m, k, .next c v⟩)
      | 2 => (AbilityCode.ofCode y).map (fun c => ⟨a, m, k, .ack c v⟩)
      | _ => none := by
  have hflags : bitVal a 0 + bitVal m 1 + bitVal k 2 < 256 ^ 1 := by cases a <;> cases m <;> cases k <;> decide
  have hbits : bitOf (bitVal a 0 + bitVal m 1 + bitVal k 2) 0 = a ∧ bitOf (bitVal a 0 + bitVal m 1 + bitVal k 2) 1 = m ∧
      bitOf (bitVal a 0 + bitVal m 1 + bitVal k 2) 2 = k := by cases a <;> cases m <;> cases k <;> decide
  generalize hw : bitVal a 0 + bitVal m 1 + bitVal k 2 = w at *
  have hfields : ∀ b, b = beBytes 1 x ++ (beBytes 1 w ++ (beBytes 1 y ++ beBytes 4 v)) →
      fieldAt b 0 1 = x ∧ fieldAt b 1 1 = w ∧ fieldAt b 2 1 = y ∧ fieldAt b 3 4 = v := by
    rintro b rfl
    simp only [Std.le_refl, fieldAt_behind, tsub_self, Nat.one_le_ofNat, Nat.add_one_sub_one]
    exact ⟨fieldAt_front hx, fieldAt_front hflags, fieldAt_front hy, fieldAt_alone hv⟩
  obtain ⟨h0, h1, h2, h3⟩ := hfields _ rfl
  rw [List.append_assoc, List.append_assoc, parsePage, h0]
  simp only [parsePage.flagged, h1, h2, h3, hbits.1, hbits.2.1, hbits.2.2] <;> rfl

theorem parsePage_pageBytes {f : Page} (hf : f.wf = true) : parsePage (pageBytes f) = some f := by
  obtain ⟨a, m, k, body⟩ := f
  cases body with
  | base x =>
    refine (parsePage_written (by decide) (abilities_byte x).1 (by decide)).trans ?_
    dsimp only
    rw [(abilities_byte x).2]
    rfl
  | next c v =>
    have hv : v < 256 ^ 4 := by simpa [Page.wf] using hf
    refine (parsePage_written (by decide) (ability_code c).1 hv).trans ?_
    dsimp only
    rw [(ability_code c).2]
    rfl
  | ack c v =>
    have hv : v < 256 ^ 4 := by simpa [Page.wf] using hf
    refine (parsePage_written (by decide) (ability_code c).1 hv).trans ?_
    dsimp only
    rw [(ability_code c).2]
    rfl

/-- The samples as they are written. -/
theorem fieldAt_samples : ∀ (xs : List Int) (q : Nat), q < xs.length →
    fieldAt (xs.flatMap (fun x => beBytes 2 (unsignedOf 16 x))) (2 * q) 2 = unsignedOf 16 (xs.getD q 0)
  | x :: xs, 0, _ => fieldAt_front (unsignedOf_lt x)
  | x :: xs, q + 1, h => by
    rw [List.flatMap_cons, fieldAt_behind (by omega)]
    exact fieldAt_samples xs q (Nat.lt_of_succ_lt_succ h)

theorem samples_length (xs : List Int) : (xs.flatMap (fun x => beBytes 2 (unsignedOf 16 x))).length = 2 * xs.length := by
  induction xs with
  | nil => rfl
  | cons x xs ih =>
    rw [List.flatMap_cons, List.length_append, ih, beBytes_length, List.length_cons]
    omega

theorem parseSample_sampleBytes {f : SampleBody} (hf : f.wf = true) : parseSample (sampleBytes f) = f := by
  obtain ⟨stream, second, index, quality, samples⟩ := f
  simp only [SampleBody.wf, Bool.and_eq_true, decide_eq_true_eq, beq_iff_eq, List.all_eq_true] at hf
  obtain ⟨⟨⟨⟨hstream, hsecond⟩, hindex⟩, hcount⟩, hrange⟩ := hf
  have hquality : quality.toNat < 256 ^ 2 := quality.isLt
  have hwritten : sampleBytes ⟨stream, second, index, quality, samples⟩ = beBytes 1 stream ++ (beBytes 4 second ++
      (beBytes 2 index ++ (beBytes 2 quality.toNat ++ samples.flatMap (fun x => beBytes 2 (unsignedOf 16 x))))) := by
    simp only [sampleBytes, List.append_assoc]
  have hread : ∀ q < 8, signedOf 16 (fieldAt (sampleBytes ⟨stream, second, index, quality, samples⟩) (9 + 2 * q) 2) =
      samples.getD q 0 := fun q hq => by
    have hmem : samples.getD q 0 ∈ samples := by
      rw [List.getD_eq_getElem _ _ (by omega)]
      exact List.getElem_mem _
    obtain ⟨hlow, hhigh⟩ := hrange _ hmem
    rw [hwritten, fieldAt_behind (by omega), fieldAt_behind (by omega), fieldAt_behind (by omega), fieldAt_behind (by omega),
      show 9 + 2 * q - 1 - 4 - 2 - 2 = 2 * q by omega, fieldAt_samples samples q (by omega),
      signedOf_unsignedOf hlow hhigh]
  have hsamples : (List.range 8).map (fun q => signedOf 16
      (fieldAt (sampleBytes ⟨stream, second, index, quality, samples⟩) (9 + 2 * q) 2)) = samples := by
    refine List.ext_getElem (by simp [hcount]) fun q hq hq' => ?_
    rw [List.getElem_map, List.getElem_range, hread q (by simpa using hq), List.getD_eq_getElem _ _ hq']
  rw [parseSample, hsamples, hwritten, fieldAt_front (by omega), fieldAt_behind (by decide), fieldAt_front (by omega),
    fieldAt_behind (by decide), fieldAt_behind (by decide), fieldAt_front (by omega), fieldAt_behind (by decide),
    fieldAt_behind (by decide), fieldAt_behind (by decide), fieldAt_front hquality, BitVec.ofNat_toNat, BitVec.setWidth_eq]

theorem parseRequest_requestBytes {q : Request} {k : Nat} (hq : q.wf = true) (hk : k < 256) (hh : q.header = h) :
    fieldAt (requestBytes k q) 2 1 = k ∧ (∀ p : List Byte, fieldAt (requestBytes k q ++ p) 13 2 = q.data.length) ∧
      parseRequest h (requestBytes k q) = q := by
  obtain ⟨eth, src, dst, seq, number, target, argA, argB, data⟩ := q
  simp only [Request.wf, Bool.and_eq_true, decide_eq_true_eq] at hq
  obtain ⟨⟨⟨⟨⟨-, hnumber⟩, htarget⟩, ha⟩, hb⟩, hdata⟩ := hq
  subst hh
  have hwritten : ∀ p : List Byte, requestBytes k ⟨eth, src, dst, seq, number, target, argA, argB, data⟩ ++ p =
      beBytes 2 number ++ (beBytes 1 k ++ (beBytes 2 target ++ (beBytes 4 argA ++ (beBytes 4 argB ++
        (beBytes 2 data.length ++ (data ++ p)))))) := fun p => by
    simp only [requestBytes, List.append_assoc]
  have hlength : ∀ p : List Byte, fieldAt (requestBytes k ⟨eth, src, dst, seq, number, target, argA, argB, data⟩ ++ p) 13 2 =
      data.length := fun p => by
    rw [hwritten, fieldAt_behind (by decide), fieldAt_behind (by decide), fieldAt_behind (by decide),
      fieldAt_behind (by decide), fieldAt_behind (by decide), fieldAt_front (by omega)]
  have hwhole := hwritten []
  have hlen := hlength []
  rw [List.append_nil] at hwhole hlen
  rw [List.append_nil] at hwhole
  have hkind : fieldAt (requestBytes k ⟨eth, src, dst, seq, number, target, argA, argB, data⟩) 2 1 = k := by
    rw [hwhole, fieldAt_behind (by decide), fieldAt_front (by omega)]
  refine ⟨hkind, hlength, ?_⟩
  have hrest : sliceBytes (requestBytes k ⟨eth, src, dst, seq, number, target, argA, argB, data⟩) 15 data.length = data := by
    rw [hwhole, sliceBytes]
    simp [List.drop_append, List.drop_of_length_le, beBytes_length]
  rw [parseRequest, hlen, hrest, hwhole, fieldAt_front (by omega), fieldAt_behind (by decide), fieldAt_behind (by decide),
    fieldAt_front (by omega), fieldAt_behind (by decide), fieldAt_behind (by decide), fieldAt_behind (by decide),
    fieldAt_front (by omega), fieldAt_behind (by decide), fieldAt_behind (by decide), fieldAt_behind (by decide),
    fieldAt_behind (by decide), fieldAt_front (by omega)]
  rfl

theorem requestBytes_length (k : Nat) (q : Request) : (requestBytes k q).length = 15 + q.data.length := by
  simp only [requestBytes, List.length_append, beBytes_length]

end

/-- Settles O5. -/
theorem framesReadBackAsWritten : Obligations.FramesReadBackAsWritten := by
  intro l pin h pad hw
  refine ⟨fun f hf => ?_, fun f hf => ?_, fun f hf => ?_, fun f hf => ?_, fun f hf => ?_, fun k q hk hk' hq hh => ?_⟩
  · have hlen : (sampleBytes f).length = 25 := by
      simp only [SampleBody.wf, Bool.and_eq_true, beq_iff_eq] at hf
      simp only [sampleBytes, List.length_append, beBytes_length, samples_length, hf.1.2]
    rw [frameCommand, parseFrame_of hw (by omega) (by rw [hlen]; rfl), parseSample_sampleBytes hf]
  · have hlen : (positionBytes f).length = 6 := by simp only [positionBytes, List.length_append, beBytes_length]
    rw [frameCommand, parseFrame_of hw (by omega) (by rw [hlen]; rfl), parsePosition_positionBytes hf]
    rfl
  · have hlen : (genStatusBytes f).length = 3 := by simp only [genStatusBytes, List.length_append, beBytes_length]
    rw [frameCommand, parseFrame_of hw (by omega) (by rw [hlen]; rfl), parseGenStatus_genStatusBytes hf]
  · have hlen : (pageBytes f).length = 7 := by
      unfold pageBytes
      cases f.body <;> simp only [List.length_append, beBytes_length]
    rw [frameCommand, parseFrame_of hw (by omega) (by rw [hlen]; rfl), parsePage_pageBytes hf]
    rfl
  · have hlen : (timeBytes f).length = 5 := by simp only [timeBytes, List.length_append, beBytes_length]
    rw [frameCommand, parseFrame_of hw (by omega) (by rw [hlen]; rfl), parseTime_timeBytes hf]
  · obtain ⟨hkind, hdata, hread⟩ := parseRequest_requestBytes (k := k) hq (by omega) hh
    have hroom : q.data.length ≤ 1470 := by
      simp only [Request.wf, Bool.and_eq_true, decide_eq_true_eq] at hq
      exact hq.2
    have hlen := requestBytes_length k q
    rw [frameCommand, parseFrame_of hw (by omega) (by
      rw [bodyLengthOk, hdata, hlen]
      simp [hroom]), hkind, hread]
    dsimp only
    rw [if_pos (by simp [hk, hk'])]


end Sys2Proof.Machine
end

section
/-! # O51: the tests of a RESTART and the parts of the stream intake and of capture -/

namespace Sys2Proof.Machine

section
variable {s u : State} {l : Link} {q : Request} {k : Block} {ks : List Block}

/-! ### The tests of a RESTART (R188) -/

theorem exec_restart (h : s.Asked l q) : exec (.restart l q) s = finish s
    ((s.booked l q).startRestart.1.answer (s.ticketFor 11 q) (s.booked l q).startRestart.2) :=
  congrArg (finish s) (s.serve_asked 11 false _ h)

theorem State.booked_restartBar : (s.booked l q).restartBar = s.restartBar := by
  simp only [State.restartBar, State.slotFree, State.booked_brk, State.booked_run, State.booked_gen, State.booked_mgmt,
    State.commitInFlight]
  rfl

/-- A RESTART that a condition refuses. -/
theorem exec_restart_refused {n : Nat} (h : s.Asked l q) (hb : s.restartBar = some n) :
    ∃ t, exec (.restart l q) s = .next t ∧ Replies s t q 11 .notPermitted n 0 [] ∧ t.mgmt = s.answered .notPermitted ∧
      Only [.links, .mgmt] s t := by
  have hexec := exec_restart h
  rw [State.startRestart, State.booked_restartBar, hb] at hexec
  exact exec_answered (l := l) (r := { status := .notPermitted, detailA := n }) h.1 hexec

theorem slots_iff : (List.range 24).any (fun b => !s.slotFree b) = true ↔ ∃ b < 24, (s.brk b).slot ≠ none := by
  simp [State.slotFree, Option.ne_none_iff_isSome]

theorem failures_iff : (List.range 24).any (fun b => (s.brk b).bf != .idle) = true ↔ ∃ b < 24, (s.brk b).bf ≠ .idle := by
  simp

theorem bars_iff : (List.range 8).any (fun g => (s.gen g).state.bars) = true ↔
    ∃ g < 8, (s.gen g).state ∈ [GenState.syncing, .closing, .unloading] := by
  have hbars : ∀ x : GenState, x.bars = true ↔ x ∈ [GenState.syncing, .closing, .unloading] := fun x => by
    cases x <;> decide
  simp [List.any_eq_true, hbars]

theorem committing_iff : s.commitInFlight = true ↔ ∃ a ∈ s.mgmt.staging, a.state.isCommitting = true := List.any_eq_true

theorem State.booked_restarting : ∀ t : State, t.startRestart.1 = t ∨
    t.startRestart.1 = t.modMgmt (fun m => { m with restart := some restartBlocks }) := fun t => by
  unfold State.startRestart
  split
  · exact .inl rfl
  · exact .inr rfl

end

/-- Settles the first part of O51. -/
theorem restartIsTested : Clause.RestartIsTested := by
  intro s l q h slots failures gens committing refused
  have hslots : ¬ slots → ¬ (List.range 24).any (fun b => !s.slotFree b) = true := fun hno hyes => hno (slots_iff.1 hyes)
  have hfails : ¬ failures → ¬ (List.range 24).any (fun b => (s.brk b).bf != .idle) = true :=
    fun hno hyes => hno (failures_iff.1 hyes)
  have hruns : s.run? = none → ¬ s.run?.isSome = true := fun hno => by rw [hno]; decide
  have hgens : ¬ gens → ¬ (List.range 8).any (fun g => (s.gen g).state.bars) = true := fun hno hyes => hno (bars_iff.1 hyes)
  have hstores : s.mgmt.store = none → ¬ s.mgmt.store.isSome = true := fun hno => by rw [hno]; decide
  refine ⟨fun h1 => ?_, fun h1 h2 => ?_, fun h1 h2 h3 => ?_, fun h1 h2 h3 h4 => ?_, fun h1 h2 h3 h4 h5 => ?_,
    fun h1 h2 h3 h4 h5 h6 => ?_, fun h1 h2 h3 h4 h5 h6 => ?_⟩
  · exact exec_restart_refused h (by rw [State.restartBar, if_pos (slots_iff.2 h1)])
  · exact exec_restart_refused h (by rw [State.restartBar, if_neg (hslots h1), if_pos (failures_iff.2 h2)])
  · exact exec_restart_refused h (by
      rw [State.restartBar, if_neg (hslots h1), if_neg (hfails h2), if_pos (Option.ne_none_iff_isSome.1 h3)])
  · exact exec_restart_refused h (by
      rw [State.restartBar, if_neg (hslots h1), if_neg (hfails h2), if_neg (hruns h3), if_pos (bars_iff.2 h4)])
  · exact exec_restart_refused h (by
      rw [State.restartBar, if_neg (hslots h1), if_neg (hfails h2), if_neg (hruns h3), if_neg (hgens h4),
        if_pos (Option.ne_none_iff_isSome.1 h5)])
  · exact exec_restart_refused h (by
      rw [State.restartBar, if_neg (hslots h1), if_neg (hfails h2), if_neg (hruns h3), if_neg (hgens h4), if_neg (hstores h5),
        if_pos (committing_iff.2 h6)])
  · have hbar : s.restartBar = none := by
      rw [State.restartBar, if_neg (hslots h1), if_neg (hfails h2), if_neg (hruns h3), if_neg (hgens h4), if_neg (hstores h5),
        if_neg fun hyes => h6 (committing_iff.1 hyes)]
    have hexec := exec_restart h
    rw [State.startRestart, State.booked_restartBar, hbar] at hexec
    have hwaits : Waiting s ((s.booked l q).modMgmt (fun m => { m with restart := some restartBlocks })) :=
      (s.booked_awaiting l q).waiting.of_links rfl rfl
    have htouch : Touches [.links, .mgmt] s ((s.booked l q).modMgmt (fun m => { m with restart := some restartBlocks })) :=
      (Touches.booked s l q).modMgmt _
    have hmgmt : ((s.booked l q).modMgmt (fun m => { m with restart := some restartBlocks })).mgmt =
        { s.answered .done with restart := some restartBlocks } := by cases l <;> rfl
    obtain ⟨es, b, hend, hreplies, honly⟩ := exec_worked (kind := 11) (r := Reply.of .done) h.1 hwaits
      ((State.booked_work s l q).trans h.1.1) (fun g => State.booked_setpointOf s l q g) htouch hexec
    have hmgmt' := State.answer_mgmt ((s.booked l q).modMgmt (fun m => { m with restart := some restartBlocks }))
      (s.ticketFor 11 q) (Reply.of .done)
    rw [hmgmt] at hmgmt'
    have hlines := honly.2.2.2.2.1 .lines (by decide)
    refine ⟨_, hend, hreplies, hmgmt', ?_, honly⟩
    refine (congrArg Lines.healthy hlines).trans ?_
    rw [State.healthyNow, State.endedWith_mgmt, hmgmt']
    rw [Bool.and_assoc, Option.isNone_some, Bool.false_and, Bool.and_false]

section
variable {s t u : State} {k : Block} {ks : List Block} {n : Nat} {ps : List StatePart}

/-! ### A block's part (R188) -/

/-- A loop over the numbers below a bound. -/
theorem State.forEach_range {F : Nat → State → State} {P : Nat → State → Prop} (h₀ : P 0 s) :
    ∀ n, (∀ k < n, ∀ u, P k u → P (k + 1) (F k u)) → P n (s.forEach (List.range n) F)
  | 0, _ => h₀
  | n + 1, h => by
    have hloop : s.forEach (List.range (n + 1)) F = F n (s.forEach (List.range n) F) := by
      rw [State.forEach, List.range_succ, List.foldl_append]
      rfl
    rw [hloop]
    exact h n (Nat.lt_succ_self n) _ (State.forEach_range h₀ n fun k hk => h k (Nat.lt_succ_of_lt hk))

/-- The state in which a block's part has begun, and no frame to a generator controller is sent (R148). -/
def State.quieted (s : State) : State := { s with hushed := true }

/-- The state in which the part of block `k` is done. -/
def State.partEnded (s : State) (k : Block) (ks : List Block) : State :=
  s.modMgmt (fun m => { m with restart := some (ks.filter (· != k)) })

theorem exec_part (hks : s.mgmt.restart = some ks) (hk : k ∈ ks) : exec (.blockRestart k) s =
    finish s ((s.quieted.restartPart k).partEnded k ks).closeRestart := by
  have hpart : State.blockRestart k s = ((s.quieted.restartPart k).partEnded k ks).closeRestart := by
    rw [State.blockRestart, hks]
    exact if_pos (List.contains_iff_mem.2 hk)
  exact congrArg (finish s) hpart

theorem State.closeRestart_rests (h : ks.filter (· != k) ≠ []) : (s.partEnded k ks).closeRestart = s.partEnded k ks := by
  rw [State.closeRestart]
  exact if_neg (by simpa [State.partEnded, State.modMgmt] using h)

/-- A part that is due, where another one remains. -/
theorem exec_part_due (h : Clause.PartIsDue s k) : ∃ ks, s.mgmt.restart = some ks ∧
    exec (.blockRestart k) s = finish s ((s.quieted.restartPart k).partEnded k ks) := by
  obtain ⟨-, ks, hks, hk, hrest⟩ := h
  exact ⟨ks, hks, (exec_part hks hk).trans (congrArg (finish s) (State.closeRestart_rests hrest))⟩

theorem Touches.quieted (s : State) : Touches ps s s.quieted := (Touches.refl ps s).underWay s.closing true

theorem Touches.partEnded (h : Touches ps s u) (hm : .mgmt ∈ ps := by decide) : Touches ps s (u.partEnded k ks) :=
  h.modMgmt _ hm

/-- The end of a block's part that leaves the work and the generators alone. -/
theorem finish_part (h : Clause.PartIsDue s k) (hk : k ≠ .management) (htouch : Touches ps s (s.quieted.restartPart k))
    (hpar : .par ∉ ps := by decide) (hseq : .seq ∉ ps := by decide) (hm : .mgmt ∈ ps := by decide) :
    ∃ ks t, exec (.blockRestart k) s = .next t ∧
      t = ((s.quieted.restartPart k).partEnded k ks).endedWith
        (State.noteEdges s ((s.quieted.restartPart k).partEnded k ks)).capture.edges t.lines.healthy ∧
      Clause.PartDone s t k ∧ Only ps s t := by
  obtain ⟨ks, hks, hexec⟩ := exec_part_due h
  have hmgmt : (s.quieted.restartPart k).mgmt = s.mgmt := State.restartPart_mgmt hk
  have hpars : (s.quieted.restartPart k).par = s.par := htouch.stands .par hpar
  have hended := htouch.partEnded (k := k) (ks := ks) hm
  have hwork : ((s.quieted.restartPart k).partEnded k ks).work = [] := (hended.calm hseq).1.trans h.1.1
  have hset : ∀ g, ((s.quieted.restartPart k).partEnded k ks).setpointOf g = s.setpointOf g :=
    State.setpointOf_congr (congrArg Paralleling.gens hpars) (hended.calm hseq).2.2
  have hsettle := State.settle_steady hwork hset
  have honly := hended.only h.1.1 h.1.risen (.inl hwork) (.inl hset)
  rw [hsettle] at honly
  refine ⟨ks, _, hexec.trans (congrArg Host.Outcome.next hsettle), rfl, fun ks' hks' => ?_, honly⟩
  obtain rfl := Option.some.inj (hks.symm.trans hks')
  rw [State.endedWith_mgmt]
  show { (s.quieted.restartPart k).mgmt with restart := some (ks.filter (· != k)) } = _
  rw [hmgmt]

/-! ### The stream intake (R22, R39, R49) -/

/-- The streams below `n` have entered ACQUIRING or DISABLED. -/
structure StreamsEntered (s : State) (n : Nat) (t : State) : Prop where
  mgmt : t.mgmt = s.mgmt
  streams : t.intake.streams.length = s.intake.streams.length
  measures : t.measures.length = s.measures.length
  entered : ∀ k < n, (t.stream k).state = (if s.fld .stream k 1 = 1 then StreamState.acquiring else .disabled) ∧
    (t.stream k).buffer = [] ∧ (t.stream k).valid = false ∧ (t.measure k).tracker.valid = false ∧
    (t.measure k).windows = List.replicate 8 emptyWindow

theorem StreamsEntered.enterStream (h : StreamsEntered s n t) (hs : n < s.intake.streams.length) (hm : n < s.measures.length) :
    StreamsEntered s (n + 1) (t.enterStream n) where
  mgmt := h.mgmt
  streams := (List.length_modify ..).trans h.streams
  measures := (List.length_modify ..).trans h.measures
  entered k hk := by
    obtain hk | rfl := Nat.lt_succ_iff_lt_or_eq.1 hk
    · have hstream : (t.enterStream n).stream k = t.stream k := State.stream_modStream_other _ _ (Nat.ne_of_gt hk)
      have hmeasure : (t.enterStream n).measure k = t.measure k := State.measure_modMeasure_other _ _ (Nat.ne_of_gt hk)
      rw [hstream, hmeasure]
      exact h.entered k hk
    · have hstream : (t.enterStream k).stream k = (t.stream k).cleared (if t.fld .stream k 1 == 1 then .acquiring else .disabled) :=
        State.stream_modStream_same _ _ (h.streams.symm ▸ hs)
      have hmeasure : (t.enterStream k).measure k = (t.measure k).empty := State.measure_modMeasure_same _ _ (h.measures.symm ▸ hm)
      have hfld : t.fld .stream k 1 = s.fld .stream k 1 := by rw [State.fld, h.mgmt, State.fld]
      rw [hstream, hmeasure, hfld]
      exact ⟨if_congr beq_iff_eq rfl rfl, rfl, rfl, rfl, rfl⟩

theorem State.restartPart_streams : s.restartPart .streams = s.forEach (List.range 16) (fun n t => t.enterStream n) := rfl

theorem State.quieted_enters (s : State) : StreamsEntered s 0 s.quieted :=
  ⟨rfl, rfl, rfl, fun k hk => absurd hk (Nat.not_lt_zero k)⟩

theorem State.Quiet.streams_entered (hs : s.Quiet) : StreamsEntered s 16 (s.quieted.restartPart .streams) := by
  rw [State.restartPart_streams]
  exact State.forEach_range (P := StreamsEntered s) s.quieted_enters 16 fun k hk u hu =>
    hu.enterStream (by rw [hs.streams_length]; exact hk) (by rw [hs.measures_length]; exact hk)

end

/-- Settles the third part of O51. -/
theorem streamsRestart : Clause.StreamsRestart := by
  intro s h
  have hentered := h.1.streams_entered
  have htouch : Touches [.intake, .measures, .mgmt] s (s.quieted.restartPart .streams) := by
    rw [State.restartPart_streams]
    exact (Touches.quieted s).forEach _ _ fun _ _ hu => hu.enterStream _
  obtain ⟨ks, t, hexec, ht, hdone, honly⟩ := finish_part h (by decide) htouch
  generalize s.quieted.restartPart .streams = u at *
  refine ⟨t, hexec, fun k hk => ?_, hdone, honly⟩
  rw [ht]
  exact hentered.entered k hk

section
variable {s u : State}

/-! ### Capture (R176) -/

/-- Of a state's points capture gives none but CAPTURE_ACTIVE. -/
theorem State.capture_point (c : Capture) {n : Nat} (hn : n ≠ 236) : { u with capture := c }.point n = u.point n := by
  simp only [State.point, beq_iff_eq, hn, if_false]
  rfl

/-- Where no capture records the points of capture are 0. -/
theorem State.captured_point {c : Capture} (hc : c.state ≠ .recording) {n : Nat} (h : { u with capture := c }.point n = true) :
    u.point n = true := by
  by_cases hn : n = 236
  · rw [hn, State.point_236] at h
    exact absurd (beq_iff_eq.1 h) hc
  · rwa [State.capture_point c hn] at h

theorem State.restartPart_capture : s.restartPart .capture = s.releaseCapture.modCapture (fun c => { c with ring := [] }) := rfl

/-- What capture's part leaves. -/
structure CaptureRestarted (s u : State) : Prop where
  state : u.capture.state = .empty
  ring : u.capture.ring = []
  refused : u.capture.refused = s.capture.refused
  edges : u.capture.edges = s.capture.edges
  released : s.capture.state ≠ .empty → u.capture.buffer = [] ∧ u.capture.triggerPoint = none ∧ u.capture.triggerLabel = none ∧
    u.newest = some ⟨s.events.nextSeq, s.eventLabel, .capture, 5, 0, 4, some s.capture.buffer.length, false⟩
  risen : u.risen = s.risen
  point : ∀ n, u.point n = true → s.point n = true

theorem State.capture_restarted (s : State) : CaptureRestarted s (s.quieted.restartPart .capture) := by
  have hquiet : ∀ n, s.quieted.point n = s.point n := fun _ => rfl
  have hring : ∀ (v : State) (n : Nat), (v.modCapture (fun c => { c with ring := [] })).point n = v.point n := fun v n =>
    State.modCapture_point rfl n
  rw [State.restartPart_capture]
  by_cases h : s.capture.state = .empty
  · rw [State.releaseCapture_empty (s := s.quieted) h]
    exact ⟨h, rfl, rfl, rfl, fun hno => absurd h hno, rfl, fun n hn => by rwa [hring, hquiet] at hn⟩
  · rw [State.releaseCapture_held (s := s.quieted) h]
    have hcapture : (s.quieted.releasing.event .capture 5 0 4 (some s.quieted.capture.buffer.length)).capture =
        s.releasing.capture := by
      rw [State.event_capture]
      rfl
    have hnewest := State.event_newest (s := s.quieted.releasing) .capture 5 0 4 (some s.quieted.capture.buffer.length)
    have hrisen : (s.quieted.releasing.event .capture 5 0 4 (some s.quieted.capture.buffer.length)).risen = s.risen := by
      rw [State.event_risen]
      rfl
    have hpoint : ∀ n, (s.quieted.releasing.event .capture 5 0 4 (some s.quieted.capture.buffer.length)).point n = true →
        s.point n = true := fun n hn => by
      rw [State.event_point] at hn
      exact State.captured_point (u := s.quieted) (c := s.releasing.capture) (by exact fun h => nomatch h) hn
    generalize s.quieted.releasing.event .capture 5 0 4 (some s.quieted.capture.buffer.length) = v at *
    have hring' : (v.modCapture (fun c => { c with ring := [] })).capture = { s.releasing.capture with ring := [] } := by
      rw [← hcapture]
      rfl
    refine ⟨congrArg Capture.state hring', congrArg Capture.ring hring', (congrArg Capture.refused hring').trans rfl,
      (congrArg Capture.edges hring').trans rfl, fun _ => ⟨congrArg Capture.buffer hring', congrArg Capture.triggerPoint hring',
        congrArg Capture.triggerLabel hring', hnewest⟩, hrisen, fun n hn => hpoint n (by rwa [hring] at hn)⟩

end

/-- Settles the ninth part of O51. -/
theorem captureRestarts : Clause.CaptureRestarts := by
  intro s h
  have htouch : Touches [.links, .events, .capture, .mgmt] s (s.quieted.restartPart .capture) := by
    rw [State.restartPart_capture]
    exact (Touches.quieted s).releaseCapture.modCapture (fun c => { c with ring := [] })
  have hrestarted := s.capture_restarted
  obtain ⟨ks, t, hexec, ht, hdone, honly⟩ := finish_part h (by decide) htouch
  generalize s.quieted.restartPart .capture = u at *
  have hrises : (State.noteEdges s (u.partEnded .capture ks)).capture.edges = s.capture.edges := by
    have hpoint : ∀ n, (u.partEnded .capture ks).point n = u.point n := fun _ => rfl
    rw [State.noteEdges_risesOf (s := s) (u := u.partEnded .capture ks) (hrestarted.risen.trans h.1.risen) [] false]
    have hnone : risesOf s ((u.partEnded .capture ks).endedWith [] false) = [] := by
      refine List.filter_eq_nil_iff.2 fun n _ hn => ?_
      rw [Bool.and_eq_true, Bool.not_eq_true'] at hn
      obtain ⟨hlow, hrises⟩ := hn
      rw [State.endedWith_point, hpoint] at hrises
      exact Bool.noConfusion (hlow.symm.trans (hrestarted.point n hrises))
    rw [hnone, List.append_nil]
    exact hrestarted.edges
  refine ⟨t, hexec, ?_, ?_, ?_, fun hheld => ?_, ?_, hdone, honly⟩
  · rw [ht]
    exact hrestarted.state
  · rw [ht]
    exact hrestarted.ring
  · rw [ht]
    exact hrestarted.refused
  · obtain ⟨hbuffer, hpoint, hlabel, hnewest⟩ := hrestarted.released hheld
    rw [ht]
    refine ⟨hbuffer, hpoint, hlabel, ?_⟩
    rw [Records, ← h.1.eventLabel]
    exact hnewest
  · rw [ht, State.endedWith_capture]
    exact hrises


end Sys2Proof.Machine
end

section
/-! # O51: the end of a RESTART and the part of protection -/

namespace Sys2Proof.Machine

section
variable {s t u : State} {k : Block} {ks : List Block} {n : Nat}

/-! ### The end of a RESTART (R188) -/

theorem exec_part_idle (h : s.Quiet) (hr : s.mgmt.restart = none) : exec (.blockRestart k) s = .next s := by
  have hidle : State.blockRestart k s = s := by rw [State.blockRestart, hr]
  exact (congrArg (finish s) hidle).trans (finish_idle h)

/-- The state in which the last block's part has ended the restart. -/
def State.restartClosed (s : State) : State :=
  s.quieted.modMgmt (fun m => { m with restart := none, staging := List.replicate 13 {} })

theorem exec_part_last (hr : s.mgmt.restart = some [.management]) : exec (.blockRestart .management) s =
    finish s (s.restartClosed.event .management 10 0 13 none) := by
  have hcloses : ((s.quieted.restartPart .management).partEnded .management [.management]).closeRestart =
      s.restartClosed.event .management 10 0 13 none := by
    rw [State.closeRestart]
    exact if_pos rfl
  rw [exec_part hr (List.mem_singleton_self _), hcloses]

end

/-- Settles the second part of O51. -/
theorem restartEnds : Clause.RestartEnds := by
  refine fun s => ⟨fun hs hr => ?_, fun k hs hr => exec_part_idle hs hr⟩
  have hexec := exec_part_last hr
  have hmgmt : (s.restartClosed.event .management 10 0 13 none).mgmt =
      { s.mgmt with restart := none, staging := List.replicate 13 {} } := by
    rw [State.event_mgmt]
    rfl
  have hnewest := State.event_newest (s := s.restartClosed) .management 10 0 13 none
  have htouch : Touches [.links, .events, .mgmt] s (s.restartClosed.event .management 10 0 13 none) :=
    ((Touches.quieted s).modMgmt _).event _ _ _ _ _
  have hwork : (s.restartClosed.event .management 10 0 13 none).work = [] := (State.event_work ..).trans hs.1
  have hset : ∀ g, (s.restartClosed.event .management 10 0 13 none).setpointOf g = s.setpointOf g := fun g =>
    State.event_setpointOf ..
  generalize s.restartClosed.event .management 10 0 13 none = u at *
  obtain ⟨es, hend, honly⟩ := finish_settled hs htouch hwork hset
  refine ⟨_, hexec.trans hend, hmgmt, ?_, honly⟩
  rw [Records, State.endedWith_newest, hnewest, ← hs.eventLabel]
  rfl

section
variable {s t u : State} {n : Nat}

/-! ### Protection (R78, R79) -/

/-- An element's record at its part of a RESTART. -/
def State.elementAnew (s : State) (e : Nat) : ElementRec where
  state := if s.fld .element e (s.element e).bank.base = 1 then .settling else .disabled
  bank := (s.element e).bank
  operations := (s.element e).operations

/-- The requests by which an element is asked to leave its trip demand sets. -/
def State.elementLeaves (s : State) (e : Nat) : List DemandRequest :=
  (s.tripSet e).map (fun b => ⟨false, b, .element e⟩)

/-- An element that leaves its state for SETTLING or DISABLED. -/
theorem State.elementOutputs_restarts (e : Nat) (trips : List Nat) (old : ElementState) {c : Prop} [Decidable c] :
    s.elementOutputs e trips old (if c then .settling else .disabled) 0 = if old = .operated then
      (s.asking (trips.map (fun b => ⟨false, b, .element e⟩))).event .protection 7 e 2 (some 1) else s := by
  generalize hnew : (if c then ElementState.settling else .disabled) = new
  have hnew' : new = .settling ∨ new = .disabled := by
    rw [← hnew]
    by_cases h : c
    · exact .inl (if_pos h)
    · exact .inr (if_neg h)
  have hasks : ∀ t : State, t.forEach trips (fun b u => u.askRemove b (.element e)) =
      t.asking (trips.map (fun b => ⟨false, b, .element e⟩)) := fun t => State.forEach_askRemove _ _ t
  obtain rfl | rfl := hnew' <;> by_cases h : old = .operated <;> simp [State.elementOutputs, h, hasks]

/-- The elements below `n` have carried out their part. -/
structure ElementsAnew (s : State) (n : Nat) (t : State) : Prop where
  mgmt : t.mgmt = s.mgmt
  length : t.elements.length = s.elements.length
  done : ∀ e < n, t.element e = s.elementAnew e
  ahead : ∀ e ≥ n, t.element e = s.element e
  breakers : t.breakers = { s.breakers with requests := s.breakers.requests ++
    ((List.range n).filter (fun e => (s.element e).state == .operated)).flatMap s.elementLeaves }

/-- One element's part. -/
theorem State.restartElement_eq (e : Nat) (s : State) : State.restartElement e s =
    if (s.element e).state = .operated then
      ((s.modElement e (fun _ => s.elementAnew e)).asking (s.elementLeaves e)).event .protection 7 e 2 (some 1)
    else s.modElement e (fun _ => s.elementAnew e) := by
  have hnew : ({ (s.element e).startSettling with
      state := if s.fld .element e (s.element e).bank.base == 1 then .settling else .disabled, lastX := 0 } : ElementRec) =
      s.elementAnew e := by
    rw [State.elementAnew, ElementRec.startSettling]
    simp only [beq_iff_eq]
  have hrun : State.restartElement e s = (s.modElement e (fun _ => s.elementAnew e)).elementOutputs e (s.tripSet e)
      (s.element e).state (s.elementAnew e).state 0 := by
    rw [← hnew]
    rfl
  rw [hrun]
  exact State.elementOutputs_restarts e (s.tripSet e) (s.element e).state

theorem ElementsAnew.restartElement (h : ElementsAnew s n t) (hn : n < s.elements.length) :
    ElementsAnew s (n + 1) (State.restartElement n t) := by
  have hfld : ∀ e i, t.fld .element e i = s.fld .element e i := fun e i => by rw [State.fld, h.mgmt, State.fld]
  have hself : t.element n = s.element n := h.ahead n (Nat.le_refl n)
  have hanew : t.elementAnew n = s.elementAnew n := by rw [State.elementAnew, hself, hfld, State.elementAnew]
  have hleaves : t.elementLeaves n = s.elementLeaves n := by
    rw [State.elementLeaves, State.tripSet, hfld, State.elementLeaves, State.tripSet]
  have hmod : ∀ e, (t.modElement n (fun _ => s.elementAnew n)).element e = if e = n then s.elementAnew n else t.element e :=
    fun e => by
      by_cases he : e = n
      · rw [if_pos he, he]
        exact State.element_modElement_same (s := t) (fun _ => s.elementAnew n) (h.length.symm ▸ hn)
      · rw [if_neg he]
        exact State.element_modElement_other (s := t) (fun _ => s.elementAnew n) (Ne.symm he)
  have hlength : (t.modElement n (fun _ => s.elementAnew n)).elements.length = s.elements.length :=
    (List.length_modify ..).trans h.length
  have hdone : ∀ e < n + 1, (t.modElement n (fun _ => s.elementAnew n)).element e = s.elementAnew e := fun e he => by
    rw [hmod]
    split
    · next heq => rw [heq]
    · next hne => exact h.done e (by omega)
  have hahead : ∀ e ≥ n + 1, (t.modElement n (fun _ => s.elementAnew n)).element e = s.element e := fun e he => by
    rw [hmod, if_neg (by omega)]
    exact h.ahead e (by omega)
  have hreqs : t.breakers.requests = s.breakers.requests ++
      ((List.range n).filter (fun e => (s.element e).state == .operated)).flatMap s.elementLeaves := by rw [h.breakers]
  rw [State.restartElement_eq, hanew, hself, hleaves]
  by_cases hop : (s.element n).state = .operated
  · rw [if_pos hop]
    refine ⟨?_, ?_, fun e he => ?_, fun e he => ?_, ?_⟩
    · rw [State.event_mgmt]
      exact h.mgmt
    · rw [State.event_elements]
      exact hlength
    · rw [State.event_element]
      exact hdone e he
    · rw [State.event_element]
      exact hahead e he
    · rw [State.event_breakers, List.range_succ, List.filter_append, List.flatMap_append, List.filter_singleton, hop]
      refine (congrArg (fun b : BreakerCtl => { b with requests := b.requests ++ s.elementLeaves n }) h.breakers).trans ?_
      simp
  · rw [if_neg hop]
    refine ⟨h.mgmt, hlength, hdone, hahead, ?_⟩
    rw [List.range_succ, List.filter_append, List.filter_singleton]
    have hno : ((s.element n).state == .operated) = false := beq_eq_false_iff_ne.2 hop
    rw [hno]
    simpa using h.breakers

theorem State.Quiet.elements_anew (hs : s.Quiet) : ElementsAnew s 64 (s.quieted.restartPart .protection) := by
  have hloop : s.quieted.restartPart .protection = s.quieted.forEach (List.range 64) State.restartElement := rfl
  have hstart : ElementsAnew s 0 s.quieted :=
    ⟨rfl, rfl, fun e he => absurd he (Nat.not_lt_zero e), fun e _ => rfl, by simp [State.quieted]⟩
  rw [hloop]
  exact State.forEach_range (P := ElementsAnew s) hstart 64 fun k hk u hu =>
    hu.restartElement (by rw [hs.elements_length]; exact hk)

end

/-- Settles the fourth part of O51. -/
theorem protectionRestarts : Clause.ProtectionRestarts := by
  intro s h
  have hanew := h.1.elements_anew
  have htouch : Touches [.links, .events, .elements, .breakers, .mgmt] s (s.quieted.restartPart .protection) :=
    (Touches.quieted s).forEach _ _ fun _ _ hu => (hu.modElement _ _).elementOutputs _ _ _ _ _
  obtain ⟨ks, t, hexec, ht, hdone, honly⟩ := finish_part h (by decide) htouch
  generalize s.quieted.restartPart .protection = u at *
  refine ⟨t, hexec, fun e he => ?_, ?_, hdone, honly⟩
  · rw [ht]
    refine (hanew.done e he).trans ?_
    rw [State.elementAnew]
    cases (s.element e).bank <;> rfl
  · rw [ht, State.endedWith_breakers]
    exact hanew.breakers


end Sys2Proof.Machine
end

section
/-! # O51: the part of the breaker controller -/

namespace Sys2Proof.Machine

section
variable {s t u : State} {b n : Nat}

/-! ### The breaker controller (R118, R189) -/

theorem GenState.not_loaded {x : GenState} (h : x ≠ .online) (h' : x ≠ .unloading) : x.loaded = false := by
  cases x <;> simp_all [GenState.loaded]

/-- A change of position to UNKNOWN as it is handed on. -/
def Work.loses : Work → Bool
  | .genPosition b _ new _ _ => decide (b < 24) && new == .unknown
  | .seqPosition b => decide (b < 24)
  | _ => false

/-- Where every position is UNKNOWN, and no generator has a load, nothing follows. -/
theorem State.handle_loses {w : Work} (hw : w.loses = true) (hp : ∀ b < 24, (s.brk b).position = .unknown)
    (hg : ∀ g < 8, (s.gen g).state.loaded = false) : State.handle s w = s := by
  cases w with
  | genPosition b old new own tripped =>
    rw [Work.loses, Bool.and_eq_true, decide_eq_true_eq, beq_iff_eq] at hw
    obtain ⟨hb, rfl⟩ := hw
    show s.genMoved b old .unknown own tripped = s
    rw [State.genMoved]
    split
    · rfl
    · next g hof =>
      have hlt : g < 8 := List.mem_range.1 (List.mem_of_find?_eq_some hof)
      have hown : s.genBreaker g = b := by
        have := List.find?_some hof
        simp only [Bool.and_eq_true, beq_iff_eq] at this
        exact this.2
      have hafter : s.afterExchange g = s := by
        rw [State.afterExchange, State.settleNegotiated, State.genPosition, hown, hp b hb]
        exact ite_self s
      have hleft : s.genLeftClosed g own tripped = s := by
        rw [State.genLeftClosed, hg g hlt]
        rfl
      rw [hafter, hleft, if_neg (c := ((s.gen g).state == .stopping && Position.unknown == .opened) = true) (by simp),
        if_neg (c := (Position.unknown == .closed) = true) (by decide), ite_self, ite_self]
  | seqPosition b =>
    have hb : b < 24 := of_decide_eq_true hw
    show s.seqMoved b = s
    rw [State.seqMoved]
    split
    · exact if_neg (by simp [hp b hb])
    · rfl
  | _ => cases hw

/-- What a position that returns to UNKNOWN changes and hands on. -/
structure Loses (b : Nat) (s t : State) : Prop where
  breakers : t.breakers = (s.modBrk b (fun r => { r with position := .unknown, candidate := none })).breakers
  mgmt : t.mgmt = s.mgmt
  par : t.par = s.par
  seq : t.seq = { s.seq with lineupDue := s.seq.lineupDue ||
    (decide (b ∈ watchedBreakers s.mgmt.tables) && (s.brk b).position != .unknown) }
  work : ∃ ws, t.work = s.work ++ ws ∧ ws.length ≤ 2 ∧ ∀ w ∈ ws, w.loses = true

theorem State.losePosition_loses (hb : b < 24) (s : State) : Loses b s (s.losePosition b) := by
  rw [State.losePosition]
  by_cases h : (s.brk b).position = .unknown
  · rw [if_pos (by rw [h]; rfl)]
    exact ⟨rfl, rfl, rfl, by rw [h, bne_self_eq_false, Bool.and_false, Bool.or_false]; rfl, [], (List.append_nil _).symm, by simp⟩
  · rw [if_neg (by simpa using h)]
    have hne : ((s.brk b).position != .unknown) = true := bne_iff_ne.2 h
    have hmoved : ∀ v : State, (v.positionMoved b (s.brk b).position .unknown false (!(s.brk b).trips.isEmpty)).post
        (.seqPosition b) = ((v.lineupMarked b).post
          (.genPosition b (s.brk b).position .unknown false (!(s.brk b).trips.isEmpty))).post (.seqPosition b) := fun _ => rfl
    rw [hmoved]
    refine ⟨?_, ?_, ?_, ?_, [.genPosition b (s.brk b).position .unknown false (!(s.brk b).trips.isEmpty), .seqPosition b],
      ?_, Nat.le_refl 2, fun w hw => ?_⟩
    · rw [State.post_breakers, State.post_breakers, State.lineupMarked_breakers]
    · rw [State.post_mgmt, State.post_mgmt, State.lineupMarked_mgmt, State.modBrk_mgmt]
    · rw [State.post_par, State.post_par, State.lineupMarked]
      split <;> rfl
    · rw [State.post_seq, State.post_seq, State.lineupMarked_seq, hne, Bool.and_true, Bool.or_comm]
      rfl
    · rw [State.post_work, State.post_work, State.lineupMarked_work, List.append_assoc]
      rfl
    · simp only [List.mem_cons, List.not_mem_nil, or_false] at hw
      obtain rfl | rfl := hw <;> simp [Work.loses, hb]

/-- A breaker's record once its part of a RESTART is done. -/
def BreakerRec.anew (r : BreakerRec) : BreakerRec :=
  { r with
    position := .unknown, candidate := none, fieldPosition := .unknown, fieldCandidate := none
    health := ⟨false, false, false⟩, unresponsive := false }

/-- The breakers below `n` have returned to UNKNOWN. -/
structure BreakersAnew (s : State) (n : Nat) (t : State) : Prop where
  length : t.breakers.recs.length = s.breakers.recs.length
  done : ∀ b < n, t.brk b = (s.brk b).anew
  ahead : ∀ b ≥ n, t.brk b = s.brk b
  requests : t.breakers.requests = s.breakers.requests
  mgmt : t.mgmt = s.mgmt
  par : t.par = s.par
  seq : t.seq = { s.seq with
    lineupDue := s.seq.lineupDue ||
      (List.range n).any (fun b => decide (b ∈ watchedBreakers s.mgmt.tables) && (s.brk b).position != .unknown) }
  short : t.work.length ≤ 2 * n
  loses : ∀ w ∈ t.work, w.loses = true

theorem BreakersAnew.restartBreaker (h : BreakersAnew s n t) (hn : n < 24) (hlen : n < s.breakers.recs.length) :
    BreakersAnew s (n + 1) (State.restartBreaker n t) := by
  have hloses := State.losePosition_loses hn t
  rw [State.restartBreaker]
  obtain ⟨ws, hwork, hshort, hall⟩ := hloses.work
  have hlent : n < t.breakers.recs.length := h.length.symm ▸ hlen
  have hself : t.brk n = s.brk n := h.ahead n (Nat.le_refl n)
  have hbrk : ∀ b, (t.losePosition n).brk b =
      (t.modBrk n (fun r => { r with position := .unknown, candidate := none })).brk b := fun b => by
    rw [State.brk, hloses.breakers, State.brk]
  have hlength : (t.losePosition n).breakers.recs.length = s.breakers.recs.length := by
    rw [hloses.breakers]
    exact (List.length_modify ..).trans h.length
  have hreqs : (t.losePosition n).breakers.requests = s.breakers.requests := by
    rw [hloses.breakers]
    exact h.requests
  have hmgmt := hloses.mgmt.trans h.mgmt
  have hpar := hloses.par.trans h.par
  have hseq := hloses.seq
  generalize t.losePosition n = y at *
  refine ⟨(List.length_modify ..).trans hlength, fun b hb => ?_, fun b hb => ?_, hreqs, hmgmt, hpar, ?_, ?_, fun w hw => ?_⟩
  · by_cases he : b = n
    · subst he
      rw [State.brk_modBrk_same (s := y) _ (hlength.symm ▸ hlen), hbrk, State.brk_modBrk_same (s := t) _ hlent, hself]
      rfl
    · rw [State.brk_modBrk_other (s := y) _ (Ne.symm he), hbrk, State.brk_modBrk_other (s := t) _ (Ne.symm he)]
      exact h.done b (by omega)
  · rw [State.brk_modBrk_other (s := y) _ (by omega), hbrk, State.brk_modBrk_other (s := t) _ (by omega)]
    exact h.ahead b (by omega)
  · refine hseq.trans ?_
    rw [h.seq, h.mgmt, hself, List.range_succ, List.any_append]
    simp [Bool.or_assoc]
  · show y.work.length ≤ _
    have := h.short
    rw [hwork, List.length_append]
    omega
  · have hmem : w ∈ t.work ++ ws := hwork ▸ (show w ∈ y.work from hw)
    obtain hw | hw := List.mem_append.1 hmem
    · exact h.loses w hw
    · exact hall w hw

theorem State.Quiet.breakers_anew (hs : s.Quiet) : BreakersAnew s 24 (s.quieted.restartPart .breakers) := by
  have hloop : s.quieted.restartPart .breakers = s.quieted.forEach (List.range 24) State.restartBreaker := rfl
  have hstart : BreakersAnew s 0 s.quieted := by
    have hwork : s.quieted.work = [] := hs.1
    exact ⟨rfl, fun b hb => absurd hb (Nat.not_lt_zero b), fun _ _ => rfl, rfl, rfl, rfl, by simp [State.quieted],
      by rw [hwork]; decide, fun w hw => by rw [hwork] at hw; cases hw⟩
  rw [hloop]
  exact State.forEach_range (P := BreakersAnew s) hstart 24 fun k hk u hu => hu.restartBreaker hk (hs.lt_recs hk)

/-- The end of a block's part whose work finds nothing to do. -/
theorem finish_part_resting {k : Block} {ps : List StatePart} (h : Clause.PartIsDue s k) (hk : k ≠ .management)
    (htouch : Touches ps s (s.quieted.restartPart k))
    (hidle : ∀ ks, ∀ w ∈ (s.quieted.restartPart k).work,
      State.handle { (s.quieted.restartPart k).partEnded k ks with work := [] } w =
        { (s.quieted.restartPart k).partEnded k ks with work := [] })
    (hshort : (s.quieted.restartPart k).work.length ≤ Config.workBound)
    (hpar : .par ∉ ps := by decide) (hseq : .seq ∈ ps := by decide) (hm : .mgmt ∈ ps := by decide) :
    ∃ ks es t, exec (.blockRestart k) s = .next t ∧
      t = State.endedWith { (s.quieted.restartPart k).partEnded k ks with work := [] } es t.lines.healthy ∧
      Clause.PartDone s t k ∧ Only ps s t := by
  obtain ⟨ks, hks, hexec⟩ := exec_part_due h
  have hmgmt : (s.quieted.restartPart k).mgmt = s.mgmt := State.restartPart_mgmt hk
  have hpars : (s.quieted.restartPart k).par = s.par := htouch.stands .par hpar
  have hended := (htouch.partEnded (k := k) (ks := ks) hm).rested hseq
  have hidle' := hidle ks
  generalize s.quieted.restartPart k = u at *
  have htables : ({ u.partEnded k ks with work := [] } : State).mgmt.tables = s.mgmt.tables :=
    (rfl : _ = u.mgmt.tables).trans (congrArg Management.tables hmgmt)
  have hset : ∀ g, ({ u.partEnded k ks with work := [] } : State).setpointOf g = s.setpointOf g :=
    State.setpointOf_congr ((rfl : _ = u.par.gens).trans (congrArg Paralleling.gens hpars)) htables
  obtain ⟨es, hend, honly⟩ := finish_settled h.1 hended rfl hset
  have hdrains : Drains u.work.length (u.partEnded k ks) { u.partEnded k ks with work := [] } :=
    Drains.idle (u := u.partEnded k ks) rfl hidle'
  have hsettle : finish s (u.partEnded k ks) = finish s { u.partEnded k ks with work := [] } :=
    congrArg Host.Outcome.next (hdrains.settle hshort)
  refine ⟨ks, es, _, hexec.trans (hsettle.trans hend), rfl, fun ks' hks' => ?_, honly⟩
  obtain rfl := Option.some.inj (hks.symm.trans hks')
  rw [State.endedWith_mgmt]
  show { u.mgmt with restart := some (ks.filter (· != k)) } = _
  rw [hmgmt]

end

/-- Settles the fifth part of O51. -/
theorem breakersRestart : Clause.BreakersRestart := by
  intro s h hgens
  have hanew := h.1.breakers_anew
  have htouch : Touches [.breakers, .seq, .mgmt] s (s.quieted.restartPart .breakers) := by
    have hloop : s.quieted.restartPart .breakers = s.quieted.forEach (List.range 24) State.restartBreaker := rfl
    rw [hloop]
    refine (Touches.quieted s).forEach _ _ fun b v hv => Touches.modBrk b _ ?_
    exact Touches.ite (hv.modBrk _ _) ((Touches.ite ((hv.modBrk _ _).modSeq _) (hv.modBrk _ _)).post _ |>.post _)
  have hidle : ∀ ks, ∀ w ∈ (s.quieted.restartPart .breakers).work,
      State.handle { (s.quieted.restartPart .breakers).partEnded .breakers ks with work := [] } w =
        { (s.quieted.restartPart .breakers).partEnded .breakers ks with work := [] } := fun ks w hw => by
    have hbrk : ∀ v : State, ∀ b, State.brk { v.partEnded .breakers ks with work := [] } b = v.brk b := fun _ _ => rfl
    have hgen : ∀ v : State, ∀ g, State.gen { v.partEnded .breakers ks with work := [] } g = v.gen g := fun _ _ => rfl
    refine State.handle_loses (hanew.loses w hw) (fun b hb => ?_) fun g hg => ?_
    · rw [hbrk, hanew.done b hb]
      rfl
    · rw [hgen, State.gen, hanew.par]
      obtain ⟨honline, hunloading⟩ := hgens g hg
      exact GenState.not_loaded honline hunloading
  obtain ⟨ks, es, t, hexec, ht, hdone, honly⟩ := finish_part_resting h (by decide) htouch hidle
    (hanew.short.trans (by decide))
  generalize s.quieted.restartPart .breakers = u at *
  refine ⟨t, hexec, fun b hb => ?_, ?_, ?_, hdone, honly⟩
  · rw [ht]
    exact hanew.done b hb
  · rw [ht, State.endedWith_breakers]
    exact hanew.requests
  · rw [ht, State.endedWith_seq]
    exact hanew.seq


end Sys2Proof.Machine
end

section
/-! # O51: the part of the sequencer, and the frames that no part sends -/

namespace Sys2Proof.Machine

section
variable {s t u x : State}

/-! ### The sequencer (R143) -/

/-- What is left of a state but the sequencer, the demand and the records. -/
structure SeqMoves (s t : State) : Prop where
  breakers : t.breakers = s.breakers
  mgmt : t.mgmt = s.mgmt
  lines : t.lines = s.lines
  work : t.work = s.work
  hushed : t.hushed = s.hushed

theorem SeqMoves.refl (s : State) : SeqMoves s s := ⟨rfl, rfl, rfl, rfl, rfl⟩

theorem SeqMoves.trans (h : SeqMoves s t) (k : SeqMoves t u) : SeqMoves s u :=
  ⟨k.breakers.trans h.breakers, k.mgmt.trans h.mgmt, k.lines.trans h.lines, k.work.trans h.work, k.hushed.trans h.hushed⟩

theorem SeqMoves.event (h : SeqMoves s t) (c : EventClass) (priority object code : Nat) (value : Option Nat) :
    SeqMoves s (t.event c priority object code value) :=
  h.trans ⟨State.event_breakers .., State.event_mgmt .., State.event_lines .., State.event_work .., State.event_hushed ..⟩

theorem State.emptySlot_moves (s : State) : SeqMoves s s.emptySlot ∧ s.emptySlot.seq = { s.seq with slot := none } ∧
    s.emptySlot.par = s.par ∧ (s.seq.slot = none → s.emptySlot = s) := by
  cases hslot : s.seq.slot with
  | none =>
    have hsame : s.emptySlot = s := by rw [State.emptySlot, hslot]
    rw [hsame]
    exact ⟨.refl s, by rw [← hslot], rfl, fun _ => rfl⟩
  | some a =>
    have hempty : s.emptySlot = (s.modSeq (fun q => { q with slot := none })).event .transfer 7 a.rule 10 none := by
      rw [State.emptySlot, hslot]
    rw [hempty]
    have hmod : SeqMoves s (s.modSeq (fun q => { q with slot := none })) := ⟨rfl, rfl, rfl, rfl, rfl⟩
    exact ⟨hmod.event .., State.event_seq .., State.event_par .., fun h => nomatch h⟩

/-- The sequencer takes a state for good: its slot is empty and the change is recorded. -/
theorem State.entered_moves (s : State) (y : SeqState) (c : EventClass) (priority object code : Nat) (value : Option Nat) :
    SeqMoves s (((s.setSeqState y).emptySlot).event c priority object code value) ∧
      (((s.setSeqState y).emptySlot).event c priority object code value).seq = { s.seq with state := y, slot := none } ∧
      (((s.setSeqState y).emptySlot).event c priority object code value).par = s.par := by
  obtain ⟨hmoves, hseq, hpar, -⟩ := (s.setSeqState y).emptySlot_moves
  have hset : SeqMoves s (s.setSeqState y) := ⟨rfl, rfl, rfl, rfl, rfl⟩
  exact ⟨(hset.trans hmoves).event .., (State.event_seq ..).trans hseq, (State.event_par ..).trans hpar⟩

/-- The sequencer's part once no plan runs. -/
def State.seqAnew (s : State) (l : Lineup) : State :=
  let t := ((s.setSeqState .init).emptySlot).writeDemand 0
  let u := t.modSeq (fun q => { q with flags := List.replicate 4 false, lineup := l })
  if u.lines.tripLatch then u.halt .stationTrip else if u.lines.lockout then u.lockOut else u

theorem State.restartSeq_eq (s : State) : s.restartSeq = s.abandonPlan.seqAnew (powerOnLineup s.mgmt.tables) := rfl

theorem Touches.seqAnew {ps : List StatePart} (h : Touches ps s u) (l : Lineup) (hl : .links ∈ ps := by decide)
    (he : .events ∈ ps := by decide) (hq : .seq ∈ ps := by decide) (hp : .par ∈ ps := by decide) : Touches ps s (u.seqAnew l) := by
  have hempty : ∀ v : State, Touches ps s v → Touches ps s v.emptySlot := fun v hv => by
    rw [State.emptySlot]
    split
    · exact hv
    · exact (hv.modSeq _ hq).event _ _ _ _ _ hl he
  have henter : ∀ (v : State) (y : SeqState), Touches ps s v → Touches ps s (v.setSeqState y).emptySlot := fun v y hv =>
    hempty _ (hv.setSeqState y hq)
  rw [State.seqAnew]
  generalize hv : ((u.setSeqState .init).emptySlot.writeDemand 0).modSeq
    (fun q => { q with flags := List.replicate 4 false, lineup := l }) = v
  have hv' : Touches ps s v := hv ▸ ((henter u .init h).modPar _ hp).modSeq _ hq
  exact Touches.ite ((henter v _ hv').event _ _ _ _ _ hl he) (Touches.ite ((henter v _ hv').event _ _ _ _ _ hl he) hv')

/-- The sequencer as its part leaves it (R143). -/
def State.seqRestarted (s : State) (l : Lineup) : Sequencer :=
  { s.seq with
    state := if s.lines.tripLatch then .halted .stationTrip else if s.lines.lockout then .lockedOut else .init
    slot := none
    flags := [false, false, false, false]
    lineup := l }

theorem State.seqAnew_moves (s : State) (l : Lineup) : SeqMoves s (s.seqAnew l) ∧ (s.seqAnew l).seq = s.seqRestarted l ∧
    (s.seqAnew l).par = { s.par with demand := 0, demandDue := true } ∧
    (s.lines.tripLatch = false → s.lines.lockout = false → s.seq.slot = none → (s.seqAnew l).newest = s.newest) := by
  obtain ⟨hmoves, hseq, hpar, hsame⟩ := (s.setSeqState .init).emptySlot_moves
  have hset : SeqMoves s (s.setSeqState .init) := ⟨rfl, rfl, rfl, rfl, rfl⟩
  have hempty := hset.trans hmoves
  have hnewest : s.seq.slot = none → (s.setSeqState .init).emptySlot.newest = s.newest := fun h => by
    rw [hsame h]
    rfl
  rw [State.seqAnew]
  generalize (s.setSeqState .init).emptySlot = y at *
  generalize hu : (y.writeDemand 0).modSeq (fun q => { q with flags := List.replicate 4 false, lineup := l }) = u
  have hu' : SeqMoves s u := hu ▸ hempty.trans ⟨rfl, rfl, rfl, rfl, rfl⟩
  have huseq : u.seq = { s.seq with state := .init, slot := none, flags := [false, false, false, false], lineup := l } := by
    rw [← hu]
    exact congrArg (fun q : Sequencer => { q with flags := [false, false, false, false], lineup := l }) hseq
  have hupar : u.par = { s.par with demand := 0, demandDue := true } := by
    rw [← hu]
    exact congrArg (fun p : Paralleling => { p with demand := 0, demandDue := true }) hpar
  have hunewest : u.newest = y.newest := by
    rw [← hu]
    rfl
  rw [State.seqRestarted, hu'.lines]
  cases hlatch : s.lines.tripLatch with
  | true =>
    obtain ⟨hm, hq, hp⟩ := u.entered_moves (.halted .stationTrip) .transfer 13 (u.seq.lastPlan.getD Config.noneField) 7
      (some HaltReason.stationTrip.code)
    refine ⟨hu'.trans hm, hq.trans ?_, hp.trans hupar, fun h => nomatch h⟩
    rw [huseq]
    rfl
  | false =>
    cases hlock : s.lines.lockout with
    | true =>
      obtain ⟨hm, hq, hp⟩ := u.entered_moves .lockedOut .transfer 9 0 13 none
      refine ⟨hu'.trans hm, hq.trans ?_, hp.trans hupar, fun _ h => nomatch h⟩
      rw [huseq]
      rfl
    | false => exact ⟨hu', huseq, hupar, fun _ _ hslot => hunewest.trans (hnewest hslot)⟩

end

section
variable {s t u v : State} {k : Block} {ks : List Block} {n : Nat}

/-! ### The end of a part within which no frame goes to a generator controller (R148) -/

theorem State.sendSetpoints_hushed (h : u.hushed = true) : State.sendSetpoints s u = u :=
  State.forEach_rests _ fun g _ => by rw [State.buildGenset_hushed u h g, ite_self]

theorem settle_hushed (hd : Drains n u v) (hh : v.hushed = true) (hn : n ≤ Config.workBound := by decide) :
    ∃ es, State.settle s u = v.endedWith es v.healthyNow := by
  have hsettle := State.settle_sent (s := s) hd.work
  rw [State.sendSetpoints_hushed hh] at hsettle
  exact ⟨_, (hd.settle hn).trans hsettle⟩

/-- The end of a block's part that hands on work which is done. -/
theorem finish_part_hushed {ps : List StatePart} (h : Clause.PartIsDue s k)
    (htouch : Touches ps s (s.quieted.restartPart k))
    (hd : ∀ ks, ∃ n, n ≤ Config.workBound ∧ Drains n ((s.quieted.restartPart k).partEnded k ks) (v.partEnded k ks))
    (hhushed : v.hushed = true) (hmgmt : v.mgmt = s.mgmt)
    (hwork : (s.quieted.restartPart k).work = [] ∨ workParts ⊆ ps) (hm : .mgmt ∈ ps := by decide)
    (hp : .par ∈ ps := by decide) (hl : .links ∈ ps := by decide) :
    ∃ ks es b, exec (.blockRestart k) s = .next ((v.partEnded k ks).endedWith es b) ∧
      Clause.PartDone s ((v.partEnded k ks).endedWith es b) k ∧ Only ps s ((v.partEnded k ks).endedWith es b) := by
  obtain ⟨ks, hks, hexec⟩ := exec_part_due h
  obtain ⟨n, hn, hdrains⟩ := hd ks
  have honly := (htouch.partEnded (k := k) (ks := ks) hm).only h.1.1 h.1.risen hwork (.inr ⟨hl, hp⟩)
  obtain ⟨es, hsettle⟩ := settle_hushed (s := s) hdrains hhushed hn
  rw [hsettle] at honly
  refine ⟨ks, es, _, hexec.trans (congrArg Host.Outcome.next hsettle), fun ks' hks' => ?_, honly⟩
  obtain rfl := Option.some.inj (hks.symm.trans hks')
  rw [State.endedWith_mgmt]
  show { v.mgmt with restart := some (ks.filter (· != k)) } = _
  rw [hmgmt]

end

/-- Settles the sixth part of O51. -/
theorem sequencerRestarts : Clause.SequencerRestarts := by
  intro s h hrun
  have habandon : s.quieted.abandonPlan = s.quieted := by
    have hquiet : s.quieted.run? = none := hrun
    rw [State.abandonPlan, hquiet]
  have hpart : s.quieted.restartPart .sequencer = s.quieted.seqAnew (powerOnLineup s.mgmt.tables) := by
    show s.quieted.restartSeq = _
    rw [State.restartSeq_eq, habandon]
    rfl
  obtain ⟨hmoves, hseq, hpar, -⟩ := s.quieted.seqAnew_moves (powerOnLineup s.mgmt.tables)
  have htouch : Touches [.links, .events, .seq, .par, .mgmt] s (s.quieted.restartPart .sequencer) := by
    rw [hpart]
    exact (Touches.quieted s).seqAnew _
  have hwork : (s.quieted.restartPart .sequencer).work = [] := by
    rw [hpart, hmoves.work]
    exact h.1.1
  obtain ⟨ks, es, b, hexec, hdone, honly⟩ := finish_part_hushed (v := s.quieted.restartPart .sequencer) h htouch
    (fun ks => ⟨0, Nat.zero_le _, .done hwork⟩) (by rw [hpart, hmoves.hushed]; rfl) (by rw [hpart, hmoves.mgmt]; rfl) (.inl hwork)
  rw [hpart] at hexec hdone honly
  generalize s.quieted.seqAnew (powerOnLineup s.mgmt.tables) = u at *
  exact ⟨_, hexec, hseq, hpar, hdone, honly⟩

section
variable {s t u : State} {k : Block} {ks : List Block}

/-! ### No frame for a generator controller (R148) -/

/-- No frame for a generator controller is built, and none is from here on in the part of a RESTART. -/
def Hushes (s u : State) : Prop := Silent s.links u.links ∧ u.hushed = true

theorem Hushes.still (h : Hushes s u) (hl : t.links = u.links) (hh : t.hushed = u.hushed) : Hushes s t :=
  ⟨hl ▸ h.1, hh.trans h.2⟩

theorem Hushes.frame (h : Hushes s u) (k : WorkFrame u t) : Hushes s t := ⟨h.1.trans (k.silent h.2), k.hushed.trans h.2⟩

theorem Hushes.event (h : Hushes s u) (c : EventClass) (priority object code : Nat) (value : Option Nat) :
    Hushes s (u.event c priority object code value) := h.frame (State.event_frame _ _ _ _ _ (.refl u))

theorem Hushes.modMgmt (h : Hushes s u) (f : Management → Management) : Hushes s (u.modMgmt f) := h.still rfl rfl

theorem Hushes.modCapture (h : Hushes s u) (f : Capture → Capture) : Hushes s (u.modCapture f) := h.still rfl rfl

theorem Hushes.asking (h : Hushes s u) (qs : List DemandRequest) : Hushes s (u.asking qs) := h.still rfl rfl

theorem Hushes.modElement (h : Hushes s u) (e : Nat) (f : ElementRec → ElementRec) : Hushes s (u.modElement e f) :=
  h.still rfl rfl

theorem Hushes.enterStream (h : Hushes s u) (n : Nat) : Hushes s (u.enterStream n) := h.still rfl rfl

theorem Hushes.restartElement (h : Hushes s u) (e : Nat) : Hushes s (State.restartElement e u) := by
  have hmod := h.modElement e (fun _ => u.elementAnew e)
  rw [State.restartElement_eq]
  split
  · exact (hmod.asking _).event _ _ _ _ _
  · exact hmod

theorem Hushes.releaseCapture (h : Hushes s u) : Hushes s u.releaseCapture := by
  rw [State.releaseCapture]
  split
  · exact h
  · exact (h.modCapture _).event _ _ _ _ _

theorem Hushes.restartPart (h : Hushes s u) (k : Block) : Hushes s (u.restartPart k) := by
  have hloop : ∀ n (F : Nat → State → State), (∀ j v, Hushes s v → Hushes s (F j v)) →
      Hushes s (u.forEach (List.range n) F) := fun n F hF =>
    State.forEach_range (P := fun _ v => Hushes s v) h n fun j _ v hv => hF j v hv
  cases k with
  | streams => exact hloop 16 _ fun n _ hv => hv.enterStream n
  | protection =>
    have hpart : u.restartPart .protection = u.forEach (List.range 64) State.restartElement := rfl
    rw [hpart]
    exact hloop 64 State.restartElement fun e _ hv => hv.restartElement e
  | breakers => exact h.frame (State.restartBreakers_frame (.refl u))
  | sequencer => exact h.frame (State.restartSeq_frame (.refl u))
  | paralleling => exact h.frame (State.restartParalleling_frame (.refl u))
  | capture => exact h.releaseCapture.modCapture _
  | management => exact h.modMgmt _

theorem Hushes.closeRestart (h : Hushes s u) : Hushes s u.closeRestart := by
  rw [State.closeRestart]
  split
  · exact (h.modMgmt _).event _ _ _ _ _
  · exact h

/-- At the end of the command the setpoints that have changed are sent to no controller. -/
theorem Hushes.settle (h : Hushes s u) : Silent s.links (State.settle s u).links := by
  obtain ⟨t, hsettle, hframe, -⟩ := State.settle_shape s u
  rw [hsettle]
  exact (h.frame hframe).1

end

/-- Settles the tenth part of O51. -/
theorem restartSendsNoFrame : Clause.RestartSendsNoFrame := by
  intro s k hs
  have hsilent : ∀ t : State, Silent s.links t.links → (∀ l, (t.port l).frames.filter OutFrame.toController =
      (s.port l).frames.filter OutFrame.toController) ∧ t.links.gensetSeq = s.links.gensetSeq ∧
      t.links.abilitySeq = s.links.abilitySeq := fun t ht =>
    ⟨fun l => by cases l <;> [exact ht.a; exact ht.b], ht.genset, ht.ability⟩
  have hidle : exec (.blockRestart k) s = finish s s → ∃ t, exec (.blockRestart k) s = .next t ∧ Silent s.links t.links :=
    fun h => ⟨s, h.trans (finish_idle hs), .refl _⟩
  have hsends : ∃ t, exec (.blockRestart k) s = .next t ∧ Silent s.links t.links := by
    cases hks : s.mgmt.restart with
    | none => exact ⟨s, exec_part_idle hs hks, .refl _⟩
    | some ks =>
      by_cases hk : k ∈ ks
      · have hquieted : Hushes s s.quieted := ⟨.refl _, rfl⟩
        have hpart : Hushes s ((s.quieted.restartPart k).partEnded k ks) := (hquieted.restartPart k).modMgmt _
        exact ⟨_, exec_part hks hk, hpart.closeRestart.settle⟩
      · refine hidle (congrArg (finish s) ?_)
        show State.blockRestart k s = s
        rw [State.blockRestart, hks]
        exact if_neg fun hin => hk (List.contains_iff_mem.1 hin)
  obtain ⟨t, hexec, ht⟩ := hsends
  exact ⟨t, hexec, hsilent t ht⟩


end Sys2Proof.Machine
end

section
/-! # O51: the part of the paralleling unit -/

namespace Sys2Proof.Machine

section
variable {s t u v : State} {b g n m : Nat} {c : Command} {p : Party}

/-! ### A party leaves what it holds of the paralleling unit (R155, R158, R163) -/

/-- Work that a party's leaving hands on. -/
def Work.ends : Work → Bool
  | .seqOutcome _ .closing .withdrawn | .genOutcome _ _ .closing _ .withdrawn | .tokenGrant | .channelFree | .gensReport => true
  | _ => false

/-- Where nobody waits and no plan runs, such work finds nothing to do. -/
theorem State.handle_ends {w : Work} (hw : w.ends = true) (hr : s.run? = none) (hlist : s.par.tokenList = [])
    (hwait : s.par.waitList = []) : State.handle s w = s := by
  cases w with
  | seqOutcome b a o =>
    show s.seqOutcome b a o = s
    rw [State.seqOutcome, hr]
  | genOutcome g b a k o =>
    cases a with
    | opening => cases hw
    | closing =>
      cases o with
      | withdrawn =>
        show s.genOutcome g b .closing k .withdrawn = s
        rw [State.genOutcome]
        simp only [State.closeOutcome, ite_self]
      | _ => cases hw
  | tokenGrant =>
    show s.grantToken = s
    have hfind : s.genOrder.find? (fun g => ([] : List Party).contains (.generator g)) = none :=
      List.find?_eq_none.2 fun g _ => Bool.false_ne_true
    have hnone : s.grantee = none := by
      rw [State.grantee, hlist, hfind]
      rfl
    rw [State.grantToken, hnone]
    split <;> simp_all
  | channelFree =>
    show State.serveWaiting 8 s = s
    rw [State.serveWaiting, hwait]
    split <;> simp_all
  | gensReport =>
    show s.testGens = s
    rw [State.testGens, hr]
  | _ => cases hw

/-- A generator's record whose biases may have been cleared. -/
def GenRec.Unbiased (r x : GenRec) : Prop := x = r ∨ x = { r with speedBias := 0, voltageBias := 0 }

theorem GenRec.Unbiased.trans {r x y : GenRec} (h : r.Unbiased x) (k : x.Unbiased y) : r.Unbiased y := by
  obtain rfl | rfl := h
  · exact k
  · obtain rfl | rfl := k
    · exact .inr rfl
    · exact .inr rfl

/-- What a party leaves: the work that it hands on is at most `n` pieces. -/
structure Quits (n : Nat) (s u : State) : Prop where
  mgmt : u.mgmt = s.mgmt
  seq : u.seq = s.seq
  hushed : u.hushed = s.hushed
  demand : u.par.demand = s.par.demand
  due : u.par.demandDue = s.par.demandDue
  gens : u.par.gens.length = s.par.gens.length
  unbiased : ∀ j, (s.gen j).Unbiased (u.gen j)
  work : ∃ ws, u.work = s.work ++ ws ∧ ws.length ≤ n ∧ ∀ w ∈ ws, w.ends = true

namespace Quits

theorem refl (s : State) : Quits 0 s s :=
  ⟨rfl, rfl, rfl, rfl, rfl, rfl, fun _ => .inl rfl, [], (List.append_nil _).symm, Nat.le_refl 0, by simp⟩

theorem trans (h : Quits n s t) (k : Quits m t u) : Quits (n + m) s u where
  mgmt := k.mgmt.trans h.mgmt
  seq := k.seq.trans h.seq
  hushed := k.hushed.trans h.hushed
  demand := k.demand.trans h.demand
  due := k.due.trans h.due
  gens := k.gens.trans h.gens
  unbiased j := (h.unbiased j).trans (k.unbiased j)
  work := by
    obtain ⟨ws, hws, hlen, hends⟩ := h.work
    obtain ⟨xs, hxs, hlen', hends'⟩ := k.work
    refine ⟨ws ++ xs, by rw [hxs, hws, List.append_assoc], by rw [List.length_append]; omega, fun w hw => ?_⟩
    exact (List.mem_append.1 hw).elim (hends w) (hends' w)

theorem mono (h : Quits n s u) (hn : n ≤ m) : Quits m s u :=
  { h with work := by obtain ⟨ws, hws, hlen, hends⟩ := h.work; exact ⟨ws, hws, hlen.trans hn, hends⟩ }

/-- A change that concerns none of it. -/
theorem still (h : Quits n s u) (hm : v.mgmt = u.mgmt) (hq : v.seq = u.seq) (hh : v.hushed = u.hushed)
    (hd : v.par.demand = u.par.demand ∧ v.par.demandDue = u.par.demandDue ∧ v.par.gens = u.par.gens) (hw : v.work = u.work) :
    Quits n s v :=
  h.trans ⟨hm, hq, hh, hd.1, hd.2.1, congrArg _ hd.2.2, fun _ => .inl (congrArg (fun gs => nth gs _) hd.2.2), [],
    by rw [hw, List.append_nil], Nat.le_refl 0, by simp⟩

theorem event (h : Quits n s u) (c : EventClass) (priority object code : Nat) (value : Option Nat) :
    Quits n s (u.event c priority object code value) :=
  h.still (State.event_mgmt ..) (State.event_seq ..) (State.event_hushed ..) (by rw [State.event_par]; exact ⟨rfl, rfl, rfl⟩)
    (State.event_work ..)

theorem modBrk (h : Quits n s u) (b : Nat) (f : BreakerRec → BreakerRec) : Quits n s (u.modBrk b f) :=
  h.still rfl rfl rfl ⟨rfl, rfl, rfl⟩ rfl

theorem post (h : Quits n s u) {w : Work} (hw : w.ends = true) : Quits (n + 1) s (u.post w) :=
  h.trans ⟨rfl, rfl, rfl, rfl, rfl, rfl, fun _ => .inl rfl, [w], rfl, Nat.le_refl 1, by simpa using hw⟩

theorem clearBiases (h : Quits n s u) (gs : List Nat) : Quits n s (u.clearBiases gs) := by
  rw [State.clearBiases]
  unfold State.forEach
  induction gs generalizing u with
  | nil => exact h
  | cons j gs ih =>
    refine ih (h.trans (m := 0) (u := u.modGen j (fun r => { r with speedBias := 0, voltageBias := 0 })) ⟨rfl, rfl, rfl, rfl, rfl,
      List.length_modify .., fun i => ?_, [], (List.append_nil _).symm, Nat.le_refl 0, by simp⟩)
    by_cases hi : j = i
    · subst hi
      by_cases hlen : j < u.par.gens.length
      · exact .inr (State.gen_modGen_same _ _ hlen)
      · refine .inl (congrArg (fun gs => nth gs j) (List.modify_eq_self ?_))
        exact Nat.le_of_not_lt hlen
    · exact .inl (State.gen_modGen_other _ _ hi)

theorem endRun (h : Quits n s u) (c : Nat) : Quits (n + 1) s (u.endRun c) := by
  rw [State.endRun]
  split
  · exact h.mono (Nat.le_succ n)
  · next r _ =>
    have hfree : Quits n s ((u.clearBiases r.wrote).setChannel c none) := (h.clearBiases _).still rfl rfl rfl ⟨rfl, rfl, rfl⟩ rfl
    split
    · exact hfree.mono (Nat.le_succ n)
    · exact hfree.post rfl

theorem leaveRun (h : Quits n s u) (p : Party) : Quits (n + 1) s (u.leaveRun p) := by
  rw [State.leaveRun]
  split
  · exact h.mono (Nat.le_succ n)
  · split
    · exact (h.event _ _ _ _ _).endRun _
    · exact h.endRun _

theorem freeToken (h : Quits n s u) (p : Party) : Quits (n + 1) s (u.freeToken p) := by
  rw [State.freeToken]
  split
  · have hfree : Quits n s (u.modPar (fun x => { x with token := none })) := h.still rfl rfl rfl ⟨rfl, rfl, rfl⟩ rfl
    exact hfree.post rfl
  · exact h.mono (Nat.le_succ n)

theorem leaveToken (h : Quits n s u) (p : Party) : Quits (n + 1) s (u.leaveToken p) := by
  have hdrop : Quits n s (u.dropRequest p) := h.still rfl rfl rfl ⟨rfl, rfl, rfl⟩ rfl
  exact hdrop.freeToken p

theorem returnWithdrawn (h : Quits n s u) (b : Nat) (hc : c.action = .closing) :
    Quits (n + 2) s (u.returnOutcome b c .withdrawn) := by
  have hseq : Quits (n + 1) s (if c.origins.changeover then u.post (.seqOutcome b c.action .withdrawn) else u) := by
    split
    · exact h.post (by rw [hc]; rfl)
    · exact h.mono (Nat.le_succ n)
  rw [State.returnOutcome]
  split
  · exact hseq.post (by rw [hc]; rfl)
  · exact hseq.mono (Nat.le_succ _)

theorem concludeClose (h : Quits n s u) (b : Nat) (c : Command) : Quits (n + 1) s (u.concludeClose b c) := by
  unfold State.concludeClose
  split
  · split
    · exact h.mono (Nat.le_succ n)
    · exact h.freeToken _
    · rw [State.endRunOf]
      split
      · exact h.mono (Nat.le_succ n)
      · exact h.endRun _
  · exact h.mono (Nat.le_succ n)

end Quits

/-- A party's close waits in the slot of breaker `b`. -/
def State.ownQueued (s : State) (b : Nat) (p : Party) : Prop :=
  ∃ c, (s.brk b).slot = some c ∧ c.action = .closing ∧ c.phase = .queued ∧ c.requester = .party p

theorem State.withdrawClose_rests (h : ¬ s.ownQueued b p) : s.withdrawClose b p = s := by
  rw [State.withdrawClose]
  split
  · rfl
  · next c hslot =>
    refine if_neg fun hyes => h ?_
    simp only [Bool.and_eq_true, beq_iff_eq] at hyes
    exact ⟨c, hslot, hyes.1.1, hyes.1.2, hyes.2⟩

theorem State.withdrawClose_queued (hslot : (s.brk b).slot = some c) (ha : c.action = .closing) (hp : c.phase = .queued)
    (hr : c.requester = .party p) : s.withdrawClose b p =
      (((s.modBrk b (·.ended .withdrawn)).event .breaker (Outcome.withdrawn.priority c.tripOpen) b 6
        (some Outcome.withdrawn.value)).returnOutcome b c .withdrawn).concludeClose b c := by
  rw [State.withdrawClose, hslot]
  refine (if_pos (by simp [ha, hp, hr])).trans ?_
  rw [State.endCommand_eq hslot, State.withoutFrames, if_pos (by rw [hp]; rfl)]

/-! What a party's leaving does to the breakers. -/

theorem State.clearBiases_breakers (gs : List Nat) : ∀ s : State, (s.clearBiases gs).breakers = s.breakers := by
  unfold State.clearBiases State.forEach
  induction gs with
  | nil => exact fun _ => rfl
  | cons j gs ih => exact fun s => ih _

theorem State.endRun_breakers (c : Nat) : (s.endRun c).breakers = s.breakers := by
  rw [State.endRun]
  split
  · rfl
  · next r _ =>
    have hclear := State.clearBiases_breakers r.wrote s
    split <;> exact hclear

theorem State.leaveRun_breakers (p : Party) : (s.leaveRun p).breakers = s.breakers := by
  rw [State.leaveRun]
  split
  · rfl
  · split
    · rw [State.endRun_breakers, State.abortEvent, State.event_breakers]
    · exact State.endRun_breakers _

theorem State.freeToken_breakers (p : Party) : (s.freeToken p).breakers = s.breakers := by
  rw [State.freeToken]
  split <;> rfl

theorem State.leaveToken_breakers (p : Party) : (s.leaveToken p).breakers = s.breakers := State.freeToken_breakers p

theorem State.returnOutcome_breakers (b : Nat) (c : Command) (o : Outcome) : (s.returnOutcome b c o).breakers = s.breakers := by
  rw [State.returnOutcome]
  split <;> split <;> rfl

theorem State.concludeClose_breakers (b : Nat) (c : Command) : (s.concludeClose b c).breakers = s.breakers := by
  unfold State.concludeClose
  split
  · split
    · rfl
    · exact State.freeToken_breakers _
    · rw [State.endRunOf]
      split
      · rfl
      · exact State.endRun_breakers _
  · rfl

theorem State.brk_congr (h : u.breakers = s.breakers) (b : Nat) : u.brk b = s.brk b := by rw [State.brk, h, State.brk]

theorem State.withdrawClose_breakers (hslot : (s.brk b).slot = some c) (ha : c.action = .closing) (hp : c.phase = .queued)
    (hr : c.requester = .party p) : (s.withdrawClose b p).breakers = (s.modBrk b (·.ended .withdrawn)).breakers := by
  rw [State.withdrawClose_queued hslot ha hp hr, State.concludeClose_breakers, State.returnOutcome_breakers, State.event_breakers]

/-- The record of breaker `a` once party `p` has withdrawn its close of breaker `b`. -/
theorem State.withdrawClose_brk (a : Nat) : (s.withdrawClose b p).brk a = (s.brk a).ended .withdrawn ∧ a = b ∧ s.ownQueued b p ∨
    (s.withdrawClose b p).brk a = s.brk a ∧ ¬ (a = b ∧ s.ownQueued b p) := by
  by_cases hq : s.ownQueued b p
  · obtain ⟨c, hslot, ha, hp, hr⟩ := hq
    have hbrk := State.brk_congr (State.withdrawClose_breakers hslot ha hp hr) a
    rw [hbrk]
    by_cases hab : a = b
    · subst hab
      exact .inl ⟨State.brk_modBrk_same _ _ (State.slot_length hslot), rfl, c, hslot, ha, hp, hr⟩
    · exact .inr ⟨State.brk_modBrk_other _ _ (Ne.symm hab), fun h => hab h.1⟩
  · rw [State.withdrawClose_rests hq]
    exact .inr ⟨rfl, fun h => hq h.2⟩

theorem Quits.withdrawClose (h : Quits n s u) (b : Nat) (p : Party) : Quits (n + 3) s (u.withdrawClose b p) := by
  by_cases hq : u.ownQueued b p
  · obtain ⟨c, hslot, ha, hp, hr⟩ := hq
    rw [State.withdrawClose_queued hslot ha hp hr]
    exact (((h.modBrk _ _).event _ _ _ _ _).returnWithdrawn b ha).concludeClose b c
  · rw [State.withdrawClose_rests hq]
    exact h.mono (by omega)

theorem Quits.leaveAttempt (h : Quits n s u) (g : Nat) : Quits (n + 5) s (u.leaveAttempt g) :=
  ((h.leaveRun _).withdrawClose _ _).leaveToken _

/-- The close of generator `j` that waits in the slot of breaker `b` is withdrawn as the generator leaves its attempt. -/
def State.Withdraws (s : State) (j b : Nat) : Prop :=
  (s.gen j).state.attempting = true ∧ s.genBreaker j = b ∧ s.ownQueued b (.generator j)

theorem State.leaveAttempt_brk (a : Nat) : (s.leaveAttempt g).brk a = (s.brk a).ended .withdrawn ∧ a = s.genBreaker g ∧
      s.ownQueued a (.generator g) ∨
    (s.leaveAttempt g).brk a = s.brk a ∧ ¬ (a = s.genBreaker g ∧ s.ownQueued a (.generator g)) := by
  have hrun := State.brk_congr (State.leaveRun_breakers (s := s) (.generator g))
  have hmgmt := ((Quits.refl s).leaveRun (.generator g)).mgmt
  have hend : (s.leaveAttempt g).brk a = ((s.leaveRun (.generator g)).withdrawClose (s.genBreaker g) (.generator g)).brk a :=
    State.brk_congr (State.leaveToken_breakers _) a
  have hown : ∀ b, (s.leaveRun (.generator g)).ownQueued b (.generator g) ↔ s.ownQueued b (.generator g) := fun b => by
    rw [State.ownQueued, hrun, State.ownQueued]
  rw [hend]
  obtain ⟨hbrk, rfl, hq⟩ | ⟨hbrk, hno⟩ := State.withdrawClose_brk (s := s.leaveRun (.generator g)) (b := s.genBreaker g)
    (p := .generator g) a
  · exact .inl ⟨by rw [hbrk, hrun], rfl, (hown _).1 hq⟩
  · exact .inr ⟨by rw [hbrk, hrun], fun h => hno ⟨h.1, (hown _).2 (h.1 ▸ h.2)⟩⟩

end

section
variable {s t u : State} {g n : Nat}

/-! ### The paralleling unit (R148, R155, R189) -/

/-- The generators below `n` are ABSENT anew. -/
structure ParAnew (s : State) (n : Nat) (t : State) : Prop where
  mgmt : t.mgmt = s.mgmt
  seq : t.seq = s.seq
  hushed : t.hushed = s.hushed
  demand : t.par.demand = s.par.demand
  due : t.par.demandDue = (s.par.demandDue || (List.range n).any (fun g => (s.gen g).state != .absent))
  gens : t.par.gens.length = s.par.gens.length
  done : ∀ j < n, t.gen j = powerOnGen s.mgmt.tables j
  ahead : ∀ j ≥ n, (t.gen j).state = (s.gen j).state
  brk : ∀ b, t.brk b = (s.brk b).ended .withdrawn ∧ (∃ j < n, s.Withdraws j b) ∨
    t.brk b = s.brk b ∧ ¬ ∃ j < n, s.Withdraws j b
  short : t.work.length ≤ 6 * n
  ends : ∀ w ∈ t.work, w.ends = true

/-- The generator is ABSENT, and no attempt of its own goes on. -/
def State.absented (s : State) (g : Nat) : State :=
  let t := if (s.gen g).state.attempting then s.leaveAttempt g else s
  let u := (t.noting ((t.modGen g (fun r => r.enter .absent)).modPar (fun p =>
    { p with waitList := p.waitList.filter (· != g), demandDue := true }))).event .generator
      (genPriority (s.gen g).state .absent) g 1 (some GenState.absent.code)
  if (s.gen g).state.loaded then u.post .gensReport else u

theorem State.genMove_absent (h : (s.gen g).state ≠ .absent) : s.genMove g .absent = s.absented g := by
  rw [State.genMove]
  refine (if_neg (by simpa using h)).trans ?_
  have hattempting : GenState.absent.attempting = false := rfl
  have hloaded : GenState.absent.loaded = false := rfl
  have hopens : (GenState.absent == .fault || GenState.absent == .stopping) = false := rfl
  simp only [State.absented, hattempting, hloaded, hopens, Bool.not_false, Bool.and_true, Bool.or_false, Bool.false_and,
    Bool.false_eq_true, if_false]

theorem State.resetGen_absent (h : (s.gen g).state = .absent) :
    State.resetGen g s = s.modGen g (fun _ => powerOnGen s.mgmt.tables g) := by
  have hmove : s.genMove g .absent = s := by
    rw [State.genMove]
    exact if_pos (by simp [h])
  rw [State.resetGen, hmove]

/-- What a generator's leaving for ABSENT changes. -/
structure Absents (g : Nat) (s y : State) : Prop where
  mgmt : y.mgmt = s.mgmt
  seq : y.seq = s.seq
  hushed : y.hushed = s.hushed
  demand : y.par.demand = s.par.demand
  due : y.par.demandDue = true
  gens : y.par.gens.length = s.par.gens.length
  unbiased : ∀ j, j ≠ g → (s.gen j).Unbiased (y.gen j)
  brk : ∀ b, y.brk b = (s.brk b).ended .withdrawn ∧ s.Withdraws g b ∨ y.brk b = s.brk b ∧ ¬ s.Withdraws g b
  work : ∃ ws, y.work = s.work ++ ws ∧ ws.length ≤ 6 ∧ ∀ w ∈ ws, w.ends = true

theorem Absents.post (h : Absents g s u) {ws : List Work} (hws : u.work = s.work ++ ws) (hlen : ws.length ≤ 5)
    (hends : ∀ w ∈ ws, w.ends = true) : Absents g s (u.post .gensReport) :=
  { h with work := ⟨ws ++ [.gensReport], by rw [State.post_work, hws, List.append_assoc],
      by rw [List.length_append]; exact Nat.succ_le_succ hlen, fun w hw => (List.mem_append.1 hw).elim (hends w) fun hw => by
        rw [List.mem_singleton.1 hw]; rfl⟩ }

theorem Absents.event (h : Absents g s u) (c : EventClass) (priority object code : Nat) (value : Option Nat) :
    Absents g s (u.event c priority object code value) where
  mgmt := (State.event_mgmt ..).trans h.mgmt
  seq := (State.event_seq ..).trans h.seq
  hushed := (State.event_hushed ..).trans h.hushed
  demand := (congrArg Paralleling.demand (State.event_par ..)).trans h.demand
  due := (congrArg Paralleling.demandDue (State.event_par ..)).trans h.due
  gens := (congrArg (fun p : Paralleling => p.gens.length) (State.event_par ..)).trans h.gens
  unbiased j hj := by rw [State.event_gen]; exact h.unbiased j hj
  brk b := by rw [State.event_brk]; exact h.brk b
  work := by rw [State.event_work]; exact h.work

theorem State.absented_absents (s : State) (g : Nat) : Absents g s (s.absented g) := by
  have hleft : ∃ t, (if (s.gen g).state.attempting then s.leaveAttempt g else s) = t ∧ Quits 5 s t ∧
      ∀ b, t.brk b = (s.brk b).ended .withdrawn ∧ s.Withdraws g b ∨ t.brk b = s.brk b ∧ ¬ s.Withdraws g b := by
    by_cases h : (s.gen g).state.attempting = true
    · refine ⟨_, if_pos h, (Quits.refl s).leaveAttempt g, fun b => ?_⟩
      obtain ⟨hbrk, rfl, hq⟩ | ⟨hbrk, hno⟩ := State.leaveAttempt_brk (s := s) (g := g) b
      · exact .inl ⟨hbrk, h, rfl, hq⟩
      · exact .inr ⟨hbrk, fun hw => hno ⟨hw.2.1.symm, hw.2.2⟩⟩
    · exact ⟨s, if_neg h, (Quits.refl s).mono (Nat.zero_le 5), fun b => .inr ⟨rfl, fun hw => h hw.1⟩⟩
  obtain ⟨t, ht, hquits, hbrk⟩ := hleft
  obtain ⟨ws, hws, hlen, hends⟩ := hquits.work
  have hmoved : Absents g s (t.noting ((t.modGen g (fun r => r.enter .absent)).modPar (fun p =>
      { p with waitList := p.waitList.filter (· != g), demandDue := true }))) :=
    { mgmt := hquits.mgmt, seq := hquits.seq, hushed := hquits.hushed, demand := hquits.demand, due := rfl
      gens := (List.length_modify ..).trans hquits.gens
      unbiased := fun j hj => (hquits.unbiased j).trans (.inl (State.gen_modGen_other (s := t) _ (Ne.symm hj)))
      brk := hbrk
      work := ⟨ws, hws, hlen.trans (by decide), hends⟩ }
  rw [State.absented, ht]
  have hrecorded := hmoved.event .generator (genPriority (s.gen g).state .absent) g 1 (some GenState.absent.code)
  split
  · exact hrecorded.post ((State.event_work ..).trans hws) hlen hends
  · exact hrecorded

theorem Unbiased_powerOnGen {r : GenRec} {ts : List Table} {j : Nat} (h : (powerOnGen ts j).Unbiased r) : r = powerOnGen ts j :=
  h.elim id id

theorem ParAnew.resetGen (h : ParAnew s n t) (hlen : n < s.par.gens.length) : ParAnew s (n + 1) (State.resetGen n t) := by
  have hstate : (t.gen n).state = (s.gen n).state := h.ahead n (Nat.le_refl n)
  have hlent : n < t.par.gens.length := h.gens.symm ▸ hlen
  have hdue : ((s.par.demandDue || (List.range (n + 1)).any (fun g => (s.gen g).state != .absent)) : Bool) =
      (t.par.demandDue || (s.gen n).state != .absent) := by
    rw [h.due, List.range_succ, List.any_append, List.any_cons, List.any_nil, Bool.or_false, Bool.or_assoc]
  have hanew : powerOnGen t.mgmt.tables n = powerOnGen s.mgmt.tables n := by rw [h.mgmt]
  by_cases hs : (s.gen n).state = .absent
  · rw [State.resetGen_absent (hstate.trans hs), hanew]
    have hnone : ∀ b, ¬ s.Withdraws n b := fun b hw => by
      have := hw.1
      rw [hs] at this
      cases this
    refine { mgmt := h.mgmt, seq := h.seq, hushed := h.hushed, demand := h.demand, due := ?_
             gens := (List.length_modify ..).trans h.gens, done := fun j hj => ?_, ahead := fun j hj => ?_, brk := fun b => ?_
             short := h.short.trans (by omega), ends := h.ends }
    · rw [hdue, hs]
      exact (Bool.or_false _).symm
    · obtain hj | rfl := Nat.lt_succ_iff_lt_or_eq.1 hj
      · rw [State.gen_modGen_other (s := t) _ (by omega)]
        exact h.done j hj
      · exact State.gen_modGen_same (s := t) _ hlent
    · rw [State.gen_modGen_other (s := t) _ (by omega)]
      exact h.ahead j (by omega)
    · exact (h.brk b).imp (fun hb => ⟨hb.1, hb.2.imp fun j hj => ⟨by omega, hj.2⟩⟩) fun hb => ⟨hb.1, fun ⟨j, hj, hw⟩ => by
        obtain hj | rfl := Nat.lt_succ_iff_lt_or_eq.1 hj
        · exact hb.2 ⟨j, hj, hw⟩
        · exact hnone b hw⟩
  · have habsents := t.absented_absents n
    have hreset : State.resetGen n t = (t.absented n).modGen n (fun _ => powerOnGen s.mgmt.tables n) := by
      rw [State.resetGen, State.genMove_absent (hstate.trans_ne hs), h.mgmt]
    rw [hreset]
    generalize t.absented n = y at *
    have hleny : n < y.par.gens.length := habsents.gens.symm ▸ hlent
    obtain ⟨ws, hws, hwlen, hends⟩ := habsents.work
    refine { mgmt := habsents.mgmt.trans h.mgmt, seq := habsents.seq.trans h.seq, hushed := habsents.hushed.trans h.hushed
             demand := habsents.demand.trans h.demand, due := ?_
             gens := (List.length_modify ..).trans (habsents.gens.trans h.gens), done := fun j hj => ?_
             ahead := fun j hj => ?_, brk := fun b => ?_, short := ?_, ends := fun w hw => ?_ }
    · rw [hdue]
      refine Eq.trans habsents.due ?_
      rw [bne_iff_ne.2 hs, Bool.or_true]
    · obtain hj | rfl := Nat.lt_succ_iff_lt_or_eq.1 hj
      · rw [State.gen_modGen_other (s := y) _ (by omega)]
        exact Unbiased_powerOnGen (h.done j hj ▸ habsents.unbiased j (by omega))
      · exact State.gen_modGen_same (s := y) _ hleny
    · rw [State.gen_modGen_other (s := y) _ (by omega)]
      have hkept : (y.gen j).state = (t.gen j).state := by
        obtain he | he := habsents.unbiased j (by omega) <;> rw [he]
      exact hkept.trans (h.ahead j (by omega))
    · have hwithdraws : t.brk b = s.brk b → (t.Withdraws n b ↔ s.Withdraws n b) := fun hb => by
        rw [State.Withdraws, State.ownQueued, hstate, hb, State.genBreaker, State.fld, h.mgmt]
        rfl
      obtain ⟨hy, hw⟩ | ⟨hy, hw⟩ := habsents.brk b <;> obtain ⟨ht, hj⟩ | ⟨ht, hj⟩ := h.brk b
      · obtain ⟨c, hslot, -⟩ := hw.2.2
        rw [ht] at hslot
        cases hslot
      · exact .inl ⟨hy.trans (by rw [ht]), n, Nat.lt_succ_self n, (hwithdraws ht).1 hw⟩
      · exact .inl ⟨hy.trans ht, hj.imp fun j hj => ⟨by omega, hj.2⟩⟩
      · refine .inr ⟨hy.trans ht, fun ⟨j, hlt, hj'⟩ => ?_⟩
        obtain hlt | rfl := Nat.lt_succ_iff_lt_or_eq.1 hlt
        · exact hj ⟨j, hlt, hj'⟩
        · exact hw ((hwithdraws ht).2 hj')
    · show y.work.length ≤ _
      have := h.short
      rw [hws, List.length_append]
      omega
    · have hmem : w ∈ t.work ++ ws := hws ▸ hw
      exact (List.mem_append.1 hmem).elim (h.ends w) (hends w)

theorem State.Quiet.par_anew (hs : s.Quiet) : ParAnew s.quieted 8 (s.quieted.forEach (List.range 8) State.resetGen) := by
  have hwork : s.quieted.work = [] := hs.1
  have hgens : s.quieted.par.gens.length = 8 := hs.gens_length
  generalize s.quieted = q at *
  have hstart : ParAnew q 0 q :=
    { mgmt := rfl, seq := rfl, hushed := rfl, demand := rfl, due := (Bool.or_false _).symm, gens := rfl
      done := fun j hj => absurd hj (Nat.not_lt_zero j), ahead := fun _ _ => rfl
      brk := fun _ => .inr ⟨rfl, fun ⟨j, hj, _⟩ => Nat.not_lt_zero j hj⟩
      short := by rw [hwork]; exact Nat.le_refl 0, ends := fun w hw => by rw [hwork] at hw; cases hw }
  exact State.forEach_range (P := ParAnew q) hstart 8 fun k hk u hu => hu.resetGen (by rw [hgens]; exact hk)

/-- A list of generators that are each as `f` says. -/
theorem nth_ext {gs : List GenRec} {f : Nat → GenRec} (hlen : gs.length = n) (h : ∀ g < n, nth gs g = f g) :
    gs = (List.range n).map f := by
  refine List.ext_getElem (by simp [hlen]) fun g hg _ => ?_
  rw [List.getElem_map, List.getElem_range, ← h g (hlen ▸ hg), nth, List.getD_eq_getElem _ _ hg]

end

/-- Settles the eighth part of O51. -/
theorem parallelingRestarts : Clause.ParallelingRestarts := by
  intro s h hrun
  have hanew := h.1.par_anew
  have hpart : s.quieted.restartPart .paralleling = (s.quieted.forEach (List.range 8) State.resetGen).modPar (fun p =>
      { p with token := none, tokenList := [], channels := List.replicate 4 none, waitList := [], shareTimer := 0 }) := rfl
  have htouch : Touches (workParts ++ [.mgmt]) s (s.quieted.restartPart .paralleling) :=
    (Touches.quieted s).work (State.restartParalleling_evolves .refl)
  generalize s.quieted.forEach (List.range 8) State.resetGen = w at *
  rw [hpart] at htouch
  generalize hu : w.modPar (fun p =>
      { p with token := none, tokenList := [], channels := List.replicate 4 none, waitList := [], shareTimer := 0 }) = u at *
  have hrun' : u.run? = none := by
    rw [State.run?, (by rw [← hu]; exact hanew.seq : u.seq = s.seq)]
    exact hrun
  have hdrains : ∀ ks, Drains u.work.length (u.partEnded .paralleling ks)
      (State.partEnded { u with work := [] } .paralleling ks) := fun ks =>
    Drains.idle (u := u.partEnded .paralleling ks) rfl fun x hx =>
      State.handle_ends (hanew.ends x (by rw [← hu] at hx; exact hx)) hrun' (by rw [← hu]; rfl) (by rw [← hu]; rfl)
  have hshort : u.work.length ≤ Config.workBound := by
    rw [← hu]
    exact hanew.short.trans (by decide)
  have hhushed : u.hushed = true := by
    rw [← hu]
    exact hanew.hushed
  have hmgmt : u.mgmt = s.mgmt := by
    rw [← hu]
    exact hanew.mgmt
  have hseq : u.seq = s.seq := by
    rw [← hu]
    exact hanew.seq
  obtain ⟨ks, es, b, hexec, hdone, honly⟩ := finish_part_hushed (v := { u with work := [] }) h (by rw [hpart]; exact htouch)
    (fun ks => ⟨u.work.length, hshort, by rw [hpart]; exact hdrains ks⟩) hhushed hmgmt (.inr (by decide))
  have honly' := honly.narrow [.links, .events, .breakers, .par, .mgmt] fun p hp hno => by
    simp [workParts] at hp hno
    obtain rfl : p = .seq := by tauto
    exact hseq
  have hbrk : ∀ b, u.brk b = w.brk b := fun b => by rw [← hu]; rfl
  refine ⟨_, hexec, ?_, fun g hg k hconf hlt hstate hslot => ?_, fun b hb hno => ?_, hdone, honly'⟩
  · have hgens : w.par.gens = (List.range 8).map (powerOnGen s.mgmt.tables) :=
      nth_ext (hanew.gens.trans h.1.gens_length) hanew.done
    have hpar : u.par = { w.par with
        token := none, tokenList := [], channels := List.replicate 4 none, waitList := [], shareTimer := 0 } := by
      rw [← hu]
      rfl
    refine Eq.trans (b := u.par) rfl (hpar.trans ?_)
    dsimp only
    rw [hgens, (hanew.demand : w.par.demand = s.par.demand), hanew.due]
    rfl
  · have hattempting : (s.gen g).state.attempting = true := by
      obtain he | he := hstate <;> rw [he] <;> rfl
    obtain ⟨ha, -⟩ | ⟨-, hno⟩ := hanew.brk (s.fld .generator g 3)
    · exact (hbrk _).trans ha
    · exact absurd ⟨g, hg, hattempting, rfl, _, hslot, rfl, rfl, rfl⟩ hno
  · obtain ⟨-, j, -, -, -, c, hslot, -, hphase, -⟩ | ⟨ha, -⟩ := hanew.brk b
    · exact absurd hphase (hno c hslot)
    · exact (hbrk b).trans ha


end Sys2Proof.Machine
end

section
/-! # What work between the units keeps of who takes no part in it -/

namespace Sys2Proof.Machine

/-! What the work between the breakers, the sequencer and the paralleling unit keeps, where no position changes: of the
sequencer and the demand where no plan runs (`k` is none), and of a generator `g` that takes no part in it (`k` is `some g`). -/

/-- Work that no change of position brings. -/
def Work.calm : Work → Bool
  | .genPosition .. | .seqPosition _ | .report .. => false
  | _ => true

/-- A generator's record with its state, its start timer, its retry timer and the mark of a renegotiation as they were. -/
structure GenRec.Same (r x : GenRec) : Prop where
  state : x.state = r.state
  start : x.startTimer = r.startTimer
  retry : x.retryTimer = r.retryTimer
  deferred : x.deferred = r.deferred

theorem GenRec.Same.refl (r : GenRec) : r.Same r := ⟨rfl, rfl, rfl, rfl⟩

theorem GenRec.Same.trans {r x y : GenRec} (h : r.Same x) (k : x.Same y) : r.Same y :=
  ⟨k.state.trans h.state, k.start.trans h.start, k.retry.trans h.retry, k.deferred.trans h.deferred⟩

/-- The run on channel `c` is one of generator `g`. -/
def RunsOn (g c : Nat) (p : Paralleling) : Prop := ∃ x, p.channels.getD c none = some x ∧ x.client = .generator g

/-- Generator `g` neither holds the token nor waits for it. -/
def Tokenless (g : Nat) (p : Paralleling) : Prop := .generator g ∉ p.tokenList ∧ p.token ≠ some (.generator g)

/-- A change of the paralleling unit brings generator `g` nothing to take part in. -/
structure Apartness (g : Nat) (p q : Paralleling) : Prop where
  runs : ∀ c, RunsOn g c q → RunsOn g c p
  waits : g ∉ p.waitList → g ∉ q.waitList
  tokens : Tokenless g p → Tokenless g q

theorem Apartness.refl (g : Nat) (p : Paralleling) : Apartness g p p := ⟨fun _ => id, id, id⟩

theorem Apartness.trans {g : Nat} {p q r : Paralleling} (h : Apartness g p q) (k : Apartness g q r) : Apartness g p r :=
  ⟨fun c => h.runs c ∘ k.runs c, k.waits ∘ h.waits, k.tokens ∘ h.tokens⟩

/-- What a change of the paralleling unit keeps. -/
structure ParKeeps (k : Option Nat) (p q : Paralleling) : Prop where
  gens : q.gens = p.gens
  demand : k = none → q.demand = p.demand ∧ (p.demandDue = true → q.demandDue = true)
  apart : ∀ g, k = some g → Apartness g p q

/-- `s` comes from `s₀` by updates of the kinds that such work is made of. -/
inductive Works (k : Option Nat) (s₀ : State) : State → Prop
  | refl : Works k s₀ s₀
  | hand {s : State} (ws : List Work) (hc : ∀ w ∈ ws, w.calm = true) (h : Works k s₀ s) :
    Works k s₀ { s with work := s.work ++ ws }
  | take {s : State} (h : Works k s₀ s) : Works k s₀ { s with work := [] }
  | noting {s : State} (t : State) (h : Works k s₀ s) : Works k s₀ (t.noting s)
  | modBrk {s : State} (b : Nat) (f : BreakerRec → BreakerRec) (h : Works k s₀ s) : Works k s₀ (s.modBrk b f)
  | ask {s : State} (q : DemandRequest) (h : Works k s₀ s) :
    Works k s₀ { s with breakers := { s.breakers with requests := s.breakers.requests ++ [q] } }
  | modGen {s : State} (j : Nat) (f : GenRec → GenRec) (hj : k = some j → ∀ r : GenRec, r.Same (f r)) (h : Works k s₀ s) :
    Works k s₀ (s.modGen j f)
  | modPar {s : State} (f : Paralleling → Paralleling) (hp : ParKeeps k s.par (f s.par)) (h : Works k s₀ s) :
    Works k s₀ (s.modPar f)
  | modSeq {s : State} (f : Sequencer → Sequencer) (hk : k ≠ none) (h : Works k s₀ s) : Works k s₀ (s.modSeq f)
  | event {s : State} (c : EventClass) (priority object code : Nat) (value : Option Nat) (h : Works k s₀ s) :
    Works k s₀ (s.event c priority object code value)
  | sendCommand {s : State} (b : Nat) (a : Action) (tag : Nat) (o : Origins) (h : Works k s₀ s) :
    Works k s₀ (s.sendCommand b a tag o)
  | sendGenset {s : State} (g : Nat) (p : Setpoint) (h : Works k s₀ s) : Works k s₀ (s.sendGenset g p)
  | sendPage {s : State} (g : Nat) (p : Page) (h : Works k s₀ s) : Works k s₀ (s.sendPage g p)
  | withdrawFrame {s : State} (b tag : Nat) (h : Works k s₀ s) : Works k s₀ (s.withdrawFrame b tag)

section
variable {k : Option Nat} {s₀ s t : State}

theorem Works.trans (h : Works k s₀ s) (h' : Works k s t) : Works k s₀ t := by
  induction h' with
  | refl => exact h
  | hand ws hc _ ih => exact ih.hand ws hc
  | take _ ih => exact ih.take
  | noting t _ ih => exact ih.noting t
  | modBrk b f _ ih => exact ih.modBrk b f
  | ask q _ ih => exact ih.ask q
  | modGen j f hj _ ih => exact ih.modGen j f hj
  | modPar f hp _ ih => exact ih.modPar f hp
  | modSeq f hk _ ih => exact ih.modSeq f hk
  | event c p o k v _ ih => exact ih.event c p o k v
  | sendCommand b a tag o _ ih => exact ih.sendCommand b a tag o
  | sendGenset g p _ ih => exact ih.sendGenset g p
  | sendPage g p _ ih => exact ih.sendPage g p
  | withdrawFrame b tag _ ih => exact ih.withdrawFrame b tag

/-- The measurements, the lines, the tables and what else no such work touches. -/
theorem Works.rest (h : Works k s₀ s) : s.measures = s₀.measures ∧ s.aligner = s₀.aligner ∧ s.lines = s₀.lines ∧
    s.mgmt = s₀.mgmt ∧ s.hushed = s₀.hushed := by
  induction h with
  | refl => exact ⟨rfl, rfl, rfl, rfl, rfl⟩
  | event c p o k v _ ih =>
    rw [State.event_measures, State.event_aligner, State.event_lines, State.event_mgmt, State.event_hushed]
    exact ih
  | sendPage g p _ ih => rw [State.sendPage_eq]; exact ih
  | hand _ _ _ ih | take _ ih | noting _ _ ih | modBrk _ _ _ ih | ask _ _ ih | modGen _ _ _ _ ih | modPar _ _ _ ih
    | modSeq _ _ _ ih | sendCommand _ _ _ _ _ ih | sendGenset _ _ _ ih | withdrawFrame _ _ _ ih => exact ih

/-- The work that waits is calm. -/
theorem Works.calm (h : Works k s₀ s) (h₀ : ∀ w ∈ s₀.work, w.calm = true) : ∀ w ∈ s.work, w.calm = true := by
  induction h with
  | refl => exact h₀
  | hand ws hc _ ih => exact fun w hw => (List.mem_append.1 hw).elim (ih w) (hc w)
  | take _ ih => exact fun w hw => nomatch hw
  | event c p o k v _ ih => rw [State.event_work]; exact ih
  | sendPage g p _ ih => rw [State.sendPage_eq]; exact ih
  | noting _ _ ih | modBrk _ _ _ ih | ask _ _ ih | modGen _ _ _ _ ih | modPar _ _ _ ih
    | modSeq _ _ _ ih | sendCommand _ _ _ _ _ ih | sendGenset _ _ _ ih | withdrawFrame _ _ _ ih => exact ih

/-- Where no plan runs the sequencer and the demand stand. -/
theorem Works.sequencer (h : Works none s₀ s) : s.seq = s₀.seq ∧ s.par.demand = s₀.par.demand ∧
    (s₀.par.demandDue = true → s.par.demandDue = true) := by
  induction h with
  | refl => exact ⟨rfl, rfl, id⟩
  | modPar f hp _ ih =>
    obtain ⟨hseq, hdemand, hdue⟩ := ih
    obtain ⟨hdemand', hdue'⟩ := hp.demand rfl
    exact ⟨hseq, hdemand'.trans hdemand, hdue' ∘ hdue⟩
  | modSeq f hk _ ih => exact absurd rfl hk
  | event c p o k v _ ih => rw [State.event_seq, State.event_par]; exact ih
  | sendPage g p _ ih => rw [State.sendPage_eq]; exact ih
  | hand _ _ _ ih | take _ ih | noting _ _ ih | modBrk _ _ _ ih | ask _ _ ih | modGen _ _ _ _ ih
    | sendCommand _ _ _ _ _ ih | sendGenset _ _ _ ih | withdrawFrame _ _ _ ih => exact ih

/-- What stands of the generator that takes no part. -/
theorem Works.generator {g : Nat} (h : Works (some g) s₀ s) : (s₀.gen g).Same (s.gen g) ∧ Apartness g s₀.par s.par := by
  induction h with
  | refl => exact ⟨.refl _, .refl _ _⟩
  | @modGen s j f hj _ ih =>
    obtain ⟨hsame, hapart⟩ := ih
    have hpar : Apartness g s₀.par (s.modGen j f).par := ⟨hapart.runs, hapart.waits, hapart.tokens⟩
    refine ⟨?_, hpar⟩
    by_cases hgj : j = g
    · subst hgj
      by_cases hlen : j < s.par.gens.length
      · rw [State.gen_modGen_same _ _ hlen]
        exact hsame.trans (hj rfl _)
      · have hno : (s.modGen j f).gen j = s.gen j :=
          congrArg (fun gs => nth gs j) (List.modify_eq_self (Nat.le_of_not_lt hlen))
        rw [hno]
        exact hsame
    · rw [State.gen_modGen_other _ _ hgj]
      exact hsame
  | @modPar s f hp _ ih =>
    obtain ⟨hsame, hapart⟩ := ih
    have hgen : (s.modPar f).gen g = s.gen g := congrArg (fun gs => nth gs g) hp.gens
    exact ⟨hgen ▸ hsame, hapart.trans (hp.apart g rfl)⟩
  | event c p o k v _ ih => rw [State.event_gen, State.event_par]; exact ih
  | sendPage g p _ ih => rw [State.sendPage_eq]; exact ih
  | hand _ _ _ ih | take _ ih | noting _ _ ih | modBrk _ _ _ ih | ask _ _ ih
    | modSeq _ _ _ ih | sendCommand _ _ _ _ _ ih | sendGenset _ _ _ ih | withdrawFrame _ _ _ ih => exact ih

end


end Sys2Proof.Machine
end

section
/-! # The breakers, the token and the generators in such work -/

namespace Sys2Proof.Machine

section
variable {k : Option Nat} {s₀ s t : State}

/-! ### Plain updates -/

/-- A change of the token and of those who wait for it. -/
theorem ParKeeps.token {p : Paralleling} (f : List Party) (x : Option Party)
    (ht : ∀ g, k = some g → Tokenless g p → Tokenless g { p with tokenList := f, token := x }) :
    ParKeeps k p { p with tokenList := f, token := x } :=
  ⟨rfl, fun _ => ⟨rfl, id⟩, fun g hg => ⟨fun _ => id, id, ht g hg⟩⟩

/-- A change of those who wait for a channel. -/
theorem ParKeeps.wait {p : Paralleling} (ws : List Nat) (hw : ∀ g, k = some g → g ∉ p.waitList → g ∉ ws) :
    ParKeeps k p { p with waitList := ws } :=
  ⟨rfl, fun _ => ⟨rfl, id⟩, fun g hg => ⟨fun _ => id, hw g hg, id⟩⟩

@[simp] theorem Works.ite {c : Prop} [Decidable c] {a b : State} (ha : Works k s₀ a) (hb : Works k s₀ b) :
    Works k s₀ (if c then a else b) := by
  split <;> assumption

@[simp] theorem Works.ite_fst {α : Type} {c : Prop} [Decidable c] {a b : State × α} (ha : Works k s₀ a.1)
    (hb : Works k s₀ b.1) : Works k s₀ (if c then a else b).1 := by
  split <;> assumption

@[simp] theorem State.post_works (w : Work) (h : Works k s₀ s) (hw : w.calm = true) : Works k s₀ (s.post w) :=
  h.hand [w] (by simpa using hw)

@[simp] theorem State.noting_works (t : State) (h : Works k s₀ s) : Works k s₀ (t.noting s) := h.noting t

@[simp] theorem State.modBrk_works (b : Nat) (f : BreakerRec → BreakerRec) (h : Works k s₀ s) : Works k s₀ (s.modBrk b f) :=
  h.modBrk b f

@[simp] theorem State.askAdd_works (b : Nat) (m : Member) (h : Works k s₀ s) : Works k s₀ (s.askAdd b m) := h.ask _

@[simp] theorem State.askRemove_works (b : Nat) (m : Member) (h : Works k s₀ s) : Works k s₀ (s.askRemove b m) := h.ask _

@[simp] theorem State.event_works (c : EventClass) (priority object code : Nat) (value : Option Nat) (h : Works k s₀ s) :
    Works k s₀ (s.event c priority object code value) := h.event c priority object code value

@[simp] theorem State.withdrawFrame_works (b tag : Nat) (h : Works k s₀ s) : Works k s₀ (s.withdrawFrame b tag) :=
  h.withdrawFrame b tag

@[simp] theorem State.sendPage_works (g : Nat) (p : Page) (h : Works k s₀ s) : Works k s₀ (s.sendPage g p) := h.sendPage g p

/-- A generator's record that belongs to another, or whose state and timers stand. -/
theorem State.modGen_works (j : Nat) (f : GenRec → GenRec) (h : Works k s₀ s) (hj : k ≠ some j) : Works k s₀ (s.modGen j f) :=
  h.modGen j f fun hk => absurd hk hj

theorem State.forEach_works (ns : List Nat) (f : Nat → State → State) (h : Works k s₀ s)
    (hf : ∀ n ∈ ns, ∀ t, Works k s₀ t → Works k s₀ (f n t)) : Works k s₀ (s.forEach ns f) := by
  unfold State.forEach
  induction ns generalizing s with
  | nil => exact h
  | cons n ns ih => exact ih (hf n List.mem_cons_self s h) fun m hm => hf m (List.mem_cons_of_mem _ hm)

/-- A channel is freed, or goes to a client other than the generator that takes no part. -/
@[simp] theorem State.setChannel_works (c : Nat) (x : Option SyncRun) (h : Works k s₀ s)
    (hx : ∀ g r, k = some g → x = some r → r.client ≠ .generator g) : Works k s₀ (s.setChannel c x) := by
  refine h.modPar _ ⟨rfl, fun _ => ⟨rfl, id⟩, fun g hg => ⟨fun e hruns => ?_, id, id⟩⟩
  obtain ⟨r, hr, hclient⟩ := hruns
  by_cases he : c = e ∧ c < s.par.channels.length
  · obtain ⟨rfl, hlt⟩ := he
    rw [List.getD_eq_getElem _ _ (by rw [List.length_set]; exact hlt), List.getElem_set_self] at hr
    exact absurd hclient (hx g r hg hr)
  · refine ⟨r, ?_, hclient⟩
    rw [← hr]
    by_cases hce : c = e
    · subst hce
      rw [List.set_eq_of_length_le (Nat.le_of_not_lt fun hlt => he ⟨rfl, hlt⟩)]
    · simp [List.getD_eq_getElem?_getD, List.getElem?_set_ne hce]

/-! ### Tokens -/

@[simp] theorem State.requestToken_works (p : Party) (hw : Works k s₀ s) (hp : ∀ g, k = some g → p ≠ .generator g) :
    Works k s₀ (State.requestToken s p) := by
  have hpost : Works k s₀ (s.post .tokenGrant) := State.post_works _ hw rfl
  refine Works.ite hpost (State.post_works _ (hw.modPar _ (.token _ _ fun g hg ht => ⟨fun hin => ?_, ht.2⟩)) rfl)
  obtain hin | hin := List.mem_append.1 hin
  · exact ht.1 hin
  · exact hp g hg (List.mem_singleton.1 hin).symm

@[simp] theorem State.dropRequest_works (p : Party) (hw : Works k s₀ s) : Works k s₀ (State.dropRequest s p) :=
  hw.modPar _ (.token _ _ fun _ _ ht => ⟨fun hin => ht.1 (List.mem_filter.1 hin).1, ht.2⟩)

@[simp] theorem State.freeToken_works (p : Party) (hw : Works k s₀ s) : Works k s₀ (State.freeToken s p) :=
  Works.ite (State.post_works _ (hw.modPar _ (.token _ _ fun _ _ ht => ⟨ht.1, nofun⟩)) rfl) hw

@[simp] theorem State.leaveToken_works (p : Party) (hw : Works k s₀ s) : Works k s₀ (State.leaveToken s p) :=
  State.freeToken_works p (State.dropRequest_works p hw)

/-- The token goes to one of those that wait. -/
theorem State.grantee_mem {p : Party} (h : s.grantee = some p) : p ∈ s.par.tokenList := by
  unfold State.grantee at h
  split at h
  · next hin => rw [← Option.some.inj h]; exact List.contains_iff_mem.1 hin
  · split at h
    · next g hg => rw [← Option.some.inj h]; exact List.contains_iff_mem.1 (List.find?_some (p := fun g => s.par.tokenList.contains (.generator g)) hg)
    · exact List.mem_of_head? h

@[simp] theorem State.grantToken_works (hw : Works k s₀ s) : Works k s₀ (State.grantToken s) := by
  unfold State.grantToken
  split
  · next p _ hgrantee =>
    have hmem := State.grantee_mem hgrantee
    have hgrant : Works k s₀ ((s.dropRequest p).modPar (fun u => { u with token := some p })) :=
      hw.modPar (fun u => { u with tokenList := u.tokenList.filter (· != p), token := some p })
        (.token _ _ fun g _ ht => ⟨fun hin => ht.1 (List.mem_filter.1 hin).1, fun he => ht.1 (Option.some.inj he ▸ hmem)⟩)
    exact State.post_works _ (State.event_works _ _ _ _ _ (State.noting_works _ hgrant)) (by cases p <;> rfl)
  · exact hw

@[simp] theorem State.clearBiases_works (gs : List Nat) (hw : Works k s₀ s) : Works k s₀ (State.clearBiases s gs) :=
  State.forEach_works _ _ hw fun _ _ _ ht => ht.modGen _ _ fun _ _ => ⟨rfl, rfl, rfl, rfl⟩

@[simp] theorem State.endRun_works (c : Nat) (hw : Works k s₀ s) : Works k s₀ (State.endRun s c) := by
  unfold State.endRun
  split
  · exact hw
  · next r _ =>
    have hfree : Works k s₀ ((s.clearBiases r.wrote).setChannel c none) :=
      State.setChannel_works _ _ (State.clearBiases_works _ hw) fun _ _ _ he => nomatch he
    exact Works.ite hfree (State.post_works _ hfree rfl)

@[simp] theorem State.endRunOf_works (p : Party) (b : Nat) (hw : Works k s₀ s) : Works k s₀ (State.endRunOf s p b) := by
  unfold State.endRunOf
  split
  · exact hw
  · exact State.endRun_works _ hw

@[simp] theorem State.abortEvent_works (c : Nat) (hw : Works k s₀ s) : Works k s₀ (State.abortEvent s c) :=
  State.event_works _ _ _ _ _ hw

/-! ### Breakers -/

@[simp] theorem State.resetBf_works (b : Nat) (hw : Works k s₀ s) : Works k s₀ (State.resetBf s b) :=
  State.event_works _ _ _ _ _ (Works.ite (State.forEach_works _ _ (State.modBrk_works _ _ hw) fun _ _ _ ht =>
    State.askRemove_works _ _ ht) (State.modBrk_works _ _ hw))

@[simp] theorem State.testBf_works (b : Nat) (hw : Works k s₀ s) : Works k s₀ (State.testBf s b) :=
  Works.ite (State.resetBf_works b hw) hw

@[simp] theorem State.tripIssued_works (b : Nat) (c : Command) (hw : Works k s₀ s) : Works k s₀ (State.tripIssued s b c) :=
  Works.ite (State.event_works _ _ _ _ _ hw) hw

@[simp] theorem State.issueCommand_works (b : Nat) (hw : Works k s₀ s) : Works k s₀ (State.issueCommand s b) := by
  unfold State.issueCommand
  split
  · exact hw
  · exact Works.ite (hw.modBrk _ _) (State.tripIssued_works _ _ ((hw.modBrk _ _).sendCommand _ _ _ _))

@[simp] theorem State.returnOutcome_works (b : Nat) (c : Command) (o : Outcome) (hw : Works k s₀ s) :
    Works k s₀ (State.returnOutcome s b c o) := by
  have hseq : Works k s₀ (if c.origins.changeover then s.post (.seqOutcome b c.action o) else s) :=
    Works.ite (State.post_works _ hw rfl) hw
  unfold State.returnOutcome
  generalize (if c.origins.changeover then s.post (.seqOutcome b c.action o) else s) = t at hseq
  dsimp only
  split
  · exact State.post_works _ hseq rfl
  · exact hseq

@[simp] theorem State.concludeClose_works (b : Nat) (c : Command) (hw : Works k s₀ s) :
    Works k s₀ (State.concludeClose s b c) := by
  unfold State.concludeClose
  split
  · split
    · exact hw
    · exact State.freeToken_works _ hw
    · exact State.endRunOf_works _ _ hw
  · exact hw

@[simp] theorem State.endCommand_works (b : Nat) (o : Outcome) (hw : Works k s₀ s) : Works k s₀ (State.endCommand s b o) := by
  cases hslot : (s.brk b).slot with
  | none =>
    rw [State.endCommand, hslot]
    exact hw
  | some c =>
    have hframes : Works k s₀ (s.withoutFrames b c) := Works.ite hw (hw.withdrawFrame _ _)
    rw [State.endCommand_eq hslot]
    exact State.concludeClose_works _ _ (State.returnOutcome_works _ _ _ ((hframes.modBrk _ _).event _ _ _ _ _))

@[simp] theorem State.countRefused_works (b : Nat) (hw : Works k s₀ s) : Works k s₀ (State.countRefused s b) := hw.modBrk _ _

@[simp] theorem State.takeOpen_works (b : Nat) (o : Origins) (g : Option Nat) (hw : Works k s₀ s) :
    Works k s₀ (State.takeOpen s b o g) := hw.modBrk _ _

@[simp] theorem State.openRequest_works (b : Nat) (o : Origins) (g : Option Nat) (hw : Works k s₀ s) :
    Works k s₀ (State.openRequest s b o g).1 := by
  unfold State.openRequest
  refine Works.ite_fst (State.countRefused_works _ hw) ?_
  split
  · exact Works.ite_fst hw (State.issueCommand_works _ (State.takeOpen_works _ _ _ hw))
  · split
    · exact hw.modBrk _ _
    · have hended := State.endCommand_works b .superseded hw
      exact Works.ite_fst hended (State.post_works _ (State.takeOpen_works _ _ _ hended) rfl)

@[simp] theorem State.releaseClose_works (b : Nat) (hw : Works k s₀ s) : Works k s₀ (State.releaseClose s b) := by
  unfold State.releaseClose
  (repeat' split) <;> simp [hw]

@[simp] theorem State.takeClose_works (b : Nat) (x : CloseKind) (q : Requester) (o : Origins) (g : Option Nat)
    (hw : Works k s₀ s) : Works k s₀ (State.takeClose s b x q o g) :=
  Works.ite (State.issueCommand_works _ (hw.modBrk _ _)) (hw.modBrk _ _)

@[simp] theorem State.closeRequest_works (b : Nat) (x : CloseKind) (q : Requester) (o : Origins) (g : Option Nat)
    (hw : Works k s₀ s) : Works k s₀ (State.closeRequest s b x q o g).1 := by
  unfold State.closeRequest
  refine Works.ite_fst (State.countRefused_works _ hw) (Works.ite_fst hw (Works.ite_fst hw ?_))
  split
  · exact State.countRefused_works _ hw
  · exact State.takeClose_works _ _ _ _ _ hw

@[simp] theorem State.withdrawClose_works (b : Nat) (p : Party) (hw : Works k s₀ s) : Works k s₀ (State.withdrawClose s b p) := by
  unfold State.withdrawClose
  split <;> simp [hw]

/-! ### Another generator changes its state -/

@[simp] theorem State.genOpen_works (g : Nat) (hw : Works k s₀ s) : Works k s₀ (State.genOpen s g).1 :=
  State.openRequest_works _ _ _ hw

@[simp] theorem State.leaveRun_works (p : Party) (hw : Works k s₀ s) : Works k s₀ (State.leaveRun s p) := by
  unfold State.leaveRun
  split
  · exact hw
  · exact Works.ite (State.endRun_works _ (State.abortEvent_works _ hw)) (State.endRun_works _ hw)

@[simp] theorem State.leaveAttempt_works (g : Nat) (hw : Works k s₀ s) : Works k s₀ (State.leaveAttempt s g) :=
  State.leaveToken_works _ (State.withdrawClose_works _ _ (State.leaveRun_works _ hw))

variable {j : Nat} (hj : k ≠ some j)
include hj

theorem State.genMove_works (new : GenState) (hw : Works k s₀ s) : Works k s₀ (State.genMove s j new) := by
  unfold State.genMove
  extract_lets old t u v w
  have ht : Works k s₀ t := Works.ite (State.leaveAttempt_works _ hw) hw
  have hu : Works k s₀ u := State.noting_works _ ((State.modGen_works j _ ht hj).modPar _
    ⟨rfl, fun _ => ⟨rfl, fun _ => rfl⟩, fun _ _ => ⟨fun _ => id, fun ha hin => ha (List.mem_filter.1 hin).1, id⟩⟩)
  have hv : Works k s₀ v := State.event_works _ _ _ _ _ hu
  have hx : Works k s₀ w := Works.ite (State.genOpen_works _ hv) hv
  exact Works.ite hw (Works.ite (State.post_works _ hx rfl) hx)

theorem State.beginExchange_works (hw : Works k s₀ s) : Works k s₀ (State.beginExchange s j) :=
  State.sendPage_works _ _ (State.modGen_works j _ hw hj)

theorem State.renegotiate_works (hw : Works k s₀ s) : Works k s₀ (State.renegotiate s j) := by
  have ht := State.modGen_works j (fun r => { r with deferred := false }) hw hj
  exact Works.ite (State.beginExchange_works hj ht) (State.beginExchange_works hj (State.genMove_works hj _ ht))

theorem State.genEnter_works (new : GenState) (hw : Works k s₀ s) : Works k s₀ (State.genEnter s j new) := by
  have ht := State.genMove_works hj new hw
  exact Works.ite (State.renegotiate_works hj ht) ht

theorem State.genRetry_works (hw : Works k s₀ s) : Works k s₀ (State.genRetry s j) :=
  State.genEnter_works hj _ (State.modGen_works j _ hw hj)

theorem State.deadFailure_works (hw : Works k s₀ s) : Works k s₀ (State.deadFailure s j) := by
  have ht := State.modGen_works j (fun r => { r with deadFailures := (s.gen j).deadFailures + 1 }) hw hj
  exact Works.ite (State.genEnter_works hj _ ht) (State.genRetry_works hj ht)

theorem State.closeFailure_works (hw : Works k s₀ s) : Works k s₀ (State.closeFailure s j) := by
  have ht := State.modGen_works j (fun r => { r with closeFailures := (s.gen j).closeFailures + 1 }) hw hj
  exact Works.ite (State.genEnter_works hj _ ht) (State.genRetry_works hj ht)

omit hj in
theorem State.genClose_works (x : CloseKind) (hw : Works k s₀ s) : Works k s₀ (State.genClose s j x).1 :=
  State.closeRequest_works _ _ _ _ _ hw

theorem State.deadClose_works (hw : Works k s₀ s) : Works k s₀ (State.deadClose s j) := by
  have hr := State.genClose_works (j := j) .dead hw
  have hleft := State.leaveToken_works (.generator j) hr
  unfold State.deadClose
  dsimp only
  split
  · exact State.post_works _ (State.genEnter_works hj _ (State.modGen_works j _ hr hj)) rfl
  · exact State.genEnter_works hj _ hr
  · exact Works.ite (State.genRetry_works hj hleft) (State.deadFailure_works hj hleft)
  · exact State.genRetry_works hj hleft

/-! ### Runs -/

omit hj

@[simp] theorem State.writeBiases_works (r : SyncRun) (g : Nat) (hw : Works k s₀ s) : Works k s₀ (State.writeBiases s r g) :=
  hw.modGen _ _ fun _ _ => ⟨rfl, rfl, rfl, rfl⟩

@[simp] theorem State.disown_works (gs : List Nat) (hw : Works k s₀ s) : Works k s₀ (State.disown s gs) := by
  refine hw.modPar _ ⟨rfl, fun _ => ⟨rfl, id⟩, fun g _ => ⟨fun c hruns => ?_, id, id⟩⟩
  obtain ⟨x, hx, hclient⟩ := hruns
  rw [List.getD_eq_getElem?_getD, List.getElem?_map] at hx
  cases hc : s.par.channels[c]? with
  | none =>
    rw [hc] at hx
    cases hx
  | some y =>
    rw [hc] at hx
    obtain ⟨r, rfl, rfl⟩ := Option.map_eq_some_iff.1 hx
    exact ⟨r, by rw [List.getD_eq_getElem?_getD, hc]; rfl, hclient⟩

/-- The generator is STARTING, or READY with no attempt to make and not waiting for a channel, and has no run. -/
structure Spared (g : Nat) (s : State) : Prop where
  state : (s.gen g).state = .starting ∨ (s.gen g).state = .ready ∧ (s.gen g).retryTimer ≠ 0 ∧ g ∉ s.par.waitList
  away : ∀ c, ¬ RunsOn g c s.par

variable (hk : ∀ g, k = some g → Spared g s₀)
include hk

theorem Works.spared (hw : Works k s₀ s) {g : Nat} (hg : k = some g) : Spared g s := by
  subst hg
  obtain ⟨hsame, hapart⟩ := hw.generator
  obtain ⟨hstate, ha⟩ := hk g rfl
  refine ⟨?_, fun c hruns => ha c (hapart.runs c hruns)⟩
  rw [← hsame.state, ← hsame.retry] at hstate
  exact hstate.imp_right fun ⟨hready, hretry, hwait⟩ => ⟨hready, hretry, hapart.waits hwait⟩

theorem Works.client (hw : Works k s₀ s) {c : Nat} {r : SyncRun} (hr : s.channel c = some r) (g : Nat) (hg : k = some g) :
    r.client ≠ .generator g := fun he => (hw.spared hk hg).away c ⟨r, hr, he⟩

theorem State.correct_works (c : Nat) (hw : Works k s₀ s) : Works k s₀ (State.correct s c) := by
  cases hr : s.channel c with
  | none =>
    rw [State.correct, hr]
    exact hw
  | some r =>
    have hclient := hw.client hk hr
    rw [State.correct, hr]
    refine State.setChannel_works _ _ (State.disown_works _ (State.forEach_works _ _ hw fun _ _ _ ht =>
      State.writeBiases_works _ _ ht)) fun g x hg hx => ?_
    rw [← Option.some.inj hx]
    exact hclient g hg

theorem State.startRun_works (c : Nat) {p : Party} (b g bus entry : Nat) (hw : Works k s₀ s)
    (hp : ∀ j, k = some j → p ≠ .generator j) : Works k s₀ (State.startRun s c p b g bus entry) :=
  State.correct_works hk c (State.noting_works _ (State.setChannel_works _ _ hw fun j x hj hx => by
    rw [← Option.some.inj hx]
    exact hp j hj))

omit hk in
theorem Party.other {j : Nat} (hj : k ≠ some j) : ∀ g, k = some g → Party.generator j ≠ .generator g := fun g hg he =>
  hj (by rw [hg, Party.generator.inj he])

theorem State.takeChannel_works {j : Nat} (hj : k ≠ some j) (c : Nat) (hw : Works k s₀ s) :
    Works k s₀ (State.takeChannel s j c) := by
  have hr := State.genClose_works (j := j) .sync (State.genEnter_works hj .syncing hw)
  unfold State.takeChannel
  dsimp only
  split
  · exact State.startRun_works hk c _ _ _ _ hr (Party.other hj)
  · exact State.post_works _ (State.genEnter_works hj _ hr) rfl
  · exact State.post_works _ (Works.ite (State.genRetry_works hj hr) (State.closeFailure_works hj hr)) rfl
  · exact State.post_works _ (State.genRetry_works hj hr) rfl

theorem State.serveWaiting_works (n : Nat) (hw : Works k s₀ s) : Works k s₀ (State.serveWaiting n s) := by
  induction n generalizing s with
  | zero => exact hw
  | succ n ih =>
    unfold State.serveWaiting
    split
    · next c j rest _ hwait =>
      have ht : Works k s₀ (s.modPar (fun p => { p with waitList := rest })) := hw.modPar _
        (.wait _ fun g _ ha hin => ha (by rw [hwait]; exact List.mem_cons_of_mem _ hin))
      refine ih ?_
      by_cases hj : k = some j
      · have hnot : ¬ (((s.modPar (fun p => { p with waitList := rest })).gen j).state == .ready &&
            (s.modPar (fun p => { p with waitList := rest })).busState j == .live) = true := by
          obtain hs | ⟨-, -, hno⟩ := (hw.spared hk hj).state
          · have hstate : ((s.modPar (fun p => { p with waitList := rest })).gen j).state = .starting := hs
            simp [hstate]
          · exact absurd (by rw [hwait]; exact List.mem_cons_self) hno
        rw [if_neg hnot]
        exact ht
      · exact Works.ite (State.takeChannel_works hk hj c ht) ht
    · exact hw

theorem State.seekChannel_works {j : Nat} (hj : k ≠ some j) (hw : Works k s₀ s) : Works k s₀ (State.seekChannel s j) := by
  have ht := State.serveWaiting_works hk 8 hw
  unfold State.seekChannel
  generalize State.serveWaiting 8 s = t at ht
  dsimp only
  split
  · exact ht
  · split
    · exact State.takeChannel_works hk hj _ ht
    · refine Works.ite ht (ht.modPar _ (.wait _ fun g hg ha hin => ?_))
      obtain hin | hin := List.mem_append.1 hin
      · exact ha hin
      · exact hj (hg.trans (congrArg some (List.mem_singleton.1 hin)))

omit hk in
theorem State.claimToken_works {j : Nat} (hj : k ≠ some j) (hw : Works k s₀ s) : Works k s₀ (State.claimToken s j) :=
  Works.ite (State.requestToken_works _ hw (Party.other hj)) hw

/-- A close attempt: the generator that takes no part makes none. -/
theorem State.closeAttempt_works (j : Nat) (hw : Works k s₀ s) : Works k s₀ (State.closeAttempt s j) := by
  by_cases hj : k = some j
  · have hidle : ((s.gen j).state != .ready || (s.gen j).retryTimer != 0 || s.lines.lockout || s.lines.tripLatch ||
        s.genPosition j != .opened) = true := by
      obtain hs | ⟨-, ht, -⟩ := (hw.spared hk hj).state
      · rw [hs]
        rfl
      · rw [bne_iff_ne.2 ht, Bool.or_true]
        rfl
    have hsame : State.closeAttempt s j = s := if_pos hidle
    rw [hsame]
    exact hw
  · unfold State.closeAttempt
    refine Works.ite hw ?_
    split
    · exact Works.ite (State.claimToken_works hj (State.genEnter_works hj _ hw)) (State.deadClose_works hj hw)
    · exact State.seekChannel_works hk hj hw
    · exact hw

theorem State.deadCheck_works (j : Nat) (hw : Works k s₀ s) : Works k s₀ (State.deadCheck s j) := by
  by_cases hj : k = some j
  · have hidle : ((s.gen j).state != .closing || !s.deadQueued j) = true := by
      obtain hs | ⟨hs, -⟩ := (hw.spared hk hj).state <;> rw [hs] <;> rfl
    have hsame : State.deadCheck s j = s := if_pos hidle
    rw [hsame]
    exact hw
  · unfold State.deadCheck
    refine Works.ite hw ?_
    split
    · exact State.post_works _ hw rfl
    · exact State.seekChannel_works hk hj (State.genEnter_works hj _ hw)
    · exact hw

theorem State.abortRun_works (c : Nat) (hw : Works k s₀ s) : Works k s₀ (State.abortRun s c) := by
  cases hr : s.channel c with
  | none =>
    rw [State.abortRun, hr]
    exact hw
  | some r =>
    have hclient := hw.client hk hr
    have hend := State.endRun_works c (State.abortEvent_works c hw)
    rw [State.abortRun, hr]
    dsimp only
    split
    · next j hj =>
      exact Works.ite (State.genRetry_works (fun hk' => hclient j hk' hj) hw) hend
    · exact State.post_works _ hend rfl

theorem State.evaluateRun_works (c : Nat) (hw : Works k s₀ s) : Works k s₀ (State.evaluateRun c s) := by
  cases hr : s.channel c with
  | none =>
    rw [State.evaluateRun, hr]
    exact hw
  | some r =>
    have hclient := hw.client hk hr
    have hset : ∀ x : SyncRun, x.client = r.client → Works k s₀ (s.setChannel c (some x)) := fun x hx =>
      State.setChannel_works _ _ hw fun g y hg hy => by
        rw [← Option.some.inj hy, hx]
        exact hclient g hg
    rw [State.evaluateRun, hr]
    simp only []
    refine Works.ite hw (Works.ite (State.abortRun_works hk c hw) (Works.ite ?_ (hset _ rfl)))
    split
    · next j hj =>
      exact State.genEnter_works (fun hk' => hclient j hk' hj) _
        (State.event_works _ _ _ _ _ (State.post_works _ (hset _ rfl) rfl))
    · exact State.event_works _ _ _ _ _ (State.post_works _ (hset _ rfl) rfl)

omit hk in
theorem State.closeOutcome_works {j : Nat} (hj : k ≠ some j) (x : CloseKind) (o : Outcome) (hw : Works k s₀ s) :
    Works k s₀ (State.closeOutcome s j x o) := by
  have hfail : Works k s₀ (State.closeOutcome.failure s j x) :=
    Works.ite (State.deadFailure_works hj hw) (State.closeFailure_works hj hw)
  unfold State.closeOutcome
  split
  · exact hw
  · have hdone := State.genEnter_works hj .online hw
    exact Works.ite (State.modGen_works j _ hdone hj) hdone
  · exact Works.ite (State.genRetry_works hj hw) hfail
  · exact hfail

/-- An outcome: the generator that takes no part waits for none. -/
theorem State.genOutcome_works (j b : Nat) (a : Action) (x : CloseKind) (o : Outcome) (hw : Works k s₀ s) :
    Works k s₀ (State.genOutcome s j b a x o) := by
  have hother : ∀ h : (s.gen j).state = .syncing ∨ (s.gen j).state = .closing ∨ (s.gen j).state = .unloading, k ≠ some j :=
    fun h hk' => by
      obtain hs | ⟨hs, -⟩ := (hw.spared hk hk').state <;> rw [hs] at h <;> simp at h
  unfold State.genOutcome
  refine Works.ite hw ?_
  cases a with
  | closing =>
    dsimp only
    split
    · next h => exact State.closeOutcome_works (hother (by simpa using Or.imp_right Or.inl (by simpa using h))) _ _ hw
    · exact hw
  | opening =>
    dsimp only
    split
    · next h =>
      rw [Bool.and_eq_true, beq_iff_eq] at h
      exact State.genEnter_works (hother (.inr (.inr h.1))) _ hw
    · exact hw

end


end Sys2Proof.Machine
end

section
/-! # The sequencer and the drain of such work -/

namespace Sys2Proof.Machine

section
variable {k : Option Nat} {s₀ s t : State}

/-! ### The sequencer, where a generator takes no part -/

variable (hn : k ≠ none)
include hn

theorem State.setSeqState_works (x : SeqState) (hw : Works k s₀ s) : Works k s₀ (State.setSeqState s x) :=
  State.noting_works _ (hw.modSeq _ hn)

theorem State.modRun_works (f : PlanRun → PlanRun) (hw : Works k s₀ s) : Works k s₀ (State.modRun s f) := hw.modSeq _ hn

theorem State.setWait_works (w : StepWait) (hw : Works k s₀ s) : Works k s₀ (State.setWait s w) :=
  State.modRun_works hn _ hw

theorem State.writeDemand_works (n : Nat) (hw : Works k s₀ s) : Works k s₀ (State.writeDemand s n) :=
  hw.modPar _ ⟨rfl, fun h => absurd h hn, fun _ _ => ⟨fun _ => id, id, id⟩⟩

theorem State.refreshLineup_works (hw : Works k s₀ s) : Works k s₀ (State.refreshLineup s) := by
  have ht := State.noting_works s (hw.modSeq (fun q => { q with lineup := s.findLineup, lineupDue := false }) hn)
  exact Works.ite ht (State.event_works _ _ _ _ _ ht)

theorem State.currentLineup_works (hw : Works k s₀ s) : Works k s₀ (State.currentLineup s) :=
  Works.ite (State.refreshLineup_works hn hw) hw

theorem State.emptySlot_works (hw : Works k s₀ s) : Works k s₀ (State.emptySlot s) := by
  unfold State.emptySlot
  split
  · exact hw
  · exact State.event_works _ _ _ _ _ (hw.modSeq _ hn)

theorem State.halt_works (y : HaltReason) (hw : Works k s₀ s) : Works k s₀ (State.halt s y) :=
  State.event_works _ _ _ _ _ (State.emptySlot_works hn (State.setSeqState_works hn _ hw))

theorem State.lockOut_works (hw : Works k s₀ s) : Works k s₀ (State.lockOut s) :=
  State.event_works _ _ _ _ _ (State.emptySlot_works hn (State.setSeqState_works hn _ hw))

theorem State.goLineup_works (hw : Works k s₀ s) : Works k s₀ (State.goLineup s) := by
  unfold State.goLineup
  refine Works.ite (State.lockOut_works hn hw) ?_
  split
  · exact State.setSeqState_works hn _ hw
  · exact State.setSeqState_works hn _ hw
  · exact Works.ite hw (State.post_works _ (State.setSeqState_works hn _ hw) rfl)

theorem State.startPlan_works (p : Nat) (c : Cause) (hw : Works k s₀ s) : Works k s₀ (State.startPlan s p c) :=
  State.post_works _ (State.event_works _ _ _ _ _ (State.setSeqState_works hn _ (hw.modSeq _ hn))) rfl

theorem State.startRule_works (j : Nat) (among : Nat → Bool) (hw : Works k s₀ s) : Works k s₀ (State.startRule s j among) := by
  unfold State.startRule
  split
  · exact State.startPlan_works hn _ _ hw
  · exact hw

theorem State.evaluateRules_works (hw : Works k s₀ s) : Works k s₀ (State.evaluateRules s) := by
  unfold State.evaluateRules
  split
  · exact Works.ite (State.startRule_works hn _ _ hw) hw
  · exact hw

theorem State.enteredIdle_works (j : Nat) (hw : Works k s₀ s) : Works k s₀ (State.enteredIdle s j) := by
  unfold State.enteredIdle
  refine Works.ite hw ?_
  split
  · exact State.evaluateRules_works hn hw
  · exact Works.ite (State.startPlan_works hn _ _ (hw.modSeq _ hn))
      (State.evaluateRules_works hn (State.emptySlot_works hn hw))

omit hn in
@[simp] theorem State.endStep_works (r : PlanRun) (hw : Works k s₀ s) : Works k s₀ (State.endStep s r) := by
  have ht := State.leaveRun_works .sequencer hw
  exact State.leaveToken_works _ (Works.ite (State.withdrawClose_works _ _ ht) ht)

omit hn in
theorem State.raiseLimit_works (r : PlanRun) (hw : Works k s₀ s) : Works k s₀ (State.raiseLimit s r) := by
  unfold State.raiseLimit
  split
  · exact hw
  · exact State.event_works _ _ _ _ _ (State.askAdd_works _ _ hw)

theorem State.endRunRecord_works (r : PlanRun) (hw : Works k s₀ s) : Works k s₀ (State.endRunRecord s r) := by
  have ht := State.endStep_works r hw
  exact State.modRun_works hn _ (Works.ite (State.raiseLimit_works r ht) ht)

theorem State.failPlan_works (r : PlanRun) (hw : Works k s₀ s) : Works k s₀ (State.failPlan s r) := by
  have ht := State.currentLineup_works hn (State.endRunRecord_works hn r hw)
  unfold State.failPlan
  generalize (s.endRunRecord r).currentLineup = t at ht
  refine Works.ite (State.goLineup_works hn ht) ?_
  split
  · exact State.halt_works hn _ ht
  · exact Works.ite (State.halt_works hn _ ht) (Works.ite (State.halt_works hn _ ht) (State.startPlan_works hn _ _ ht))

theorem State.failStep_works (code reason : Nat) (hw : Works k s₀ s) : Works k s₀ (State.failStep s code reason) := by
  unfold State.failStep
  split
  · exact hw
  · exact State.failPlan_works hn _ (State.event_works _ _ _ _ _ (hw.modSeq _ hn))

theorem State.stopPlan_works (hw : Works k s₀ s) : Works k s₀ (State.stopPlan s) := by
  unfold State.stopPlan
  split
  · exact hw
  · exact State.goLineup_works hn (State.currentLineup_works hn (State.endRunRecord_works hn _ (State.event_works _ _ _ _ _ hw)))

theorem State.finishPlan_works (hw : Works k s₀ s) : Works k s₀ (State.finishPlan s) := by
  unfold State.finishPlan
  split
  · exact hw
  · next r _ =>
    have ht := State.currentLineup_works hn (State.endRunRecord_works hn r (State.event_works .transfer 8 r.plan 6 none hw))
    refine Works.ite (State.stopPlan_works hn hw) (Works.ite ?_ (State.failStep_works hn _ _ hw))
    split
    · exact State.halt_works hn _ ht
    · exact State.goLineup_works hn ht

theorem State.completeStep_works (hw : Works k s₀ s) : Works k s₀ (State.completeStep s) := by
  unfold State.completeStep
  split
  · exact hw
  · next r _ =>
    dsimp only
    have ht : Works k s₀ (if (s.stepField r.plan r.step 0 == 10) = true then s.modRun (fun r => { r with parallel := none }) else s) :=
      Works.ite (State.modRun_works hn _ hw) hw
    generalize (if (s.stepField r.plan r.step 0 == 10) = true then s.modRun (fun r => { r with parallel := none }) else s) = t at ht
    exact Works.ite (State.stopPlan_works hn ht) (State.post_works _ (State.modRun_works hn _ ht) rfl)

theorem State.stepOpen_works (b : Nat) (hw : Works k s₀ s) : Works k s₀ (State.stepOpen s b) := by
  have hr := State.openRequest_works b changeover none hw
  unfold State.stepOpen
  dsimp only
  split
  · exact State.post_works _ hr rfl
  · exact State.post_works _ hr rfl
  · exact State.setWait_works hn _ hr

omit hn in
theorem State.stepClose_works (b : Nat) (x : CloseKind) {go : State → State} (hgo : ∀ t, Works k s₀ t → Works k s₀ (go t))
    (hw : Works k s₀ s) : Works k s₀ (State.stepClose s b x go) := by
  have hr := State.closeRequest_works b x (.party .sequencer) changeover none hw
  unfold State.stepClose
  dsimp only
  split
  · exact State.post_works _ (State.leaveToken_works _ hr) rfl
  · exact State.post_works _ hr rfl
  · exact State.post_works _ hr rfl
  · exact hgo _ hr

theorem State.stepDeadTerm_works (r : PlanRun) (hw : Works k s₀ s) : Works k s₀ (State.stepDeadTerm s r) :=
  Works.ite (State.setWait_works hn _ (State.post_works _ hw rfl)) (State.setWait_works hn _ hw)

theorem State.stepDeadClose_works (r : PlanRun) (hw : Works k s₀ s) : Works k s₀ (State.stepDeadClose s r) :=
  State.stepClose_works _ _ (fun _ ht => State.stepDeadTerm_works hn r ht) hw

omit hn in
theorem State.testGens_works (hw : Works k s₀ s) : Works k s₀ (State.testGens s) := by
  unfold State.testGens
  split
  · exact Works.ite (State.post_works _ hw rfl) hw
  · exact hw

theorem State.seqOutcome_works (b : Nat) (a : Action) (o : Outcome) (hw : Works k s₀ s) : Works k s₀ (State.seqOutcome s b a o) := by
  unfold State.seqOutcome
  split
  · exact hw
  · exact Works.ite hw (Works.ite (State.completeStep_works hn hw) (State.failStep_works hn _ _ hw))

theorem State.seqToken_works (hw : Works k s₀ s) : Works k s₀ (State.seqToken s) := by
  unfold State.seqToken
  split
  · exact Works.ite (State.stepDeadClose_works hn _ hw) (State.leaveToken_works _ hw)
  · exact State.leaveToken_works _ hw

theorem State.seqAborted_works (hw : Works k s₀ s) : Works k s₀ (State.seqAborted s) := by
  unfold State.seqAborted
  split
  · exact Works.ite (State.setWait_works hn _ hw) hw
  · exact hw

variable (hk : ∀ g, k = some g → Spared g s₀)
include hk

theorem State.stepRun_works (r : PlanRun) (hw : Works k s₀ s) : Works k s₀ (State.stepRun s r) :=
  State.setWait_works hn _ (State.startRun_works hk _ _ _ _ _ hw fun _ _ => nofun)

theorem State.beginKind_works (r : PlanRun) (hw : Works k s₀ s) : Works k s₀ (State.beginKind s r) := by
  have hdemand : ∀ a w, Works k s₀ (((s.writeDemand a).setWait w).testGens) := fun a w =>
    State.testGens_works (State.setWait_works hn w (State.writeDemand_works hn a hw))
  unfold State.beginKind
  dsimp only
  split
  · exact State.stepOpen_works hn _ hw
  · exact State.stepClose_works _ _ (fun _ ht => State.setWait_works hn _ ht) hw
  · exact State.stepClose_works _ _ (fun _ ht => State.stepRun_works hn hk r ht) hw
  · exact Works.ite (State.requestToken_works _ (State.setWait_works hn _ hw) fun _ _ => nofun) (State.stepDeadClose_works hn r hw)
  · exact Works.ite (State.post_works _ hw rfl) (State.setWait_works hn _ hw)
  · exact State.setWait_works hn _ hw
  · exact hdemand _ _
  · exact hdemand _ _
  · exact State.post_works _ (State.noting_works _ (State.modRun_works hn _ hw)) rfl
  · exact Works.ite (State.post_works _ hw rfl) (State.setWait_works hn _ hw)
  · exact State.post_works _ (State.noting_works _ (hw.modSeq _ hn)) rfl
  · exact State.post_works _ hw rfl

theorem State.beginStep_works (hw : Works k s₀ s) : Works k s₀ (State.beginStep s) := by
  unfold State.beginStep
  split
  · exact hw
  · exact Works.ite (State.finishPlan_works hn hw) (Works.ite (State.post_works _ (State.modRun_works hn _ hw) rfl)
      (State.beginKind_works hn hk _ (State.modRun_works hn _ hw)))

end

section
variable {k : Option Nat} {s₀ s t : State}

/-! ### The work that is handed over -/

/-- Who takes no part: the sequencer, where no plan runs and it is not in IDLE, or a generator without an attempt. -/
def Apart (k : Option Nat) (s : State) : Prop :=
  match k with
  | none => s.run? = none ∧ ∀ j, s.seq.state ≠ .idle j
  | some g => Spared g s

theorem Apart.spared (h : Apart k s₀) : ∀ g, k = some g → Spared g s₀ := fun _ hg => by
  subst hg
  exact h

/-- What reaches the sequencer finds it without a plan. -/
theorem State.handleSeq_works (h : Apart k s₀) (hw : Works k s₀ s) :
    (∀ b a o, Works k s₀ (s.seqOutcome b a o)) ∧ Works k s₀ s.seqToken ∧ Works k s₀ s.seqAborted ∧ Works k s₀ s.beginStep ∧
      Works k s₀ s.completeStep ∧ (∀ code reason, Works k s₀ (s.failStep code reason)) ∧ ∀ j, Works k s₀ (s.enteredIdle j) := by
  cases k with
  | none =>
    have hseq := hw.sequencer.1
    have hrun : s.run? = none := by
      rw [State.run?, hseq]
      exact h.1
    have hidle : ∀ j, s.enteredIdle j = s := fun j => by
      rw [State.enteredIdle, hseq]
      exact if_pos (bne_iff_ne.2 (h.2 j))
    refine ⟨fun b a o => ?_, ?_, ?_, ?_, ?_, fun code reason => ?_, fun j => (hidle j).symm ▸ hw⟩
    · rw [State.seqOutcome, hrun]
      exact hw
    · rw [State.seqToken, hrun]
      exact State.leaveToken_works _ hw
    · rw [State.seqAborted, hrun]
      exact hw
    · rw [State.beginStep, hrun]
      exact hw
    · rw [State.completeStep, hrun]
      exact hw
    · rw [State.failStep, hrun]
      exact hw
  | some g =>
    have hn : some g ≠ none := nofun
    exact ⟨fun b a o => State.seqOutcome_works hn b a o hw, State.seqToken_works hn hw, State.seqAborted_works hn hw,
      State.beginStep_works hn h.spared hw, State.completeStep_works hn hw, fun c r => State.failStep_works hn c r hw,
      fun j => State.enteredIdle_works hn j hw⟩

theorem State.handle_works (h : Apart k s₀) (hw : Works k s₀ s) (w : Work) (hc : w.calm = true) : Works k s₀ (State.handle s w) := by
  obtain ⟨houtcome, htoken, haborted, hbegin, hcomplete, hfail, hidle⟩ := State.handleSeq_works h hw
  cases w with
  | seqOutcome b a o => exact houtcome b a o
  | genOutcome g b a x o => exact State.genOutcome_works h.spared g b a x o hw
  | genPosition => exact nomatch hc
  | seqPosition => exact nomatch hc
  | issue b => exact Works.ite (State.issueCommand_works b hw) hw
  | release b => exact State.releaseClose_works b hw
  | tokenGrant => exact State.grantToken_works hw
  | seqTokenGranted => exact htoken
  | genTokenGranted g =>
    by_cases hg : k = some g
    · have hnot : ((s.gen g).state == .claiming) = false := by
        obtain hs | ⟨hs, -⟩ := (hw.spared h.spared hg).state <;> rw [hs] <;> rfl
      have hleave : State.handle s (.genTokenGranted g) = s.leaveToken (.generator g) := by
        show (if (s.gen g).state == .claiming then s.deadClose g else s.leaveToken (.generator g)) = _
        rw [hnot]
        rfl
      rw [hleave]
      exact State.leaveToken_works _ hw
    · exact Works.ite (State.deadClose_works hg hw) (State.leaveToken_works _ hw)
  | seqSyncAborted => exact haborted
  | gensReport => exact State.testGens_works hw
  | channelFree => exact State.serveWaiting_works h.spared 8 hw
  | seqBegin => exact hbegin
  | seqComplete => exact hcomplete
  | seqFail c r => exact hfail c r
  | idleEntered j => exact hidle j
  | genDeadCheck g => exact State.deadCheck_works h.spared g hw
  | report => exact nomatch hc

/-- Calm work is done with what it keeps kept. -/
theorem State.drain_works (h : Apart k s₀) (hc : ∀ w ∈ s₀.work, w.calm = true) (n : Nat) (hw : Works k s₀ s) :
    Works k s₀ (State.drain n s) := by
  induction n generalizing s with
  | zero =>
    rw [State.drain]
    exact hw
  | succ n ih =>
    rw [State.drain]
    split
    · exact hw
    · next w rest hwork =>
      have hcalm : ∀ x ∈ w :: rest, x.calm = true := hwork ▸ hw.calm hc
      exact ih ((State.handle_works h hw.take w (hcalm w List.mem_cons_self)).hand rest fun x hx =>
        hcalm x (List.mem_cons_of_mem _ hx))

end


end Sys2Proof.Machine
end

section
/-! # O51 -/

namespace Sys2Proof.Machine

section
variable {s t u v : State} {r : PlanRun} {c : Command} {b n : Nat}

/-! ### A plan that ends at a RESTART (R135, R189) -/

/-- The outcome of a close that is withdrawn, on its way to the one that asked for it. -/
def Work.withdrawn : Work → Bool
  | .seqOutcome _ .closing .withdrawn | .genOutcome _ _ .closing _ .withdrawn => true
  | _ => false

/-- A withdrawn close's outcome has no effect where no plan runs (R129, R157). -/
theorem State.handle_withdrawn {w : Work} (hw : w.withdrawn = true) (hr : s.run? = none) : State.handle s w = s := by
  cases w with
  | seqOutcome b a o =>
    show s.seqOutcome b a o = s
    rw [State.seqOutcome, hr]
  | genOutcome g b a k o =>
    cases a with
    | opening => cases hw
    | closing =>
      cases o with
      | withdrawn =>
        show s.genOutcome g b .closing k .withdrawn = s
        rw [State.genOutcome]
        simp only [State.closeOutcome, ite_self]
      | _ => cases hw
  | _ => cases hw

/-- A grant finds nobody who waits. -/
theorem State.handle_tokenGrant (hlist : s.par.tokenList = []) : State.handle s .tokenGrant = s := by
  have hfind : s.genOrder.find? (fun g => ([] : List Party).contains (.generator g)) = none :=
    List.find?_eq_none.2 fun g _ => Bool.false_ne_true
  have hnone : s.grantee = none := by
    rw [State.grantee, hlist, hfind]
    rfl
  show s.grantToken = s
  rw [State.grantToken, hnone]
  split <;> simp_all

/-- What the end of a step hands on where the sequencer has no run in progress: at most `n` pieces, outcomes of a withdrawn
close and, where the sequencer held it, the grant of the token. -/
structure Returns (n : Nat) (s u : State) : Prop where
  token : u.par.token = s.par.token ∨ u.par.token = none
  list : s.par.tokenList = [] → u.par.tokenList = []
  channels : u.par.channels = s.par.channels
  work : ∃ ws, u.work = s.work ++ ws ∧ ws.length ≤ n ∧
    ∀ w ∈ ws, w.withdrawn = true ∨ w = .tokenGrant ∧ s.par.token = some .sequencer

namespace Returns

theorem refl (s : State) : Returns 0 s s :=
  ⟨.inl rfl, id, rfl, [], (List.append_nil _).symm, Nat.le_refl 0, by simp⟩

theorem mono {m : Nat} (h : Returns n s u) (hn : n ≤ m) : Returns m s u :=
  { h with work := by obtain ⟨ws, hws, hlen, hall⟩ := h.work; exact ⟨ws, hws, hlen.trans hn, hall⟩ }

theorem still (h : Returns n s u) (hp : v.par = u.par) (hw : v.work = u.work) : Returns n s v :=
  ⟨hp ▸ h.token, hp ▸ h.list, hp ▸ h.channels, hw ▸ h.work⟩

theorem post (h : Returns n s u) {w : Work} (hw : w.withdrawn = true ∨ w = .tokenGrant ∧ s.par.token = some .sequencer) :
    Returns (n + 1) s (u.post w) := by
  obtain ⟨ws, hws, hlen, hall⟩ := h.work
  refine ⟨h.token, h.list, h.channels, ws ++ [w], by rw [State.post_work, hws, List.append_assoc], ?_, fun x hx => ?_⟩
  · rw [List.length_append]
    exact Nat.succ_le_succ hlen
  · exact (List.mem_append.1 hx).elim (hall x) fun hx => List.mem_singleton.1 hx ▸ hw

theorem freeToken (h : Returns n s u) : Returns (n + 1) s (u.freeToken .sequencer) := by
  rw [State.freeToken]
  split
  · next hheld =>
    have hfree : Returns n s (u.modPar (fun x => { x with token := none })) := ⟨.inr rfl, h.list, h.channels, h.work⟩
    refine hfree.post (.inr ⟨rfl, ?_⟩)
    have hheld' : u.par.token = some .sequencer := by simpa using hheld
    obtain he | he := h.token
    · exact he ▸ hheld'
    · rw [he] at hheld'
      cases hheld'
  · exact h.mono (Nat.le_succ n)

theorem leaveToken (h : Returns n s u) : Returns (n + 1) s (u.leaveToken .sequencer) := by
  have hdrop : Returns n s (u.dropRequest .sequencer) :=
    ⟨h.token, fun hl => by show u.par.tokenList.filter _ = []; rw [h.list hl]; rfl, h.channels, h.work⟩
  exact hdrop.freeToken

theorem returnWithdrawn (h : Returns n s u) (b : Nat) (hc : c.action = .closing) :
    Returns (n + 2) s (u.returnOutcome b c .withdrawn) := by
  have hseq : Returns (n + 1) s (if c.origins.changeover then u.post (.seqOutcome b c.action .withdrawn) else u) := by
    split
    · exact h.post (.inl (by rw [hc]; rfl))
    · exact h.mono (Nat.le_succ n)
  rw [State.returnOutcome]
  split
  · exact hseq.post (.inl (by rw [hc]; rfl))
  · exact hseq.mono (Nat.le_succ _)

end Returns

/-- The sequencer has no run in progress. -/
def State.Runless (s : State) : Prop := ∀ c < 4, ∀ x, s.channel c = some x → x.client ≠ .sequencer

theorem State.Runless.channelOf (h : s.Runless) : s.channelOf .sequencer = none :=
  List.find?_eq_none.2 fun c hc hyes => by
    cases hx : s.channel c with
    | none =>
      rw [hx] at hyes
      exact nomatch hyes
    | some x =>
      rw [hx] at hyes
      exact h c (List.mem_range.1 hc) x hx (by simpa using hyes)

theorem State.Runless.channelFor (h : s.Runless) (b : Nat) : s.channelFor .sequencer b = none :=
  List.find?_eq_none.2 fun c hc hyes => by
    cases hx : s.channel c with
    | none =>
      rw [hx] at hyes
      exact nomatch hyes
    | some x =>
      rw [hx] at hyes
      simp only [Option.any_some, Bool.and_eq_true, beq_iff_eq] at hyes
      exact h c (List.mem_range.1 hc) x hx hyes.1

theorem State.Runless.of_channels (h : s.Runless) (hc : u.par.channels = s.par.channels) : u.Runless := fun c hlt x hx =>
  h c hlt x (by rw [State.channel] at hx ⊢; exact hc ▸ hx)

theorem State.concludeClose_party {p : Party} (ha : c.action = .closing) (hp : c.requester = .party p) : s.concludeClose b c =
    match c.closeKind with
    | .plain => s
    | .dead => s.freeToken p
    | .sync => s.endRunOf p b := by
  rw [State.concludeClose, ha, hp] <;> rfl

theorem Returns.withdrawClose (h : Returns n s u) (hr : s.Runless) (b : Nat) :
    Returns (n + 3) s (u.withdrawClose b .sequencer) := by
  by_cases hq : u.ownQueued b .sequencer
  · obtain ⟨c, hslot, ha, hp, hreq⟩ := hq
    rw [State.withdrawClose_queued hslot ha hp hreq]
    have hended : Returns n s ((u.modBrk b (·.ended .withdrawn)).event .breaker
        (Outcome.withdrawn.priority c.tripOpen) b 6 (some Outcome.withdrawn.value)) :=
      h.still (State.event_par ..) (State.event_work ..)
    have hback := hended.returnWithdrawn b ha
    generalize ((u.modBrk b (·.ended .withdrawn)).event .breaker (Outcome.withdrawn.priority c.tripOpen) b 6
      (some Outcome.withdrawn.value)).returnOutcome b c .withdrawn = y at *
    rw [State.concludeClose_party ha hreq]
    cases c.closeKind with
    | plain => exact hback.mono (Nat.le_succ _)
    | dead => exact hback.freeToken
    | sync =>
      have hnone : y.endRunOf .sequencer b = y := by
        rw [State.endRunOf, (hr.of_channels hback.channels).channelFor b]
      exact (hnone.symm ▸ hback).mono (Nat.le_succ _)
  · rw [State.withdrawClose_rests hq]
    exact h.mono (by omega)

/-- The end of a step that commands a breaker, and of another one. -/
theorem State.endStep_returns (hr : s.Runless) : Returns 4 s (s.endStep r) := by
  have hleave : s.leaveRun .sequencer = s := by rw [State.leaveRun, hr.channelOf]
  rw [State.endStep, hleave]
  split
  · exact ((Returns.refl s).withdrawClose hr _).leaveToken
  · exact (Returns.refl s).leaveToken.mono (by decide)

/-- The breakers at the end of a CLOSE_DEAD step. -/
theorem State.endStep_breakers (hr : s.Runless) (h4 : s.stepField r.plan r.step 0 = 4) :
    (s.endStep r).breakers = (s.withdrawClose (s.stepField r.plan r.step 1) .sequencer).breakers := by
  have hleave : s.leaveRun .sequencer = s := by rw [State.leaveRun, hr.channelOf]
  rw [State.endStep, hleave, h4]
  exact State.leaveToken_breakers _

/-- The sequencer as a plan's end leaves it, before it takes its next state. -/
def State.planEnded (s : State) (r : PlanRun) : State :=
  (((s.endStep r).modRun (fun r => { r with parallel := none, wait := .nothing }))).event .transfer 12 r.plan 14 (some r.step)

theorem State.abandonPlan_eq (h : s.seq.state = .running r) (hp : r.parallel = none) : s.abandonPlan = s.planEnded r := by
  have hrun : s.run? = some r := by rw [State.run?, h]
  rw [State.abandonPlan, hrun]
  simp only [State.endRunRecord, State.planEnded, hp, Option.isSome_none, Bool.false_and, Bool.false_eq_true, if_false]

/-- What the end of the plan leaves as it was, and the record of it. -/
structure PlanEnds (s : State) (r : PlanRun) (a : State) : Prop where
  mgmt : a.mgmt = s.mgmt
  lines : a.lines = s.lines
  hushed : a.hushed = s.hushed
  seq : ∃ x, a.seq = { s.seq with state := x }
  calm : (∀ w ∈ s.work, w.calm = true) → ∀ w ∈ a.work, w.calm = true
  newest : a.newest.map (fun e => (e.cls, e.priority, e.object, e.code, e.value)) = some (.transfer, 12, r.plan, 14, some r.step)
  breakers : a.breakers = (s.endStep r).breakers
  par : a.par = (s.endStep r).par
  work : a.work = (s.endStep r).work

theorem State.planEnded_ends (s : State) (r : PlanRun) : PlanEnds s r (s.planEnded r) := by
  have hworks : Works none s (s.endStep r) := State.endStep_works r .refl
  obtain ⟨-, -, hlines, hmgmt, hhushed⟩ := hworks.rest
  have hseq := hworks.sequencer.1
  have hcalm := hworks.calm
  rw [State.planEnded]
  generalize he : s.endStep r = e at *
  have hrun : ∃ x, (e.modRun (fun r => { r with parallel := none, wait := .nothing })).seq = { s.seq with state := x } :=
    ⟨_, congrArg (fun q : Sequencer => { q with
      state := (match e.seq.state with | .running r => .running { r with parallel := none, wait := .nothing } | x => x) }) hseq⟩
  refine ⟨(State.event_mgmt ..).trans hmgmt, (State.event_lines ..).trans hlines, (State.event_hushed ..).trans hhushed,
    hrun.imp fun _ h => (State.event_seq ..).trans h, fun h w hw => hcalm h w (by rw [State.event_work] at hw; exact hw), ?_,
    (State.event_breakers ..).trans (by rw [he]; rfl), (State.event_par ..).trans (by rw [he]; rfl),
    (State.event_work ..).trans (by rw [he]; rfl)⟩
  · rw [State.event_newest]
    rfl

/-- The sequencer's part on a plan that runs. -/
theorem State.seqRestarted_of_ends {a : State} (h : PlanEnds s r a) (l : Lineup) : a.seqRestarted l = s.seqRestarted l := by
  obtain ⟨x, hx⟩ := h.seq
  rw [State.seqRestarted, State.seqRestarted, hx, h.lines]

theorem State.seqRestarted_state (s : State) (l : Lineup) : (s.seqRestarted l).state = .halted .stationTrip ∨
    (s.seqRestarted l).state = .lockedOut ∨ (s.seqRestarted l).state = .init := by
  rw [State.seqRestarted]
  cases s.lines.tripLatch <;> cases s.lines.lockout <;> simp

/-- No plan runs, and the sequencer is not in IDLE. -/
theorem State.apart_of_restarted {l : Lineup} (h : u.seq = s.seqRestarted l) : Apart none u := by
  have hstate := State.seqRestarted_state s l
  rw [← h] at hstate
  obtain he | he | he := hstate <;> exact ⟨by rw [State.run?, he], fun j => by rw [he]; exact nofun⟩

/-- The end of a command under which no frame goes to a generator controller. -/
theorem State.settle_of_hushed (hh : (State.drain Config.workBound u).hushed = true) :
    ∃ es b, State.settle s u = (State.drain Config.workBound u).endedWith es b := by
  have hend : ∀ v : State, ({ (State.noteEdges s v).driveHealthy with closing := none, hushed := false, risen := [] } : State) =
      v.endedWith (State.noteEdges s v).capture.edges v.healthyNow := fun v => by
    unfold State.noteEdges State.driveHealthy
    rfl
  have hsettle : State.settle s u = ({ (State.noteEdges s (State.sendSetpoints s (State.drain Config.workBound u))).driveHealthy with
      closing := none, hushed := false, risen := [] } : State) := rfl
  rw [State.sendSetpoints_hushed hh, hend] at hsettle
  exact ⟨_, _, hsettle⟩

end

section
variable {s : State} {r : PlanRun} {ks : List Block}

/-- The sequencer's part on a plan that runs, before its work is done. -/
def State.planRestarted (s : State) (r : PlanRun) : State :=
  (s.quieted.planEnded r).seqAnew (powerOnLineup s.mgmt.tables)

/-- What its work leaves: the sequencer and the demand stand. -/
theorem State.planRestarted_done (hs : s.Quiet) (ks : List Block) :
    let v := State.drain Config.workBound ((s.planRestarted r).partEnded .sequencer ks)
    v.seq = s.seqRestarted (powerOnLineup s.mgmt.tables) ∧ v.par.demand = 0 ∧ v.par.demandDue = true ∧
      v.mgmt = { s.mgmt with restart := some (ks.filter (· != .sequencer)) } ∧ v.hushed = true := by
  have hends := s.quieted.planEnded_ends r
  have hnone : ∀ w ∈ s.quieted.work, w.calm = true := fun w hw => by
    rw [show s.quieted.work = [] from hs.1] at hw
    exact nomatch hw
  obtain ⟨hmoves, hseq, hpar, -⟩ := (s.quieted.planEnded r).seqAnew_moves (powerOnLineup s.mgmt.tables)
  rw [State.seqRestarted_of_ends hends] at hseq
  rw [State.planRestarted]
  have hcalm : ∀ w ∈ ((s.quieted.planEnded r).seqAnew (powerOnLineup s.mgmt.tables)).work, w.calm = true := by
    rw [hmoves.work]
    exact hends.calm hnone
  have hhushed := hmoves.hushed.trans hends.hushed
  have hmgmt := hmoves.mgmt.trans hends.mgmt
  generalize (s.quieted.planEnded r).seqAnew (powerOnLineup s.mgmt.tables) = u at *
  have hapart : Apart none (u.partEnded .sequencer ks) :=
    State.apart_of_restarted (s := s) (l := powerOnLineup s.mgmt.tables) hseq
  have hworks := State.drain_works hapart hcalm Config.workBound .refl
  obtain ⟨hseq', hdemand, hdue⟩ := hworks.sequencer
  obtain ⟨-, -, -, hmgmt', hhushed'⟩ := hworks.rest
  refine ⟨hseq'.trans hseq, hdemand.trans ?_, hdue ?_, hmgmt'.trans ?_, hhushed'.trans hhushed⟩
  · exact congrArg Paralleling.demand hpar
  · exact congrArg Paralleling.demandDue hpar
  · show ({ u.mgmt with restart := _ } : Management) = _
    rw [hmgmt]
    rfl

/-- Where the sequencer has no run in progress and nobody waits for its token the work is idle. -/
theorem State.planRestarted_idle (hs : s.Quiet) (hr : s.Runless) (hl : s.par.token = some .sequencer → s.par.tokenList = [])
    (ks : List Block) : ∃ es b, State.settle s ((s.planRestarted r).partEnded .sequencer ks) =
      (State.partEnded { s.planRestarted r with work := [] } .sequencer ks).endedWith es b := by
  have hends := s.quieted.planEnded_ends r
  obtain ⟨hmoves, hseq, hpar, -⟩ := (s.quieted.planEnded r).seqAnew_moves (powerOnLineup s.mgmt.tables)
  rw [State.seqRestarted_of_ends hends] at hseq
  have hreturns : Returns 4 s.quieted (s.quieted.endStep r) := State.endStep_returns hr
  obtain ⟨ws, hws, hlen, hall⟩ := hreturns.work
  have hwork : (s.planRestarted r).work = ws := by
    rw [State.planRestarted, hmoves.work, hends.work, hws, show s.quieted.work = [] from hs.1, List.nil_append]
  have hlist : s.par.tokenList = [] → (s.planRestarted r).par.tokenList = [] := fun h => by
    have hlist' := hreturns.list h
    rw [State.planRestarted, hpar, hends.par]
    exact hlist'
  have hhushed : (s.planRestarted r).hushed = true := hmoves.hushed.trans hends.hushed
  rw [← State.planRestarted] at hseq
  generalize s.planRestarted r = u at *
  have hrun : u.run? = none := (State.apart_of_restarted (s := s) (l := powerOnLineup s.mgmt.tables) hseq).1
  have hd : Drains ws.length (u.partEnded .sequencer ks) (State.partEnded { u with work := [] } .sequencer ks) :=
    Drains.idle (u := u.partEnded .sequencer ks) hwork fun w hw => by
      obtain h | ⟨rfl, htoken⟩ := hall w hw
      · exact State.handle_withdrawn h hrun
      · exact State.handle_tokenGrant (hlist (hl htoken))
  obtain ⟨es, hes⟩ := Sys2Proof.Machine.settle_hushed (s := s) hd (show (State.partEnded { u with work := [] } .sequencer ks).hushed = true from hhushed)
    (hlen.trans (by decide))
  exact ⟨es, _, hes⟩

theorem State.abandonPlan_quieted (h : s.seq.state = .running r) (hp : r.parallel = none) :
    s.quieted.restartPart .sequencer = s.planRestarted r := by
  show s.quieted.restartSeq = _
  rw [State.restartSeq_eq, State.abandonPlan_eq (s := s.quieted) h hp]
  rfl

/-- Where nothing else is recorded at the part the end of the plan is the newest record. -/
theorem State.planRestarted_newest (hlatch : s.lines.tripLatch = false) (hlock : s.lines.lockout = false)
    (hslot : s.seq.slot = none) :
    (s.planRestarted r).newest.map (fun e => (e.cls, e.priority, e.object, e.code, e.value)) =
      some (.transfer, 12, r.plan, 14, some r.step) := by
  have hends := s.quieted.planEnded_ends r
  obtain ⟨-, -, -, hnewest⟩ := (s.quieted.planEnded r).seqAnew_moves (powerOnLineup s.mgmt.tables)
  rw [State.planRestarted]
  generalize s.quieted.planEnded r = a at *
  obtain ⟨x, hx⟩ := hends.seq
  rw [hnewest (by rw [hends.lines]; exact hlatch) (by rw [hends.lines]; exact hlock) (by rw [hx]; exact hslot)]
  exact hends.newest

/-- The close of a CLOSE_DEAD step that waits is withdrawn. -/
theorem State.planRestarted_brk (hr : s.Runless) (h4 : s.stepField r.plan r.step 0 = 4) {c : Command}
    (hslot : (s.brk (s.stepField r.plan r.step 1)).slot = some c) (ha : c.action = .closing) (hp : c.phase = .queued)
    (hreq : c.requester = .party .sequencer) : (s.planRestarted r).brk (s.stepField r.plan r.step 1) =
      (s.brk (s.stepField r.plan r.step 1)).ended .withdrawn := by
  have hends := s.quieted.planEnded_ends r
  obtain ⟨hmoves, -⟩ := (s.quieted.planEnded r).seqAnew_moves (powerOnLineup s.mgmt.tables)
  have hstep := State.endStep_breakers (s := s.quieted) hr h4
  have hclose := State.withdrawClose_breakers (s := s.quieted) hslot ha hp hreq
  have hbrk : (s.quieted.modBrk (s.stepField r.plan r.step 1) (·.ended .withdrawn)).brk (s.stepField r.plan r.step 1) =
      (s.brk (s.stepField r.plan r.step 1)).ended .withdrawn :=
    State.brk_modBrk_same (s := s.quieted) _ (State.slot_length hslot)
  rw [← hbrk]
  exact State.brk_congr (hmoves.breakers.trans (hends.breakers.trans (hstep.trans hclose))) _

end

/-- Settles the seventh part of O51. -/
theorem planEndsAtARestart : Clause.PlanEndsAtARestart := by
  intro s r h hstate hparallel runless
  obtain ⟨ks, hks, hexec⟩ := exec_part_due h
  have hpart := State.abandonPlan_quieted hstate hparallel
  have htouch : Touches (workParts ++ [.mgmt]) s (s.quieted.restartPart .sequencer) :=
    (Touches.quieted s).work (State.restartSeq_evolves .refl)
  have honly := (htouch.partEnded (k := .sequencer) (ks := ks)).only_working h.1.1 h.1.risen
  obtain ⟨hseq, hdemand, hdue, hmgmt, hhushed⟩ := State.planRestarted_done (r := r) h.1 ks
  have hidle := State.planRestarted_idle (r := r) h.1
  have hnewest := State.planRestarted_newest (s := s) (r := r)
  have hbrk := State.planRestarted_brk (s := s) (r := r)
  rw [hpart] at hexec honly
  obtain ⟨es, b, hsettle⟩ := State.settle_of_hushed (s := s) hhushed
  generalize s.planRestarted r = u at *
  generalize State.drain Config.workBound (u.partEnded .sequencer ks) = v at *
  refine ⟨_, hexec, ?_, ?_, ?_, fun hlatch hlock hslot hr htoken hlist => ?_, fun c _ hr hl h4 hb hslot ha hp hreq _ => ?_,
    fun ks' hks' => ?_, honly⟩
  · rw [hsettle, State.endedWith_seq]
    exact hseq
  · rw [hsettle]
    exact hdemand
  · rw [hsettle]
    exact hdue
  · obtain ⟨es', b', hend⟩ := hidle hr (fun _ => hlist) ks
    rw [hend]
    exact hnewest hlatch hlock hslot
  · obtain ⟨es', b', hend⟩ := hidle hr hl ks
    rw [hend]
    exact hbrk hr h4 hslot ha hp hreq
  · obtain rfl := Option.some.inj (hks.symm.trans hks')
    rw [hsettle]
    exact hmgmt

/-- Settles O51: a RESTART's tests, each block's part, and the last one's end. -/
theorem restartRunsBlockByBlock : Obligations.RestartRunsBlockByBlock :=
  ⟨restartIsTested, restartEnds, streamsRestart, protectionRestarts, breakersRestart, sequencerRestarts, planEndsAtARestart,
    parallelingRestarts, captureRestarts, restartSendsNoFrame⟩


end Sys2Proof.Machine
end

section
/-! # O39: the start timer and the retry timer -/

namespace Sys2Proof.Machine

section
variable {s u v : State} {g n : Nat}

/-! ### The start timer (R156) -/

/-- A generator that is not loaded enters FAULT with its breaker OPEN. -/
theorem State.genEnter_fault (hg : g < s.par.gens.length) (hne : (s.gen g).state ≠ .fault)
    (ha : (s.gen g).state.attempting = false) (hl : (s.gen g).state.loaded = false) (hd : (s.gen g).deferred = false)
    (hp : s.genPosition g = .opened) : s.genEnter g .fault = s.genEntered g .fault := by
  have hposition : (s.genEntered g .fault).genPosition g = .opened := by
    simpa [State.genPosition, State.genBreaker, State.brk] using hp
  have hmove : s.genMove g .fault = s.genEntered g .fault := by
    rw [State.genMove_eq hne (by rw [ha]; rfl), State.opensFor_open hposition, hl]
    rfl
  rw [State.genEnter_eq, hmove]
  rw [hmove, State.genEntered_gen_same hg]
  exact hd

end

/-- Settles the first part of O39. -/
theorem startTimeoutFaults : Clause.StartTimeoutFaults := by
  intro s g hs hg hconf hstate
  refine ⟨fun ht => ?_, fun ht hdeferred hpos => ?_⟩
  · have hidle : s.startExpiry g = s := by
      rw [State.startExpiry]
      exact if_neg (by simp [Nat.not_le.2 ht])
    exact (congrArg (finish s) hidle).trans (finish_idle hs)
  · have hlen : g < s.par.gens.length := hs.gens_length.symm ▸ hg
    have hfaults : s.startExpiry g = s.genEntered g .fault := by
      rw [State.startExpiry, if_pos (by simp [hstate, ht])]
      exact State.genEnter_fault hlen (by rw [hstate]; decide) (by rw [hstate]; rfl) (by rw [hstate]; rfl) hdeferred hpos
    have htends := (hs.tends g).genEntered (new := .fault)
    have hgen : (s.genEntered g .fault).gen g = (s.gen g).enter .fault := State.genEntered_gen_same hlen
    have hnewest := State.genEntered_newest (s := s) (g := g) (new := .fault)
    have hbreakers : (s.genEntered g .fault).breakers = s.breakers := State.genEntered_breakers
    have hseq : (s.genEntered g .fault).seq = s.seq := State.genEntered_seq
    have hconf' : s.genConfigured g = true := by simpa [State.genConfigured] using hconf
    have hrun : exec (.startTimeout g) s = finish s (s.genEntered g .fault) := congrArg (finish s) hfaults
    generalize s.genEntered g .fault = u at *
    have hset : u.setpointOf g = some (u.gen g).setpoint := State.setpointOf_present
      (by rw [State.genConfigured, State.fld, htends.tables]; exact hconf') (by rw [hgen, GenRec.enter_state]; decide)
    obtain ⟨es, b, hend⟩ := htends.finish_sent hg hset fun h => by
      rw [hset, State.setpointOf_present hconf' (by rw [hstate]; decide), hgen] at h
      have hstart := congrArg Setpoint.start (Option.some.inj h)
      simp only [GenRec.setpoint, GenRec.enter_state, hstate] at hstart
      exact absurd hstart (by decide)
    have hexec := hrun.trans hend
    refine ⟨_, hexec, ?_, fun j hj => ?_, ?_, (hs.only _ hexec).of_unit hbreakers hseq⟩
    · have hsent : Tends s (u.sendGenset g (u.gen g).setpoint) g := htends.still rfl rfl rfl rfl
      rw [State.endedWith_gen, State.gensetBuilt, hsent.gen_same hg]
      show { u.gen g with refreshTimer := 0 } = _
      rw [hgen]
      rfl
    · rw [State.endedWith_gen]
      exact (htends.gensetBuilt _).others j hj
    · rw [Records, State.endedWith_newest]
      refine Eq.trans (b := u.newest) rfl ?_
      rw [hnewest, ← hs.eventLabel, hstate]
      rfl

section
variable {s u v : State} {g n : Nat}

/-! ### The retry timer (R157, R160) -/

/-- The mark that an expiry of its retry timer is due is cleared. -/
def State.retryTaken (s : State) (g : Nat) : State := s.modGen g (fun r => { r with retryDue := false })

theorem exec_retry_due (h : (s.gen g).retryDue = true) : exec (.retryTimerExpiry g) s =
    finish s ((s.retryTaken g).closeAttempt g) := by
  have hexpiry : s.retryExpiry g = (s.retryTaken g).closeAttempt g := if_pos h
  exact congrArg (finish s) hexpiry

theorem State.retryTaken_state (j : Nat) : ((s.retryTaken g).gen j).state = (s.gen j).state :=
  State.modGen_state (f := fun r => { r with retryDue := false }) (fun _ => rfl) j

/-- What a generator must be for its close attempt to go on. -/
theorem State.closeAttempt_goes (hstate : (s.gen g).state = .ready) (ht : (s.gen g).retryTimer = 0)
    (hlock : s.lines.lockout = false) (hlatch : s.lines.tripLatch = false) (hpos : s.genPosition g = .opened) :
    s.closeAttempt g = match s.busState g with
      | .dead => if s.guarded (s.genBreaker g) then (s.genEnter g .claiming).claimToken g else s.deadClose g
      | .live => s.seekChannel g
      | .neither => s := by
  rw [State.closeAttempt]
  exact if_neg (by simp [hstate, ht, hlock, hlatch, hpos])

/-- Where no channel is free a generator joins the tail of the wait list. -/
theorem State.seekChannel_waits (hstate : (s.gen g).state = .ready) (hfree : s.freeChannel = none) (hno : g ∉ s.par.waitList) :
    s.seekChannel g = s.modPar (fun p => { p with waitList := p.waitList ++ [g] }) := by
  have hserve : State.serveWaiting 8 s = s := by
    rw [State.serveWaiting, hfree]
  have hnot : s.par.waitList.contains g = false := by simpa using hno
  rw [State.seekChannel, hserve, hfree, hnot]
  simp [hstate]

end

/-- Settles the second part of O39. -/
theorem retryJoinsTheWaitList : Clause.RetryJoinsTheWaitList := by
  intro s g hs
  refine ⟨fun hno => ?_, fun hdue hstate => ?_, fun hg hdue hstate ht hlock hlatch hpos hlive hchannels hno => ?_⟩
  · have hidle : s.retryExpiry g = s := if_neg (by simp [hno])
    exact (congrArg (finish s) hidle).trans (finish_idle hs)
  · have hidle : (s.retryTaken g).closeAttempt g = s.retryTaken g := by
      rw [State.closeAttempt]
      exact if_pos (by simp [State.retryTaken_state, hstate])
    rw [exec_retry_due hdue, hidle]
    exact finish_modGen hs (.refl s) (fun _ => rfl) (fun _ => rfl)
  · have hlen : g < s.par.gens.length := hs.gens_length.symm ▸ hg
    have hgen : (s.retryTaken g).gen g = { s.gen g with retryDue := false } := State.gen_modGen_same _ _ hlen
    have hbus : (s.retryTaken g).busState g = .live := hlive
    have hfree : (s.retryTaken g).freeChannel = none := List.find?_eq_none.2 fun c hc hyes => by
      have hsome : ((s.retryTaken g).channel c).isSome = true := hchannels c hc
      rw [Option.isSome_iff_ne_none, Option.ne_none_iff_exists'] at hsome
      obtain ⟨x, hx⟩ := hsome
      rw [hx] at hyes
      exact nomatch hyes
    have hattempt : (s.retryTaken g).closeAttempt g = (s.retryTaken g).modPar (fun p => { p with waitList := p.waitList ++ [g] }) := by
      rw [State.closeAttempt_goes (s := s.retryTaken g) (by rw [hgen]; exact hstate) (by rw [hgen]; exact ht) hlock hlatch hpos, hbus]
      exact State.seekChannel_waits (by rw [hgen]; exact hstate) hfree hno
    rw [exec_retry_due hdue, hattempt]
    exact finish_exact s hs.1 hs.risen hs.closing hs.2.2.1
      (State.modGen_setpointOf (s := s) (f := fun r => { r with retryDue := false }) (fun _ => rfl) (fun _ => rfl))
      (State.modGen_point (s := s) (f := fun r => { r with retryDue := false }) (fun _ => rfl)) hs.2.2.2.2.1


end Sys2Proof.Machine
end

section
/-! # The DEAD close of a generator -/

namespace Sys2Proof.Machine

section
variable {s u v w : State} {g b n : Nat}

/-! ### A close that nothing keeps from its issue (R102) -/

/-- The piece of work that is handed on last, where none waits. -/
theorem Drains.handed {x : Work} (hw : u.work = []) (h : Drains n (State.handle u x) v) : Drains (n + 1) (u.post x) v := by
  have hposted : u.post x = { u with work := [x] } := by rw [State.post, hw, List.nil_append]
  have hhandle : State.handle { { u with work := [x] } with work := [] } x = State.handle u x := by rw [← hw]
  rw [hposted]
  exact .last rfl (.of_eq hhandle h)

/-- All the tests of a SYNC close pass, and those of a DEAD close where the breaker is unguarded or its requester holds the
token. -/
theorem State.closeReason_passes {k : CloseKind} {q : Requester} (h : Clause.mayClose s b) (hk : k ≠ .plain)
    (ht : k = .dead → s.fld .breaker b 5 = 1 → s.holdsToken q = true) : s.closeReason b k q = none := by
  obtain ⟨-, -, hiso, hlock, htrips, hlatch, hlockout, hpos, hresp, hhealth⟩ := h
  have htoken : (k == .dead && s.guarded b && !s.holdsToken q) = false := by
    by_contra hno
    simp only [Bool.not_eq_false, Bool.and_eq_true, beq_iff_eq, State.guarded, Bool.not_eq_true'] at hno
    rw [ht hno.1.1 hno.1.2] at hno
    cases hno.2
  have hplain : (k == .plain) = false := beq_false_of_ne hk
  have hinterlock : s.interlockTrue b = true := by
    rw [State.interlockTrue, hlock]
    rfl
  have hnormal : s.isolated b = false := by simpa [State.isolated] using hiso
  rw [State.closeReason, State.closeTests, State.healthTests, htoken, hplain, hinterlock, hnormal, htrips, hlatch, hlockout, hpos,
    hresp, hhealth]
  rfl

/-- What the tests read. -/
theorem mayClose_of_same (h : Clause.mayClose s b) (hm : v.mgmt.tables = s.mgmt.tables) (hl : v.lines = s.lines)
    (hb : ∃ c, v.brk b = { s.brk b with slot := c }) : Clause.mayClose v b := by
  obtain ⟨c, hc⟩ := hb
  have hfld : v.fld = s.fld := by funext x e id; rw [State.fld, State.fld, hm]
  rw [Clause.mayClose, hfld, hl, hc]
  exact h

/-- A generator's DEAD or SYNC close takes the slot (R102). -/
theorem State.genClose_taken {k : CloseKind} (h : Clause.mayClose s (s.genBreaker g)) (hk : k ≠ .plain)
    (hslot : (s.brk (s.genBreaker g)).slot = none)
    (ht : k = .dead → s.fld .breaker (s.genBreaker g) 5 = 1 → s.par.token = some (.generator g)) :
    s.genClose g k = (s.slotted (s.genBreaker g) (Clause.closeOf g k), .taken (s.brk (s.genBreaker g)).tagCounter) := by
  have hreason : s.closeReason (s.genBreaker g) k (.party (.generator g)) = none :=
    State.closeReason_passes h hk fun hd hb => by
      rw [State.holdsToken, ht hd hb]
      exact beq_self_eq_true _
  obtain ⟨-, hconf, -, -, -, -, -, hpos, -⟩ := h
  have htake : s.takeClose (s.genBreaker g) k (.party (.generator g)) { paralleling := true } (some g) =
      s.slotted (s.genBreaker g) (Clause.closeOf g k) := by
    rw [State.takeClose]
    exact if_neg (by simpa using hk)
  rw [State.genClose, State.closeRequest, if_neg (by simp [State.brkConfigured, hconf]), if_neg (by simp [hslot]),
    if_neg (by simp [hpos]), hreason, htake]

/-- The dead check passes on a dead bus (R157, R159). -/
theorem State.busState_dead (h : Clause.busDead s g) : s.busState g = .dead := by
  have h0 := h 0 (by decide)
  have h1 := h 1 (by decide)
  have h2 := h 2 (by decide)
  rw [State.busState]
  simp [h0.1, h1.1, h2.1, h0.2, h1.2, h2.2]

theorem busDead_of_same (h : Clause.busDead s g) (hm : v.mgmt.tables = s.mgmt.tables) (hq : v.measures = s.measures) :
    Clause.busDead v g := by
  have hfld : v.fld = s.fld := by funext x e id; rw [State.fld, State.fld, hm]
  have hphasor : v.phasor = s.phasor := by
    funext k q
    rw [State.phasor, State.phasor, State.measure, State.measure, hq]
  rw [Clause.busDead, hfld, hphasor]
  exact h

/-- A generator's queued DEAD close. -/
theorem State.deadQueued_of (hslot : (s.brk (s.genBreaker g)).slot = some (Clause.closeOf g .dead)) : s.deadQueued g = true := by
  rw [State.deadQueued, State.closeQueued, hslot]
  simp [Clause.closeOf]

/-- A queued DEAD close of a generator whose bus is dead is released and issued (R103, R105, R159). -/
theorem Drains.deadCheck (hw : w.work = []) (hstate : (w.gen g).state = .closing) (hmay : Clause.mayClose w (w.genBreaker g))
    (hslot : (w.brk (w.genBreaker g)).slot = some (Clause.closeOf g .dead)) (hdead : Clause.busDead w g)
    (ht : w.fld .breaker (w.genBreaker g) 5 = 1 → w.par.token = some (.generator g)) :
    Drains 2 (w.post (.genDeadCheck g)) (w.commandIssued (w.genBreaker g) (Clause.closeOf g .dead)) := by
  have hcheck : State.handle w (.genDeadCheck g) = w.post (.release (w.genBreaker g)) := by
    show w.deadCheck g = _
    rw [State.deadCheck, if_neg (by simp [hstate, State.deadQueued_of hslot]), State.busState_dead hdead]
  have hreason : w.closeReason (w.genBreaker g) .dead (.party (.generator g)) = none :=
    State.closeReason_passes hmay (by decide) fun _ hb => by
      rw [State.holdsToken, ht hb]
      exact beq_self_eq_true _
  have hnormal : w.isolated (w.genBreaker g) = false := by simpa [State.isolated] using hmay.2.2.1
  have hrelease : State.handle w (.release (w.genBreaker g)) = w.commandIssued (w.genBreaker g) (Clause.closeOf g .dead) :=
    State.releaseClose_issued hslot rfl rfl hreason hnormal
  refine Drains.handed hw ?_
  rw [hcheck]
  exact Drains.handed hw (.of_eq hrelease (.done hw))

end

section
variable {s u v w : State} {g n : Nat}

/-! ### The DEAD close of an attempt (R157, R159) -/

theorem State.genEntered_lines {new : GenState} : (s.genEntered g new).lines = s.lines := by
  rw [State.genEntered, State.event_lines]
  rfl

theorem State.genEntered_measures {new : GenState} : (s.genEntered g new).measures = s.measures := by
  rw [State.genEntered, State.event_measures]
  rfl

theorem State.genEntered_tokens {new : GenState} : (s.genEntered g new).par.token = s.par.token ∧
    (s.genEntered g new).par.tokenList = s.par.tokenList := by
  rw [State.genEntered, State.event_par]
  exact ⟨rfl, rfl⟩

/-- The state in which a generator's DEAD close waits for its dead check. -/
def State.deadTaken (u : State) (g : Nat) : State :=
  ((u.slotted (u.genBreaker g) (Clause.closeOf g .dead)).modGen g (fun r => { r with deadTimer := 0 })).genEntered g .closing

/-- A state within a close attempt of generator `g`, before its close is requested. -/
structure Attempt (s u : State) (g : Nat) : Prop where
  tends : Tends s u g
  breakers : u.breakers = s.breakers
  lines : u.lines = s.lines
  measures : u.measures = s.measures
  seq : u.seq = s.seq
  sending : Sending s u

theorem genPriority_other (old : GenState) {new : GenState} (h : new ≠ .fault) (h' : new ≠ .absent) : genPriority old new = 6 := by
  cases new with
  | fault => exact absurd rfl h
  | absent => exact absurd rfl h'
  | _ => rfl

/-- The record of a generator's change of state, but for its number and its label. -/
theorem State.genEntered_record {new : GenState} {p : Nat} (hp : genPriority (s.gen g).state new = p) :
    (s.genEntered g new).newest.map (fun r => (r.cls, r.priority, r.object, r.code, r.value)) =
      some (.generator, p, g, 1, some new.code) := by
  rw [State.genEntered_newest, Option.map_some, hp]

theorem State.slotted_tends {c : Command} {b : Nat} (h : Tends s u g) : Tends s (u.slotted b c) g := h.still rfl rfl rfl rfl

/-- What the DEAD close of an attempt on a dead bus leads to: it is issued, and its generator CLOSING. -/
structure Closes (s u w : State) (g : Nat) : Prop where
  tends : Tends s w g
  gen : w.gen g = { u.gen g with state := .closing, deadTimer := 0 }
  own : w.brk (s.fld .generator g 3) = Clause.issued (s.brk (s.fld .generator g 3)) (Clause.closeOf g .dead)
  others : ∀ a, a ≠ s.fld .generator g 3 → w.brk a = s.brk a
  token : w.par.token = u.par.token
  tokenList : w.par.tokenList = u.par.tokenList
  frame : ∀ l, (s.port l).up = true → ∃ f ∈ (w.port l).normal, f.body =
    .command (s.fld .generator g 3) (s.fld .breaker (s.fld .generator g 3) 3) .closing
      (s.brk (s.fld .generator g 3)).tagCounter { paralleling := true }
  newest : w.newest.map (fun r => (r.cls, r.priority, r.object, r.code, r.value)) = some (.generator, 6, g, 1, some 7)
  seq : w.seq = s.seq

theorem Attempt.deadClose (h : Attempt s u g) (hg : g < 8) (hrecs : s.breakers.recs.length = 24)
    (hstate : (u.gen g).state = .ready ∨ (u.gen g).state = .claiming) (hd : (u.gen g).deferred = false)
    (hmay : Clause.mayClose s (s.fld .generator g 3)) (hslot : (s.brk (s.fld .generator g 3)).slot = none)
    (hdead : Clause.busDead s g)
    (ht : s.fld .breaker (s.fld .generator g 3) 5 = 1 → u.par.token = some (.generator g)) :
    ∃ w, Drains 2 (u.deadClose g) w ∧ Closes s u w g := by
  have hlen : g < u.par.gens.length := h.tends.count.symm ▸ hg
  have hb := hmay.1
  have hfld : ∀ x e id, u.fld x e id = s.fld x e id := fun x e id => by rw [State.fld, State.fld, h.tends.tables]
  have hbreaker : u.genBreaker g = s.fld .generator g 3 := hfld ..
  have hbrk : ∀ a, u.brk a = s.brk a := State.brk_congr h.breakers
  have hmay' : Clause.mayClose u (u.genBreaker g) := by
    rw [hbreaker]
    exact mayClose_of_same hmay h.tends.tables h.lines ⟨(s.brk (s.fld .generator g 3)).slot, by rw [hbrk]⟩
  have hslot' : (u.brk (u.genBreaker g)).slot = none := by rw [hbreaker, hbrk]; exact hslot
  have htoken : u.fld .breaker (u.genBreaker g) 5 = 1 → u.par.token = some (.generator g) := by
    rw [hbreaker, hfld]
    exact ht
  obtain ⟨hne, ha, hl⟩ : (u.gen g).state ≠ .closing ∧ ((u.gen g).state.attempting && !GenState.closing.attempting) = false ∧
      (u.gen g).state.loaded = false := by
    obtain he | he := hstate <;> rw [he] <;> decide
  have htaken : u.deadClose g = (u.deadTaken g).post (.genDeadCheck g) := by
    have hgen : ((u.slotted (u.genBreaker g) (Clause.closeOf g .dead)).modGen g (fun r => { r with deadTimer := 0 })).gen g =
        { u.gen g with deadTimer := 0 } := State.gen_modGen_same (s := u.slotted _ _) _ hlen
    rw [State.deadClose, State.genClose_taken hmay' (by decide) hslot' fun _ => htoken]
    dsimp only
    rw [State.genEnter_plain ((List.length_modify ..).symm ▸ hlen) (by rw [hgen]; exact hne) (by rw [hgen]; exact ha)
      (by rw [hgen, hl]; rfl) (by rw [hgen]; exact hd) (by decide) (by decide), State.deadTaken]
  have htends : Tends s (u.deadTaken g) g := ((State.slotted_tends h.tends).modGen _).genEntered
  have hgen : (u.deadTaken g).gen g = { u.gen g with state := .closing, deadTimer := 0 } := by
    rw [State.deadTaken, State.genEntered_gen_same ((List.length_modify ..).symm ▸ hlen),
      State.gen_modGen_same (s := u.slotted _ _) _ hlen]
    rfl
  have hbreakers : (u.deadTaken g).breakers = (u.slotted (u.genBreaker g) (Clause.closeOf g .dead)).breakers :=
    State.genEntered_breakers
  have hlines : (u.deadTaken g).lines = s.lines := State.genEntered_lines.trans h.lines
  have hmeasures : (u.deadTaken g).measures = s.measures := State.genEntered_measures.trans h.measures
  have hseq : (u.deadTaken g).seq = s.seq := State.genEntered_seq.trans h.seq
  have hpar : (u.deadTaken g).par.token = u.par.token ∧ (u.deadTaken g).par.tokenList = u.par.tokenList :=
    State.genEntered_tokens
  have hsending : Sending s (u.deadTaken g) :=
    ((h.sending.same (v := u.slotted (u.genBreaker g) (Clause.closeOf g .dead)) rfl rfl).modGen _).genEntered
  have hnewest : (u.deadTaken g).newest.map (fun r => (r.cls, r.priority, r.object, r.code, r.value)) =
      some (.generator, 6, g, 1, some 7) := by
    rw [State.deadTaken]
    exact State.genEntered_record (genPriority_other _ (by decide) (by decide))
  rw [htaken]
  generalize u.deadTaken g = w at *
  have hwbreaker : w.genBreaker g = s.fld .generator g 3 := by
    show w.fld .generator g 3 = _
    rw [State.fld, State.fld, htends.tables]
  have hrecsu : s.fld .generator g 3 < u.breakers.recs.length := by rw [h.breakers, hrecs]; exact hb
  have hwbrk : ∀ a, w.brk a = (u.slotted (s.fld .generator g 3) (Clause.closeOf g .dead)).brk a := fun a => by
    rw [State.brk_congr hbreakers a, hbreaker]
  have hown : w.brk (s.fld .generator g 3) = { s.brk (s.fld .generator g 3) with slot := some (Clause.closeOf g .dead) } := by
    rw [hwbrk, State.slotted_brk_same hrecsu, hbrk]
  have hother : ∀ a, a ≠ s.fld .generator g 3 → w.brk a = s.brk a := fun a ha' => by
    rw [hwbrk, State.slotted_brk_other ha', hbrk]
  have hwslot : (w.brk (w.genBreaker g)).slot = some (Clause.closeOf g .dead) := by rw [hwbreaker, hown]
  have hwmay : Clause.mayClose w (w.genBreaker g) := by
    rw [hwbreaker]
    exact mayClose_of_same hmay htends.tables hlines ⟨_, hown⟩
  have hwfld : ∀ x e id, w.fld x e id = s.fld x e id := fun x e id => by rw [State.fld, State.fld, htends.tables]
  have hdrains := Drains.deadCheck htends.work (by rw [hgen]) hwmay hwslot (busDead_of_same hdead htends.tables hmeasures)
    (fun hb5 => hpar.1.trans (ht (by rw [hwfld, hwbreaker] at hb5; exact hb5)))
  rw [hwbreaker] at hdrains
  have hlenw : s.fld .generator g 3 < w.breakers.recs.length := by
    rw [hbreakers, State.slotted_recs_length]
    exact hrecsu
  refine ⟨_, hdrains, ?_⟩
  exact {
    tends := htends.still rfl rfl rfl rfl
    gen := hgen
    own := by
      rw [State.commandIssued_brk_same hlenw (by rw [hown]), hown]
      rfl
    others := fun a ha' => by rw [State.commandIssued_brk_other ha', hother a ha']
    token := hpar.1
    tokenList := hpar.2
    frame := fun l hl => by
      obtain ⟨f, hf, hbody⟩ := State.commandIssued_normal (s := w) (b := s.fld .generator g 3) (c := Clause.closeOf g .dead) rfl
        ((hsending.up l).trans hl)
      refine ⟨f, hf, hbody.trans ?_⟩
      rw [hwfld, hown]
      rfl
    newest := hnewest
    seq := hseq }

end


end Sys2Proof.Machine
end

section
/-! # O39: the attempt on a dead bus -/

namespace Sys2Proof.Machine

section
variable {s u v w : State} {g n : Nat}

/-! ### An attempt on a dead bus (R157, R158) -/

theorem State.retryTaken_gen (hg : g < s.par.gens.length) : (s.retryTaken g).gen g = { s.gen g with retryDue := false } :=
  State.gen_modGen_same _ _ hg

theorem Attempt.retryTaken (hs : s.Quiet) (g : Nat) : Attempt s (s.retryTaken g) g where
  tends := (hs.tends g).modGen _
  breakers := rfl
  lines := rfl
  measures := rfl
  seq := rfl
  sending := ⟨rfl, rfl, rfl, rfl, fun _ => rfl, fun _ => rfl⟩

theorem Attempt.genEntered {new : GenState} (h : Attempt s u g) : Attempt s (u.genEntered g new) g where
  tends := h.tends.genEntered
  breakers := State.genEntered_breakers.trans h.breakers
  lines := State.genEntered_lines.trans h.lines
  measures := State.genEntered_measures.trans h.measures
  seq := State.genEntered_seq.trans h.seq
  sending := h.sending.genEntered

/-- A change of the token and of its list. -/
theorem Attempt.still (h : Attempt s u g) (hpar : v.par.gens = u.par.gens) (hv : v = { u with par := v.par, risen := v.risen }) :
    Attempt s v g := by
  have hfields : v.work = u.work ∧ v.hushed = u.hushed ∧ v.mgmt = u.mgmt ∧ v.links = u.links ∧ v.breakers = u.breakers ∧
      v.lines = u.lines ∧ v.measures = u.measures ∧ v.seq = u.seq := by
    rw [hv]
    exact ⟨rfl, rfl, rfl, rfl, rfl, rfl, rfl, rfl⟩
  obtain ⟨hwork, hhushed, hmgmt, hlinks, hbreakers, hlines, hmeasures, hseq⟩ := hfields
  exact ⟨h.tends.still hwork hhushed (by rw [hmgmt]) hpar, hbreakers.trans h.breakers, hlines.trans h.lines,
    hmeasures.trans h.measures, hseq.trans h.seq, h.sending.same hlinks (by rw [hmgmt])⟩

theorem Attempt.event (h : Attempt s u g) (c : EventClass) (priority object code : Nat) (value : Option Nat) :
    Attempt s (u.event c priority object code value) g where
  tends := h.tends.event ..
  breakers := (State.event_breakers ..).trans h.breakers
  lines := (State.event_lines ..).trans h.lines
  measures := (State.event_measures ..).trans h.measures
  seq := (State.event_seq ..).trans h.seq
  sending := h.sending.event ..

/-- The generator waits for the token. -/
def State.claims (s : State) (g : Nat) : State :=
  (s.genEntered g .claiming).modPar (fun p => { p with tokenList := p.tokenList ++ [.generator g] })

theorem Attempt.claims (h : Attempt s u g) : Attempt s (u.claims g) g := by
  have hentered : Attempt s (u.genEntered g .claiming) g := h.genEntered
  rw [State.claims]
  generalize u.genEntered g .claiming = v at hentered
  exact hentered.still rfl rfl

theorem State.claims_gen (hg : g < s.par.gens.length) : (s.claims g).gen g = { s.gen g with state := .claiming } :=
  (State.genEntered_gen_same hg : (s.genEntered g .claiming).gen g = (s.gen g).enter .claiming)

theorem State.claims_tokens : (s.claims g).par.token = s.par.token ∧
    (s.claims g).par.tokenList = s.par.tokenList ++ [.generator g] := by
  obtain ⟨htoken, hlist⟩ := State.genEntered_tokens (s := s) (g := g) (new := .claiming)
  exact ⟨htoken, congrArg (· ++ [Party.generator g]) hlist⟩

theorem State.claims_newest : (s.claims g).newest = (s.genEntered g .claiming).newest := by
  rw [State.claims]
  generalize s.genEntered g .claiming = v
  rfl

/-- A READY generator of a guarded breaker asks for the token (R158). -/
theorem State.claimToken_claims (hg : g < s.par.gens.length) (hstate : (s.gen g).state = .ready) (hd : (s.gen g).deferred = false)
    (ht : s.par.token ≠ some (.generator g)) (hl : .generator g ∉ s.par.tokenList) :
    (s.genEnter g .claiming).claimToken g = (s.claims g).post .tokenGrant := by
  obtain ⟨htoken, hlist⟩ := State.genEntered_tokens (s := s) (g := g) (new := .claiming)
  rw [State.genEnter_plain hg (by rw [hstate]; decide) (by rw [hstate]; rfl) (by rw [hstate]; rfl) hd (by decide) (by decide),
    State.claimToken, State.genEntered_gen_same hg]
  refine (if_pos rfl).trans ?_
  rw [State.requestToken, htoken, hlist]
  exact if_neg (by simpa [hl] using ht)

/-- The state in which the free token is granted to the one generator that waits. -/
def State.granted (s : State) (g : Nat) : State :=
  (s.noting ((s.dropRequest (.generator g)).modPar (fun u => { u with token := some (.generator g) }))).event .generator 5
    (Party.generator g).number 6 none

theorem State.grantToken_granted (ht : s.par.token = none) (hl : s.par.tokenList = [.generator g]) :
    s.grantToken = (s.granted g).post (.genTokenGranted g) := by
  have hgrantee : s.grantee = some (.generator g) := by
    rw [State.grantee, hl]
    cases hfind : s.genOrder.find? (fun j => [Party.generator g].contains (.generator j)) with
    | none => rfl
    | some j =>
      have hj : j = g := by simpa using List.find?_some (p := fun j => [Party.generator g].contains (.generator j)) hfind
      rw [hj]
      rfl
  rw [State.grantToken, ht, hgrantee]
  rfl

theorem Attempt.granted (h : Attempt s u g) : Attempt s (u.granted g) g :=
  (h.still (v := u.noting ((u.dropRequest (.generator g)).modPar (fun u => { u with token := some (.generator g) }))) rfl
    rfl).event _ _ _ _ _

theorem State.granted_gen (j : Nat) : (s.granted g).gen j = s.gen j := by
  rw [State.granted, State.event_gen]
  rfl

theorem State.granted_tokens : (s.granted g).par.token = some (.generator g) ∧
    (s.granted g).par.tokenList = s.par.tokenList.filter (· != .generator g) := by
  rw [State.granted, State.event_par]
  exact ⟨rfl, rfl⟩

/-- The end of an attempt that has left the setpoint as it was. -/
theorem Tends.ends_attempt (h : Tends s w g) (hconf : s.genConfigured g = true) (hstate : (s.gen g).state = .ready)
    {x : GenState} (hx : x = .closing ∨ x = .claiming) {y : GenRec} (hy : w.gen g = { y with state := x })
    (hset : { y with state := .ready }.setpoint = (s.gen g).setpoint) : ∃ es b, Sys2Proof.Machine.finish s w = .next (w.endedWith es b) := by
  refine h.finish_still (.inl ?_)
  have hwconf : w.genConfigured g = true := by
    rw [State.genConfigured, State.fld, h.tables]
    exact hconf
  have hpresent : (w.gen g).state ≠ .absent := by
    rw [hy]
    obtain rfl | rfl := hx <;> exact nofun
  rw [State.setpointOf_present hwconf hpresent, State.setpointOf_present hconf (by rw [hstate]; decide), ← hset, hy]
  obtain rfl | rfl := hx <;> rfl

end

/-- Settles the third part of O39. -/
theorem attemptOnADeadBus : Clause.AttemptOnADeadBus := by
  intro s g hs hg hconf hstate hdue ht hdeferred b hmay hslot hdead closes
  have hlen : g < s.par.gens.length := hs.gens_length.symm ▸ hg
  have hconf' : s.genConfigured g = true := by simpa [State.genConfigured] using hconf
  have hgen := State.retryTaken_gen hlen
  have hattempt := Attempt.retryTaken hs g
  obtain ⟨-, -, -, -, -, hlatch, hlock, hpos, -⟩ := id hmay
  have hgoes : (s.retryTaken g).closeAttempt g = if s.guarded b then ((s.retryTaken g).genEnter g .claiming).claimToken g
      else (s.retryTaken g).deadClose g := by
    rw [State.closeAttempt_goes (s := s.retryTaken g) (by rw [hgen]; exact hstate) (by rw [hgen]; exact ht) hlock hlatch hpos,
      State.busState_dead (s := s.retryTaken g) hdead]
    rfl
  have hexec := (exec_retry_due hdue).trans (congrArg (finish s) hgoes)
  have htokens : (s.retryTaken g).par.token = s.par.token ∧ (s.retryTaken g).par.tokenList = s.par.tokenList := ⟨rfl, rfl⟩
  have hevents : (s.retryTaken g).events.nextSeq = s.events.nextSeq := rfl
  have hlabel : (s.retryTaken g).eventLabel = s.eventLabel := rfl
  have hlenu : g < (s.retryTaken g).par.gens.length := (List.length_modify ..).symm ▸ hlen
  generalize s.retryTaken g = u at *
  have hstate' : (u.gen g).state = .ready := by rw [hgen]; exact hstate
  have hdeferred' : (u.gen g).deferred = false := by rw [hgen]; exact hdeferred
  have hends : ∀ (x w : State) (n : Nat), Closes s x w g → x.gen g = { u.gen g with state := (x.gen g).state } →
      n ≤ Config.workBound → ∀ y, Drains n y w → exec (.retryTimerExpiry g) s = finish s y →
      x.par.tokenList = s.par.tokenList → closes x.par.token := fun x w n hcloses hx hn y hdrains hy hlist => by
    have hw : w.gen g = { s.gen g with state := .closing, retryDue := false, deadTimer := 0 } := by
      rw [hcloses.gen, hx, hgen]
    obtain ⟨es, c, hend⟩ := hcloses.tends.ends_attempt (y := { s.gen g with retryDue := false, deadTimer := 0 }) hconf' hstate
      (.inl rfl) hw (by simp [GenRec.setpoint, hstate])
    have hexec' := hy.trans ((congrArg Host.Outcome.next (hdrains.settle hn)).trans hend)
    exact ⟨_, hexec', hw, hcloses.tends.others, hcloses.own, hcloses.others, hcloses.token, hcloses.tokenList.trans hlist,
      hcloses.frame, hcloses.newest, (hs.only _ hexec').of_seq hcloses.seq⟩
  refine ⟨fun hunguarded => ?_, fun hguarded hfree hempty => ?_, fun p hguarded hheld hother hno => ?_⟩
  · have hplain : s.guarded b = false := by simpa [State.guarded] using hunguarded
    rw [hplain] at hexec
    obtain ⟨w, hdrains, hcloses⟩ := hattempt.deadClose hg hs.recs_length (.inl hstate') hdeferred' hmay hslot hdead
      fun hb => absurd hb hunguarded
    rw [← htokens.1]
    exact hends u w 2 hcloses (by cases u.gen g; rfl) (by decide) _ hdrains hexec htokens.2
  all_goals
    have hguard : s.guarded b = true := by simpa [State.guarded] using hguarded
    rw [hguard] at hexec
    have hclaims := hattempt.claims
    have hcgen := State.claims_gen hlenu
    obtain ⟨hctoken, hclist⟩ := State.claims_tokens (s := u) (g := g)
    have hcnewest := State.claims_newest (s := u) (g := g)
    rw [htokens.1] at hctoken
    rw [htokens.2] at hclist
  · have hclaimed := State.claimToken_claims hlenu hstate' hdeferred' (by rw [htokens.1, hfree]; exact nofun)
      (by rw [htokens.2, hempty]; exact List.not_mem_nil)
    rw [hfree] at hctoken
    rw [hempty] at hclist
    have hgrants := State.grantToken_granted (g := g) hctoken hclist
    have hgranted := hclaims.granted
    have hggen := State.granted_gen (s := u.claims g) (g := g) g
    obtain ⟨hgtoken, hglist⟩ := State.granted_tokens (s := u.claims g) (g := g)
    rw [hclist] at hglist
    rw [hcgen] at hggen
    generalize (u.claims g).granted g = x at *
    obtain ⟨w, hdrains, hcloses⟩ := hgranted.deadClose hg hs.recs_length (.inr (by rw [hggen]))
      (by rw [hggen]; exact hdeferred') hmay hslot hdead fun _ => hgtoken
    have hhandle : State.handle x (.genTokenGranted g) = x.deadClose g := if_pos (by rw [hggen]; rfl)
    have hall : Drains 4 ((u.claims g).post .tokenGrant) w :=
      Drains.handed hclaims.tends.work (.of_eq hgrants (Drains.handed hgranted.tends.work (.of_eq hhandle hdrains)))
    rw [← hgtoken]
    exact hends x w 4 hcloses (by rw [hggen]) (by decide) _ hall (hexec.trans (congrArg (finish s) hclaimed))
      (hglist.trans (by rw [hempty]; simp))
  · have hclaimed := State.claimToken_claims hlenu hstate' hdeferred'
      (by rw [htokens.1, hheld]; exact fun he => hother (Option.some.inj he)) (by rw [htokens.2]; exact hno)
    rw [hheld] at hctoken
    have hgrant : State.handle (u.claims g) .tokenGrant = u.claims g := by
      show (u.claims g).grantToken = _
      rw [State.grantToken, hctoken]
    have hdrains : Drains 1 ((u.claims g).post .tokenGrant) (u.claims g) :=
      Drains.handed hclaims.tends.work (.of_eq hgrant (.done hclaims.tends.work))
    have hrecord := State.genEntered_newest (s := u) (g := g) (new := .claiming)
    have hbreakers := hclaims.breakers
    have hseq := hclaims.seq
    have hw : (u.claims g).gen g = { s.gen g with state := .claiming, retryDue := false } := by
      rw [hcgen, hgen]
    obtain ⟨es, c, hend⟩ := hclaims.tends.ends_attempt (y := { s.gen g with retryDue := false }) hconf' hstate
      (.inr rfl) hw (by simp [GenRec.setpoint, hstate])
    have hexec' := (hexec.trans (congrArg (finish s) hclaimed)).trans
      ((congrArg Host.Outcome.next (hdrains.settle (by decide))).trans hend)
    have hnewest : (u.claims g).newest = some ⟨s.events.nextSeq, s.eventLabel, .generator, 6, g, 1, some 5, false⟩ := by
      rw [hcnewest, hrecord, genPriority_other (u.gen g).state (new := .claiming) (by decide) (by decide), hevents, hlabel]
      rfl
    have hothers := hclaims.tends.others
    generalize u.claims g = w at *
    refine ⟨_, hexec', hw, hothers, hctoken, hclist, ?_, (hs.only _ hexec').of_unit hbreakers hseq⟩
    rw [Records, State.endedWith_newest, hnewest, ← hs.eventLabel]


end Sys2Proof.Machine
end

section
/-! # What the activation of a waiting content and the elements' work move -/

namespace Sys2Proof.Machine

section
variable {s₀ s u : State}

/-! ### What protection's part of a closure is made of (R58, R77) -/

/-- `s` comes from `s₀` by updates of the kinds that an activation of ELEMENT or CURVE and the work of the elements are made
of. -/
inductive Protects (s₀ : State) : State → Prop
  | refl : Protects s₀ s₀
  | event {s : State} (c : EventClass) (priority object code : Nat) (value : Option Nat) (h : Protects s₀ s) :
    Protects s₀ (s.event c priority object code value)
  | modElement {s : State} (e : Nat) (f : ElementRec → ElementRec) (h : Protects s₀ s) : Protects s₀ (s.modElement e f)
  | ask {s : State} (q : DemandRequest) (h : Protects s₀ s) :
    Protects s₀ { s with breakers := { s.breakers with requests := s.breakers.requests ++ [q] } }
  | setTable {s : State} (x : TableId) (c : Table) (hx : x = .element ∨ x = .curve) (h : Protects s₀ s) :
    Protects s₀ (s.setTable x c)
  | setStaging {s : State} (x : TableId) (c : Staging) (h : Protects s₀ s) : Protects s₀ (s.setStaging x c)
  | answer {s : State} (k : Ticket) (r : Reply) (h : Protects s₀ s) : Protects s₀ (s.answer k (some r))

namespace Protects

theorem ite {c : Prop} [Decidable c] {a b : State} (ha : Protects s₀ a) (hb : Protects s₀ b) :
    Protects s₀ (if c then a else b) := by
  split <;> assumption

theorem forEach (ns : List Nat) (f : Nat → State → State) (h : Protects s₀ s)
    (hf : ∀ n t, Protects s₀ t → Protects s₀ (f n t)) : Protects s₀ (s.forEach ns f) := by
  unfold State.forEach
  induction ns generalizing s with
  | nil => exact h
  | cons n ns ih => exact ih (hf n s h)

theorem asks (bs : List Nat) (q : Nat → DemandRequest) (h : Protects s₀ s) : Protects s₀ (s.forEach bs fun b t =>
    { t with breakers := { t.breakers with requests := t.breakers.requests ++ [q b] } }) :=
  h.forEach _ _ fun b _ ht => ht.ask (q b)

theorem elementOutputs (e : Nat) (trips : List Nat) (old new : ElementState) (x : Int) (h : Protects s₀ s) :
    Protects s₀ (s.elementOutputs e trips old new x) := by
  have hin := ite (c := (new == .operated && old != .operated) = true)
    ((h.asks trips fun b => ⟨true, b, .element e⟩).event .protection 13 e 1 (some (unsignedOf 32 x))) h
  have hout := ite (c := (old == .operated && new != .operated) = true)
    ((hin.asks trips fun b => ⟨false, b, .element e⟩).event .protection 7 e 2 (if new == .armed then none else some 1)) hin
  exact ite (hout.event _ _ _ _ _) (ite (hout.event _ _ _ _ _) hout)

theorem elementWork (image : List Bool) (e : Nat) (h : Protects s₀ s) : Protects s₀ (State.elementWork image e s) :=
  (h.modElement e _).elementOutputs _ _ _ _ _

theorem protectionWork (image : List Bool) (h : Protects s₀ s) : Protects s₀ (s.protectionWork image) :=
  h.forEach _ _ fun e _ ht => ht.elementWork image e

theorem activateElement (old : Table) (e : Nat) (h : Protects s₀ s) : Protects s₀ (s.activateElement old e) := by
  refine ite h (ite ((h.modElement _ _).elementOutputs _ _ _ _ _) (ite ?_ h))
  exact (h.asks _ fun b => ⟨false, b, .element e⟩).asks _ fun b => ⟨true, b, .element e⟩

theorem activateWaiting {x : TableId} (hx : x = .element ∨ x = .curve) (h : Protects s₀ s) : Protects s₀ (s.activateWaiting x) := by
  unfold State.activateWaiting
  split
  · exact h
  · next w _ =>
    have hactive : Protects s₀ (if x == .element then s.activateElements w.content else s.setTable x w.content) :=
      ite ((h.setTable .element _ (.inl rfl)).forEach _ _ fun e _ ht => ht.activateElement _ e) (h.setTable x _ hx)
    exact ((hactive.setStaging x {}).event .management 6 x.number 6 (some w.crc)).answer w.ticket (Reply.of .done)

/-- What such work leaves alone. -/
theorem rest (h : Protects s₀ s) : s.par = s₀.par ∧ s.seq = s₀.seq ∧ s.lines = s₀.lines ∧ s.capture = s₀.capture ∧
    s.aligner = s₀.aligner ∧ s.intake = s₀.intake ∧ s.measures = s₀.measures ∧ s.work = s₀.work ∧ s.hushed = s₀.hushed ∧
    s.breakers.recs = s₀.breakers.recs ∧ s.closing = s₀.closing ∧ s.risen = s₀.risen := by
  induction h with
  | refl => exact ⟨rfl, rfl, rfl, rfl, rfl, rfl, rfl, rfl, rfl, rfl, rfl, rfl⟩
  | @event s c p o k v _ ih =>
    obtain ⟨x, seqs, -, e⟩ := State.event_eq s c p o k v
    rw [e]
    exact ih
  | answer k r _ ih =>
    rw [State.answer, State.respond_eq]
    exact ih
  | modElement _ _ _ ih | ask _ _ ih | setTable _ _ _ _ ih | setStaging _ _ _ ih => exact ih

/-- The tables other than ELEMENT and CURVE stand. -/
theorem fld (h : Protects s₀ s) {x : TableId} (hx : x ≠ .element ∧ x ≠ .curve) (e id : Nat) : s.fld x e id = s₀.fld x e id := by
  induction h with
  | refl => rfl
  | event c p o k v _ ih => rw [State.event_fld]; exact ih
  | answer k r _ ih => rw [State.answer_fld]; exact ih
  | @setTable s y c hy _ ih =>
    have hne : y.number ≠ x.number := fun he => by
      obtain rfl | rfl := hy <;> cases x <;> first | exact absurd he (by decide) | exact absurd rfl hx.1 | exact absurd rfl hx.2
    have hlook : (s.mgmt.tables.set y.number c).getD x.number [] = s.mgmt.tables.getD x.number [] := by
      rw [List.getD_eq_getElem?_getD, List.getElem?_set_ne hne, List.getD_eq_getElem?_getD]
    rw [← ih]
    show tableField (s.mgmt.tables.set y.number c) x e id = tableField s.mgmt.tables x e id
    rw [tableField, tableField, hlook]
  | modElement _ _ _ ih | ask _ _ ih | setStaging _ _ _ ih => exact ih

end Protects

end


end Sys2Proof.Machine
end

section
/-! # Generators that leave a run or an attempt -/

namespace Sys2Proof.Machine

section
variable {s t u v x : State} {g n : Nat} {new : GenState}

/-! ### A generator that leaves its attempt (R155, R156, R163) -/

theorem RunsOn.lt {c : Nat} (h : RunsOn g c s.par) : c < s.par.channels.length := by
  obtain ⟨x, hx, -⟩ := h
  by_contra hc
  rw [List.getD_eq_default _ _ (Nat.le_of_not_lt hc)] at hx
  cases hx

theorem Works.gens {k : Option Nat} (h : Works k s t) : t.par.gens.length = s.par.gens.length := by
  induction h with
  | refl => rfl
  | modGen j f hj _ ih => exact (List.length_modify ..).trans ih
  | modPar f hp _ ih => exact (congrArg List.length hp.gens).trans ih
  | event c p o k v _ ih => rw [State.event_par]; exact ih
  | sendPage g p _ ih => rw [State.sendPage_eq]; exact ih
  | hand _ _ _ ih | take _ ih | noting _ _ ih | modBrk _ _ _ ih | ask _ _ ih | modSeq _ _ _ ih
    | sendCommand _ _ _ _ _ ih | sendGenset _ _ _ ih | withdrawFrame _ _ _ ih => exact ih

/-- At most one channel holds a run of generator `g`, and it is one of the four. -/
def Solo (g : Nat) (p : Paralleling) : Prop := ∀ c d, RunsOn g c p → RunsOn g d p → c = d ∧ c < 4

theorem Apartness.solo {p q : Paralleling} (h : Apartness g p q) (k : Solo g p) : Solo g q :=
  fun c d hc hd => k c d (h.runs c hc) (h.runs d hd)

theorem Apartness.away {p q : Paralleling} (h : Apartness g p q) (k : ∀ c, ¬ RunsOn g c p) : ∀ c, ¬ RunsOn g c q :=
  fun c hc => k c (h.runs c hc)

theorem State.leaveToken_tokenless : Tokenless g (s.leaveToken (.generator g)).par := by
  have hlist : Party.generator g ∉ (s.par.tokenList.filter (· != Party.generator g)) := fun hin => by
    have := (List.mem_filter.1 hin).2
    simp at this
  rw [State.leaveToken, State.freeToken]
  split
  · exact ⟨hlist, nofun⟩
  · next hno => exact ⟨hlist, fun he => hno (by rw [he]; exact beq_self_eq_true _)⟩

/-- A run that ends frees its channel. -/
theorem State.endRun_away (hsolo : Solo g s.par) {c : Nat} (hc : RunsOn g c s.par) : ∀ d, ¬ RunsOn g d (s.endRun c).par := by
  intro d hd
  have hworks : Works (some g) s (s.endRun c) := State.endRun_works c .refl
  have hdc := (hsolo c d hc (hworks.generator.2.runs d hd)).1
  subst hdc
  obtain ⟨r, hr, -⟩ := hc
  have hchannel : s.channel c = some r := hr
  have hclear : Works (some g) s (s.clearBiases r.wrote) := State.clearBiases_works _ .refl
  have hfreed : (s.endRun c).par.channels = (s.clearBiases r.wrote).par.channels.set c none := by
    rw [State.endRun, hchannel]
    dsimp only
    split <;> rfl
  obtain ⟨y, hy, -⟩ := hd
  rw [hfreed] at hy
  by_cases hlt : c < (s.clearBiases r.wrote).par.channels.length
  · rw [List.getD_eq_getElem _ _ (by rw [List.length_set]; exact hlt), List.getElem_set_self] at hy
    cases hy
  · rw [List.getD_eq_default _ _ (by rw [List.length_set]; exact Nat.le_of_not_lt hlt)] at hy
    cases hy

theorem State.leaveRun_away (hsolo : Solo g s.par) : ∀ d, ¬ RunsOn g d (s.leaveRun (.generator g)).par := by
  rw [State.leaveRun]
  split
  · next hnone =>
    intro d hd
    have hlt := (hsolo d d hd hd).2
    obtain ⟨y, hy, hclient⟩ := hd
    have hy' : s.channel d = some y := hy
    have := List.find?_eq_none.1 hnone d (List.mem_range.2 hlt)
    rw [hy'] at this
    simp [hclient] at this
  · next c hsome =>
    have hruns : RunsOn g c s.par := by
      have hyes := List.find?_some (p := fun c => (s.channel c).any (fun r : SyncRun => r.client == Party.generator g))
        (show (List.range 4).find? _ = some c from hsome)
      cases hr : s.channel c with
      | none =>
        rw [hr] at hyes
        cases hyes
      | some r =>
        rw [hr] at hyes
        exact ⟨r, hr, by simpa using hyes⟩
    have hevent : (s.abortEvent c).par = s.par := State.event_par ..
    split
    · exact State.endRun_away (hevent ▸ hsolo) (hevent ▸ hruns)
    · exact State.endRun_away hsolo hruns

theorem State.leaveAttempt_away (hsolo : Solo g s.par) : (∀ d, ¬ RunsOn g d (s.leaveAttempt g).par) ∧
    Tokenless g (s.leaveAttempt g).par := by
  have hworks : Works (some g) (s.leaveRun (.generator g)) (s.leaveAttempt g) :=
    State.leaveToken_works _ (State.withdrawClose_works _ _ .refl)
  exact ⟨hworks.generator.2.away (State.leaveRun_away hsolo), State.leaveToken_tokenless⟩

/-- A generator moves to READY or STARTING. -/
theorem State.genMove_retires (hne : (s.gen g).state ≠ new) (hold : (s.gen g).state.loaded = false)
    (hnew : new = .ready ∨ new = .starting) : s.genMove g new =
      let t := if (s.gen g).state.attempting then s.leaveAttempt g else s
      (t.noting ((t.modGen g (fun r => r.enter new)).modPar (fun p =>
        { p with waitList := p.waitList.filter (· != g), demandDue := true }))).event .generator
          (genPriority (s.gen g).state new) g 1 (some new.code) := by
  obtain ⟨ha, hl, hf⟩ : new.attempting = false ∧ new.loaded = false ∧ (new == .fault || new == .stopping) = false := by
    obtain rfl | rfl := hnew <;> exact ⟨rfl, rfl, rfl⟩
  have hne' : ((s.gen g).state == new) = false := beq_false_of_ne hne
  rw [State.genMove]
  simp only [hne', ha, hl, hf, hold, Bool.not_false, Bool.and_true, Bool.or_false, Bool.false_and, Bool.false_eq_true, if_false]

/-- What a generator is as it has moved to READY or STARTING. -/
structure Retires (g : Nat) (new : GenState) (s r : State) : Prop where
  state : (r.gen g).state = new
  deferred : (r.gen g).deferred = false
  retry : (r.gen g).retryTimer = (s.gen g).retryTimer
  start : new = .starting → (r.gen g).startTimer = 0
  waits : g ∉ r.par.waitList
  apart : Apartness g s.par r.par
  left : (s.gen g).state.attempting = true → (∀ d, ¬ RunsOn g d r.par) ∧ Tokenless g r.par

theorem State.genEnter_retires (hg : g < s.par.gens.length) (hd : (s.gen g).deferred = false) (hne : (s.gen g).state ≠ new)
    (hold : (s.gen g).state.loaded = false) (hnew : new = .ready ∨ new = .starting) (hsolo : Solo g s.par) :
    Retires g new s (s.genEnter g new) := by
  have hmove := State.genMove_retires hne hold hnew
  have hleft : ∃ t, (if (s.gen g).state.attempting then s.leaveAttempt g else s) = t ∧ Works (some g) s t ∧
      ((s.gen g).state.attempting = true → (∀ d, ¬ RunsOn g d t.par) ∧ Tokenless g t.par) := by
    by_cases h : (s.gen g).state.attempting = true
    · exact ⟨_, if_pos h, State.leaveAttempt_works g .refl, fun _ => State.leaveAttempt_away hsolo⟩
    · exact ⟨s, if_neg h, .refl, fun h' => absurd h' h⟩
  obtain ⟨t, ht, hworks, hleft⟩ := hleft
  rw [ht] at hmove
  obtain ⟨hsame, hapart⟩ := hworks.generator
  have hlen : g < t.par.gens.length := hworks.gens.symm ▸ hg
  have hmoved : Retires g new s (s.genMove g new) := by
    have hgen : (s.genMove g new).gen g = (t.gen g).enter new := by
      rw [hmove]
      refine (State.event_gen ..).trans ?_
      exact State.gen_modGen_same (s := t) _ hlen
    have hpar : (s.genMove g new).par.channels = t.par.channels ∧ (s.genMove g new).par.token = t.par.token ∧
        (s.genMove g new).par.tokenList = t.par.tokenList ∧
        (s.genMove g new).par.waitList = t.par.waitList.filter (· != g) := by
      rw [hmove]
      simp only [State.event_par]
      exact ⟨rfl, rfl, rfl, rfl⟩
    obtain ⟨hchannels, htoken, hlist, hwait⟩ := hpar
    have hruns : ∀ d, RunsOn g d (s.genMove g new).par → RunsOn g d t.par := fun d hd => by
      rw [RunsOn, hchannels] at hd
      exact hd
    have htokens : Tokenless g t.par → Tokenless g (s.genMove g new).par := fun h => by
      rw [Tokenless, hlist, htoken]
      exact h
    refine ⟨?_, ?_, ?_, fun hs => ?_, ?_, hapart.trans ⟨hruns, fun _ => ?_, htokens⟩, fun ha =>
      ⟨fun d hd => (hleft ha).1 d (hruns d hd), htokens (hleft ha).2⟩⟩
    · rw [hgen, GenRec.enter_state]
    · rw [hgen, ← hd, ← hsame.deferred]
      obtain rfl | rfl := hnew <;> rfl
    · rw [hgen, ← hsame.retry]
      obtain rfl | rfl := hnew <;> rfl
    · rw [hgen, hs]
      rfl
    all_goals
      rw [hwait]
      exact fun hin => by simpa using (List.mem_filter.1 hin).2
  rw [State.genEnter_eq hmoved.deferred]
  exact hmoved

end


end Sys2Proof.Machine
end

section
/-! # The at-rated test of a closure -/

namespace Sys2Proof.Machine

section
variable {s t u x y : State} {g n : Nat} {k : Option Nat}

/-! ### A generator's turn in the work of a closure (R156, R157) -/

/-- What work between the units leaves of what the at-rated test reads, and hands on. -/
structure Flows (s x : State) : Prop where
  measures : x.measures = s.measures
  aligner : x.aligner = s.aligner
  lines : x.lines = s.lines
  mgmt : x.mgmt = s.mgmt
  gens : x.par.gens.length = s.par.gens.length
  calm : (∀ w ∈ s.work, w.calm = true) → ∀ w ∈ x.work, w.calm = true

theorem Works.flows (h : Works k s x) : Flows s x := by
  obtain ⟨hmeasures, haligner, hlines, hmgmt, -⟩ := h.rest
  exact ⟨hmeasures, haligner, hlines, hmgmt, h.gens, h.calm⟩

theorem Flows.trans (h : Flows s x) (k : Flows x y) : Flows s y :=
  ⟨k.measures.trans h.measures, k.aligner.trans h.aligner, k.lines.trans h.lines, k.mgmt.trans h.mgmt, k.gens.trans h.gens,
    k.calm ∘ h.calm⟩

/-- The at-rated test reads measurements, the nominal frequency and the tables. -/
theorem rated_congr (hm : x.mgmt = s.mgmt) (hq : x.measures = s.measures) (ha : x.aligner = s.aligner) :
    Clause.rated x g = Clause.rated s g := by
  have hfld : x.fld = s.fld := by funext y e id; rw [State.fld, State.fld, hm]
  have hmeasure : x.measure = s.measure := by funext k; rw [State.measure, State.measure, hq]
  have hphasor : x.phasor = s.phasor := by funext k q; rw [State.phasor, State.phasor, hmeasure]
  rw [Clause.rated, hfld, hmeasure, hphasor, ha]
  rfl

theorem Flows.rated (h : Flows s x) (g : Nat) : Clause.rated x g = Clause.rated s g := rated_congr h.mgmt h.measures h.aligner

/-- The loop over some numbers up to one of them, and from it on. -/
theorem State.forEach_turn {F : Nat → State → State} {ns : List Nat} (hn : ns.Nodup) (hg : g ∈ ns) :
    ∃ as bs, g ∉ as ∧ g ∉ bs ∧ ∀ s : State, s.forEach ns F = (F g (s.forEach as F)).forEach bs F := by
  obtain ⟨as, bs, rfl, has⟩ := List.append_of_mem hg |>.imp fun as h => h.imp fun bs h => (⟨h, (by
    rw [h] at hn
    exact fun ha => (List.disjoint_of_nodup_append hn) ha List.mem_cons_self)⟩ : _ = as ++ g :: bs ∧ g ∉ as)
  refine ⟨as, bs, has, (List.nodup_cons.1 (List.nodup_append.1 hn).2.1).1, fun s => ?_⟩
  simp only [State.forEach, List.foldl_append, List.foldl_cons]

/-- Generator `g` before its own at-rated test of a closure that began in `s`: it stands as it stood, or LOCKOUT has taken it
out of its attempt to READY. -/
structure Turn (g : Nat) (s x : State) : Prop where
  deferred : (x.gen g).deferred = false
  solo : Solo g x.par
  phase : ((x.gen g).state = (s.gen g).state ∧ (x.gen g).retryTimer = (s.gen g).retryTimer ∧ Apartness g s.par x.par) ∨
    ((s.gen g).state.attempting = true ∧ (x.gen g).state = .ready ∧ (∀ d, ¬ RunsOn g d x.par) ∧ Tokenless g x.par)

theorem Turn.works (h : Turn g s x) (hw : Works (some g) x y) : Turn g s y := by
  obtain ⟨hsame, hapart⟩ := hw.generator
  refine ⟨hsame.deferred.trans h.deferred, hapart.solo h.solo, h.phase.imp (fun ⟨hstate, hretry, ha⟩ => ?_)
    fun ⟨hs, hstate, haway, htoken⟩ => ?_⟩
  · exact ⟨hsame.state.trans hstate, hsame.retry.trans hretry, ha.trans hapart⟩
  · exact ⟨hs, hsame.state.trans hstate, hapart.away haway, hapart.tokens htoken⟩

/-- A generator as LOCKOUT rises (R157). -/
def State.lockoutGen (j : Nat) (s : State) : State :=
  match (s.gen j).state with
  | .claiming => s.genEnter j .ready
  | .syncing => s.genRetry j
  | _ => s

theorem State.lockoutGens_eq (s : State) : s.lockoutGens = s.forEach (List.range 8) State.lockoutGen := rfl

theorem State.lockoutGen_works {j : Nat} (hj : k ≠ some j) (hw : Works k s x) : Works k s (State.lockoutGen j x) := by
  unfold State.lockoutGen
  split
  · exact State.genEnter_works hj _ hw
  · exact State.genRetry_works hj hw
  · exact hw

theorem Turn.lockoutGen (h : Turn g s x) (hg : g < x.par.gens.length) : Turn g s (State.lockoutGen g x) := by
  have hretires : ∀ v : State, g < v.par.gens.length → (v.gen g).deferred = false → (v.gen g).state = (x.gen g).state →
      v.par.channels = x.par.channels → (x.gen g).state = .claiming ∨ (x.gen g).state = .syncing →
      Turn g s (v.genEnter g .ready) := fun v hv hd hstate hchannels hattempts => by
    have hattempting : (v.gen g).state.attempting = true := by
      rw [hstate]
      obtain he | he := hattempts <;> rw [he] <;> rfl
    have hne : (x.gen g).state ≠ .ready := by
      obtain he | he := hattempts <;> rw [he] <;> decide
    have hr := State.genEnter_retires (new := .ready) hv hd (by rw [hstate]; exact hne)
      (by rw [hstate]; obtain he | he := hattempts <;> rw [he] <;> rfl) (.inl rfl)
      (fun c d hc hd => h.solo c d (by rw [RunsOn, ← hchannels]; exact hc) (by rw [RunsOn, ← hchannels]; exact hd))
    obtain ⟨haway, htoken⟩ := hr.left hattempting
    refine ⟨hr.deferred, fun c d hc _ => absurd hc (haway c), .inr ⟨?_, hr.state, haway, htoken⟩⟩
    obtain ⟨hs, -⟩ | ⟨hs, -⟩ := h.phase
    · rw [← hs, ← hstate]
      exact hattempting
    · exact hs
  unfold State.lockoutGen
  split
  · next he => exact hretires x hg h.deferred rfl rfl (.inl he)
  · next he =>
    have hgen : ∀ f, (x.modGen g f).gen g = f (x.gen g) := fun f => State.gen_modGen_same _ _ hg
    exact hretires _ ((List.length_modify ..).symm ▸ hg) (by rw [hgen]; exact h.deferred) (by rw [hgen]) rfl (.inr he)
  · exact h

theorem Turn.lockoutGens (h : Turn g s x) (hg : g < 8) (hlen : g < x.par.gens.length) :
    Turn g s x.lockoutGens ∧ Flows x x.lockoutGens := by
  obtain ⟨as, bs, has, hbs, hsplit⟩ := State.forEach_turn (F := State.lockoutGen) List.nodup_range (List.mem_range.2 hg)
  rw [State.lockoutGens_eq, hsplit]
  have hfirst : Works (some g) x (x.forEach as State.lockoutGen) := State.forEach_works _ _ .refl fun j hj _ ht =>
    State.lockoutGen_works (fun he => has (Option.some.inj he ▸ hj)) ht
  have hturn := (h.works hfirst).lockoutGen (hfirst.gens.symm ▸ hlen)
  have hown : Works (some (g + 1)) (x.forEach as State.lockoutGen) (State.lockoutGen g (x.forEach as State.lockoutGen)) :=
    State.lockoutGen_works (by simp) .refl
  generalize x.forEach as State.lockoutGen = v at *
  have hlast : Works (some g) (State.lockoutGen g v) ((State.lockoutGen g v).forEach bs State.lockoutGen) :=
    State.forEach_works _ _ .refl fun j hj _ ht => State.lockoutGen_works (fun he => hbs (Option.some.inj he ▸ hj)) ht
  exact ⟨hturn.works hlast, (hfirst.flows.trans hown.flows).trans hlast.flows⟩

/-! ### The at-rated test -/

theorem State.loseRated_works {j : Nat} (hj : k ≠ some j) (hw : Works k s x) : Works k s (State.loseRated x j) :=
  Works.ite hw (State.genEnter_works hj _ hw)

theorem State.ratedTest_works {j : Nat} (hj : k ≠ some j) (hw : Works k s x) : Works k s (State.ratedTest j x) := by
  unfold State.ratedTest
  refine Works.ite hw ?_
  split
  · exact Works.ite (State.genEnter_works hj _ hw) hw
  · exact Works.ite hw (State.loseRated_works hj hw)
  · exact Works.ite hw (State.loseRated_works hj hw)
  · exact Works.ite hw (State.loseRated_works hj hw)
  · exact hw

/-- A generator as its at-rated test has been made. -/
structure Tested (g : Nat) (s r : State) (rated : Bool) : Prop where
  rises : (s.gen g).state = .starting → rated = true → (s.gen g).retryTimer ≠ 0 → Spared g r ∧ (r.gen g).state = .ready
  stays : (s.gen g).state = .starting → rated = false → Spared g r ∧ (r.gen g).state = .starting
  loses : (s.gen g).state ∈ [GenState.ready, .claiming, .syncing] → rated = false → s.lines.tripLatch = false →
    Spared g r ∧ (r.gen g).state = .starting ∧ (r.gen g).startTimer = 0 ∧
      ((s.gen g).state ≠ .ready ∨ Tokenless g s.par → Tokenless g r.par)

theorem Turn.ratedTest (h : Turn g s x) (hlen : g < x.par.gens.length) (hconf : x.genConfigured g = true)
    (haway : (s.gen g).state ≠ .syncing → ∀ d, ¬ RunsOn g d s.par) (hlatch : x.lines.tripLatch = s.lines.tripLatch) :
    Tested g s (State.ratedTest g x) (Clause.rated x g) := by
  have htest : State.ratedTest g x = match (x.gen g).state with
      | .starting => if x.atRated g then x.genEnter g .ready else x
      | .ready => if x.atRated g then x else x.loseRated g
      | .claiming => if x.atRated g then x else x.loseRated g
      | .syncing => if x.atRated g then x else x.loseRated g
      | _ => x := by
    rw [State.ratedTest, if_neg (by simp [hconf])] <;> rfl
  have hrated : x.atRated g = Clause.rated x g := rfl
  rw [hrated] at htest
  have hstarting : (s.gen g).state = .starting → (x.gen g).state = .starting ∧
      (x.gen g).retryTimer = (s.gen g).retryTimer ∧ ∀ d, ¬ RunsOn g d x.par := fun hs => by
    obtain ⟨hstate, hretry, hapart⟩ | ⟨hattempts, -⟩ := h.phase
    · exact ⟨hstate.trans hs, hretry, hapart.away (haway (by rw [hs]; decide))⟩
    · rw [hs] at hattempts
      cases hattempts
  refine ⟨fun hs hyes hretry => ?_, fun hs hno => ?_, fun hs hno hclear => ?_⟩
  · obtain ⟨hstate, hkept, hruns⟩ := hstarting hs
    rw [hstate, hyes] at htest
    have hr := State.genEnter_retires (new := .ready) hlen h.deferred (by rw [hstate]; decide) (by rw [hstate]; rfl) (.inl rfl)
      h.solo
    have hmoved : State.ratedTest g x = x.genEnter g .ready := htest
    rw [hmoved]
    exact ⟨⟨.inr ⟨hr.state, by rw [hr.retry, hkept]; exact hretry, hr.waits⟩, hr.apart.away hruns⟩, hr.state⟩
  · obtain ⟨hstate, -, hruns⟩ := hstarting hs
    rw [hstate, hno] at htest
    have hsame : State.ratedTest g x = x := htest
    rw [hsame]
    exact ⟨⟨.inl hstate, hruns⟩, hstate⟩
  · have hat : (x.gen g).state ∈ [GenState.ready, .claiming, .syncing] := by
      obtain ⟨hstate, -⟩ | ⟨-, hstate, -⟩ := h.phase
      · rw [hstate]
        exact hs
      · rw [hstate]
        exact List.mem_cons_self
    have hmoved : State.ratedTest g x = x.genEnter g .starting := by
      have hlose : x.loseRated g = x.genEnter g .starting := if_neg (by rw [hlatch, hclear]; decide)
      simp only [List.mem_cons, List.not_mem_nil, or_false] at hat
      rw [htest, hno, hlose]
      obtain he | he | he := hat <;> rw [he] <;> rfl
    have hfacts : (x.gen g).state ≠ .starting ∧ (x.gen g).state.loaded = false := by
      simp only [List.mem_cons, List.not_mem_nil, or_false] at hat
      obtain he | he | he := hat <;> rw [he] <;> decide
    have hr := State.genEnter_retires (new := .starting) hlen h.deferred hfacts.1 hfacts.2 (.inr rfl) h.solo
    rw [hmoved]
    have hruns : ∀ d, ¬ RunsOn g d (x.genEnter g .starting).par := by
      by_cases hattempts : (x.gen g).state.attempting = true
      · exact (hr.left hattempts).1
      · refine hr.apart.away ?_
        obtain ⟨hstate, -, hapart⟩ | ⟨-, -, hruns, -⟩ := h.phase
        · refine hapart.away (haway fun he => hattempts ?_)
          rw [hstate, he]
          rfl
        · exact hruns
    refine ⟨⟨.inl hr.state, hruns⟩, hr.state, hr.start rfl, fun htokens => ?_⟩
    by_cases hattempts : (x.gen g).state.attempting = true
    · exact (hr.left hattempts).2
    · refine hr.apart.tokens ?_
      obtain ⟨hstate, -, hapart⟩ | ⟨-, -, -, htoken⟩ := h.phase
      · refine hapart.tokens (htokens.resolve_left fun hne => hattempts ?_)
        simp only [List.mem_cons, List.not_mem_nil, or_false] at hs
        obtain he | he | he := hs
        · exact absurd he hne
        · rw [hstate, he]
          rfl
        · rw [hstate, he]
          rfl
      · exact htoken

theorem Spared.works (h : Spared g x) (hw : Works (some g) x y) : Spared g y :=
  hw.spared (fun _ he => Option.some.inj he ▸ h) rfl

theorem Tested.works {r : State} {rated : Bool} (h : Tested g s r rated) (hw : Works (some g) r y) : Tested g s y rated := by
  obtain ⟨hsame, hapart⟩ := hw.generator
  refine ⟨fun hs hr ht => ?_, fun hs hr => ?_, fun hs hr hl => ?_⟩
  · obtain ⟨hspared, hstate⟩ := h.rises hs hr ht
    exact ⟨hspared.works hw, hsame.state.trans hstate⟩
  · obtain ⟨hspared, hstate⟩ := h.stays hs hr
    exact ⟨hspared.works hw, hsame.state.trans hstate⟩
  · obtain ⟨hspared, hstate, hstart, htoken⟩ := h.loses hs hr hl
    exact ⟨hspared.works hw, hsame.state.trans hstate, hsame.start.trans hstart, hapart.tokens ∘ htoken⟩

end


end Sys2Proof.Machine
end

section
/-! # O39: the start timer, the retry timer and the at-rated test -/

namespace Sys2Proof.Machine

section
variable {s t u x y : State} {g n : Nat} {k : Option Nat} {pin : Bool}

/-! ### The stages of a closure (R30) -/

/-- The label of the instant at the closing point. -/
def State.closingLabel (s : State) : Label := s.labelOf s.aligner.closingPoint

/-- The state with the streams, the closing point and the measurements of the instant. -/
def State.measured (s : State) : State :=
  (State.intakeWork { s with closing := some s.closingLabel }).passClosingPoint.phasorWork s.closingLabel

/-- The state with the waiting contents active and the elements' work done. -/
def State.guardedWork (s : State) : State :=
  ((s.measured.activateWaiting .curve).activateWaiting .element).protectionWork s.measured.image

/-- The state with the LOCKOUT pin sampled and the BF tests made. -/
def State.sampled (s : State) (pin : Bool) : State :=
  (s.guardedWork.sampleLockout pin).forEach (List.range 24) (fun b x => x.testBf b)

theorem State.closureWork_stages : s.closureWork pin = (s.sampled pin).parallelingWork.captureWork s.closingLabel := rfl

theorem exec_closure_due (h : s.closureDue = true) : exec (.instantClosure pin) s =
    finish s ((s.sampled pin).parallelingWork.captureWork s.closingLabel) := by
  have hdue : s.closeInstant pin = s.closureWork pin := if_pos h
  exact congrArg (finish s) hdue

theorem State.measured_touches (s : State) : Touches [.links, .events, .aligner, .intake, .measures] s s.measured :=
  ((((Touches.refl _ s).underWay (some s.closingLabel) s.hushed).intakeWork).passClosingPoint).phasorWork _

theorem State.guardedWork_protects (s : State) : Protects s.measured s.guardedWork :=
  ((Protects.refl.activateWaiting (.inr rfl)).activateWaiting (.inl rfl)).protectionWork _

/-- The state in which the pin has been sampled, before the generators take a rise of LOCKOUT. -/
theorem State.sampleLockout_lines (u : State) (pin : Bool) : ∃ v : State, (u.sampleLockout pin = v ∨
    u.sampleLockout pin = v.lockoutGens) ∧ v.par = u.par ∧ v.work = u.work ∧ v.mgmt = u.mgmt ∧ v.measures = u.measures ∧
    v.aligner = u.aligner ∧ v.lines.tripLatch = u.lines.tripLatch := by
  have hsampled : ∀ (w : State) (c : EventClass) (p o d : Nat) (x : Option Nat), w.par = u.par → w.work = u.work →
      w.mgmt = u.mgmt → w.measures = u.measures → w.aligner = u.aligner → w.lines.tripLatch = u.lines.tripLatch →
      (w.event c p o d x).par = u.par ∧ (w.event c p o d x).work = u.work ∧ (w.event c p o d x).mgmt = u.mgmt ∧
        (w.event c p o d x).measures = u.measures ∧ (w.event c p o d x).aligner = u.aligner ∧
        (w.event c p o d x).lines.tripLatch = u.lines.tripLatch := fun w c p o d x h1 h2 h3 h4 h5 h6 =>
    ⟨(State.event_par ..).trans h1, (State.event_work ..).trans h2, (State.event_mgmt ..).trans h3,
      (State.event_measures ..).trans h4, (State.event_aligner ..).trans h5,
      (congrArg Lines.tripLatch (State.event_lines ..)).trans h6⟩
  rw [State.sampleLockout]
  split
  · exact ⟨_, .inl rfl, rfl, rfl, rfl, rfl, rfl, rfl⟩
  · split
    · exact ⟨_, .inr rfl, hsampled _ _ _ _ _ _ rfl rfl rfl rfl rfl rfl⟩
    · exact ⟨_, .inl rfl, hsampled _ _ _ _ _ _ rfl rfl rfl rfl rfl rfl⟩

/-- The work of the paralleling unit at a closure, up to the turn of generator `g` and from it on. -/
theorem State.parallelingWork_turn (hg : g < 8) (x : State) : ∃ v, Works (some g) x v ∧ Flows v (State.ratedTest g v) ∧
    (Spared g (State.ratedTest g v) → Works (some g) (State.ratedTest g v) x.parallelingWork) := by
  obtain ⟨as, bs, has, hbs, hsplit⟩ := State.forEach_turn (F := State.ratedTest) List.nodup_range (List.mem_range.2 hg)
  have hfirst : Works (some g) x (x.forEach as State.ratedTest) := State.forEach_works _ _ .refl fun j hj _ ht =>
    State.ratedTest_works (fun he => has (Option.some.inj he ▸ hj)) ht
  have hwork : x.parallelingWork =
      (((x.forEach (List.range 8) State.ratedTest).forEach (x.forEach (List.range 8) State.ratedTest).genOrder
        (fun g v => (v.closeAttempt g).deadCheck g)).forEach (List.range 4) State.evaluateRun).post .tokenGrant := rfl
  have hown : Works (some (g + 1)) (x.forEach as State.ratedTest) (State.ratedTest g (x.forEach as State.ratedTest)) :=
    State.ratedTest_works (by simp) .refl
  rw [hwork, hsplit]
  generalize x.forEach as State.ratedTest = v at *
  refine ⟨v, hfirst, hown.flows, fun hspared => ?_⟩
  generalize State.ratedTest g v = r at *
  have hsp : ∀ j, some g = some j → Spared j r := fun j he => Option.some.inj he ▸ hspared
  have htests : Works (some g) r (r.forEach bs State.ratedTest) := State.forEach_works _ _ .refl fun j hj _ ht =>
    State.ratedTest_works (fun he => hbs (Option.some.inj he ▸ hj)) ht
  have hattempts := State.forEach_works (r.forEach bs State.ratedTest).genOrder (fun g v => (v.closeAttempt g).deadCheck g)
    htests fun j _ _ ht => State.deadCheck_works hsp j (State.closeAttempt_works hsp j ht)
  exact State.post_works _ (State.forEach_works _ _ hattempts fun c _ _ ht => State.evaluateRun_works hsp c ht) rfl

/-- The work of a command's end, and the GENSETs, on work that is calm. -/
theorem State.settle_works (ha : Apart k u) (hc : ∀ w ∈ u.work, w.calm = true) :
    ∃ t, State.settle s u = (State.noteEdges s t).closed ∧ Works k u t := by
  refine ⟨State.sendSetpoints s (State.drain Config.workBound u), ?_, ?_⟩
  · unfold State.settle
    dsimp only
    generalize State.sendSetpoints s (State.drain Config.workBound u) = t
    rfl
  · refine State.forEach_works _ _ (State.drain_works ha hc _ .refl) fun j _ v hv => ?_
    refine Works.ite ?_ hv
    rw [State.buildGenset]
    split
    · exact hv
    · exact Works.ite hv ((hv.sendGenset _ _).modGen _ _ fun _ _ => ⟨rfl, rfl, rfl, rfl⟩)

theorem Spared.of_par (h : Spared g x) (hpar : y.par = x.par) : Spared g y := by
  have hgen : y.gen g = x.gen g := by rw [State.gen, hpar, State.gen]
  exact ⟨by rw [hgen, hpar]; exact h.state, by rw [hpar]; exact h.away⟩

theorem Tested.of_par {rated : Bool} (h : Tested g s x rated) (hpar : y.par = x.par) : Tested g s y rated := by
  have hgen : y.gen g = x.gen g := by rw [State.gen, hpar, State.gen]
  refine ⟨fun hs hr ht => ?_, fun hs hr => ?_, fun hs hr hl => ?_⟩
  · rw [hgen]
    exact (h.rises hs hr ht).imp_left (·.of_par hpar)
  · rw [hgen]
    exact (h.stays hs hr).imp_left (·.of_par hpar)
  · rw [hgen, hpar]
    exact (h.loses hs hr hl).imp_left (·.of_par hpar)

/-- The work of a closure leaves what the at-rated test reads of the measurements. -/
theorem closure_rated {l : Label} (ht : State.settle s (x.parallelingWork.captureWork l) = t) (g : Nat) :
    Clause.rated t g = Clause.rated x g := by
  have hwork : Evolves x x.parallelingWork := State.parallelingWork_evolves .refl
  have hcapture : Touches [.links, .events, .capture] x.parallelingWork (x.parallelingWork.captureWork l) :=
    (Touches.refl _ _).captureWork l
  generalize x.parallelingWork = w at *
  generalize w.captureWork l = u at *
  obtain ⟨z, hz, hevolves, -⟩ := State.settle_edges s u
  have hclosed : Clause.rated t g = Clause.rated z g := by
    rw [← ht, hz]
    rfl
  have hdrained : Clause.rated z g = Clause.rated u g := rated_congr (congrArg Rest.mgmt hevolves.rest)
    (congrArg Rest.measures hevolves.rest) (congrArg Rest.aligner hevolves.rest)
  have hcaptured : Clause.rated u g = Clause.rated w g := rated_congr (hcapture.stands .mgmt (by decide))
    (hcapture.stands .measures (by decide)) (hcapture.stands .aligner (by decide))
  have hworked : Clause.rated w g = Clause.rated x g := rated_congr (congrArg Rest.mgmt hwork.rest)
    (congrArg Rest.measures hwork.rest) (congrArg Rest.aligner hwork.rest)
  exact hclosed.trans (hdrained.trans (hcaptured.trans hworked))

/-- A generator before the at-rated tests of a closure. -/
theorem State.Quiet.turn (hs : s.Quiet) (hg : g < 8) (hd : (s.gen g).deferred = false)
    (hruns : ∀ c < 4, ∀ r, s.channel c = some r → r.client = .generator g → (s.gen g).state = .syncing ∧
      ∀ d < 4, d ≠ c → ∀ x, s.channel d = some x → x.client ≠ .generator g) :
    Turn g s (s.sampled pin) ∧ (∀ w ∈ (s.sampled pin).work, w.calm = true) ∧ (s.sampled pin).par.gens.length = 8 ∧
      (s.sampled pin).lines.tripLatch = s.lines.tripLatch ∧ (s.sampled pin).genConfigured g = s.genConfigured g := by
  have hmeasured := s.measured_touches
  obtain ⟨hpar, -, hlines, -, -, -, -, hwork, -⟩ := s.guardedWork_protects.rest
  have hfld : s.guardedWork.fld .generator g 1 = s.fld .generator g 1 := by
    rw [s.guardedWork_protects.fld (by decide), State.fld, State.fld, hmeasured.stands .mgmt (by decide)]
  obtain ⟨v, hv, hvpar, hvwork, hvmgmt, -, -, hvlatch⟩ := s.guardedWork.sampleLockout_lines pin
  have hpars : v.par = s.par := hvpar.trans (hpar.trans (hmeasured.stands .par (by decide)))
  have hworks : v.work = [] := hvwork.trans (hwork.trans ((hmeasured.calm (by decide)).1.trans hs.1))
  have hlatch : v.lines.tripLatch = s.lines.tripLatch :=
    hvlatch.trans (congrArg Lines.tripLatch (hlines.trans (hmeasured.stands .lines (by decide))))
  have hconf : v.genConfigured g = s.genConfigured g := by
    have : v.fld .generator g 1 = s.fld .generator g 1 := by
      rw [← hfld, State.fld, hvmgmt, State.fld]
    rw [State.genConfigured, this, State.genConfigured]
  have hgen : v.gen g = s.gen g := by rw [State.gen, hpars, State.gen]
  have hsolo : Solo g v.par := fun c d hc hd => by
    rw [hpars] at hc hd
    have hfour := hs.channels_length
    have hc4 := hfour ▸ hc.lt
    have hd4 := hfour ▸ hd.lt
    obtain ⟨r, hr, hclient⟩ := hc
    obtain ⟨x, hx, hother⟩ := hd
    refine ⟨?_, hc4⟩
    by_contra hne
    exact (hruns c hc4 r hr hclient).2 d hd4 (Ne.symm hne) x hx hother
  have hturn : Turn g s v := ⟨by rw [hgen]; exact hd, hsolo, .inl ⟨by rw [hgen], by rw [hgen], hpars ▸ .refl _ _⟩⟩
  have hlen : v.par.gens.length = 8 := by rw [hpars]; exact hs.gens_length
  have hlocked : Turn g s (s.guardedWork.sampleLockout pin) ∧ Flows v (s.guardedWork.sampleLockout pin) := by
    obtain hv | hv := hv
    · rw [hv]
      exact ⟨hturn, Works.flows (k := none) .refl⟩
    · rw [hv]
      exact hturn.lockoutGens hg (hlen.symm ▸ hg)
  have htests : Works (some g) (s.guardedWork.sampleLockout pin) (s.sampled pin) :=
    State.forEach_works _ _ .refl fun b _ _ ht => State.testBf_works b ht
  have hflows := hlocked.2.trans htests.flows
  refine ⟨hlocked.1.works htests, hflows.calm (by rw [hworks]; exact fun w hw => nomatch hw), hflows.gens.trans hlen,
    (congrArg Lines.tripLatch hflows.lines).trans hlatch, ?_⟩
  rw [← hconf, State.genConfigured, State.fld, hflows.mgmt, State.genConfigured, State.fld]

end

/-- Settles the fourth part of O39. -/
theorem ratedTestAtAClosure : Clause.RatedTestAtAClosure := by
  intro s t pin g hs hdue hexec hg hconf hd hruns
  rw [exec_closure_due hdue] at hexec
  have ht : State.settle s ((s.sampled pin).parallelingWork.captureWork s.closingLabel) = t := Host.Outcome.next.inj hexec
  have hrated := closure_rated ht g
  obtain ⟨hturn, hcalm, hlen, hlatch, hconfigured⟩ := hs.turn (pin := pin) hg hd hruns
  have haway : (s.gen g).state ≠ .syncing → ∀ d, ¬ RunsOn g d s.par := fun hne d hruns' => by
    have hlt := hs.channels_length ▸ hruns'.lt
    obtain ⟨r, hr, hclient⟩ := hruns'
    exact hne (hruns d hlt r hr hclient).1
  generalize s.sampled pin = x at *
  obtain ⟨v, hfirst, hown, hlast⟩ := State.parallelingWork_turn hg x
  have hvflows := hfirst.flows
  have htested := (hturn.works hfirst).ratedTest (by rw [hvflows.gens, hlen]; exact hg)
    (by rw [State.genConfigured, State.fld, hvflows.mgmt]; rw [State.genConfigured, State.fld] at hconfigured
        rw [hconfigured]; simpa [State.genConfigured] using hconf)
    haway (by rw [hvflows.lines]; exact hlatch)
  rw [hvflows.rated, ← hrated] at htested
  have hcapture : Touches [.links, .events, .capture] x.parallelingWork (x.parallelingWork.captureWork s.closingLabel) :=
    (Touches.refl _ _).captureWork s.closingLabel
  generalize State.ratedTest g v = r at *
  have hends : Spared g r → Tested g s t (Clause.rated t g) := fun hspared => by
    have hworks := hlast hspared
    have hflows := (hvflows.trans hown).trans hworks.flows
    have hpar := hcapture.stands .par (by decide)
    have hwork := (hcapture.calm (by decide)).1
    generalize x.parallelingWork.captureWork s.closingLabel = y at *
    obtain ⟨z, hz, hzworks⟩ := State.settle_works (s := s) (u := y) (k := some g) ((hspared.works hworks).of_par hpar)
      (by rw [hwork]; exact hflows.calm hcalm)
    refine (((htested.works hworks).of_par hpar).works hzworks).of_par ?_
    rw [← ht, hz]
    rfl
  refine ⟨fun hstate hr hretry => ?_, fun hstate hr => ?_, fun hstate hr hclear => ?_⟩
  · exact ((hends (htested.rises hstate hr hretry).1).rises hstate hr hretry).2
  · exact ((hends (htested.stays hstate hr).1).stays hstate hr).2
  · exact ((hends (htested.loses hstate hr hclear).1).loses hstate hr hclear).2

/-- Settles O39. -/
theorem startAndRetryTimersExpire : Obligations.StartAndRetryTimersExpire :=
  ⟨startTimeoutFaults, retryJoinsTheWaitList, attemptOnADeadBus, ratedTestAtAClosure⟩


end Sys2Proof.Machine
end

section
/-! # What recording and handing on never take back -/

namespace Sys2Proof.Machine

section
variable {s t u : State} {gone : List Nat}

/-! ### What recording and handing on never take back (R12, R17, R170) -/

/-- A record without its sent mark. -/
def EventRecord.bare (r : EventRecord) : EventRecord := { r with sent := false }

/-- The records of the queue without their sent marks. -/
def State.bareRecords (s : State) : List EventRecord := s.events.records.map EventRecord.bare

/-! The records under a mark and under an append. -/

theorem EventQueue.markSent_bare (q : EventQueue) (seqs : List Nat) :
    (q.markSent seqs).records.map EventRecord.bare = q.records.map EventRecord.bare := by
  rw [EventQueue.markSent, List.map_map]
  refine List.map_congr_left fun r _ => ?_
  simp only [Function.comp]
  split <;> rfl

theorem EventQueue.append_prefix {q : EventQueue} (r : EventRecord) (h : (q.append r).records.length < 128) :
    q.records.map EventRecord.bare <+: (q.append r).records.map EventRecord.bare := by
  unfold EventQueue.append at h ⊢
  split
  · rw [List.map_append]
    exact List.prefix_append ..
  · next hfull =>
    rw [if_neg hfull] at h
    simp only [List.length_append, List.length_tail, List.length_singleton, Config.eventRecords] at h hfull
    omega

/-- A place of a bulk queue that is no COMMAND frame, and no reservation under one of the numbers `gone`. -/
def BulkPlace.lasting (gone : List Nat) : BulkPlace → Prop
  | .frame f => ∀ b, f.commandFor b = false
  | .reserved n => n ∉ gone

theorem BulkPlace.lasting.mono {x : BulkPlace} {less : List Nat} (h : x.lasting gone) (hsub : less ⊆ gone) : x.lasting less := by
  cases x with
  | frame f => exact h
  | reserved n => exact fun hn => h (hsub hn)

/-- From `s` to `t` nothing that was asked, placed or recorded is taken back, but for the reservations that are filled and the
oldest records of a queue that overflows. -/
structure Grows (gone : List Nat) (s t : State) : Prop where
  requests : s.breakers.requests ⊆ t.breakers.requests
  places : ∀ l, ∀ x ∈ (s.port l).bulk, x.lasting gone → x ∈ (t.port l).bulk
  numbers : gone = [] → t.links.responseSeq = s.links.responseSeq
  records : t.events.records.length < 128 → s.bareRecords <+: t.bareRecords

namespace Grows

theorem refl (s : State) : Grows [] s s := ⟨fun _ h => h, fun _ _ h _ => h, fun _ => rfl, fun _ => List.prefix_rfl⟩

theorem trans {more : List Nat} (h : Grows gone s t) (k : Grows more t u) : Grows (gone ++ more) s u where
  requests _ hq := k.requests (h.requests hq)
  places l x hx hl := k.places l x (h.places l x hx (hl.mono (List.subset_append_left ..))) (hl.mono (List.subset_append_right ..))
  numbers hn := (k.numbers (List.append_eq_nil_iff.1 hn).2).trans (h.numbers (List.append_eq_nil_iff.1 hn).1)
  records hu := by
    have ht : t.events.records.length ≤ u.events.records.length := by
      simpa [State.bareRecords] using (k.records hu).length_le
    exact (h.records (by omega)).trans (k.records hu)

/-- A step that fills no reservation. -/
theorem next (h : Grows gone s t) (k : Grows [] t u) : Grows gone s u := by
  have := h.trans k
  rwa [List.append_nil] at this

/-- An update of other parts. -/
theorem same (h : Grows gone s t) (hb : u.breakers.requests = t.breakers.requests := by rfl) (hl : u.links = t.links := by rfl)
    (he : u.events = t.events := by rfl) : Grows gone s u := by
  refine h.next ⟨hb ▸ fun _ h => h, fun l x hx _ => ?_, fun _ => by rw [hl], fun _ => ?_⟩
  · simpa only [State.port, hl] using hx
  · rw [State.bareRecords, State.bareRecords, he]

/-- An update of the links that leaves the bulk queues' lasting places. -/
theorem linked (h : Grows gone s t) (hl : ∀ l, ∀ x ∈ (t.port l).bulk, x.lasting [] → x ∈ (u.port l).bulk)
    (hn : u.links.responseSeq = t.links.responseSeq := by rfl) (hb : u.breakers = t.breakers := by rfl)
    (he : u.events = t.events := by rfl) : Grows gone s u :=
  h.next ⟨hb ▸ fun _ h => h, hl, fun _ => hn, fun _ => by rw [State.bareRecords, State.bareRecords, he]⟩

theorem ite {c : Prop} [Decidable c] (ha : Grows gone s t) (hb : Grows gone s u) : Grows gone s (if c then t else u) := by
  split <;> assumption

theorem forEach (ns : List Nat) (f : Nat → State → State) (h : Grows gone s t)
    (hf : ∀ n t, Grows gone s t → Grows gone s (f n t)) : Grows gone s (t.forEach ns f) := by
  unfold State.forEach
  induction ns generalizing t with
  | nil => exact h
  | cons n ns ih => exact ih (hf n t h)

/-- One event more. -/
theorem event (c : EventClass) (priority object code : Nat) (value : Option Nat) (h : Grows gone s t) :
    Grows gone s (t.event c priority object code value) := by
  obtain ⟨x, seqs, hx, e⟩ := t.event_eq c priority object code value
  refine h.next ⟨by rw [e]; exact fun _ h => h, fun l y hy _ => ?_, fun _ => ?_, fun hlen => ?_⟩
  · rw [e]
    cases l
    · exact hx.a.bulk.subset hy
    · exact hx.b.bulk.subset hy
  · rw [e]
    show x.responseSeq = _
    rw [hx.eq]
  · rw [e] at hlen ⊢
    rw [State.bareRecords, State.bareRecords, EventQueue.markSent_bare]
    rw [EventQueue.markSent, List.length_map] at hlen
    exact EventQueue.append_prefix _ hlen

theorem onUpLinks (f : LinkPort → LinkPort × Bool) (hf : ∀ p : LinkPort, ∀ x ∈ p.bulk, x.lasting [] → x ∈ (f p).1.bulk)
    (h : Grows gone s t) : Grows gone s (t.onUpLinks f).1 := by
  refine h.linked fun l x hx hl => ?_
  rw [State.onUpLinks_port]
  split
  · exact hf _ x hx hl
  · exact hx

/-- A COMMAND frame takes the place of those of its breaker alone. -/
theorem admitCommand (b : Nat) (a : Action) (f : OutFrame) (p : LinkPort) (x : BulkPlace) (hx : x ∈ p.bulk) (hl : x.lasting []) :
    x ∈ (p.admitCommand b a f).1.bulk := by
  have hkept : x ∈ (p.removeCommand b).bulk := by
    refine List.mem_filter.2 ⟨hx, ?_⟩
    cases x with
    | frame f => simp [BulkPlace.holds, hl b]
    | reserved n => rfl
  cases a <;> exact hkept

theorem admitGenset (g : Nat) (f : OutFrame) (p : LinkPort) : (p.admitGenset g f).1.bulk = p.bulk := by
  unfold LinkPort.admitGenset
  split <;> rfl

theorem admitNormal (c : OutFrame → Bool) (f : OutFrame) (p : LinkPort) : (p.admitNormal c f).1.bulk = p.bulk := by
  unfold LinkPort.admitNormal
  split <;> rfl

/-- Work between the blocks. -/
theorem work (h : Grows gone s t) (k : Evolves t u) : Grows gone s u := by
  refine h.next ?_
  clear h
  induction k with
  | refl => exact refl _
  | work x _ ih | noting v _ ih | unmatched n _ ih | modGen g f _ ih | modPar f hg _ ih | modSeq f hs _ ih | modBrk b f _ ih =>
    exact ih.same
  | ask q _ ih => exact ih.trans ⟨fun _ hq => List.mem_append_left _ hq, fun _ _ hx _ => hx, fun _ => rfl, fun _ => List.prefix_rfl⟩
  | event c p o k v _ ih => exact ih.event _ _ _ _ _
  | @sendCommand v b a tag o _ _ ih =>
    have hseq : Grows [] t { v with links := { v.links with commandSeq := step16 v.links.commandSeq } } :=
      ih.linked fun l x hx _ => by cases l <;> exact hx
    exact hseq.onUpLinks _ (admitCommand b a _)
  | @sendGenset v g p _ _ ih =>
    have hseq : Grows [] t { v with links := { v.links with gensetSeq := step16 v.links.gensetSeq } } :=
      ih.linked fun l x hx _ => by cases l <;> exact hx
    exact hseq.onUpLinks _ fun q x hx _ => by rw [admitGenset]; exact hx
  | @sendPage v g p _ ih =>
    have hseq : Grows [] t { v with links := { v.links with abilitySeq := step16 v.links.abilitySeq } } :=
      ih.linked fun l x hx _ => by cases l <;> exact hx
    exact ite ih (hseq.onUpLinks _ fun q x hx _ => by rw [admitNormal]; exact hx)
  | withdrawFrame b tag _ ih => exact ih.linked fun l x hx _ => by cases l <;> exact hx

/-- The answer to a request fills its reservations. -/
theorem answer (k : Ticket) (r : Reply) (h : Grows gone s t) : Grows (gone ++ [k.number]) s (t.answer k (some r)) := by
  rw [State.answer, State.respond_eq]
  refine h.trans ⟨fun _ h => h, fun l x hx hl => ?_, fun hn => absurd hn (by simp), fun _ => List.prefix_rfl⟩
  have hfill : ∀ (f : OutFrame) (p : LinkPort), x ∈ p.bulk → x ∈ (p.fill k.number f).1.bulk := fun f p hp => by
    rw [LinkPort.fill]
    split
    · refine List.mem_map.2 ⟨x, hp, if_neg ?_⟩
      cases x with
      | frame f => simp
      | reserved n => simpa [BulkPlace.lasting] using hl
    · exact hp
  cases l <;> exact hfill _ _ hx

end Grows

end


end Sys2Proof.Machine
end

section
/-! # The turns of the streams at a closure -/

namespace Sys2Proof.Machine

section
variable {s t u : State} {k j : Nat} {l : Label}

/-! ### The turn of one stream (R31 to R35, R51) -/

/-- The intake's work for one stream at a closure. -/
def State.streamTurn (k : Nat) (t : State) : State :=
  if (t.stream k).state == .disabled then t
  else (t.modStream k (fun _ => (t.stream k).close t.aligner.closingPoint)).streamEvents k (t.stream k).state
    ((t.stream k).close t.aligner.closingPoint).state

theorem State.intakeWork_turns : s.intakeWork = s.forEach (List.range 16) State.streamTurn := rfl

/-- The phasor engine's work for one stream at a closure. -/
def State.measureTurn (l : Label) (k : Nat) (t : State) : State :=
  if (t.stream k).state == .disabled then t
  else t.modMeasure k (fun m => m.close l t.aligner.nominal (t.fld .stream k 4) (t.stream k).quantities)

theorem State.phasorWork_turns : s.phasorWork l = s.forEach (List.range 16) (State.measureTurn l) := rfl

/-- A stream's event leaves all but the links and the queue. -/
theorem State.streamEvents_shape (k : Nat) (old new : StreamState) : ∃ x e, (s.streamEvents k old new) =
    { s with links := x, events := e } ∧ LinksGrow s.links x := by
  have hevent : ∀ p c, ∃ x e, s.event .stream p k c none = { s with links := x, events := e } ∧ LinksGrow s.links x := fun p c => by
    obtain ⟨x, seqs, hx, h⟩ := s.event_eq .stream p k c none
    exact ⟨x, _, h, hx⟩
  unfold State.streamEvents
  split
  · exact hevent _ _
  · split
    · exact hevent _ _
    · exact ⟨s.links, s.events, rfl, .refl _⟩

/-- What the turns of other streams leave. -/
structure Turns (k : Nat) (s t : State) : Prop where
  stream : t.stream k = s.stream k
  length : t.intake.streams.length = s.intake.streams.length
  closing : t.closing = s.closing
  up : ∀ l, (t.port l).up = (s.port l).up
  touches : Touches [.links, .events, .intake] s t
  grows : Grows [] s t

theorem Turns.refl (k : Nat) (s : State) : Turns k s s := ⟨rfl, rfl, rfl, fun _ => rfl, .refl _ s, .refl s⟩

theorem Turns.trans (h : Turns k s t) (h' : Turns k t u) : Turns k s u :=
  ⟨h'.stream.trans h.stream, h'.length.trans h.length, h'.closing.trans h.closing, fun l => (h'.up l).trans (h.up l),
    h.touches.trans h'.touches, h.grows.next h'.grows⟩

theorem State.streamEvents_grows (k : Nat) (old new : StreamState) : Grows [] s (s.streamEvents k old new) :=
  Grows.ite ((Grows.refl s).event _ _ _ _ _) (Grows.ite ((Grows.refl s).event _ _ _ _ _) (.refl s))

theorem State.streamEvents_touches (k : Nat) (old new : StreamState) :
    Touches [.links, .events, .intake] s (s.streamEvents k old new) :=
  Touches.ite ((Touches.refl _ s).event _ _ _ _ _) (Touches.ite ((Touches.refl _ s).event _ _ _ _ _) (.refl _ s))

/-- The events of stream `j`, for any stream. -/
theorem State.streamEvents_turns (j : Nat) (old new : StreamState) : Turns k s (s.streamEvents j old new) := by
  have htouches := s.streamEvents_touches j old new
  have hgrows := s.streamEvents_grows j old new
  obtain ⟨x, e, h, hx⟩ := s.streamEvents_shape j old new
  rw [h] at htouches hgrows ⊢
  refine ⟨rfl, rfl, rfl, fun l => ?_, htouches, hgrows⟩
  cases l
  · show x.a.up = s.links.a.up
    rw [hx.a.eq]
  · show x.b.up = s.links.b.up
    rw [hx.b.eq]

/-- An update of another stream's record. -/
theorem State.modStream_turns (f : StreamRec → StreamRec) (h : j ≠ k) : Turns k t (t.modStream j f) :=
  ⟨State.stream_modStream_other _ _ h, List.length_modify .., rfl, fun _ => rfl, (Touches.refl _ t).modStream _ _,
    (Grows.refl t).same⟩

theorem State.streamTurn_other (h : j ≠ k) : Turns k t (State.streamTurn j t) := by
  unfold State.streamTurn
  split
  · exact .refl k t
  · exact (State.modStream_turns _ h).trans (State.streamEvents_turns _ _ _)

theorem State.streamTurns_other (ns : List Nat) (h : k ∉ ns) : Turns k t (t.forEach ns State.streamTurn) := by
  unfold State.forEach
  induction ns generalizing t with
  | nil => exact .refl k t
  | cons n ns ih =>
    exact (State.streamTurn_other (List.ne_of_not_mem_cons h).symm).trans (ih (List.not_mem_of_not_mem_cons h))

/-- The turn of a stream that is DISABLED. -/
theorem State.streamTurn_disabled (h : (t.stream k).state = .disabled) : State.streamTurn k t = t := by
  rw [State.streamTurn, if_pos (by rw [h]; rfl)]

/-- The record of a stream at a closure, before its events. -/
def State.streamClosed (k : Nat) (t : State) : State := t.modStream k (fun _ => (t.stream k).close t.aligner.closingPoint)

/-- The turn of a stream that is not DISABLED. -/
theorem State.streamTurn_enabled (h : (t.stream k).state ≠ .disabled) : State.streamTurn k t =
    (t.streamClosed k).streamEvents k (t.stream k).state ((t.stream k).close t.aligner.closingPoint).state := by
  rw [State.streamTurn, if_neg (by simpa using h)]
  rfl

/-! ### Records that stay -/

/-- A record with this label and content is held. -/
def State.Holds (s : State) (l : Label) (c : EventClass) (priority object code : Nat) (value : Option Nat) : Prop :=
  ∃ r ∈ s.events.records, r.at_ = l ∧ (r.cls, r.priority, r.object, r.code, r.value) = (c, priority, object, code, value)

theorem Grows.holds {gone : List Nat} {c : EventClass} {priority object code : Nat} {value : Option Nat} (h : Grows gone s t)
    (hr : s.Holds l c priority object code value) (hlen : t.events.records.length < 128) :
    t.Holds l c priority object code value := by
  obtain ⟨r, hmem, hlabel, hcontent⟩ := hr
  obtain ⟨x, hx, hbare⟩ := List.mem_map.1 ((h.records hlen).subset (List.mem_map_of_mem hmem))
  have hfields : x.at_ = r.at_ ∧ (x.cls, x.priority, x.object, x.code, x.value) = (r.cls, r.priority, r.object, r.code, r.value) := by
    simp only [EventRecord.bare, EventRecord.mk.injEq] at hbare
    simp [hbare]
  exact ⟨x, hx, hfields.1.trans hlabel, hfields.2.trans hcontent⟩

theorem State.event_holds {c : EventClass} {priority object code : Nat} {value : Option Nat} :
    (s.event c priority object code value).Holds s.eventLabel c priority object code value := by
  have hnewest := State.event_newest s c priority object code value
  rw [State.newest] at hnewest
  obtain ⟨r, hlast, hr⟩ := Option.map_eq_some_iff.1 hnewest
  simp only [EventRecord.mk.injEq] at hr
  exact ⟨r, List.mem_of_getLast? hlast, by simp [hr], by simp [hr]⟩

/-! ### The streams and the measurements of a closure -/

/-- The state in which the streams have closed the instant. -/
def State.streamed (s : State) : State := State.intakeWork { s with closing := some s.closingLabel }

theorem State.measured_eq : s.measured = s.streamed.passClosingPoint.phasorWork s.closingLabel := rfl

/-- Around the turn of stream `k`. -/
theorem State.streamed_turn (hk : k < 16) : ∃ v, Turns k { s with closing := some s.closingLabel } v ∧
    Turns k (State.streamTurn k v) s.streamed := by
  obtain ⟨as, bs, has, hbs, hsplit⟩ := State.forEach_turn (F := State.streamTurn) List.nodup_range (List.mem_range.2 hk)
  refine ⟨_, State.streamTurns_other as has, ?_⟩
  rw [State.streamed, State.intakeWork_turns, hsplit]
  exact State.streamTurns_other bs hbs

theorem State.streamed_stream (hk : k < 16) (hlen : s.intake.streams.length = 16) : s.streamed.stream k =
    if (s.stream k).state = .disabled then s.stream k else (s.stream k).close s.aligner.closingPoint := by
  obtain ⟨v, hv, hw⟩ := s.streamed_turn hk
  have hstream : v.stream k = s.stream k := hv.stream
  have hpoint : v.aligner = s.aligner := hv.touches.stands .aligner (by decide)
  rw [hw.stream]
  split
  · next h => rw [State.streamTurn_disabled (by rw [hstream, h]), hstream]
  · next h =>
    rw [State.streamTurn_enabled (by rw [hstream]; exact h), (State.streamEvents_turns (k := k) k _ _).stream, State.streamClosed,
      State.stream_modStream_same _ _ (by rw [hv.length]; exact hlen ▸ hk), hstream, hpoint]

/-- A stream's event of a closure is recorded under its label. -/
theorem State.streamed_records (hk : k < 16) (he : (s.stream k).state ≠ .disabled) :
    ∃ v : State, v.closing = some s.closingLabel ∧ Grows [] (v.streamEvents k (s.stream k).state
      ((s.stream k).close s.aligner.closingPoint).state) s.streamed := by
  obtain ⟨v, hv, hw⟩ := s.streamed_turn hk
  have hstream : v.stream k = s.stream k := hv.stream
  have hpoint : v.aligner = s.aligner := hv.touches.stands .aligner (by decide)
  rw [State.streamTurn_enabled (by rw [hstream]; exact he), hstream, hpoint] at hw
  exact ⟨v.streamClosed k, hv.closing, hw.grows⟩

/-- What the turns of every stream leave. -/
structure Intakes (s t : State) : Prop where
  length : t.intake.streams.length = s.intake.streams.length
  closing : t.closing = s.closing
  up : ∀ l, (t.port l).up = (s.port l).up
  touches : Touches [.links, .events, .intake] s t
  grows : Grows [] s t

theorem Turns.intakes (h : Turns k s t) : Intakes s t := ⟨h.length, h.closing, h.up, h.touches, h.grows⟩

theorem Intakes.trans (h : Intakes s t) (h' : Intakes t u) : Intakes s u :=
  ⟨h'.length.trans h.length, h'.closing.trans h.closing, fun l => (h'.up l).trans (h.up l), h.touches.trans h'.touches,
    h.grows.next h'.grows⟩

theorem State.streamTurn_intakes (k : Nat) (t : State) : Intakes t (State.streamTurn k t) :=
  (State.streamTurn_other (Nat.ne_of_lt (Nat.lt_succ_self k))).intakes

theorem State.streamed_intakes (s : State) : Intakes { s with closing := some s.closingLabel } s.streamed := by
  rw [State.streamed, State.intakeWork_turns]
  unfold State.forEach
  generalize List.range 16 = ns
  generalize ({ s with closing := some s.closingLabel } : State) = t
  induction ns generalizing t with
  | nil => exact ⟨rfl, rfl, fun _ => rfl, .refl _ t, .refl t⟩
  | cons n ns ih => exact (State.streamTurn_intakes n t).trans (ih _)

/-- A closure never leaves a stream DISABLED. -/
theorem StreamRec.close_enabled (r : StreamRec) (c : Nat) : (r.close c).state ≠ .disabled := by
  simp only [StreamRec.close, stateOfQuantities]
  repeat' split
  all_goals decide

theorem State.measureTurn_shape (k : Nat) : ∃ q, State.measureTurn l k t = { t with measures := q } := by
  unfold State.measureTurn
  split
  · exact ⟨t.measures, rfl⟩
  · exact ⟨_, rfl⟩

theorem State.measureTurns_shape (ns : List Nat) : ∃ q, t.forEach ns (State.measureTurn l) = { t with measures := q } := by
  unfold State.forEach
  induction ns generalizing t with
  | nil => exact ⟨t.measures, rfl⟩
  | cons n ns ih =>
    obtain ⟨q, hq⟩ := State.measureTurn_shape (t := t) (l := l) n
    obtain ⟨q', hq'⟩ := ih (t := { t with measures := q })
    exact ⟨q', by rw [List.foldl_cons, hq, hq']⟩

theorem State.measureTurns_other (ns : List Nat) (h : k ∉ ns) : (t.forEach ns (State.measureTurn l)).measure k = t.measure k ∧
    (t.forEach ns (State.measureTurn l)).measures.length = t.measures.length := by
  unfold State.forEach
  induction ns generalizing t with
  | nil => exact ⟨rfl, rfl⟩
  | cons n ns ih =>
    have hturn : (State.measureTurn l n t).measure k = t.measure k ∧
        (State.measureTurn l n t).measures.length = t.measures.length := by
      unfold State.measureTurn
      split
      · exact ⟨rfl, rfl⟩
      · exact ⟨State.measure_modMeasure_other _ _ (List.ne_of_not_mem_cons h).symm, List.length_modify ..⟩
    obtain ⟨hmeasure, hlen⟩ := ih (t := State.measureTurn l n t) (List.not_mem_of_not_mem_cons h)
    exact ⟨hmeasure.trans hturn.1, hlen.trans hturn.2⟩

/-- The measurements alone move in the phasor engine's work. -/
theorem State.measured_shape (s : State) : ∃ q, s.measured = { s.streamed.passClosingPoint with measures := q } :=
  State.measureTurns_shape _

theorem State.phasorWork_measure (hk : k < 16) (hlen : t.measures.length = 16) : (t.phasorWork l).measure k =
    if (t.stream k).state = .disabled then t.measure k
    else (t.measure k).close l t.aligner.nominal (t.fld .stream k 4) (t.stream k).quantities := by
  obtain ⟨as, bs, has, hbs, hsplit⟩ := State.forEach_turn (F := State.measureTurn l) List.nodup_range (List.mem_range.2 hk)
  obtain ⟨hfirst, hfirstlen⟩ := State.measureTurns_other (t := t) (l := l) as has
  obtain ⟨q, hq⟩ := State.measureTurns_shape (t := t) (l := l) as
  rw [State.phasorWork_turns, hsplit, (State.measureTurns_other bs hbs).1]
  rw [hq] at hfirst hfirstlen ⊢
  generalize hv : ({ t with measures := q } : State) = v at hfirst hfirstlen ⊢
  have hstream : v.stream k = t.stream k := by rw [← hv]; rfl
  rw [State.measureTurn, hstream]
  by_cases h : (t.stream k).state = .disabled
  · rw [if_pos (by simp [h]), if_pos h, hfirst]
  · rw [if_neg (by simpa using h), if_neg h, State.measure_modMeasure_same _ _ (by rw [hfirstlen, hlen]; exact hk), hfirst, ← hv]
    rfl

/-- What the engine leaves of the state in which the streams have closed the instant. -/
structure Computes (v m : State) : Prop where
  intake : m.intake = v.intake
  closing : m.closing = v.closing
  aligner : m.aligner = v.passClosingPoint.aligner
  links : m.links = v.links
  events : m.events = v.events
  breakers : m.breakers = v.breakers

theorem State.measured_computes (s : State) : Computes s.streamed s.measured := by
  obtain ⟨q, hq⟩ := s.measured_shape
  generalize s.streamed = v at *
  rw [hq]
  exact ⟨rfl, rfl, rfl, rfl, rfl, rfl⟩

end


end Sys2Proof.Machine
end

section
/-! # The state with the measurements of a closure -/

namespace Sys2Proof.Machine

section
variable {s t u : State} {k : Nat} {l : Label} {pin : Bool}

/-! ### The state with the measurements of the closure -/

theorem State.measured_mgmt (s : State) : s.measured.mgmt = s.mgmt := s.measured_touches.stands .mgmt (by decide)

theorem State.measured_fld (s : State) (x : TableId) (e id : Nat) : s.measured.fld x e id = s.fld x e id := by
  rw [State.fld, State.measured_mgmt, State.fld]

theorem State.streamed_aligner (s : State) : s.streamed.aligner = s.aligner := s.streamed_intakes.touches.stands .aligner (by decide)

theorem State.measured_stream_eq (s : State) (k : Nat) : s.measured.stream k = s.streamed.stream k := by
  rw [State.stream, s.measured_computes.intake, State.stream]

theorem State.measured_stream (hs : s.Quiet) (hk : k < 16) : s.measured.stream k =
    if (s.stream k).state = .disabled then s.stream k else (s.stream k).close s.aligner.closingPoint :=
  (s.measured_stream_eq k).trans (State.streamed_stream hk hs.streams_length)

theorem State.measured_enabled (hs : s.Quiet) (hk : k < 16) : (s.measured.stream k).state = .disabled ↔ (s.stream k).state = .disabled := by
  rw [State.measured_stream hs hk]
  split
  · rfl
  · next h => exact iff_of_false (StreamRec.close_enabled _ _) h

theorem State.measured_aligner (s : State) : s.measured.aligner = { s.aligner with
    closingPoint := s.shifted s.aligner.closingPoint 1, lastClosed := some s.closingLabel } := by
  have hpass : ∀ v : State, v.aligner = s.aligner → v.passClosingPoint.aligner = { s.aligner with
      closingPoint := s.shifted s.aligner.closingPoint 1, lastClosed := some s.closingLabel } := fun v hv => by
    have hshift : ∀ p d, v.shifted p d = s.shifted p d := fun p d => by
      simp only [State.shifted, State.span, State.perSecond, hv]
    have hlabel : ∀ p, v.labelOf p = s.labelOf p := fun p => by
      simp only [State.labelOf, State.perSecond, hv]
    show ({ v.aligner with
      closingPoint := v.shifted v.aligner.closingPoint 1
      lastClosed := some (v.labelOf v.aligner.closingPoint) } : Aligner) = _
    rw [hshift, hlabel, hv]
    rfl
  rw [s.measured_computes.aligner]
  exact hpass _ s.streamed_aligner

theorem State.measured_closing (s : State) : s.measured.closing = some s.closingLabel :=
  s.measured_computes.closing.trans s.streamed_intakes.closing

theorem State.measured_up (s : State) (l : Link) : (s.measured.port l).up = (s.port l).up := by
  have hport : s.measured.port l = s.streamed.port l := by simp only [State.port, s.measured_computes.links]
  rw [hport]
  exact s.streamed_intakes.up l

theorem State.streamed_measured (s : State) : Grows [] s.streamed s.measured :=
  (Grows.refl _).same (by rw [s.measured_computes.breakers]) s.measured_computes.links s.measured_computes.events

theorem State.measured_grows (s : State) : Grows [] s s.measured := by
  refine Grows.next ?_ s.streamed_measured
  refine Grows.next ?_ s.streamed_intakes.grows
  exact (Grows.refl s).same

theorem State.measured_measure (hs : s.Quiet) (hk : k < 16) : s.measured.measure k = if (s.stream k).state = .disabled
    then s.measure k else (s.measure k).close s.closingLabel s.aligner.nominal (s.fld .stream k 4) (s.measured.stream k).quantities := by
  have htouches := s.streamed_intakes.touches
  have hmeasures : s.streamed.measures = s.measures := htouches.stands .measures (by decide)
  have hmgmt : s.streamed.mgmt = s.mgmt := htouches.stands .mgmt (by decide)
  have hpassed : ∀ v : State, v.aligner = s.aligner → v.measures = s.measures → v.mgmt = s.mgmt →
      v.passClosingPoint.measures.length = 16 ∧ v.passClosingPoint.measure k = s.measure k ∧
      v.passClosingPoint.aligner.nominal = s.aligner.nominal ∧ v.passClosingPoint.fld .stream k 4 = s.fld .stream k 4 ∧
      v.passClosingPoint.stream k = v.stream k := fun v ha hq hm =>
    ⟨(congrArg List.length hq).trans hs.measures_length, congrArg (nth · k) hq, (by show v.aligner.nominal = _; rw [ha]),
      (by show v.fld .stream k 4 = _; rw [State.fld, hm, State.fld]), rfl⟩
  obtain ⟨hlen, hmeasure, hnominal, hfld, hstream⟩ := hpassed _ s.streamed_aligner hmeasures hmgmt
  have hwork := State.phasorWork_measure (l := s.closingLabel) hk hlen
  rw [hmeasure, hnominal, hfld, hstream, ← s.measured_stream_eq, ← State.measured_eq] at hwork
  rw [hwork]
  by_cases h : (s.stream k).state = .disabled
  · rw [if_pos h, if_pos ((State.measured_enabled hs hk).2 h)]
  · rw [if_neg h, if_neg fun hd => h ((State.measured_enabled hs hk).1 hd)]

/-- The points but STREAM_VALID stand where what they are a view of stands (R80). -/
theorem State.point_stands {n : Nat} (hn : ¬ (208 ≤ n ∧ n < 224)) (hbrk : t.breakers = s.breakers) (helements : t.elements = s.elements)
    (hpar : t.par = s.par) (hseq : t.seq = s.seq) (hlines : t.lines = s.lines) (hcapture : t.capture = s.capture)
    (hmgmt : t.mgmt = s.mgmt) (htime : t.aligner.time = s.aligner.time) (ha : t.links.a.up = s.links.a.up)
    (hb : t.links.b.up = s.links.b.up) : t.point n = s.point n := by
  simp only [State.point, State.run?, State.parallelRuns, State.source, State.gen, State.channel, State.brk, State.element, hbrk,
    helements, hpar, hseq, hlines, hcapture, htime, ha, hb, hmgmt]
  by_cases hlow : n < 208
  · simp only [hlow, if_true]
  · simp only [hlow, if_false, if_neg (show ¬ n < 224 by omega)]

/-- A point as the elements read it (R61). -/
theorem State.measured_point (s : State) {n : Nat} (hn : ¬ (208 ≤ n ∧ n < 224)) : s.measured.point n = s.point n := by
  have htouches := s.measured_touches
  have ha := s.measured_up .a
  have hb := s.measured_up .b
  have htime := congrArg Aligner.time s.measured_aligner
  have hmgmt := s.measured_mgmt
  generalize s.measured = m at *
  exact State.point_stands hn (htouches.stands .breakers (by decide)) (htouches.stands .elements (by decide))
    (htouches.stands .par (by decide)) (htouches.stands .seq (by decide)) (htouches.stands .lines (by decide))
    (htouches.stands .capture (by decide)) hmgmt htime ha hb

end


end Sys2Proof.Machine
end

section
/-! # The turn of one element at a closure -/

namespace Sys2Proof.Machine

section
variable {s t u : State} {e d : Nat} {image : List Bool}

/-! ### The turn of one element (R58, R75, R77) -/

/-- What the turns of other elements leave. -/
structure Guards (e : Nat) (s t : State) : Prop where
  element : t.element e = s.element e
  length : t.elements.length = s.elements.length
  mgmt : t.mgmt = s.mgmt
  measures : t.measures = s.measures
  closing : t.closing = s.closing
  responses : t.links.responseSeq = s.links.responseSeq
  grows : Grows [] s t

namespace Guards

theorem refl (e : Nat) (s : State) : Guards e s s := ⟨rfl, rfl, rfl, rfl, rfl, rfl, .refl s⟩

theorem trans (h : Guards e s t) (k : Guards e t u) : Guards e s u :=
  ⟨k.element.trans h.element, k.length.trans h.length, k.mgmt.trans h.mgmt, k.measures.trans h.measures,
    k.closing.trans h.closing, k.responses.trans h.responses, h.grows.next k.grows⟩

theorem ite {c : Prop} [Decidable c] (ha : Guards e s t) (hb : Guards e s u) : Guards e s (if c then t else u) := by
  split <;> assumption

theorem forEach (ns : List Nat) (f : Nat → State → State) (h : Guards e s t)
    (hf : ∀ n ∈ ns, ∀ t, Guards e s t → Guards e s (f n t)) : Guards e s (t.forEach ns f) := by
  unfold State.forEach
  induction ns generalizing t with
  | nil => exact h
  | cons n ns ih =>
    exact ih (hf n List.mem_cons_self t h) fun m hm => hf m (List.mem_cons_of_mem _ hm)

theorem event (c : EventClass) (p o k : Nat) (v : Option Nat) (h : Guards e s t) : Guards e s (t.event c p o k v) := by
  have hnumber : (t.event c p o k v).links.responseSeq = t.links.responseSeq := by
    obtain ⟨x, seqs, hx, he⟩ := t.event_eq c p o k v
    rw [he]
    show x.responseSeq = _
    rw [hx.eq]
  exact h.trans ⟨State.event_element .., by rw [State.event_elements], State.event_mgmt .., State.event_measures ..,
    State.event_closing .., hnumber, (Grows.refl t).event c p o k v⟩

theorem ask (q : DemandRequest) (h : Guards e s t) :
    Guards e s { t with breakers := { t.breakers with requests := t.breakers.requests ++ [q] } } :=
  h.trans ⟨rfl, rfl, rfl, rfl, rfl, rfl, (Grows.refl t).work (Evolves.refl.ask q)⟩

theorem modElement (f : ElementRec → ElementRec) (hd : d ≠ e) (h : Guards e s t) : Guards e s (t.modElement d f) :=
  h.trans ⟨State.element_modElement_other _ _ hd, List.length_modify .., rfl, rfl, rfl, rfl, (Grows.refl t).same⟩

theorem asks (bs : List Nat) (q : Nat → DemandRequest) (h : Guards e s t) : Guards e s (t.forEach bs fun b t =>
    { t with breakers := { t.breakers with requests := t.breakers.requests ++ [q b] } }) :=
  h.forEach _ _ fun b _ _ ht => ht.ask (q b)

theorem outputs (d : Nat) (trips : List Nat) (old new : ElementState) (x : Int) (h : Guards e s t) :
    Guards e s (t.elementOutputs d trips old new x) := by
  have hin := ite (c := (new == .operated && old != .operated) = true)
    ((h.asks trips fun b => ⟨true, b, .element d⟩).event .protection 13 d 1 (some (unsignedOf 32 x))) h
  have hout := ite (c := (old == .operated && new != .operated) = true)
    ((hin.asks trips fun b => ⟨false, b, .element d⟩).event .protection 7 d 2 (if new == .armed then none else some 1)) hin
  exact ite (hout.event _ _ _ _ _) (ite (hout.event _ _ _ _ _) hout)

theorem elementWork (hd : d ≠ e) (h : Guards e s t) : Guards e s (State.elementWork image d t) :=
  (h.modElement _ hd).outputs _ _ _ _ _

theorem activateElement (old : Table) (hd : d ≠ e) (h : Guards e s t) : Guards e s (t.activateElement old d) := by
  refine ite h (ite ((h.modElement _ hd).outputs _ _ _ _ _) (ite ?_ h))
  exact (h.asks _ fun b => ⟨false, b, .element d⟩).asks _ fun b => ⟨true, b, .element d⟩

end Guards

/-- What an element reads at a closure does not depend on the other elements. -/
theorem State.elementInput_congr (hm : t.mgmt = s.mgmt) (hq : t.measures = s.measures) (c : Settings) :
    t.elementInput image e c = s.elementInput image e c ∧ t.settings e = s.settings e ∧ t.activeBank image e = s.activeBank image e ∧
      t.tripSet e = s.tripSet e := by
  have hfld : ∀ x d i, t.fld x d i = s.fld x d i := fun x d i => by rw [State.fld, hm, State.fld]
  have hmeasure : ∀ k, t.measure k = s.measure k := fun k => by rw [State.measure, hq, State.measure]
  have hphasor : ∀ k q, t.phasor k q = s.phasor k q := fun k q => by rw [State.phasor, hmeasure, State.phasor]
  refine ⟨?_, funext fun b => ?_, ?_, ?_⟩
  · simp only [State.elementInput, State.operatingQuantity, State.inputValid, hfld, hmeasure, hphasor]
  · simp only [State.settings, hfld]
  · simp only [State.activeBank, hfld]
  · simp only [State.tripSet, hfld]

/-- The record of element `e` after its work in the state `s` at a closure. -/
def State.worked (image : List Bool) (e : Nat) (s : State) : ElementRec :=
  (s.element e).work (s.settings e (s.activeBank image e)) (s.activeBank image e)
    (s.elementInput image e (s.settings e (s.activeBank image e)))

/-- The outputs of element `e` after its work in the state `s` at a closure. -/
theorem State.elementWork_eq : State.elementWork image e s = (s.modElement e (fun _ => s.worked image e)).elementOutputs e
    (s.tripSet e) (s.element e).state (s.worked image e).state (s.worked image e).lastX := rfl

/-- Around the turn of element `e`. -/
theorem State.protectionWork_turn (he : e < 64) : ∃ v, Guards e s v ∧
    Guards e (State.elementWork image e v) (s.protectionWork image) := by
  obtain ⟨as, bs, has, hbs, hsplit⟩ := State.forEach_turn (F := State.elementWork image) List.nodup_range (List.mem_range.2 he)
  refine ⟨s.forEach as (State.elementWork image), ?_, ?_⟩
  · exact (Guards.refl e s).forEach _ _ fun n hn _ ht => ht.elementWork fun h => has (h ▸ hn)
  · rw [State.protectionWork, hsplit]
    exact (Guards.refl e _).forEach _ _ fun n hn _ ht => ht.elementWork fun h => hbs (h ▸ hn)

/-- The outputs of an element leave its record. -/
theorem State.elementOutputs_element (trips : List Nat) (old new : ElementState) (x : Int) :
    (s.elementOutputs d trips old new x).element e = s.element e := ((Guards.refl e s).outputs d trips old new x).element

end


end Sys2Proof.Machine
end

section
/-! # The outputs of an element, and its turn in an activation -/

namespace Sys2Proof.Machine

section
variable {s t u : State} {e : Nat} {x : TableId} {w : CommitWait} {image : List Bool}

/-! ### A content that becomes active (R77, R183) -/

theorem State.Quiet.staging_length (h : s.Quiet) : s.mgmt.staging.length = 13 := by
  obtain ⟨-, -, -, -, -, -, -, -, -, -, -, hcounts⟩ := h
  obtain ⟨-, -, -, -, -, -, -, -, -, hstaging, -⟩ := hcounts
  exact hstaging

theorem TableId.number_lt (x : TableId) : x.number < 13 := by cases x <;> decide

theorem TableId.number_inj {x y : TableId} (h : x.number = y.number) : x = y := by
  cases x <;> cases y <;> first | rfl | exact absurd h (by decide)

theorem State.fld_of_table {y : TableId} (h : t.table y = s.table y) (d id : Nat) : t.fld y d id = s.fld y d id := by
  rw [State.table, State.table] at h
  rw [State.fld, State.fld, tableField, tableField, h]

theorem mem_bitSet {n b : Nat} (hb : b < 24) : b ∈ bitSet n 24 ↔ n / 2 ^ b % 2 = 1 := by
  simp [bitSet, bitOf, hb]

/-! ### Element `e` under an activation of ELEMENT -/

/-- What an activation does to element `e` (R77), its fields in force before and after it being those of `s` and of `t`. -/
structure Activates (e : Nat) (s t : State) : Prop where
  kept : ¬ Clause.resetAt s t e → t.element e = s.element e
  reset : Clause.resetAt s t e → t.element e = (s.element e).startSettling
  length : t.elements.length = s.elements.length
  measures : t.measures = s.measures
  closing : t.closing = s.closing
  grows : ∃ gone, Grows gone s t
  leaves : ∀ b < 24, (s.element e).state = .operated → s.fld .element e 8 / 2 ^ b % 2 = 1 →
    (t.fld .element e 8 / 2 ^ b % 2 ≠ 1 ∨ Clause.resetAt s t e) → ⟨false, b, .element e⟩ ∈ t.breakers.requests
  joins : ∀ b < 24, (s.element e).state = .operated → ¬ Clause.resetAt s t e → s.fld .element e 8 / 2 ^ b % 2 ≠ 1 →
    t.fld .element e 8 / 2 ^ b % 2 = 1 → ⟨true, b, .element e⟩ ∈ t.breakers.requests

theorem resetAt_congr {s' t' : State} (hs : ∀ id, s'.fld .element e id = s.fld .element e id)
    (ht : ∀ id, t'.fld .element e id = t.fld .element e id) : Clause.resetAt s' t' e ↔ Clause.resetAt s t e := by
  simp only [Clause.resetAt, hs, ht]

/-- A change that leaves the table ELEMENT and the elements. -/
theorem Activates.of_same (hfld : ∀ id, t.fld .element e id = s.fld .element e id) (he : t.elements = s.elements)
    (hq : t.measures = s.measures) (hc : t.closing = s.closing) (hg : ∃ gone, Grows gone s t) : Activates e s t := by
  have hreset : ¬ Clause.resetAt s t e := by
    rintro ⟨id, -, h⟩
    exact h (hfld id).symm
  refine ⟨fun _ => by rw [State.element, he, State.element], fun h => absurd h hreset, by rw [he], hq, hc, hg, ?_, ?_⟩
  · intro b _ _ hb h
    rw [hfld] at h
    exact (h.elim (fun h => h hb) hreset).elim
  · intro b _ _ _ hb h
    exact absurd (hfld 8 ▸ h) hb

/-! ### The outputs of one element (R75, R76) -/

theorem State.asking_requests (q : DemandRequest) (qs : List DemandRequest) (h : q ∈ qs) : q ∈ (s.asking qs).breakers.requests :=
  List.mem_append_right _ h

/-- An element that enters OPERATED. -/
theorem State.elementOutputs_enters (trips : List Nat) {old : ElementState} (x : Int) (h : old ≠ .operated) :
    s.elementOutputs e trips old .operated x =
      (s.asking (trips.map (fun b => ⟨true, b, .element e⟩))).event .protection 13 e 1 (some (unsignedOf 32 x)) := by
  have hasks : s.forEach trips (fun b u => u.askAdd b (.element e)) = s.asking (trips.map (fun b => ⟨true, b, .element e⟩)) :=
    State.forEach_askAdd _ _ s
  simp [State.elementOutputs, h, hasks]

/-- An element that leaves OPERATED. -/
theorem State.elementOutputs_leaves (trips : List Nat) {new : ElementState} (x : Int) (h : new ≠ .operated) :
    Grows [] ((s.asking (trips.map (fun b => ⟨false, b, .element e⟩))).event .protection 7 e 2
      (if new == .armed then none else some 1)) (s.elementOutputs e trips .operated new x) := by
  have hasks : s.forEach trips (fun b u => u.askRemove b (.element e)) = s.asking (trips.map (fun b => ⟨false, b, .element e⟩)) :=
    State.forEach_askRemove _ _ s
  have hleft : s.elementOutputs e trips .operated new x =
      (let left := (s.asking (trips.map (fun b => ⟨false, b, .element e⟩))).event .protection 7 e 2
        (if new == .armed then none else some 1)
      if new == .blocked .input && ElementState.operated != new then left.event .protection 9 e 3 (some 2)
      else if new == .blocked .supervision && ElementState.operated != new then left.event .protection 9 e 3 (some 3)
      else left) := by
    simp [State.elementOutputs, h, hasks]
  rw [hleft]
  exact Grows.ite ((Grows.refl _).event _ _ _ _ _) (Grows.ite ((Grows.refl _).event _ _ _ _ _) (.refl _))

/-- An element that leaves OPERATED at dropout. -/
theorem State.elementOutputs_drops (trips : List Nat) (x : Int) : s.elementOutputs e trips .operated .armed x =
    (s.asking (trips.map (fun b => ⟨false, b, .element e⟩))).event .protection 7 e 2 none := by
  have hasks : s.forEach trips (fun b u => u.askRemove b (.element e)) = s.asking (trips.map (fun b => ⟨false, b, .element e⟩)) :=
    State.forEach_askRemove _ _ s
  simp [State.elementOutputs, hasks]

/-- The requests of an element that enters OPERATED, or leaves it. -/
theorem State.elementOutputs_requests {b : Nat} {trips : List Nat} {old new : ElementState} {x : Int} (hb : b ∈ trips) :
    (old ≠ .operated → new = .operated → ⟨true, b, .element e⟩ ∈ (s.elementOutputs e trips old new x).breakers.requests) ∧
    (old = .operated → new ≠ .operated → ⟨false, b, .element e⟩ ∈ (s.elementOutputs e trips old new x).breakers.requests) := by
  refine ⟨?_, ?_⟩
  · rintro hold rfl
    rw [State.elementOutputs_enters trips x hold, State.event_breakers]
    exact State.asking_requests _ _ (List.mem_map_of_mem hb)
  · rintro rfl hnew
    refine (State.elementOutputs_leaves trips x hnew).requests ?_
    rw [State.event_breakers]
    exact State.asking_requests _ _ (List.mem_map_of_mem hb)

/-! ### The turn of element `e` in an activation (R77) -/

/-- The requests of an activation for one element, and its record, in its own turn. -/
theorem State.activateElement_turn (v : State) (old : Table) (hlen : e < v.elements.length) :
    let before : Entry := old.getD e []
    let after : Entry := (v.table .element).getD e []
    let t := v.activateElement old e
    (elementReset before after = false → t.element e = v.element e) ∧
    (elementReset before after = true → t.element e = (v.element e).startSettling) ∧
    (∀ b, (v.element e).state = .operated → b ∈ bitSet (before.get 8) 24 →
      (b ∉ bitSet (after.get 8) 24 ∨ elementReset before after = true) → ⟨false, b, .element e⟩ ∈ t.breakers.requests) ∧
    (∀ b, (v.element e).state = .operated → elementReset before after = false → b ∉ bitSet (before.get 8) 24 →
      b ∈ bitSet (after.get 8) 24 → ⟨true, b, .element e⟩ ∈ t.breakers.requests) := by
  dsimp only
  unfold State.activateElement
  dsimp only
  generalize (v.table .element).getD e [] = after
  generalize old.getD e [] = before
  have hself : elementReset before before = false := by simp [elementReset]
  by_cases heq : before = after
  · rw [if_pos (by simpa using heq)]
    subst heq
    refine ⟨fun _ => rfl, fun h => ?_, fun b _ hb h => ?_, fun b _ _ h hb => absurd hb h⟩
    · rw [hself] at h
      exact absurd h (by decide)
    · rw [hself] at h
      exact absurd h (by simp [hb])
  rw [if_neg (by simpa using heq)]
  by_cases hreset : elementReset before after = true
  · rw [if_pos hreset]
    refine ⟨fun h => absurd hreset (by simp [h]), fun _ => ?_, fun b hop hb _ => ?_, fun b _ h => absurd hreset (by simp [h])⟩
    · rw [State.elementOutputs_element, State.element_modElement_same _ _ hlen]
    · exact (State.elementOutputs_requests hb).2 hop (by decide)
  · rw [if_neg hreset]
    by_cases hop : (v.element e).state = .operated
    · rw [if_pos (by simp [hop]), State.forEach_askRemove, State.forEach_askAdd]
      refine ⟨fun _ => rfl, fun h => absurd h hreset, fun b _ hb h => ?_, fun b _ _ hb h => ?_⟩
      · refine List.mem_append_left _ (List.mem_append_right _ (List.mem_map_of_mem (List.mem_filter.2 ⟨hb, ?_⟩)))
        simpa using h.resolve_right hreset
      · exact List.mem_append_right _ (List.mem_map_of_mem (List.mem_filter.2 ⟨h, by simpa using hb⟩))
    · rw [if_neg (by simpa using hop)]
      exact ⟨fun _ => rfl, fun h => absurd h hreset, fun b h => absurd h hop, fun b h => absurd h hop⟩

end


end Sys2Proof.Machine
end

section
/-! # An activation of ELEMENT -/

namespace Sys2Proof.Machine

section
variable {s t u : State} {e : Nat} {x : TableId} {w : CommitWait} {image : List Bool} {gone : List Nat}

/-! ### What follows or precedes an activation -/

theorem Activates.refl (e : Nat) (s : State) : Activates e s s :=
  .of_same (fun _ => rfl) rfl rfl rfl ⟨[], .refl s⟩

theorem Activates.same (h : Activates e s t) (hfld : ∀ id, u.fld .element e id = t.fld .element e id)
    (he : u.elements = t.elements) (hq : u.measures = t.measures) (hc : u.closing = t.closing) (hg : Grows gone t u) :
    Activates e s u := by
  have hreset := resetAt_congr (e := e) (s := s) (t := t) (s' := s) (t' := u) (fun _ => rfl) hfld
  have helement : u.element e = t.element e := by rw [State.element, he, State.element]
  obtain ⟨gone, hgone⟩ := h.grows
  refine ⟨fun hr => helement.trans (h.kept (hreset.not.1 hr)), fun hr => helement.trans (h.reset (hreset.1 hr)), ?_, hq.trans h.measures,
    hc.trans h.closing, ⟨_, hgone.trans hg⟩, fun b hb hop hbefore hafter => hg.requests (h.leaves b hb hop hbefore ?_),
    fun b hb hop hr hbefore hafter => hg.requests (h.joins b hb hop (hreset.not.1 hr) hbefore ?_)⟩
  · rw [he, h.length]
  · rw [hfld] at hafter
    exact hafter.imp_right hreset.1
  · rwa [hfld] at hafter

theorem Activates.after (h : Activates e t u) (hfld : ∀ id, t.fld .element e id = s.fld .element e id)
    (he : t.elements = s.elements) (hq : t.measures = s.measures) (hc : t.closing = s.closing) (hg : Grows gone s t) :
    Activates e s u := by
  have hreset := resetAt_congr (e := e) (s := t) (t := u) (s' := s) (t' := u) (fun id => (hfld id).symm) fun _ => rfl
  have helement : t.element e = s.element e := by rw [State.element, he, State.element]
  obtain ⟨gone', hgone⟩ := h.grows
  refine ⟨fun hr => (h.kept (hreset.not.1 hr)).trans helement, fun hr => ?_, ?_, h.measures.trans hq, h.closing.trans hc,
    ⟨_, hg.trans hgone⟩, fun b hb hop hbefore hafter => h.leaves b hb ?_ ?_ (hafter.imp_right hreset.1),
    fun b hb hop hr hbefore hafter => h.joins b hb ?_ (hreset.not.1 hr) ?_ hafter⟩
  · rw [h.reset (hreset.1 hr), helement]
  · rw [h.length, he]
  · rwa [helement]
  · rwa [hfld]
  · rwa [helement]
  · rwa [hfld]

/-- Around the turn of element `e` in an activation of ELEMENT. -/
theorem State.activateElements_turn (he : e < 64) (new : Table) : ∃ v, Guards e (s.setTable .element new) v ∧
    Guards e (v.activateElement (s.table .element) e) (s.activateElements new) := by
  obtain ⟨as, bs, has, hbs, hsplit⟩ := State.forEach_turn (F := fun e t => t.activateElement (s.table .element) e) List.nodup_range
    (List.mem_range.2 he)
  refine ⟨(s.setTable .element new).forEach as fun e t => t.activateElement (s.table .element) e, ?_, ?_⟩
  · exact (Guards.refl e _).forEach _ _ fun n hn _ ht => ht.activateElement _ fun h => has (h ▸ hn)
  · rw [State.activateElements, hsplit]
    exact (Guards.refl e _).forEach _ _ fun n hn _ ht => ht.activateElement _ fun h => hbs (h ▸ hn)

/-- The turn of an element leaves the tables and the measurements. -/
theorem State.activateElement_rest (v : State) (old : Table) (e : Nat) : (v.activateElement old e).mgmt = v.mgmt ∧
    (v.activateElement old e).measures = v.measures ∧ (v.activateElement old e).closing = v.closing ∧
    (v.activateElement old e).links.responseSeq = v.links.responseSeq ∧
    (v.activateElement old e).elements.length = v.elements.length ∧ Grows [] v (v.activateElement old e) := by
  have hguards := (Guards.refl (e + 1) v).activateElement old (Nat.ne_of_lt (Nat.lt_succ_self e))
  exact ⟨hguards.mgmt, hguards.measures, hguards.closing, hguards.responses, hguards.length, hguards.grows⟩

theorem elementReset_iff {before after : Entry} : elementReset before after = true ↔
    ∃ id ∈ [1, 2, 3, 4], before.get id ≠ after.get id := by
  simp [elementReset, idRun, List.range, List.range.loop]

/-- What an activation of ELEMENT leaves, and its tables. -/
theorem State.activateElements_rest (he : e < 64) (new : Table) : (s.activateElements new).mgmt = (s.setTable .element new).mgmt ∧
    (s.activateElements new).measures = s.measures ∧ (s.activateElements new).closing = s.closing ∧
    (s.activateElements new).links.responseSeq = s.links.responseSeq ∧
    (s.activateElements new).elements.length = s.elements.length ∧ Grows [] s (s.activateElements new) := by
  obtain ⟨v, hv, hlast⟩ := s.activateElements_turn he new
  obtain ⟨hm, hq, hc, hr, hl, hg⟩ := v.activateElement_rest (s.table .element) e
  have hset : Grows [] s (s.setTable .element new) := (Grows.refl s).same
  exact ⟨hlast.mgmt.trans (hm.trans hv.mgmt), hlast.measures.trans (hq.trans hv.measures), hlast.closing.trans (hc.trans hv.closing),
    hlast.responses.trans (hr.trans hv.responses), hlast.length.trans (hl.trans hv.length),
    ((hset.next hv.grows).next hg).next hlast.grows⟩

/-- What an activation of ELEMENT does to element `e` (R77). -/
theorem State.activateElements_activates (he : e < 64) (new : Table) (hlen : s.elements.length = 64) : Activates e s (s.activateElements new) := by
  obtain ⟨hmgmt, hmeasures, hclosing, -, hlength, hgrows⟩ := s.activateElements_rest he new
  obtain ⟨v, hv, hlast⟩ := s.activateElements_turn he new
  have hvlen : e < v.elements.length := by
    rw [hv.length]
    exact hlen.symm ▸ he
  obtain ⟨hkept, hreset, hleaves, hjoins⟩ := v.activateElement_turn (s.table .element) hvlen
  have helement : v.element e = s.element e := hv.element
  have hnew : (v.table .element).getD e [] = ((s.activateElements new).table .element).getD e [] := by
    rw [State.table, hv.mgmt, State.table, hmgmt]
  have hafter : ∀ id, Entry.get (((s.activateElements new).table .element).getD e []) id = (s.activateElements new).fld .element e id :=
    fun _ => rfl
  have hbefore : ∀ id, Entry.get ((s.table .element).getD e []) id = s.fld .element e id := fun _ => rfl
  have hiff : elementReset ((s.table .element).getD e []) ((v.table .element).getD e []) = true ↔
      Clause.resetAt s (s.activateElements new) e := by
    rw [elementReset_iff, hnew]
    exact Iff.rfl
  rw [helement] at hkept hreset hleaves hjoins
  refine ⟨fun h => ?_, fun h => ?_, hlength, hmeasures, hclosing, ⟨_, hgrows⟩, fun b hb hop hin hout => ?_, fun b hb hop hr hout hin => ?_⟩
  · rw [hlast.element]
    exact hkept (Bool.eq_false_iff.2 (hiff.not.2 h))
  · rw [hlast.element]
    exact hreset (hiff.2 h)
  · refine hlast.grows.requests (hleaves b hop ?_ ?_)
    · rw [hbefore]
      exact (mem_bitSet hb).2 hin
    · rw [hnew, hafter, mem_bitSet hb]
      rw [hnew] at hiff
      exact hout.imp_right hiff.2
  · refine hlast.grows.requests (hjoins b hop (Bool.eq_false_iff.2 (hiff.not.2 hr)) ?_ ?_)
    · rw [hbefore, mem_bitSet hb]
      exact hout
    · rw [hnew, hafter, mem_bitSet hb]
      exact hin

end


end Sys2Proof.Machine
end

section
/-! # A waiting content becomes active and is answered -/

namespace Sys2Proof.Machine

section
variable {s t u : State} {e : Nat} {x : TableId} {w : CommitWait} {image : List Bool} {gone : List Nat} {l : Link}

/-! ### A waiting content becomes active and is answered (R77, R177, R183) -/

theorem State.commitWait_eq : s.commitWait x = some w ↔ (s.stagingOf x).state = .committing w := by
  unfold State.commitWait State.stagingOf
  split
  · next v h => simp [h]
  · next h => simpa using fun he => h w he

theorem State.commitWait_none : s.commitWait x = none ↔ (s.stagingOf x).state.isCommitting = false := by
  unfold State.commitWait State.stagingOf StagingState.isCommitting
  split <;> simp_all

theorem State.activateWaiting_none (h : s.commitWait x = none) : s.activateWaiting x = s := by
  rw [State.activateWaiting, h]

/-- The state in which the content is active, before its answer. -/
def State.activated (s : State) (x : TableId) (w : CommitWait) : State :=
  if x == .element then s.activateElements w.content else s.setTable x w.content

theorem State.activateWaiting_some (h : s.commitWait x = some w) : s.activateWaiting x =
    (((s.activated x w).setStaging x {}).event .management 6 x.number 6 (some w.crc)).answer w.ticket (some (Reply.of .done)) := by
  rw [State.activateWaiting, h]
  rfl

/-- The frame that answers the COMMIT. -/
def State.commitAnswer (s : State) (w : CommitWait) : OutFrame :=
  ⟨s.ownAddress, w.ticket.source, s.links.responseSeq, .response w.ticket.request w.ticket.kind 0 w.ticket.target 0 0 [], false, false⟩

theorem State.activated_rest (s : State) (x : TableId) (w : CommitWait) : (s.activated x w).mgmt = (s.setTable x w.content).mgmt ∧
    (s.activated x w).measures = s.measures ∧ (s.activated x w).closing = s.closing ∧
    (s.activated x w).links.responseSeq = s.links.responseSeq ∧
    (s.activated x w).elements.length = s.elements.length ∧ Grows [] s (s.activated x w) := by
  unfold State.activated
  split
  · next h =>
    obtain rfl : x = .element := by simpa using h
    exact s.activateElements_rest (e := 0) (by decide) w.content
  · exact ⟨rfl, rfl, rfl, rfl, rfl, (Grows.refl s).same⟩

/-- A reservation is filled with the answer. -/
theorem State.answer_fills (k : Ticket) (h : .reserved k.number ∈ (u.port l).bulk) : BulkPlace.frame ⟨u.ownAddress, k.source,
    u.links.responseSeq, .response k.request k.kind 0 k.target 0 0 [], false, false⟩ ∈
      ((u.answer k (some (Reply.of .done))).port l).bulk := by
  rw [State.answer, State.respond_eq]
  have hfill : ∀ (f : OutFrame) (p : LinkPort), .reserved k.number ∈ p.bulk → .frame f ∈ (p.fill k.number f).1.bulk := fun f p hp => by
    rw [LinkPort.fill, List.contains_iff_mem.2 hp]
    exact List.mem_map.2 ⟨_, hp, if_pos (by simp)⟩
  cases l <;> exact hfill _ _ h

/-- What the activation of a waiting content leaves behind. -/
theorem State.activateWaiting_done (hx : x ≠ .station) (h : s.commitWait x = some w) : let t := s.activateWaiting x
    t.mgmt = { s.mgmt with tables := s.mgmt.tables.set x.number w.content, staging := s.mgmt.staging.set x.number {} } ∧
    t.closing = s.closing ∧ t.links.responseSeq = step16 s.links.responseSeq ∧ Grows [w.ticket.number] s t ∧
    (∀ l, .reserved w.ticket.number ∈ (s.port l).bulk → BulkPlace.frame (s.commitAnswer w) ∈ (t.port l).bulk) ∧
    (∀ label, s.closing = some label → t.Holds label .management 6 x.number 6 (some w.crc) ∨ 128 ≤ t.events.records.length) := by
  obtain ⟨hmgmt, -, hclosing, hnumber, -, hgrows⟩ := s.activated_rest x w
  rw [State.activateWaiting_some h]
  have hstaged : Grows [] s ((s.activated x w).setStaging x {}) := hgrows.same
  have hsmgmt : ((s.activated x w).setStaging x {}).mgmt = { s.mgmt with
      tables := s.mgmt.tables.set x.number w.content, staging := s.mgmt.staging.set x.number {} } := by
    show ({ (s.activated x w).mgmt with staging := (s.activated x w).mgmt.staging.set x.number {} } : Management) = _
    rw [hmgmt]
    rfl
  have hsclosing : ((s.activated x w).setStaging x {}).closing = s.closing := hclosing
  have hsnumber : ((s.activated x w).setStaging x {}).links.responseSeq = s.links.responseSeq := hnumber
  generalize (s.activated x w).setStaging x {} = v at *
  have hheld : ∀ label, s.closing = some label →
      (v.event .management 6 x.number 6 (some w.crc)).Holds label .management 6 x.number 6 (some w.crc) := fun label hl => by
    have hlabel : v.eventLabel = label := by rw [State.eventLabel, hsclosing, hl]; rfl
    have hholds := State.event_holds (s := v) (c := .management) (priority := 6) (object := x.number) (code := 6) (value := some w.crc)
    rwa [hlabel] at hholds
  have hgrown : Grows [] s (v.event .management 6 x.number 6 (some w.crc)) := hstaged.event _ _ _ _ _
  have humgmt := State.event_mgmt (s := v) .management 6 x.number 6 (some w.crc)
  have huclosing := State.event_closing (s := v) .management 6 x.number 6 (some w.crc)
  have hunumber : (v.event .management 6 x.number 6 (some w.crc)).links.responseSeq = s.links.responseSeq := hgrown.numbers rfl
  generalize v.event .management 6 x.number 6 (some w.crc) = u at *
  have hown : u.ownAddress = s.ownAddress := by
    have htable : (s.setTable x w.content).table .station = s.table .station := State.setTable_table_other _ (Ne.symm hx)
    have hstation : u.table .station = s.table .station := by
      rw [← htable, State.table, humgmt, hsmgmt]
      rfl
    exact State.fld_of_table hstation 0 1
  refine ⟨?_, ?_, ?_, ?_, fun l hl => ?_, fun label hl => ?_⟩
  · rw [State.answer, State.respond_eq, humgmt, hsmgmt]
    rfl
  · rw [State.answer, State.respond_eq]
    exact huclosing.trans hsclosing
  · rw [State.answer, State.respond_eq, hunumber]
  · simpa using hgrown.answer w.ticket (Reply.of .done)
  · have hreserved : .reserved w.ticket.number ∈ (u.port l).bulk := hgrown.places l _ hl (by simp [BulkPlace.lasting])
    have hfilled := State.answer_fills w.ticket hreserved
    rw [State.commitAnswer, ← hown, ← hunumber]
    exact hfilled
  · by_cases hlen : (u.answer w.ticket (some (Reply.of .done))).events.records.length < 128
    · exact .inl (((Grows.refl u).answer w.ticket (Reply.of .done)).holds (hheld label hl) hlen)
    · exact .inr (Nat.le_of_not_lt hlen)

end


end Sys2Proof.Machine
end

section
/-! # What follows the work of the elements at a closure -/

namespace Sys2Proof.Machine

section
variable {s t u : State} {e : Nat} {x : TableId} {w : CommitWait} {image : List Bool} {gone : List Nat} {l : Label} {pin : Bool}

/-! ### What the activations of a closure do to element `e` -/

theorem State.activateWaiting_elements (hx : x ≠ .element) : (s.activateWaiting x).elements = s.elements ∧
    (s.activateWaiting x).measures = s.measures := by
  cases h : s.commitWait x with
  | none => rw [State.activateWaiting_none h]; exact ⟨rfl, rfl⟩
  | some w =>
    have hset : s.activated x w = s.setTable x w.content := if_neg (by simpa using hx)
    rw [State.activateWaiting_some h, hset]
    have hstaged : ((s.setTable x w.content).setStaging x {}).elements = s.elements ∧
        ((s.setTable x w.content).setStaging x {}).measures = s.measures := ⟨rfl, rfl⟩
    generalize (s.setTable x w.content).setStaging x {} = v at *
    have hvelements := State.event_elements (s := v) .management 6 x.number 6 (some w.crc)
    have hvmeasures := State.event_measures (s := v) .management 6 x.number 6 (some w.crc)
    generalize v.event .management 6 x.number 6 (some w.crc) = u at *
    rw [State.answer, State.respond_eq]
    exact ⟨hvelements.trans hstaged.1, hvmeasures.trans hstaged.2⟩

/-- The contents that wait on both areas become active. -/
def State.activatedBoth (s : State) : State := (s.activateWaiting .curve).activateWaiting .element

theorem State.activateWaiting_grows (hx : x ≠ .station) : ∃ gone, Grows gone s (s.activateWaiting x) := by
  cases h : s.commitWait x with
  | none => rw [State.activateWaiting_none h]; exact ⟨[], .refl s⟩
  | some w =>
    obtain ⟨-, -, -, hgrows, -, -⟩ := State.activateWaiting_done hx h
    exact ⟨_, hgrows⟩

theorem State.activateWaiting_closing (hx : x ≠ .station) : (s.activateWaiting x).closing = s.closing := by
  cases h : s.commitWait x with
  | none => rw [State.activateWaiting_none h]
  | some w =>
    obtain ⟨-, hclosing, -, -, -, -⟩ := State.activateWaiting_done hx h
    exact hclosing

/-- A waiting ELEMENT content. -/
theorem State.activateWaiting_activates (he : e < 64) (hlen : s.elements.length = 64) :
    Activates e s (s.activateWaiting .element) := by
  cases h : s.commitWait .element with
  | none => rw [State.activateWaiting_none h]; exact .refl e s
  | some w =>
    have hset : s.activated .element w = s.activateElements w.content := if_pos rfl
    rw [State.activateWaiting_some h, hset]
    have hactive := State.activateElements_activates he w.content hlen
    have hstaged : Activates e s ((s.activateElements w.content).setStaging .element {}) :=
      hactive.same (fun _ => rfl) rfl rfl rfl ((Grows.refl _).same)
    generalize (s.activateElements w.content).setStaging .element {} = v at *
    have hevent : Activates e s (v.event .management 6 TableId.element.number 6 (some w.crc)) :=
      hstaged.same (fun _ => State.event_fld ..) (State.event_elements ..) (State.event_measures ..) (State.event_closing ..)
        ((Grows.refl v).event _ _ _ _ _)
    generalize v.event .management 6 TableId.element.number 6 (some w.crc) = u at *
    refine hevent.same (fun _ => State.answer_fld ..) ?_ ?_ ?_ ((Grows.refl u).answer w.ticket (Reply.of .done))
    all_goals rw [State.answer, State.respond_eq]

/-- A waiting CURVE content leaves the fields of ELEMENT. -/
theorem State.activateWaiting_fld (hx : x ≠ .element) (hs : x ≠ .station) (d id : Nat) :
    (s.activateWaiting x).fld .element d id = s.fld .element d id := by
  cases h : s.commitWait x with
  | none => rw [State.activateWaiting_none h]
  | some w =>
    obtain ⟨hmgmt, -⟩ := State.activateWaiting_done hs h
    have htable : (s.activateWaiting x).table .element = (s.setTable x w.content).table .element := by
      rw [State.table, hmgmt]
      rfl
    exact State.fld_of_table (htable.trans (State.setTable_table_other _ (Ne.symm hx))) d id

theorem State.activatedBoth_activates (he : e < 64) (hlen : s.elements.length = 64) : Activates e s s.activatedBoth := by
  obtain ⟨helements, hmeasures⟩ := State.activateWaiting_elements (s := s) (x := .curve) (by decide)
  obtain ⟨gone, hgrows⟩ := State.activateWaiting_grows (s := s) (x := .curve) (by decide)
  have hlast := State.activateWaiting_activates (s := s.activateWaiting .curve) he (by rw [helements]; exact hlen)
  exact hlast.after (fun id => State.activateWaiting_fld (by decide) (by decide) e id) helements hmeasures
    (State.activateWaiting_closing (by decide)) hgrows

/-! ### What follows the work of the elements -/

/-- What the rest of a closure leaves of the tables, the measurements and the elements, and never takes back. -/
structure Finishes (w t : State) : Prop where
  elements : t.elements = w.elements
  mgmt : t.mgmt = w.mgmt
  measures : t.measures = w.measures
  aligner : t.aligner = w.aligner
  intake : t.intake = w.intake
  grows : Grows [] w t

theorem Finishes.refl (s : State) : Finishes s s := ⟨rfl, rfl, rfl, rfl, rfl, .refl s⟩

theorem Finishes.trans (h : Finishes s t) (k : Finishes t u) : Finishes s u :=
  ⟨k.elements.trans h.elements, k.mgmt.trans h.mgmt, k.measures.trans h.measures, k.aligner.trans h.aligner,
    k.intake.trans h.intake, h.grows.next k.grows⟩

theorem Evolves.finishes (h : Evolves s t) : Finishes s t :=
  ⟨congrArg Rest.elements h.rest, congrArg Rest.mgmt h.rest, congrArg Rest.measures h.rest, congrArg Rest.aligner h.rest,
    congrArg Rest.intake h.rest, (Grows.refl s).work h⟩

theorem State.event_finishes (c : EventClass) (p o k : Nat) (v : Option Nat) : Finishes s (s.event c p o k v) :=
  Evolves.finishes (Evolves.refl.event c p o k v)

theorem State.sampleLockout_finishes (s : State) (pin : Bool) : Finishes s (s.sampleLockout pin) := by
  have hlines : ∀ f, Finishes s (s.modLines f) := fun f => ⟨rfl, rfl, rfl, rfl, rfl, (Grows.refl s).same⟩
  unfold State.sampleLockout
  dsimp only
  split
  · exact hlines _
  · have hboth : ∀ f g : Lines → Lines, Finishes s ((s.modLines f).modLines g) := fun f g =>
      ⟨rfl, rfl, rfl, rfl, rfl, (Grows.refl s).same⟩
    split
    · exact ((hboth _ _).trans (State.event_finishes _ _ _ _ _)).trans (State.lockoutGens_evolves .refl).finishes
    · exact (hboth _ _).trans (State.event_finishes _ _ _ _ _)

theorem State.captureWork_finishes (s : State) (l : Label) : Finishes s (s.captureWork l) := by
  have hcapture : ∀ (v : State) (f : Capture → Capture), Finishes v (v.modCapture f) := fun v f =>
    ⟨rfl, rfl, rfl, rfl, rfl, (Grows.refl v).same⟩
  have hring : Finishes s (s.captureRing (s.instantRecord l)) := hcapture s _
  have happend : ∀ (v : State) (r : InstantRecord), Finishes v (v.captureAppend r) := fun v r => by
    unfold State.captureAppend
    dsimp only
    split
    · exact .refl v
    · split
      · exact ((hcapture _ _).trans (hcapture _ _)).trans (State.event_finishes _ _ _ _ _)
      · exact hcapture _ _
  exact hring.trans (happend _ _)

theorem State.settle_finishes (s u : State) : Finishes u (State.settle s u) := by
  obtain ⟨z, hz, hev, -⟩ := State.settle_edges s u
  have hclosed : Finishes z (State.noteEdges s z).closed := ⟨rfl, rfl, rfl, rfl, rfl, (Grows.refl z).same⟩
  rw [hz]
  exact hev.finishes.trans hclosed

theorem State.sampled_finishes (s : State) (pin : Bool) : Finishes s.guardedWork (s.sampled pin) := by
  have htests : Evolves (s.guardedWork.sampleLockout pin) (s.sampled pin) :=
    State.forEach_evolves _ _ .refl fun b _ ht => State.testBf_evolves b ht
  exact (s.guardedWork.sampleLockout_finishes pin).trans htests.finishes

/-- The rest of a closure. -/
theorem closure_finishes (h : State.settle s ((s.sampled pin).parallelingWork.captureWork l) = t) : Finishes s.guardedWork t := by
  have hsampled := s.sampled_finishes pin
  have hwork : Finishes (s.sampled pin) (s.sampled pin).parallelingWork := (State.parallelingWork_evolves .refl).finishes
  have hcapture := (s.sampled pin).parallelingWork.captureWork_finishes l
  have hsettle := State.settle_finishes s ((s.sampled pin).parallelingWork.captureWork l)
  rw [h] at hsettle
  exact ((hsampled.trans hwork).trans hcapture).trans hsettle

end


end Sys2Proof.Machine
end

section
/-! # What an element reads at a closure -/

namespace Sys2Proof.Machine

section
variable {s t u : State} {e : Nat} {l : Label} {pin : Bool}

/-! ### The largest and the smallest of a phase set (R67) -/

theorem foldl_max (ms : List Nat) (a : Nat) : (ms.foldl max a = a ∨ ms.foldl max a ∈ ms) ∧ a ≤ ms.foldl max a ∧
    ∀ m ∈ ms, m ≤ ms.foldl max a := by
  induction ms generalizing a with
  | nil => simp
  | cons m ms ih =>
    obtain ⟨hmem, hle, hall⟩ := ih (max a m)
    rw [List.foldl_cons]
    refine ⟨?_, by omega, fun x hx => ?_⟩
    · rcases hmem with h | h
      · rw [h, List.mem_cons]
        omega
      · exact .inr (List.mem_cons_of_mem _ h)
    · obtain rfl | hx := List.mem_cons.1 hx
      · omega
      · exact hall x hx

theorem foldl_min (ms : List Nat) (a : Nat) : (ms.foldl min a = a ∨ ms.foldl min a ∈ ms) ∧ ms.foldl min a ≤ a ∧
    ∀ m ∈ ms, ms.foldl min a ≤ m := by
  induction ms generalizing a with
  | nil => simp
  | cons m ms ih =>
    obtain ⟨hmem, hle, hall⟩ := ih (min a m)
    rw [List.foldl_cons]
    refine ⟨?_, by omega, fun x hx => ?_⟩
    · rcases hmem with h | h
      · rw [h, List.mem_cons]
        omega
      · exact .inr (List.mem_cons_of_mem _ h)
    · obtain rfl | hx := List.mem_cons.1 hx
      · omega
      · exact hall x hx

/-- The largest of a list that is not empty is one of it, and none is above it. -/
theorem largest_spec {ms : List Nat} (h : ms ≠ []) : largest ms ∈ ms ∧ ∀ m ∈ ms, m ≤ largest ms := by
  obtain ⟨hmem, -, hall⟩ := foldl_max ms 0
  refine ⟨hmem.elim (fun h0 => ?_) id, hall⟩
  obtain ⟨m, hm⟩ := List.exists_mem_of_ne_nil ms h
  have hle := hall m hm
  rw [h0] at hle
  rw [largest, h0, ← Nat.le_zero.1 hle]
  exact hm

/-- The smallest of a list that is not empty is one of it, and none is below it. -/
theorem smallest_spec {ms : List Nat} (h : ms ≠ []) : smallest ms ∈ ms ∧ ∀ m ∈ ms, smallest ms ≤ m := by
  cases ms with
  | nil => exact absurd rfl h
  | cons m ms =>
    obtain ⟨hmem, hle, hall⟩ := foldl_min ms m
    rw [smallest]
    refine ⟨List.mem_cons.2 hmem, fun x hx => ?_⟩
    obtain rfl | hx := List.mem_cons.1 hx
    · exact hle
    · exact hall x hx

theorem mem_phaseSet {n q : Nat} : q ∈ bitSet n 8 ↔ q < 8 ∧ n / 2 ^ q % 2 = 1 := by
  simp [bitSet, bitOf]

/-- The chosen magnitude of a phase set. -/
theorem phaseSet_choice (f : Nat → Nat) (set : Nat) (pick : List Nat → Nat) (le : Nat → Nat → Prop)
    (hpick : ∀ ms, ms ≠ [] → pick ms ∈ ms ∧ ∀ m ∈ ms, le m (pick ms)) (hnil : pick [] = 0) :
    ((∃ q, (q < 8 ∧ set / 2 ^ q % 2 = 1) ∧ pick ((bitSet set 8).map f) = f q) ∧
      ∀ q, (q < 8 ∧ set / 2 ^ q % 2 = 1) → le (f q) (pick ((bitSet set 8).map f))) ∨
    ((∀ q, ¬ (q < 8 ∧ set / 2 ^ q % 2 = 1)) ∧ pick ((bitSet set 8).map f) = 0) := by
  by_cases h : bitSet set 8 = []
  · refine .inr ⟨fun q hq => ?_, by rw [h]; exact hnil⟩
    rw [← mem_phaseSet, h] at hq
    exact nomatch hq
  · obtain ⟨hmem, hall⟩ := hpick ((bitSet set 8).map f) (by simpa using h)
    obtain ⟨q, hq, hval⟩ := List.mem_map.1 hmem
    exact .inl ⟨⟨q, mem_phaseSet.1 hq, hval.symm⟩, fun q hq => hall _ (List.mem_map_of_mem (mem_phaseSet.2 hq))⟩

/-- The model's operating quantity is that of R67. -/
theorem State.isOperating_quantity (s : State) (c : Settings) : Clause.isOperating s c.type c.stream c.set c.mode (s.operatingQuantity c) := by
  have hlargest := phaseSet_choice (fun q => (s.phasor c.stream q).magnitude) c.set largest (fun a b => a ≤ b)
    (fun ms h => largest_spec h) rfl
  have hsmallest := phaseSet_choice (fun q => (s.phasor c.stream q).magnitude) c.set smallest (fun a b => b ≤ a)
    (fun ms h => smallest_spec h) rfl
  unfold Clause.isOperating State.operatingQuantity
  dsimp only
  generalize largest _ = high at *
  generalize smallest _ = low at *
  have hhigh : ((∃ q, (q < 8 ∧ c.set / 2 ^ q % 2 = 1) ∧ (high : Int) = ((s.phasor c.stream q).magnitude : Int)) ∧
      ∀ q, (q < 8 ∧ c.set / 2 ^ q % 2 = 1) → ((s.phasor c.stream q).magnitude : Int) ≤ high) ∨
      ((∀ q, ¬ (q < 8 ∧ c.set / 2 ^ q % 2 = 1)) ∧ (high : Int) = 0) := by exact_mod_cast hlargest
  have hlow : ((∃ q, (q < 8 ∧ c.set / 2 ^ q % 2 = 1) ∧ (low : Int) = ((s.phasor c.stream q).magnitude : Int)) ∧
      ∀ q, (q < 8 ∧ c.set / 2 ^ q % 2 = 1) → (low : Int) ≤ ((s.phasor c.stream q).magnitude : Int)) ∨
      ((∀ q, ¬ (q < 8 ∧ c.set / 2 ^ q % 2 = 1)) ∧ (low : Int) = 0) := by exact_mod_cast hsmallest
  clear hlargest hsmallest
  generalize c.type = type
  generalize c.mode = mode
  match type, mode with
  | 2, 0 | 3, _ + 1 => exact hlow
  | 2, _ + 1 | 3, 0 => exact hhigh
  | 4, _ | 5, _ | 6, _ | 7, _ => rfl
  | 0, _ | 1, _ | _ + 8, _ => exact hhigh

/-- The model's test of an input is that of R62. -/
theorem State.inputValid_eq (s : State) (c : Settings) : Clause.inputValid s c.type c.stream c.set = s.inputValid c := by
  unfold Clause.inputValid State.inputValid
  dsimp only
  generalize c.type = type
  match type with
  | 4 | 5 => simp
  | 6 => rfl
  | 7 => simp
  | 0 | 1 | 2 | 3 | _ + 8 => rfl

/-- The curve index of R71, an operating quantity below 0 giving the least. -/
theorem curveIndex_eq (x : Int) (p : Nat) : Clause.curveIndex x p = curveIndex x p := by
  unfold Clause.curveIndex curveIndex clampNat
  congr 1
  obtain ⟨n, rfl⟩ | hx : (∃ n : Nat, x = n) ∨ x < 0 := by
    by_cases h : 0 ≤ x
    · exact .inl ⟨x.toNat, (Int.toNat_of_nonneg h).symm⟩
    · exact .inr (by omega)
  · have hdiv : (16 * (n : Int)) / (p : Int) = ((16 * n / p : Nat) : Int) := by push_cast; rfl
    rw [hdiv, Int.toNat_natCast]
    omega
  · have hdiv : 16 * x / (p : Int) ≤ 0 := by
      obtain rfl | hp := Nat.eq_zero_or_pos p
      · simp
      · have hle : 16 * x / (p : Int) ≤ 0 / (p : Int) := Int.ediv_le_ediv (by omega) (by omega)
        simpa using hle
    have hzero : x.toNat = 0 := by omega
    rw [hzero]
    simp only [Nat.mul_zero, Nat.zero_div]
    omega

/-! ### Every element works on the measurements of the closure (R58, R60 to R62, R67, R71) -/

/-- Element `e` in its turn of a closure that leads to `t`, by `m` with the measurements and `a` with the waiting contents
active: the content in force, its work, and its outputs. -/
structure ElementTurn (e : Nat) (m a t : State) : Prop where
  activates : Activates e m a
  later : Grows [] a t
  work : t.element e = a.worked m.image e
  mgmt : t.mgmt = a.mgmt
  measures : t.measures = a.measures
  intake : t.intake = m.intake
  outputs : ∃ v : State, v.closing = a.closing ∧ Grows [] (v.elementOutputs e (a.tripSet e) (a.element e).state (t.element e).state
    (t.element e).lastX) t

theorem closure_element (hs : s.Quiet) (he : e < 64) (h : State.settle s ((s.sampled pin).parallelingWork.captureWork l) = t) :
    ElementTurn e s.measured s.measured.activatedBoth t := by
  have hfinishes := closure_finishes h
  have hlen : s.measured.elements.length = 64 := by
    rw [s.measured_touches.stands .elements (by decide), hs.elements_length]
  have hactivates := State.activatedBoth_activates he hlen
  have hguarded : s.guardedWork = s.measured.activatedBoth.protectionWork s.measured.image := rfl
  have hintake : s.guardedWork.intake = s.measured.intake := by
    obtain ⟨-, -, -, -, -, hintake, -⟩ := s.guardedWork_protects.rest
    exact hintake
  have hlength : s.measured.activatedBoth.elements.length = 64 := hactivates.length.trans hlen
  generalize s.measured.activatedBoth = a at *
  generalize s.measured = m at *
  generalize hi : m.image = image at *
  obtain ⟨v, hv, hlast⟩ := a.protectionWork_turn (image := image) he
  have hself : v.element e = a.element e := hv.element
  obtain ⟨hinput, hsettings, hbank, htrips⟩ := State.elementInput_congr (e := e) (image := image) hv.mgmt hv.measures
    (a.settings e (a.activeBank image e))
  have hworked : v.worked image e = a.worked image e := by
    rw [State.worked, hself, hbank, hsettings, hinput, State.worked]
  have hturn : State.elementWork image e v = (v.modElement e (fun _ => a.worked image e)).elementOutputs e (a.tripSet e)
      (a.element e).state (a.worked image e).state (a.worked image e).lastX := by
    rw [State.elementWork_eq, hworked, hself, htrips]
  rw [hturn, ← hguarded] at hlast
  have hown : (v.modElement e (fun _ => a.worked image e)).element e = a.worked image e :=
    State.element_modElement_same _ _ (by rw [hv.length, hlength]; exact he)
  have hmgmt : (v.modElement e (fun _ => a.worked image e)).mgmt = a.mgmt := hv.mgmt
  have hmeasures : (v.modElement e (fun _ => a.worked image e)).measures = a.measures := hv.measures
  have hvclosing : (v.modElement e (fun _ => a.worked image e)).closing = a.closing := hv.closing
  have hgrows : Grows [] a (v.modElement e (fun _ => a.worked image e)) := hv.grows.same
  generalize v.modElement e (fun _ => a.worked image e) = w at *
  have hout := (Guards.refl (e + 1) w).outputs e (a.tripSet e) (a.element e).state (a.worked image e).state (a.worked image e).lastX
  have htelement : t.element e = a.worked image e := by
    rw [State.element, hfinishes.elements, ← State.element, hlast.element, State.elementOutputs_element, hown]
  refine ⟨hactivates, ?_, hi ▸ htelement, ?_, ?_, hfinishes.intake.trans hintake, w, hvclosing, ?_⟩
  · exact ((hgrows.next hout.grows).next hlast.grows).next hfinishes.grows
  · exact hfinishes.mgmt.trans (hlast.mgmt.trans (hout.mgmt.trans hmgmt))
  · exact hfinishes.measures.trans (hlast.measures.trans (hout.measures.trans hmeasures))
  · rw [htelement]
    exact hlast.grows.next hfinishes.grows

end


end Sys2Proof.Machine
end

section
/-! # O60: the elements' work, the waiting contents and the trip demands -/

namespace Sys2Proof.Machine

section
variable {s t u m a : State} {e n : Nat} {pin : Bool}

/-! ### What an element reads (R61, R62, R67, R71) -/

theorem State.image_point : imagePoint m.image n = m.point n := by
  rw [imagePoint, State.image]
  by_cases h : n < 256
  · simp [List.getD_eq_getElem?_getD, h]
  · rw [List.getD_eq_default _ _ (by simpa using h)]
    simp only [State.point, beq_iff_eq]
    repeat rw [if_neg (by omega)]

theorem measured_image_point (h : t.intake = s.measured.intake) (n : Nat) :
    imagePoint s.measured.image n = Clause.pointRead s t n := by
  rw [State.image_point, Clause.pointRead]
  split
  · next hn =>
    have hpoint : ∀ v : State, v.point n = (v.stream (n - 208)).valid := fun v => by
      simp only [State.point, beq_iff_eq]
      repeat rw [if_neg (by omega)]
      rw [if_pos hn.2]
    rw [hpoint, hpoint, State.stream, State.stream, h]
  · next hn => exact s.measured_point hn

/-- The reset test of an activation, on the tables before and after the closure. -/
theorem ElementTurn.resetAt (h : ElementTurn e s.measured a t) : Clause.resetAt s.measured a e ↔ Clause.resetAt s t e :=
  resetAt_congr (fun id => s.measured_fld .element e id) fun id => by rw [State.fld, ← h.mgmt, State.fld]

/-- The input of an element at a closure. -/
theorem ElementTurn.input (h : ElementTurn e s.measured a t) (c : Settings) : a.elementInput s.measured.image e c =
    { block := Clause.pointRead s t (t.fld .element e 6)
      valid := Clause.inputValid t c.type c.stream c.set
      x := t.operatingQuantity c
      q0 := (t.phasor c.stream 0).magnitude
      increment := t.fld .curve c.curve (Clause.curveIndex (t.operatingQuantity c) c.pickup + 1) } := by
  rw [← (State.elementInput_congr (e := e) h.mgmt h.measures c).1, State.inputValid_eq, ← measured_image_point h.intake, curveIndex_eq]
  rfl

end

/-- Settles the first part of O60. -/
theorem everyElementWorks : Clause.EveryElementWorks := by
  intro s t pin e hs hdue hexec he
  rw [exec_closure_due hdue] at hexec
  have hturn := closure_element hs he (Host.Outcome.next.inj hexec)
  obtain ⟨-, hsettings, hbank, -⟩ := State.elementInput_congr (e := e) (image := s.measured.image) hturn.mgmt hturn.measures
    (t.settings e .a)
  have hbanks : t.activeBank s.measured.image e = if Clause.pointRead s t (t.fld .element e 5) = true then Bank.b else .a := by
    rw [State.activeBank, measured_image_point hturn.intake]
  have hwork := hturn.work
  rw [State.worked, ← hsettings, ← hbank, hturn.input, hbanks] at hwork
  have hself : s.measured.element e = s.element e := by
    rw [State.element, s.measured_touches.stands .elements (by decide), State.element]
  refine ⟨_, State.isOperating_quantity t _, fun hreset => ?_, fun hreset => ?_⟩
  · rw [hwork, hturn.activates.kept (hturn.resetAt.not.2 hreset), hself]
  · rw [hwork, hturn.activates.reset (hturn.resetAt.2 hreset), hself]
    rfl

/-- Settles the fourth part of O60. -/
theorem operatedElementTrips : Clause.OperatedElementTrips := by
  intro s t pin e b hs hdue hexec he hb
  rw [exec_closure_due hdue] at hexec
  have hturn := closure_element hs he (Host.Outcome.next.inj hexec)
  obtain ⟨v, -, hout⟩ := hturn.outputs
  have hself : s.measured.element e = s.element e := by
    rw [State.element, s.measured_touches.stands .elements (by decide), State.element]
  have hbefore : s.measured.fld .element e 8 = s.fld .element e 8 := s.measured_fld .element e 8
  have hafter : s.measured.activatedBoth.fld .element e 8 = t.fld .element e 8 := by rw [State.fld, ← hturn.mgmt, State.fld]
  have hactivates := hturn.activates
  have hlater := hturn.later.requests
  have hreset := hturn.resetAt
  generalize s.measured.activatedBoth = a at *
  generalize s.measured = m at *
  rw [← hself, ← hbefore, ← hafter]
  have hadds : (a.element e).state ≠ .operated → (t.element e).state = .operated → a.fld .element e 8 / 2 ^ b % 2 = 1 →
      ⟨true, b, .element e⟩ ∈ t.breakers.requests := fun hold hnew hin =>
    hout.requests ((State.elementOutputs_requests ((mem_bitSet hb).2 hin)).1 hold hnew)
  have hremoves : (a.element e).state = .operated → (t.element e).state ≠ .operated → a.fld .element e 8 / 2 ^ b % 2 = 1 →
      ⟨false, b, .element e⟩ ∈ t.breakers.requests := fun hold hnew hin =>
    hout.requests ((State.elementOutputs_requests ((mem_bitSet hb).2 hin)).2 hold hnew)
  have hleaves : (m.element e).state = .operated → m.fld .element e 8 / 2 ^ b % 2 = 1 →
      (a.fld .element e 8 / 2 ^ b % 2 ≠ 1 ∨ Clause.resetAt m a e) → ⟨false, b, .element e⟩ ∈ t.breakers.requests :=
    fun hold hin hgone => hlater (hactivates.leaves b hb hold hin hgone)
  have hjoins : (m.element e).state = .operated → ¬ Clause.resetAt m a e →
      m.fld .element e 8 / 2 ^ b % 2 ≠ 1 → a.fld .element e 8 / 2 ^ b % 2 = 1 → ⟨true, b, .element e⟩ ∈ t.breakers.requests :=
    fun hold hkept hout hin => hlater (hactivates.joins b hb hold hkept hout hin)
  have hsettles : Clause.resetAt m a e → (a.element e).state ≠ .operated := fun h => by
    rw [hactivates.reset h]
    simp [ElementRec.startSettling]
  have hstands : ¬ Clause.resetAt m a e → a.element e = m.element e := hactivates.kept
  refine ⟨fun hold hnew hin => hadds ?_ hnew hin, fun hold hnew hin => ?_, fun hold _ hin hgone => hleaves hold hin (.inl hgone),
    fun hold hnew hgone hin => ?_⟩
  · by_cases h : Clause.resetAt m a e
    · exact hsettles h
    · rwa [hstands h]
  · by_cases h : a.fld .element e 8 / 2 ^ b % 2 ≠ 1 ∨ Clause.resetAt m a e
    · exact hleaves hold hin h
    · rw [not_or, not_not] at h
      exact hremoves (by rwa [hstands h.2]) hnew h.1
  · by_cases h : Clause.resetAt m a e
    · exact hadds (hsettles h) hnew hin
    · exact hjoins hold h hgone hin

section
variable {s t u : State} {x y : TableId} {w : CommitWait} {gone : List Nat} {pin : Bool} {l : Link}

/-! ### The contents that wait (R77, R177, R183) -/

theorem exec_closure_idle (hs : s.Quiet) (h : s.closureDue = false) : exec (.instantClosure pin) s = .next s := by
  have hidle : s.closeInstant pin = s := if_neg (by simp [h])
  exact (congrArg (finish s) hidle).trans (finish_idle hs)

/-- The activation of one table leaves the others and their areas. -/
theorem State.activateWaiting_others (hx : x ≠ .station) (hy : y ≠ x) : (s.activateWaiting x).table y = s.table y ∧
    (s.activateWaiting x).stagingOf y = s.stagingOf y := by
  cases h : s.commitWait x with
  | none => rw [State.activateWaiting_none h]; exact ⟨rfl, rfl⟩
  | some w =>
    obtain ⟨hmgmt, -⟩ := State.activateWaiting_done hx h
    refine ⟨?_, ?_⟩
    · refine Eq.trans ?_ (State.setTable_table_other (s := s) w.content hy)
      rw [State.table, hmgmt]
      rfl
    · rw [State.stagingOf, hmgmt, State.stagingOf]
      show nth (s.mgmt.staging.set x.number {}) y.number = _
      rw [nth, nth, List.getD_eq_getElem?_getD, List.getElem?_set_ne fun he => hy (TableId.number_inj he).symm,
        List.getD_eq_getElem?_getD]

/-- The activation of a table makes its content active and empties its area. -/
theorem State.activateWaiting_own (hx : x ≠ .station) (h : s.commitWait x = some w) (htables : s.mgmt.tables.length = 13)
    (hstaging : s.mgmt.staging.length = 13) : (s.activateWaiting x).table x = w.content ∧ (s.activateWaiting x).stagingOf x = {} := by
  obtain ⟨hmgmt, -⟩ := State.activateWaiting_done hx h
  refine ⟨?_, ?_⟩
  · refine Eq.trans ?_ (State.setTable_table_same htables x w.content)
    rw [State.table, hmgmt]
    rfl
  · rw [State.stagingOf, hmgmt]
    show nth (s.mgmt.staging.set x.number {}) x.number = _
    simp [nth, hstaging, x.number_lt]

/-- The activation of a table leaves the number of tables and of areas. -/
theorem State.activateWaiting_lengths (hx : x ≠ .station) :
    (s.activateWaiting x).mgmt.tables.length = s.mgmt.tables.length ∧
      (s.activateWaiting x).mgmt.staging.length = s.mgmt.staging.length := by
  cases h : s.commitWait x with
  | none => rw [State.activateWaiting_none h]; exact ⟨rfl, rfl⟩
  | some w =>
    obtain ⟨hmgmt, -⟩ := State.activateWaiting_done hx h
    rw [hmgmt]
    exact ⟨List.length_set .., List.length_set ..⟩

/-- A table with an area of the measured state. -/
theorem State.measured_table (s : State) (x : TableId) : s.measured.table x = s.table x ∧
    s.measured.stagingOf x = s.stagingOf x := by
  rw [State.table, State.stagingOf, s.measured_mgmt]
  exact ⟨rfl, rfl⟩

end

/-- Settles the third part of O60. -/
theorem tablesStandOtherwise : Clause.TablesStandOtherwise := by
  intro s t pin table hs hexec hstands
  by_cases hdue : s.closureDue = true
  · rw [exec_closure_due hdue] at hexec
    have hturn := closure_element hs (show 0 < 64 by decide) (Host.Outcome.next.inj hexec)
    obtain ⟨htable, hstaging⟩ := s.measured_table table
    have hend : t.table table = s.measured.activatedBoth.table table ∧
        t.stagingOf table = s.measured.activatedBoth.stagingOf table := by
      rw [State.table, State.stagingOf, hturn.mgmt]
      exact ⟨rfl, rfl⟩
    have hwaits : ∀ v : State, v.stagingOf table = s.stagingOf table → ∀ x : TableId, x = .curve ∨ x = .element →
        (v.activateWaiting x).table table = v.table table ∧ (v.activateWaiting x).stagingOf table = v.stagingOf table := by
      intro v hv x hx
      have hxs : x ≠ .station := by rintro rfl; simp at hx
      by_cases hxt : table = x
      · subst hxt
        have hcalm := hstands.resolve_right fun h => hx.elim h.2 h.1
        rw [State.activateWaiting_none (State.commitWait_none.2 (by rw [hv]; exact hcalm))]
        exact ⟨rfl, rfl⟩
      · exact State.activateWaiting_others hxs hxt
    obtain ⟨hcurve, hcurve'⟩ := hwaits s.measured hstaging .curve (.inl rfl)
    obtain ⟨helement, helement'⟩ := hwaits _ (hcurve'.trans hstaging) .element (.inr rfl)
    exact ⟨hend.1.trans (helement.trans (hcurve.trans htable)), hend.2.trans (helement'.trans (hcurve'.trans hstaging))⟩
  · rw [exec_closure_idle hs (by simpa using hdue)] at hexec
    obtain rfl := Host.Outcome.next.inj hexec
    exact ⟨rfl, rfl⟩

section
variable {s t u v : State} {x : TableId} {w : CommitWait} {gone : List Nat} {l : Link}

/-- The answer to a COMMIT, once placed, stays. -/
theorem State.commitAnswer_lasting (s : State) (w : CommitWait) (gone : List Nat) :
    (BulkPlace.frame (s.commitAnswer w)).lasting gone := fun _ => rfl

/-- A content that becomes active in `u`, of which nothing is taken back until `t`. -/
theorem activateWaiting_answered (hx : x ≠ .station) (h : u.commitWait x = some w) (hg : Grows gone (u.activateWaiting x) t)
    {label : Label} (hl : u.closing = some label) :
    (∀ l, .reserved w.ticket.number ∈ (u.port l).bulk → BulkPlace.frame (u.commitAnswer w) ∈ (t.port l).bulk) ∧
      (t.events.records.length < 128 → t.Holds label .management 6 x.number 6 (some w.crc)) := by
  obtain ⟨-, -, -, -, hfilled, hheld⟩ := State.activateWaiting_done hx h
  refine ⟨fun l hr => hg.places l _ (hfilled l hr) (u.commitAnswer_lasting w gone), fun hlen => ?_⟩
  refine hg.holds ((hheld label hl).resolve_right fun hfull => ?_) hlen
  have hle := (hg.records hlen).length_le
  simp only [State.bareRecords, List.length_map] at hle
  omega

end

/-- Settles the second part of O60. -/
theorem waitingContentBecomesActive : Clause.WaitingContentBecomesActive := by
  intro s t pin table w hs hdue hexec hx hw
  rw [exec_closure_due hdue] at hexec
  have hturn := closure_element hs (show 0 < 64 by decide) (Host.Outcome.next.inj hexec)
  have hend : t.table table = s.measured.activatedBoth.table table ∧
      t.stagingOf table = s.measured.activatedBoth.stagingOf table := by
    rw [State.table, State.stagingOf, hturn.mgmt]
    exact ⟨rfl, rfl⟩
  have hlater := hturn.later
  have hgrows := s.measured_grows
  have hclosing := s.measured_closing
  have htables : s.measured.mgmt.tables.length = 13 := by rw [s.measured_mgmt, hs.tables_length]
  have hstaging : s.measured.mgmt.staging.length = 13 := by rw [s.measured_mgmt, hs.staging_length]
  have hown : s.measured.ownAddress = s.ownAddress := s.measured_fld .station 0 1
  have hnumber := hgrows.numbers rfl
  have hcurves := (s.measured_table .curve).2
  have hwaits : (s.measured.stagingOf table).state = .committing w := by rw [(s.measured_table table).2]; exact hw
  have hboth : s.measured.activatedBoth = (s.measured.activateWaiting .curve).activateWaiting .element := rfl
  rw [hboth] at hend hlater
  clear hturn hexec hboth
  generalize s.measured = m at *
  have hreserved : ∀ l, .reserved w.ticket.number ∈ (s.port l).bulk → .reserved w.ticket.number ∈ (m.port l).bulk :=
    fun l hr => hgrows.places l _ hr (by simp [BulkPlace.lasting])
  obtain ⟨hctables, hcstaging⟩ := State.activateWaiting_lengths (s := m) (x := .curve) (by decide)
  obtain rfl | rfl := hx
  · have hothers := State.activateWaiting_others (s := m) (x := .curve) (y := .element) (by decide) (by decide)
    have hstation := (State.activateWaiting_others (s := m) (x := .curve) (y := .station) (by decide) (by decide)).1
    have hcwait : (m.activateWaiting .curve).commitWait .element = some w := by
      rw [State.commitWait_eq, hothers.2]
      exact hwaits
    obtain ⟨htable, harea⟩ := State.activateWaiting_own (by decide) hcwait (hctables.trans htables) (hcstaging.trans hstaging)
    obtain ⟨hplaced, hheld⟩ := activateWaiting_answered (by decide) hcwait hlater
      ((State.activateWaiting_closing (by decide)).trans hclosing)
    refine ⟨hend.1.trans htable, hend.2.trans harea, fun hapart l hr => ?_, hheld⟩
    have hcplace : .reserved w.ticket.number ∈ ((m.activateWaiting .curve).port l).bulk ∧
        (m.activateWaiting .curve).links.responseSeq = if (s.stagingOf .curve).state.isCommitting = true then
          step16 s.links.responseSeq else s.links.responseSeq := by
      cases hcurve : m.commitWait .curve with
      | none =>
        rw [State.activateWaiting_none hcurve, ← hcurves, if_neg (by simp [State.commitWait_none.1 hcurve])]
        exact ⟨hreserved l hr, hnumber⟩
      | some v =>
        have hcommitting : (s.stagingOf .curve).state = .committing v := hcurves ▸ State.commitWait_eq.1 hcurve
        obtain ⟨-, -, hstep, hcgrows, -, -⟩ := State.activateWaiting_done (by decide) hcurve
        rw [hstep, hnumber, hcommitting, if_pos (show (StagingState.committing v).isCommitting = true from rfl)]
        refine ⟨hcgrows.places l _ (hreserved l hr) ?_, rfl⟩
        simpa [BulkPlace.lasting] using (hapart v rfl hcommitting).symm
    have hframe := hplaced l hcplace.1
    have hcown : (m.activateWaiting .curve).ownAddress = s.ownAddress := (State.fld_of_table hstation 0 1).trans hown
    rw [State.commitAnswer, hcown, hcplace.2] at hframe
    simpa using hframe
  · have hcwait : m.commitWait .curve = some w := State.commitWait_eq.2 hwaits
    obtain ⟨htable, harea⟩ := State.activateWaiting_own (by decide) hcwait htables hstaging
    have hothers := State.activateWaiting_others (s := m.activateWaiting .curve) (x := .element) (y := .curve) (by decide) (by decide)
    obtain ⟨gone, hegrows⟩ := State.activateWaiting_grows (s := m.activateWaiting .curve) (x := .element) (by decide)
    obtain ⟨hplaced, hheld⟩ := activateWaiting_answered (by decide) hcwait (hegrows.trans hlater) hclosing
    refine ⟨hend.1.trans (hothers.1.trans htable), hend.2.trans (hothers.2.trans harea), fun _ l hr => ?_, hheld⟩
    have hframe := hplaced l (hreserved l hr)
    rw [State.commitAnswer, hown, hnumber] at hframe
    simpa using hframe


end Sys2Proof.Machine
end

section
/-! # O60: the record of an element -/

namespace Sys2Proof.Machine

section
variable {s t u x y m a : State} {e d n : Nat} {pin : Bool} {image : List Bool} {l : Label}

/-! ### A closure at which one element alone works (R76, R170) -/

/-- An element that is out of service in either bank. -/
structure State.Idles (s : State) (d : Nat) : Prop where
  state : (s.element d).state = .disabled
  bankA : s.fld .element d 16 ≠ 1
  bankB : s.fld .element d 32 ≠ 1

/-- The turn of an element out of service moves its bank at most. -/
theorem State.elementWork_idles (h : x.Idles d) : ∃ bank, State.elementWork image d x =
    x.modElement d (fun _ => { x.element d with bank := bank }) := by
  refine ⟨x.activeBank image d, ?_⟩
  have henabled : (x.settings d (x.activeBank image d)).enabled = false := by
    have hbank : ∀ k : Bank, x.fld .element d k.base ≠ 1 := fun k => by
      cases k
      · exact h.bankA
      · exact h.bankB
    simpa [State.settings] using hbank (x.activeBank image d)
  have hworked : x.worked image d = { x.element d with bank := x.activeBank image d } := by
    simp [State.worked, ElementRec.work, henabled, ElementRec.disable, h.state]
  rw [State.elementWork_eq, hworked, h.state]
  rfl

/-- The turns of elements out of service. -/
theorem State.forEach_idles (ns : List Nat) (x : State) (h : ∀ d ∈ ns, x.Idles d) :
    ∃ els, x.forEach ns (State.elementWork image) = { x with elements := els } ∧ els.length = x.elements.length ∧
      ∀ e ∉ ns, nth els e = x.element e := by
  unfold State.forEach
  induction ns generalizing x with
  | nil => exact ⟨x.elements, rfl, rfl, fun _ _ => rfl⟩
  | cons n ns ih =>
    obtain ⟨bank, hturn⟩ := State.elementWork_idles (image := image) (h n List.mem_cons_self)
    rw [List.foldl_cons, hturn]
    have hkept : ∀ d, ((x.modElement n (fun _ => { x.element n with bank := bank })).element d).state = (x.element d).state := fun d => by
      by_cases hd : n = d
      · subst hd
        by_cases hlt : n < x.elements.length
        · rw [State.element_modElement_same _ _ hlt]
        · have hout : x.elements.modify n (fun _ => { x.element n with bank := bank }) = x.elements :=
            List.modify_eq_self (by omega)
          rw [State.element, State.modElement, hout, State.element]
      · rw [State.element_modElement_other _ _ hd]
    obtain ⟨els, hels, hlen, hother⟩ := ih (x.modElement n (fun _ => { x.element n with bank := bank })) fun d hd =>
      ⟨(hkept d).trans (h d (List.mem_cons_of_mem _ hd)).state, (h d (List.mem_cons_of_mem _ hd)).bankA,
        (h d (List.mem_cons_of_mem _ hd)).bankB⟩
    refine ⟨els, hels, hlen.trans (List.length_modify ..), fun e he => ?_⟩
    rw [hother e (List.not_mem_of_not_mem_cons he), State.element_modElement_other _ _ (List.ne_of_not_mem_cons he).symm]

/-- The queue after the work of the elements, where every other one is out of service. -/
theorem State.protectionWork_alone (he : e < 64) (h : ∀ d < 64, d ≠ e → a.Idles d) : ∃ v : State,
    v.closing = a.closing ∧ (a.protectionWork image).events = (v.elementOutputs e (a.tripSet e) (a.element e).state
      (a.worked image e).state (a.worked image e).lastX).events := by
  obtain ⟨as, bs, hns⟩ := List.append_of_mem (List.mem_range.2 he)
  have hnodup : (as ++ e :: bs).Nodup := hns ▸ List.nodup_range
  have hmem : ∀ d, d ∈ as ∨ d ∈ bs → d < 64 ∧ d ≠ e := fun d hd => by
    refine ⟨List.mem_range.1 (hns ▸ ?_), ?_⟩
    · rcases hd with hd | hd <;> simp [hd]
    · rintro rfl
      rw [List.nodup_append] at hnodup
      obtain ⟨-, hcons, hapart⟩ := hnodup
      rcases hd with hd | hd
      · exact hapart d hd d List.mem_cons_self rfl
      · exact (List.nodup_cons.1 hcons).1 hd
  have hsplit : a.protectionWork image = (State.elementWork image e (a.forEach as (State.elementWork image))).forEach bs
      (State.elementWork image) := by
    rw [State.protectionWork, hns]
    simp only [State.forEach, List.foldl_append, List.foldl_cons]
  obtain ⟨els, hels, hlength, hother⟩ := State.forEach_idles (image := image) as a fun d hd =>
    h d (hmem d (.inl hd)).1 (hmem d (.inl hd)).2
  have hguards : Guards e a (a.forEach as (State.elementWork image)) := (Guards.refl e a).forEach _ _ fun d hd _ ht =>
    ht.elementWork (hmem d (.inl hd)).2
  have hidles : ∀ d ∈ bs, (a.forEach as (State.elementWork image)).Idles d := fun d hd => by
    have hout : d ∉ as := fun hin => by
      rw [List.nodup_append] at hnodup
      exact hnodup.2.2 d hin d (List.mem_cons_of_mem _ hd) rfl
    have hbefore := h d (hmem d (.inr hd)).1 (hmem d (.inr hd)).2
    rw [hels]
    exact ⟨(congrArg ElementRec.state (hother d hout)).trans hbefore.state, hbefore.bankA, hbefore.bankB⟩
  have hafter : ∀ d ∈ bs, (State.elementWork image e (a.forEach as (State.elementWork image))).Idles d := fun d hd => by
    have hturn := (Guards.refl d (a.forEach as (State.elementWork image))).elementWork (image := image) (d := e)
      (hmem d (.inr hd)).2.symm
    have hbefore := hidles d hd
    generalize State.elementWork image e (a.forEach as (State.elementWork image)) = y at *
    refine ⟨(congrArg ElementRec.state hturn.element).trans hbefore.state, ?_, ?_⟩
    · rw [State.fld, hturn.mgmt]
      exact hbefore.bankA
    · rw [State.fld, hturn.mgmt]
      exact hbefore.bankB
  obtain ⟨els', hels', -, -⟩ := State.forEach_idles (image := image) bs _ hafter
  rw [hsplit, hels']
  clear hels' hafter hidles hsplit hels hother
  generalize a.forEach as (State.elementWork image) = x at *
  obtain ⟨hinput, hsettings, hbank, htrips⟩ := State.elementInput_congr (e := e) (image := image) hguards.mgmt hguards.measures
    (a.settings e (a.activeBank image e))
  have hworked : x.worked image e = a.worked image e := by
    rw [State.worked, hguards.element, hbank, hsettings, hinput, State.worked]
  refine ⟨x.modElement e (fun _ => a.worked image e), hguards.closing, ?_⟩
  show (State.elementWork image e x).events = _
  rw [State.elementWork_eq, hworked, hguards.element, htrips]

/-! ### A paralleling unit without generators, runs and requests -/

theorem State.genOrder_bare (h : ∀ g < 8, x.genConfigured g = false) : x.genOrder = [] := by
  have hstart : x.startOrder = [] := by
    refine List.flatMap_eq_nil_iff.2 fun r _ => List.filter_eq_nil_iff.2 fun g hg => ?_
    simp [h g (List.mem_range.1 hg)]
  have hrest : x.unlisted = [] := List.filter_eq_nil_iff.2 fun g hg => by simp [h g (List.mem_range.1 hg)]
  rw [State.genOrder, hstart, hrest]
  rfl

theorem State.parallelingWork_bare (h : ∀ g < 8, x.genConfigured g = false) (hc : ∀ c < 4, x.channel c = none) :
    x.parallelingWork = x.post .tokenGrant := by
  have hrated : x.forEach (List.range 8) State.ratedTest = x := State.forEach_rests _ fun g hg => by
    rw [State.ratedTest, if_pos (by simp [h g (List.mem_range.1 hg)])]
  have hruns : x.forEach (List.range 4) State.evaluateRun = x := State.forEach_rests _ fun c hc' => by
    rw [State.evaluateRun, hc c (List.mem_range.1 hc')]
  rw [State.parallelingWork, hrated, State.genOrder_bare h]
  show (x.forEach (List.range 4) State.evaluateRun).post .tokenGrant = _
  rw [hruns]

theorem State.grantToken_bare (h : ∀ g < 8, x.genConfigured g = false) (ht : x.par.token = none) (hl : x.par.tokenList = []) :
    x.grantToken = x := by
  have hnone : x.grantee = none := by
    rw [State.grantee, hl, State.genOrder_bare h]
    rfl
  rw [State.grantToken, ht, hnone]

theorem State.captureWork_bare (h : x.capture.state ≠ .recording) : x.captureWork l = x.captureRing (x.instantRecord l) := by
  rw [State.captureWork, State.captureAppend]
  exact if_pos (by simpa [State.captureRing, State.modCapture] using h)

theorem State.sampleLockout_same (h : x.lines.lastSample = some pin → x.lines.lockout = pin) :
    x.sampleLockout pin = x.modLines (fun l => { l with lockoutPin := pin, lastSample := some pin }) := by
  rw [State.sampleLockout]
  refine if_pos ?_
  by_cases hl : x.lines.lastSample = some pin
  · simp [h hl]
  · simp [hl]

/-- The queue after a closure at which no other block has anything to record. -/
theorem closure_events (hw : x.work = []) (hl : x.lines.lastSample = some pin → x.lines.lockout = pin)
    (hb : ∀ b < 24, (x.brk b).bf = .idle) (hg : ∀ g < 8, x.genConfigured g = false) (hc : ∀ c < 4, x.channel c = none)
    (ht : x.par.token = none) (hq : x.par.tokenList = []) (hcap : x.capture.state ≠ .recording) :
    (State.settle s ((((x.sampleLockout pin).forEach (List.range 24) (fun b x => x.testBf b)).parallelingWork).captureWork l)).newest =
      x.newest := by
  rw [State.sampleLockout_same hl]
  have hsampled : ∀ f, (x.modLines f).forEach (List.range 24) (fun b x => x.testBf b) = x.modLines f := fun f =>
    State.forEach_rests _ fun b hb' => by
      rw [State.testBf]
      exact if_neg (by simp [show ((x.modLines f).brk b).bf = .idle from hb b (List.mem_range.1 hb')])
  rw [hsampled]
  generalize hy : x.modLines _ = y
  have hyw : y.work = [] := by rw [← hy]; exact hw
  have hyg : ∀ g < 8, y.genConfigured g = false := by rw [← hy]; exact hg
  have hyc : ∀ c < 4, y.channel c = none := by rw [← hy]; exact hc
  have hyt : y.par.token = none := by rw [← hy]; exact ht
  have hyq : y.par.tokenList = [] := by rw [← hy]; exact hq
  have hycap : y.capture.state ≠ .recording := by rw [← hy]; exact hcap
  have hnewest : x.newest = y.newest := by rw [← hy]; rfl
  rw [State.parallelingWork_bare hyg hyc, State.captureWork_bare (x := y.post .tokenGrant) hycap, hnewest]
  generalize hz : y.captureRing ((y.post .tokenGrant).instantRecord l) = z
  have hpost : (y.post .tokenGrant).captureRing ((y.post .tokenGrant).instantRecord l) = z.post .tokenGrant := by
    rw [← hz]
    rfl
  have hzw : z.work = [] := by rw [← hz]; exact hyw
  have hgrant : z.grantToken = z := by
    rw [← hz]
    exact State.grantToken_bare hyg hyt hyq
  have hdrains : Drains 1 (z.post .tokenGrant) z := Drains.posted hzw hgrant hzw
  rw [hpost, hdrains.settle, State.settle_newest hzw, ← hz]
  rfl

end

/-- Settles the fifth part of O60. -/
theorem operatedElementIsRecorded : Clause.OperatedElementIsRecorded := by
  intro s t pin e hs hdue hexec he hcalm hothers hlockout hbf hgens hchannels htoken hlist hcapture
  rw [exec_closure_due hdue] at hexec
  have hend := Host.Outcome.next.inj hexec
  have hturn := closure_element hs he hend
  have hprotects := s.guardedWork_protects
  obtain ⟨hpar, -, hlines, hcap, -, -, -, hwork, -, hrecs, -⟩ := hprotects.rest
  have htouches := s.measured_touches
  have hmpar : s.measured.par = s.par := htouches.stands .par (by decide)
  have hmbreakers : s.measured.breakers = s.breakers := htouches.stands .breakers (by decide)
  have hevents := closure_events (s := s) (x := s.guardedWork) (pin := pin) (l := s.closingLabel)
    (hwork.trans ((htouches.calm (by decide)).1.trans hs.1))
    (by rw [hlines, htouches.stands .lines (by decide)]; exact hlockout)
    (fun b hb => by rw [State.brk, hrecs, hmbreakers]; exact hbf b hb)
    (fun g hg => by
      rw [State.genConfigured, hprotects.fld (by decide), s.measured_fld]
      simpa using hgens g hg)
    (fun c hc => by rw [State.channel, hpar, hmpar]; exact hchannels c hc)
    (by rw [hpar, hmpar]; exact htoken) (by rw [hpar, hmpar]; exact hlist)
    (by rw [hcap, htouches.stands .capture (by decide)]; exact hcapture)
  have hsettled : t.newest = s.guardedWork.newest := by rw [← hend]; exact hevents
  have hguarded : s.guardedWork = s.measured.activatedBoth.protectionWork s.measured.image := rfl
  have hcurve : s.measured.activatedBoth = s.measured.activateWaiting .curve := by
    refine State.activateWaiting_none (State.commitWait_none.2 ?_)
    rw [(State.activateWaiting_others (by decide) (by decide)).2, (s.measured_table .element).2]
    exact hcalm
  have helements : s.measured.activatedBoth.elements = s.elements := by
    rw [hcurve, (State.activateWaiting_elements (by decide)).1, htouches.stands .elements (by decide)]
  have hfld : ∀ d id, s.measured.activatedBoth.fld .element d id = s.fld .element d id := fun d id => by
    rw [hcurve, State.activateWaiting_fld (by decide) (by decide), s.measured_fld]
  have hclosing : s.measured.activatedBoth.closing = some s.closingLabel := hturn.activates.closing.trans s.measured_closing
  have hself : ∀ d, s.measured.activatedBoth.element d = s.element d := fun d => by rw [State.element, helements, State.element]
  obtain ⟨v, hv, hqueue⟩ := State.protectionWork_alone (a := s.measured.activatedBoth) (image := s.measured.image) he fun d hd hne => by
    obtain ⟨hstate, hbankA, hbankB⟩ := hothers d hd hne
    exact ⟨by rw [hself, hstate], by rw [hfld]; exact hbankA, by rw [hfld]; exact hbankB⟩
  rw [← hturn.work, ← hguarded, hself] at hqueue
  rw [hsettled, State.newest, hqueue, ← State.newest]
  have hlabel : ∀ qs, (v.asking qs).eventLabel = s.labelOf s.aligner.closingPoint := fun qs => by
    show (v.closing.getD _) = _
    rw [hv, hclosing]
    rfl
  refine ⟨fun hold hnew => ?_, fun hold hnew => ?_⟩
  · rw [hnew, State.elementOutputs_enters _ _ hold, State.event_newest, hlabel]
    rfl
  · rw [hold, hnew, State.elementOutputs_drops, State.event_newest, hlabel]
    rfl

/-- Settles O60. -/
theorem elementsActAtClosures : Obligations.ElementsActAtClosures :=
  ⟨everyElementWorks, waitingContentBecomesActive, tablesStandOtherwise, operatedElementTrips, operatedElementIsRecorded⟩


end Sys2Proof.Machine
end

section
/-! # Where a closure leads -/

namespace Sys2Proof.Machine

section
variable {s t u x : State} {k : Nat} {l : Label} {pin : Bool}

/-! ### Where a closure leads (R30) -/

/-- The instant may close (R30). -/
theorem State.closureDue_iff (s : State) : s.closureDue = true ↔
    (0 ≤ s.counterBeyond s.aligner.closingPoint ∧
      ∀ k < 16, ((s.stream k).state = .locked ∨ (s.stream k).state = .holding) →
        ∃ d ∈ (s.stream k).buffer, d.position = s.aligner.closingPoint) ∨
    (s.station 8 : Int) + 1 ≤ s.counterBeyond s.aligner.closingPoint := by
  simp only [State.closureDue, State.gates, Bool.or_eq_true, Bool.and_eq_true, decide_eq_true_eq, List.all_eq_true, List.mem_range,
    Bool.not_eq_true', Bool.or_eq_false_iff, beq_eq_false_iff_ne, List.any_eq_true, beq_iff_eq]
  refine or_congr_left (and_congr_right fun _ => forall₂_congr fun k _ => ?_)
  rw [← not_or, or_iff_not_imp_left, not_not]

/-- The lines after the sampling of the pin (R90, R91). -/
theorem State.sampleLockout_moves (x : State) (pin : Bool) : (x.sampleLockout pin).lines =
    let lockout := if x.lines.lastSample = some pin then pin else x.lines.lockout
    { x.lines with
      lockoutPin := pin
      lastSample := some pin
      lockout := lockout
      lockoutChanges := if lockout = x.lines.lockout then x.lines.lockoutChanges else x.lines.lockoutChanges ++ [pin] } := by
  have hgens : ∀ v : State, v.lockoutGens.lines = v.lines := fun v => by
    have hev : Evolves v v.lockoutGens := State.lockoutGens_evolves .refl
    exact congrArg Rest.lines hev.rest
  have hmoved : ∀ (v : State) (c : EventClass) (p o k : Nat), ((if pin then (v.event c p o k none).lockoutGens
      else v.event .management 7 0 3 none : State)).lines = v.lines := fun v c p o k => by
    split
    · rw [hgens, State.event_lines]
    · rw [State.event_lines]
  by_cases hl : x.lines.lastSample = some pin
  · by_cases hp : pin = x.lines.lockout
    · rw [State.sampleLockout_same fun _ => hp.symm]
      dsimp only
      rw [if_pos hl, if_pos hp]
      show ({ x.lines with lockoutPin := pin, lastSample := some pin } : Lines) = _
      rw [hp]
    · have hchange : (x.lines.lastSample == some pin && pin != x.lines.lockout) = true := by simp [hl, hp]
      dsimp only
      rw [if_pos hl, if_neg hp, State.sampleLockout, hchange]
      exact hmoved _ _ _ _ _
  · rw [State.sampleLockout_same fun h => absurd h hl]
    dsimp only
    rw [if_neg hl, if_pos rfl]
    rfl

/-- The end of a command drives HEALTHY and leaves the other lines. -/
theorem State.settle_drives (s u : State) : (State.settle s u).lines = { u.lines with healthy := (State.settle s u).healthyNow } := by
  obtain ⟨z, hz, hev, -⟩ := State.settle_edges s u
  have hlines : z.lines = u.lines := congrArg Rest.lines hev.rest
  rw [hz]
  show ({ z.lines with healthy := z.healthyNow } : Lines) = _
  rw [hlines]
  rfl

/-- What stands of the streams, the measurements and the closing point once they are computed, and what the rest of the closure
moves of the lines and keeps of the records. -/
structure ClosureEnd (s t : State) (pin : Bool) : Prop where
  aligner : t.aligner = s.measured.aligner
  intake : t.intake = s.measured.intake
  measures : t.measures = s.measured.measures
  pending : t.pending = s.pending
  free : t.free = s.free
  grows : ∃ gone, Grows gone s.measured t
  lines : t.lines = { (s.guardedWork.sampleLockout pin).lines with healthy := t.healthyNow }

/-- The work of the paralleling unit and the BF tests after the sampling of the pin. -/
theorem State.sampled_evolves (s : State) (pin : Bool) :
    Evolves (s.guardedWork.sampleLockout pin) (s.sampled pin).parallelingWork := by
  have htests : Evolves (s.guardedWork.sampleLockout pin) (s.sampled pin) :=
    State.forEach_evolves _ _ .refl fun b _ ht => State.testBf_evolves b ht
  exact State.parallelingWork_evolves htests

theorem State.guardedWork_grows (s : State) : ∃ gone, Grows gone s.measured s.guardedWork := by
  obtain ⟨gone, hcurve⟩ := State.activateWaiting_grows (s := s.measured) (x := .curve) (by decide)
  obtain ⟨gone', helement⟩ := State.activateWaiting_grows (s := s.measured.activateWaiting .curve) (x := .element) (by decide)
  have hboth : Grows (gone ++ gone') s.measured s.measured.activatedBoth := hcurve.trans helement
  have hwork : s.guardedWork = s.measured.activatedBoth.protectionWork s.measured.image := rfl
  rw [hwork]
  generalize s.measured.activatedBoth = a at *
  exact ⟨_, hboth.next ((Guards.refl 64 a).forEach _ _ fun n hn _ ht =>
    ht.elementWork (Nat.ne_of_lt (List.mem_range.1 hn))).grows⟩

theorem Evolves.lines (h : Evolves s t) : t.lines = s.lines := congrArg Rest.lines h.rest

theorem Touches.lines {ps : List StatePart} (h : Touches ps s t) (hp : .lines ∉ ps) : t.lines = s.lines := h.stands .lines hp

theorem closure_end (h : State.settle s ((s.sampled pin).parallelingWork.captureWork s.closingLabel) = t) : ClosureEnd s t pin := by
  have hfinishes := closure_finishes h
  obtain ⟨-, -, -, -, haligner, hintake, hmeasures, -⟩ := s.guardedWork_protects.rest
  obtain ⟨gone, hgrows⟩ := s.guardedWork_grows
  have htouches := (Touches.refl Touches.closureParts s).closureWork pin
  rw [State.closureWork_stages] at htouches
  have hev := s.sampled_evolves pin
  have hcapture := (Touches.refl [.links, .events, .capture] (s.sampled pin).parallelingWork).captureWork s.closingLabel
  have hlines := hev.lines
  have hdriven := State.settle_drives s ((s.sampled pin).parallelingWork.captureWork s.closingLabel)
  have hpending := State.settle_pending s ((s.sampled pin).parallelingWork.captureWork s.closingLabel)
  have hfree := State.settle_free s ((s.sampled pin).parallelingWork.captureWork s.closingLabel)
  rw [h] at hdriven hpending hfree
  refine ⟨hfinishes.aligner.trans haligner, hfinishes.intake.trans hintake, hfinishes.measures.trans hmeasures,
    hpending.trans htouches.pending, hfree.trans (htouches.stands .free (by decide)), ⟨gone, hgrows.next hfinishes.grows⟩, ?_⟩
  have hstands : ((s.sampled pin).parallelingWork.captureWork s.closingLabel).lines = (s.guardedWork.sampleLockout pin).lines :=
    (hcapture.lines (by decide)).trans hlines
  rw [hdriven, hstands]

end

/-- Settles the first part of O17. -/
theorem instantCloses : Clause.InstantCloses := by
  intro s pin hs
  dsimp only
  rw [← State.closureDue_iff]
  refine ⟨fun hdue => exec_closure_idle hs (by simpa using hdue), fun hdue => ⟨_, exec_closure_due hdue, ?_⟩⟩
  have hend := closure_end (s := s) (pin := pin) rfl
  generalize State.settle s ((s.sampled pin).parallelingWork.captureWork s.closingLabel) = t at *
  have hlines : s.guardedWork.lines = s.lines := by
    obtain ⟨-, -, hlines, -⟩ := s.guardedWork_protects.rest
    exact hlines.trans (s.measured_touches.stands .lines (by decide))
  refine ⟨hend.aligner.trans s.measured_aligner, ?_, fun k hk he => ?_, hend.pending, hend.free⟩
  · rw [hend.lines, State.sampleLockout_moves, hlines]
  · have hstream : t.stream k = (s.stream k).close s.aligner.closingPoint := by
      rw [State.stream, hend.intake, ← State.stream, State.measured_stream hs hk, if_neg he]
    rw [hstream]
    refine ⟨rfl, ?_⟩
    simp only [StreamRec.close, quantitiesValid, List.all_eq_true, Bool.and_eq_true, bne_iff_ne, beq_iff_eq, Config.windowLength]


end Sys2Proof.Machine
end

section
/-! # O17: the streams, their windows and their events -/

namespace Sys2Proof.Machine

section
variable {s t u x : State} {k : Nat} {pin : Bool}

/-! ### The streams and their measurements after a closure -/

/-- A stream and its measurements after a closure that is due. -/
structure StreamClosed (s t : State) (k : Nat) : Prop where
  rests : (s.stream k).state = .disabled → t.stream k = s.stream k ∧ t.measure k = s.measure k
  stream : (s.stream k).state ≠ .disabled → t.stream k = (s.stream k).close s.aligner.closingPoint
  measure : (s.stream k).state ≠ .disabled → t.measure k =
    (s.measure k).close s.closingLabel s.aligner.nominal (s.fld .stream k 4) (t.stream k).quantities

theorem closure_stream (hs : s.Quiet) (hdue : s.closureDue = true) (hexec : exec (.instantClosure pin) s = .next t) (hk : k < 16) :
    StreamClosed s t k := by
  rw [exec_closure_due hdue] at hexec
  have hend := closure_end (Host.Outcome.next.inj hexec)
  have hstream : t.stream k = s.measured.stream k := by rw [State.stream, hend.intake, State.stream]
  have hmeasure : t.measure k = s.measured.measure k := by rw [State.measure, hend.measures, State.measure]
  refine ⟨fun h => ⟨?_, ?_⟩, fun h => ?_, fun h => ?_⟩
  · rw [hstream, State.measured_stream hs hk, if_pos h]
  · rw [hmeasure, State.measured_measure hs hk, if_pos h]
  · rw [hstream, State.measured_stream hs hk, if_neg h]
  · rw [hmeasure, State.measured_measure hs hk, if_neg h, hstream]

theorem Condition.mark_eq (c : Condition) : (match c with
    | .fresh => WindowMark.none
    | .held => .held
    | .invalid => .invalid) = c.mark := by cases c <;> rfl

end

/-- Settles the second part of O17. -/
theorem closureEntersTheWindows : Clause.ClosureEntersTheWindows := by
  intro s t pin hs hdue hexec
  refine ⟨?_, fun k hk => ?_⟩
  · have hend := hexec
    rw [exec_closure_due hdue] at hend
    rw [(closure_end (Host.Outcome.next.inj hend)).aligner, s.measured_aligner]
    rfl
  · have hclosed := closure_stream hs hdue hexec hk
    refine ⟨fun h => (hclosed.rests h).2, fun h => ⟨?_, ?_, ?_⟩⟩
    · rw [hclosed.stream h]
      rfl
    · rw [hclosed.stream h]
      simp only [StreamRec.close, stateOfQuantities, Bool.and_eq_true, beq_iff_eq, Option.isNone_iff_eq_none, List.any_eq_true,
        List.all_eq_true]
    · rw [hclosed.measure h, hclosed.stream h]
      rfl

section
variable {s t u x : State} {k : Nat} {pin : Bool}

/-- A stream's event of a closure that the queue has not lost. -/
theorem closure_streamEvent (hs : s.Quiet) (hdue : s.closureDue = true) (hexec : exec (.instantClosure pin) s = .next t) (hk : k < 16)
    (he : (s.stream k).state ≠ .disabled) : ∃ v : State, v.closing = some s.closingLabel ∧ ∃ gone,
      Grows gone (v.streamEvents k (s.stream k).state (t.stream k).state) t := by
  have hclosed := closure_stream hs hdue hexec hk
  rw [exec_closure_due hdue] at hexec
  obtain ⟨gone, hgrows⟩ := (closure_end (Host.Outcome.next.inj hexec)).grows
  obtain ⟨v, hv, hrecords⟩ := State.streamed_records hk he
  refine ⟨v, hv, [] ++ gone, ?_⟩
  rw [hclosed.stream he]
  exact (hrecords.next s.streamed_measured).trans hgrows

/-- An event of a closure that nothing takes back. -/
theorem closureRecords_of_holds {gone : List Nat} {v : State} {c : EventClass} {p o n : Nat} {d : Option Nat}
    (hv : v.closing = some s.closingLabel) (hg : Grows gone (v.event c p o n d) t) : Clause.ClosureRecords s t c p o n d := fun hlen => by
  have hholds := State.event_holds (s := v) (c := c) (priority := p) (object := o) (code := n) (value := d)
  have hlabel : v.eventLabel = s.closingLabel := by rw [State.eventLabel, hv]; rfl
  rw [hlabel] at hholds
  exact hg.holds hholds hlen

end

/-- Settles the fifth part of O17. -/
theorem streamChangesAreRecorded : Clause.StreamChangesAreRecorded := by
  intro s t pin k hs hdue hexec hk
  have hclosed := closure_stream hs hdue hexec hk
  have hevent := closure_streamEvent hs hdue hexec hk
  refine ⟨fun h => (hclosed.rests h).1, fun h => ?_, fun hnew hold => ?_, fun hold hnew => ?_⟩
  · rw [hclosed.stream h]
    simp only [StreamRec.close]
    congr 1
    rw [Bool.eq_iff_iff]
    simp
  · by_cases h : (s.stream k).state = .disabled
    · rw [(hclosed.rests h).1, h] at hnew
      exact absurd hnew (by decide)
    · obtain ⟨v, hv, gone, hg⟩ := hevent h
      refine closureRecords_of_holds hv (gone := gone) ?_
      rwa [State.streamEvents, if_pos (by simp [hnew, hold])] at hg
  · obtain ⟨v, hv, gone, hg⟩ := hevent (by rw [hold]; decide)
    refine closureRecords_of_holds hv (gone := gone) ?_
    have hmoved : (t.stream k).state ≠ .stale := by rcases hnew with h | h <;> rw [h] <;> decide
    rwa [State.streamEvents, if_neg (by simp [hmoved]), if_pos (by simpa [hold] using hnew)] at hg


end Sys2Proof.Machine
end

section
/-! # O17: the phasors and the power -/

namespace Sys2Proof.Machine

section
variable {s t u x : State} {k : Nat} {pin : Bool}

/-! ### The arithmetic of a closure (R41, R42, R46 to R50) -/

/-- A sum over a window is the sum over its 48 places. -/
theorem weightedSum_range (w : List WindowEntry) (c : Nat → Int) : weightedSum w c =
    ((List.range 48).map (fun j => (nth w j).value * c j)).sum := by
  have hoffset : ∀ (n a : Nat) (w : List WindowEntry), ((w.zip (List.range' a n)).map (fun x => x.1.value * c x.2)).sum =
      ((List.range' a n).map (fun j => (nth w (j - a)).value * c j)).sum := by
    intro n
    induction n with
    | zero => intro a w; simp
    | succ n ih =>
      intro a w
      cases w with
      | nil =>
        have hzero : ∀ j, (nth ([] : List WindowEntry) j).value = 0 := fun j => rfl
        simp [hzero]
      | cons e w =>
        have hshift : (List.range' (a + 1) n).map (fun j => (nth (e :: w) (j - a)).value * c j) =
            (List.range' (a + 1) n).map (fun j => (nth w (j - (a + 1))).value * c j) := by
          refine List.map_congr_left fun j hj => ?_
          obtain ⟨i, -, rfl⟩ := List.mem_range'.1 hj
          have hleft : a + 1 + 1 * i - a = (a + 1 + 1 * i - (a + 1)) + 1 := by omega
          rw [hleft]
          rfl
        rw [List.range'_succ, List.zip_cons_cons, List.map_cons, List.map_cons, List.sum_cons, List.sum_cons, ih, hshift]
        simp [nth]
  have h := hoffset 48 0 w
  rw [weightedSum, Config.windowLength]
  simpa only [← List.range_eq_range', Nat.sub_zero] using h

theorem magnitudeOf_spec (re im : Int) : ((magnitudeOf re im : Nat) : Int) ^ 2 ≤ re ^ 2 + im ^ 2 ∧
    re ^ 2 + im ^ 2 < ((magnitudeOf re im : Nat) + 1 : Int) ^ 2 := by
  obtain ⟨hle, hlt⟩ := squareRootIsTheFloor (re.natAbs * re.natAbs + im.natAbs * im.natAbs)
  have hsquare : ((re.natAbs * re.natAbs + im.natAbs * im.natAbs : Nat) : Int) = re ^ 2 + im ^ 2 := by
    push_cast
    rw [abs_mul_abs_self, abs_mul_abs_self]
    ring
  rw [← hsquare, magnitudeOf, sq, sq]
  refine ⟨?_, ?_⟩
  · exact_mod_cast hle
  · exact_mod_cast hlt

/-- A phasor that is decided at a closure (R43). -/
theorem decidePhasor_fresh {l : Label} {p : Phasor} {w : List WindowEntry} {q : Quantity} (h : q.fresh = 48) :
    decidePhasor l p w q = ⟨windowRe w, windowIm w, magnitudeOf (windowRe w) (windowIm w), true, some l⟩ := by
  rw [decidePhasor, if_pos (by simp [h, Config.windowLength])]

theorem decidePhasor_kept {l : Label} {p : Phasor} {w : List WindowEntry} {q : Quantity} (h : q.fresh ≠ 48) :
    decidePhasor l p w q = { p with valid := false } := by
  rw [decidePhasor, if_neg (by simpa [Config.windowLength] using h)]

/-- A phasor of a closed measurement. -/
theorem StreamMeasure.close_phasor {m : StreamMeasure} {l : Label} {n v q : Nat} {qs : List Quantity} (hq : q < 8) :
    nth (m.close l n v qs).phasors q = decidePhasor l (nth m.phasors q) (nth (m.close l n v qs).windows q) (nth qs q) := by
  simp [StreamMeasure.close, nth, hq]

end

/-- Settles the third part of O17. -/
theorem closureComputesPhasorsAndPower : Clause.ClosureComputesPhasorsAndPower := by
  intro s t pin k hs hdue hexec hk he
  have hclosed := closure_stream hs hdue hexec hk
  have hmeasure := hclosed.measure he
  have hphasor : ∀ q < 8, t.phasor k q = decidePhasor s.closingLabel (s.phasor k q) (nth (t.measure k).windows q)
      (nth (t.stream k).quantities q) := fun q hq => by
    rw [State.phasor, hmeasure, StreamMeasure.close_phasor hq, State.phasor]
  refine ⟨fun q hq => ⟨fun h => ?_, fun h => ?_⟩, ?_⟩
  · have hspec := magnitudeOf_spec (windowRe (nth (t.measure k).windows q)) (windowIm (nth (t.measure k).windows q))
    rw [hphasor q hq, decidePhasor_fresh h]
    refine ⟨?_, ?_, hspec.1, hspec.2, rfl, rfl⟩
    · exact congrArg (roundDiv · 49152) (weightedSum_range _ _)
    · exact congrArg (fun x => roundDiv (-x) 49152) (weightedSum_range _ _)
  · rw [hphasor q hq, decidePhasor_kept h]
  · have hpowerValid : (t.measure k).powerValid = powerInputsValid (t.measure k).phasors := by rw [hmeasure]; rfl
    have hpower : (t.measure k).power = if powerInputsValid (t.measure k).phasors then
        roundDiv (powerSum (t.measure k).phasors) Config.powerDivisor else (s.measure k).power := by rw [hmeasure]; rfl
    refine ⟨?_, ?_⟩
    · rw [hpowerValid, powerInputsValid, List.all_eq_true]
      rfl
    · have hsum : powerSum (t.measure k).phasors = (t.phasor k 0).re * (t.phasor k (0 + 4)).re + (t.phasor k 0).im * (t.phasor k (0 + 4)).im +
          ((t.phasor k 1).re * (t.phasor k (1 + 4)).re + (t.phasor k 1).im * (t.phasor k (1 + 4)).im) +
          ((t.phasor k 2).re * (t.phasor k (2 + 4)).re + (t.phasor k 2).im * (t.phasor k (2 + 4)).im) := by
        simp [powerSum, List.range, List.range.loop, State.phasor, add_assoc]
      rw [hpower, hsum, hpowerValid]
      rfl


end Sys2Proof.Machine
end

section
/-! # O17: the frequency tracker -/

namespace Sys2Proof.Machine

section
variable {s t u x : State} {k : Nat} {pin : Bool}

/-! ### The frequency tracker (R46 to R48) -/

/-- A positive-going crossing of Q0 between the two newest values of its window (R46). -/
def crossesAt (level : Nat) (w : List WindowEntry) (p : Phasor) : Prop :=
  (nth w 46).value < 0 ∧ 0 ≤ (nth w 47).value ∧ (nth w 46).mark = .none ∧ (nth w 47).mark = .none ∧
    p.valid = true ∧ level ≤ p.magnitude

/-- The time of a crossing at closure count `n` (R46). -/
def crossingTime (n : Nat) (w : List WindowEntry) : Nat :=
  ((256 * n - 256 * (nth w 47).value / ((nth w 47).value - (nth w 46).value) : Int) % 2 ^ 32).toNat

theorem crossingAt_some {n level : Nat} {w : List WindowEntry} {p : Phasor} (hn : n < 2 ^ 24) (h : crossesAt level w p) :
    crossingAt n level w p = some (crossingTime n w) := by
  obtain ⟨ha, hb, hma, hmb, hv, hl⟩ := h
  rw [crossingAt, crossingTime]
  dsimp only
  rw [if_pos (by simp [ha, hb, hma, hmb, hv, hl])]
  generalize (nth w 46).value = a at *
  generalize (nth w 47).value = b at *
  obtain ⟨c, rfl⟩ := Int.eq_ofNat_of_zero_le hb
  obtain ⟨d, rfl⟩ : ∃ d : Nat, a = -(d : Int) := ⟨a.natAbs, by omega⟩
  have hd : 0 < d := by omega
  have hquot : 256 * (c : Int) / ((c : Int) - -(d : Int)) = ((256 * c / (c + d) : Nat) : Int) := by
    push_cast
    congr 1
    omega
  have hle : 256 * c / (c + d) ≤ 256 := Nat.div_le_of_le_mul (by nlinarith)
  rw [hquot, Int.natAbs_natCast, Int.natAbs_neg, Int.natAbs_natCast]
  generalize 256 * c / (c + d) = back at *
  congr 1
  omega

theorem crossingAt_none {n level : Nat} {w : List WindowEntry} {p : Phasor} (h : ¬ crossesAt level w p) :
    crossingAt n level w p = none := by
  rw [crossingAt]
  dsimp only
  rw [if_neg]
  simp only [Bool.and_eq_true, decide_eq_true_eq, beq_iff_eq]
  exact fun ⟨⟨⟨⟨⟨ha, hb⟩, hma⟩, hmb⟩, hv⟩, hl⟩ => h ⟨ha, hb, hma, hmb, hv, hl⟩

/-- The tracker after a closure, by its crossing and the period that the crossing ends (R46 to R48). -/
def Tracker.closed (old : Tracker) (nominal n : Nat) (crossing : Option Nat) : Tracker :=
  let period : Option Nat := crossing.bind (fun x => old.reference.map (fun r => (x + 2 ^ 32 - r) % 2 ^ 32))
  let accepted : Bool := decide (∃ p, period = some p ∧ 8192 ≤ p ∧ p ≤ 18432)
  let silence := if accepted then 0 else min (old.silence + 1) 144
  { closures := n
    reference := if crossing.isSome then crossing else old.reference
    silence := silence
    frequency := match period, accepted with
      | some p, true => (roundDiv (12288000 * nominal : Nat) p).toNat
      | _, _ => old.frequency
    valid := accepted || (old.valid && decide (silence < 144))
    accepted := if accepted then step32 old.accepted else old.accepted
    discarded := if period.isSome && !accepted then step32 old.discarded else old.discarded }

theorem Tracker.period_accepted {v : Tracker} {nominal p : Nat} (h : 8192 ≤ p ∧ p ≤ 18432) : v.period nominal p =
    { v with
      frequency := (roundDiv (12288000 * nominal : Nat) p).toNat
      valid := true
      silence := 0
      accepted := step32 v.accepted } :=
  if_pos (by rw [Bool.and_eq_true, decide_eq_true_eq, decide_eq_true_eq]; exact h)

theorem Tracker.period_discarded {v : Tracker} {nominal p : Nat} (h : ¬ (8192 ≤ p ∧ p ≤ 18432)) : v.period nominal p =
    { v.quiet with discarded := step32 v.discarded } :=
  if_neg (by rw [Bool.and_eq_true, decide_eq_true_eq, decide_eq_true_eq]; exact h)

theorem Tracker.close_closed (old : Tracker) (nominal level : Nat) (w : List WindowEntry) (p : Phasor) :
    old.close nominal level w p = old.closed nominal ((old.closures + 1) % 2 ^ 24)
      (crossingAt ((old.closures + 1) % 2 ^ 24) level w p) := by
  unfold Tracker.close
  dsimp only
  generalize crossingAt _ level w p = crossing
  cases crossing with
  | none => simp [Tracker.closed, Tracker.quiet, Config.trackerSilence]
  | some x =>
    cases hr : old.reference with
    | none => simp [Tracker.closed, Tracker.quiet, Config.trackerSilence, hr]
    | some r =>
      have hperiod : ((some x).bind fun x => old.reference.map fun r => (x + 2 ^ 32 - r) % 2 ^ 32) =
          some ((x + 2 ^ 32 - r) % 2 ^ 32) := by rw [hr]; rfl
      dsimp only
      rw [Tracker.closed, hperiod]
      generalize (x + 2 ^ 32 - r) % 2 ^ 32 = period
      by_cases h : 8192 ≤ period ∧ period ≤ 18432
      · rw [Tracker.period_accepted h]
        simp [h]
      · rw [Tracker.period_discarded h]
        simp [h, Tracker.quiet, Config.trackerSilence]

end

/-- Settles the fourth part of O17. -/
theorem closureTracksTheFrequency : Clause.ClosureTracksTheFrequency := by
  intro s t pin k hs hdue hexec hk he
  have hmeasure := (closure_stream hs hdue hexec hk).measure he
  have hphasor : t.phasor k 0 = nth (t.measure k).phasors 0 := rfl
  have htracker : (t.measure k).tracker = (s.measure k).tracker.close s.aligner.nominal (s.fld .stream k 4)
      (nth (t.measure k).windows 0) (t.phasor k 0) := by
    rw [hphasor, hmeasure]
    rfl
  have hn : ((s.measure k).tracker.closures + 1) % 2 ^ 24 < 2 ^ 24 := Nat.mod_lt _ (by decide)
  dsimp only
  rw [htracker, Tracker.close_closed]
  clear htracker hphasor hmeasure
  generalize (s.measure k).tracker = old at *
  generalize nth (t.measure k).windows 0 = w at *
  generalize (old.closures + 1) % 2 ^ 24 = n at *
  by_cases h : crossesAt (s.fld .stream k 4) w (t.phasor k 0)
  · rw [crossingAt_some hn h]
    have hcrosses : decide ((nth w 46).value < 0 ∧ 0 ≤ (nth w 47).value ∧ (nth w 46).mark = .none ∧ (nth w 47).mark = .none ∧
        (t.phasor k 0).valid = true ∧ s.fld .stream k 4 ≤ (t.phasor k 0).magnitude) = true := decide_eq_true h
    rw [hcrosses]
    rfl
  · rw [crossingAt_none h]
    have hcrosses : decide ((nth w 46).value < 0 ∧ 0 ≤ (nth w 47).value ∧ (nth w 46).mark = .none ∧ (nth w 47).mark = .none ∧
        (t.phasor k 0).valid = true ∧ s.fld .stream k 4 ≤ (t.phasor k 0).magnitude) = false := decide_eq_false h
    rw [hcrosses]
    rfl


end Sys2Proof.Machine
end

section
/-! # O17: capture at a closure -/

namespace Sys2Proof.Machine

section
variable {s t u x : State} {k : Nat} {pin : Bool} {l : Label} {r : InstantRecord}

/-! ### Capture at a closure (R174, R175) -/

/-- The state before capture's work: what capture reads of it. -/
structure CaptureReads (s m x : State) : Prop where
  fields : ∀ id, x.captureField id = s.captureField id
  capture : x.capture = s.capture
  intake : x.intake = m.intake
  closing : x.closing = some s.closingLabel

theorem Evolves.capture (h : Evolves s t) : t.capture = s.capture := congrArg Rest.capture h.rest

theorem Evolves.closing (h : Evolves s t) : t.closing = s.closing := congrArg Rest.closing h.rest

/-- The sampling of the pin leaves capture and the closure's label. -/
theorem State.sampleLockout_rest (x : State) (pin : Bool) : (x.sampleLockout pin).capture = x.capture ∧
    (x.sampleLockout pin).closing = x.closing := by
  have hevent : ∀ (v : State) (c : EventClass) (p o k : Nat), (v.event c p o k none).capture = v.capture ∧
      (v.event c p o k none).closing = v.closing := fun v c p o k => ⟨State.event_capture .., State.event_closing ..⟩
  have hgens : ∀ v : State, v.lockoutGens.capture = v.capture ∧ v.lockoutGens.closing = v.closing := fun v => by
    have hev : Evolves v v.lockoutGens := State.lockoutGens_evolves .refl
    exact ⟨hev.capture, hev.closing⟩
  have hmoved : ∀ v : State, v.capture = x.capture → v.closing = x.closing →
      ((if pin then (v.event .management 11 0 2 none).lockoutGens else v.event .management 7 0 3 none : State)).capture = x.capture ∧
      ((if pin then (v.event .management 11 0 2 none).lockoutGens else v.event .management 7 0 3 none : State)).closing = x.closing := by
    intro v hc hl
    split
    · rw [(hgens _).1, (hgens _).2, (hevent v _ _ _ _).1, (hevent v _ _ _ _).2]
      exact ⟨hc, hl⟩
    · rw [(hevent v _ _ _ _).1, (hevent v _ _ _ _).2]
      exact ⟨hc, hl⟩
  unfold State.sampleLockout
  dsimp only
  cases h : x.lines.lastSample == some pin && pin != x.lines.lockout with
  | true => exact hmoved _ rfl rfl
  | false => exact ⟨rfl, rfl⟩

theorem State.worked_reads (s : State) (pin : Bool) : CaptureReads s s.measured (s.sampled pin).parallelingWork := by
  have hprotects := s.guardedWork_protects
  obtain ⟨-, -, -, hcapture, -, hintake, -, -, -, -, hclosing, -⟩ := hprotects.rest
  have hsample := s.guardedWork.sampleLockout_rest pin
  have hmgmt := (s.guardedWork.sampleLockout_finishes pin).mgmt
  have hsintake := (s.guardedWork.sampleLockout_finishes pin).intake
  have hev := s.sampled_evolves pin
  have hfields := s.measured_fld .capture 0
  have hlabel := s.measured_closing
  have hmcapture : s.measured.capture = s.capture := s.measured_touches.stands .capture (by decide)
  generalize (s.sampled pin).parallelingWork = y at *
  refine ⟨fun id => ?_, hev.capture.trans (hsample.1.trans (hcapture.trans hmcapture)), hev.finishes.intake.trans (hsintake.trans hintake),
    hev.closing.trans (hsample.2.trans (hclosing.trans hlabel))⟩
  rw [State.captureField, State.fld, hev.finishes.mgmt, hmgmt, ← State.fld, hprotects.fld (by decide), hfields]
  rfl

theorem Clause.instantRecord_mark (q : Quantity) : (match q.condition with
    | .fresh => if q.questionable then SampleMark.questionable else .taken
    | .held => .held
    | .invalid => .invalid) = q.mark := by
  unfold Quantity.mark
  cases q.condition <;> rfl

/-- The instant record of capture is that of R174. -/
theorem CaptureReads.record (h : CaptureReads s s.measured x) (hs : s.Quiet) (ht : t.intake = s.measured.intake) :
    x.instantRecord s.closingLabel = Clause.instantRecord s t := by
  have hstream : ∀ k, x.stream k = t.stream k := fun k => by rw [State.stream, h.intake, State.stream, ht]
  have hdisabled : ∀ k, ((t.stream k).state = .disabled ↔ (s.stream k).state = .disabled) := fun k => by
    have hm : t.stream k = s.measured.stream k := by rw [State.stream, ht, State.stream]
    rw [hm]
    by_cases hk : k < 16
    · exact State.measured_enabled hs hk
    · have hlen : s.measured.intake.streams.length = 16 := by
        rw [s.measured_computes.intake, s.streamed_intakes.length]
        exact hs.streams_length
      have hout : s.measured.stream k = s.stream k := by
        rw [State.stream, nth, List.getD_eq_default _ _ (by omega), State.stream, nth,
          List.getD_eq_default _ _ (by rw [hs.streams_length]; omega)]
      rw [hout]
  rw [State.instantRecord, Clause.instantRecord, State.captureStreams, h.fields, idRun, List.map_map, List.map_map]
  congr 1
  refine List.map_congr_left fun i _ => ?_
  simp only [Function.comp, State.recordStream, h.fields, hstream, beq_iff_eq, hdisabled]
  rfl

theorem State.captureAppend_recording (h : x.capture.state = .recording) : x.captureAppend r =
    (if x.captureField 17 ≤ (x.capture.buffer ++ [r]).length - x.capture.copied then
      (x.modCapture (fun c => { c with buffer := c.buffer ++ [r], state := .held })).event .capture 8 0 3
        (some (x.capture.buffer ++ [r]).length)
    else x.modCapture (fun c => { c with buffer := c.buffer ++ [r] })) := by
  rw [State.captureAppend, if_neg (by simp [h])]
  rfl

/-- The end of a command leaves of capture all but the rises that wait. -/
theorem State.settle_buffer (s u : State) : (State.settle s u).capture =
    { u.capture with edges := (State.settle s u).capture.edges } := by
  obtain ⟨z, hz, hev, -⟩ := State.settle_edges s u
  rw [hz]
  rw [← hev.capture]
  rfl

end

/-- Settles the sixth part of O17. -/
theorem closureFeedsTheCapture : Clause.ClosureFeedsTheCapture := by
  intro s t pin hs hdue hexec
  rw [exec_closure_due hdue] at hexec
  have ht := Host.Outcome.next.inj hexec
  have hreads := s.worked_reads pin
  have hrecord := hreads.record hs (closure_end ht).intake
  have hsettled := State.settle_buffer s ((s.sampled pin).parallelingWork.captureWork s.closingLabel)
  have hgrows := (State.settle_finishes s ((s.sampled pin).parallelingWork.captureWork s.closingLabel)).grows
  rw [ht] at hsettled hgrows
  generalize (s.sampled pin).parallelingWork = x at *
  have hring : ∀ r, (x.captureRing r).capture = { s.capture with ring := if s.captureField 1 = 1 then
      (if s.capture.ring.length < 240 then s.capture.ring else s.capture.ring.tail) ++ [r] else [] } := fun r => by
    have harmed : x.captureArmed = decide (s.captureField 1 = 1) := by
      rw [State.captureArmed, hreads.fields]
      rfl
    show ({ x.capture with ring := if x.captureArmed then pushRing x.capture.ring r else [] } : Capture) = _
    rw [harmed, hreads.capture]
    simp only [decide_eq_true_eq]
    rfl
  rw [State.captureWork] at hsettled hgrows
  dsimp only at hsettled hgrows
  rw [hrecord] at hsettled hgrows
  generalize Clause.instantRecord s t = r at *
  have hrclosing : (x.captureRing r).closing = some s.closingLabel := hreads.closing
  have hrfields : (x.captureRing r).captureField 17 = s.captureField 17 := hreads.fields 17
  have hcapture := hring r
  generalize x.captureRing r = y at *
  have hpoint : t.point 236 = (t.capture.state == .recording) := rfl
  dsimp only
  refine ⟨fun hstate => ?_, fun hstate hfull => ?_, fun hstate hfull => ?_⟩
  · have happend : y.captureAppend r = y := if_pos (by simpa [hcapture] using hstate)
    rw [happend, hcapture] at hsettled
    exact hsettled
  · rw [State.captureAppend_recording (by rw [hcapture]; exact hstate), hrfields, hcapture, if_neg hfull] at hsettled
    have hheld : t.capture = { s.capture with
        ring := if s.captureField 1 = 1 then (if s.capture.ring.length < 240 then s.capture.ring else s.capture.ring.tail) ++ [r] else []
        buffer := s.capture.buffer ++ [r], edges := t.capture.edges } := by
      refine hsettled.trans ?_
      show ({ y.capture with buffer := y.capture.buffer ++ [r], edges := t.capture.edges } : Capture) = _
      rw [hcapture]
    refine ⟨hheld, ?_⟩
    rw [hpoint, hheld]
    simpa using hstate
  · rw [State.captureAppend_recording (by rw [hcapture]; exact hstate), hrfields, hcapture, if_pos hfull] at hsettled hgrows
    have hheld : t.capture = { s.capture with
        ring := if s.captureField 1 = 1 then (if s.capture.ring.length < 240 then s.capture.ring else s.capture.ring.tail) ++ [r] else []
        buffer := s.capture.buffer ++ [r], state := .held, edges := t.capture.edges } := by
      rw [State.event_capture] at hsettled
      refine hsettled.trans ?_
      show ({ y.capture with buffer := y.capture.buffer ++ [r], state := .held, edges := t.capture.edges } : Capture) = _
      rw [hcapture]
    refine ⟨hheld, ?_, ?_⟩
    · rw [hpoint, hheld]
      rfl
    · exact closureRecords_of_holds (v := y.modCapture fun c => { c with buffer := c.buffer ++ [r], state := .held }) hrclosing hgrows

/-- Settles O17. -/
theorem closureMovesOn : Obligations.ClosureMovesOn :=
  ⟨instantCloses, closureEntersTheWindows, closureComputesPhasorsAndPower, closureTracksTheFrequency, streamChangesAreRecorded,
    closureFeedsTheCapture⟩


end Sys2Proof.Machine
end

section
/-! # The tests of a COMMIT (O49) -/

namespace Sys2Proof.Machine

section
variable {s u : State} {l : Link} {q : Request} {x : TableId} {k : Ticket}

/-! ### The tests of a COMMIT (R182, R183) -/

theorem exec_commit (h : s.Asked l q) (hx : TableId.ofNumber q.target = some x) {v : State} {r : Option Reply}
    (hwork : State.commitTable (s.ticketFor 3 q) q x (s.booked l q) = (v, r)) :
    exec (.commit l q) s = finish s (v.answer (s.ticketFor 3 q) r) := by
  refine congrArg (finish s) ((s.serve_asked 3 false _ h).trans ?_)
  simp only [State.withTable, hx, hwork]

theorem StagingState.not_committing {a : StagingState} (h : a = .complete) : a.isCommitting = false := h ▸ rfl

theorem State.commitTable_busy (h : u.mgmt.store ≠ none ∨ (u.stagingOf x).state.isCommitting = true) :
    State.commitTable k q x u = (u, some (Reply.of .busy)) := by
  rw [State.commitTable]
  by_cases hs : u.mgmt.store = none
  · rw [if_neg (by simp [hs]), if_pos (h.resolve_left (absurd hs))]
  · rw [if_pos (by simpa [Option.isSome_iff_ne_none] using hs)]

theorem State.commitTable_incomplete (h : u.mgmt.store = none) (hc : (u.stagingOf x).state.isCommitting = false)
    (hn : (u.stagingOf x).state ≠ .complete) : State.commitTable k q x u = (u.emptyStaging x, some (Reply.of .sequence)) := by
  rw [State.commitTable, if_neg (by simp [h]), if_neg (by simp [hc]), if_pos (by simpa using hn)]
  rfl

/-- A COMMIT of a COMPLETE area with no STORE in flight. -/
theorem State.commitTable_complete (h : u.mgmt.store = none) (hc : (u.stagingOf x).state = .complete) :
    State.commitTable k q x u =
      if Clause.stagedCrc u x != q.argA then
        (u.draw.tableRefused x (u.drawn % 2 ^ 24)).refuseCommit x
          { status := .invalid, detailA := 0xFFFFFFFE, detailB := Clause.stagedCrc u x }
      else match Clause.failing u x with
        | some (e, id) => (u.tableRefused x (e + 65536 * id)).refuseCommit x (Reply.badField e id)
        | none =>
          if !u.nominalMay x (Clause.newTable u x) then u.refuseCommit x { status := .notPermitted, detailB := 7 }
          else u.commitChecked k x (Clause.newTable u x) (Clause.stagedCrc u x) := by
  rw [State.commitTable, if_neg (by simp [h]), if_neg (by simp [hc, StagingState.isCommitting]), if_neg (by simp [hc])]
  rfl

theorem State.nominalMay_iff : u.nominalMay x (Clause.newTable u x) = false ↔ Clause.nominalMoves u x := by
  simp [State.nominalMay, Clause.nominalMoves, and_assoc]

theorem State.mayActivate_iff : u.mayActivate x (Clause.changed u x) = true ↔ Clause.activatable u x := by
  have hrest : u.seq.state.atRest = true ↔ Clause.atRest u := by
    unfold Clause.atRest
    cases u.seq.state <;> simp [SeqState.atRest]
  have hgen : ∀ g, (u.gen g).state.changeable = true ↔ (u.gen g).state ∈ [GenState.absent, .standby, .fault] := fun g => by
    cases (u.gen g).state <;> simp [GenState.changeable]
  have hslot : ∀ b, u.slotFree b = true ↔ (u.brk b).slot = none := fun b => Option.isNone_iff_eq_none
  cases x
  case interlock =>
    simp only [State.mayActivate, Clause.activatable, List.all_eq_true, List.mem_range, Bool.or_eq_true, Bool.not_eq_true', hslot]
    refine forall₂_congr fun b _ => ?_
    by_cases hm : u.fld .breaker b 6 ∈ Clause.changed u .interlock <;> simp [hm]
  case sync =>
    simp only [State.mayActivate, Clause.activatable, List.all_eq_true]
    refine forall₂_congr fun e _ => ?_
    by_cases he : e = 8
    · simp [he]
    · rw [if_neg (by simpa using he), if_neg he]
      exact hgen e
  all_goals simp only [State.mayActivate, Clause.activatable, Bool.or_eq_true, List.isEmpty_iff, hrest, List.all_eq_true, hgen, hslot,
    beq_iff_eq]

/-! What the tests read of the state in which the request has been noted. -/

theorem State.booked_newTable : Clause.newTable (s.booked l q) x = Clause.newTable s x := by
  rw [Clause.newTable, State.booked_stagingOf, Clause.newTable]
theorem State.booked_stagedCrc : Clause.stagedCrc (s.booked l q) x = Clause.stagedCrc s x := by
  rw [Clause.stagedCrc, State.booked_stagingOf, Clause.stagedCrc]
theorem State.booked_failing : Clause.failing (s.booked l q) x = Clause.failing s x := by
  rw [Clause.failing, State.booked_stagingOf, Clause.failing]
theorem State.booked_changed : Clause.changed (s.booked l q) x = Clause.changed s x := by
  rw [Clause.changed, State.booked_newTable, State.booked_table, Clause.changed]
theorem State.booked_nominalMoves : Clause.nominalMoves (s.booked l q) x ↔ Clause.nominalMoves s x := by
  rw [Clause.nominalMoves, State.booked_newTable, State.booked_station, State.booked_mgmt, Clause.nominalMoves]
  rfl
theorem State.booked_activatable : Clause.activatable (s.booked l q) x ↔ Clause.activatable s x := by
  have hchannel : ∀ c, (s.booked l q).channel c = s.channel c := fun c => by rw [State.channel, State.booked_par, State.channel]
  have hrest : Clause.atRest (s.booked l q) ↔ Clause.atRest s := by rw [Clause.atRest, State.booked_seq, Clause.atRest]
  unfold Clause.activatable
  simp only [State.booked_changed, State.booked_fld, State.booked_brk, State.booked_gen, hchannel, hrest, State.booked_capture]

/-- The tests of a COMMIT of a COMPLETE area, read in the state before the request. -/
theorem State.booked_commit (h : s.mgmt.store = none) (hc : (s.stagingOf x).state = .complete) :
    State.commitTable k q x (s.booked l q) =
      if Clause.stagedCrc s x != q.argA then
        ((s.booked l q).draw.tableRefused x ((s.booked l q).drawn % 2 ^ 24)).refuseCommit x
          { status := .invalid, detailA := 0xFFFFFFFE, detailB := Clause.stagedCrc s x }
      else match Clause.failing s x with
        | some (e, id) => ((s.booked l q).tableRefused x (e + 65536 * id)).refuseCommit x (Reply.badField e id)
        | none =>
          if !(s.booked l q).nominalMay x (Clause.newTable (s.booked l q) x) then
            (s.booked l q).refuseCommit x { status := .notPermitted, detailB := 7 }
          else (s.booked l q).commitChecked k x (Clause.newTable s x) (Clause.stagedCrc s x) := by
  rw [State.commitTable_complete (by rw [State.booked_mgmt]; exact h) (by rw [State.booked_stagingOf]; exact hc),
    State.booked_stagedCrc, State.booked_failing, State.booked_newTable]

/-- A COMMIT that passes the tests 1 to 7 is checked for its activation (R183). -/
theorem State.commitTable_passes (h : Clause.CommitPasses s l q x) : State.commitTable k q x (s.booked l q) =
    (s.booked l q).commitChecked k x (Clause.newTable s x) (Clause.stagedCrc s x) := by
  obtain ⟨-, -, hstore, hcomplete, hcrc, hfailing, hmoves⟩ := h
  have hmay : (s.booked l q).nominalMay x (Clause.newTable (s.booked l q) x) = true := by
    rw [← Bool.not_eq_false, State.nominalMay_iff, State.booked_nominalMoves]
    exact hmoves
  rw [State.booked_commit hstore hcomplete, if_neg (by simp [hcrc]), hfailing]
  dsimp only
  rw [hmay]
  rfl

theorem State.commitChecked_busy {v : State} {new : Table} {crc : Nat} (he : x ≠ .element) (hc : x ≠ .curve)
    (hmay : v.mayActivate x (changedEntries (v.table x) new) = false) : v.commitChecked k x new crc = (v, some (Reply.of .busy)) := by
  rw [State.commitChecked]
  dsimp only
  rw [if_neg (by simp [he, hc]), if_pos (by simp [hmay])]

/-- An area is emptied, and the COMMIT answered. -/
theorem exec_commit_refused {v : State} {r : Reply} {ps : List StatePart} (h : s.Asked l q) (hwaits : Waiting s v)
    (hmgmt : v.mgmt = s.answered .done) (hwork : v.work = []) (hpar : v.par = s.par)
    (htouch : Touches ps s v) (hl : .links ∈ ps) (hm : .mgmt ∈ ps)
    (hexec : exec (.commit l q) s = finish s ((v.emptyStaging x).answer (s.ticketFor 3 q) (some r))) :
    ∃ t, exec (.commit l q) s = .next t ∧ Replies s t q 3 r.status r.detailA r.detailB r.data ∧
      t.mgmt = { s.answered r.status with staging := s.mgmt.staging.set x.number {} } ∧
      t.newest = v.newest ∧ Only ps s t := by
  have hemptied : (v.emptyStaging x).mgmt = { s.answered .done with staging := s.mgmt.staging.set x.number {} } := by
    show ({ v.mgmt with staging := v.mgmt.staging.set x.number {} } : Management) = _
    rw [hmgmt]
    rfl
  have htables : (v.emptyStaging x).mgmt.tables = s.mgmt.tables := by
    rw [hemptied]
    rfl
  have hset : ∀ g, (v.emptyStaging x).setpointOf g = s.setpointOf g :=
    State.setpointOf_congr (congrArg Paralleling.gens hpar) htables
  obtain ⟨es, b, hend, hreplies, honly⟩ := exec_worked (u := v.emptyStaging x) h.1 (hwaits.of_links rfl rfl) hwork hset
    (htouch.setStaging _ _ hm) hexec hl hm
  refine ⟨_, hend, hreplies, ?_, State.answer_newest (s.ticketFor 3 q) r, honly⟩
  rw [State.endedWith_mgmt, State.answer_mgmt, hemptied]
  rfl

/-- Settles the first part of O49. -/
theorem commitIsRefused : Clause.CommitIsRefused := by
  intro s l q x h hx area emptied busy asked matched
  have hbusy : State.commitTable (s.ticketFor 3 q) q x (s.booked l q) = (s.booked l q, some (Reply.of .busy)) → busy := fun hc =>
    exec_answered (l := l) (kind := 3) (r := Reply.of .busy) h.1 (exec_commit h hx hc)
  have hwaits : Waiting s (s.booked l q) := (s.booked_awaiting l q).waiting
  have hwork : (s.booked l q).work = [] := (s.booked_work l q).trans h.1.1
  have hrefused : ∀ r : Reply, State.commitTable (s.ticketFor 3 q) q x (s.booked l q) =
      (s.booked l q).refuseCommit x r → r.data = [] → ∃ t, exec (.commit l q) s = .next t ∧
        emptied r.status r.detailA r.detailB t ∧ Only [.links, .mgmt] s t := fun r hc hdata => by
    obtain ⟨t, hend, hreplies, hmgmt, -, honly⟩ := exec_commit_refused (ps := [.links, .mgmt]) h hwaits (s.booked_mgmt l q) hwork (s.booked_par l q)
      (Touches.booked s l q) (by decide) (by decide) (exec_commit h hx hc)
    exact ⟨t, hend, ⟨hdata ▸ hreplies, hmgmt⟩, honly⟩
  refine ⟨fun hno => hbusy (State.commitTable_busy ?_), fun ⟨hstore, hcommit⟩ hn =>
    hrefused (Reply.of .sequence) (State.commitTable_incomplete ?_ ?_ ?_) rfl, fun ⟨hstore, _⟩ hc hcrc => ?_,
    fun e id ⟨⟨hstore, _⟩, hc, hcrc⟩ hfailing => ?_, fun ⟨⟨hstore, _⟩, hc, hcrc⟩ hfailing hmoves => ?_, fun hp hmay => hbusy ?_⟩
  · rw [State.booked_mgmt, State.booked_stagingOf]
    exact hno
  · rw [State.booked_mgmt]
    exact hstore
  · rw [State.booked_stagingOf]
    exact hcommit
  · rw [State.booked_stagingOf]
    exact hn
  · have hwork' : State.commitTable (s.ticketFor 3 q) q x (s.booked l q) = _ := State.booked_commit hstore hc
    rw [if_pos (by simpa using hcrc)] at hwork'
    have hdrawn : Waiting s (s.booked l q).draw := hwaits.of_links rfl rfl
    obtain ⟨t, hend, hreplies, hmgmt, hnewest, honly⟩ := exec_commit_refused (ps := [.links, .events, .mgmt, .free]) h
      (hdrawn.event .management 7 x.number 7 _) (by rw [State.event_mgmt]; exact s.booked_mgmt l q)
      ((State.event_work ..).trans hwork) (by rw [State.event_par]; exact s.booked_par l q)
      ((Touches.booked s l q).draw.event _ _ _ _ _) (by decide) (by decide) (exec_commit h hx hwork')
    refine ⟨t, hend, ⟨hreplies, hmgmt⟩, ?_, honly⟩
    rw [hnewest, State.event_newest]
    rfl
  · have hwork' : State.commitTable (s.ticketFor 3 q) q x (s.booked l q) = _ := State.booked_commit hstore hc
    rw [if_neg (by simpa using hcrc), hfailing] at hwork'
    obtain ⟨t, hend, hreplies, hmgmt, hnewest, honly⟩ := exec_commit_refused (ps := [.links, .events, .mgmt]) h
      (hwaits.event .management 7 x.number 7 _) (by rw [State.event_mgmt]; exact s.booked_mgmt l q)
      ((State.event_work ..).trans hwork) (by rw [State.event_par]; exact s.booked_par l q)
      ((Touches.booked s l q).event _ _ _ _ _) (by decide) (by decide) (exec_commit h hx hwork')
    refine ⟨t, hend, ⟨hreplies, hmgmt⟩, ?_, honly⟩
    rw [Records, hnewest, State.event_newest, State.booked_events, State.booked_eventLabel, h.1.eventLabel]
  · have hwork' : State.commitTable (s.ticketFor 3 q) q x (s.booked l q) = _ := State.booked_commit hstore hc
    have hno : (s.booked l q).nominalMay x (Clause.newTable (s.booked l q) x) = false :=
      State.nominalMay_iff.2 (State.booked_nominalMoves.2 hmoves)
    rw [if_neg (by simpa using hcrc), hfailing] at hwork'
    dsimp only at hwork'
    rw [hno] at hwork'
    exact hrefused { status := .notPermitted, detailB := 7 } hwork' rfl
  · have hno : (s.booked l q).mayActivate x (Clause.changed (s.booked l q) x) = false := by
      rw [← Bool.not_eq_true, State.mayActivate_iff, State.booked_activatable]
      exact hmay
    rw [State.commitTable_passes hp]
    refine State.commitChecked_busy (fun he => hmay ?_) (fun hc => hmay ?_) ?_
    · subst he; trivial
    · subst hc; trivial
    · rw [Clause.changed, State.booked_newTable] at hno
      exact hno

end


end Sys2Proof.Machine
end

section
/-! # Work that finds nothing to do, and the newest records -/

namespace Sys2Proof.Machine

section
variable {s u v : State} {l : Link} {q : Request} {x : TableId} {k : Ticket} {ps : List StatePart}

/-! ### The end of a command whose work finds nothing to do -/

theorem State.drain_idle (n : Nat) : ∀ u : State, (∀ w ∈ u.work, State.handle { u with work := [] } w = { u with work := [] }) →
    State.drain n u = { u with work := u.work.drop n } := by
  induction n with
  | zero =>
    intro u _
    unfold State.drain
    rfl
  | succ n ih =>
    intro u hidle
    cases hw : u.work with
    | nil =>
      rw [State.drain_of_none _ hw, List.drop_nil, ← hw]
    | cons w ws =>
      have hhandle := hidle w (hw ▸ List.mem_cons_self ..)
      rw [State.drain_cons _ _ hw, hhandle, ih]
      · rfl
      · exact fun y hy => hidle y (hw ▸ List.mem_cons_of_mem _ hy)

theorem State.settle_idles (hidle : ∀ w ∈ u.work, State.handle { u with work := [] } w = { u with work := [] })
    (hset : ∀ j, u.setpointOf j = s.setpointOf j ∨ u.setpointOf j = none) :
    ∃ ws, State.settle s u = ({ u with work := ws } : State).endedWith
      (State.noteEdges s u).capture.edges u.healthyNow := by
  refine ⟨u.work.drop Config.workBound, ?_⟩
  rw [State.settle, State.drain_idle _ u hidle]
  have hsend : State.sendSetpoints s { u with work := u.work.drop Config.workBound } =
      { u with work := u.work.drop Config.workBound } := State.sendSetpoints_still hset
  rw [hsend]
  rfl

/-- What such a command touches. -/
theorem Touches.only_idle (h : Touches (.seq :: ps) s u) (hr : s.risen = [])
    (hcalm : .seq ∉ ps → u.seq = s.seq ∧ (.par ∉ ps → u.risen = []))
    (hidle : ∀ w ∈ u.work, State.handle { u with work := [] } w = { u with work := [] })
    (hset : ∀ j, u.setpointOf j = s.setpointOf j ∨ u.setpointOf j = none) : Only ps s (State.settle s u) := by
  have hhealthy := State.settle_healthy s u
  obtain ⟨ws, hend⟩ := State.settle_idles hidle hset
  rw [hend] at hhealthy ⊢
  have hstands : ∀ p : StatePart, p ∉ ps → p.Stands s u := fun p hp => by
    by_cases hq : p = .seq
    · subst hq
      exact (hcalm hp).1
    · exact h.stands p fun hm => (List.mem_cons.1 hm).elim hq hp
  refine ⟨rfl, rfl, rfl, h.pending, fun p hp => ?_, fun hc => ⟨State.riseCount s u, ?_, fun p => ⟨fun hp => ?_, fun hp => ?_⟩⟩⟩
  · have hp' := hstands p hp
    cases p with
    | lines =>
      exact congrArg (fun y : Lines => { y with healthy := u.healthyNow }) hp'
    | capture =>
      exact congrArg (fun y : Capture => { y with edges := (State.noteEdges s u).capture.edges }) hp'
    | _ => exact hp'
  · have hcapture : u.capture = s.capture := hstands .capture hc
    rw [← hcapture]
    rfl
  · have hup : (!s.point p && u.point p) = true := (List.mem_filter.1 hp).2
    simp [State.riseCount, hup]
  · have hcount : u.risen.count p = 0 := by
      obtain hp | ⟨hseq, hpar⟩ := hp
      · exact List.count_eq_zero.2 fun hm => by simp [h.moving (by simp [hr]) p hm] at hp
      · rw [(hcalm hseq).2 hpar]
        rfl
    have hpoint : (({ u with work := ws } : State).endedWith
      (State.noteEdges s u).capture.edges u.healthyNow).point p =
        u.point p := rfl
    rw [hpoint, State.riseCount, hcount]
    cases s.point p <;> cases u.point p <;> simp

/-! ### Records among the newest (R170) -/

/-- A record is among the `n` newest. -/
def State.Recent (s : State) (n : Nat) (r : EventRecord) : Prop := r ∈ s.bareRecords.reverse.take n

theorem State.Recent.event {n : Nat} {r : EventRecord} (h : s.Recent n r) (hn : n < 128) (c : EventClass)
    (priority object code : Nat) (value : Option Nat) : (s.event c priority object code value).Recent (n + 1) r := by
  obtain ⟨y, seqs, -, e⟩ := s.event_eq c priority object code value
  rw [State.Recent, State.bareRecords, e, EventQueue.markSent_bare, EventQueue.append]
  split
  · rw [List.map_append, List.reverse_append]
    exact List.mem_cons_of_mem _ h
  · next hfull =>
    rw [List.map_append, List.reverse_append, List.map_tail, ← List.dropLast_reverse]
    refine List.mem_cons_of_mem _ ?_
    show r ∈ (s.events.records.map EventRecord.bare).reverse.dropLast.take n
    rw [List.dropLast_eq_take, List.take_take, min_eq_left]
    · exact h
    · have hlen : 128 ≤ s.events.records.length := Nat.le_of_not_lt hfull
      simp only [List.length_reverse, List.length_map]
      omega

theorem State.event_recent (c : EventClass) (priority object code : Nat) (value : Option Nat) :
    (s.event c priority object code value).Recent 1
      ⟨s.events.nextSeq, s.eventLabel, c, priority, object, code, value, false⟩ := by
  obtain ⟨y, seqs, -, e⟩ := s.event_eq c priority object code value
  rw [State.Recent, State.bareRecords, e, EventQueue.markSent_bare, EventQueue.append]
  split <;> simp [EventRecord.bare]

theorem State.Recent.held {n : Nat} {r : EventRecord} (h : s.Recent n r) : ∃ e ∈ s.events.records,
    (e.cls, e.priority, e.object, e.code) = (r.cls, r.priority, r.object, r.code) := by
  obtain ⟨e, he, rfl⟩ := List.mem_map.1 (List.mem_reverse.1 (List.mem_of_mem_take h))
  exact ⟨e, he, rfl⟩

theorem State.Recent.same {n : Nat} {r : EventRecord} (h : s.Recent n r) (he : u.events = s.events) : u.Recent n r := by
  rw [State.Recent, State.bareRecords, he]
  exact h

end


end Sys2Proof.Machine
end

section
/-! # Where an activation leads -/

namespace Sys2Proof.Machine

section
variable {s u v : State} {l : Link} {q : Request} {x : TableId} {k : Ticket} {ps : List StatePart}

/-! ### Where an activation leads (R183) -/

/-- The tables once the content is active, where it differs at all. -/
def committedTables (s : State) (x : TableId) : List Table :=
  if Clause.changed s x = [] then s.mgmt.tables else s.mgmt.tables.set x.number (Clause.newTable s x)

/-- The state in which the content is active. -/
def State.activating (s : State) (l : Link) (q : Request) (x : TableId) : State :=
  if Clause.changed s x = [] then s.booked l q else (s.booked l q).activate x (Clause.newTable s x) (Clause.changed s x)

/-- What an activation does: the content is active, nothing that was asked, placed or recorded is taken back, the parts `ps` alone
are touched, the work that it hands on finds nothing to do, and no setpoint changes but one that goes. -/
structure Activation (ps : List StatePart) (l : Link) (q : Request) (x : TableId) (s v : State) : Prop where
  mgmt : v.mgmt = { s.answered .done with tables := committedTables s x }
  grows : Grows [] (s.booked l q) v
  touches : Touches (.seq :: ps) s v
  calm : .seq ∉ ps → v.seq = s.seq ∧ (.par ∉ ps → v.risen = [])
  idle : ∀ w ∈ v.work, ∀ u : State, u.seq = v.seq → u.par = v.par → u.breakers = v.breakers →
    u.mgmt.tables = v.mgmt.tables → u.handle w = u
  setpoints : ∀ j, v.setpointOf j = s.setpointOf j ∨ v.setpointOf j = none

/-- What the end of the COMMIT leaves of the state in which the content is active. -/
structure Leaves (s v t : State) : Prop where
  tables : t.mgmt.tables = v.mgmt.tables
  configured : t.mgmt.configured = v.mgmt.configured
  intake : t.intake = v.intake
  measures : t.measures = v.measures
  breakers : t.breakers = v.breakers
  seq : t.seq = v.seq
  par : t.par = v.par
  windows : t.links.windows = v.links.windows
  nextSeq : t.events.nextSeq = step16 v.events.nextSeq
  recent : ∀ n < 128, ∀ r, v.Recent n r → t.Recent (n + 1) r
  capture : t.capture = { v.capture with edges := t.capture.edges }
  edges : v.risen = [] → (∀ p, v.point p = s.point p) → t.capture.edges = v.capture.edges

/-- TABLE_COMMITTED and the emptied area, before the answer. -/
def State.tableCommitted (v : State) (x : TableId) (crc : Nat) : State :=
  (v.emptyStaging x).event .management 6 x.number 6 (some crc)

theorem State.commitChecked_done (he : x ≠ .element) (hc : x ≠ .curve)
    (hmay : (s.booked l q).mayActivate x (Clause.changed s x) = true) :
    (s.booked l q).commitChecked k x (Clause.newTable s x) (Clause.stagedCrc s x) =
      ((s.activating l q x).tableCommitted x (Clause.stagedCrc s x), some (Reply.of .done)) := by
  rw [State.commitChecked]
  dsimp only
  rw [if_neg (by simp [he, hc]), State.booked_table]
  change (if (!(s.booked l q).mayActivate x (Clause.changed s x)) = true then _ else _) = _
  rw [if_neg (by simp [hmay]), State.tableCommitted, State.activating]
  by_cases hn : Clause.changed s x = []
  · rw [if_pos hn]
    show ((State.emptyStaging (if (Clause.changed s x).isEmpty then _ else _) x).event _ _ _ _ _, _) = _
    rw [if_pos (by simpa using hn)]
  · rw [if_neg hn]
    show ((State.emptyStaging (if (Clause.changed s x).isEmpty then _ else _) x).event _ _ _ _ _, _) = _
    rw [if_neg (by simpa using hn)]
    rfl

theorem State.tableCommitted_mgmt (v : State) (x : TableId) (crc : Nat) :
    (v.tableCommitted x crc).mgmt = { v.mgmt with staging := v.mgmt.staging.set x.number {} } := by
  rw [State.tableCommitted, State.event_mgmt]
  rfl

/-- The state in which the COMMIT is answered. -/
def State.commitAnswered (v : State) (x : TableId) (crc : Nat) (k : Ticket) : State :=
  (v.tableCommitted x crc).answer k (some (Reply.of .done))

section
variable (v) (x) (crc : Nat) (k)

theorem State.commitAnswered_mgmt :
    (v.commitAnswered x crc k).mgmt = { v.mgmt with staging := v.mgmt.staging.set x.number {} } := by
  rw [State.commitAnswered, State.answer_mgmt, State.tableCommitted_mgmt]
  rfl
theorem State.commitAnswered_work : (v.commitAnswered x crc k).work = v.work := by
  rw [State.commitAnswered, State.answer_work, State.tableCommitted, State.event_work]
  rfl
theorem State.commitAnswered_seq : (v.commitAnswered x crc k).seq = v.seq := by
  rw [State.commitAnswered, State.answer_seq, State.tableCommitted, State.event_seq]
  rfl
theorem State.commitAnswered_par : (v.commitAnswered x crc k).par = v.par := by
  rw [State.commitAnswered, State.answer_par, State.tableCommitted, State.event_par]
  rfl
theorem State.commitAnswered_breakers : (v.commitAnswered x crc k).breakers = v.breakers := by
  rw [State.commitAnswered, State.answer_breakers, State.tableCommitted, State.event_breakers]
  rfl
theorem State.commitAnswered_risen : (v.commitAnswered x crc k).risen = v.risen := by
  rw [State.commitAnswered, State.answer_risen, State.tableCommitted, State.event_risen]
  rfl
theorem State.commitAnswered_capture : (v.commitAnswered x crc k).capture = v.capture := by
  rw [State.commitAnswered, State.answer_capture, State.tableCommitted, State.event_capture]
  rfl
theorem State.commitAnswered_point (p : Nat) : (v.commitAnswered x crc k).point p = v.point p := by
  rw [State.commitAnswered, State.answer_point, State.tableCommitted, State.event_point]
  rfl
theorem State.commitAnswered_setpointOf (g : Nat) : (v.commitAnswered x crc k).setpointOf g = v.setpointOf g := by
  rw [State.commitAnswered, State.answer_setpointOf, State.tableCommitted, State.event_setpointOf]
  rfl

end

end


end Sys2Proof.Machine
end

section
/-! # The end of a COMMIT -/

namespace Sys2Proof.Machine

section
variable {s u v : State} {l : Link} {q : Request} {x : TableId} {k : Ticket} {ps : List StatePart}

theorem State.commitAnswered_leaves (v : State) (x : TableId) (crc : Nat) (k : Ticket) :
    (v.commitAnswered x crc k).intake = v.intake ∧ (v.commitAnswered x crc k).measures = v.measures ∧
      (v.commitAnswered x crc k).links.windows = v.links.windows ∧
      (v.commitAnswered x crc k).events.nextSeq = step16 v.events.nextSeq ∧
      (∀ n < 128, ∀ r, v.Recent n r → (v.commitAnswered x crc k).Recent (n + 1) r) ∧
      (v.commitAnswered x crc k).newest =
        some ⟨v.events.nextSeq, v.eventLabel, .management, 6, x.number, 6, some crc, false⟩ := by
  have hevents : (v.commitAnswered x crc k).events = (v.tableCommitted x crc).events := State.answer_events ..
  obtain ⟨y, seqs, hgrows, hevent⟩ := (v.emptyStaging x).event_eq .management 6 x.number 6 (some crc)
  refine ⟨?_, ?_, ?_, ?_, fun n hn r hr => ?_, ?_⟩
  · rw [State.commitAnswered, State.answer_intake, State.tableCommitted, State.event_intake]
    rfl
  · rw [State.commitAnswered, State.answer, State.respond_eq, State.tableCommitted, hevent]
    rfl
  · rw [State.commitAnswered, State.answer, State.respond_eq, State.tableCommitted, hevent]
    show y.windows = _
    rw [hgrows.eq]
    rfl
  · rw [hevents, State.tableCommitted, State.event_nextSeq]
    rfl
  · have hstaged : (v.emptyStaging x).Recent n r := hr.same rfl
    exact (hstaged.event hn .management 6 x.number 6 (some crc)).same hevents
  · rw [State.commitAnswered, State.answer_newest, State.tableCommitted, State.event_newest]
    rfl

/-- The answer of a COMMIT in the places that its request has reserved. -/
theorem State.commitAnswered_fills (hgrows : Grows [] (s.booked l q) v) (crc : Nat) (k : Link)
    (hk : (s.port k).up = true) : BulkPlace.frame ⟨(v.commitAnswered x crc (s.ticketFor 3 q)).ownAddress, q.src, s.links.responseSeq,
      .response q.number 3 0 q.target 0 0 [], false, false⟩ ∈ ((v.commitAnswered x crc (s.ticketFor 3 q)).port k).bulk := by
  have hgrown : Grows [] (s.booked l q) (v.tableCommitted x crc) := (hgrows.same (u := v.emptyStaging x)).event _ _ _ _ _
  have hplace : .reserved (s.ticketFor 3 q).number ∈ ((v.tableCommitted x crc).port k).bulk :=
    hgrown.places k _ ((s.booked_awaiting l q).place k hk) (by simp [BulkPlace.lasting])
  have hnumber : (v.tableCommitted x crc).links.responseSeq = s.links.responseSeq :=
    (hgrown.numbers rfl).trans (s.booked_awaiting l q).responseSeq
  have hown : (v.commitAnswered x crc (s.ticketFor 3 q)).ownAddress = (v.tableCommitted x crc).ownAddress := State.answer_station ..
  have hfilled := State.answer_fills (s.ticketFor 3 q) hplace
  rw [hnumber, ← hown] at hfilled
  exact hfilled

/-- The end of a COMMIT that is answered DONE. -/
theorem Activation.committed (h : Clause.CommitPasses s l q x) (he : x ≠ .element) (hc : x ≠ .curve) (hmay : Clause.activatable s x)
    (ha : Activation ps l q x s v) (hv : s.activating l q x = v) (hl : .links ∈ ps := by decide)
    (hevents : .events ∈ ps := by decide) (hm : .mgmt ∈ ps := by decide) :
    ∃ t, exec (.commit l q) s = .next t ∧ Clause.Committed s t q x ∧ Leaves s v t ∧ Only ps s t := by
  have hmay' : (s.booked l q).mayActivate x (Clause.changed s x) = true := by
    rw [← State.booked_changed, State.mayActivate_iff, State.booked_activatable]
    exact hmay
  have hchecked := State.commitTable_passes (k := s.ticketFor 3 q) h
  rw [State.commitChecked_done he hc hmay', hv] at hchecked
  obtain ⟨hasked, hx, -⟩ := h
  have hexec : exec (.commit l q) s = finish s (v.commitAnswered x (Clause.stagedCrc s x) (s.ticketFor 3 q)) :=
    exec_commit hasked hx hchecked
  have hmem : ∀ {p}, p ∈ ps → p ∈ StatePart.seq :: ps := fun hp => List.mem_cons_of_mem _ hp
  have htouch : Touches (.seq :: ps) s (v.commitAnswered x (Clause.stagedCrc s x) (s.ticketFor 3 q)) :=
    ((ha.touches.setStaging x {} (hmem hm)).event _ _ _ _ _ (hmem hl) (hmem hevents)).answer _ _ (hmem hl) (hmem hm)
  have hfills := State.commitAnswered_fills (x := x) ha.grows (Clause.stagedCrc s x)
  have hmgmt := State.commitAnswered_mgmt v x (s.ticketFor 3 q) (Clause.stagedCrc s x)
  have hwork := State.commitAnswered_work v x (s.ticketFor 3 q) (Clause.stagedCrc s x)
  have hrisen := State.commitAnswered_risen v x (s.ticketFor 3 q) (Clause.stagedCrc s x)
  have hpoint := State.commitAnswered_point v x (s.ticketFor 3 q) (Clause.stagedCrc s x)
  have hsetpoint := State.commitAnswered_setpointOf v x (s.ticketFor 3 q) (Clause.stagedCrc s x)
  have hbreakers := State.commitAnswered_breakers v x (s.ticketFor 3 q) (Clause.stagedCrc s x)
  have hseq := State.commitAnswered_seq v x (s.ticketFor 3 q) (Clause.stagedCrc s x)
  have hpar := State.commitAnswered_par v x (s.ticketFor 3 q) (Clause.stagedCrc s x)
  have hcapture := State.commitAnswered_capture v x (s.ticketFor 3 q) (Clause.stagedCrc s x)
  obtain ⟨hintake, hmeasures, hwindows, hnext, hrecent, hnewest⟩ :=
    State.commitAnswered_leaves v x (Clause.stagedCrc s x) (s.ticketFor 3 q)
  generalize v.commitAnswered x (Clause.stagedCrc s x) (s.ticketFor 3 q) = w at *
  have hidle : ∀ y ∈ w.work, State.handle { w with work := [] } y = { w with work := [] } := fun y hy =>
    ha.idle y (hwork ▸ hy) _ hseq hpar hbreakers (by show w.mgmt.tables = _; rw [hmgmt])
  have hset : ∀ j, w.setpointOf j = s.setpointOf j ∨ w.setpointOf j = none := fun j => by
    rw [hsetpoint]
    exact ha.setpoints j
  have honly := Touches.only_idle htouch hasked.1.risen (fun hs => by
    rw [hseq, hrisen]
    exact ha.calm hs) hidle hset
  obtain ⟨ws, hend⟩ := State.settle_idles hidle hset
  have hedges : v.risen = [] → (∀ p, v.point p = s.point p) → (State.noteEdges s w).capture.edges = v.capture.edges := fun hr hp => by
    rw [State.noteEdges_same _ _ (hrisen.trans hr) fun p => (hpoint p).trans (hp p), hcapture]
  rw [hend] at honly
  refine ⟨_, hexec.trans (congrArg Host.Outcome.next hend), ⟨fun k hk => ?_, ?_, ?_⟩, ⟨?_, ?_, hintake, hmeasures, hbreakers, hseq, hpar,
    hwindows, hnext, fun n hn r hr => (hrecent n hn r hr).same rfl, ?_, hedges⟩, honly⟩
  · have hfilled := hfills k hk
    cases k <;> exact hfilled
  · show w.mgmt = _
    rw [hmgmt, ha.mgmt]
    rfl
  · show w.newest.map _ = _
    rw [hnewest]
    rfl
  · show w.mgmt.tables = _
    rw [hmgmt]
  · show w.mgmt.configured = _
    rw [hmgmt]
  · exact congrArg (fun y : Capture => { y with edges := (State.noteEdges s w).capture.edges }) hcapture

/-! ### ELEMENT and CURVE wait (R183) -/

/-- The area of a content that waits for the next closure. -/
def State.waitingArea (s : State) (q : Request) (x : TableId) : Staging :=
  ⟨.committing ⟨s.ticketFor 3 q, Clause.stagedCrc s x, Clause.newTable s x⟩, (s.stagingOf x).entries⟩

/-- Settles the second part of O49. -/
theorem commitWaits : Clause.CommitWaits := by
  intro s l q x h hx
  have hchecked : State.commitTable (s.ticketFor 3 q) q x (s.booked l q) =
      ((s.booked l q).setStaging x (s.waitingArea q x), none) := by
    rw [State.commitTable_passes h, State.commitChecked]
    dsimp only
    rw [if_pos (by simpa using hx), State.booked_stagingOf]
    rfl
  have hexec := exec_commit h.1 h.2.1 hchecked
  have hmgmt : ((s.booked l q).setStaging x (s.waitingArea q x)).mgmt =
      { s.answered .done with staging := s.mgmt.staging.set x.number (s.waitingArea q x) } := by
    show ({ (s.booked l q).mgmt with staging := (s.booked l q).mgmt.staging.set x.number (s.waitingArea q x) } : Management) = _
    rw [State.booked_mgmt]
    rfl
  obtain ⟨es, hend, honly⟩ := finish_settled h.1.1 ((Touches.booked (ps := [.links, .mgmt]) s l q).setStaging x _)
    ((s.booked_work l q).trans h.1.1.1) (fun g => s.booked_setpointOf l q g)
  exact ⟨_, hexec.trans hend, hmgmt, honly⟩

end


end Sys2Proof.Machine
end

section
/-! # COMMIT of a content that has no further effect -/

namespace Sys2Proof.Machine

section
variable {s u v : State} {l : Link} {q : Request} {x : TableId} {ps : List StatePart}

/-! ### Activations that do nothing beside the content (R183) -/

theorem State.booked_risen (s : State) (l : Link) (q : Request) : (s.booked l q).risen = s.risen := by cases l <;> rfl

theorem committedTables_none (h : Clause.changed s x = []) : committedTables s x = s.mgmt.tables := if_pos h

theorem committedTables_some (h : Clause.changed s x ≠ []) :
    committedTables s x = s.mgmt.tables.set x.number (Clause.newTable s x) := if_neg h

/-- A setpoint reads the GENERATOR table alone. -/
theorem State.setpointOf_of_table (hp : u.par.gens = s.par.gens) (ht : u.table .generator = s.table .generator) (j : Nat) :
    u.setpointOf j = s.setpointOf j := by
  have hgen : u.gen j = s.gen j := by rw [State.gen, hp, State.gen]
  have hconf : u.genConfigured j = s.genConfigured j := by
    rw [State.genConfigured, State.genConfigured, State.fld_of_table ht]
  rw [State.setpointOf_eq, State.setpointOf_eq, hgen, hconf]

/-- A content without a changed entry. -/
theorem Activation.booked (hs : s.Quiet) (h : Clause.changed s x = []) (hl : .links ∈ ps := by decide) (hm : .mgmt ∈ ps := by decide) :
    Activation ps l q x s (s.booked l q) where
  mgmt := by
    rw [State.booked_mgmt, committedTables_none h]
    rfl
  grows := .refl _
  touches := (Touches.booked s l q hl hm).mono (List.subset_cons_self ..)
  calm _ := ⟨s.booked_seq l q, fun _ => (s.booked_risen l q).trans hs.risen⟩
  idle w hw := by
    rw [State.booked_work, hs.1] at hw
    exact absurd hw (List.not_mem_nil)
  setpoints j := .inl (s.booked_setpointOf l q j)

/-- The state in which a changed content stands, before its effects. -/
def State.written (s : State) (l : Link) (q : Request) (x : TableId) : State := (s.booked l q).setTable x (Clause.newTable s x)

theorem State.written_mgmt (h : Clause.changed s x ≠ []) :
    (s.written l q x).mgmt = { s.answered .done with tables := committedTables s x } := by
  rw [committedTables_some h]
  show ({ (s.booked l q).mgmt with tables := (s.booked l q).mgmt.tables.set x.number (Clause.newTable s x) } : Management) = _
  rw [State.booked_mgmt]
  rfl

theorem State.written_touches (hl : .links ∈ ps := by decide) (hm : .mgmt ∈ ps := by decide) :
    Touches (.seq :: ps) s (s.written l q x) :=
  ((Touches.booked s l q hl hm).mono (List.subset_cons_self ..)).setTable _ _ (List.mem_cons_of_mem _ hm) (List.mem_cons_self ..)

theorem State.written_work (hs : s.Quiet) : (s.written l q x).work = [] := (s.booked_work l q).trans hs.1

theorem State.written_risen (hs : s.Quiet) : (s.written l q x).risen = [] := (s.booked_risen l q).trans hs.risen

theorem State.written_table {y : TableId} (h : y ≠ x) : (s.written l q x).table y = s.table y := by
  rw [State.written, State.setTable_table_other _ h, State.booked_table]

theorem State.written_setpointOf (h : x ≠ .generator) (j : Nat) : (s.written l q x).setpointOf j = s.setpointOf j :=
  State.setpointOf_of_table (by show (s.booked l q).par.gens = _; rw [State.booked_par]) (State.written_table h.symm) j

/-- An activation that hands on no work, notes no rise and leaves the sequencer and the generators alone. -/
theorem Activation.quiet (h : Clause.changed s x ≠ []) (hx : x ≠ .generator)
    (hmgmt : v.mgmt = (s.written l q x).mgmt) (hgrows : Grows [] (s.booked l q) v) (htouch : Touches (.seq :: ps) s v)
    (hseq : .seq ∉ ps → v.seq = s.seq) (hrisen : v.risen = []) (hwork : v.work = []) (hpar : v.par = s.par) : Activation ps l q x s v where
  mgmt := hmgmt.trans (State.written_mgmt h)
  grows := hgrows
  touches := htouch
  calm hn := ⟨hseq hn, fun _ => hrisen⟩
  idle w hw := absurd (hwork ▸ hw) (List.not_mem_nil)
  setpoints j := by
    refine .inl ((State.setpointOf_of_table (s := s) (by rw [hpar]) ?_ j))
    rw [State.table, hmgmt]
    exact State.written_table hx.symm

theorem Activation.written (hs : s.Quiet) (h : Clause.changed s x ≠ []) (hx : x ≠ .generator) (hl : .links ∈ ps := by decide)
    (hm : .mgmt ∈ ps := by decide) : Activation ps l q x s (s.written l q x) :=
  .quiet h hx rfl (Grows.refl _).same (State.written_touches hl hm) (fun _ => s.booked_seq l q) (State.written_risen hs)
    (State.written_work hs) (s.booked_par l q)

theorem State.activating_same (h : Clause.changed s x = []) : s.activating l q x = s.booked l q := if_pos h

theorem State.activating_changed (h : Clause.changed s x ≠ []) :
    s.activating l q x = (s.booked l q).activate x (Clause.newTable s x) (Clause.changed s x) := if_neg h

theorem Clause.activatable_same (h : Clause.changed s x = []) : Clause.activatable s x := by
  cases x <;> simp [Clause.activatable, h]

/-- Settles the third part of O49. -/
theorem commitActivatesPlainTables : Clause.CommitActivatesPlainTables := by
  intro s l q x h commits
  have hs : s.Quiet := h.1.1
  refine ⟨fun hsame he hc => ?_, fun hx hmay => ?_, fun hx hchanged hempty => ?_⟩
  · obtain ⟨t, hend, hdone, hleaves, honly⟩ := Activation.committed h he hc (Clause.activatable_same hsame)
      (Activation.booked (ps := [.links, .events, .mgmt]) hs hsame) (State.activating_same hsame)
    exact ⟨t, hend, hdone, hleaves.windows.trans (by cases l <;> rfl), honly⟩
  · have hplain : ∃ v, Activation [.links, .events, .mgmt] l q x s v ∧ s.activating l q x = v ∧ v.events = s.events := by
      by_cases hsame : Clause.changed s x = []
      · exact ⟨_, .booked hs hsame, State.activating_same hsame, s.booked_events l q⟩
      · refine ⟨_, .written hs hsame (by obtain rfl | rfl := hx <;> decide), ?_, s.booked_events l q⟩
        rw [State.activating_changed hsame]
        obtain rfl | rfl := hx <;> rfl
    obtain ⟨v, hv, hactivating, hevents⟩ := hplain
    obtain ⟨t, hend, hdone, hleaves, honly⟩ := hv.committed h (by obtain rfl | rfl := hx <;> decide)
      (by obtain rfl | rfl := hx <;> decide) hmay hactivating
    exact ⟨t, hend, hdone, hleaves.nextSeq.trans (by rw [hevents]), honly⟩
  · subst hx
    have hv : Activation [.links, .events, .capture, .mgmt] l q .capture s
        ((s.written l q .capture).modCapture (fun c => { c with ring := [] })) :=
      .quiet hchanged (by decide) rfl (Grows.refl _).same (Touches.modCapture _ State.written_touches) (fun _ => s.booked_seq l q)
        (State.written_risen (x := .capture) hs) (State.written_work (x := .capture) hs) (s.booked_par l q)
    obtain ⟨t, hend, hdone, hleaves, honly⟩ := hv.committed h (by decide) (by decide) (.inr hempty)
      (State.activating_changed hchanged)
    refine ⟨t, hend, hdone, ?_, honly⟩
    have hedges := hleaves.edges (State.written_risen (x := .capture) hs) fun p => s.booked_point l q p
    refine hleaves.capture.trans ?_
    rw [hedges]
    show ({ (s.booked l q).capture with ring := [] } : Capture) = _
    rw [State.booked_capture]

end


end Sys2Proof.Machine
end

section
/-! # COMMIT of STATION and STREAM -/

namespace Sys2Proof.Machine

section
variable {s t u v : State} {l : Link} {q : Request} {x : TableId} {ps : List StatePart}

/-! ### The windows after an activation (R7) -/

/-- The addresses that the tables name. -/
theorem mem_namedAddresses_iff {ts : List Table} {c : Bool} {a : Nat} : (∃ n ∈ namedAddresses ts c, n.1 = a) ↔
    (∃ b < 24, tableField ts .breaker b 2 = a) ∨ (∃ g < 8, tableField ts .generator g 2 = a) ∨
      a ∈ [tableField ts .station 0 4, tableField ts .station 0 5, tableField ts .station 0 6] ∨ (a = 4094 ∧ c = false) := by
  have hnamed : namedAddresses ts c = namedAddresses ts true ++ if c then [] else [(4094, [FrameClass.mgmtReq])] := by
    cases c <;> simp [namedAddresses]
  have hcommissioning : (∃ n ∈ (if c then [] else [(4094, [FrameClass.mgmtReq])] : List (Nat × List FrameClass)), n.1 = a) ↔
      a = 4094 ∧ c = false := by
    cases c <;> simp [eq_comm]
  rw [hnamed]
  simp only [List.mem_append, or_and_right, exists_or]
  rw [mem_namedAddresses, hcommissioning, or_assoc, or_assoc]

/-- The windows of a state in which they have been rebuilt. -/
theorem Leaves.windowsFollow (h : Leaves s v t)
    (hv : v.links.windows = rebuildWindows (namedAddresses v.mgmt.tables v.mgmt.configured) (s.booked l q).links.windows) :
    Clause.WindowsFollow s t q := by
  have hwindows := h.windows.trans hv
  refine ⟨fun a => ?_, fun y hy z hz => ?_⟩
  · rw [hwindows, mem_rebuildWindows, mem_namedAddresses_iff, ← h.tables, ← h.configured]
    rfl
  · rw [hwindows] at hy
    have hbooked : (s.booked l q).links.windows = (s.noteTaken .mgmtReq q.header).links.windows := by cases l <;> rfl
    exact rebuildWindows_pairs hy (hbooked ▸ hz)

/-- The state in which a changed content stands and the windows are rebuilt. -/
def State.rewindowed (s : State) (l : Link) (q : Request) (x : TableId) : State := (s.written l q x).rebuild

theorem State.rewindowed_grows : Grows [] (s.booked l q) (s.rewindowed l q x) :=
  (Grows.refl _).linked (fun l x hx _ => by cases l <;> exact hx)

theorem State.rewindowed_touches (hl : .links ∈ ps := by decide) (hm : .mgmt ∈ ps := by decide) :
    Touches (.seq :: ps) s (s.rewindowed l q x) :=
  (State.written_touches hl hm).links _ (List.mem_cons_of_mem _ hl)

/-! ### STATION (R7, R83, R92, R138) -/

/-- The demands for STATION_TRIP that the change of the station trip set asks for. -/
def stationTripAsked (s t : State) : List DemandRequest :=
  if s.lines.tripLatch then
    (t.stationTripSet.filter (fun b => !s.stationTripSet.contains b)).map (fun b => ⟨true, b, .stationTrip⟩) ++
      (s.stationTripSet.filter (fun b => !t.stationTripSet.contains b)).map (fun b => ⟨false, b, .stationTrip⟩)
  else []

/-- The state in which a STATION content is active. -/
def State.restationed (s : State) (l : Link) (q : Request) : State :=
  let t := s.rewindowed l q .station
  { t with
    breakers := { t.breakers with requests := t.breakers.requests ++ stationTripAsked (s.booked l q) t }
    seq := { t.seq with
      autoEffective :=
        if t.station 10 = s.station 10 then s.seq.autoEffective else decide (t.station 10 = 1) && !s.lines.lockout } }

/-- At a change of the auto-enable flag AUTO_TRANSFER_EFFECTIVE is found anew. -/
theorem State.recomputed_eq {n : Nat} (hidle : ∀ k, u.seq.state ≠ .idle k) :
    (if u.station 10 == n then u else u.recomputeAuto) = { u with seq := { u.seq with
      autoEffective := if u.station 10 = n then u.seq.autoEffective else decide (u.station 10 = 1) && !u.lines.lockout } } := by
  by_cases hsame : u.station 10 = n
  · rw [if_pos (by simpa using hsame), if_pos hsame]
  · rw [if_neg (by simpa using hsame), if_neg hsame, State.recomputeAuto_eq hidle]
    rfl

theorem activateStation_eq (hidle : ∀ k, s.seq.state ≠ .idle k) :
    (s.booked l q).activateStation (Clause.newTable s .station) = s.restationed l q := by
  have hlines : (s.rewindowed l q .station).lines = s.lines := s.booked_lines l q
  have hseq : (s.rewindowed l q .station).seq = s.seq := s.booked_seq l q
  have hasked : (if (s.rewindowed l q .station).lines.tripLatch then
      ((s.rewindowed l q .station).forEach ((s.rewindowed l q .station).stationTripSet.filter
        (fun b => !(s.booked l q).stationTripSet.contains b)) (fun b x => x.askAdd b .stationTrip)).forEach
          ((s.booked l q).stationTripSet.filter (fun b => !(s.rewindowed l q .station).stationTripSet.contains b))
            (fun b x => x.askRemove b .stationTrip)
      else s.rewindowed l q .station) = { s.rewindowed l q .station with breakers := { (s.rewindowed l q .station).breakers with
        requests := (s.rewindowed l q .station).breakers.requests ++ stationTripAsked (s.booked l q) (s.rewindowed l q .station) } } := by
    rw [stationTripAsked, State.booked_lines, hlines]
    split
    · rw [State.forEach_askAdd, State.forEach_askRemove]
      simp only [List.append_assoc]
    · rw [List.append_nil]
  have hstation : (s.booked l q).station 10 = s.station 10 := s.booked_station l q 10
  have hunfold : (s.booked l q).activateStation (Clause.newTable s .station) =
      (let u : State := if (s.rewindowed l q .station).lines.tripLatch then
        ((s.rewindowed l q .station).forEach ((s.rewindowed l q .station).stationTripSet.filter
          (fun b => !(s.booked l q).stationTripSet.contains b)) (fun b x => x.askAdd b .stationTrip)).forEach
            ((s.booked l q).stationTripSet.filter (fun b => !(s.rewindowed l q .station).stationTripSet.contains b))
              (fun b x => x.askRemove b .stationTrip)
        else s.rewindowed l q .station
      if u.station 10 == (s.booked l q).station 10 then u else u.recomputeAuto) := rfl
  rw [hunfold, hasked, hstation]
  unfold State.restationed
  dsimp only
  generalize s.rewindowed l q .station = w at *
  rw [State.recomputed_eq (by intro k; rw [show (State.seq _) = w.seq from rfl, hseq]; exact hidle k), ← hlines, ← hseq]
  rfl

/-- The demands in the words of the clause. -/
theorem stationTripAsked_eq (s t : State) : stationTripAsked s t =
    let asked := fun (add : Bool) (x y : State) => ((List.range 24).filter (fun b =>
      x.station 9 / 2 ^ b % 2 == 1 && y.station 9 / 2 ^ b % 2 != 1)).map (fun b => (⟨add, b, .stationTrip⟩ : DemandRequest))
    if s.lines.tripLatch then asked true t s ++ asked false s t else [] := by
  have hjoins : ∀ x y : State, x.stationTripSet.filter (fun b => !y.stationTripSet.contains b) =
      (List.range 24).filter (fun b => x.station 9 / 2 ^ b % 2 == 1 && y.station 9 / 2 ^ b % 2 != 1) := fun x y => by
    have hset : x.stationTripSet = (List.range 24).filter (bitOf (x.station 9)) := rfl
    rw [hset, List.filter_filter]
    refine List.filter_congr fun b hb => ?_
    have hmem : (y.stationTripSet.contains b) = (y.station 9 / 2 ^ b % 2 == 1) := by
      rw [Bool.eq_iff_iff, List.contains_iff_mem, State.stationTripSet, mem_bitSet (List.mem_range.1 hb), beq_iff_eq]
    rw [hmem, bitOf, Bool.and_comm]
    rfl
  rw [stationTripAsked, hjoins, hjoins]

theorem State.restationed_breakers : (s.restationed l q).breakers = { s.breakers with
    requests := s.breakers.requests ++ stationTripAsked (s.booked l q) (s.rewindowed l q .station) } := by
  rw [← s.booked_breakers l q]
  rfl

theorem State.restationed_seq : (s.restationed l q).seq = { s.seq with
    autoEffective :=
      if (s.rewindowed l q .station).station 10 = s.station 10 then s.seq.autoEffective
      else decide ((s.rewindowed l q .station).station 10 = 1) && !s.lines.lockout } := by
  have hseq : (s.restationed l q).seq = { (s.booked l q).seq with
    autoEffective :=
      if (s.rewindowed l q .station).station 10 = s.station 10 then s.seq.autoEffective
      else decide ((s.rewindowed l q .station).station 10 = 1) && !s.lines.lockout } := rfl
  rw [hseq, s.booked_seq l q]

theorem Activation.restationed (hs : s.Quiet) (h : Clause.changed s .station ≠ []) :
    Activation [.links, .events, .breakers, .seq, .mgmt] l q .station s (s.restationed l q) := by
  have hwindows : Touches [.seq, .links, .events, .breakers, .seq, .mgmt] s (s.rewindowed l q .station) := State.rewindowed_touches
  have htouch : Touches [.seq, .links, .events, .breakers, .seq, .mgmt] s (s.restationed l q) :=
    (hwindows.breakers (s.restationed l q).breakers).modSeq (fun _ => (s.restationed l q).seq)
  exact .quiet h (by decide) rfl
    (State.rewindowed_grows.next ⟨fun _ hq => List.mem_append_left _ hq, fun _ _ hx _ => hx, fun _ => rfl, fun _ => List.prefix_rfl⟩)
    htouch (fun hn => absurd (by decide) hn) (State.written_risen (x := .station) hs)
    (State.written_work (x := .station) hs) (s.booked_par l q)

/-! ### STREAM (R22, R39, R49) -/

/-- Work on the objects of a list, each on its own. -/
theorem State.forEach_each {I : State → Prop} {Q : Nat → State → Prop} {f : Nat → State → State} (hI : ∀ n t, I t → I (f n t))
    (hdone : ∀ n t, I t → Q n (f n t)) (hkeep : ∀ n k t, k ≠ n → I t → Q k t → Q k (f n t)) :
    ∀ (ns : List Nat) (t : State), I t → I (t.forEach ns f) ∧ ∀ k, (k ∈ ns ∨ Q k t) → Q k (t.forEach ns f) := by
  intro ns
  induction ns with
  | nil => exact fun t ht => ⟨ht, fun k hk => hk.elim (fun h => absurd h (List.not_mem_nil)) id⟩
  | cons n ns ih =>
    intro t ht
    obtain ⟨hall, hnext⟩ := ih (f n t) (hI n t ht)
    refine ⟨hall, fun k hk => hnext k ?_⟩
    by_cases hn : k = n
    · subst hn
      exact .inr (hdone k t ht)
    · obtain hk | hk := hk
      · exact .inl ((List.mem_cons.1 hk).resolve_left hn)
      · exact .inr (hkeep n k t hn ht hk)

theorem Clause.newTable_length (s : State) (x : TableId) : (Clause.newTable s x).length = x.entries := by
  simp [Clause.newTable, Candidate.table, candidate]

/-- Beyond the entries of a table every field is 0. -/
theorem State.written_fld_beyond (hs : s.Quiet) {e : Nat} (he : x.entries ≤ e) (id : Nat) : (s.written l q x).fld x e id = 0 := by
  have hlen : (s.booked l q).mgmt.tables.length = 13 := by rw [State.booked_mgmt]; exact hs.tables_length
  rw [State.fld_table, State.written, State.setTable_table_same hlen, List.getD_eq_default _ _ (by rw [Clause.newTable_length]; exact he)]
  rfl

/-- A stream that has entered ACQUIRING or DISABLED, under the tables of `v`. -/
def StreamAnew (v : State) (k : Nat) (t : State) : Prop :=
  (t.stream k).state = (if v.fld .stream k 1 = 1 then StreamState.acquiring else .disabled) ∧ (t.stream k).buffer = [] ∧
    (t.stream k).valid = false ∧ (t.measure k).tracker.valid = false ∧ (t.measure k).windows = List.replicate 8 emptyWindow

/-- The state in which a STREAM content is active. -/
def State.restreamed (s : State) (l : Link) (q : Request) : State :=
  (s.written l q .stream).forEach (Clause.changed s .stream) (fun k v => v.enterStream k)

theorem State.restreamed_anew (hs : s.Quiet) {k : Nat} (hk : k ∈ Clause.changed s .stream) :
    StreamAnew (s.written l q .stream) k (s.restreamed l q) := by
  have hmgmt : ∀ n t, t.mgmt = (s.written l q .stream).mgmt → (State.enterStream t n).mgmt = (s.written l q .stream).mgmt :=
    fun n t h => h
  have hbeyond : ∀ n, 16 ≤ n → (s.written l q .stream).fld .stream n 1 = 0 := fun n hn =>
    State.written_fld_beyond (x := .stream) hs hn 1
  have hsl : (s.written l q .stream).intake.streams.length = 16 := by
    have h : (s.written l q .stream).intake.streams = s.intake.streams := by cases l <;> rfl
    rw [h, hs.streams_length]
  have hml : (s.written l q .stream).measures.length = 16 := by
    have h : (s.written l q .stream).measures = s.measures := by cases l <;> rfl
    rw [h, hs.measures_length]
  unfold State.restreamed
  generalize s.written l q .stream = w at *
  refine (State.forEach_each (I := fun t => t.mgmt = w.mgmt ∧ t.intake.streams.length = 16 ∧ t.measures.length = 16)
    (Q := StreamAnew w) (f := fun k v => v.enterStream k) (fun n t ⟨hm, hst, hme⟩ => ⟨hm, (List.length_modify _ t.intake.streams n).trans hst,
      (List.length_modify _ t.measures n).trans hme⟩)
    (fun n t ⟨hm, hst, hme⟩ => ?_) (fun n k t hne _ hq => ?_) _ w ⟨rfl, hsl, hml⟩).2 k (.inl hk)
  · have hfld : t.fld .stream n 1 = w.fld .stream n 1 := by rw [State.fld, hm, State.fld]
    by_cases hn : n < 16
    · have hstream : (t.enterStream n).stream n = (t.stream n).cleared (if t.fld .stream n 1 == 1 then .acquiring else .disabled) :=
        State.stream_modStream_same _ _ (hst.symm ▸ hn)
      have hmeasure : (t.enterStream n).measure n = (t.measure n).empty := State.measure_modMeasure_same _ _ (hme.symm ▸ hn)
      rw [StreamAnew, hstream, hmeasure, hfld]
      exact ⟨if_congr beq_iff_eq rfl rfl, rfl, rfl, rfl, rfl⟩
    · have hstream : (t.enterStream n).stream n = default := List.getD_eq_default _ _ (by
        show (t.intake.streams.modify n _).length ≤ n
        rw [List.length_modify, hst]; exact Nat.le_of_not_lt hn)
      have hmeasure : (t.enterStream n).measure n = default := List.getD_eq_default _ _ (by
        show (t.measures.modify n _).length ≤ n
        rw [List.length_modify, hme]; exact Nat.le_of_not_lt hn)
      rw [StreamAnew, hstream, hmeasure, hbeyond n (Nat.le_of_not_lt hn)]
      exact ⟨rfl, rfl, rfl, rfl, rfl⟩
  · have hstream : (t.enterStream n).stream k = t.stream k := State.stream_modStream_other _ _ (Ne.symm hne)
    have hmeasure : (t.enterStream n).measure k = t.measure k := State.measure_modMeasure_other _ _ (Ne.symm hne)
    rw [StreamAnew, hstream, hmeasure]
    exact hq

theorem State.restreamed_others {k : Nat} (hk : k ∉ Clause.changed s .stream) :
    (s.restreamed l q).stream k = s.stream k ∧ (s.restreamed l q).measure k = s.measure k := by
  have hbooked : (s.written l q .stream).stream k = s.stream k ∧ (s.written l q .stream).measure k = s.measure k := by
    cases l <;> exact ⟨rfl, rfl⟩
  rw [State.restreamed, ← hbooked.1, ← hbooked.2]
  generalize s.written l q .stream = w
  generalize Clause.changed s .stream = ns at hk
  induction ns generalizing w with
  | nil => exact ⟨rfl, rfl⟩
  | cons n ns ih =>
    obtain ⟨hn, hns⟩ := List.ne_and_not_mem_of_not_mem_cons hk
    obtain ⟨hstream, hmeasure⟩ := ih (w.enterStream n) hns
    exact ⟨hstream.trans (State.stream_modStream_other _ _ hn.symm), hmeasure.trans (State.measure_modMeasure_other _ _ hn.symm)⟩

theorem Activation.restreamed (hs : s.Quiet) (h : Clause.changed s .stream ≠ []) :
    Activation [.links, .events, .intake, .measures, .mgmt] l q .stream s (s.restreamed l q) := by
  have hkept : ∀ (ns : List Nat) (w : State), (w.forEach ns fun k v => v.enterStream k) = { w with
      intake := (w.forEach ns fun k v => v.enterStream k).intake
      measures := (w.forEach ns fun k v => v.enterStream k).measures } := by
    intro ns
    induction ns with
    | nil => exact fun _ => rfl
    | cons n ns ih => exact fun w => ih (w.enterStream n)
  have htouch : Touches [.seq, .links, .events, .intake, .measures, .mgmt] s (s.restreamed l q) :=
    Touches.forEach _ _ State.written_touches fun _ _ hu => hu.enterStream _
  have hrest := hkept (Clause.changed s .stream) (s.written l q .stream)
  change s.restreamed l q = _ at hrest
  refine .quiet h (by decide) (by rw [hrest]) ?_ htouch (fun _ => ?_) ?_ ?_ ?_
  · rw [hrest]
    exact (Grows.refl _).same
  · rw [hrest]
    exact s.booked_seq l q
  · rw [hrest]
    exact State.written_risen (x := .stream) hs
  · rw [hrest]
    exact State.written_work (x := .stream) hs
  · rw [hrest]
    exact s.booked_par l q

/-- Settles the fourth part of O49. -/
theorem commitActivatesStationAndStreams : Clause.CommitActivatesStationAndStreams := by
  intro s l q x h hchanged asked
  have hs : s.Quiet := h.1.1
  refine ⟨fun hx hidle => ?_, fun hx => ?_⟩
  · subst hx
    have hactivating : s.activating l q .station = s.restationed l q :=
      (State.activating_changed hchanged).trans (activateStation_eq hidle)
    obtain ⟨t, hend, hdone, hleaves, honly⟩ := (Activation.restationed (l := l) (q := q) hs hchanged).committed h (by decide)
      (by decide) trivial hactivating
    have hstation : ∀ id, (s.rewindowed l q .station).station id = t.station id := fun id => by
      rw [State.station, State.station, State.fld, State.fld, hleaves.tables]
      rfl
    refine ⟨t, hend, hdone, hleaves.windowsFollow rfl, ?_, ?_, honly⟩
    · rw [hleaves.breakers, State.restationed_breakers, stationTripAsked_eq]
      simp only [hstation, State.booked_station, State.booked_lines]
      rfl
    · rw [hleaves.seq, State.restationed_seq, hstation]
  · subst hx
    obtain ⟨t, hend, hdone, hleaves, honly⟩ := (Activation.restreamed (l := l) (q := q) hs hchanged).committed h (by decide)
      (by decide) trivial (State.activating_changed hchanged)
    have hstream : ∀ k, t.stream k = (s.restreamed l q).stream k := fun k => by rw [State.stream, hleaves.intake, State.stream]
    have hmeasure : ∀ k, t.measure k = (s.restreamed l q).measure k := fun k => by rw [State.measure, hleaves.measures, State.measure]
    refine ⟨t, hend, hdone, fun k hk => ?_, fun k _ hk => ?_, honly⟩
    · have hanew := State.restreamed_anew (l := l) (q := q) hs hk
      have hfld : (s.written l q .stream).fld .stream k 1 = t.fld .stream k 1 := by
        have hmgmt := (Activation.restreamed (l := l) (q := q) hs hchanged).mgmt
        rw [State.fld, State.fld, hleaves.tables, hmgmt, State.written_mgmt hchanged]
      rw [StreamAnew, ← hstream, ← hmeasure, hfld] at hanew
      exact hanew
    · rw [hstream, hmeasure]
      exact State.restreamed_others hk

end


end Sys2Proof.Machine
end

section
/-! # COMMIT of GENERATOR -/

namespace Sys2Proof.Machine

section
variable {s t u v w : State} {l : Link} {q : Request} {x : TableId} {ps : List StatePart} {g : Nat} {ns : List Nat}

/-! ### Entries that do not change (R183) -/

theorem State.written_table_same (hs : s.Quiet) : (s.written l q x).table x = Clause.newTable s x := by
  have hlen : (s.booked l q).mgmt.tables.length = 13 := by rw [State.booked_mgmt]; exact hs.tables_length
  rw [State.written, State.setTable_table_same hlen]

theorem State.written_fld_unchanged (hs : s.Quiet) {e : Nat} (he : e ∉ Clause.changed s x) (id : Nat) :
    (s.written l q x).fld x e id = s.fld x e id := by
  have hsame : (s.table x).getD e [] = (Clause.newTable s x).getD e [] := by
    by_contra hne
    refine he (List.mem_filter.2 ⟨List.mem_range.2 ?_, by simpa using hne⟩)
    by_contra hlt
    have hle := Nat.le_of_not_lt hlt
    rw [List.getD_eq_default _ _ (le_trans (le_max_left ..) hle), List.getD_eq_default _ _ (le_trans (le_max_right ..) hle)] at hne
    exact hne rfl
  rw [State.fld_table, State.written_table_same hs, ← hsame, ← State.fld_table]

theorem Clause.changed_nodup (s : State) (x : TableId) : (Clause.changed s x).Nodup := (List.nodup_range).filter _

/-! ### GENERATOR (R7, R148, R155) -/

theorem State.event_windows (c : EventClass) (priority object code : Nat) (value : Option Nat) :
    (t.event c priority object code value).links.windows = t.links.windows := by
  obtain ⟨y, seqs, hgrows, e⟩ := t.event_eq c priority object code value
  rw [e]
  show y.windows = _
  rw [hgrows.eq]

theorem State.genEntered_par (new : GenState) : (t.genEntered g new).par = { t.par with
    gens := t.par.gens.modify g (fun r => r.enter new)
    waitList := t.par.waitList.filter (· != g)
    demandDue := true } := by
  rw [State.genEntered, State.event_par]
  rfl

theorem State.genEntered_windows (new : GenState) : (t.genEntered g new).links.windows = t.links.windows := by
  rw [State.genEntered, State.event_windows]
  rfl

/-- A generator of R183 starts anew: it becomes ABSENT, where it was not, and its record is that of power-on. -/
theorem State.resetGen_eq (h : (t.gen g).state ∈ [GenState.absent, .standby, .fault]) : t.resetGen g =
    (if (t.gen g).state = .absent then t else t.genEntered g .absent).modGen g (fun _ => powerOnGen t.mgmt.tables g) := by
  by_cases ha : (t.gen g).state = .absent
  · rw [if_pos ha, State.resetGen_absent ha]
  · rw [if_neg ha, State.resetGen, State.genMove_eq ha, if_neg, State.opensFor_other (by decide) (by decide)]
    · simp only [List.mem_cons, List.not_mem_nil, or_false] at h
      obtain h | h | h := h <;> rw [h] <;> decide
    · simp only [List.mem_cons, List.not_mem_nil, or_false] at h
      obtain h | h | h := h <;> rw [h] <;> rfl

/-- The generators `ns` start anew, from `w`. -/
structure Renews (w : State) (ns : List Nat) (t : State) : Prop where
  mgmt : t.mgmt = w.mgmt
  seq : t.seq = w.seq
  work : t.work = w.work
  windows : t.links.windows = w.links.windows
  count : t.par.gens.length = 8
  anew : ∀ g ∈ ns, t.gen g = powerOnGen w.mgmt.tables g
  others : ∀ g, g ∉ ns → t.gen g = w.gen g
  par : t.par = { w.par with
    gens := t.par.gens
    waitList := w.par.waitList.filter (fun g => !(decide (g ∈ ns) && (w.gen g).state != .absent))
    demandDue := w.par.demandDue || ns.any (fun g => (w.gen g).state != .absent) }
  grows : Grows [] w t
  touches : Touches [.seq, .links, .events, .par, .mgmt] w t

theorem Renews.none (h : w.par.gens.length = 8) : Renews w [] w :=
  ⟨rfl, rfl, rfl, rfl, h, fun _ hg => absurd hg List.not_mem_nil, fun _ _ => rfl, by simp, .refl w, .refl _ w⟩

/-- One generator more. -/
theorem Renews.resetGen (h : Renews w ns t) (hnew : g ∉ ns) (hmay : (w.gen g).state ∈ [GenState.absent, .standby, .fault])
    (hbeyond : 8 ≤ g → powerOnGen w.mgmt.tables g = default) : Renews w (ns ++ [g]) (t.resetGen g) := by
  have hold := h.others g hnew
  rw [State.resetGen_eq (by rw [hold]; exact hmay), hold, h.mgmt]
  obtain ⟨u, hu, hmgmt, hseq, hwork, hwindows, hcount, hgens, hpar, hgrows, htouches⟩ : ∃ u,
      (if (w.gen g).state = .absent then t else t.genEntered g .absent) = u ∧ u.mgmt = t.mgmt ∧ u.seq = t.seq ∧ u.work = t.work ∧
        u.links.windows = t.links.windows ∧ u.par.gens.length = t.par.gens.length ∧ (∀ j, j ≠ g → u.gen j = t.gen j) ∧
        u.par = { t.par with
          gens := u.par.gens
          waitList := t.par.waitList.filter (fun j => !(j == g && (w.gen g).state != .absent))
          demandDue := t.par.demandDue || (w.gen g).state != .absent } ∧ Grows [] t u ∧
        Touches [.seq, .links, .events, .par, .mgmt] t u := by
    by_cases ha : (w.gen g).state = .absent
    · refine ⟨t, if_pos ha, rfl, rfl, rfl, rfl, rfl, fun _ _ => rfl, ?_, .refl t, .refl _ t⟩
      simp [ha]
    · refine ⟨_, if_neg ha, State.genEntered_mgmt, State.genEntered_seq, State.genEntered_work, State.genEntered_windows _, ?_,
        fun j hj => ?_, ?_, ?_, ?_⟩
      · rw [State.genEntered_par]
        exact List.length_modify ..
      · rw [State.gen, State.genEntered_par]
        exact State.gen_modGen_other _ _ hj.symm
      · have hstate : ((w.gen g).state != .absent) = true := by simpa using ha
        rw [State.genEntered_par, hstate]
        simp only [Bool.and_true, Bool.or_true]
        rfl
      · exact ((Grows.refl t).same (u := t.noting ((t.modGen g (fun r => r.enter .absent)).modPar (fun p =>
          { p with waitList := p.waitList.filter (· != g), demandDue := true })))).event _ _ _ _ _
      · exact (Touches.noting _ (((Touches.refl _ t).modGen g _).modPar _)).event _ _ _ _ _
  rw [hu]
  have hlen : (u.modGen g (fun _ => powerOnGen w.mgmt.tables g)).par.gens.length = 8 :=
    (List.length_modify ..).trans (hcount.trans h.count)
  refine ⟨hmgmt.trans h.mgmt, hseq.trans h.seq, hwork.trans h.work, hwindows.trans h.windows, hlen, fun j hj => ?_, fun j hj => ?_, ?_,
    h.grows.next (hgrows.same), h.touches.trans (htouches.modGen g _)⟩
  · by_cases hjg : j = g
    · subst hjg
      by_cases hlt : j < 8
      · exact State.gen_modGen_same _ _ (by rw [hcount, h.count]; exact hlt)
      · have hdefault : (u.modGen j (fun _ => powerOnGen w.mgmt.tables j)).gen j = default :=
          List.getD_eq_default _ _ (by rw [hlen]; exact Nat.le_of_not_lt hlt)
        rw [hdefault, hbeyond (Nat.le_of_not_lt hlt)]
    · have hin : j ∈ ns := by simpa [hjg] using hj
      rw [State.gen_modGen_other _ _ (Ne.symm hjg), hgens j hjg, h.anew j hin]
  · obtain ⟨hns, hjg⟩ : j ∉ ns ∧ j ≠ g := by simpa using hj
    rw [State.gen_modGen_other _ _ (Ne.symm hjg), hgens j hjg, h.others j hns]
  · show ({ u.par with gens := u.par.gens.modify g _ } : Paralleling) = _
    rw [hpar, h.par]
    simp only [Paralleling.mk.injEq, true_and, and_true, List.filter_filter, List.any_append, List.any_cons, List.any_nil, Bool.or_false]
    refine ⟨rfl, by simp only [Bool.or_assoc], List.filter_congr fun j _ => ?_⟩
    by_cases hjg : j = g
    · subst hjg
      simp [hnew]
    · simp [hjg]

theorem Renews.all (hbeyond : ∀ g, 8 ≤ g → powerOnGen w.mgmt.tables g = default) : ∀ (ms ns : List Nat) (t : State), Renews w ns t →
    (ns ++ ms).Nodup → (∀ g ∈ ms, (w.gen g).state ∈ [GenState.absent, .standby, .fault]) →
    Renews w (ns ++ ms) (t.forEach ms State.resetGen) := by
  intro ms
  induction ms with
  | nil => exact fun ns t h _ _ => by rw [List.append_nil]; exact h
  | cons g ms ih =>
    intro ns t h hnodup hmay
    have hsplit : ns ++ g :: ms = (ns ++ [g]) ++ ms := by simp
    have hnew : g ∉ ns := fun hg => by
      have := List.disjoint_of_nodup_append hnodup hg (List.mem_cons_self ..)
      exact this
    rw [hsplit] at hnodup ⊢
    exact ih _ _ (h.resetGen hnew (hmay g (List.mem_cons_self ..)) (hbeyond g)) hnodup fun j hj => hmay j (List.mem_cons_of_mem _ hj)

/-- Settles the sixth part of O49. -/
theorem commitActivatesGenerators : Clause.CommitActivatesGenerators := by
  intro s l q h hmay hchanged changed
  have hs : s.Quiet := h.1.1
  have hwgen : ∀ g, (s.rewindowed l q .generator).gen g = s.gen g := fun g => by cases l <;> rfl
  have hwpar : (s.rewindowed l q .generator).par = s.par := s.booked_par l q
  have hrenews : Renews (s.rewindowed l q .generator) changed
      ((s.rewindowed l q .generator).forEach changed State.resetGen) := by
    refine Renews.all (fun g hg => ?_) changed [] _ (.none (by rw [hwpar]; exact hs.gens_length)) (Clause.changed_nodup s _)
      fun g hg => by rw [hwgen]; exact hmay g hg
    have hzero : ∀ id, (s.rewindowed l q .generator).fld .generator g id = 0 := fun id =>
      State.written_fld_beyond (x := .generator) hs hg id
    show ({ params := ⟨(s.rewindowed l q .generator).fld .generator g 6, (s.rewindowed l q .generator).fld .generator g 7,
      (s.rewindowed l q .generator).fld .generator g 8, (s.rewindowed l q .generator).fld .generator g 9⟩ } : GenRec) = _
    rw [hzero, hzero, hzero, hzero]
    rfl
  have hactivating : s.activating l q .generator = (s.rewindowed l q .generator).forEach changed State.resetGen :=
    State.activating_changed hchanged
  have hgrows := State.rewindowed_grows (s := s) (l := l) (q := q) (x := .generator)
  have htouch := State.rewindowed_touches (s := s) (l := l) (q := q) (x := .generator) (ps := [.links, .events, .par, .mgmt])
  have hwmgmt : (s.rewindowed l q .generator).mgmt = { s.answered .done with tables := committedTables s .generator } :=
    State.written_mgmt hchanged
  have hwseq : (s.rewindowed l q .generator).seq = s.seq := s.booked_seq l q
  have hwwork : (s.rewindowed l q .generator).work = [] := State.written_work (x := .generator) hs
  have hwwindows : (s.rewindowed l q .generator).links.windows = rebuildWindows (namedAddresses
      (s.rewindowed l q .generator).mgmt.tables (s.rewindowed l q .generator).mgmt.configured) (s.booked l q).links.windows := rfl
  have hunchanged : ∀ g, g ∉ changed → (s.rewindowed l q .generator).genConfigured g = s.genConfigured g := fun g hg => by
    have hfld : (s.rewindowed l q .generator).fld .generator g 1 = s.fld .generator g 1 :=
      State.written_fld_unchanged (x := .generator) hs hg 1
    rw [State.genConfigured, hfld, State.genConfigured]
  generalize s.rewindowed l q .generator = w at *
  generalize w.forEach changed State.resetGen = v at *
  have ha : Activation [.links, .events, .par, .mgmt] l q .generator s v := by
    refine ⟨hrenews.mgmt.trans hwmgmt, hgrows.next hrenews.grows, htouch.trans hrenews.touches, fun _ =>
      ⟨hrenews.seq.trans hwseq, fun hn => absurd (by decide) hn⟩, fun y hy => ?_, fun j => ?_⟩
    · rw [hrenews.work, hwwork] at hy
      exact absurd hy List.not_mem_nil
    · by_cases hj : j ∈ changed
      · exact .inr (State.setpointOf_absent (by rw [hrenews.anew j hj]; rfl))
      · have hgen : v.gen j = s.gen j := (hrenews.others j hj).trans (hwgen j)
        have hconf : v.genConfigured j = s.genConfigured j := by
          rw [State.genConfigured, State.fld, hrenews.mgmt]
          exact hunchanged j hj
        exact .inl (by rw [State.setpointOf_eq, State.setpointOf_eq, hgen, hconf])
  obtain ⟨t, hend, hdone, hleaves, honly⟩ := ha.committed h (by decide) (by decide) hmay hactivating
  have htgen : ∀ g, t.gen g = v.gen g := fun g => by rw [State.gen, hleaves.par, State.gen]
  refine ⟨t, hend, hdone, hleaves.windowsFollow (l := l) ?_, fun g hg => ?_, fun g _ hg => ?_, ?_, honly⟩
  · rw [hrenews.windows, hwwindows, hrenews.mgmt]
  · rw [htgen, hrenews.anew g hg]
    have hfld : ∀ id, t.fld .generator g id = tableField w.mgmt.tables .generator g id := fun id => by
      rw [State.fld, hleaves.tables, hrenews.mgmt]
    rw [hfld, hfld, hfld, hfld]
    rfl
  · rw [htgen, hrenews.others g hg, hwgen]
  · rw [hleaves.par, hrenews.par, hwpar]
    simp only [hwgen]

end


end Sys2Proof.Machine
end

section
/-! # COMMIT of SOURCE, PLAN and AUTORULE -/

namespace Sys2Proof.Machine

section
variable {s t u v w : State} {l : Link} {q : Request} {x : TableId} {ps : List StatePart} {ns : List Nat}

/-- An activation that leaves the generators alone and may move the sequencer. -/
theorem Activation.moving (h : Clause.changed s x ≠ []) (hx : x ≠ .generator) (hmgmt : v.mgmt = (s.written l q x).mgmt)
    (hgrows : Grows [] (s.booked l q) v) (htouch : Touches (.seq :: ps) s v) (hgens : v.par.gens = s.par.gens)
    (hidle : ∀ w ∈ v.work, ∀ u : State, u.seq = v.seq → u.par = v.par → u.breakers = v.breakers →
      u.mgmt.tables = v.mgmt.tables → u.handle w = u) (hseq : .seq ∈ ps := by decide) : Activation ps l q x s v where
  mgmt := hmgmt.trans (State.written_mgmt h)
  grows := hgrows
  touches := htouch
  calm hn := absurd hseq hn
  idle := hidle
  setpoints j := by
    refine .inl (State.setpointOf_of_table (s := s) hgens ?_ j)
    rw [State.table, hmgmt]
    exact State.written_table hx.symm

/-! ### SOURCE (R121, R122, R142) -/

/-- The sources `ns` are UNVERIFIED, from `w`. -/
structure Unverifies (w : State) (ns : List Nat) (t : State) : Prop where
  mgmt : t.mgmt = w.mgmt
  seq : t.seq = { w.seq with sources := t.seq.sources }
  work : t.work = w.work
  par : t.par = w.par
  anew : ∀ x ∈ ns, t.source x = {}
  others : ∀ x, x ∉ ns → t.source x = w.source x
  grows : Grows [] w t
  touches : Touches [.seq, .links, .events, .seq, .mgmt] w t

theorem Unverifies.activateSource {x : Nat} (h : Unverifies w ns t) : Unverifies w (ns ++ [x]) (t.activateSource x) := by
  obtain ⟨u, hu⟩ : ∃ u, t.modSource x (fun _ => {}) = u := ⟨_, rfl⟩
  have hsame : (t.activateSource x).mgmt = u.mgmt ∧ (t.activateSource x).seq = u.seq ∧ (t.activateSource x).work = u.work ∧
      (t.activateSource x).par = u.par ∧ Grows [] u (t.activateSource x) ∧
      Touches [.seq, .links, .events, .seq, .mgmt] u (t.activateSource x) := by
    rw [State.activateSource, hu]
    split
    · exact ⟨rfl, rfl, rfl, rfl, .refl u, .refl _ u⟩
    · exact ⟨State.event_mgmt .., State.event_seq .., State.event_work .., State.event_par .., (Grows.refl u).event _ _ _ _ _,
        (Touches.refl _ u).event _ _ _ _ _⟩
  obtain ⟨hmgmt, hseq, hwork, hpar, hgrows, htouches⟩ := hsame
  have hsource : ∀ y, (t.activateSource x).source y = u.source y := fun y => by rw [State.source, hseq, State.source]
  have hugrows : Grows [] t u := hu ▸ (Grows.refl t).same
  have hutouches : Touches [.seq, .links, .events, .seq, .mgmt] t u := hu ▸ (Touches.refl _ t).modSource x _
  refine ⟨hmgmt.trans ?_, ?_, hwork.trans ?_, hpar.trans ?_, fun y hy => ?_, fun y hy => ?_, h.grows.next (hugrows.next hgrows),
    h.touches.trans (hutouches.trans htouches)⟩
  · rw [← hu]; exact h.mgmt
  · rw [hseq, ← hu]
    show ({ t.seq with sources := _ } : Sequencer) = _
    rw [h.seq]
    rfl
  · rw [← hu]; exact h.work
  · rw [← hu]; exact h.par
  · rw [hsource, ← hu]
    by_cases hyx : y = x
    · subst hyx
      by_cases hlt : y < t.seq.sources.length
      · exact State.source_modSource_same _ _ hlt
      · have hdefault : (t.modSource y (fun _ => {})).source y = default := List.getD_eq_default _ _ (by
          show (t.seq.sources.modify y _).length ≤ y
          rw [List.length_modify]; exact Nat.le_of_not_lt hlt)
        rw [hdefault]
        rfl
    · have hin : y ∈ ns := by simpa [hyx] using hy
      rw [State.source_modSource_other _ _ (Ne.symm hyx), h.anew y hin]
  · obtain ⟨hns, hyx⟩ : y ∉ ns ∧ y ≠ x := by simpa using hy
    rw [hsource, ← hu, State.source_modSource_other _ _ (Ne.symm hyx), h.others y hns]

theorem Unverifies.all : ∀ (ms ns : List Nat) (t : State), Unverifies w ns t →
    Unverifies w (ns ++ ms) (t.forEach ms State.activateSource) := by
  intro ms
  induction ms with
  | nil => exact fun ns t h => by rw [List.append_nil]; exact h
  | cons x ms ih =>
    intro ns t h
    have hsplit : ns ++ x :: ms = (ns ++ [x]) ++ ms := by simp
    rw [hsplit]
    exact ih _ _ h.activateSource

theorem commitActivatesSources (h : Clause.CommitPasses s l q .source) (hchanged : Clause.changed s .source ≠ [])
    (hrest : Clause.atRest s) : ∃ t, exec (.commit l q) s = .next t ∧ Clause.Committed s t q .source ∧
      t.seq = { s.seq with sources := t.seq.sources } ∧ Only [.links, .events, .seq, .mgmt] s t ∧
      ∀ x < 3, t.source x = if x ∈ Clause.changed s .source then {} else s.source x := by
  have hs : s.Quiet := h.1.1
  have hall : Unverifies (s.written l q .source) (Clause.changed s .source)
      ((s.written l q .source).forEach (Clause.changed s .source) State.activateSource) :=
    Unverifies.all _ [] _ ⟨rfl, rfl, rfl, rfl, fun _ hx => absurd hx List.not_mem_nil, fun _ _ => rfl, .refl _, .refl _ _⟩
  have hactivating : s.activating l q .source = (s.written l q .source).forEach (Clause.changed s .source) State.activateSource :=
    State.activating_changed hchanged
  have hwork : (s.written l q .source).work = [] := State.written_work (x := .source) hs
  have hseq : (s.written l q .source).seq = s.seq := s.booked_seq l q
  have hpar : (s.written l q .source).par = s.par := s.booked_par l q
  have hsource : ∀ x, (s.written l q .source).source x = s.source x := fun x => by rw [State.source, hseq, State.source]
  have ha : Activation [.links, .events, .seq, .mgmt] l q .source s
      ((s.written l q .source).forEach (Clause.changed s .source) State.activateSource) := by
    refine .moving hchanged (by decide) hall.mgmt ?_ (Touches.trans State.written_touches hall.touches) (by rw [hall.par, hpar]) fun y hy => ?_
    · exact ((Grows.refl (s.booked l q)).same (u := s.written l q .source)).next hall.grows
    · rw [hall.work, hwork] at hy
      exact absurd hy List.not_mem_nil
  obtain ⟨t, hend, hdone, hleaves, honly⟩ := ha.committed h (by decide) (by decide) (.inr hrest) hactivating
  refine ⟨t, hend, hdone, ?_, honly, fun x _ => ?_⟩
  · rw [hleaves.seq, hall.seq, hseq]
  · rw [State.source, hleaves.seq, ← State.source]
    split
    · next hx => exact hall.anew x hx
    · next hx => exact (hall.others x hx).trans (hsource x)

/-! ### PLAN and AUTORULE (R142) -/

theorem commitEmptiesTheSlot (hx : x = .plan ∨ x = .autorule) (h : Clause.CommitPasses s l q x) (hchanged : Clause.changed s x ≠ [])
    (hrest : Clause.atRest s) : ∃ t, exec (.commit l q) s = .next t ∧ Clause.Committed s t q x ∧
      t.seq = { s.seq with slot := none } ∧ Only [.links, .events, .seq, .mgmt] s t ∧
      ∀ a, s.seq.slot = some a → ∃ e ∈ t.events.records, (e.cls, e.priority, e.object, e.code) = (EventClass.transfer, 7, a.rule, 10) := by
  have hs : s.Quiet := h.1.1
  have hactivating : s.activating l q x = (s.written l q x).emptySlot := by
    rw [State.activating_changed hchanged]
    obtain rfl | rfl := hx <;> rfl
  have hwork : (s.written l q x).work = [] := State.written_work hs
  have hseq : (s.written l q x).seq = s.seq := s.booked_seq l q
  have hpar : (s.written l q x).par = s.par := s.booked_par l q
  have hgrows : Grows [] (s.booked l q) (s.written l q x) := (Grows.refl (s.booked l q)).same
  have htouch : Touches [.seq, .links, .events, .seq, .mgmt] s (s.written l q x) := State.written_touches
  have hmgmt : (s.written l q x).mgmt = (s.written l q x).mgmt := rfl
  have hempties : (s.written l q x).emptySlot.mgmt = (s.written l q x).mgmt ∧ (s.written l q x).emptySlot.work = [] ∧
      (s.written l q x).emptySlot.par = s.par ∧ (s.written l q x).emptySlot.seq = { s.seq with slot := none } ∧
      Grows [] (s.booked l q) (s.written l q x).emptySlot ∧
      Touches [.seq, .links, .events, .seq, .mgmt] s (s.written l q x).emptySlot ∧
      ∀ a, s.seq.slot = some a → ∃ r, (s.written l q x).emptySlot.Recent 1 r ∧
        (r.cls, r.priority, r.object, r.code) = (EventClass.transfer, 7, a.rule, 10) := by
    generalize s.written l q x = w at *
    rw [State.emptySlot]
    cases hslot : w.seq.slot with
    | none =>
      refine ⟨rfl, hwork, hpar, ?_, hgrows, htouch, fun a ha => ?_⟩
      · show w.seq = _
        rw [hseq] at hslot ⊢
        rw [← hslot]
      · rw [← hseq, hslot] at ha
        exact absurd ha (by simp)
    | some a =>
      refine ⟨State.event_mgmt .., (State.event_work ..).trans hwork, (State.event_par ..).trans hpar, ?_,
        (hgrows.same (u := w.modSeq fun q => { q with slot := none })).event _ _ _ _ _, (htouch.modSeq _).event _ _ _ _ _,
        fun b hb => ⟨_, State.event_recent .., ?_⟩⟩
      · rw [State.event_seq, ← hseq]
        rfl
      · rw [← hseq, hslot] at hb
        obtain rfl := Option.some.inj hb
        rfl
  obtain ⟨hemgmt, hework, hepar, heseq, hegrows, hetouch, hrecent⟩ := hempties
  have ha : Activation [.links, .events, .seq, .mgmt] l q x s (s.written l q x).emptySlot :=
    .moving hchanged (by obtain rfl | rfl := hx <;> decide) hemgmt hegrows hetouch (by rw [hepar]) fun y hy =>
      absurd (hework ▸ hy) List.not_mem_nil
  obtain ⟨t, hend, hdone, hleaves, honly⟩ := ha.committed h (by obtain rfl | rfl := hx <;> decide)
    (by obtain rfl | rfl := hx <;> decide) (by obtain rfl | rfl := hx <;> exact .inr hrest) hactivating
  refine ⟨t, hend, hdone, hleaves.seq.trans heseq, honly, fun a ha => ?_⟩
  obtain ⟨r, hr, hfields⟩ := hrecent a ha
  obtain ⟨e, he, heq⟩ := (hleaves.recent 1 (by decide) r hr).held
  exact ⟨e, he, heq.trans hfields⟩

end


end Sys2Proof.Machine
end

section
/-! # COMMIT of LINEUP -/

namespace Sys2Proof.Machine

section
variable {s t u v w : State} {l : Link} {q : Request} {x : TableId} {ps : List StatePart} {ns : List Nat}

/-! ### LINEUP (R124, R125, R142) -/

/-- What the line-up found anew moves. -/
structure FollowsLineup (w u : State) : Prop where
  mgmt : u.mgmt = w.mgmt
  par : u.par = w.par
  breakers : u.breakers = w.breakers
  work : ∀ y ∈ u.work, y ∈ w.work ∨ ∃ k, y = .idleEntered k
  grows : Grows [] w u
  touches : Touches [.seq, .links, .events, .seq, .mgmt] w u

theorem FollowsLineup.trans (h : FollowsLineup w u) (k : FollowsLineup u v) : FollowsLineup w v where
  mgmt := k.mgmt.trans h.mgmt
  par := k.par.trans h.par
  breakers := k.breakers.trans h.breakers
  work y hy := (k.work y hy).elim (h.work y) .inr
  grows := h.grows.next k.grows
  touches := h.touches.trans k.touches

theorem State.refreshLineup_follows (w : State) : FollowsLineup w w.refreshLineup := by
  have hnoted : Grows [] w w.lineupNoted := (Grows.refl w).same
  refine ⟨State.refreshLineup_mgmt, State.refreshLineup_par, ?_, fun y hy => .inl (State.refreshLineup_work ▸ hy), ?_,
    (Touches.refl _ w).refreshLineup⟩
  · rw [State.refreshLineup_eq]
    split
    · rfl
    · exact State.event_breakers ..
  · rw [State.refreshLineup_eq]
    exact .ite hnoted (hnoted.event _ _ _ _ _)

theorem State.setSeqState_follows (w : State) (x : SeqState) : FollowsLineup w (w.setSeqState x) :=
  ⟨rfl, rfl, rfl, fun _ hy => .inl hy, (Grows.refl w).same, (Touches.refl _ w).setSeqState x⟩

theorem State.post_follows (w : State) (k : Nat) : FollowsLineup w (w.post (.idleEntered k)) :=
  ⟨rfl, rfl, rfl, fun y hy => (List.mem_append.1 hy).imp_right fun h => ⟨k, List.mem_singleton.1 h⟩, (Grows.refl w).same,
    (Touches.refl _ w).post _⟩

theorem State.goLineup_follows (hl : w.lines.lockout = false) : FollowsLineup w w.goLineup ∧
    w.goLineup.seq = { w.seq with state := w.seq.lineup.state } := by
  cases hn : w.seq.lineup with
  | unknown =>
    rw [State.goLineup_unknown hl hn]
    exact ⟨w.setSeqState_follows _, rfl⟩
  | none =>
    have hgo : w.goLineup = w.setSeqState .noLineup := by
      rw [State.goLineup, if_neg (by simp [hl]), hn]
    rw [hgo]
    exact ⟨w.setSeqState_follows _, rfl⟩
  | is k =>
    by_cases hk : w.seq.state = .idle k
    · rw [State.goLineup_idle hl hn hk]
      refine ⟨⟨rfl, rfl, rfl, fun _ hy => .inl hy, .refl w, .refl _ w⟩, ?_⟩
      show w.seq = { w.seq with state := .idle k }
      rw [← hk]
    · rw [State.goLineup_is hl hn hk]
      exact ⟨(w.setSeqState_follows _).trans (State.post_follows _ k), rfl⟩

/-- The sequencer follows the line-up found anew, unless it is HALTED. -/
theorem State.followLineup_follows (hl : w.lines.lockout = false) (hrest : Clause.atRest w) : FollowsLineup w w.followLineup ∧
    w.followLineup.seq = { w.seq with
      lineup := w.findLineup
      lineupDue := false
      state := match w.seq.state with
        | .halted z => .halted z
        | _ => w.findLineup.state } := by
  have hrefresh := w.refreshLineup_follows
  have hseq := State.refreshLineup_seq (s := w)
  have hlines := State.refreshLineup_lines (s := w)
  have hgo := State.goLineup_follows (w := w.refreshLineup) (by rw [hlines]; exact hl)
  have hfollows : w.refreshLineup.seq.state = w.seq.state := by rw [hseq]
  rw [hseq] at hgo
  have hfollow : w.followLineup = if w.seq.state.follows then w.refreshLineup.goLineup else w.refreshLineup := by
    rw [← hfollows]
    rfl
  obtain h | h | ⟨k, h⟩ | ⟨z, h⟩ := hrest
  · rw [hfollow, h]
    exact ⟨hrefresh.trans hgo.1, hgo.2⟩
  · rw [hfollow, h]
    exact ⟨hrefresh.trans hgo.1, hgo.2⟩
  · rw [hfollow, h]
    exact ⟨hrefresh.trans hgo.1, hgo.2⟩
  · rw [hfollow, h]
    refine ⟨hrefresh, hseq.trans ?_⟩
    dsimp only
    rw [← h]

theorem State.findLineup_congr (hm : t.mgmt.tables = w.mgmt.tables) (hb : t.breakers = w.breakers) : t.findLineup = w.findLineup := by
  unfold State.findLineup State.lineupMatches State.pairMatches State.fld State.brk
  rw [hm, hb]

theorem commitFollowsTheLineup (h : Clause.CommitPasses s l q .lineup) (hchanged : Clause.changed s .lineup ≠ [])
    (hrest : Clause.atRest s) (hl : s.lines.lockout = false) (hauto : s.seq.autoEffective = false) (hslot : s.seq.slot = none) :
    ∃ t, exec (.commit l q) s = .next t ∧ Clause.Committed s t q .lineup ∧ t.seq = { s.seq with
      lineup := t.findLineup
      lineupDue := false
      state := match s.seq.state with
        | .halted z => .halted z
        | _ => t.findLineup.state } ∧ Only [.links, .events, .seq, .mgmt] s t := by
  have hs : s.Quiet := h.1.1
  have hactivating : s.activating l q .lineup = (s.written l q .lineup).followLineup := State.activating_changed hchanged
  have hwork : (s.written l q .lineup).work = [] := State.written_work (x := .lineup) hs
  have hseq : (s.written l q .lineup).seq = s.seq := s.booked_seq l q
  have hpar : (s.written l q .lineup).par = s.par := s.booked_par l q
  have hlines : (s.written l q .lineup).lines = s.lines := s.booked_lines l q
  have hgrows : Grows [] (s.booked l q) (s.written l q .lineup) := (Grows.refl (s.booked l q)).same
  have htouch : Touches [.seq, .links, .events, .seq, .mgmt] s (s.written l q .lineup) := State.written_touches
  have hrest' : Clause.atRest (s.written l q .lineup) := by rw [Clause.atRest, hseq]; exact hrest
  obtain ⟨hfollows, hfollowed⟩ := State.followLineup_follows (w := s.written l q .lineup) (by rw [hlines]; exact hl) hrest'
  have ha : Activation [.links, .events, .seq, .mgmt] l q .lineup s (s.written l q .lineup).followLineup := by
    refine .moving hchanged (by decide) hfollows.mgmt (hgrows.next hfollows.grows) (htouch.trans hfollows.touches)
      (by rw [hfollows.par, hpar]) fun y hy u hu _ _ _ => ?_
    obtain hy | ⟨k, rfl⟩ := hfollows.work y hy
    · exact absurd (hwork ▸ hy) List.not_mem_nil
    · have huslot : u.seq.slot = none := by rw [hu, hfollowed, hseq]; exact hslot
      have huauto : u.seq.autoEffective = false := by rw [hu, hfollowed, hseq]; exact hauto
      show u.enteredIdle k = u
      rw [State.enteredIdle, huslot]
      split
      · rfl
      · exact State.evaluateRules_off huauto
  obtain ⟨t, hend, hdone, hleaves, honly⟩ := ha.committed h (by decide) (by decide) (.inr hrest) hactivating
  have hfind : t.findLineup = (s.written l q .lineup).findLineup :=
    State.findLineup_congr (hleaves.tables.trans (by rw [hfollows.mgmt])) (hleaves.breakers.trans hfollows.breakers)
  refine ⟨t, hend, hdone, ?_, honly⟩
  rw [hfind, hleaves.seq, hfollowed, hseq]

/-- Settles the seventh part of O49. -/
theorem commitActivatesTheSequencer : Clause.CommitActivatesTheSequencer := by
  intro s l q x h hchanged hrest commits
  refine ⟨fun hx => ?_, fun hx => ?_, fun hx hl hauto hslot => ?_⟩
  · subst hx
    obtain ⟨t, hend, hdone, hseq, honly, hsources⟩ := commitActivatesSources h hchanged hrest
    exact ⟨⟨t, hend, hdone, hseq, honly⟩, t, hend, hsources⟩
  · obtain ⟨t, hend, hdone, hseq, honly, hdiscarded⟩ := commitEmptiesTheSlot hx h hchanged hrest
    exact ⟨⟨t, hend, hdone, hseq, honly⟩, t, hend, hdiscarded⟩
  · subst hx
    obtain ⟨t, hend, hdone, hseq, honly⟩ := commitFollowsTheLineup h hchanged hrest hl hauto hslot
    refine ⟨t, hend, hdone, fun hunknown => ?_, fun hknown k hk hd hm hlow => ?_, fun hknown hno => ?_, honly⟩
    · rw [State.findLineup_unknown hunknown] at hseq
      exact hseq
    · rw [State.findLineup_is hknown hk ⟨hd, hm⟩ hlow] at hseq
      exact hseq
    · rw [State.findLineup_none hknown hno] at hseq
      exact hseq

end


end Sys2Proof.Machine
end

section
/-! # COMMIT of BREAKER: one entry -/

namespace Sys2Proof.Machine

section
variable {s t u v w : State} {l : Link} {q : Request} {ps : List StatePart} {ns : List Nat} {b : Nat} {r : BreakerRec}

/-! ### BREAKER (R115, R117): one breaker's record -/

/-- The parts that a BREAKER activation touches. -/
def breakerParts : List StatePart := [.seq, .links, .events, .breakers, .seq, .mgmt]

/-- A change of position of breaker `b` to UNKNOWN, as it is handed on. -/
def Work.lost (b : Nat) : Work → Prop
  | .genPosition c _ new _ _ => c = b ∧ new = .unknown
  | .seqPosition c => c = b
  | _ => False

/-- Nothing follows where the position is UNKNOWN still, no generator has a load and no plan runs. -/
theorem State.handle_lost {y : Work} (hy : y.lost b) (hp : (s.brk b).position = .unknown) (hrun : s.run? = none)
    (hg : ∀ g < 8, (s.gen g).state.loaded = false) : State.handle s y = s := by
  cases y with
  | genPosition c old new own tripped =>
    obtain ⟨rfl, rfl⟩ := hy
    show s.genMoved c old .unknown own tripped = s
    rw [State.genMoved]
    split
    · rfl
    · next g hof =>
      have hlt : g < 8 := List.mem_range.1 (List.mem_of_find?_eq_some hof)
      have hown : s.genBreaker g = c := by
        have := List.find?_some hof
        simp only [Bool.and_eq_true, beq_iff_eq] at this
        exact this.2
      have hafter : s.afterExchange g = s := by
        rw [State.afterExchange, State.settleNegotiated, State.genPosition, hown, hp]
        exact ite_self s
      have hleft : s.genLeftClosed g own tripped = s := by
        rw [State.genLeftClosed, hg g hlt]
        rfl
      rw [hafter, hleft, if_neg (c := ((s.gen g).state == .stopping && Position.unknown == .opened) = true) (by simp),
        if_neg (c := (Position.unknown == .closed) = true) (by decide), ite_self, ite_self]
  | seqPosition c =>
    show s.seqMoved c = s
    rw [State.seqMoved, hrun]
  | _ => exact hy.elim

/-- From `t` to `t'` the record of breaker `b` becomes `r`, and a position that becomes UNKNOWN is handed on. -/
structure Recasts (b : Nat) (r : BreakerRec) (t t' : State) : Prop where
  own : t'.brk b = r
  others : ∀ a, a ≠ b → t'.brk a = t.brk a
  length : t'.breakers.recs.length = t.breakers.recs.length
  trips : ∀ m ∈ r.trips, m ∈ (t.brk b).trips
  mgmt : t'.mgmt = t.mgmt
  par : t'.par = t.par
  windows : t'.links.windows = t.links.windows
  seq : t'.seq = { t.seq with lineupDue := t.seq.lineupDue ||
    (decide (b ∈ watchedBreakers t.mgmt.tables) && r.position != (t.brk b).position) }
  work : ∀ y ∈ t'.work, y ∈ t.work ∨ y.lost b ∧ r.position = .unknown
  grows : Grows [] t t'
  touches : Touches breakerParts t t'

theorem Recasts.refl (b : Nat) (t : State) : Recasts b (t.brk b) t t := by
  refine ⟨rfl, fun _ _ => rfl, rfl, fun _ h => h, rfl, rfl, rfl, ?_, fun _ h => .inl h, .refl t, .refl _ t⟩
  rw [bne_self_eq_false, Bool.and_false, Bool.or_false]

/-- A change of the record that leaves the position. -/
theorem Recasts.modBrk (h : Recasts b r t u) (hb : b < t.breakers.recs.length) (f : BreakerRec → BreakerRec)
    (hp : (f r).position = r.position) (htrips : ∀ m ∈ (f r).trips, m ∈ r.trips) : Recasts b (f r) t (u.modBrk b f) where
  own := by rw [State.brk_modBrk_same _ _ (h.length.symm ▸ hb), h.own]
  others a ha := (State.brk_modBrk_other _ _ (Ne.symm ha)).trans (h.others a ha)
  length := (List.length_modify ..).trans h.length
  trips m hm := h.trips m (htrips m hm)
  mgmt := h.mgmt
  par := h.par
  windows := h.windows
  seq := by
    rw [hp]
    exact h.seq
  work y hy := by
    rw [hp]
    exact h.work y hy
  grows := h.grows.same
  touches := h.touches.modBrk b f (by decide)

/-- A record whose position is UNKNOWN. -/
def BreakerRec.lost (r : BreakerRec) : BreakerRec := { r with position := .unknown, candidate := none }

theorem State.losePosition_unknown (h : (t.brk b).position = .unknown) : t.losePosition b = t.modBrk b BreakerRec.lost := by
  rw [State.losePosition]
  exact if_pos (by rw [h]; rfl)

theorem Recasts.lose (hb : b < 24) (hlen : t.breakers.recs.length = 24) :
    Recasts b (t.brk b).lost t (t.losePosition b) := by
  have hb' : b < t.breakers.recs.length := hlen.symm ▸ hb
  have hloses := State.losePosition_loses hb t
  have hbrk : ∀ a, (t.losePosition b).brk a = (t.modBrk b BreakerRec.lost).brk a := fun a => by
    rw [State.brk, hloses.breakers]
    rfl
  refine ⟨by rw [hbrk, State.brk_modBrk_same _ _ hb'], fun a ha => by rw [hbrk, State.brk_modBrk_other _ _ (Ne.symm ha)], ?_,
    fun _ h => h, hloses.mgmt, hloses.par, ?_, ?_, fun y hy => ?_, ?_, ?_⟩
  · rw [hloses.breakers]
    exact List.length_modify ..
  · by_cases h : (t.brk b).position = .unknown
    · rw [State.losePosition_unknown h]
      rfl
    · rw [State.losePosition, if_neg (by simpa using h), State.positionMoved]
      split <;> rfl
  · rw [hloses.seq, bne_comm]
    rfl
  · by_cases h : (t.brk b).position = .unknown
    · rw [State.losePosition_unknown h] at hy
      exact .inl hy
    · rw [State.losePosition, if_neg (by simpa using h), State.positionMoved, State.post_work, State.post_work] at hy
      have hwork : ∀ v : State, (if (watchedBreakers v.mgmt.tables).contains b then
          v.modSeq (fun q => { q with lineupDue := true }) else v).work = v.work := fun v => by split <;> rfl
      rw [hwork] at hy
      simp only [List.append_assoc, List.mem_append, List.cons_append, List.nil_append, List.mem_cons,
        List.not_mem_nil, or_false] at hy
      obtain hy | rfl | rfl := hy
      · exact .inl hy
      · exact .inr ⟨⟨rfl, rfl⟩, rfl⟩
      · exact .inr ⟨rfl, rfl⟩
  · exact (Grows.refl t).work (State.losePosition_evolves b .refl)
  · by_cases h : (t.brk b).position = .unknown
    · rw [State.losePosition_unknown h]
      exact (Touches.refl _ t).modBrk b _ (by decide)
    · rw [State.losePosition, if_neg (by simpa using h), State.positionMoved]
      have hlost : Touches breakerParts t (t.modBrk b fun r => { r with position := .unknown, candidate := none }) :=
        (Touches.refl _ t).modBrk b _ (by decide)
      exact ((Touches.ite (hlost.modSeq _ (by decide)) hlost).post _ (by decide)).post _ (by decide)

theorem Recasts.loseAgain (h : Recasts b r t u) (hb : b < t.breakers.recs.length) (hp : r.position = .unknown) :
    Recasts b r.lost t (u.losePosition b) := by
  rw [State.losePosition_unknown (by rw [h.own, hp])]
  exact h.modBrk hb _ hp.symm fun _ h => h

/-! ### One entry (R115, R117) -/

/-- The entry stops being configured. -/
def Clause.unconfigures (s w : State) (b : Nat) : Prop := s.fld .breaker b 1 = 1 ∧ w.fld .breaker b 1 ≠ 1

/-- What the activation of one breaker's entry does, from `t` on. -/
structure BreakerTurn (s w : State) (b : Nat) (t t' : State) : Prop where
  recasts : Recasts b (Clause.activated s w b) t t'
  recent : ∀ n < 128, ∀ r, t.Recent n r → t'.Recent (n + 1) r
  resets : (s.brk b).bf ≠ .idle → Clause.unconfigures s w b → ∃ r, t'.Recent 1 r ∧
    (r.cls, r.priority, r.object, r.code) = (EventClass.breaker, 9, b, 9)
  backups : (s.brk b).bf = .backupIssued → Clause.unconfigures s w b → ∀ a < 24, .backup b ∈ (t.brk a).trips →
    ⟨false, a, .backup b⟩ ∈ t'.breakers.requests
  requests : (s.brk b).bf ≠ .backupIssued → t'.breakers.requests = t.breakers.requests

theorem State.Recent.mono {n m : Nat} {r : EventRecord} (h : t.Recent n r) (hnm : n ≤ m) : t.Recent m r :=
  List.take_subset_take_left _ hnm h

theorem State.losePosition_events (b : Nat) (t : State) : (t.losePosition b).events = t.events ∧
    (t.losePosition b).breakers.requests = t.breakers.requests := by
  rw [State.losePosition]
  split
  · exact ⟨rfl, rfl⟩
  · rw [State.positionMoved]
    split <;> exact ⟨rfl, rfl⟩

/-- A turn that records nothing and asks for nothing. -/
theorem BreakerTurn.plain (h : Recasts b (Clause.activated s w b) t u) (he : u.events = t.events)
    (hr : u.breakers.requests = t.breakers.requests) (hn : (s.brk b).bf ≠ .idle → ¬ Clause.unconfigures s w b) :
    BreakerTurn s w b t u where
  recasts := h
  recent n _ r hrec := (hrec.same he).mono (Nat.le_succ n)
  resets hbf hun := absurd hun (hn hbf)
  backups hbf hun := absurd hun (hn (by rw [hbf]; decide))
  requests _ := hr

/-- What leaves the records and hands on nothing. -/
theorem Recasts.still (h : Recasts b r t u) (hrecs : v.breakers.recs = u.breakers.recs) (hm : v.mgmt = u.mgmt) (hp : v.par = u.par)
    (hw : v.links.windows = u.links.windows) (hs : v.seq = u.seq) (hwork : v.work = u.work) (hg : Grows [] u v)
    (ht : Touches breakerParts u v) : Recasts b r t v := by
  have hbrk : ∀ a, v.brk a = u.brk a := fun a => by rw [State.brk, hrecs, State.brk]
  exact ⟨(hbrk b).trans h.own, fun a ha => (hbrk a).trans (h.others a ha), (congrArg List.length hrecs).trans h.length, h.trips,
    hm.trans h.mgmt, hp.trans h.par, hw.trans h.windows, hs.trans h.seq, fun y hy => h.work y (hwork ▸ hy), h.grows.next hg,
    h.touches.trans ht⟩

/-- BF ends with the entry. -/
theorem BreakerTurn.resetBf (h : Recasts b r t u) (hb : b < t.breakers.recs.length) (hbf : r.bf = (s.brk b).bf)
    (hr : u.breakers.requests = t.breakers.requests) (he : u.events = t.events) (hown : Clause.activated s w b = r.bfEnded)
    (htrips : ∀ a < 24, .backup b ∈ (t.brk a).trips → .backup b ∈ (u.brk a).trips) : BreakerTurn s w b t (u.resetBf b) := by
  have hcleared : Recasts b (Clause.activated s w b) t (u.modBrk b BreakerRec.bfEnded) := by
    rw [hown]
    exact h.modBrk hb _ rfl fun m hm => hm
  have hissued : (u.brk b).bf = (s.brk b).bf := by rw [h.own, hbf]
  have hasked : Recasts b (Clause.activated s w b) t ((u.modBrk b BreakerRec.bfEnded).asking (u.backupLeaves b)) :=
    hcleared.still rfl rfl rfl rfl rfl rfl
      ⟨fun _ hq => List.mem_append_left _ hq, fun _ _ hx _ => hx, fun _ => rfl, fun _ => List.prefix_rfl⟩
      ((Touches.refl _ _).breakers _ (by decide))
  have hevents : ((u.modBrk b BreakerRec.bfEnded).asking (u.backupLeaves b)).events = t.events := he
  rw [State.resetBf_eq]
  refine ⟨?_, fun n hn x hx => ?_, fun _ _ => ⟨_, State.event_recent .., rfl⟩, fun hb _ a ha hat => ?_, fun hb => ?_⟩
  · rw [State.bfReset]
    generalize (u.modBrk b BreakerRec.bfEnded).asking (u.backupLeaves b) = z at *
    exact hasked.still (by rw [State.event_breakers]) (State.event_mgmt ..) (State.event_par ..) (State.event_windows ..)
      (State.event_seq ..) (State.event_work ..) ((Grows.refl z).event _ _ _ _ _)
      ((Touches.refl _ z).event _ _ _ _ _ (by decide) (by decide))
  · exact (hx.same hevents).event hn _ _ _ _ _
  · rw [State.bfReset_requests, State.backupLeaves, if_pos (hissued.trans hb)]
    refine List.mem_append_right _ (List.mem_map_of_mem (List.mem_filter.2 ⟨List.mem_range.2 ha, ?_⟩))
    rw [List.contains_iff_mem.2 (htrips a ha hat), Bool.true_or]
  · rw [State.bfReset_requests, State.backupLeaves, if_neg (by rw [hissued]; exact hb), List.append_nil, hr]

theorem Entry.get_fld (hm : t.mgmt = w.mgmt) (b id : Nat) : Entry.get ((t.table .breaker).getD b []) id = w.fld .breaker b id := by
  rw [State.table, hm]
  rfl

/-- The turn of an entry that stays configured. -/
theorem State.reconfigured_turn (hb : b < t.breakers.recs.length) (hlost : Recasts b (t.brk b).lost t (t.losePosition b))
    (hevents : (t.losePosition b).events = t.events) (hrequests : (t.losePosition b).breakers.requests = t.breakers.requests)
    (hplain : ∀ v, Recasts b (Clause.activated s w b) t v → v.events = t.events → v.breakers.requests = t.breakers.requests →
      BreakerTurn s w b t v) (hbrk : t.brk b = s.brk b) (hun : ¬ (s.fld .breaker b 1 = 1 ∧ w.fld .breaker b 1 ≠ 1))
    (hnewly : ¬ (s.fld .breaker b 1 ≠ 1 ∧ w.fld .breaker b 1 = 1)) (his : w.fld .breaker b 1 = 1) :
    BreakerTurn s w b t
      (let v := if s.fld .breaker b 2 != w.fld .breaker b 2 || s.fld .breaker b 3 != w.fld .breaker b 3 then
          (t.losePosition b).modBrk b (fun r => { r with unresponsive := false })
        else t
      if s.fld .breaker b 21 == 0 && w.fld .breaker b 21 == 1 then
        v.modBrk b (fun r => { r with fieldPosition := .unknown, fieldCandidate := none })
      else if s.fld .breaker b 21 == 1 && w.fld .breaker b 21 == 0 then v.losePosition b
      else v) := by
  have hcleared : Recasts b { (t.brk b).lost with unresponsive := false } t
      ((t.losePosition b).modBrk b (fun r => { r with unresponsive := false })) :=
    hlost.modBrk hb (fun r => { r with unresponsive := false }) rfl fun m hm => hm
  have hact : Clause.activated s w b =
      let moved := s.fld .breaker b 2 ≠ w.fld .breaker b 2 ∨ s.fld .breaker b 3 ≠ w.fld .breaker b 3
      let isolates := s.fld .breaker b 21 = 0 ∧ w.fld .breaker b 21 = 1
      let returns := s.fld .breaker b 21 = 1 ∧ w.fld .breaker b 21 = 0
      { t.brk b with
        position := if moved ∨ returns then .unknown else (t.brk b).position
        candidate := if moved ∨ returns then none else (t.brk b).candidate
        unresponsive := if moved then false else (t.brk b).unresponsive
        fieldPosition := if isolates then .unknown else (t.brk b).fieldPosition
        fieldCandidate := if isolates then none else (t.brk b).fieldCandidate } := by
    rw [hbrk]
    unfold Clause.activated
    dsimp only
    rw [if_neg hun, if_neg hnewly, if_pos his]
  dsimp only at hact ⊢
  by_cases hmoved : s.fld .breaker b 2 ≠ w.fld .breaker b 2 ∨ s.fld .breaker b 3 ≠ w.fld .breaker b 3
  · have hm : (s.fld .breaker b 2 != w.fld .breaker b 2 || s.fld .breaker b 3 != w.fld .breaker b 3) = true := by simpa using hmoved
    simp only [hm, if_true]
    simp only [if_pos hmoved, if_pos (Or.inl hmoved : _ ∨ (s.fld .breaker b 21 = 1 ∧ w.fld .breaker b 21 = 0))] at hact
    by_cases hisolates : s.fld .breaker b 21 = 0 ∧ w.fld .breaker b 21 = 1
    · rw [if_pos (by simpa using hisolates)]
      rw [if_pos hisolates, if_pos hisolates] at hact
      refine hplain _ ?_ hevents hrequests
      rw [hact]
      exact hcleared.modBrk hb (fun r => { r with fieldPosition := .unknown, fieldCandidate := none }) rfl fun m hm => hm
    · rw [if_neg (by simpa using hisolates)]
      rw [if_neg hisolates, if_neg hisolates] at hact
      by_cases hreturns : s.fld .breaker b 21 = 1 ∧ w.fld .breaker b 21 = 0
      · rw [if_pos (by simpa using hreturns)]
        obtain ⟨hagainEvents, hagainRequests⟩ := State.losePosition_events b
          ((t.losePosition b).modBrk b (fun r => { r with unresponsive := false }))
        refine hplain _ ?_ (hagainEvents.trans hevents) (hagainRequests.trans hrequests)
        rw [hact]
        exact hcleared.loseAgain hb rfl
      · rw [if_neg (by simpa using hreturns)]
        refine hplain _ ?_ hevents hrequests
        rw [hact]
        exact hcleared
  · have hm : (s.fld .breaker b 2 != w.fld .breaker b 2 || s.fld .breaker b 3 != w.fld .breaker b 3) = false := by simpa using hmoved
    simp only [hm, Bool.false_eq_true, if_false]
    simp only [if_neg hmoved] at hact
    by_cases hisolates : s.fld .breaker b 21 = 0 ∧ w.fld .breaker b 21 = 1
    · rw [if_pos (by simpa using hisolates)]
      have hno : ¬ (s.fld .breaker b 21 = 1 ∧ w.fld .breaker b 21 = 0) := fun h => by omega
      simp only [if_pos hisolates, if_neg (not_or.2 ⟨hmoved, hno⟩)] at hact
      refine hplain _ ?_ rfl rfl
      rw [hact]
      exact (Recasts.refl b t).modBrk hb (fun r => { r with fieldPosition := .unknown, fieldCandidate := none }) rfl fun m hm => hm
    · rw [if_neg (by simpa using hisolates)]
      rw [if_neg hisolates, if_neg hisolates] at hact
      by_cases hreturns : s.fld .breaker b 21 = 1 ∧ w.fld .breaker b 21 = 0
      · rw [if_pos (by simpa using hreturns)]
        simp only [if_pos (Or.inr hreturns : (s.fld .breaker b 2 ≠ w.fld .breaker b 2 ∨ s.fld .breaker b 3 ≠ w.fld .breaker b 3) ∨ _)]
          at hact
        refine hplain _ ?_ hevents hrequests
        rw [hact]
        exact hlost
      · rw [if_neg (by simpa using hreturns)]
        simp only [if_neg (not_or.2 ⟨hmoved, hreturns⟩)] at hact
        refine hplain _ ?_ rfl rfl
        rw [hact]
        exact .refl b t

/-- The turn of one changed entry. -/
theorem State.activateBreaker_turn (hb : b < 24) (hm : t.mgmt = w.mgmt) (hlen : t.breakers.recs.length = 24)
    (hbrk : t.brk b = s.brk b) : BreakerTurn s w b t (t.activateBreaker (s.table .breaker) b) := by
  have hb' : b < t.breakers.recs.length := hlen.symm ▸ hb
  have hold : ∀ id, Entry.get ((s.table .breaker).getD b []) id = s.fld .breaker b id := fun _ => rfl
  have hnew := Entry.get_fld (t := t) (w := w) hm b
  have hlost := Recasts.lose (t := t) hb hlen
  obtain ⟨hevents, hrequests⟩ := State.losePosition_events b t
  rw [State.activateBreaker]
  dsimp only
  simp only [hold, hnew]
  by_cases hun : s.fld .breaker b 1 = 1 ∧ w.fld .breaker b 1 ≠ 1
  · rw [if_pos (by simpa using hun)]
    have hcut : ∀ f : BreakerRec → BreakerRec, f = (fun r => { r with
        fieldPosition := .unknown, fieldCandidate := none, trips := r.trips.filter (· != .parallelLimit) }) →
        Recasts b (f (t.brk b).lost) t ((t.losePosition b).modBrk b f) := fun f hf =>
      hlost.modBrk hb' f (by rw [hf]) fun m hm => by rw [hf] at hm; exact List.mem_of_mem_filter hm
    have hcut := hcut _ rfl
    by_cases hbf : (t.brk b).bf = .idle
    · rw [if_pos (by rw [hbf]; rfl)]
      refine .plain ?_ hevents hrequests fun hne => absurd (hbrk ▸ hbf) hne
      have hact : Clause.activated s w b = { (t.brk b).lost with
          fieldPosition := .unknown, fieldCandidate := none, trips := (t.brk b).lost.trips.filter (· != .parallelLimit) } := by
        rw [hbrk] at hbf ⊢
        unfold Clause.activated
        dsimp only
        rw [if_pos hun, if_pos hbf, if_pos hbf, ← hbf]
        rfl
      rw [hact]
      exact hcut
    · rw [if_neg (by simpa using hbf)]
      refine .resetBf hcut hb' (by rw [← hbrk]; rfl) hrequests hevents ?_ fun a ha hat => ?_
      · rw [hbrk] at hbf ⊢
        unfold Clause.activated
        dsimp only
        rw [if_pos hun, if_neg hbf, if_neg hbf]
        rfl
      · by_cases hab : a = b
        · subst hab
          rw [hcut.own]
          exact List.mem_filter.2 ⟨hat, rfl⟩
        · rw [hcut.others a hab]
          exact hat
  · rw [if_neg (by simpa using hun)]
    have hplain : ∀ v, Recasts b (Clause.activated s w b) t v → v.events = t.events → v.breakers.requests = t.breakers.requests →
        BreakerTurn s w b t v := fun v h he hr => .plain h he hr fun _ => hun
    by_cases hnewly : s.fld .breaker b 1 ≠ 1 ∧ w.fld .breaker b 1 = 1
    · rw [if_pos (by simpa using hnewly)]
      refine hplain _ ?_ hevents hrequests
      have hact : Clause.activated s w b = { ({} : BreakerRec) with trips := (t.brk b).lost.trips, bfOccurred := (t.brk b).lost.bfOccurred } := by
        rw [hbrk]
        unfold Clause.activated
        dsimp only
        rw [if_neg hun, if_pos hnewly]
        rfl
      rw [hact]
      exact hlost.modBrk hb' (fun r => { ({} : BreakerRec) with trips := r.trips, bfOccurred := r.bfOccurred }) rfl fun m hm => hm
    · rw [if_neg (by simpa using hnewly)]
      by_cases his : w.fld .breaker b 1 = 1
      · rw [if_pos (by simpa using his)]
        exact State.reconfigured_turn hb' hlost hevents hrequests hplain hbrk hun hnewly his
      · rw [if_neg (by simpa using his)]
        refine hplain t ?_ rfl rfl
        have hact : Clause.activated s w b = t.brk b := by
          rw [hbrk]
          unfold Clause.activated
          dsimp only
          rw [if_neg hun, if_neg hnewly, if_neg his]
        rw [hact]
        exact .refl b t

end


end Sys2Proof.Machine
end

section
/-! # COMMIT of BREAKER (O49) -/

namespace Sys2Proof.Machine

section
variable {s t u v w : State} {l : Link} {q : Request} {ps : List StatePart} {ns : List Nat} {b : Nat} {r : BreakerRec}

/-! ### BREAKER (R7, R115, R117, R124): every changed entry -/

/-- Beyond the breakers an entry changes nothing. -/
theorem State.activateBreaker_beyond (old : Table) (hb : t.breakers.recs.length ≤ b)
    (hn : Entry.get ((t.table .breaker).getD b []) 1 = 0) : t.activateBreaker old b = t := by
  have hdefault : t.brk b = default := List.getD_eq_default _ _ hb
  have hmod : ∀ f, t.modBrk b f = t := fun f => by
    show ({ t with breakers := { t.breakers with recs := t.breakers.recs.modify b f } } : State) = t
    rw [List.modify_eq_self hb]
  have hlose : t.losePosition b = t := (State.losePosition_unknown (by rw [hdefault]; rfl)).trans (hmod _)
  rw [State.activateBreaker]
  dsimp only
  rw [hn, hlose, hmod]
  split
  · rw [if_pos (by rw [hdefault]; rfl)]
  · rw [if_neg (by simp), if_neg (by decide)]

/-- The number of breakers among `ns`. -/
def breakersIn (ns : List Nat) : Nat := (ns.filter (· < 24)).length

theorem breakersIn_le (h : ns.Nodup) : breakersIn ns ≤ 24 := by
  have hsub : ns.filter (· < 24) ⊆ List.range 24 := fun b hb => List.mem_range.2 (by simpa using (List.mem_filter.1 hb).2)
  simpa [breakersIn] using ((h.filter _).subperm hsub).length_le

/-- A watched position changes with its breaker's entry. -/
def Clause.loses (s w : State) (b : Nat) : Bool :=
  decide (b ∈ watchedBreakers w.mgmt.tables) && (Clause.activated s w b).position != (s.brk b).position

/-- The entries `ns` are active, from `w`. -/
structure Recasted (s w : State) (ns : List Nat) (t : State) : Prop where
  mgmt : t.mgmt = w.mgmt
  par : t.par = w.par
  windows : t.links.windows = w.links.windows
  length : t.breakers.recs.length = 24
  done : ∀ b ∈ ns, t.brk b = Clause.activated s w b
  others : ∀ b, b ∉ ns → t.brk b = s.brk b
  seq : t.seq = { w.seq with lineupDue := w.seq.lineupDue || ns.any (Clause.loses s w) }
  work : ∀ y ∈ t.work, y ∈ w.work ∨ ∃ b ∈ ns, y.lost b ∧ (Clause.activated s w b).position = .unknown
  resets : ∀ b ∈ ns, (s.brk b).bf ≠ .idle → Clause.unconfigures s w b → ∃ r, t.Recent (breakersIn ns) r ∧
    (r.cls, r.priority, r.object, r.code) = (EventClass.breaker, 9, b, 9)
  backups : ∀ b ∈ ns, (s.brk b).bf = .backupIssued → Clause.unconfigures s w b → ∀ a < 24, .backup b ∈ (t.brk a).trips →
    ⟨false, a, .backup b⟩ ∈ t.breakers.requests
  requests : (∀ b ∈ ns, (s.brk b).bf ≠ .backupIssued) → t.breakers.requests = w.breakers.requests
  grows : Grows [] w t
  touches : Touches breakerParts w t

theorem Recasted.none (hbrk : ∀ b, w.brk b = s.brk b) (hlen : w.breakers.recs.length = 24) : Recasted s w [] w :=
  ⟨rfl, rfl, rfl, hlen, fun _ hb => absurd hb List.not_mem_nil, fun b _ => hbrk b, by simp, fun _ hy => .inl hy,
    fun _ hb => absurd hb List.not_mem_nil, fun _ hb => absurd hb List.not_mem_nil, fun _ => rfl, .refl w, .refl _ w⟩

/-- A breaker that is no breaker of the part. -/
theorem Clause.activated_beyond (hs : s.breakers.recs.length ≤ b) (hw : w.fld .breaker b 1 = 0) : Clause.activated s w b = s.brk b := by
  have hdefault : s.brk b = {} := List.getD_eq_default _ _ hs
  unfold Clause.activated
  dsimp only
  rw [hdefault]
  split
  · rfl
  · rw [if_neg (by omega), if_neg (by omega)]

theorem Recasted.turn (h : Recasted s w ns t) (hnodup : (ns ++ [b]).Nodup) (hs : s.breakers.recs.length = 24)
    (hbeyond : 24 ≤ b → w.fld .breaker b 1 = 0) :
    Recasted s w (ns ++ [b]) (t.activateBreaker (s.table .breaker) b) := by
  have hnew : b ∉ ns := fun hb => (List.disjoint_of_nodup_append hnodup hb (List.mem_singleton_self b)).elim
  have hold := h.others b hnew
  by_cases hb : b < 24
  · have hturn := State.activateBreaker_turn (s := s) (w := w) hb h.mgmt h.length hold
    generalize t.activateBreaker (s.table .breaker) b = t' at *
    obtain ⟨hrec, hrecent, hresets, hbackups, hrequests⟩ := hturn
    have hcount : breakersIn (ns ++ [b]) = breakersIn ns + 1 := by simp [breakersIn, hb]
    have hshort : breakersIn ns < 128 := lt_of_le_of_lt (breakersIn_le (List.Nodup.of_append_left hnodup)) (by decide)
    have htrips : ∀ a, ∀ m ∈ (t'.brk a).trips, m ∈ (t.brk a).trips := fun a m hm => by
      by_cases hab : a = b
      · subst hab
        rw [hrec.own] at hm
        exact hrec.trips m hm
      · rwa [hrec.others a hab] at hm
    refine ⟨hrec.mgmt.trans h.mgmt, hrec.par.trans h.par, hrec.windows.trans h.windows, hrec.length.trans h.length, fun a ha => ?_,
      fun a ha => ?_, ?_, fun y hy => ?_, fun a ha hbf hun => ?_, fun a ha hbf hun c hc hct => ?_, fun hno => ?_,
      h.grows.next hrec.grows, h.touches.trans hrec.touches⟩
    · by_cases hab : a = b
      · rw [hab]; exact hrec.own
      · rw [hrec.others a hab]
        exact h.done a (by simpa [hab] using ha)
    · obtain ⟨hns, hab⟩ : a ∉ ns ∧ a ≠ b := by simpa using ha
      rw [hrec.others a hab]
      exact h.others a hns
    · rw [hrec.seq, h.seq, h.mgmt, hold, List.any_append]
      simp only [List.any_cons, List.any_nil, Bool.or_false, Bool.or_assoc]
      rfl
    · obtain hy | hy := hrec.work y hy
      · exact (h.work y hy).imp_right fun ⟨c, hc, hlost⟩ => ⟨c, List.mem_append_left _ hc, hlost⟩
      · exact .inr ⟨b, List.mem_append_right _ (List.mem_singleton_self b), hy⟩
    · rw [hcount]
      obtain ha | ha := List.mem_append.1 ha
      · obtain ⟨x, hx, hfields⟩ := h.resets a ha hbf hun
        exact ⟨x, hrecent _ hshort x hx, hfields⟩
      · obtain rfl := List.mem_singleton.1 ha
        obtain ⟨x, hx, hfields⟩ := hresets hbf hun
        exact ⟨x, hx.mono (by omega), hfields⟩
    · obtain ha | ha := List.mem_append.1 ha
      · exact hrec.grows.requests (h.backups a ha hbf hun c hc (htrips c _ hct))
      · obtain rfl := List.mem_singleton.1 ha
        exact hbackups hbf hun c hc (htrips c _ hct)
    · rw [hrequests (hno b (List.mem_append_right _ (List.mem_singleton_self b))),
        h.requests fun a ha => hno a (List.mem_append_left _ ha)]
  · have hle := Nat.le_of_not_lt hb
    have hzero := hbeyond hle
    have hact : Clause.activated s w b = s.brk b := Clause.activated_beyond (hs.symm ▸ hle) hzero
    have hstands : t.activateBreaker (s.table .breaker) b = t :=
      State.activateBreaker_beyond _ (h.length.symm ▸ hle) ((Entry.get_fld h.mgmt b 1).trans hzero)
    have hidle : (s.brk b).bf = .idle := by
      have hdefault : s.brk b = {} := List.getD_eq_default _ _ (hs.symm ▸ hle)
      rw [hdefault]
    have hcount : breakersIn (ns ++ [b]) = breakersIn ns := by simp [breakersIn, hb]
    rw [hstands]
    refine ⟨h.mgmt, h.par, h.windows, h.length, fun a ha => ?_, fun a ha => h.others a fun hm => ha (List.mem_append_left _ hm), ?_,
      fun y hy => (h.work y hy).imp_right fun ⟨c, hc, hlost⟩ => ⟨c, List.mem_append_left _ hc, hlost⟩, fun a ha hbf hun => ?_,
      fun a ha hbf hun => ?_, fun hno => h.requests fun a ha => hno a (List.mem_append_left _ ha), h.grows, h.touches⟩
    · obtain ha | ha := List.mem_append.1 ha
      · exact h.done a ha
      · obtain rfl := List.mem_singleton.1 ha
        rw [hold, hact]
    · rw [h.seq, List.any_append]
      simp [Clause.loses, hact]
    · rw [hcount]
      obtain ha | ha := List.mem_append.1 ha
      · exact h.resets a ha hbf hun
      · exact absurd (List.mem_singleton.1 ha ▸ hidle) hbf
    · obtain ha | ha := List.mem_append.1 ha
      · exact h.backups a ha hbf hun
      · obtain rfl := List.mem_singleton.1 ha
        rw [hidle] at hbf
        exact absurd hbf (by decide)

theorem Recasted.all (hs : s.breakers.recs.length = 24) (hbeyond : ∀ b, 24 ≤ b → w.fld .breaker b 1 = 0) :
    ∀ (ms ns : List Nat) (t : State), Recasted s w ns t → (ns ++ ms).Nodup →
      Recasted s w (ns ++ ms) (t.forEach ms (fun b v => v.activateBreaker (s.table .breaker) b)) := by
  intro ms
  induction ms with
  | nil => exact fun ns t h _ => by rw [List.append_nil]; exact h
  | cons b ms ih =>
    intro ns t h hnodup
    have hsplit : ns ++ b :: ms = (ns ++ [b]) ++ ms := by simp
    rw [hsplit] at hnodup ⊢
    exact ih _ _ (h.turn (List.Nodup.of_append_left hnodup) hs (hbeyond b)) hnodup

theorem watchedBreakers_congr (h : u.table .lineup = s.table .lineup) : watchedBreakers u.mgmt.tables = watchedBreakers s.mgmt.tables := by
  have hfld : ∀ k id, tableField u.mgmt.tables .lineup k id = tableField s.mgmt.tables .lineup k id := fun k id =>
    State.fld_of_table h k id
  simp only [watchedBreakers, hfld]

/-- Settles the fifth part of O49. -/
theorem commitActivatesBreakers : Clause.CommitActivatesBreakers := by
  intro s l q h hmay hchanged hrun hunloaded
  have hs : s.Quiet := h.1.1
  have hloaded : ∀ g < 8, (s.gen g).state.loaded = false := fun g hg => GenState.not_loaded (hunloaded g hg).1 (hunloaded g hg).2
  have hwbreakers : (s.rewindowed l q .breaker).breakers = s.breakers := s.booked_breakers l q
  have hwbrk : ∀ b, (s.rewindowed l q .breaker).brk b = s.brk b := fun b => by rw [State.brk, hwbreakers, State.brk]
  have hrecasted : Recasted s (s.rewindowed l q .breaker) (Clause.changed s .breaker)
      ((s.rewindowed l q .breaker).forEach (Clause.changed s .breaker) (fun b v => v.activateBreaker (s.table .breaker) b)) :=
    Recasted.all (w := s.rewindowed l q .breaker) hs.recs_length
      (fun b hb => State.written_fld_beyond (x := .breaker) hs hb 1) (Clause.changed s .breaker) [] _
      (.none hwbrk (by rw [hwbreakers]; exact hs.recs_length)) (Clause.changed_nodup s _)
  have hactivating : s.activating l q .breaker =
      (s.rewindowed l q .breaker).forEach (Clause.changed s .breaker) (fun b v => v.activateBreaker (s.table .breaker) b) := by
    rw [State.activating_changed hchanged, State.activate, State.booked_table]
    rfl
  have hgrows := State.rewindowed_grows (s := s) (l := l) (q := q) (x := .breaker)
  have htouch := State.rewindowed_touches (s := s) (l := l) (q := q) (x := .breaker) (ps := [.links, .events, .breakers, .seq, .mgmt])
  have hwmgmt : (s.rewindowed l q .breaker).mgmt = (s.written l q .breaker).mgmt := rfl
  have hwseq : (s.rewindowed l q .breaker).seq = s.seq := s.booked_seq l q
  have hwpar : (s.rewindowed l q .breaker).par = s.par := s.booked_par l q
  have hwwork : (s.rewindowed l q .breaker).work = [] := State.written_work (x := .breaker) hs
  have hwwindows : (s.rewindowed l q .breaker).links.windows = rebuildWindows (namedAddresses
      (s.rewindowed l q .breaker).mgmt.tables (s.rewindowed l q .breaker).mgmt.configured) (s.booked l q).links.windows := rfl
  have hwatched : watchedBreakers (s.rewindowed l q .breaker).mgmt.tables = watchedBreakers s.mgmt.tables :=
    watchedBreakers_congr (State.written_table (x := .breaker) (by decide))
  generalize s.rewindowed l q .breaker = w at *
  generalize w.forEach (Clause.changed s .breaker) (fun b v => v.activateBreaker (s.table .breaker) b) = v at *
  have hvrun : v.seq.state = s.seq.state := by rw [hrecasted.seq, hwseq]
  have ha : Activation [.links, .events, .breakers, .seq, .mgmt] l q .breaker s v := by
    refine .moving hchanged (by decide) (hrecasted.mgmt.trans hwmgmt) (hgrows.next hrecasted.grows)
      (htouch.trans hrecasted.touches) (by rw [hrecasted.par, hwpar]) fun y hy u huseq hupar hubrk hutables => ?_
    obtain hy | ⟨b, hb, hlost, hunknown⟩ := hrecasted.work y hy
    · exact absurd (hwwork ▸ hy) List.not_mem_nil
    · refine State.handle_lost hlost ?_ ?_ fun g hg => ?_
      · rw [State.brk, hubrk, ← State.brk, hrecasted.done b hb, hunknown]
      · rw [State.run?, huseq, hvrun, ← State.run?]
        exact hrun
      · rw [State.gen, hupar, hrecasted.par, hwpar, ← State.gen]
        exact hloaded g hg
  obtain ⟨t, hend, hdone, hleaves, honly⟩ := ha.committed h (by decide) (by decide) hmay hactivating
  have htbrk : ∀ b, t.brk b = v.brk b := fun b => by rw [State.brk, hleaves.breakers, State.brk]
  have htfld : ∀ b id, t.fld .breaker b id = w.fld .breaker b id := fun b id => by
    rw [State.fld, hleaves.tables, hrecasted.mgmt, State.fld]
  have hact : ∀ b, Clause.activated s w b = Clause.activated s t b := fun b => by
    unfold Clause.activated
    simp only [htfld]
  have hun : ∀ b, s.fld .breaker b 1 = 1 → t.fld .breaker b 1 ≠ 1 → Clause.unconfigures s w b := fun b h1 h2 =>
    ⟨h1, by rw [← htfld]; exact h2⟩
  have hchangedPosition : ∀ b ∈ Clause.changed s .breaker, 24 ≤ b → t.brk b = s.brk b := fun b hb hle => by
    have hdefault : t.brk b = default := List.getD_eq_default _ _ (by
      rw [hleaves.breakers, hrecasted.length]; exact hle)
    rw [hdefault]
    exact (List.getD_eq_default _ _ (by rw [hs.recs_length]; exact hle)).symm
  refine ⟨t, hend, hdone, hleaves.windowsFollow (l := l) ?_, fun b hb => ?_, fun b _ hb => ?_, fun b hb hbf h1 h2 => ?_,
    fun b hb hbf h1 h2 a hlt hat => ?_, fun hno => ?_, ?_, honly⟩
  · rw [hrecasted.windows, hwwindows, hrecasted.mgmt]
  · rw [htbrk, hrecasted.done b hb, hact]
  · rw [htbrk, hrecasted.others b hb]
  · obtain ⟨r, hr, hfields⟩ := hrecasted.resets b hb hbf (hun b h1 h2)
    have hshort : breakersIn (Clause.changed s .breaker) < 128 :=
      lt_of_le_of_lt (breakersIn_le (Clause.changed_nodup s _)) (by decide)
    obtain ⟨e, he, heq⟩ := (hleaves.recent _ hshort r hr).held
    exact ⟨e, he, heq.trans hfields⟩
  · rw [hleaves.breakers]
    exact hrecasted.backups b hb hbf (hun b h1 h2) a hlt (by rw [← htbrk]; exact hat)
  · rw [hleaves.breakers, hrecasted.requests hno, hwbreakers]
  · rw [hleaves.seq, hrecasted.seq, hwseq]
    have hany : (Clause.changed s .breaker).any (Clause.loses s w) =
        (List.range 24).any (fun b => decide (b ∈ watchedBreakers s.mgmt.tables) && (t.brk b).position != (s.brk b).position) := by
      rw [Bool.eq_iff_iff, List.any_eq_true, List.any_eq_true]
      refine ⟨fun ⟨b, hb, hm⟩ => ?_, fun ⟨b, hb, hm⟩ => ?_⟩
      · rw [Clause.loses, hwatched, ← hrecasted.done b hb, ← htbrk] at hm
        by_cases hlt : b < 24
        · exact ⟨b, List.mem_range.2 hlt, hm⟩
        · rw [hchangedPosition b hb (Nat.le_of_not_lt hlt), bne_self_eq_false, Bool.and_false] at hm
          exact absurd hm (by decide)
      · by_cases hin : b ∈ Clause.changed s .breaker
        · refine ⟨b, hin, ?_⟩
          rw [Clause.loses, hwatched, ← hrecasted.done b hin, ← htbrk]
          exact hm
        · rw [htbrk, hrecasted.others b hin, bne_self_eq_false, Bool.and_false] at hm
          exact absurd hm (by decide)
    rw [hany]

end

/-- Settles O49. -/
theorem commitTestsAndActivates : Obligations.CommitTestsAndActivates :=
  ⟨commitIsRefused, commitWaits, commitActivatesPlainTables, commitActivatesStationAndStreams, commitActivatesBreakers,
    commitActivatesGenerators, commitActivatesTheSequencer⟩


end Sys2Proof.Machine
end

section
/-! # The advance of the counter and the end of TRACKING (O16) -/

namespace Sys2Proof.Machine

section
variable {s t u : State}

/-! ### The end of TRACKING (R26, R36) -/

theorem State.holdover_waits (h : s.aligner.timeout < 5 * s.perSecond) : s.holdover = s := by
  have hlate : ¬ s.timeLimit ≤ s.aligner.timeout := Nat.not_le.2 h
  rw [State.holdover, if_neg (by simp [hlate])]

/-- The state in which TRACKING has ended, before its event is recorded. -/
def State.untracked (s : State) : State := s.modAligner (fun a => { a with time := .holdover, timeLatch := false })

theorem State.holdover_ends (ht : s.aligner.time = .tracking) (h : 5 * s.perSecond ≤ s.aligner.timeout) :
    s.holdover = s.untracked.event .time 10 0 2 none := by
  have hlate : s.timeLimit ≤ s.aligner.timeout := h
  rw [State.holdover, if_pos (by simp [ht, hlate])]
  rfl

/-- Settles the first part of O16. -/
theorem trackingEndsInHoldover : Clause.TrackingEndsInHoldover := by
  intro s hs ht
  refine ⟨fun h => ?_, fun h => ?_⟩
  · exact (congrArg (finish s) (State.holdover_waits h)).trans (finish_idle hs)
  · have hexec : exec .timeHoldover s = finish s (s.untracked.event .time 10 0 2 none) :=
      congrArg (finish s) (State.holdover_ends ht h)
    have hwork : (s.untracked.event .time 10 0 2 none).work = [] := by rw [State.event_work]; exact hs.1
    refine ⟨_, hexec, ?_, ?_, hs.only _ hexec⟩
    · rw [State.settle_aligner, State.event_aligner]
      rfl
    · rw [Records, State.settle_newest hwork, State.event_newest]
      exact congrArg (fun l => some (EventRecord.mk s.events.nextSeq l .time 10 0 2 none false)) hs.eventLabel

/-- Settles the last part of O16. -/
theorem queueTakesARecord : Clause.QueueTakesARecord := by
  intro s hs ht h
  have hexec : exec .timeHoldover s = finish s (s.untracked.event .time 10 0 2 none) :=
    congrArg (finish s) (State.holdover_ends ht h)
  have hwork : (s.untracked.event .time 10 0 2 none).work = [] := by rw [State.event_work]; exact hs.1
  have hlabel : s.untracked.eventLabel = s.aligner.counter := hs.eventLabel
  obtain ⟨x, seqs, -, hevent⟩ := State.event_eq s.untracked .time 10 0 2 none
  have hqueue : s.untracked.events.append ⟨s.events.nextSeq, s.untracked.eventLabel, .time, 10, 0, 2, none, false⟩ =
      Clause.appended s.events ⟨s.events.nextSeq, s.aligner.counter, .time, 10, 0, 2, none, false⟩ := by
    rw [EventQueue.append_eq, hlabel]
    rfl
  refine ⟨_, hexec, EventQueue.markSent_events seqs ?_ fun ha hb => ?_⟩
  · rw [State.settle_events _ _ hwork, hevent, ← hqueue]
    rfl
  · have hup : ∀ k, ((State.settle s (s.untracked.event .time 10 0 2 none)).port k).up = false →
        (s.untracked.port k).up = false := fun k hk =>
      ((State.event_port (s := s.untracked) .time 10 0 2 none k).trans (State.settle_port s k)).up.symm.trans hk
    rw [State.settle_events _ _ hwork, State.event_unsent _ _ _ _ _ _ (hup .a ha) (hup .b hb), ← hqueue]
    rfl

/-! ### The steps of one advance (R1, R25) -/

/-- The count of an instant: its silence counts, its counter, and the timers of the breakers and of the plan. -/
def State.ticked (s : State) : State := s.advanceSilence.stepCounter.advanceBreakers.advanceSeq

/-- The sources once each has been evaluated. -/
def State.sourced (s : State) : State := s.forEach (List.range 3) State.evaluateSource

theorem State.advanceOnce_eq (s : State) : s.advanceOnce = s.ticked.sourced.advanceGens.sendAttempt := rfl

theorem State.advanceInstant_plain (h : s.aligner.time ≠ .tracking ∨ s.aligner.slew = .none) :
    s.advanceInstant = s.advanceOnce := by
  unfold State.advanceInstant
  cases ht : s.aligner.time <;> cases hx : s.aligner.slew <;> simp_all

theorem State.advanceInstant_withheld (ht : s.aligner.time = .tracking) (h : s.aligner.slew = .withhold) :
    s.advanceInstant = s.modAligner (fun a => { a with slew := .none }) := by
  rw [State.advanceInstant, ht, h]

theorem State.advanceInstant_doubled (ht : s.aligner.time = .tracking) (h : s.aligner.slew = .double) :
    s.advanceInstant = (s.modAligner (fun a => { a with slew := .none })).advanceOnce.advanceOnce := by
  rw [State.advanceInstant, ht, h]

/-- The label after the next advance. -/
def State.nextLabel (s : State) : Label :=
  if s.perSecond ≤ s.aligner.counter.index + 1 then ⟨step32 s.aligner.counter.second, 0⟩
  else ⟨s.aligner.counter.second, s.aligner.counter.index + 1⟩

/-- The aligner after an advance that adopts no other f_nom. -/
def State.nextAligner (s : State) : Aligner :=
  { s.aligner with
    counter := s.nextLabel
    timeout := if s.aligner.time = .tracking then min (s.aligner.timeout + 1) (5 * s.perSecond) else s.aligner.timeout }

/-- A step of the counter that adopts no other f_nom. -/
theorem State.stepCounter_plain (h : s.perSecond ≤ s.aligner.counter.index + 1 → s.station 7 = s.aligner.nominal) :
    s.stepCounter = s.modAligner (fun _ => s.nextAligner) := by
  unfold State.stepCounter
  dsimp only
  have hsame : ¬ (decide (s.perSecond ≤ s.aligner.counter.index + 1) && s.station 7 != s.aligner.nominal) = true := by
    simpa using h
  rw [if_neg hsame]
  simp [State.modAligner, State.nextAligner, State.nextLabel, State.timeLimit]

theorem Touches.ticked_plain {ps : List StatePart} (ha : Touches ps s u)
    (h : u.perSecond ≤ u.aligner.counter.index + 1 → u.station 7 = u.aligner.nominal)
    (hl : .aligner ∈ ps := by decide) (hsub : workParts ⊆ ps := by decide) : Touches ps s u.ticked := by
  have hstep : u.advanceSilence.stepCounter = u.advanceSilence.modAligner (fun _ => u.nextAligner) :=
    State.stepCounter_plain (s := u.advanceSilence) h
  rw [State.ticked, hstep]
  exact (((ha.links _ (hsub (by decide))).modAligner _ hl).breakers _ (hsub (by decide))).work
    (State.advanceSeq_evolves .refl) hsub

/-- What follows the count touches the parts of the work between the blocks alone. -/
theorem Touches.evaluations {ps : List StatePart} (h : Touches ps s u) (hsub : workParts ⊆ ps := by decide) :
    Touches ps s u.sourced.advanceGens.sendAttempt :=
  ((Touches.forEach _ _ h fun x _ hu => hu.evaluateSource x hsub).work (State.advanceGens_evolves .refl) hsub).sendAttempt
    (hsub (by decide)) (hsub (by decide))

/-- The parts that an advance touches which adopts no other f_nom. -/
abbrev plainParts : List StatePart := [.links, .events, .aligner, .breakers, .seq, .par]

theorem Touches.advanceOnce_plain (ha : Touches plainParts s u)
    (h : u.perSecond ≤ u.aligner.counter.index + 1 → u.station 7 = u.aligner.nominal) :
    Touches plainParts s u.advanceOnce := (ha.ticked_plain h).evaluations

theorem Touches.aligner_stands {ps : List StatePart} (h : Touches ps s u) (hp : .aligner ∉ ps := by decide) :
    u.aligner = s.aligner := h.stands .aligner hp

/-- An advance that adopts no other f_nom leaves the aligner as the step of the counter does. -/
theorem State.advanceOnce_aligner (h : s.perSecond ≤ s.aligner.counter.index + 1 → s.station 7 = s.aligner.nominal) :
    s.advanceOnce.aligner = s.nextAligner := by
  have hticked : s.ticked.aligner = s.nextAligner := by
    have hstep : s.advanceSilence.stepCounter = s.advanceSilence.modAligner (fun _ => s.nextAligner) :=
      State.stepCounter_plain (s := s.advanceSilence) h
    rw [State.ticked, hstep]
    rfl
  have htouch : Touches workParts s.ticked s.ticked.sourced.advanceGens.sendAttempt := (Touches.refl _ _).evaluations
  rw [State.advanceOnce_eq]
  rw [htouch.aligner_stands, hticked]

/-! ### What follows the count leaves what reception has counted -/

namespace Listens
variable {names : Prop}

theorem setSource (x : Nat) (new : SourceState) (delay : Nat) (h : Listens names s t) :
    Listens names s (t.setSource x new delay) :=
  Listens.event _ _ _ _ _ (Listens.same h (u := t.noting _))

theorem moveSource (x : Nat) (b : Bool) (h : Listens names s t) : Listens names s (t.moveSource x b) := by
  have hset : ∀ new d, Listens names s ((t.setSource x new d).governingChanged x) := fun new d =>
    (h.setSource x new d).work (State.governingChanged_evolves _ .refl)
  unfold State.moveSource
  dsimp only
  split
  · exact hset _ _
  · exact Listens.ite h (hset _ _)
  · exact h.same
  · exact hset _ _
  · exact h.same
  · exact Listens.ite h (hset _ _)
  · exact h

theorem evaluateSource (x : Nat) (h : Listens names s t) : Listens names s (State.evaluateSource x t) := by
  unfold State.evaluateSource
  dsimp only
  refine Listens.ite h (Listens.ite (Listens.ite h ((h.same (u := t.modSource x _)).setSource _ _ _))
    (Listens.ite (h.moveSource _ _) ?_))
  split
  · exact (h.setSource _ _ _).moveSource _ _
  · exact (h.setSource _ _ _).work (State.governingChanged_evolves _ .refl)

theorem evaluations (h : Listens names s t) : Listens names s t.sourced.advanceGens.sendAttempt := by
  have hgens : Listens names s t.sourced.advanceGens :=
    (h.forEach _ _ fun x _ hu => hu.evaluateSource x).work (State.advanceGens_evolves .refl)
  refine hgens.linked (State.sendAttempt_links _) ?_
  have htouch : Touches [.links, .events] t.sourced.advanceGens t.sourced.advanceGens.sendAttempt :=
    (Touches.refl _ _).sendAttempt
  exact congrArg _ (htouch.stands .mgmt (by decide))

end Listens

/-! ### The advance of the counter -/

theorem State.ticked_silence (l : Link) : (s.ticked.port l).silence = min ((s.port l).silence + 1) 24 := by
  have hlinks : s.ticked.links = s.advanceSilence.links := by
    unfold State.ticked
    have hstep : Touches [.aligner, .intake, .measures] s.advanceSilence s.advanceSilence.stepCounter :=
      (Touches.refl _ _).stepCounter
    exact hstep.stands .links (by decide)
  cases l
  · exact congrArg (fun x : Links => x.a.silence) hlinks
  · exact congrArg (fun x : Links => x.b.silence) hlinks

theorem State.advanceOnce_silence (l : Link) : (s.advanceOnce.port l).silence = min ((s.port l).silence + 1) 24 := by
  have hlistens : Listens True s.ticked s.advanceOnce := (Listens.refl True s.ticked).evaluations
  rw [(hlistens.ports l).silence, State.ticked_silence]

/-- Settles the second part of O16. -/
theorem advanceStepsTheCounter : Clause.AdvanceStepsTheCounter := by
  intro s hs
  refine ⟨fun ht hx => ?_, fun hx h7 => ?_, fun ht hx hi => ?_⟩
  · have hexec : exec .instantAdvance s = finish s (s.modAligner (fun a => { a with slew := .none })) :=
      congrArg (finish s) (State.advanceInstant_withheld ht hx)
    exact hexec.trans ((State.modAligner_frame _ rfl).finish hs)
  · have hexec : exec .instantAdvance s = finish s s.advanceOnce :=
      congrArg (finish s) (State.advanceInstant_plain (.inr hx))
    have htouch : Touches plainParts s s.advanceOnce := (Touches.refl _ s).advanceOnce_plain fun _ => h7
    have hlistens : Listens True s.advanceOnce (State.settle s s.advanceOnce) := (Listens.refl _ _).settle s
    refine ⟨_, hexec, ?_, fun l => ?_, htouch.only_working hs.1 hs.risen⟩
    · rw [State.settle_aligner, State.advanceOnce_aligner fun _ => h7]
      rfl
    · rw [(hlistens.ports l).silence, State.advanceOnce_silence]
  · have hwithin : ∀ a : Label, a.index + 1 < s.perSecond → ¬ s.perSecond ≤ a.index + 1 := fun a h => Nat.not_le.2 h
    let u := s.modAligner (fun a => { a with slew := .none })
    have hfirst : ¬ u.perSecond ≤ u.aligner.counter.index + 1 := hwithin s.aligner.counter (by omega)
    have haligner : u.advanceOnce.aligner = u.nextAligner := State.advanceOnce_aligner fun h => absurd h hfirst
    have hlabel : u.nextLabel = ⟨s.aligner.counter.second, s.aligner.counter.index + 1⟩ := if_neg hfirst
    generalize hv : u.advanceOnce = v at haligner
    have hsecond : ¬ v.perSecond ≤ v.aligner.counter.index + 1 := by
      rw [State.perSecond, haligner]
      show ¬ s.perSecond ≤ u.nextLabel.index + 1
      rw [hlabel]
      exact hwithin ⟨_, _⟩ hi
    have hexec : exec .instantAdvance s = finish s v.advanceOnce := by
      rw [← hv]
      exact congrArg (finish s) (State.advanceInstant_doubled ht hx)
    have htouch : Touches plainParts s v.advanceOnce :=
      Touches.advanceOnce_plain (hv ▸ ((Touches.refl plainParts s).modAligner _).advanceOnce_plain
        fun h => absurd h hfirst) fun h => absurd h hsecond
    have haligner' : v.advanceOnce.aligner = v.nextAligner := State.advanceOnce_aligner fun h => absurd h hsecond
    have hlabel' : v.nextLabel = ⟨v.aligner.counter.second, v.aligner.counter.index + 1⟩ := if_neg hsecond
    refine ⟨_, hexec, ?_, ?_, htouch.only_working hs.1 hs.risen⟩
    · rw [State.settle_aligner, haligner', State.nextAligner]
      show v.nextLabel = _
      rw [hlabel', haligner]
      show Label.mk u.nextLabel.second (u.nextLabel.index + 1) = _
      rw [hlabel]
    · rw [State.settle_aligner, haligner', State.nextAligner]
      show v.aligner.slew = _
      rw [haligner]
      rfl

end

end Sys2Proof.Machine
end

section
/-! # What an evaluation makes of one source -/

namespace Sys2Proof.Machine

section
variable {s t u : State} {x : Nat}

/-! ### A source takes a state (R83, R121) -/

/-- The record of a source that has taken a state: its points follow, but for UNVERIFIED. -/
def SourceRec.entered (r : SourceRec) (new : SourceState) (delay : Nat) : SourceRec :=
  { r with
    state := new, delay := delay
    availablePoint := if new == .unverified then r.availablePoint else new == .available
    failedPoint := if new == .unverified then r.failedPoint else new == .failed }

/-- The record of a source whose delay goes on. -/
def SourceRec.late (r : SourceRec) (limit : Nat) : SourceRec := { r with delay := min (r.delay + 1) limit }

/-- What a qualified source becomes at an evaluation (R121). -/
def SourceRec.moved (r : SourceRec) (fail restore : Nat) (healthy : Bool) : SourceRec :=
  match r.state, healthy with
  | .available, false => r.entered (if fail == 0 then .failed else .failing) 0
  | .failing, true => if fail ≤ r.delay then r else r.entered .available 0
  | .failing, false => r.late fail
  | .failed, true => r.entered (if restore == 0 then .available else .restoring) 0
  | .restoring, true => r.late restore
  | .restoring, false => if restore ≤ r.delay then r else r.entered .failed 0
  | _, _ => r

/-- The delay of the record has run out (R121). -/
def SourceRec.due (r : SourceRec) (fail restore : Nat) : Bool :=
  (r.state == .failing && fail ≤ r.delay) || (r.state == .restoring && restore ≤ r.delay)

/-- What a source becomes at an evaluation (R121, R122). -/
def SourceRec.evaluated (r : SourceRec) (fail restore : Nat) (valid healthy : Bool) : SourceRec :=
  if r.due fail restore then r
  else if !valid then if r.state == .unverified then r else { r with previous := some r.state }.entered .unverified r.delay
  else if r.state != .unverified then r.moved fail restore healthy
  else
    match r.previous with
    | some p => (r.entered p r.delay).moved fail restore healthy
    | none => r.entered (if healthy then .available else .failed) 0

/-! ### What an evaluation of one source keeps (R121, R170) -/

theorem Poised.trans {y z : Sequencer} (h : Poised s t y) (k : Poised t u z) : Poised s u z where
  touches := h.touches.trans k.touches
  work := k.work
  par := k.par.trans h.par
  mgmt := k.mgmt.trans h.mgmt
  seq := k.seq

/-- From `s` to `u` source `x` alone moves, to `r`; the change of its state is recorded, at most `n` events being recorded. -/
structure SourceTurn (n x : Nat) (s u : State) (r : SourceRec) : Prop where
  poised : Poised s u { s.seq with sources := s.seq.sources.set x r }
  recent : ∀ m e, s.Recent m e → m + n ≤ 128 → u.Recent (m + n) e
  records : r.state ≠ (s.source x).state → ∃ e, u.Recent n e ∧
    (e.cls, e.object, e.code, e.priority, e.value) = (.transfer, x, 1, r.state.priority, some r.state.code)

theorem State.Recent.more {m n : Nat} {e : EventRecord} (h : s.Recent m e) (hn : m ≤ n) : s.Recent n e :=
  (List.take_subset_take_left _ hn) h

namespace SourceTurn
variable {m n : Nat} {r : SourceRec}

theorem refl (hw : s.work = []) (hx : x < s.seq.sources.length) : SourceTurn n x s s (s.source x) where
  poised := { touches := Touches.refl _ s, work := hw, par := rfl, mgmt := rfl, seq := by simp [State.source, nth, hx] }
  recent m e h _ := h.more (Nat.le_add_right m n)
  records h := absurd rfl h

theorem of_eq {v : State} (h : SourceTurn n x s u r) (e : u = v) : SourceTurn n x s v r := e ▸ h

theorem source_same (h : SourceTurn n x s u r) (hx : x < s.seq.sources.length) : u.source x = r := by
  rw [State.source, h.poised.seq]
  simp [nth, hx]

theorem source_other (h : SourceTurn n x s u r) {y : Nat} (hy : y ≠ x) : u.source y = s.source y := by
  rw [State.source, h.poised.seq]
  simp [nth, State.source, List.getD_eq_getElem?_getD, List.getElem?_set_ne hy.symm]

theorem more (h : SourceTurn m x s u r) (hn : m ≤ n) : SourceTurn n x s u r where
  poised := h.poised
  recent j e hj hb := (h.recent j e hj (by omega)).more (by omega)
  records hr := by
    obtain ⟨e, he, hval⟩ := h.records hr
    exact ⟨e, he.more hn, hval⟩

/-- A source takes its record without an event. -/
theorem modSource (hw : s.work = []) (hx : x < s.seq.sources.length) (f : SourceRec → SourceRec)
    (hf : (f (s.source x)).state = (s.source x).state) : SourceTurn n x s (s.modSource x f) (f (s.source x)) where
  poised :=
    { touches := (Touches.refl _ s).modSource x _
      work := hw
      par := rfl
      mgmt := rfl
      seq := by
        rw [State.modSource]
        simp [State.modSeq, List.modify_eq_set, State.source, nth, hx] }
  recent m e h _ := h.more (Nat.le_add_right m n)
  records h := absurd hf h

/-- A source takes a state and records it. -/
theorem setSource (hw : s.work = []) (hx : x < s.seq.sources.length) (new : SourceState) (delay : Nat) :
    SourceTurn 1 x s (s.setSource x new delay) ((s.source x).entered new delay) where
  poised := by
    have hset : Poised s (s.noting (s.modSource x (fun r => r.entered new delay)))
        { s.seq with sources := s.seq.sources.set x ((s.source x).entered new delay) } :=
      { touches := ((Touches.refl _ s).modSource x _).noting _
        work := hw
        par := rfl
        mgmt := rfl
        seq := by
          simp [State.noting, State.modSource, State.modSeq, List.modify_eq_set, State.source, nth, hx] }
    exact hset.event .transfer new.priority x 1 (some new.code)
  recent m e h hm := State.Recent.event (s := s.noting (s.modSource x _)) h (by omega) _ _ _ _ _
  records _ := ⟨_, State.event_recent .transfer new.priority x 1 (some new.code), rfl⟩

/-- The later of two moves of the source is the one that stands. -/
theorem trans {q : SourceRec} (h : SourceTurn m x s t q) (k : SourceTurn n x t u r) (hx : x < s.seq.sources.length)
    (hm : m + n ≤ 128) : SourceTurn (m + n) x s u r where
  poised := by
    have hseq : ({ t.seq with sources := t.seq.sources.set x r } : Sequencer) =
        { s.seq with sources := s.seq.sources.set x r } := by
      rw [h.poised.seq]
      simp
    exact hseq ▸ h.poised.trans k.poised
  recent j e hj hb := by
    rw [← Nat.add_assoc]
    exact k.recent _ e (h.recent j e hj (by omega)) (by omega)
  records hr := by
    by_cases hsame : r.state = (t.source x).state
    · rw [h.source_same hx] at hsame
      obtain ⟨e, he, hval⟩ := h.records (hsame ▸ hr)
      exact ⟨e, k.recent m e he hm, by rw [hval, hsame]⟩
    · obtain ⟨e, he, hval⟩ := k.records hsame
      exact ⟨e, he.more (Nat.le_add_left n m), hval⟩

end SourceTurn

/-! ### The evaluation of one source, with auto transfer off (R121, R122) -/

theorem State.setSource_autoEffective (x : Nat) (new : SourceState) (delay : Nat) :
    (s.setSource x new delay).seq.autoEffective = s.seq.autoEffective := by
  rw [State.setSource, State.event_seq]
  rfl

/-- With auto transfer off the sequencer takes no notice of a source. -/
theorem State.setSource_unnoticed (hoff : s.seq.autoEffective = false) (new : SourceState) (delay : Nat) :
    (s.setSource x new delay).governingChanged x = s.setSource x new delay :=
  State.governingChanged_off ((State.setSource_autoEffective x new delay).trans hoff)

theorem State.moveSource_turn (hw : s.work = []) (hx : x < s.seq.sources.length) (hoff : s.seq.autoEffective = false)
    (healthy : Bool) : SourceTurn 1 x s (s.moveSource x healthy)
      ((s.source x).moved (s.fld .source x 7) (s.fld .source x 8) healthy) := by
  have hset : ∀ new, SourceTurn 1 x s ((s.setSource x new 0).governingChanged x) ((s.source x).entered new 0) := fun new =>
    (SourceTurn.setSource hw hx new 0).of_eq (State.setSource_unnoticed hoff new 0).symm
  unfold State.moveSource SourceRec.moved
  dsimp only
  cases hr : (s.source x).state with
  | unverified => exact .refl hw hx
  | available =>
    cases healthy with
    | true => exact .refl hw hx
    | false => exact hset _
  | failing =>
    cases healthy with
    | true =>
      dsimp only
      split
      · exact .refl hw hx
      · exact hset _
    | false => exact .modSource hw hx (fun r => r.late (s.fld .source x 7)) rfl
  | failed =>
    cases healthy with
    | true => exact hset _
    | false => exact .refl hw hx
  | restoring =>
    cases healthy with
    | true => exact .modSource hw hx (fun r => r.late (s.fld .source x 8)) rfl
    | false =>
      dsimp only
      split
      · exact .refl hw hx
      · exact hset _

theorem State.evaluateSource_turn (hw : s.work = []) (hx : x < s.seq.sources.length) (hoff : s.seq.autoEffective = false) :
    SourceTurn 2 x s (State.evaluateSource x s) ((s.source x).evaluated (s.fld .source x 7) (s.fld .source x 8)
      (s.stream (s.fld .source x 1)).valid (s.sourceHealthy x)) := by
  unfold State.evaluateSource SourceRec.evaluated
  dsimp only
  change SourceTurn 2 x s (if (s.source x).due (s.fld .source x 7) (s.fld .source x 8) = true then s else _) _
  split
  · exact .refl hw hx
  · split
    · split
      · exact .refl hw hx
      · next hv =>
        have hset : SourceTurn 1 x (s.modSource x (fun r => { r with previous := some r.state })) _ _ :=
          SourceTurn.setSource (s := s.modSource x (fun r => { r with previous := some r.state })) hw
            (by simpa [State.modSource, State.modSeq] using hx) .unverified (s.source x).delay
        rw [State.source_modSource_same _ _ hx] at hset
        have hkeep : SourceTurn 1 x s (s.modSource x (fun r => { r with previous := some r.state })) _ :=
          SourceTurn.modSource hw hx _ rfl
        exact hkeep.trans hset hx (by decide)
    · split
      · exact (State.moveSource_turn hw hx hoff _).more (by decide)
      · cases hp : (s.source x).previous with
        | some p =>
          have hset := SourceTurn.setSource hw hx p (s.source x).delay
          have hmove := State.moveSource_turn (x := x) hset.poised.work
            (by rw [hset.poised.seq]; simpa using hx) ((State.setSource_autoEffective ..).trans hoff) (s.sourceHealthy x)
          rw [hset.source_same hx, hset.poised.fld, hset.poised.fld] at hmove
          exact hset.trans hmove hx (by decide)
        | none =>
          exact ((SourceTurn.setSource hw hx (if s.sourceHealthy x = true then .available else .failed) 0).of_eq
            (State.setSource_unnoticed hoff _ 0).symm).more (by decide)

end

end Sys2Proof.Machine
end

section
/-! # The evaluation of all sources -/

namespace Sys2Proof.Machine

section
variable {s t u : State} {x : Nat}

theorem any_eq_of_mem {α : Type} {p q : α → Bool} {l : List α} (h : ∀ a ∈ l, p a = q a) : l.any p = l.any q := by
  rw [Bool.eq_iff_iff, List.any_eq_true, List.any_eq_true]
  exact exists_congr fun a => and_congr_right fun ha => by rw [h a ha]

theorem all_eq_of_mem {α : Type} {p q : α → Bool} {l : List α} (h : ∀ a ∈ l, p a = q a) : l.all p = l.all q := by
  rw [Bool.eq_iff_iff, List.all_eq_true, List.all_eq_true]
  exact forall₂_congr fun a ha => by rw [h a ha]

/-! ### What the health of a source reads (R120) -/

/-- The elements that a source names are elements. -/
def State.NamesElements (s : State) (x : Nat) : Prop :=
  s.fld .source x 2 < 64 ∧ ∀ i < 4, s.fld .source x (3 + i) = 0xFFFF ∨ s.fld .source x (3 + i) < 64

theorem State.point_operated {k : Nat} (hk : k < 64) : s.point (48 + k) = ((s.element k).state == .operated) := by
  have hsub : 48 + k - 48 = k := by omega
  rw [State.point, if_neg (by omega), if_neg (by omega), if_pos (by omega), hsub]

theorem State.point_online {g : Nat} (hg : g < 8) : s.point (192 + g) = ((s.gen g).state == .online) := by
  have hsub : 192 + g - 192 = g := by omega
  rw [State.point, if_neg (by omega), if_neg (by omega), if_neg (by omega), if_neg (by omega), if_neg (by omega),
    if_neg (by simp; omega), if_neg (by simp; omega), if_neg (by simp; omega), if_neg (by simp; omega), if_neg (by omega),
    if_pos (by omega), hsub]

/-- The health of a source, its elements and the generators read for themselves. -/
theorem State.sourceHealthy_eq (s : State) (x : Nat) : s.sourceHealthy x = (s.point (48 + s.fld .source x 2) &&
    (List.range 4).all (fun i => s.fld .source x (3 + i) == 0xFFFF || !s.point (48 + s.fld .source x (3 + i))) &&
    (x != 2 || (List.range 8).any (fun g => (s.gen g).state == .online))) := by
  have hgens : (List.range 8).any (fun g => s.point (192 + g)) = (List.range 8).any (fun g => (s.gen g).state == .online) :=
    any_eq_of_mem fun g hg => State.point_online (List.mem_range.1 hg)
  rw [State.sourceHealthy, hgens, idRun, List.map_map, List.all_map]
  rfl

theorem State.sourceHealthy_congr (h : s.NamesElements x) (htables : t.mgmt.tables = s.mgmt.tables)
    (helements : t.elements = s.elements) (hgens : t.par.gens = s.par.gens) : t.sourceHealthy x = s.sourceHealthy x := by
  have hfld : ∀ id, t.fld .source x id = s.fld .source x id := fun id => by rw [State.fld, State.fld, htables]
  have hpoint : ∀ k < 64, t.point (48 + k) = s.point (48 + k) := fun k hk => by
    rw [State.point_operated hk, State.point_operated hk, State.element, State.element, helements]
  have hgen : ∀ g, t.gen g = s.gen g := fun g => by rw [State.gen, State.gen, hgens]
  have hblocks : (List.range 4).all (fun i => s.fld .source x (3 + i) == 0xFFFF ||
      !t.point (48 + s.fld .source x (3 + i))) = (List.range 4).all (fun i => s.fld .source x (3 + i) == 0xFFFF ||
      !s.point (48 + s.fld .source x (3 + i))) := by
    refine all_eq_of_mem fun i hi => ?_
    obtain hn | hlt := h.2 i (List.mem_range.1 hi)
    · simp [hn]
    · rw [hpoint _ hlt]
  rw [State.sourceHealthy_eq, State.sourceHealthy_eq]
  simp only [hfld, hgen, hpoint _ h.1, hblocks]

/-! ### The evaluation of all three sources, with auto transfer off (R121, R122) -/

/-- What an evaluation makes of a source. -/
def State.sourceAfter (s : State) (x : Nat) : SourceRec :=
  (s.source x).evaluated (s.fld .source x 7) (s.fld .source x 8) (s.stream (s.fld .source x 1)).valid (s.sourceHealthy x)

theorem State.sourceAfter_congr (h : s.NamesElements x) (htables : t.mgmt.tables = s.mgmt.tables)
    (helements : t.elements = s.elements) (hgens : t.par.gens = s.par.gens) (hintake : t.intake = s.intake)
    (hsource : t.source x = s.source x) : t.sourceAfter x = s.sourceAfter x := by
  have hfld : ∀ id, t.fld .source x id = s.fld .source x id := fun id => by rw [State.fld, State.fld, htables]
  have hstream : ∀ k, t.stream k = s.stream k := fun k => by rw [State.stream, State.stream, hintake]
  rw [State.sourceAfter, State.sourceAfter, State.sourceHealthy_congr h htables helements hgens, hsource, hfld, hfld, hfld,
    hstream]

theorem State.NamesElements.congr (h : s.NamesElements x) (htables : t.mgmt.tables = s.mgmt.tables) : t.NamesElements x := by
  have hfld : ∀ id, t.fld .source x id = s.fld .source x id := fun id => by rw [State.fld, State.fld, htables]
  simpa only [State.NamesElements, hfld] using h

/-- A record of a source's change of state is held (R121). -/
def State.RecordsSource (u : State) (n x : Nat) (r : SourceRec) : Prop :=
  ∃ e, u.Recent n e ∧
    (e.cls, e.object, e.code, e.priority, e.value) = (.transfer, x, 1, r.state.priority, some r.state.code)

/-- From `s` to `u` the sources `ns` are evaluated, at most two events being recorded for each. -/
structure SourcesTurn (ns : List Nat) (s u : State) : Prop where
  poised : Poised s u { s.seq with sources := u.seq.sources }
  count : u.seq.sources.length = s.seq.sources.length
  recent : ∀ m e, s.Recent m e → m + 2 * ns.length ≤ 128 → u.Recent (m + 2 * ns.length) e
  others : ∀ x, x ∉ ns → u.source x = s.source x
  moved : ∀ x ∈ ns, s.NamesElements x → u.source x = s.sourceAfter x
  records : ∀ x ∈ ns, s.NamesElements x → (s.sourceAfter x).state ≠ (s.source x).state →
    u.RecordsSource (2 * ns.length) x (s.sourceAfter x)

theorem State.evaluateSources_turn (ns : List Nat) (hn : ns.Nodup) (hlen : ns.length ≤ 64) (hw : s.work = [])
    (hx : ∀ x ∈ ns, x < s.seq.sources.length) (hoff : s.seq.autoEffective = false) :
    SourcesTurn ns s (s.forEach ns State.evaluateSource) := by
  induction ns generalizing s with
  | nil =>
    exact
      { poised := { touches := Touches.refl _ s, work := hw, par := rfl, mgmt := rfl, seq := rfl }
        count := rfl
        recent := fun m e h _ => h
        others := fun _ _ => rfl
        moved := fun _ h => absurd h List.not_mem_nil
        records := fun _ h => absurd h List.not_mem_nil }
  | cons y ys ih =>
    obtain ⟨hy, hys⟩ := List.nodup_cons.1 hn
    rw [List.length_cons] at hlen
    have hturn := State.evaluateSource_turn hw (hx y List.mem_cons_self) hoff
    change SourceTurn 2 y s (State.evaluateSource y s) (s.sourceAfter y) at hturn
    rw [show s.forEach (y :: ys) State.evaluateSource = (State.evaluateSource y s).forEach ys State.evaluateSource from rfl]
    generalize State.evaluateSource y s = t at hturn
    have hcount : t.seq.sources.length = s.seq.sources.length := by
      rw [hturn.poised.seq]
      simp
    have hrest := ih hys (by omega) hturn.poised.work
      (fun x hm => hcount ▸ hx x (List.mem_cons_of_mem _ hm)) (by rw [hturn.poised.seq]; exact hoff)
    generalize t.forEach ys State.evaluateSource = u at hrest
    have htables : t.mgmt.tables = s.mgmt.tables := by rw [hturn.poised.mgmt]
    have hafter : ∀ x ∈ ys, s.NamesElements x → t.sourceAfter x = s.sourceAfter x ∧ t.source x = s.source x :=
      fun x hm he => by
        have hsource := hturn.source_other fun h => hy (h ▸ hm)
        exact ⟨State.sourceAfter_congr he htables (hturn.poised.touches.stands .elements (by decide))
          (by rw [hturn.poised.par]) (hturn.poised.touches.stands .intake (by decide)) hsource, hsource⟩
    have hlength : 2 * (y :: ys).length = 2 + 2 * ys.length := by rw [List.length_cons]; omega
    have hseq : ({ t.seq with sources := u.seq.sources } : Sequencer) = { s.seq with sources := u.seq.sources } := by
      rw [hturn.poised.seq]
    exact
      { poised := hseq ▸ hturn.poised.trans hrest.poised
        count := hrest.count.trans hcount
        recent := fun m e he hb => by
          rw [hlength] at hb ⊢
          rw [← Nat.add_assoc]
          exact hrest.recent _ e (hturn.recent m e he (by omega)) (by omega)
        others := fun x hm => by
          obtain ⟨hxy, hxs⟩ := not_or.1 (List.mem_cons.not.1 hm)
          rw [hrest.others x hxs, hturn.source_other hxy]
        moved := fun x hm he => by
          obtain rfl | hm := List.mem_cons.1 hm
          · rw [hrest.others x hy, hturn.source_same (hx x List.mem_cons_self)]
          · rw [hrest.moved x hm (he.congr htables), (hafter x hm he).1]
        records := fun x hm he hne => by
          rw [hlength]
          obtain rfl | hm := List.mem_cons.1 hm
          · obtain ⟨e, hrecent, hval⟩ := hturn.records hne
            exact ⟨e, hrest.recent 2 e hrecent (by omega), hval⟩
          · obtain ⟨hafter, hsource⟩ := hafter x hm he
            rw [← hafter, ← hsource] at hne
            obtain ⟨e, hrecent, hval⟩ := hrest.records x hm (he.congr htables) hne
            exact ⟨e, hrecent.more (by omega), hafter ▸ hval⟩ }

end

end Sys2Proof.Machine
end

section
/-! # The timers of one advance -/

namespace Sys2Proof.Machine

section
variable {s t u : State}

/-! ### The timers of the generators (R148 to R150, R153, R156, R157, R159) -/

theorem State.forEach_eachGen (f : Nat → GenRec → GenRec) (ns : List Nat) (hn : ns.Nodup) (hlt : ∀ g ∈ ns, g < s.par.gens.length) :
    ∃ gs, s.forEach ns (fun g t => t.modGen g (f g)) = { s with par := { s.par with gens := gs } } ∧
      gs.length = s.par.gens.length ∧ (∀ g ∈ ns, nth gs g = f g (s.gen g)) ∧ ∀ g, g ∉ ns → nth gs g = s.gen g := by
  induction ns generalizing s with
  | nil => exact ⟨s.par.gens, rfl, rfl, fun _ h => absurd h List.not_mem_nil, fun _ _ => rfl⟩
  | cons n ns ih =>
    obtain ⟨hnn, hns⟩ := List.nodup_cons.1 hn
    have hlen : (s.modGen n (f n)).par.gens.length = s.par.gens.length := List.length_modify _ _ _
    obtain ⟨gs, heq, hcount, hmem, hother⟩ := ih (s := s.modGen n (f n)) hns
      fun g hg => hlen ▸ hlt g (List.mem_cons_of_mem _ hg)
    refine ⟨gs, heq, hcount.trans hlen, fun g hg => ?_, fun g hg => ?_⟩
    · obtain rfl | hg := List.mem_cons.1 hg
      · rw [hother g hnn, State.gen_modGen_same _ _ (hlt g List.mem_cons_self)]
      · rw [hmem g hg, State.gen_modGen_other _ _ (by rintro rfl; exact hnn hg)]
    · obtain ⟨hgn, hgs⟩ := not_or.1 (List.mem_cons.not.1 hg)
      rw [hother g hgs, State.gen_modGen_other _ _ (Ne.symm hgn)]

/-- What an advance makes of a generator's record. -/
def State.genAfter (s : State) (g : Nat) : GenRec :=
  if s.genConfigured g then (s.gen g).advance (s.deadQueued g) else s.gen g

/-- What the unit's timers make of a state. -/
structure GensAged (s u : State) : Prop where
  eq : u = { s with par := u.par }
  par : u.par = { s.par with
    gens := u.par.gens
    shareTimer := s.par.shareTimer + 1
    channels := s.par.channels.map (fun c =>
      c.map (fun r => if r.phase == .running then { r with timer := r.timer + 1 } else r)) }
  count : u.par.gens.length = s.par.gens.length
  gen : ∀ g < 8, u.gen g = s.genAfter g
  beyond : ∀ g, 8 ≤ g → u.gen g = s.gen g

theorem State.advanceGens_aged (hlen : s.par.gens.length = 8) : GensAged s s.advanceGens := by
  obtain ⟨gs, heq, hcount, hmem, hother⟩ := State.forEach_eachGen (s := s) (fun g r => r.advance (s.deadQueued g))
    ((List.range 8).filter s.genConfigured) (List.nodup_range.filter _)
    fun g hg => hlen.symm ▸ List.mem_range.1 (List.mem_filter.1 hg).1
  have hshape : s.advanceGens = { s with par := { s.par with
      gens := gs
      shareTimer := s.par.shareTimer + 1
      channels := s.par.channels.map (fun c =>
        c.map (fun r => if r.phase == .running then { r with timer := r.timer + 1 } else r)) } } := by
    rw [State.advanceGens, heq]
    rfl
  rw [hshape]
  refine ⟨rfl, rfl, hcount, fun g hg => ?_, fun g hg => ?_⟩
  · rw [State.genAfter]
    split
    · next hc => exact hmem g (List.mem_filter.2 ⟨List.mem_range.2 hg, hc⟩)
    · next hc => exact hother g fun h => hc (List.mem_filter.1 h).2
  · exact hother g fun h => absurd (List.mem_range.1 (List.mem_filter.1 h).1) (Nat.not_lt.2 hg)

namespace GensAged

/-- No timer is of a setpoint. -/
theorem setpointOf (h : GensAged s u) (g : Nat) : u.setpointOf g = s.setpointOf g := by
  have htables : u.mgmt.tables = s.mgmt.tables := by rw [h.eq]
  by_cases hg : g < 8
  · have hgen := h.gen g hg
    rw [State.genAfter] at hgen
    split at hgen
    · exact State.setpointOf_same htables (by rw [hgen]; rfl) (by rw [hgen]; rfl)
    · exact State.setpointOf_same htables (by rw [hgen]) (by rw [hgen])
  · have hgen := h.beyond g (Nat.le_of_not_lt hg)
    exact State.setpointOf_same htables (by rw [hgen]) (by rw [hgen])

end GensAged

/-! ### The count of an instant -/

/-- What the count of an instant makes of the parts that the rest of the advance reads. -/
structure Ticked (s u : State) : Prop where
  work : u.work = s.work
  par : u.par = s.par
  mgmt : u.mgmt = s.mgmt
  elements : u.elements = s.elements
  events : u.events = s.events
  seq : u.seq = { s.seq with state := match s.seq.state with
    | .running r => .running r.advance
    | x => x }
  breakers : u.breakers = { s.breakers with recs := s.breakers.recs.map BreakerRec.advance }
  queues : u.links = { s.links with
    a := { s.links.a with silence := min (s.links.a.silence + 1) Config.silenceLimit }
    b := { s.links.b with silence := min (s.links.b.silence + 1) Config.silenceLimit } }

theorem State.ticked_ticked (s : State) : Ticked s s.ticked := by
  have hstep : Touches [.aligner, .intake, .measures] s.advanceSilence s.advanceSilence.stepCounter :=
    (Touches.refl _ _).stepCounter
  obtain ⟨hwork, -, -⟩ := hstep.calm (by decide)
  have hpar : s.advanceSilence.stepCounter.par = s.advanceSilence.par := hstep.stands .par (by decide)
  have hmgmt : s.advanceSilence.stepCounter.mgmt = s.advanceSilence.mgmt := hstep.stands .mgmt (by decide)
  have helements : s.advanceSilence.stepCounter.elements = s.advanceSilence.elements := hstep.stands .elements (by decide)
  have hevents : s.advanceSilence.stepCounter.events = s.advanceSilence.events := hstep.stands .events (by decide)
  have hseq : s.advanceSilence.stepCounter.seq = s.advanceSilence.seq := hstep.stands .seq (by decide)
  have hbreakers : s.advanceSilence.stepCounter.breakers = s.advanceSilence.breakers := hstep.stands .breakers (by decide)
  have hlinks : s.advanceSilence.stepCounter.links = s.advanceSilence.links := hstep.stands .links (by decide)
  unfold State.ticked
  generalize s.advanceSilence.stepCounter = v at *
  exact
    { work := hwork
      par := hpar
      mgmt := hmgmt
      elements := helements
      events := hevents
      seq := by
        show ({ v.seq with state := match v.seq.state with
          | .running r => .running r.advance
          | x => x } : Sequencer) = _
        rw [hseq]
        rfl
      breakers := by
        show ({ v.breakers with recs := v.breakers.recs.map BreakerRec.advance } : BreakerCtl) = _
        rw [hbreakers]
        rfl
      queues := hlinks }

theorem State.ticked_intake (h : s.perSecond ≤ s.aligner.counter.index + 1 → s.station 7 = s.aligner.nominal) :
    s.ticked.intake = s.intake := by
  have htouch : Touches plainParts s s.ticked := (Touches.refl _ s).ticked_plain h
  exact htouch.stands .intake (by decide)

end

end Sys2Proof.Machine
end

section
/-! # Breakers, plan and generators at an advance (O16) -/

namespace Sys2Proof.Machine

section
variable {s t u : State}

/-! ### One advance, with auto transfer off -/

/-- What one advance makes of the breakers, the plan, the sources and the generators with auto transfer off. -/
structure Advanced (s u : State) : Prop where
  work : u.work = []
  breakers : u.breakers = { s.breakers with recs := s.breakers.recs.map BreakerRec.advance }
  state : u.seq.state = match s.seq.state with
    | .running r => .running r.advance
    | x => x
  setpointOf : ∀ g, u.setpointOf g = s.setpointOf g
  gen : ∀ g < 8, u.gen g = s.genAfter g
  channels : u.par.channels = s.par.channels.map (fun c =>
    c.map (fun r => if r.phase == .running then { r with timer := r.timer + 1 } else r))
  share : u.par.shareTimer = s.par.shareTimer + 1

theorem State.sendAttempt_bare (s : State) : s.sendAttempt.bareRecords = s.bareRecords := by
  obtain ⟨x, seqs, hx⟩ := s.sendEvents_eq true
  obtain ⟨y, seqs', hy⟩ := (s.sendEvents true).sendEvents_eq false
  rw [State.sendAttempt, State.bareRecords, hy, EventQueue.markSent_bare, hx, EventQueue.markSent_bare]
  rfl

/-- The evaluation of the sources in one advance with auto transfer off. -/
theorem State.sourced_turn (hs : s.Quiet) (hoff : s.seq.autoEffective = false) :
    SourcesTurn (List.range 3) s.ticked s.ticked.sourced := by
  have ht := s.ticked_ticked
  refine State.evaluateSources_turn _ List.nodup_range (by simp) (ht.work.trans hs.1) (fun x hx => ?_) ?_
  · rw [ht.seq]
    exact hs.sources_length.symm ▸ List.mem_range.1 hx
  · rw [ht.seq]
    exact hoff

/-- The work of an advance after the sources, but for its EVENT frames. -/
theorem State.advanceOnce_gens (hs : s.Quiet) (hoff : s.seq.autoEffective = false) :
    GensAged s.ticked.sourced s.ticked.sourced.advanceGens := by
  refine State.advanceGens_aged ?_
  rw [(State.sourced_turn hs hoff).poised.par, s.ticked_ticked.par]
  exact hs.gens_length

/-- The send attempt leaves all but the queues of the links and the sent marks. -/
theorem State.sendAttempt_eq (s : State) : ∃ x seqs seqs', s.sendAttempt =
    { s with links := x, events := (s.events.markSent seqs).markSent seqs' } := by
  obtain ⟨x, seqs, hx⟩ := s.sendEvents_eq true
  obtain ⟨y, seqs', hy⟩ := (s.sendEvents true).sendEvents_eq false
  refine ⟨y, seqs, seqs', ?_⟩
  rw [State.sendAttempt, hy, hx]

/-- What a DEAD close queued for a generator says of its breaker's slot alone. -/
theorem State.deadQueued_congr {g : Nat} (htables : t.mgmt.tables = s.mgmt.tables)
    (hbreakers : t.breakers.recs = s.breakers.recs.map BreakerRec.advance) : t.deadQueued g = s.deadQueued g := by
  have hbrk : t.genBreaker g = s.genBreaker g := by rw [State.genBreaker, State.genBreaker, State.fld, State.fld, htables]
  have hslot : (t.brk (s.genBreaker g)).slot = (s.brk (s.genBreaker g)).slot.map (fun c =>
      if c.phase == .queued then c else { c with timer := c.timer + 1 }) := by
    rw [State.brk, State.brk, hbreakers, nth, nth, List.getD_eq_getElem?_getD, List.getD_eq_getElem?_getD, List.getElem?_map]
    cases s.breakers.recs[s.genBreaker g]? <;> rfl
  rw [State.deadQueued, State.deadQueued, State.closeQueued, State.closeQueued, hbrk, hslot]
  cases (s.brk (s.genBreaker g)).slot with
  | none => rfl
  | some c =>
    simp only [Option.map_some, Option.any_some]
    split <;> rfl

theorem State.advanceOnce_advanced (hs : s.Quiet) (hoff : s.seq.autoEffective = false) : Advanced s s.advanceOnce := by
  have ht := s.ticked_ticked
  have hturn := State.sourced_turn hs hoff
  have haged := State.advanceOnce_gens hs hoff
  rw [State.advanceOnce_eq]
  generalize s.ticked = a at *
  generalize a.sourced = b at *
  generalize b.advanceGens = c at *
  have hmgmt : b.mgmt = s.mgmt := hturn.poised.mgmt.trans ht.mgmt
  have hpar : b.par = s.par := hturn.poised.par.trans ht.par
  have hbreakers : b.breakers = { s.breakers with recs := s.breakers.recs.map BreakerRec.advance } :=
    Eq.trans (hturn.poised.touches.stands .breakers (by decide)) ht.breakers
  have hgen : ∀ g, b.gen g = s.gen g := fun g => by rw [State.gen, State.gen, hpar]
  obtain ⟨x, seqs, seqs', hsend⟩ := c.sendAttempt_eq
  rw [hsend]
  exact
    { work := by
        show c.work = []
        rw [haged.eq]
        exact hturn.poised.work
      breakers := by
        show c.breakers = _
        rw [haged.eq]
        exact hbreakers
      state := by
        show c.seq.state = _
        rw [haged.eq]
        show b.seq.state = _
        rw [hturn.poised.seq, ht.seq] <;> rfl
      setpointOf := fun g => (haged.setpointOf g).trans (State.setpointOf_congr (by rw [hpar]) (by rw [hmgmt]) g)
      gen := fun g hg => by
        show c.gen g = _
        rw [haged.gen g hg, State.genAfter, State.genAfter, hgen,
          State.deadQueued_congr (by rw [hmgmt]) (congrArg BreakerCtl.recs hbreakers), State.genConfigured, State.fld, hmgmt]
        rfl
      channels := by
        show c.par.channels = _
        rw [haged.par, hpar]
      share := by
        show c.par.shareTimer = _
        rw [haged.par, hpar] }

/-- The end of such an advance. -/
theorem Advanced.finish (hs : s.Quiet) (h : s.aligner.time ≠ .tracking ∨ s.aligner.slew = .none)
    (hoff : s.seq.autoEffective = false) :
    ∃ es b, exec .instantAdvance s = .next (s.advanceOnce.endedWith es b) := by
  have hadv := State.advanceOnce_advanced hs hoff
  refine ⟨_, _, (congrArg (Sys2Proof.Machine.finish s) (State.advanceInstant_plain h)).trans
    (congrArg Host.Outcome.next (State.settle_steady hadv.work hadv.setpointOf))⟩

theorem Advanced.brk (h : Advanced s u) (b : Nat) : u.brk b = (s.brk b).advance := by
  rw [State.brk, State.brk, h.breakers, nth, nth, List.getD_eq_getElem?_getD, List.getD_eq_getElem?_getD, List.getElem?_map]
  cases s.breakers.recs[b]? <;> rfl

/-- Settles the third part of O16. -/
theorem advanceStepsBreakersAndPlan : Clause.AdvanceStepsBreakersAndPlan := by
  intro s hs h hoff
  have hadv := State.advanceOnce_advanced hs hoff
  obtain ⟨es, b, hexec⟩ := Advanced.finish hs h hoff
  refine ⟨_, hexec, fun b _ => ?_, ?_, fun r hr => ?_, fun hr => ?_, hs.only _ hexec⟩
  · rw [State.endedWith_brk, hadv.brk, BreakerRec.advance]
    simp
  · rw [State.endedWith_breakers, hadv.breakers]
  · rw [State.endedWith_seq, hadv.state, hr]
    rfl
  · rw [State.endedWith_seq, hadv.state]
    cases hx : s.seq.state <;> simp_all [State.run?]

theorem State.deadQueued_eq (s : State) (g : Nat) : s.deadQueued g = (s.brk (s.fld .generator g 3)).slot.any (fun c =>
    c.action == .closing && c.closeKind == .dead && c.phase == .queued && c.requester == .party (.generator g)) := by
  rw [State.deadQueued, State.closeQueued, State.genBreaker]
  cases (s.brk (s.fld .generator g 3)).slot with
  | none => rfl
  | some c =>
    simp only [Option.any_some]
    rw [Bool.eq_iff_iff]
    simp only [Bool.and_eq_true]
    tauto

theorem ExchangeState.running_iff {e : ExchangeState} : e.running = true ↔ e = .awaitBase ∨ e = .receiving := by
  cases e <;> simp [ExchangeState.running]

/-- Settles the fourth part of O16. -/
theorem advanceStepsTheGenerators : Clause.AdvanceStepsTheGenerators := by
  intro s hs h hoff
  have hadv := State.advanceOnce_advanced hs hoff
  obtain ⟨es, b, hexec⟩ := Advanced.finish hs h hoff
  refine ⟨_, hexec, fun g hg hc => ?_, fun g hg hc => ?_, fun c hc => ?_, ?_⟩
  · have hconf : s.genConfigured g = true := by simp [State.genConfigured, hc]
    rw [State.endedWith_gen, hadv.gen g hg, State.genAfter, if_pos hconf, GenRec.advance]
    have hchecks : s.deadQueued g = (s.brk (s.fld .generator g 3)).slot.any (fun c => c.action == .closing &&
        c.closeKind == .dead && c.phase == .queued && c.requester == .party (.generator g)) := State.deadQueued_eq s g
    rw [hchecks]
    simp only [ExchangeState.running_iff, Config.absentInstants, Bool.and_eq_true, Bool.beq_eq_decide_eq, decide_eq_true_eq]
  · have hconf : ¬ s.genConfigured g = true := by simp [State.genConfigured, hc]
    rw [State.endedWith_gen, hadv.gen g hg, State.genAfter, if_neg hconf]
  · rw [State.channel, State.channel, State.endedWith_par, hadv.channels]
    simp only [List.getD_eq_getElem?_getD, List.getElem?_map]
    cases s.par.channels[c]? with
    | none => rfl
    | some o => simp
  · rw [State.endedWith_par, hadv.share]

end

end Sys2Proof.Machine
end

section
/-! # Sources at an advance (O16) -/

namespace Sys2Proof.Machine

section
variable {s t u : State}

/-! ### What the statement says of an evaluated source (R121, R122) -/

/-- The state and the delay that an evaluation gives. -/
def SourceRec.outcome (r : SourceRec) (fail restore : Nat) (valid healthy : Bool) : SourceState × Nat :=
  if r.due fail restore then (r.state, r.delay)
  else if valid = false then (.unverified, r.delay)
  else match r.state, r.previous with
    | .unverified, none => (if healthy then .available else .failed, 0)
    | .unverified, some p => Clause.sourceMove fail restore healthy p r.delay
    | z, _ => Clause.sourceMove fail restore healthy z r.delay

/-- The points of a source that an evaluation leaves alone: its state stands, or it is UNVERIFIED. -/
def SourceRec.keepsPoints (r : SourceRec) (new : SourceState) : Bool := decide (new = r.state ∨ new = .unverified)

/-- The record that an evaluation leaves, by the state and the delay that it gives. -/
def SourceRec.with_ (r : SourceRec) (previous : Option SourceState) (y : SourceState × Nat) : SourceRec where
  state := y.1
  previous := previous
  delay := y.2
  availablePoint := if r.keepsPoints y.1 then r.availablePoint else decide (y.1 = .available)
  failedPoint := if r.keepsPoints y.1 then r.failedPoint else decide (y.1 = .failed)

theorem SourceRec.with_same (r : SourceRec) (delay : Nat) : r.with_ r.previous (r.state, delay) = { r with delay := delay } := by
  simp [SourceRec.with_, SourceRec.keepsPoints]

theorem SourceRec.with_entered (r : SourceRec) {new : SourceState} (h : new ≠ r.state) (delay : Nat) :
    r.with_ r.previous (new, delay) = r.entered new delay := by
  cases new <;> simp_all [SourceRec.with_, SourceRec.keepsPoints, SourceRec.entered]

/-- A move of a qualified source is that of R121. -/
theorem SourceRec.moved_eq (r : SourceRec) (fail restore : Nat) (healthy : Bool) :
    r.moved fail restore healthy = r.with_ r.previous (Clause.sourceMove fail restore healthy r.state r.delay) := by
  have hsame : r = r.with_ r.previous (r.state, r.delay) := r.with_same r.delay |>.symm
  unfold SourceRec.moved Clause.sourceMove
  cases hx : r.state <;> cases healthy <;> dsimp only <;> rw [hx] at hsame
  case available.false =>
    refine (r.with_entered ?_ 0).symm.trans (by simp)
    split <;> simp [hx]
  case failing.true =>
    split
    · exact hsame
    · exact (r.with_entered (by simp [hx]) 0).symm
  case failing.false => exact (r.with_same _).symm.trans (by rw [hx])
  case failed.true =>
    refine (r.with_entered ?_ 0).symm.trans (by simp)
    split <;> simp [hx]
  case restoring.true => exact (r.with_same _).symm.trans (by rw [hx])
  case restoring.false =>
    split
    · exact hsame
    · exact (r.with_entered (by simp [hx]) 0).symm
  all_goals exact hsame

theorem sourceMove_verified {fail restore delay : Nat} {healthy : Bool} {p : SourceState}
    (h : (Clause.sourceMove fail restore healthy p delay).1 = .unverified) : p = .unverified := by
  unfold Clause.sourceMove at h
  cases p <;> cases healthy <;> dsimp only at h <;> (try split at h) <;> simp_all

/-- The points of a source that leaves UNVERIFIED by its previous state are those of the state that it comes to. -/
theorem SourceRec.entered_with (r : SourceRec) (hu : r.state = .unverified) {p : SourceState} {y : SourceState × Nat}
    (hy : y.1 = .unverified → p = .unverified) (delay : Nat) : (r.entered p delay).with_ r.previous y = r.with_ r.previous y := by
  obtain ⟨new, d⟩ := y
  by_cases hp : p = .unverified
  · subst hp
    simp [SourceRec.with_, SourceRec.keepsPoints, SourceRec.entered, hu]
  · have hnew : new ≠ .unverified := fun h => hp (hy h)
    simp only [SourceRec.with_, SourceRec.keepsPoints, SourceRec.entered, hu, hnew]
    by_cases hsame : new = p
    · subst hsame
      simp [hp, beq_eq_decide]
    · simp [hsame]

theorem SourceRec.evaluated_eq (r : SourceRec) (fail restore : Nat) (valid healthy : Bool) :
    r.evaluated fail restore valid healthy = r.with_
      (if r.due fail restore = false ∧ valid = false ∧ r.state ≠ .unverified then some r.state else r.previous)
      (r.outcome fail restore valid healthy) := by
  rw [SourceRec.evaluated, SourceRec.outcome]
  by_cases hd : r.due fail restore = true
  · rw [if_pos hd, if_pos hd, if_neg (by simp [hd]), SourceRec.with_same]
  · rw [if_neg hd, if_neg hd]
    by_cases hu : r.state = .unverified
    · have hold : ¬ (r.due fail restore = false ∧ valid = false ∧ r.state ≠ .unverified) := fun h => h.2.2 hu
      rw [if_neg hold, if_pos (show (r.state == .unverified) = true by simp [hu]),
        if_neg (show ¬ (r.state != .unverified) = true by simp [hu])]
      cases valid with
      | false => exact (r.with_same _).symm.trans (by rw [hu]; rfl)
      | true =>
        simp only [hu]
        cases hp : r.previous with
        | none => exact (r.with_entered (by rw [hu]; split <;> simp) 0).symm.trans (by simp [hp])
        | some p =>
          have hmoved := (r.entered p r.delay).moved_eq fail restore healthy
          have hwith := r.entered_with hu (y := Clause.sourceMove fail restore healthy p r.delay) sourceMove_verified r.delay
          rw [hp] at hwith
          have hprevious : (r.entered p r.delay).previous = some p := hp
          rw [hprevious] at hmoved
          exact hmoved.trans hwith
    · cases valid with
      | false =>
        have hold : r.due fail restore = false ∧ false = false ∧ r.state ≠ .unverified := ⟨by simpa using hd, rfl, hu⟩
        rw [if_pos (by rfl), if_neg (show ¬ (r.state == .unverified) = true by simp [hu]), if_pos rfl, if_pos hold]
        exact (SourceRec.with_entered { r with previous := some r.state } (Ne.symm hu) r.delay).symm
      | true =>
        rw [if_neg (show ¬ (!true) = true by simp), if_pos (show (r.state != .unverified) = true by simp [hu]),
          if_neg (by simp), if_neg (by simp), SourceRec.moved_eq]
        congr 1
        cases hx : r.state with
        | unverified => exact absurd hx hu
        | _ => rfl

/-! ### The sources in one advance (R120 to R122) -/

theorem State.sendAttempt_recent {n : Nat} {e : EventRecord} (h : s.Recent n e) : s.sendAttempt.Recent n e := by
  rw [State.Recent, State.sendAttempt_bare]
  exact h

theorem State.Recent.written {n : Nat} {r : EventRecord} (h : s.Recent n r) : ∃ e ∈ s.events.records,
    (e.cls, e.object, e.code, e.priority, e.value) = (r.cls, r.object, r.code, r.priority, r.value) := by
  obtain ⟨e, he, rfl⟩ := List.mem_map.1 (List.mem_reverse.1 (List.mem_of_mem_take h))
  exact ⟨e, he, rfl⟩

/-- What one advance that adopts no other f_nom makes of a source, with auto transfer off. -/
theorem State.advanceOnce_source (hs : s.Quiet) (hoff : s.seq.autoEffective = false) (h7 : s.station 7 = s.aligner.nominal)
    {x : Nat} (hx : x < 3) (he : s.NamesElements x) : s.advanceOnce.source x = s.sourceAfter x ∧
      ((s.sourceAfter x).state ≠ (s.source x).state → s.advanceOnce.RecordsSource 6 x (s.sourceAfter x)) := by
  have ht := s.ticked_ticked
  have hintake := s.ticked_intake fun _ => h7
  have hturn := State.sourced_turn hs hoff
  have haged := State.advanceOnce_gens hs hoff
  rw [State.advanceOnce_eq]
  generalize s.ticked = a at *
  generalize a.sourced = b at *
  generalize b.advanceGens = c at *
  have hsource : a.source x = s.source x := by rw [State.source, State.source, ht.seq]
  have hafter : a.sourceAfter x = s.sourceAfter x := State.sourceAfter_congr he (by rw [ht.mgmt]) ht.elements
    (by rw [ht.par]) hintake hsource
  have hnames : a.NamesElements x := he.congr (by rw [ht.mgmt])
  have hmem : x ∈ List.range 3 := List.mem_range.2 hx
  have hevents : c.events = b.events := by rw [haged.eq]
  obtain ⟨l, seqs, seqs', hsend⟩ := c.sendAttempt_eq
  refine ⟨?_, fun hne => ?_⟩
  · rw [hsend]
    show c.source x = _
    rw [haged.eq]
    exact (hturn.moved x hmem hnames).trans hafter
  · rw [← hafter, ← hsource] at hne
    obtain ⟨e, hrecent, hval⟩ := hturn.records x hmem hnames hne
    exact ⟨e, State.sendAttempt_recent (hrecent.same hevents), hafter ▸ hval⟩

/-- Settles the fifth part of O16. -/
theorem sourcesAreEvaluated : Clause.SourcesAreEvaluated := by
  intro s id hs h hoff h7 x h2 h3 r fail restore healthy valid due y kept
  have hx : x < 3 := by cases id <;> decide
  have hhealthy : s.sourceHealthy x = healthy := State.sourceHealthy_eq s x
  have hafter : s.sourceAfter x = r.evaluated fail restore valid healthy := by rw [← hhealthy]; rfl
  have hdue : r.due fail restore = due := by
    simp [SourceRec.due, due, beq_eq_decide]
  have hy : r.outcome fail restore valid healthy = y := by
    rw [SourceRec.outcome, hdue] <;> rfl
  obtain ⟨es, b, hexec⟩ := Advanced.finish hs h hoff
  obtain ⟨hsource, hrecords⟩ := State.advanceOnce_source hs hoff h7 hx ⟨h2, h3⟩
  rw [hafter, SourceRec.evaluated_eq, hy, hdue] at hsource hrecords
  generalize s.advanceOnce = u at *
  refine ⟨_, hexec, hsource, fun hne => ?_⟩
  obtain ⟨e, hrecent, hval⟩ := hrecords hne
  obtain ⟨w, hw, hsame⟩ := hrecent.written
  rw [hval] at hsame
  simp only [Prod.mk.injEq] at hsame
  obtain ⟨hcls, hobject, hcode, hpriority, hvalue⟩ := hsame
  refine ⟨w, hw, by rw [hcls, hobject, hcode], hpriority.trans ?_, hvalue.trans ?_⟩
  · show y.1.priority = _
    cases y.1 <;> rfl
  · show some y.1.code = _
    cases y.1 <;> rfl

end

end Sys2Proof.Machine
end

section
/-! # The send attempt of an advance (O16) -/

namespace Sys2Proof.Machine

section
variable {s t u : State} {urgent : Bool}

/-! ### One EVENT frame of a send attempt (R11, R16, R17, R171) -/

/-- An EVENT frame of this kind is built. -/
def State.builds (s : State) (urgent : Bool) : Bool := !(s.unsent urgent).isEmpty && s.eventRoom urgent

/-- The EVENT frame that is built next. -/
def State.eventFrame (s : State) (urgent : Bool) : OutFrame :=
  ⟨s.ownAddress, 4095, s.links.eventSeq, .event (s.unsent urgent), false, false⟩

/-- A link has room for an EVENT frame of this kind. -/
def LinkPort.roomFor (p : LinkPort) (urgent : Bool) : Prop :=
  p.up = true ∧ (if urgent then p.normalCount OutFrame.isEvent < 8 else p.bulk.length < 64)

theorem State.eventRoom_iff : s.eventRoom urgent = true ↔ s.links.a.roomFor urgent ∨ s.links.b.roomFor urgent := by
  cases urgent with
  | true =>
    show _ ↔ (_ ∧ _ < Config.normalClassLimit) ∨ (_ ∧ _ < Config.normalClassLimit)
    simp [State.eventRoom]
  | false =>
    show _ ↔ (_ ∧ _ < Config.bulkPlaces) ∨ (_ ∧ _ < Config.bulkPlaces)
    simp [State.eventRoom, LinkPort.bulkRoom]

theorem State.builds_iff : s.builds urgent = true ↔ s.unsent urgent ≠ [] ∧
    (s.links.a.roomFor urgent ∨ s.links.b.roomFor urgent) := by
  rw [State.builds, Bool.and_eq_true, State.eventRoom_iff]
  simp

/-- The queues of a link once an EVENT frame of this kind has been offered to it. -/
def LinkPort.offered (p : LinkPort) (urgent : Bool) (f : OutFrame) : LinkPort :=
  if p.up then (if urgent then p.admitNormal OutFrame.isEvent f else p.admitBulk f).1 else p

theorem LinkPort.offered_has {p : LinkPort} {f : OutFrame} (h : p.roomFor urgent) :
    if urgent then f ∈ (p.offered urgent f).normal else .frame f ∈ (p.offered urgent f).bulk := by
  obtain ⟨hup, hroom⟩ := h
  cases urgent with
  | true => 
    have hcount : p.normalCount OutFrame.isEvent < Config.normalClassLimit := hroom
    simp [LinkPort.offered, hup, LinkPort.admitNormal, hcount]
  | false =>
    have hplaces : p.bulk.length < Config.bulkPlaces := hroom
    simp [LinkPort.offered, hup, LinkPort.admitBulk, LinkPort.bulkRoom, LinkPort.bulkAdd, hplaces]

theorem LinkPort.offered_up {p : LinkPort} {f : OutFrame} : (p.offered urgent f).up = p.up := by
  unfold LinkPort.offered LinkPort.admitNormal LinkPort.admitBulk LinkPort.bulkAdd
  repeat' split
  all_goals rfl

theorem LinkPort.offered_normal {p : LinkPort} {f : OutFrame} : (p.offered false f).normal = p.normal := by
  rw [LinkPort.offered, if_neg (show ¬ false = true by decide)]
  unfold LinkPort.admitBulk LinkPort.bulkAdd
  repeat' split
  all_goals rfl

theorem LinkPort.offered_bulk {p : LinkPort} {f : OutFrame} : (p.offered true f).bulk = p.bulk := by
  rw [LinkPort.offered, if_pos (show true = true by decide)]
  unfold LinkPort.admitNormal
  repeat' split
  all_goals rfl

/-- The state once an EVENT frame of this kind has been offered to the links. -/
def State.eventSent (s : State) (urgent : Bool) : State :=
  { s with
    links := { s.links with
      eventSeq := step16 s.links.eventSeq
      a := s.links.a.offered urgent (s.eventFrame urgent)
      b := s.links.b.offered urgent (s.eventFrame urgent) }
    events := s.events.markSent ((s.unsent urgent).map (·.seq)) }

theorem State.sendEvents_unbuilt (h : s.builds urgent = false) : s.sendEvents urgent = s := by
  unfold State.sendEvents
  rw [if_pos]
  rw [State.builds] at h
  cases hu : (s.unsent urgent).isEmpty <;> simp_all

/-- A link that has room admits the frame. -/
theorem LinkPort.admits {p : LinkPort} {f : OutFrame} (h : p.roomFor urgent) :
    (if p.up then (if urgent then p.admitNormal OutFrame.isEvent f else p.admitBulk f) else (p, false)).2 = true := by
  obtain ⟨hup, hroom⟩ := h
  cases urgent with
  | true =>
    have hcount : p.normalCount OutFrame.isEvent < Config.normalClassLimit := hroom
    simp [hup, LinkPort.admitNormal, hcount]
  | false =>
    have hplaces : p.bulk.length < Config.bulkPlaces := hroom
    simp [hup, LinkPort.admitBulk, LinkPort.bulkRoom, hplaces]

theorem LinkPort.offered_eq {p : LinkPort} {f : OutFrame} : p.offered urgent f =
    (if p.up then (if urgent then p.admitNormal OutFrame.isEvent f else p.admitBulk f) else (p, false)).1 := by
  rw [LinkPort.offered]
  split <;> rfl

theorem State.sendEvents_built (h : s.builds urgent = true) : s.sendEvents urgent = s.eventSent urgent := by
  obtain ⟨hne, hroom⟩ := State.builds_iff.1 h
  have hgo : ¬ ((s.unsent urgent).isEmpty || !s.eventRoom urgent) = true := by
    rw [State.builds] at h
    simp_all
  have hplaced : ((if s.links.a.up then (if urgent then s.links.a.admitNormal OutFrame.isEvent (s.eventFrame urgent)
      else s.links.a.admitBulk (s.eventFrame urgent)) else (s.links.a, false)).2 ||
    (if s.links.b.up then (if urgent then s.links.b.admitNormal OutFrame.isEvent (s.eventFrame urgent)
      else s.links.b.admitBulk (s.eventFrame urgent)) else (s.links.b, false)).2) = true :=
    Bool.or_eq_true_iff.2 (hroom.imp LinkPort.admits LinkPort.admits)
  unfold State.sendEvents
  dsimp only
  rw [if_neg hgo]
  rw [State.eventSent, LinkPort.offered_eq, LinkPort.offered_eq]
  have hlinks : ∀ g : LinkPort → LinkPort × Bool, (∀ p, g p = if urgent then p.admitNormal OutFrame.isEvent (s.eventFrame urgent)
      else p.admitBulk (s.eventFrame urgent)) →
      ({ s with links := { s.links with eventSeq := step16 s.links.eventSeq } }.onUpLinks g) =
        ({ s with links := { s.links with
            eventSeq := step16 s.links.eventSeq
            a := (if s.links.a.up then (if urgent then s.links.a.admitNormal OutFrame.isEvent (s.eventFrame urgent)
              else s.links.a.admitBulk (s.eventFrame urgent)) else (s.links.a, false)).1
            b := (if s.links.b.up then (if urgent then s.links.b.admitNormal OutFrame.isEvent (s.eventFrame urgent)
              else s.links.b.admitBulk (s.eventFrame urgent)) else (s.links.b, false)).1 } }, .placed) := fun g hg => by
    rw [State.onUpLinks, hg, hg, hplaced]
    rfl
  rw [hlinks _ fun p => by cases urgent <;> rfl]

/-! ### The send attempt of an advance (R171) -/

/-- A record is among those of the frame. -/
def markedSent (seqs : List Nat) (r : EventRecord) : EventRecord := if seqs.contains r.seq then { r with sent := true } else r

theorem EventQueue.markSent_records (q : EventQueue) (seqs : List Nat) :
    (q.markSent seqs).records = q.records.map (markedSent seqs) := rfl

/-- The records of one kind are found again once some of the other kind are marked sent. -/
theorem filter_markedSent {p : EventRecord → Bool} {seqs : List Nat} {rs : List EventRecord}
    (h : ∀ r ∈ rs, seqs.contains r.seq = true → p r = false ∧ p { r with sent := true } = false) :
    (rs.map (markedSent seqs)).filter p = rs.filter p := by
  induction rs with
  | nil => rfl
  | cons r rs ih =>
    have hrest := ih fun x hx => h x (List.mem_cons_of_mem _ hx)
    rw [List.map_cons, List.filter_cons, List.filter_cons, hrest, markedSent]
    split
    · next hm =>
      obtain ⟨h₁, h₂⟩ := h r List.mem_cons_self hm
      rw [h₁, h₂]
      rfl
    · rfl

/-- Once the urgent records are marked sent, the ordinary ones that are unsent are those of before. -/
theorem State.unsent_ordinary (hn : (s.events.records.map (·.seq)).Nodup) {v : State}
    (hv : v.events = s.events.markSent ((s.unsent true).map (·.seq))) : v.unsent false = s.unsent false := by
  rw [State.unsent, State.unsent, hv, EventQueue.markSent_records, filter_markedSent]
  intro r hr hm
  obtain ⟨x, hx, hseq⟩ := List.mem_map.1 (List.elem_iff.1 hm)
  obtain ⟨hxr, hkind⟩ := List.mem_filter.1 (List.mem_of_mem_take hx)
  obtain rfl : x = r := List.inj_on_of_nodup_map hn hxr hr hseq
  obtain ⟨-, hurgent⟩ := Bool.and_eq_true_iff.1 hkind
  have hhigh : decide (12 ≤ x.priority) = true := by simpa using hurgent
  constructor <;> simp [of_decide_eq_true hhigh]

/-- What a send attempt makes of the queues and of the event queue. -/
structure Attempted (s u : State) : Prop where
  urgent : s.builds true = true → ∀ l, (s.port l).roomFor true → s.eventFrame true ∈ (u.port l).normal
  ordinary : s.builds false = true → ∀ l, (s.port l).roomFor false → .frame { s.eventFrame false with
    seq := if s.builds true then step16 s.links.eventSeq else s.links.eventSeq } ∈ (u.port l).bulk
  seq : u.links.eventSeq = (if s.builds false then step16 (if s.builds true then step16 s.links.eventSeq else s.links.eventSeq)
    else if s.builds true then step16 s.links.eventSeq else s.links.eventSeq)
  events : u.events = { s.events with records := s.events.records.map (fun r =>
    if (s.builds true = true ∧ r.seq ∈ (s.unsent true).map (·.seq)) ∨
      (s.builds false = true ∧ r.seq ∈ (s.unsent false).map (·.seq)) then { r with sent := true } else r) }

/-- What the first of the two frames leaves for the second. -/
structure FirstSent (s v : State) : Prop where
  builds : v.builds false = s.builds false
  unsent : v.unsent false = s.unsent false
  room : ∀ l, (s.port l).roomFor false → (v.port l).roomFor false
  urgent : s.builds true = true → ∀ l, (s.port l).roomFor true → s.eventFrame true ∈ (v.port l).normal
  seq : v.links.eventSeq = if s.builds true then step16 s.links.eventSeq else s.links.eventSeq
  own : v.ownAddress = s.ownAddress
  events : v.events = if s.builds true then s.events.markSent ((s.unsent true).map (·.seq)) else s.events

theorem LinkPort.offered_room {p : LinkPort} {f : OutFrame} : (p.offered true f).roomFor false ↔ p.roomFor false := by
  rw [LinkPort.roomFor, LinkPort.roomFor, LinkPort.offered_up, LinkPort.offered_bulk]
  exact Iff.rfl

theorem State.sendEvents_first (hn : (s.events.records.map (·.seq)).Nodup) : FirstSent s (s.sendEvents true) := by
  cases hb : s.builds true with
  | false =>
    rw [State.sendEvents_unbuilt hb]
    exact
      { builds := rfl, unsent := rfl, room := fun _ h => h, urgent := fun h => absurd (hb.symm.trans h) (by decide)
        seq := by rw [hb]; rfl
        own := rfl
        events := by rw [hb]; rfl }
  | true =>
    rw [State.sendEvents_built hb]
    have hunsent : (s.eventSent true).unsent false = s.unsent false := State.unsent_ordinary hn rfl
    have hroom : (s.eventSent true).eventRoom false = s.eventRoom false := by
      rw [Bool.eq_iff_iff, State.eventRoom_iff, State.eventRoom_iff]
      exact or_congr LinkPort.offered_room LinkPort.offered_room
    exact
      { builds := by rw [State.builds, State.builds, hunsent, hroom]
        unsent := hunsent
        room := fun l h => by cases l <;> exact LinkPort.offered_room.2 h
        urgent := fun _ l h => by
          cases l
          · exact LinkPort.offered_has h
          · exact LinkPort.offered_has h
        seq := by rw [hb]; rfl
        own := rfl
        events := by rw [hb]; rfl }

theorem FirstSent.second {v : State} (h : FirstSent s v) : Attempted s (v.sendEvents false) := by
  have hrecords : v.events = { s.events with records := s.events.records.map (fun r =>
      if s.builds true = true ∧ r.seq ∈ (s.unsent true).map (·.seq) then { r with sent := true } else r) } := by
    rw [h.events]
    cases s.builds true with
    | false => simp
    | true => simp [EventQueue.markSent]
  cases hb : s.builds false with
  | false =>
    rw [State.sendEvents_unbuilt (h.builds.trans hb)]
    exact
      { urgent := h.urgent
        ordinary := fun hf => absurd (hb.symm.trans hf) (by decide)
        seq := by rw [hb]; exact h.seq
        events := by simpa [hb] using hrecords }
  | true =>
    rw [State.sendEvents_built (h.builds.trans hb)]
    have hframe : v.eventFrame false = { s.eventFrame false with
        seq := if s.builds true then step16 s.links.eventSeq else s.links.eventSeq } := by
      rw [State.eventFrame, State.eventFrame, h.own, h.unsent, h.seq]
    exact
      { urgent := fun hu l hroom => by
          have hin := h.urgent hu l hroom
          cases l
          · show _ ∈ (v.links.a.offered false _).normal
            rw [LinkPort.offered_normal]
            exact hin
          · show _ ∈ (v.links.b.offered false _).normal
            rw [LinkPort.offered_normal]
            exact hin
        ordinary := fun _ l hroom => by
          have hplace := LinkPort.offered_has (f := v.eventFrame false) (h.room l hroom)
          rw [← hframe]
          cases l
          · exact hplace
          · exact hplace
        seq := by rw [hb, ← h.seq]; rfl
        events := by
          show v.events.markSent _ = _
          rw [hrecords, h.unsent, EventQueue.markSent]
          simp only [List.map_map, hb, true_and]
          congr 1
          refine List.map_congr_left fun r _ => ?_
          simp only [Function.comp, List.contains_eq_mem, decide_eq_true_eq]
          by_cases h₁ : s.builds true = true ∧ r.seq ∈ (s.unsent true).map (·.seq)
          · rw [if_pos h₁, if_pos (Or.inl h₁)]
            exact ite_self _
          · rw [if_neg h₁]
            exact if_congr (or_iff_right h₁).symm rfl rfl }

/-- A send attempt, where no two records have one number. -/
theorem State.sendAttempt_attempted (hn : (s.events.records.map (·.seq)).Nodup) : Attempted s s.sendAttempt :=
  (State.sendEvents_first hn).second

/-! ### The send attempt while no source moves -/

theorem State.evaluateSource_unmoved {x : Nat} (hx : (s.source x).state = .unverified)
    (hv : (s.stream (s.fld .source x 1)).valid = false) : State.evaluateSource x s = s := by
  unfold State.evaluateSource
  dsimp only
  split
  · rfl
  · rw [hv, hx]
    rfl

theorem State.sourced_unmoved (h : ∀ x < 3, (s.source x).state = .unverified ∧ (s.stream (s.fld .source x 1)).valid = false) :
    s.sourced = s := by
  have hstep : ∀ x < 3, State.evaluateSource x s = s := fun x hx => State.evaluateSource_unmoved (h x hx).1 (h x hx).2
  have hall : ∀ ns : List Nat, (∀ x ∈ ns, x < 3) → s.forEach ns State.evaluateSource = s := fun ns => by
    induction ns with
    | nil => exact fun _ => rfl
    | cons x xs ih =>
      intro hlt
      rw [State.forEach, List.foldl_cons, hstep x (hlt x List.mem_cons_self)]
      exact ih fun y hy => hlt y (List.mem_cons_of_mem _ hy)
  exact hall _ fun x hx => List.mem_range.1 hx

/-- Settles the sixth part of O16. -/
theorem advanceSendsEvents : Clause.AdvanceSendsEvents := by
  intro s hs h h7 hstill hn first room built frame next
  have ht := s.ticked_ticked
  have hintake := s.ticked_intake fun _ => h7
  have hadvance : s.advanceOnce = s.ticked.sourced.advanceGens.sendAttempt := s.advanceOnce_eq
  have hplain : exec .instantAdvance s = finish s s.advanceOnce := congrArg (finish s) (State.advanceInstant_plain h)
  generalize s.ticked = a at *
  have hsourced : a.sourced = a := State.sourced_unmoved fun x hx => by
    obtain ⟨hstate, hvalid⟩ := hstill x hx
    rw [State.source, ht.seq, State.stream, hintake, State.fld, ht.mgmt]
    exact ⟨hstate, hvalid⟩
  rw [hsourced] at hadvance
  have haged : GensAged a a.advanceGens := State.advanceGens_aged (by rw [ht.par]; exact hs.gens_length)
  generalize a.advanceGens = c at *
  have hevents : c.events = s.events := by rw [haged.eq]; exact ht.events
  have hlinks : c.links = a.links := by rw [haged.eq]
  have hmgmt : c.mgmt = s.mgmt := by rw [haged.eq]; exact ht.mgmt
  have hset : ∀ g, c.setpointOf g = s.setpointOf g := fun g =>
    (haged.setpointOf g).trans (State.setpointOf_congr (by rw [ht.par]) (by rw [ht.mgmt]) g)
  have hwork : c.work = [] := by rw [haged.eq]; exact ht.work.trans hs.1
  have hattempt : Attempted c c.sendAttempt := State.sendAttempt_attempted (by rw [hevents]; exact hn)
  obtain ⟨x, seqs, seqs', hsend⟩ := c.sendAttempt_eq
  have hend : ∃ es b, finish s c.sendAttempt = .next (c.sendAttempt.endedWith es b) :=
    ⟨_, _, congrArg Host.Outcome.next (State.settle_steady (by rw [hsend]; exact hwork)
      (fun g => by rw [hsend]; exact hset g))⟩
  obtain ⟨es, b, hend⟩ := hend
  rw [hadvance, hend] at hplain
  have hunsent : ∀ u, c.unsent u = first u := fun u => by rw [State.unsent, hevents]; rfl
  have hroom : ∀ u l, (c.port l).roomFor u ↔ room u l := fun u l => by
    cases l
    · show c.links.a.roomFor u ↔ _
      rw [hlinks, ht.queues]
      exact Iff.rfl
    · show c.links.b.roomFor u ↔ _
      rw [hlinks, ht.queues]
      exact Iff.rfl
  have hbuilt : ∀ u, c.builds u = built u := fun u => by
    rw [Bool.eq_iff_iff, State.builds_iff, hunsent, decide_eq_true_iff]
    exact and_congr_right fun _ => or_congr (hroom u .a) (hroom u .b)
  have hseq : c.links.eventSeq = s.links.eventSeq := by rw [hlinks, ht.queues]
  have hown : c.ownAddress = s.station 1 := by rw [State.ownAddress, State.station, State.fld, hmgmt]; rfl
  have hframe : ∀ u, c.eventFrame u = frame u s.links.eventSeq := fun u => by
    rw [State.eventFrame, hown, hseq, hunsent]
  generalize c.sendAttempt = d at *
  have hurgent := hattempt.urgent
  have hordinary := hattempt.ordinary
  have hcount := hattempt.seq
  have hmarks := hattempt.events
  rw [hbuilt, hframe] at hurgent
  rw [hbuilt, hbuilt, hframe, hseq] at hordinary
  rw [hbuilt, hbuilt, hseq] at hcount
  rw [hbuilt, hbuilt, hunsent, hunsent, hevents] at hmarks
  exact ⟨_, hplain, fun hb l hl => hurgent hb l ((hroom true l).2 hl), fun hb l hl => hordinary hb l ((hroom false l).2 hl),
    hcount, hmarks⟩

/-- Settles O16. -/
theorem counterAdvancesAndTrackingEnds : Obligations.CounterAdvancesAndTrackingEnds :=
  ⟨trackingEndsInHoldover, advanceStepsTheCounter, advanceStepsBreakersAndPlan, advanceStepsTheGenerators,
    sourcesAreEvaluated, advanceSendsEvents, queueTakesARecord⟩

end

end Sys2Proof.Machine
end

section
/-! # A state but for its queues and its records -/

namespace Sys2Proof.Machine

section
variable {s t u v : State} {g b : Nat}

/-! ### A state but for its queues, its records and the rises noted -/

/-- What is left of a state without the queues of the links, the event records and the rises noted. -/
def State.core (s : State) : State := { s with links := default, events := default, risen := [] }

theorem State.core_modBrk (f : BreakerRec → BreakerRec) : (s.modBrk b f).core = s.core.modBrk b f := rfl
theorem State.core_modGen (f : GenRec → GenRec) : (s.modGen g f).core = s.core.modGen g f := rfl
theorem State.core_modPar (f : Paralleling → Paralleling) : (s.modPar f).core = s.core.modPar f := rfl
theorem State.core_setChannel (c : Nat) (x : Option SyncRun) : (s.setChannel c x).core = s.core.setChannel c x := rfl
theorem State.core_modSeq (f : Sequencer → Sequencer) : (s.modSeq f).core = s.core.modSeq f := rfl
theorem State.core_post (w : Work) : (s.post w).core = s.core.post w := rfl
theorem State.core_noting : (t.noting s).core = s.core := rfl
theorem State.core_sendCommand (a : Action) (tag : Nat) (o : Origins) : (s.sendCommand b a tag o).core = s.core := rfl
theorem State.core_withdrawFrame (tag : Nat) : (s.withdrawFrame b tag).core = s.core := rfl

theorem State.core_event (c : EventClass) (priority object code : Nat) (value : Option Nat) :
    (s.event c priority object code value).core = s.core := by
  obtain ⟨x, seqs, -, e⟩ := s.event_eq c priority object code value
  rw [e]
  rfl

theorem State.core_withoutFrames (c : Command) : (s.withoutFrames b c).core = s.core := by
  rw [State.withoutFrames]
  split <;> rfl

theorem State.core_slotted (c : Command) : (s.slotted b c).core = s.core.slotted b c := rfl

theorem State.core_dropRequest (p : Party) : (s.dropRequest p).core = s.core.dropRequest p := rfl

theorem State.core_freeToken (p : Party) : (s.freeToken p).core = s.core.freeToken p := by
  rw [State.freeToken, State.freeToken]
  show _ = if s.par.token == some p then _ else _
  split <;> rfl

theorem State.core_leaveToken (p : Party) : (s.leaveToken p).core = s.core.leaveToken p := by
  rw [State.leaveToken, State.core_freeToken, State.core_dropRequest, State.leaveToken]

theorem State.core_clearBiases (gs : List Nat) : (s.clearBiases gs).core = s.core.clearBiases gs := by
  rw [State.clearBiases, State.clearBiases, State.forEach, State.forEach]
  induction gs generalizing s with
  | nil => rfl
  | cons x xs ih => exact ih

theorem State.core_endRun (c : Nat) : (s.endRun c).core = s.core.endRun c := by
  rw [State.endRun, State.endRun]
  show _ = match s.channel c with
    | none => _
    | some r => _
  cases s.channel c with
  | none => rfl
  | some r =>
    have hclear : ((s.clearBiases r.wrote).setChannel c none).core = (s.core.clearBiases r.wrote).setChannel c none := by
      rw [State.core_setChannel, State.core_clearBiases]
    dsimp only
    rw [← hclear]
    split <;> rfl

/-- A command's own record and event. -/
theorem State.core_commandEnded (c : Command) (o : Outcome) : (s.commandEnded b c o).core = s.core.modBrk b (·.ended o) := by
  rw [State.commandEnded, State.core_event, State.core_modBrk, State.core_withoutFrames]

/-- A generator's change of state and its event. -/
theorem State.core_genEntered (new : GenState) : (s.genEntered g new).core = (s.core.modGen g (fun r => r.enter new)).modPar (fun p =>
    { p with waitList := p.waitList.filter (· != g), demandDue := true }) := by
  rw [State.genEntered, State.core_event]
  rfl

theorem State.core_commandIssued (c : Command) : (s.commandIssued b c).core = s.core.modBrk b (fun r =>
    { r.tagged (fun c n => { c with tag := n, phase := .sent, left := false, timer := 0 }) with issued := step32 r.issued }) := rfl

/-! ### A command of a generator ends (R109, R158, R163) -/

/-- The outcome is handed to the unit, and what the conclusion of a close means to its token and its run. -/
theorem State.endCommand_returned {c : Command} (h : (s.brk b).slot = some c) (o : Outcome)
    (ho : c.origins = { paralleling := true }) (hg : c.generator = some g) : s.endCommand b o =
      ((s.commandEnded b c o).post (.genOutcome g b c.action c.closeKind o)).concludeClose b c := by
  rw [State.endCommand_eq h, State.returnOutcome, ho, hg]
  rfl

/-- A withdrawn close comes back to a generator that waits no longer. -/
theorem State.genOutcome_withdrawn (k : CloseKind) : s.genOutcome g b .closing k .withdrawn = s := by
  rw [State.genOutcome]
  split
  · rfl
  · split <;> rfl

/-- Nobody is granted a token that is held or that nobody waits for. -/
theorem State.handle_tokenHeld {p : Party} (h : s.par.token = some p) : State.handle s .tokenGrant = s := by
  show s.grantToken = s
  rw [State.grantToken, h]

theorem State.handle_channelFree (h : s.par.waitList = []) : State.handle s .channelFree = s := by
  show State.serveWaiting 8 s = s
  rw [State.serveWaiting, h]
  cases s.freeChannel <;> rfl

/-! ### The runs of a client (R160, R163) -/

theorem find?_unique {α : Type} {p : α → Bool} {l : List α} {k : α} (hk : k ∈ l) (hp : p k = true)
    (h : ∀ j ∈ l, p j = true → j = k) : l.find? p = some k := by
  obtain ⟨x, hx⟩ := Option.isSome_iff_exists.1 (List.find?_isSome.2 ⟨k, hk, hp⟩)
  rw [hx, h x (List.mem_of_find?_eq_some hx) (List.find?_some hx)]

theorem State.channelOf_none {p : Party} (h : ∀ c < 4, ∀ r, s.channel c = some r → r.client ≠ p) : s.channelOf p = none := by
  refine List.find?_eq_none.2 fun c hc hany => ?_
  obtain ⟨r, hr, hclient⟩ := Option.any_eq_true _ _ |>.1 hany
  exact h c (List.mem_range.1 hc) r hr (beq_iff_eq.1 hclient)

theorem State.channelOf_some {p : Party} {k : Nat} {r : SyncRun} (hk : k < 4) (hr : s.channel k = some r) (hc : r.client = p)
    (h : ∀ c < 4, c ≠ k → ∀ r, s.channel c = some r → r.client ≠ p) : s.channelOf p = some k := by
  refine find?_unique (List.mem_range.2 hk) (by rw [hr]; simp [hc]) fun c hm hany => ?_
  by_contra hne
  obtain ⟨x, hx, hclient⟩ := Option.any_eq_true _ _ |>.1 hany
  exact h c (List.mem_range.1 hm) hne x hx (beq_iff_eq.1 hclient)

theorem State.channelFor_of {p : Party} {k : Nat} {r : SyncRun} (hk : k < 4) (hr : s.channel k = some r) (hc : r.client = p)
    (hb : r.breaker = b) (h : ∀ c < 4, c ≠ k → ∀ r, s.channel c = some r → r.client ≠ p) : s.channelFor p b = some k := by
  refine find?_unique (List.mem_range.2 hk) (by rw [hr]; simp [hc, hb]) fun c hm hany => ?_
  by_contra hne
  obtain ⟨x, hx, hboth⟩ := Option.any_eq_true _ _ |>.1 hany
  exact h c (List.mem_range.1 hm) hne x hx (beq_iff_eq.1 (Bool.and_eq_true_iff.1 hboth).1)

theorem State.channelFor_none {p : Party} (h : ∀ c < 4, ∀ r, s.channel c = some r → r.client = p → r.breaker ≠ b) :
    s.channelFor p b = none := by
  refine List.find?_eq_none.2 fun c hc hany => ?_
  obtain ⟨r, hr, hboth⟩ := Option.any_eq_true _ _ |>.1 hany
  obtain ⟨hclient, hbreaker⟩ := Bool.and_eq_true_iff.1 hboth
  exact h c (List.mem_range.1 hc) r hr (beq_iff_eq.1 hclient) (beq_iff_eq.1 hbreaker)

/-! ### A generator leaves its attempt (R155) -/

/-- The close in the slot is one that waits, of generator `g`. -/
def State.Queued (s : State) (b g : Nat) (c : Command) : Prop :=
  (s.brk b).slot = some c ∧ c.action = .closing ∧ c.phase = .queued ∧ c.requester = .party (.generator g) ∧
    c.origins = { paralleling := true } ∧ c.generator = some g

/-- No close waits in the slot that generator `g` has asked for. -/
def State.Unqueued (s : State) (b g : Nat) : Prop :=
  ∀ c, (s.brk b).slot = some c → c.action = .closing → c.phase = .queued → c.requester ≠ .party (.generator g)

theorem State.withdrawClose_none (h : s.Unqueued b g) : s.withdrawClose b (.generator g) = s := by
  rw [State.withdrawClose]
  split
  · rfl
  · next c hc =>
    refine if_neg fun hall => ?_
    obtain ⟨hboth, hr⟩ := Bool.and_eq_true_iff.1 hall
    obtain ⟨ha, hq⟩ := Bool.and_eq_true_iff.1 hboth
    exact h c hc (beq_iff_eq.1 ha) (beq_iff_eq.1 hq) (beq_iff_eq.1 hr)

/-- The state in which a generator's queued close has been withdrawn and its outcome handed back. -/
def State.closeWithdrawn (s : State) (b g : Nat) (c : Command) : State :=
  (s.commandEnded b c .withdrawn).post (.genOutcome g b .closing c.closeKind .withdrawn)

theorem State.core_closeWithdrawn (c : Command) : (s.closeWithdrawn b g c).core =
    (s.core.modBrk b (·.ended .withdrawn)).post (.genOutcome g b .closing c.closeKind .withdrawn) := by
  rw [State.closeWithdrawn, State.core_post, State.core_commandEnded]

/-- A DEAD close that is withdrawn frees the token (R158). -/
theorem State.withdrawClose_dead {c : Command} (h : s.Queued b g c) (hk : c.closeKind = .dead) :
    s.withdrawClose b (.generator g) = (s.closeWithdrawn b g c).freeToken (.generator g) := by
  obtain ⟨hslot, ha, hq, hr, ho, hg⟩ := h
  rw [State.withdrawClose, hslot]
  dsimp only
  rw [if_pos (by simp [ha, hq, hr]), State.endCommand_returned hslot _ ho hg, State.concludeClose, ha, hr, hk,
    State.closeWithdrawn, hk]

/-- A SYNC close that is withdrawn ends its run (R163). -/
theorem State.withdrawClose_sync {c : Command} (h : s.Queued b g c) (hk : c.closeKind = .sync) :
    s.withdrawClose b (.generator g) = (s.closeWithdrawn b g c).endRunOf (.generator g) b := by
  obtain ⟨hslot, ha, hq, hr, ho, hg⟩ := h
  rw [State.withdrawClose, hslot]
  dsimp only
  rw [if_pos (by simp [ha, hq, hr]), State.endCommand_returned hslot _ ho hg, State.concludeClose, ha, hr, hk,
    State.closeWithdrawn, hk]

theorem State.leaveRun_none {p : Party} (h : s.channelOf p = none) : s.leaveRun p = s := by
  rw [State.leaveRun, h]

/-- A generator in an attempt is not yet loaded. -/
theorem GenState.loaded_of_attempting (x : GenState) : x.attempting = true → x.loaded = false := by
  cases x <;> decide

/-- A generator that comes to READY from an attempt has left its run, its queued close and the token. -/
theorem State.genEnter_ready (hg : g < (s.leaveAttempt g).par.gens.length) (ha : (s.gen g).state.attempting = true)
    (hsame : ((s.leaveAttempt g).gen g).state = (s.gen g).state) (hd : ((s.leaveAttempt g).gen g).deferred = false) :
    s.genEnter g .ready = (s.leaveAttempt g).genEntered g .ready := by
  have hne : (s.gen g).state ≠ .ready := fun he => by rw [he] at ha; exact absurd ha (by decide)
  have hl : (s.gen g).state.loaded = false := GenState.loaded_of_attempting _ ha
  have hmove : s.genMove g .ready = (s.leaveAttempt g).genEntered g .ready := by
    have hplain : ∀ v : State, v.opensFor g .ready = v := fun v => State.opensFor_other (by decide) (by decide)
    have hentered : (s.leaveAttempt g).genEntered g .ready = ((s.leaveAttempt g).noting (((s.leaveAttempt g).modGen g
        (fun r => r.enter .ready)).modPar (fun p => { p with waitList := p.waitList.filter (· != g), demandDue := true }))).event
          .generator (genPriority (s.gen g).state .ready) g 1 (some GenState.ready.code) := by
      rw [State.genEntered, hsame]
    have hleaves : ((s.gen g).state.attempting && !GenState.ready.attempting) = true := by rw [ha]; rfl
    rw [hentered]
    unfold State.genMove
    dsimp only
    rw [if_neg (by simpa using hne), hleaves, hl, if_pos (c := true = true) rfl,
      if_neg (c := (false || GenState.ready.loaded) = true) (by decide)]
    generalize s.leaveAttempt g = v
    exact hplain _
  rw [State.genEnter_eq, hmove]
  rw [hmove, State.genEntered_gen_same hg]
  exact hd

/-- With no run and no close that waits the generator leaves the token alone. -/
theorem State.leaveAttempt_token (hrun : s.channelOf (.generator g) = none) (hq : s.Unqueued (s.genBreaker g) g) :
    s.leaveAttempt g = s.leaveToken (.generator g) := by
  rw [State.leaveAttempt, State.leaveRun_none hrun, State.withdrawClose_none hq]

end

end Sys2Proof.Machine
end

section
/-! # O40: the dead check runs out -/

namespace Sys2Proof.Machine

section
variable {s t u v : State} {g b : Nat} {c : Command}

/-! ### Back to READY (R155, R157) -/

/-- A generator's record back in READY with its retry timer at `n`. -/
def GenRec.retrying (r : GenRec) (n : Nat) : GenRec := { r with state := .ready, retryTimer := n, retryDue := false }

/-- What a generator that is back in READY without a run or a queued close has given back. -/
theorem State.genRetry_core (hg : g < s.par.gens.length) (ha : (s.gen g).state.attempting = true) (hd : (s.gen g).deferred = false)
    (hrun : s.channelOf (.generator g) = none) (hq : s.Unqueued (s.genBreaker g) g) : (s.genRetry g).core =
      ((s.core.leaveToken (.generator g)).modGen g (·.retrying (s.correctionInterval g))).modPar (fun p =>
        { p with waitList := p.waitList.filter (· != g), demandDue := true }) := by
  let w := s.modGen g (fun r => { r with retryTimer := s.correctionInterval g, retryDue := false })
  have hgen : w.gen g = { s.gen g with retryTimer := s.correctionInterval g, retryDue := false } :=
    State.gen_modGen_same _ _ hg
  have hleave : w.leaveAttempt g = w.leaveToken (.generator g) := State.leaveAttempt_token hrun hq
  have hpar : (w.leaveAttempt g).par.gens = w.par.gens := by
    rw [hleave, State.leaveToken, State.freeToken]
    split <;> rfl
  have hsame : (w.leaveAttempt g).gen g = w.gen g := by rw [State.gen, hpar, State.gen]
  have hentered := State.genEnter_ready (s := w) (g := g) (by rw [hpar]; exact (List.length_modify ..).symm ▸ hg)
    (by rw [hgen]; exact ha) (by rw [hsame]) (by rw [hsame, hgen]; exact hd)
  have hcommute : (w.core.leaveToken (.generator g)).modGen g (fun r => r.enter .ready) =
      (s.core.leaveToken (.generator g)).modGen g (·.retrying (s.correctionInterval g)) := by
    have hw : w.core.leaveToken (.generator g) = (s.core.leaveToken (.generator g)).modGen g
        (fun r => { r with retryTimer := s.correctionInterval g, retryDue := false }) := by
      rw [State.leaveToken, State.leaveToken, State.freeToken, State.freeToken]
      show (if s.par.token == _ then _ else _) = State.modGen (if s.par.token == _ then _ else _) g _
      split <;> rfl
    rw [hw, State.modGen_modGen]
    rfl
  change (w.genEnter g .ready).core = _
  rw [hentered, State.core_genEntered, hleave, State.core_leaveToken, hcommute]

/-- A setpoint record that stands, where the state changes to another that gives the same. -/
theorem State.setpointOf_both (htables : u.mgmt.tables = s.mgmt.tables) (hs : (s.gen g).state ≠ .absent)
    (hu : (u.gen g).state ≠ .absent) (hset : (u.gen g).setpoint = (s.gen g).setpoint) : u.setpointOf g = s.setpointOf g := by
  have hconf : u.genConfigured g = s.genConfigured g := by
    rw [State.genConfigured, State.genConfigured, State.fld, State.fld, htables]
  rw [State.setpointOf_eq, State.setpointOf_eq, hconf, hset]
  simp [hs, hu]

/-! ### The dead check runs out (R159) -/

/-- The record of a generator after its first dead-close failure. -/
def GenRec.deadFailed (r : GenRec) (n : Nat) : GenRec := { r.retrying n with deadFailures := 1 }

/-- What the expiry of the dead check makes of a state: the queued close is withdrawn, the token free, and its grant to
come. -/
structure CheckExpired (s u : State) (g b : Nat) : Prop where
  work : u.work = [.genOutcome g b .closing .dead .withdrawn, .tokenGrant]
  hushed : u.hushed = s.hushed
  recs : u.breakers.recs = s.breakers.recs.modify b (·.ended .withdrawn)
  gens : u.par.gens = s.par.gens.modify g (·.deadFailed (s.fld .sync g 11))
  token : u.par.token = none
  tokenList : u.par.tokenList = s.par.tokenList.filter (· != .generator g)
  seq : u.seq = s.seq
  mgmt : u.mgmt = s.mgmt
  lines : u.lines = s.lines
  measures : u.measures = s.measures

theorem State.deadCheckExpiry_expired (hw : s.work = []) (hg : g < s.par.gens.length) (hb : s.genBreaker g < s.breakers.recs.length)
    (hstate : (s.gen g).state = .closing) (hd : (s.gen g).deferred = false) (hq : s.Queued (s.genBreaker g) g c)
    (hk : c.closeKind = .dead) (ht : s.par.token = some (.generator g)) (hruns : s.channelOf (.generator g) = none)
    (htimer : 288 ≤ (s.gen g).deadTimer) (hf : (s.gen g).deadFailures = 0) :
    CheckExpired s (s.deadCheckExpiry g) g (s.genBreaker g) := by
  have hdue : s.deadQueued g = true := by
    obtain ⟨hslot, ha, hphase, hr, -, -⟩ := hq
    rw [State.deadQueued, State.closeQueued, hslot]
    simp [ha, hphase, hr, hk]
  have hexpiry : s.deadCheckExpiry g = (s.withdrawClose (s.genBreaker g) (.generator g)).deadFailure g := by
    rw [State.deadCheckExpiry]
    exact if_pos (by simp [hstate, hdue, Config.deadCheckInstants, htimer])
  have hcore : (s.withdrawClose (s.genBreaker g) (.generator g)).core =
      (((s.core.modBrk (s.genBreaker g) (·.ended .withdrawn)).post
        (.genOutcome g (s.genBreaker g) .closing .dead .withdrawn)).modPar (fun p => { p with token := none })).post .tokenGrant := by
    rw [State.withdrawClose_dead hq hk, State.core_freeToken, State.core_closeWithdrawn, State.freeToken, hk]
    exact if_pos (by show (s.par.token == _) = true; simp [ht])
  rw [hexpiry]
  generalize s.withdrawClose (s.genBreaker g) (.generator g) = w at hcore
  have hgens : w.par.gens = s.par.gens := by
    show w.core.par.gens = _
    rw [hcore]
    rfl
  have hgen : w.gen g = s.gen g := by rw [State.gen, hgens, State.gen]
  have hfld : ∀ x e id, w.fld x e id = s.fld x e id := fun x e id => by
    show w.core.fld x e id = _
    rw [hcore]
    rfl
  have hlen : g < w.par.gens.length := hgens.symm ▸ hg
  let v := w.modGen g (fun r => { r with deadFailures := 1 })
  have hvgen : v.gen g = { s.gen g with deadFailures := 1 } := by
    show (w.modGen g _).gen g = _
    rw [State.gen_modGen_same _ _ hlen, hgen]
  have hfailure : w.deadFailure g = v.genRetry g := by
    rw [State.deadFailure, hgen, hf]
    rfl
  have hslot : (v.brk (s.genBreaker g)).slot = none := by
    have hbrk : v.brk (s.genBreaker g) = (s.brk (s.genBreaker g)).ended .withdrawn := by
      show w.core.brk _ = _
      rw [hcore]
      exact State.brk_modBrk_same s.core (·.ended .withdrawn) hb
    rw [hbrk]
    rfl
  have hbreaker : v.genBreaker g = s.genBreaker g := hfld ..
  have hchannel : v.channelOf (.generator g) = none := by
    rw [← hruns]
    show w.core.channelOf _ = _
    rw [hcore]
    rfl
  have hinterval : v.correctionInterval g = s.fld .sync g 11 := hfld ..
  have hretry := State.genRetry_core (s := v) (g := g) ((List.length_modify ..).symm ▸ hlen) (by rw [hvgen]; show GenState.attempting (s.gen g).state = true; rw [hstate]; rfl)
    (by rw [hvgen]; exact hd) hchannel (by rw [hbreaker]; intro c hc; rw [hslot] at hc; cases hc)
  have hcore' : (v.genRetry g).core = { s.core with
      work := [.genOutcome g (s.genBreaker g) .closing .dead .withdrawn, .tokenGrant]
      breakers := { s.breakers with recs := s.breakers.recs.modify (s.genBreaker g) (·.ended .withdrawn) }
      par := { s.par with
        gens := s.par.gens.modify g (·.deadFailed (s.fld .sync g 11))
        token := none
        tokenList := s.par.tokenList.filter (· != .generator g)
        waitList := s.par.waitList.filter (· != g)
        demandDue := true } } := by
    rw [hretry, hinterval]
    show (((w.core.modGen g _).leaveToken _).modGen g _).modPar _ = _
    rw [hcore, State.leaveToken, State.freeToken]
    refine (congrArg (fun x : State => (x.modGen g _).modPar _) (if_neg (show ¬ _ from ?_))).trans ?_
    · exact Bool.false_ne_true
    · simp only [State.modGen, State.modPar, State.post, State.dropRequest, State.modBrk, List.modify_modify_eq]
      rw [show s.core.work = [] from hw]
      rfl
  rw [hfailure]
  generalize v.genRetry g = u at hcore'
  have hpart : ∀ {α : Type} (f : State → α), f u.core = f _ := fun f => congrArg f hcore'
  exact
    { work := hpart State.work
      hushed := hpart State.hushed
      recs := hpart (·.breakers.recs)
      gens := hpart (·.par.gens)
      token := hpart (·.par.token)
      tokenList := hpart (·.par.tokenList)
      seq := hpart State.seq
      mgmt := hpart State.mgmt
      lines := hpart State.lines
      measures := hpart State.measures }

namespace CheckExpired

theorem gen_same (h : CheckExpired s u g b) (hg : g < s.par.gens.length) : u.gen g = (s.gen g).deadFailed (s.fld .sync g 11) := by
  rw [State.gen, h.gens]
  exact nth_modify_same _ hg

theorem gen_other (h : CheckExpired s u g b) {j : Nat} (hj : j ≠ g) : u.gen j = s.gen j := by
  rw [State.gen, h.gens]
  exact nth_modify_other _ _ hj.symm

theorem brk_same (h : CheckExpired s u g b) (hb : b < s.breakers.recs.length) : u.brk b = (s.brk b).ended .withdrawn := by
  rw [State.brk, h.recs]
  exact nth_modify_same _ hb

theorem brk_other (h : CheckExpired s u g b) {a : Nat} (ha : a ≠ b) : u.brk a = s.brk a := by
  rw [State.brk, h.recs]
  exact nth_modify_other _ _ ha.symm

theorem tends (h : CheckExpired s u g b) (hs : s.Quiet) : Tends s { u with work := [] } g where
  work := rfl
  hushed := h.hushed.trans hs.2.2.1
  tables := congrArg Management.tables h.mgmt
  count := by
    show u.par.gens.length = 8
    rw [h.gens, List.length_modify, hs.gens_length]
  others _ hj := h.gen_other hj

/-- A generator that is back in READY has its setpoint as it was. -/
theorem setpointOf (h : CheckExpired s u g b) (hg : g < s.par.gens.length) (hstate : (s.gen g).state = .closing) :
    u.setpointOf g = s.setpointOf g := by
  have hown := h.gen_same hg
  refine State.setpointOf_both (congrArg Management.tables h.mgmt) (by rw [hstate]; decide) (by rw [hown]; exact nofun) ?_
  rw [hown, GenRec.setpoint, GenRec.setpoint, hstate]
  rfl

end CheckExpired

/-- A piece of work that finds nothing to do. -/
theorem Drains.skip {n : Nat} {w : Work} {ws : List Work} (h : u.work = w :: ws)
    (hidle : State.handle { u with work := [] } w = { u with work := [] }) (hrest : Drains n { u with work := ws } v) :
    Drains (n + 1) u v := by
  refine .piece h ?_
  rw [hidle]
  exact hrest

theorem State.handle_withdrawnClose (k : CloseKind) : State.handle s (.genOutcome g b .closing k .withdrawn) = s :=
  State.genOutcome_withdrawn k

end

/-- Settles the first part of O40. -/
theorem deadCheckRunsOut : Clause.DeadCheckRunsOut := by
  intro s g c hs hg b hb hconf hstate hslot ha hk hq hr ho hgen hd ht hlist hruns
  refine ⟨fun htimer => ?_, fun htimer hf => ?_⟩
  · have hidle : s.deadCheckExpiry g = s := by
      rw [State.deadCheckExpiry]
      exact if_neg (by simp [Config.deadCheckInstants, Nat.not_le.2 htimer])
    exact (congrArg (finish s) hidle).trans (finish_idle hs)
  · have hlen : g < s.par.gens.length := hs.gens_length.symm ▸ hg
    have hlenb : b < s.breakers.recs.length := hs.lt_recs hb
    have hexpired := State.deadCheckExpiry_expired hs.1 hlen hlenb hstate hd ⟨hslot, ha, hq, hr, ho, hgen⟩ hk ht
      (State.channelOf_none fun k hk r hr' => by rw [hruns k hk] at hr'; cases hr') htimer hf
    have hexec : exec (.deadCheckTimeout g) s = finish s (s.deadCheckExpiry g) := rfl
    generalize s.deadCheckExpiry g = u at *
    have hempty : u.par.tokenList = [] := by
      rw [hexpired.tokenList, hlist]
      rfl
    have hdrains : Drains 2 u { u with work := [] } :=
      .skip hexpired.work (State.handle_withdrawnClose _) (.skip rfl (State.handle_tokenGrant hempty) (.done rfl))
    obtain ⟨es, y, hend⟩ := (hexpired.tends hs).finish_still (.inl (hexpired.setpointOf hlen hstate))
    have hexec' := hexec.trans ((congrArg Host.Outcome.next hdrains.settle).trans hend)
    refine ⟨_, hexec', hexpired.brk_same hlenb, fun a hab => hexpired.brk_other hab, ?_, fun j hj => hexpired.gen_other hj,
      hexpired.token, (hs.only _ hexec').of_seq hexpired.seq⟩
    exact (hexpired.gen_same hlen).trans (by rw [GenRec.deadFailed, GenRec.retrying])


end Sys2Proof.Machine
end

section
/-! # O40: an outcome that leaves other runs -/

namespace Sys2Proof.Machine

section
variable {s t u v : State} {g b : Nat} {c : Command}

/-! ### An accepted close runs out of time (R108) -/

theorem State.limitExpiry_fails (hslot : (s.brk b).slot = some c) (hphase : c.phase = .accepted) (ha : c.action = .closing)
    (hiso : s.fld .breaker b 21 ≠ 1) (ht : s.fld .breaker b 11 ≤ c.timer) : s.limitExpiry b = s.endCommand b .failed := by
  have hlimit : s.commandLimit b c.action = s.fld .breaker b 11 := by
    rw [ha]
    rfl
  rw [State.limitExpiry, hslot]
  dsimp only
  rw [if_neg (by simp [State.isolated_eq_false hiso, hphase, hlimit, ht])]

theorem State.seq_running {r : PlanRun} (h : s.run? = some r) : s.seq.state = .running r := by
  rw [State.run?] at h
  split at h
  · next hstate => rw [hstate, Option.some.inj h]
  · cases h

/-- An outcome of a breaker that is not the running step's has no effect on the plan. -/
theorem State.seqOutcome_other (h : ∀ x, s.seq.state = .running x → s.stepField x.plan x.step 1 ≠ b) (a : Action) (o : Outcome) :
    s.seqOutcome b a o = s := by
  unfold State.seqOutcome
  split
  · rfl
  · next r hr =>
    have hother : s.stepBreaker r ≠ b := h r (State.seq_running hr)
    exact if_pos (by simp [hother])

end

/-- Settles the last part of O40. -/
theorem outcomeLeavesOtherRuns : Clause.OutcomeLeavesOtherRuns := by
  intro s b c hs hb hiso hslot ha hk hphase hr ho ht hruns hstep
  let u := s.commandEnded b c .failed
  have hcore : u.core = s.core.modBrk b (·.ended .failed) := State.core_commandEnded c .failed
  have hpar : u.par = s.par := by
    show u.core.par = _
    rw [hcore]
    rfl
  have hfails : s.limitExpiry b = u.post (.seqOutcome b .closing .failed) := by
    have hnone : (u.post (.seqOutcome b .closing .failed)).channelFor .sequencer b = none :=
      State.channelFor_none fun k hlt r hr' hclient => hruns k hlt r (by rw [State.channel] at hr' ⊢; exact hpar ▸ hr') hclient
    rw [State.limitExpiry_fails hslot hphase ha hiso ht, State.endCommand_eq hslot, State.returnOutcome, ho, State.concludeClose, ha,
      hr, hk]
    show (u.post _).endRunOf _ _ = _
    rw [State.endRunOf, hnone]
  have hidle : State.handle u (.seqOutcome b .closing .failed) = u := State.seqOutcome_other (fun x hx => by
    rw [State.stepField, State.fld, State.commandEnded_mgmt]
    exact hstep x (State.commandEnded_seq (s := s) (b := b) ▸ hx)) _ _
  have hwork : u.work = [] := State.commandEnded_work.trans hs.1
  have hdrains : Drains 1 (u.post (.seqOutcome b .closing .failed)) u := .handed hwork (.of_eq hidle (.done hwork))
  have hplain : c.tripOpen = false := by simp [Command.tripOpen, ho, Origins.trip]
  obtain ⟨t, hend, hown, hothers, hrecords, honly⟩ := finish_ended (c := c) (o := .failed) hs hb
  rw [hplain] at hrecords
  exact ⟨t, (congrArg (finish s) hfails).trans ((congrArg Host.Outcome.next hdrains.settle).trans hend), hown, hothers, hrecords, honly⟩


end Sys2Proof.Machine
end

section
/-! # Where a run ends -/

namespace Sys2Proof.Machine

section
variable {s t u v : State} {g b k : Nat} {c : Command} {r : SyncRun}

/-! ### A run ends (R162, R163) -/

/-- A generator's record without the biases that a run wrote, where it wrote them. -/
def GenRec.unbiased (x : GenRec) (written : Bool) : GenRec :=
  { x with
    speedBias := if written then 0 else x.speedBias
    voltageBias := if written then 0 else x.voltageBias }

theorem State.clearBiases_eq (gs : List Nat) :
    s.clearBiases gs = s.modPar (fun p => { p with gens := (s.clearBiases gs).par.gens }) := by
  rw [State.clearBiases, State.forEach]
  induction gs generalizing s with
  | nil => rfl
  | cons x xs ih => exact (ih (s := s.modGen x _)).trans rfl

theorem State.clearBiases_gens_length (gs : List Nat) : (s.clearBiases gs).par.gens.length = s.par.gens.length := by
  rw [State.clearBiases, State.forEach]
  induction gs generalizing s with
  | nil => rfl
  | cons x xs ih => exact (ih (s := s.modGen x _)).trans (List.length_modify ..)

/-- The biases of each generator that the run wrote are 0, and no other record changes. -/
theorem State.clearBiases_gen (gs : List Nat) {j : Nat} (hj : j < s.par.gens.length) :
    (s.clearBiases gs).gen j = (s.gen j).unbiased (gs.contains j) := by
  rw [State.clearBiases, State.forEach]
  induction gs generalizing s with
  | nil => rfl
  | cons x xs ih =>
    refine (ih (s := s.modGen x _) ((List.length_modify ..).symm ▸ hj)).trans ?_
    by_cases hx : j = x
    · subst hx
      rw [State.gen_modGen_same _ _ hj, GenRec.unbiased, GenRec.unbiased]
      simp
    · rw [State.gen_modGen_other _ _ (Ne.symm hx), List.contains_cons, beq_false_of_ne hx, Bool.false_or]

/-- What the end of the run `r` on channel `k` makes of a state: `ws` is the work that it hands on. -/
structure RunEnds (s u : State) (k : Nat) (r : SyncRun) (ws : List Work) : Prop where
  eq : u = { s with work := s.work ++ ws, par := { s.par with gens := u.par.gens, channels := s.par.channels.set k none } }
  length : u.par.gens.length = s.par.gens.length
  gen : ∀ j < s.par.gens.length, u.gen j = (s.gen j).unbiased (r.wrote.contains j)

theorem State.endRun_ends (h : s.channel k = some r) : RunEnds s (s.endRun k) k r (if k = 0 then [] else [.channelFree]) := by
  have hclear := State.clearBiases_eq (s := s) r.wrote
  have hlength := State.clearBiases_gens_length (s := s) r.wrote
  have hgen := fun j hj => State.clearBiases_gen (s := s) r.wrote (j := j) hj
  rw [State.endRun, h]
  dsimp only
  generalize s.clearBiases r.wrote = v at *
  have hset : v.setChannel k none =
      { s with par := { s.par with gens := v.par.gens, channels := s.par.channels.set k none } } := by
    generalize v.par.gens = gs at hclear
    rw [hclear]
    rfl
  by_cases hk : k = 0
  · rw [if_pos (by simp [hk]), if_pos hk]
    refine ⟨?_, hlength, hgen⟩
    rw [List.append_nil]
    exact hset
  · rw [if_neg (by simp [hk]), if_neg hk]
    refine ⟨?_, hlength, hgen⟩
    rw [hset]
    rfl

namespace RunEnds
variable {ws : List Work}

theorem channel_same (h : RunEnds s u k r ws) : u.channel k = none := by
  rw [State.channel, h.eq]
  show (s.par.channels.set k none).getD k none = none
  rw [List.getD_eq_getElem?_getD, List.getElem?_set]
  split
  · split <;> rfl
  · next hne => exact absurd rfl hne

theorem channel_other (h : RunEnds s u k r ws) {j : Nat} (hj : j ≠ k) : u.channel j = s.channel j := by
  rw [State.channel, h.eq]
  show (s.par.channels.set k none).getD j none = _
  rw [List.getD_eq_getElem?_getD, List.getElem?_set_ne hj.symm, State.channel, List.getD_eq_getElem?_getD]

theorem breakers (h : RunEnds s u k r ws) : u.breakers = s.breakers := by rw [h.eq]
theorem mgmt (h : RunEnds s u k r ws) : u.mgmt = s.mgmt := by rw [h.eq]
theorem seq (h : RunEnds s u k r ws) : u.seq = s.seq := by rw [h.eq]
theorem events (h : RunEnds s u k r ws) : u.events = s.events := by rw [h.eq]
theorem hushed (h : RunEnds s u k r ws) : u.hushed = s.hushed := by rw [h.eq]
theorem work (h : RunEnds s u k r ws) : u.work = s.work ++ ws := by rw [h.eq]
theorem token (h : RunEnds s u k r ws) : u.par.token = s.par.token := by rw [h.eq]
theorem tokenList (h : RunEnds s u k r ws) : u.par.tokenList = s.par.tokenList := by rw [h.eq]
theorem waitList (h : RunEnds s u k r ws) : u.par.waitList = s.par.waitList := by rw [h.eq]
theorem lines (h : RunEnds s u k r ws) : u.lines = s.lines := by rw [h.eq]
theorem measures (h : RunEnds s u k r ws) : u.measures = s.measures := by rw [h.eq]

/-- No channel is left that holds a run of the client. -/
theorem channelOf (h : RunEnds s u k r ws) {p : Party} (hothers : ∀ j < 4, j ≠ k → ∀ x, s.channel j = some x → x.client ≠ p) :
    u.channelOf p = none := by
  refine State.channelOf_none fun j hj x hx => ?_
  by_cases hjk : j = k
  · rw [hjk, h.channel_same] at hx
    cases hx
  · exact hothers j hj hjk x (h.channel_other hjk ▸ hx)

end RunEnds

end

end Sys2Proof.Machine
end

section
/-! # O40: the outcome of a SYNC close -/

namespace Sys2Proof.Machine

section
variable {s t u v : State} {g b k : Nat} {c : Command} {r : SyncRun}

/-- A generator that holds no token is back in READY without more ado. -/
theorem State.genRetry_tokenless (hg : g < s.par.gens.length) (ha : (s.gen g).state.attempting = true)
    (hd : (s.gen g).deferred = false) (hrun : s.channelOf (.generator g) = none) (hq : s.Unqueued (s.genBreaker g) g)
    (ht : s.par.token ≠ some (.generator g)) : (s.genRetry g).core = { s.core with
      par := { s.par with
        gens := s.par.gens.modify g (·.retrying (s.fld .sync g 11))
        tokenList := s.par.tokenList.filter (· != .generator g)
        waitList := s.par.waitList.filter (· != g)
        demandDue := true } } := by
  rw [State.genRetry_core hg ha hd hrun hq, State.leaveToken, State.freeToken]
  have hfree : ((s.core.dropRequest (.generator g)).par.token == some (.generator g)) = false := by
    show (s.par.token == some (.generator g)) = false
    exact beq_false_of_ne ht
  rw [hfree]
  rfl

theorem State.unqueued_of_none (h : (s.brk b).slot = none) : s.Unqueued b g := fun c hc => by
  rw [h] at hc
  cases hc

theorem modify_congr_nth {α : Type} [Inhabited α] {l : List α} {i : Nat} {f h : α → α} (he : f (nth l i) = h (nth l i)) :
    l.modify i f = l.modify i h := by
  refine List.ext_getElem (by simp) fun j hj hj' => ?_
  have hlen : j < l.length := by simpa using hj
  rw [List.getElem_modify, List.getElem_modify]
  split
  · next hij =>
    subst hij
    have hnth : nth l i = l[i] := by simp [nth, hlen]
    rw [← hnth]
    exact he
  · rfl

/-- The record of a generator after another close failure. -/
def GenRec.closeFailed (x : GenRec) (n : Nat) : GenRec := { x.retrying n with closeFailures := x.closeFailures + 1 }

/-- A SYNC close that ends FAILED takes its generator back to READY before its third close failure (R164). -/
theorem State.genOutcome_failed (hg : g < s.par.gens.length) (hb : s.genBreaker g = b) (hstate : (s.gen g).state = .closing)
    (hd : (s.gen g).deferred = false) (hf : (s.gen g).closeFailures < 2) (hrun : s.channelOf (.generator g) = none)
    (hslot : (s.brk b).slot = none) (ht : s.par.token ≠ some (.generator g)) :
    (s.genOutcome g b .closing .sync .failed).core = { s.core with
      par := { s.par with
        gens := s.par.gens.modify g (·.closeFailed (s.fld .sync g 11))
        tokenList := s.par.tokenList.filter (· != .generator g)
        waitList := s.par.waitList.filter (· != g)
        demandDue := true } } := by
  let v := s.modGen g (fun x => { x with closeFailures := (s.gen g).closeFailures + 1 })
  have hgen : v.gen g = { s.gen g with closeFailures := (s.gen g).closeFailures + 1 } := State.gen_modGen_same _ _ hg
  have hfails : s.genOutcome g b .closing .sync .failed = v.genRetry g := by
    rw [State.genOutcome, if_neg (by simp [hb]), hstate]
    show s.closeFailure g = _
    rw [State.closeFailure]
    exact if_neg (by omega)
  have hretry := State.genRetry_tokenless (s := v) (g := g) ((List.length_modify ..).symm ▸ hg)
    (by rw [hgen]; show GenState.attempting (s.gen g).state = true; rw [hstate]; rfl) (by rw [hgen]; exact hd) hrun
    (State.unqueued_of_none (by show (s.brk (s.genBreaker g)).slot = none; rw [hb]; exact hslot)) ht
  have hgens : v.par.gens.modify g (·.retrying (v.fld .sync g 11)) = s.par.gens.modify g (·.closeFailed (s.fld .sync g 11)) := by
    exact (List.modify_modify_eq ..).trans (modify_congr_nth rfl)
  rw [hfails, hretry, hgens]
  rfl

/-- What the limit of a generator's accepted SYNC close makes of a state: the close has ended FAILED, its run `r` on channel `k`
has ended, and the outcome is on its way to the generator. -/
structure CloseFailed (s u : State) (g b k : Nat) (r : SyncRun) : Prop where
  work : u.work = [.genOutcome g b .closing .sync .failed, .channelFree]
  hushed : u.hushed = s.hushed
  brk : ∀ a, u.brk a = (s.modBrk b (·.ended .failed)).brk a
  count : u.par.gens.length = s.par.gens.length
  gen : u.gen g = (s.gen g).unbiased (r.wrote.contains g)
  channel_same : u.channel k = none
  channel_other : ∀ j, j ≠ k → u.channel j = s.channel j
  token : u.par.token = s.par.token
  waitList : u.par.waitList = s.par.waitList
  mgmt : u.mgmt = s.mgmt
  seq : u.seq = s.seq

theorem State.limitExpiry_closeFailed (hw : s.work = []) (hg : g < s.par.gens.length) (hiso : s.fld .breaker b 21 ≠ 1) (hk : k < 4)
    (hk0 : k ≠ 0) (hr : s.channel k = some r) (hclient : r.client = .generator g) (hbreaker : r.breaker = b)
    (hothers : ∀ j < 4, j ≠ k → ∀ x, s.channel j = some x → x.client ≠ .generator g) (hslot : (s.brk b).slot = some c)
    (ha : c.action = .closing) (hkind : c.closeKind = .sync) (hphase : c.phase = .accepted)
    (hreq : c.requester = .party (.generator g)) (ho : c.origins = { paralleling := true }) (hgen : c.generator = some g)
    (ht : s.fld .breaker b 11 ≤ c.timer) : CloseFailed s (s.limitExpiry b) g b k r := by
  have hcore : (s.commandEnded b c .failed).core = s.core.modBrk b (·.ended .failed) := State.core_commandEnded c .failed
  rw [State.limitExpiry_fails hslot hphase ha hiso ht, State.endCommand_returned hslot _ ho hgen, State.concludeClose, ha, hreq, hkind]
  show CloseFailed s (((s.commandEnded b c .failed).post (.genOutcome g b .closing .sync .failed)).endRunOf (.generator g) b) g b k r
  generalize s.commandEnded b c .failed = e at *
  have hpart : ∀ {α : Type} (f : State → α), f e.core = f _ := fun f => congrArg f hcore
  have hpar : e.par = s.par := hpart State.par
  have hchannel : ∀ j, e.channel j = s.channel j := fun j => hpart (·.channel j)
  have hfor : (e.post (.genOutcome g b .closing .sync .failed)).channelFor (.generator g) b = some k :=
    State.channelFor_of hk ((hchannel k).trans hr) hclient hbreaker
      fun j hj hjk x hx => hothers j hj hjk x ((hchannel j).symm.trans hx)
  rw [State.endRunOf, hfor]
  have hrun := State.endRun_ends (s := e.post (.genOutcome g b .closing .sync .failed)) (k := k) ((hchannel k).trans hr)
  rw [if_neg hk0] at hrun
  dsimp only
  generalize (e.post (.genOutcome g b .closing .sync .failed)).endRun k = u at *
  exact
    { work := by
        rw [hrun.work, State.post_work, show e.work = s.work from hpart State.work, hw]
        rfl
      hushed := hrun.hushed.trans (hpart State.hushed)
      brk := fun a => (State.brk_congr hrun.breakers a).trans (hpart (·.brk a))
      count := hrun.length.trans (congrArg (·.gens.length) hpar)
      gen := by
        refine (hrun.gen g (by show g < e.par.gens.length; rw [hpar]; exact hg)).trans ?_
        show GenRec.unbiased (e.gen g) _ = _
        rw [State.gen, hpar, State.gen]
      channel_same := hrun.channel_same
      channel_other := fun j hj => (hrun.channel_other hj).trans (hchannel j)
      token := hrun.token.trans (congrArg Paralleling.token hpar)
      waitList := hrun.waitList.trans (congrArg Paralleling.waitList hpar)
      mgmt := hrun.mgmt.trans (hpart State.mgmt)
      seq := hrun.seq.trans (hpart State.seq) }

end

/-- Settles the sixth part of O40. -/
theorem outcomeEndsTheRun : Clause.OutcomeEndsTheRun := by
  intro s g k r c hs hg hconf hstate hd htoken hwait b hb hiso hk hr hclient hbreaker hothers hslot ha hkind hphase hreq ho hgen
    ht hfailures
  have hk4 : k < 4 ∧ k ≠ 0 := by
    simp only [List.mem_cons, List.not_mem_nil, or_false] at hk
    omega
  have hlenb : b < s.breakers.recs.length := hs.lt_recs hb
  have hfailed := State.limitExpiry_closeFailed hs.1 (hs.gens_length.symm ▸ hg) hiso hk4.1 hk4.2 hr hclient hbreaker hothers hslot ha
    hkind hphase hreq ho hgen ht
  have hexec : exec (.limitTimeout b) s = finish s (s.limitExpiry b) := rfl
  generalize s.limitExpiry b = u at *
  let w := { u with work := [] }
  have hfld : ∀ x e id, u.fld x e id = s.fld x e id := fun x e id => by rw [State.fld, State.fld, hfailed.mgmt]
  have hlen : u.par.gens.length = 8 := hfailed.count.trans hs.gens_length
  have hwgen : w.gen g = (s.gen g).unbiased (r.wrote.contains g) := hfailed.gen
  have hown : w.brk b = (s.brk b).ended .failed := (hfailed.brk b).trans (State.brk_modBrk_same s _ hlenb)
  have hruns : w.channelOf (.generator g) = none := State.channelOf_none fun j hj x hx => by
    by_cases hjk : j = k
    · exact nomatch (hjk ▸ hx : w.channel k = some x).symm.trans hfailed.channel_same
    · exact hothers j hj hjk x ((hfailed.channel_other j hjk).symm.trans hx)
  have hback := State.genOutcome_failed (s := w) (g := g) (b := b) (hlen.symm ▸ hg) (hfld ..) (by rw [hwgen]; exact hstate)
    (by rw [hwgen]; exact hd) (by rw [hwgen]; exact hfailures) hruns (by rw [hown]; rfl)
    (by show u.par.token ≠ _; rw [hfailed.token]; exact htoken)
  have hhandle : State.handle { u with work := [] } (.genOutcome g b .closing .sync .failed) =
      w.genOutcome g b .closing .sync .failed := rfl
  generalize w.genOutcome g b .closing .sync .failed = y at *
  have hpart : ∀ {α : Type} (f : State → α), f y.core = f _ := fun f => congrArg f hback
  have hywork : y.work = [] := hpart State.work
  have hywait : y.par.waitList = [] := by
    refine (hpart (·.par.waitList)).trans ?_
    show u.par.waitList.filter _ = []
    rw [hfailed.waitList, hwait]
    rfl
  have hgens : y.par.gens = u.par.gens.modify g (·.closeFailed (u.fld .sync g 11)) := hpart (·.par.gens)
  have hdrains : Drains 2 u y := by
    have hlast : Drains 1 { y with work := [Work.channelFree] } { y with work := [] } :=
      .skip rfl (State.handle_channelFree hywait) (.done rfl)
    have hsame : { y with work := [] } = y := by rw [← hywork]
    rw [hsame] at hlast
    refine .piece hfailed.work ?_
    rw [hhandle, hywork]
    exact hlast
  obtain ⟨t, hend, hgent, -, -, hpart', hbreakers, hseq, -⟩ := finish_gensets (s := s) (u := y) hywork
    ((hpart State.hushed).trans (hfailed.hushed.trans hs.2.2.1)) (by rw [hgens, List.length_modify, hlen])
  have hexec' := hexec.trans ((congrArg Host.Outcome.next hdrains.settle).trans hend)
  have htchannel : ∀ j, t.channel j = u.channel j := fun j => by
    rw [State.channel, hpart']
    exact hpart (·.channel j)
  have htbrk : ∀ a, t.brk a = w.brk a := fun a => (State.brk_congr hbreakers a).trans (hpart (·.brk a))
  refine ⟨t, hexec', (htchannel k).trans hfailed.channel_same, fun j hj => (htchannel j).trans (hfailed.channel_other j hj), ?_,
    (htbrk b).trans hown, fun a hab => (htbrk a).trans ((hfailed.brk a).trans (State.brk_modBrk_other s _ hab.symm)),
    (hs.only _ hexec').of_seq (hseq.trans ((hpart State.seq).trans hfailed.seq))⟩
  have hygen : y.gen g = (u.gen g).closeFailed (s.fld .sync g 11) := by
    rw [State.gen, hgens, hfld]
    exact nth_modify_same _ (hlen.symm ▸ hg)
  refine (hgent g hg).trans ?_
  generalize (t.gen g).refreshTimer = n
  rw [hygen, hfailed.gen, GenRec.closeFailed, GenRec.retrying, GenRec.unbiased]
  simp only [List.contains_iff_mem]


end Sys2Proof.Machine
end

section
/-! # O40: the grant of a freed token -/

namespace Sys2Proof.Machine

section
variable {s t u v w : State} {g j b : Nat}

/-! ### The state of a bus (R157) -/

theorem State.busState_of_live (h : Clause.busLive s g) : s.busState g = .live := by
  obtain ⟨hdead, hlive⟩ := h
  have h0 := hlive 0 (by decide)
  have h1 := hlive 1 (by decide)
  have h2 := hlive 2 (by decide)
  have hnot : ¬ ∀ q ∈ [0, 1, 2], (s.phasor (s.fld .generator g 5) q).magnitude < s.fld .sync g 6 := fun hall =>
    hdead fun q hq => ⟨(hlive q hq).1, hall q (by simp only [List.mem_cons, List.not_mem_nil, or_false]; omega)⟩
  simp only [List.mem_cons, List.not_mem_nil, or_false, forall_eq_or_imp, forall_eq] at hnot
  rw [State.busState]
  rw [if_neg (by simp [h0.1, h1.1, h2.1]), if_neg (by simpa using hnot), if_pos (by simp [h0.2, h1.2, h2.2])]

theorem State.busState_of_neither (hdead : ¬ Clause.busDead s g) (hlive : ¬ Clause.busLive s g) : s.busState g = .neither := by
  have hall : ∀ {p : Phasor → Bool}, ([0, 1, 2].map (s.phasor (s.fld .generator g 5))).all p = true →
      ∀ q < 3, p (s.phasor (s.fld .generator g 5) q) = true := fun {p} h q hq => by
    have hmem := List.all_eq_true.1 h
    exact hmem _ (List.mem_map_of_mem (by simp only [List.mem_cons, List.not_mem_nil, or_false]; omega))
  rw [State.busState]
  split
  · rfl
  · next hvalid =>
    have hvalid' := hall (p := (·.valid)) (by simpa only [Bool.not_eq_true', Bool.not_eq_false] using hvalid)
    split
    · next hlow =>
      exact absurd (fun q hq => ⟨hvalid' q hq, of_decide_eq_true (hall hlow q hq)⟩) hdead
    · split
      · next hhigh => exact absurd ⟨hdead, fun q hq => ⟨hvalid' q hq, of_decide_eq_true (hall hhigh q hq)⟩⟩ hlive
      · rfl

/-- A dead check on a bus that is neither dead nor live waits (R159). -/
theorem State.deadCheck_waits (hdead : ¬ Clause.busDead s g) (hlive : ¬ Clause.busLive s g) : s.deadCheck g = s := by
  rw [State.deadCheck, State.busState_of_neither hdead hlive]
  split <;> rfl

theorem busDead_iff_of_same (hm : v.mgmt.tables = s.mgmt.tables) (hq : v.measures = s.measures) :
    Clause.busDead v g ↔ Clause.busDead s g :=
  ⟨fun h => busDead_of_same h hm.symm hq.symm, fun h => busDead_of_same h hm hq⟩

theorem busLive_iff_of_same (hm : v.mgmt.tables = s.mgmt.tables) (hq : v.measures = s.measures) :
    Clause.busLive v g ↔ Clause.busLive s g := by
  have hfld : v.fld = s.fld := by funext x e id; rw [State.fld, State.fld, hm]
  have hphasor : v.phasor = s.phasor := by
    funext k q
    rw [State.phasor, State.phasor, State.measure, State.measure, hq]
  rw [Clause.busLive, Clause.busLive, busDead_iff_of_same hm hq, hfld, hphasor]

/-! ### The grant of the token (R158) -/

/-- The free token goes to the waiting generator that stands highest. -/
theorem State.grantToken_generator (ht : s.par.token = none) (hseq : .sequencer ∉ s.par.tokenList)
    (hfind : s.genOrder.find? (fun k => s.par.tokenList.contains (.generator k)) = some g) :
    s.grantToken = (s.granted g).post (.genTokenGranted g) := by
  have hgrantee : s.grantee = some (.generator g) := by
    rw [State.grantee, if_neg (by simpa using hseq), hfind]
  rw [State.grantToken, ht, hgrantee]
  rfl

/-- The DEAD close that an attempt asks for is TAKEN (R159). -/
theorem State.deadClose_taken (hg : g < s.par.gens.length) (hstate : (s.gen g).state = .ready ∨ (s.gen g).state = .claiming)
    (hd : (s.gen g).deferred = false) (hmay : Clause.mayClose s (s.genBreaker g)) (hslot : (s.brk (s.genBreaker g)).slot = none)
    (ht : s.fld .breaker (s.genBreaker g) 5 = 1 → s.par.token = some (.generator g)) :
    s.deadClose g = (s.deadTaken g).post (.genDeadCheck g) := by
  obtain ⟨hne, ha, hl⟩ : (s.gen g).state ≠ .closing ∧ ((s.gen g).state.attempting && !GenState.closing.attempting) = false ∧
      (s.gen g).state.loaded = false := by
    obtain he | he := hstate <;> rw [he] <;> decide
  have hgen : ((s.slotted (s.genBreaker g) (Clause.closeOf g .dead)).modGen g (fun r => { r with deadTimer := 0 })).gen g =
      { s.gen g with deadTimer := 0 } := State.gen_modGen_same (s := s.slotted _ _) _ hg
  rw [State.deadClose, State.genClose_taken hmay (by decide) hslot fun _ => ht]
  dsimp only
  rw [State.genEnter_plain ((List.length_modify ..).symm ▸ hg) (by rw [hgen]; exact hne) (by rw [hgen]; exact ha)
    (by rw [hgen, hl]; rfl) (by rw [hgen]; exact hd) (by decide) (by decide), State.deadTaken]

/-- A DEAD close that is TAKEN waits in its slot, and its generator is CLOSING. -/
theorem State.core_deadTaken : (s.deadTaken g).core = ((s.core.slotted (s.genBreaker g) (Clause.closeOf g .dead)).modGen g
    (fun r => { r with state := .closing, deadTimer := 0 })).modPar (fun p =>
      { p with waitList := p.waitList.filter (· != g), demandDue := true }) := by
  rw [State.deadTaken, State.core_genEntered, State.core_modGen, State.core_slotted, State.modGen_modGen]
  rfl

theorem State.core_granted : (s.granted g).core =
    (s.core.dropRequest (.generator g)).modPar (fun u => { u with token := some (.generator g) }) := by
  rw [State.granted, State.core_event]
  rfl

/-- A queued DEAD close on a bus that is not live is issued where the bus is dead, and waits otherwise (R159). -/
theorem Drains.deadCheck_of (hw : w.work = []) (hstate : (w.gen g).state = .closing) (hmay : Clause.mayClose w (w.genBreaker g))
    (hslot : (w.brk (w.genBreaker g)).slot = some (Clause.closeOf g .dead)) (hlive : ¬ Clause.busLive w g)
    (ht : w.par.token = some (.generator g)) : ∃ n ≤ 2, ∃ y, Drains n (w.post (.genDeadCheck g)) y ∧
      (Clause.busDead w g ∧ y = w.commandIssued (w.genBreaker g) (Clause.closeOf g .dead) ∨ ¬ Clause.busDead w g ∧ y = w) := by
  by_cases hdead : Clause.busDead w g
  · exact ⟨2, le_refl 2, _, .deadCheck hw hstate hmay hslot hdead fun _ => ht, .inl ⟨hdead, rfl⟩⟩
  · exact ⟨1, by decide, w, .handed hw (.of_eq (State.deadCheck_waits hdead hlive) (.done hw)), .inr ⟨hdead, rfl⟩⟩

/-- What the grant of the token to generator `j`, which has its DEAD close taken, makes of a state; `a` is the breaker. -/
structure CloseGranted (u w : State) (j a : Nat) : Prop where
  work : w.work = []
  hushed : w.hushed = u.hushed
  recs : w.breakers.recs = u.breakers.recs.modify a (fun r => { r with slot := some (Clause.closeOf j .dead) })
  gens : w.par.gens = u.par.gens.modify j (fun r => { r with state := .closing, deadTimer := 0 })
  token : w.par.token = some (.generator j)
  tokenList : w.par.tokenList = u.par.tokenList.filter (· != .generator j)
  seq : w.seq = u.seq
  mgmt : w.mgmt = u.mgmt
  lines : w.lines = u.lines
  measures : w.measures = u.measures

/-- A free token's grant to a CLAIMING generator (R158, R159). -/
theorem Drains.granted (hw : u.work = []) (hg : g < u.par.gens.length) (hstate : (u.gen g).state = .claiming)
    (hd : (u.gen g).deferred = false) (ht : u.par.token = none) (hseq : .sequencer ∉ u.par.tokenList)
    (hfind : u.genOrder.find? (fun k => u.par.tokenList.contains (.generator k)) = some g)
    (hmay : Clause.mayClose u (u.genBreaker g)) (hslot : (u.brk (u.genBreaker g)).slot = none) :
    ∃ w, CloseGranted u w g (u.genBreaker g) ∧
      ∀ n y, Drains n (w.post (.genDeadCheck g)) y → Drains (n + 2) (u.post .tokenGrant) y := by
  have hgrant : State.handle u .tokenGrant = (u.granted g).post (.genTokenGranted g) := State.grantToken_generator ht hseq hfind
  have hcore := State.core_granted (s := u) (g := g)
  generalize u.granted g = v at *
  have hpart : ∀ {α : Type} (f : State → α), f v.core = f _ := fun f => congrArg f hcore
  have hvwork : v.work = [] := (hpart State.work).trans hw
  have hgen : v.gen g = u.gen g := hpart (·.gen g)
  have hbreaker : v.genBreaker g = u.genBreaker g := hpart (·.genBreaker g)
  have htoken : v.par.token = some (.generator g) := hpart (·.par.token)
  have hclaims : State.handle v (.genTokenGranted g) = v.deadClose g := if_pos (by rw [hgen, hstate]; rfl)
  rw [State.deadClose_taken (s := v) (show g < v.core.par.gens.length by rw [hcore]; exact hg) (.inr (by rw [hgen, hstate])) (by rw [hgen, hd])
    (by rw [hbreaker]
        exact mayClose_of_same hmay (congrArg Management.tables (hpart State.mgmt)) (hpart State.lines) ⟨_, hpart (·.brk _)⟩)
    (by rw [hbreaker]; exact (congrArg BreakerRec.slot (hpart (·.brk _))).trans hslot) fun _ => htoken] at hclaims
  have hcore' := State.core_deadTaken (s := v) (g := g)
  rw [hbreaker, hcore] at hcore'
  generalize v.deadTaken g = w at *
  have hpart' : ∀ {α : Type} (f : State → α), f w.core = f _ := fun f => congrArg f hcore'
  refine ⟨w, ?_, fun n y hy => .handed hw (.of_eq hgrant (.handed hvwork (.of_eq hclaims hy)))⟩
  exact
    { work := (hpart' State.work).trans hw
      hushed := hpart' State.hushed
      recs := hpart' (·.breakers.recs)
      gens := hpart' (·.par.gens)
      token := hpart' (·.par.token)
      tokenList := hpart' (·.par.tokenList)
      seq := hpart' State.seq
      mgmt := hpart' State.mgmt
      lines := hpart' State.lines
      measures := hpart' State.measures }

end

/-- Settles the second part of O40. -/
theorem freedTokenIsGranted : Clause.FreedTokenIsGranted := by
  intro s g j hs hg hj hjg b a hb hconf hstate hslot hd ht hruns htimer hf hseq hno hfind hstatej hdj hab hmay hguard hslotj hlive
  have hlen : g < s.par.gens.length := hs.gens_length.symm ▸ hg
  have hlenj : j < s.par.gens.length := hs.gens_length.symm ▸ hj
  have hlenb : b < s.breakers.recs.length := hs.lt_recs hb
  have hlena : a < s.breakers.recs.length := hs.lt_recs hmay.1
  have hexpired := State.deadCheckExpiry_expired hs.1 hlen hlenb hstate hd ⟨hslot, rfl, rfl, rfl, rfl, rfl⟩ rfl ht
    (State.channelOf_none fun k hk r hr' => by rw [hruns k hk] at hr'; cases hr') htimer hf
  have hexec : exec (.deadCheckTimeout g) s = finish s (s.deadCheckExpiry g) := rfl
  generalize s.deadCheckExpiry g = u at *
  let x := { u with work := [] }
  have hfld : ∀ x e id, u.fld x e id = s.fld x e id := fun x e id => by rw [State.fld, State.fld, hexpired.mgmt]
  have hlist : u.par.tokenList = s.par.tokenList := by
    rw [hexpired.tokenList]
    exact List.filter_eq_self.2 fun p hp => by
      have hne : p ≠ .generator g := fun he => hno (he ▸ hp)
      simpa using hne
  have horder : u.genOrder = s.genOrder := by
    unfold State.genOrder State.unlisted State.startOrder State.genConfigured
    simp only [hfld]
  have hbreaker : x.genBreaker j = a := hfld ..
  have hxgen : x.gen j = s.gen j := hexpired.gen_other hjg
  have hxbrk : x.brk a = s.brk a := hexpired.brk_other hab
  obtain ⟨w, hgranted, hgrants⟩ := Drains.granted (u := x) (g := j) rfl (by show j < u.par.gens.length; rw [hexpired.gens, List.length_modify]; exact hlenj)
    (by rw [hxgen, hstatej]) (by rw [hxgen, hdj]) hexpired.token (by rw [show x.par.tokenList = _ from hlist]; exact hseq)
    (by rw [show x.par.tokenList = _ from hlist, show x.genOrder = _ from horder]; exact hfind)
    (by rw [hbreaker]; exact mayClose_of_same hmay (congrArg Management.tables hexpired.mgmt) hexpired.lines ⟨_, hxbrk⟩)
    (by rw [hbreaker, hxbrk, hslotj])
  have hwfld : ∀ x e id, w.fld x e id = s.fld x e id := fun x e id => by
    rw [State.fld, State.fld, hgranted.mgmt]
    exact hfld x e id
  have hwbreaker : w.genBreaker j = a := hwfld ..
  have hrecs : w.breakers.recs = u.breakers.recs.modify a (fun r => { r with slot := some (Clause.closeOf j .dead) }) := by
    rw [hgranted.recs, hbreaker]
  have hlenu : a < u.breakers.recs.length := by rw [hexpired.recs, List.length_modify]; exact hlena
  have hwown : w.brk a = { s.brk a with slot := some (Clause.closeOf j .dead) } := by
    rw [State.brk, hrecs]
    refine (nth_modify_same _ hlenu).trans ?_
    rw [show nth u.breakers.recs a = s.brk a from hxbrk]
  have hwother : w.brk b = (s.brk b).ended .withdrawn := by
    rw [State.brk, hrecs]
    exact (nth_modify_other _ _ hab).trans (hexpired.brk_same hlenb)
  have hwgen : w.gen j = { s.gen j with state := .closing, deadTimer := 0 } := by
    rw [State.gen, hgranted.gens]
    refine (nth_modify_same _ (by show j < u.par.gens.length; rw [hexpired.gens, List.length_modify]; exact hlenj)).trans ?_
    rw [show nth x.par.gens j = s.gen j from hxgen]
  have hwg : w.gen g = (s.gen g).deadFailed (s.fld .sync g 11) := by
    rw [State.gen, hgranted.gens]
    exact (nth_modify_other _ _ hjg).trans (hexpired.gen_same hlen)
  have htables : w.mgmt.tables = s.mgmt.tables := congrArg Management.tables (hgranted.mgmt.trans hexpired.mgmt)
  have hmeasures : w.measures = s.measures := hgranted.measures.trans hexpired.measures
  obtain ⟨n, hn, y, hdrains, hy⟩ := Drains.deadCheck_of (g := j) hgranted.work (by rw [hwgen])
    (by rw [hwbreaker]; exact mayClose_of_same hmay htables (hgranted.lines.trans hexpired.lines) ⟨_, hwown⟩)
    (by rw [hwbreaker, hwown]) (by rw [busLive_iff_of_same htables hmeasures]; exact hlive) hgranted.token
  rw [hwbreaker, busDead_iff_of_same htables hmeasures] at hy
  have hall : Drains (n + 3) u y := .skip hexpired.work (State.handle_withdrawnClose _) (hgrants n y hdrains)
  obtain ⟨hpar, hseqy, hmgmt, hhushed, hother⟩ : y.par = w.par ∧ y.seq = w.seq ∧ y.mgmt = w.mgmt ∧ y.hushed = w.hushed ∧
      y.brk b = w.brk b := by
    obtain ⟨-, rfl⟩ | ⟨-, rfl⟩ := hy
    · exact ⟨rfl, rfl, rfl, rfl, State.commandIssued_brk_other hab.symm⟩
    · exact ⟨rfl, rfl, rfl, rfl, rfl⟩
  have hygen : ∀ i, y.gen i = w.gen i := fun i => by rw [State.gen, hpar, State.gen]
  obtain ⟨t, hend, hgens, -, hstill, hpart, hbreakers, hseqt, -⟩ := finish_gensets (s := s) (u := y) hdrains.work
    (hhushed.trans (hgranted.hushed.trans (hexpired.hushed.trans hs.2.2.1)))
    (by rw [hpar, hgranted.gens, List.length_modify]; show u.par.gens.length = 8; rw [hexpired.gens, List.length_modify, hs.gens_length])
  have hexec' := hexec.trans ((congrArg Host.Outcome.next (hall.settle (le_trans (Nat.add_le_add_right hn 3) (by decide)))).trans hend)
  have htbrk : ∀ i, t.brk i = y.brk i := fun i => by rw [State.brk, hbreakers, State.brk]
  have hset : ¬ State.Changed s y j := fun h => h.2 (State.setpointOf_both ((congrArg Management.tables hmgmt).trans htables)
    (by rw [hstatej]; decide) (by rw [hygen, hwgen]; exact nofun)
    (by rw [hygen, hwgen, GenRec.setpoint, GenRec.setpoint, hstatej]; rfl))
  refine ⟨t, hexec', ?_, ?_, ?_, ?_, ?_, fun hdead => ?_, fun hdead => ?_, (hs.only _ hexec').of_seq ?_⟩
  · rw [hpart]
    exact (congrArg Paralleling.token hpar).trans hgranted.token
  · rw [hpart]
    refine (congrArg Paralleling.tokenList hpar).trans (hgranted.tokenList.trans ?_)
    rw [show x.par.tokenList = _ from hlist]
  · rw [hgens g hg, hygen, hwg]
    rfl
  · rw [hstill j hset, hygen, hwgen]
  · rw [htbrk, hother, hwother]
    rfl
  · obtain ⟨-, rfl⟩ | ⟨hno, -⟩ := hy
    · rw [htbrk, State.commandIssued_brk_same (by rw [hrecs, List.length_modify]; exact hlenu) (by rw [hwown]), hwown]
      rfl
    · exact absurd hdead hno
  · obtain ⟨hyes, -⟩ | ⟨-, rfl⟩ := hy
    · exact absurd hyes hdead
    · rw [htbrk, hwown]
  · rw [hseqt, hseqy, hgranted.seq]
    exact hexpired.seq


end Sys2Proof.Machine
end

section
/-! # Before the paralleling unit's work at a closure -/

namespace Sys2Proof.Machine

section
variable {s t u v w x : State} {g j b : Nat} {pin : Bool}

/-! ### What comes before the paralleling unit's work at a closure (R90, R115) -/

/-- The pin has been sampled and BF tested, and no generator has moved. -/
structure Tests (u v : State) : Prop where
  core : v.core = { u.core with breakers := v.breakers, lines := v.lines }
  length : v.breakers.recs.length = u.breakers.recs.length
  slot : ∀ b, (v.brk b).slot = (u.brk b).slot
  idle : ∀ b, (u.brk b).bf = .idle → v.brk b = u.brk b

namespace Tests

theorem refl (u : State) : Tests u u := ⟨rfl, rfl, fun _ => rfl, fun _ _ => rfl⟩

theorem trans (h : Tests u v) (k : Tests v w) : Tests u w where
  core := by rw [k.core, h.core]
  length := k.length.trans h.length
  slot b := (k.slot b).trans (h.slot b)
  idle b hb := (k.idle b (by rw [h.idle b hb, hb])).trans (h.idle b hb)

/-- An update of the lines and of the records. -/
theorem lined (f : Lines → Lines) : Tests u (u.modLines f) := ⟨rfl, rfl, fun _ => rfl, fun _ _ => rfl⟩

theorem event (c : EventClass) (p o n : Nat) (y : Option Nat) : Tests u (u.event c p o n y) where
  core := by rw [State.core_event, State.event_breakers, State.event_lines]; rfl
  length := by rw [State.event_breakers]
  slot _ := by rw [State.event_brk]
  idle _ _ := State.event_brk ..

theorem forEach (ns : List Nat) (f : Nat → State → State) (hf : ∀ n v, Tests v (f n v)) : Tests u (u.forEach ns f) := by
  unfold State.forEach
  induction ns generalizing u with
  | nil => exact refl u
  | cons n ns ih => exact (hf n u).trans ih

theorem testBf (b : Nat) : Tests u (u.testBf b) := by
  unfold State.testBf
  split
  · next hbf =>
    have hbusy : (u.brk b).bf ≠ .idle := by
      have := (Bool.and_eq_true_iff.1 hbf).1
      simpa using this
    have hreset : ∀ f : BreakerRec → BreakerRec, (∀ r, (f r).slot = r.slot) → Tests u (u.modBrk b f) := fun f hf =>
      { core := rfl
        length := List.length_modify ..
        slot := fun a => by
          by_cases hlen : b < u.breakers.recs.length
          · by_cases ha : a = b
            · subst ha
              rw [State.brk_modBrk_same u f hlen, hf]
            · rw [State.brk_modBrk_other u f (Ne.symm ha)]
          · have hsame : u.breakers.recs.modify b f = u.breakers.recs := List.modify_eq_self (Nat.not_lt.1 hlen)
            rw [State.brk, State.modBrk]
            show (nth (u.breakers.recs.modify b f) a).slot = _
            rw [hsame, State.brk]
        idle := fun a ha => State.brk_modBrk_other u f fun hab => hbusy (hab ▸ ha) }
    unfold State.resetBf
    dsimp only
    have hasks : ∀ n v, Tests v (v.askRemove n (.backup b)) := fun _ _ => ⟨rfl, rfl, fun _ => rfl, fun _ _ => rfl⟩
    refine ((hreset (fun r => { r with bf := .idle, bfTimer := 0, bfOrigins := {} }) fun _ => rfl).trans ?_).trans (event ..)
    split
    · exact forEach _ _ hasks
    · exact refl _
  · exact refl u

/-- The pin is sampled without a generator in the way of LOCKOUT. -/
theorem sampleLockout (h : ∀ v : State, v.par = u.par → u.lines.lastSample = some pin → pin = true → u.lines.lockout = false →
    v.lockoutGens = v) : Tests u (u.sampleLockout pin) := by
  unfold State.sampleLockout
  dsimp only
  split
  · exact lined _
  · next hchange =>
    have hboth : ∀ f k : Lines → Lines, Tests u ((u.modLines f).modLines k) := fun f k => (lined f).trans (lined k)
    split
    · next hpin =>
      have hrise : u.lines.lastSample = some pin ∧ u.lines.lockout = false := by simpa [hpin] using hchange
      rw [h _ (by rw [State.event_par]; rfl) hrise.1 hpin hrise.2]
      exact (hboth _ _).trans (event _ _ _ _ _)
    · exact (hboth _ _).trans (event _ _ _ _ _)

end Tests

/-- No generator in an attempt that LOCKOUT ends. -/
theorem State.lockoutGens_rests (h : ∀ j < 8, (s.gen j).state ≠ .claiming ∧ (s.gen j).state ≠ .syncing) : s.lockoutGens = s := by
  refine State.forEach_rests _ fun j hj => ?_
  obtain ⟨hclaiming, hsyncing⟩ := h j (List.mem_range.1 hj)
  split
  · next hc => exact absurd hc hclaiming
  · next hc => exact absurd hc hsyncing
  · rfl

/-- The streams' turns leave the mark that holds events back. -/
theorem State.streamTurns_hushed (ns : List Nat) : (s.forEach ns State.streamTurn).hushed = s.hushed := by
  unfold State.forEach
  induction ns generalizing s with
  | nil => rfl
  | cons n ns ih =>
    refine ih.trans ?_
    show (State.streamTurn n s).hushed = _
    unfold State.streamTurn
    split
    · rfl
    · obtain ⟨x, e, h, -⟩ := (s.modStream n (fun _ => (s.stream n).close s.aligner.closingPoint)).streamEvents_shape n
        (s.stream n).state ((s.stream n).close s.aligner.closingPoint).state
      rw [h]
      rfl

theorem State.measured_hushed (s : State) : s.measured.hushed = s.hushed := by
  obtain ⟨q, hq⟩ := s.measured_shape
  have hturns := State.streamTurns_hushed (s := { s with closing := some s.closingLabel }) (List.range 16)
  rw [← State.intakeWork_turns] at hturns
  have hpass : ∀ v : State, ({ v.passClosingPoint with measures := q } : State).hushed = v.hushed := fun _ => rfl
  rw [hq, hpass, State.streamed, hturns]

/-- The state before the paralleling unit's work at a closure, and the state that the closure leads to. -/
structure AtWork (s t x : State) : Prop where
  work : x.work = []
  hushed : x.hushed = false
  par : x.par = s.par
  seq : x.seq = s.seq
  fld : ∀ {y : TableId}, y ≠ .element ∧ y ≠ .curve → ∀ e id, x.fld y e id = s.fld y e id
  count : x.breakers.recs.length = 24
  slot : ∀ b, (x.brk b).slot = (s.brk b).slot
  idle : ∀ b, (s.brk b).bf = .idle → x.brk b = s.brk b
  latch : x.lines.tripLatch = s.lines.tripLatch
  closing : x.closing = some s.closingLabel
  aligner : x.aligner = t.aligner
  nominal : x.aligner.nominal = s.aligner.nominal
  mgmt : x.mgmt = t.mgmt
  measures : x.measures = t.measures
  lockout : x.lines.lockout = t.lines.lockout

theorem State.Quiet.atWork (hs : s.Quiet) (ht : State.settle s ((s.sampled pin).parallelingWork.captureWork s.closingLabel) = t)
    (h : ∀ v : State, v.par = s.par → s.lines.lastSample = some pin → pin = true → s.lines.lockout = false → v.lockoutGens = v) :
    AtWork s t (s.sampled pin) := by
  have hend := closure_end ht
  have hfinishes := closure_finishes ht
  have hprotects := s.guardedWork_protects
  obtain ⟨hpar, hseq, hlines, -, haligner, -, hmeasures, hwork, hhushed, hrecs, hclosing, -⟩ := hprotects.rest
  have hmeasured := s.measured_touches
  have hlines' : s.guardedWork.lines = s.lines := hlines.trans (hmeasured.stands .lines (by decide))
  have hpar' : s.guardedWork.par = s.par := hpar.trans (hmeasured.stands .par (by decide))
  have hbreakers : s.measured.breakers = s.breakers := hmeasured.stands .breakers (by decide)
  have hsample : Tests s.guardedWork (s.guardedWork.sampleLockout pin) := .sampleLockout fun v hv hl hp hlow =>
    h v (hv.trans hpar') (hlines' ▸ hl) hp (hlines' ▸ hlow)
  have hall : Tests s.guardedWork (s.sampled pin) := hsample.trans (.forEach _ _ fun b v => .testBf b)
  have hlabel := s.measured_closing
  have hmhushed := s.measured_hushed
  have hlockout : t.lines.lockout = (s.guardedWork.sampleLockout pin).lines.lockout := by
    rw [hend.lines]
  have hsclosing := (s.guardedWork.sampleLockout_rest pin).2
  have hbf : (s.sampled pin).lines = (s.guardedWork.sampleLockout pin).lines :=
    (Evolves.lines (State.forEach_evolves _ _ .refl fun b _ ht => State.testBf_evolves b ht))
  have hcore := hall.core
  have hev : Evolves (s.guardedWork.sampleLockout pin) (s.sampled pin) := State.forEach_evolves _ _ .refl fun b _ ht => State.testBf_evolves b ht
  generalize s.sampled pin = x at *
  generalize s.guardedWork = w at *
  have hpart : ∀ {α : Type} (f : State → α), f x.core = f _ := fun f => congrArg f hcore
  have hbrk : ∀ b, w.brk b = s.brk b := fun b => by rw [State.brk, hrecs, hbreakers, State.brk]
  exact
    { work := (hpart State.work).trans (hwork.trans ((hmeasured.calm (by decide)).1.trans hs.1))
      hushed := (hpart State.hushed).trans (hhushed.trans (hmhushed.trans hs.2.2.1))
      par := (hpart State.par).trans hpar'
      seq := (hpart State.seq).trans (hseq.trans (hmeasured.stands .seq (by decide)))
      fld := fun hy e id => by
        rw [State.fld, show x.mgmt = w.mgmt from hpart State.mgmt, ← State.fld, hprotects.fld hy, State.fld,
          hmeasured.stands .mgmt (by decide), State.fld]
      count := hall.length.trans (by rw [hrecs, hbreakers, hs.recs_length])
      slot := fun b => (hall.slot b).trans (by rw [hbrk])
      idle := fun b hb => (hall.idle b (by rw [hbrk, hb])).trans (hbrk b)
      latch := by rw [hbf, State.sampleLockout_moves, hlines']
      closing := hev.closing.trans (hsclosing.trans (hclosing.trans hlabel))
      aligner := (hpart State.aligner).trans (haligner.trans hend.aligner.symm)
      nominal := by
        rw [show x.aligner = w.aligner from hpart State.aligner, haligner, s.measured_aligner]
      mgmt := (hpart State.mgmt).trans hfinishes.mgmt.symm
      measures := (hpart State.measures).trans (hmeasures.trans hend.measures.symm)
      lockout := by rw [hbf]; exact hlockout.symm }

end

end Sys2Proof.Machine
end

section
/-! # The paralleling unit's work at a closure -/

namespace Sys2Proof.Machine

section
variable {s t u v w x y : State} {g j b k : Nat} {pin : Bool} {l : Label} {r : SyncRun}

/-! ### The paralleling unit's work at a closure (R156 to R163) -/

/-- The at-rated test leaves a generator that is none of STARTING, READY, CLAIMING and SYNCING. -/
theorem State.ratedTest_other (h : (x.gen g).state = .absent ∨ (x.gen g).state = .closing) : State.ratedTest g x = x := by
  unfold State.ratedTest
  split
  · rfl
  · obtain h | h := h <;> rw [h]

/-- A SYNCING generator at rated stays SYNCING (R156). -/
theorem State.ratedTest_rated (h : (x.gen g).state = .syncing) (hr : Clause.rated x g = true) : State.ratedTest g x = x := by
  have hat : x.atRated g = true := hr
  simp only [State.ratedTest, h, hat, if_true, ite_self]

theorem State.closeAttempt_other (h : (x.gen g).state ≠ .ready) : x.closeAttempt g = x := by
  rw [State.closeAttempt]
  exact if_pos (by simp [h])

theorem State.deadCheck_other (h : (x.gen g).state ≠ .closing ∨ x.deadQueued g = false) : x.deadCheck g = x := by
  rw [State.deadCheck]
  refine if_pos ?_
  obtain h | h := h <;> simp [h]

theorem State.evaluateRun_none (h : x.channel k = none) : State.evaluateRun k x = x := by
  rw [State.evaluateRun, h]

theorem State.evaluateRun_released (h : x.channel k = some r) (hr : r.phase = .released) : State.evaluateRun k x = x := by
  rw [State.evaluateRun, h]
  exact if_pos (by rw [hr]; rfl)

/-- A run with an input that is not valid aborts (R161). -/
theorem State.evaluateRun_invalid (h : x.channel k = some r) (hr : r.phase = .running) (hv : ¬ Clause.runValid x r) :
    State.evaluateRun k x = x.abortRun k := by
  have hinvalid : x.runValid r = false := by
    by_contra hyes
    refine hv fun k hk => ?_
    simp only [Bool.not_eq_false, State.runValid, List.all_cons, List.all_nil, Bool.and_true, Bool.and_eq_true] at hyes
    obtain ⟨⟨hg, hg'⟩, hb, hb'⟩ := hyes
    simp only [List.mem_cons, List.not_mem_nil, or_false] at hk
    obtain rfl | rfl := hk
    · exact ⟨hg, hg'⟩
    · exact ⟨hb, hb'⟩
  rw [State.evaluateRun, h]
  dsimp only
  rw [if_neg (by rw [hr]; decide), if_pos (by rw [hinvalid]; rfl)]

/-- The work of the unit where the at-rated tests move nothing. -/
theorem State.parallelingWork_untested (h : ∀ g < 8, State.ratedTest g x = x) : x.parallelingWork =
    ((x.forEach x.genOrder (fun g v => (v.closeAttempt g).deadCheck g)).forEach (List.range 4) State.evaluateRun).post .tokenGrant := by
  have hrests : x.forEach (List.range 8) State.ratedTest = x := State.forEach_rests _ fun j hj => h j (List.mem_range.1 hj)
  rw [State.parallelingWork, hrests]

/-- Capture's work leaves all but the links, the records and the capture. -/
theorem State.captureWork_shape (u : State) (l : Label) : ∃ a e c, u.captureWork l = { u with links := a, events := e, capture := c } := by
  have hshape : ∀ (c : Capture) (n : Option Nat), ∃ a e d,
      ({ u with capture := c } : State).event .capture 8 0 3 n = { u with links := a, events := e, capture := d } := fun c n => by
    obtain ⟨a, seqs, -, e⟩ := State.event_eq ({ u with capture := c } : State) .capture 8 0 3 n
    exact ⟨a, _, c, e⟩
  rw [State.captureWork]
  generalize u.instantRecord l = r
  unfold State.captureAppend
  dsimp only
  split
  · exact ⟨_, _, _, rfl⟩
  · split
    · exact hshape _ _
    · exact ⟨_, _, _, rfl⟩

end

end Sys2Proof.Machine
end

section
/-! # O40: the abort of the sequencer's run -/

namespace Sys2Proof.Machine

section
variable {s t u v w x y z : State} {g j b k n : Nat} {pin : Bool} {l : Label} {r : SyncRun}

/-- The validity of a run's inputs is read of the measurements. -/
theorem runValid_congr (h : v.measures = s.measures) : Clause.runValid v r ↔ Clause.runValid s r := by
  have hmeasure : v.measure = s.measure := by funext k; rw [State.measure, State.measure, h]
  have hphasor : v.phasor = s.phasor := by funext k q; rw [State.phasor, State.phasor, hmeasure]
  rw [Clause.runValid, Clause.runValid, hmeasure, hphasor]

/-- A closure ends as the work that it hands on does. -/
structure ClosureEnds (s z t : State) : Prop where
  gens : ∀ j < 8, t.gen j = { z.gen j with refreshTimer := (t.gen j).refreshTimer }
  still : ∀ j, ¬ State.Changed s z j → t.gen j = z.gen j
  par : t.par = { z.par with gens := t.par.gens }
  breakers : t.breakers = z.breakers
  seq : t.seq = z.seq

namespace ClosureEnds

theorem brk (h : ClosureEnds s z t) (b : Nat) : t.brk b = z.brk b := by rw [State.brk, h.breakers, State.brk]

theorem channel (h : ClosureEnds s z t) (c : Nat) : t.channel c = z.channel c := by rw [State.channel, h.par, State.channel]

end ClosureEnds

theorem State.genOrder_lt (h : j ∈ s.genOrder) : j < 8 := by
  rw [State.genOrder, State.startOrder, State.unlisted, List.mem_append, List.mem_flatMap] at h
  obtain ⟨rank, -, hj⟩ | hj := h
  · exact List.mem_range.1 (List.mem_filter.1 hj).1
  · exact List.mem_range.1 (List.mem_filter.1 hj).1

/-- A loop that does something at one of its numbers alone. -/
theorem State.forEach_single {F : Nat → State → State} {ns : List Nat} (hn : ns.Nodup) (hg : g ∈ ns)
    (hbefore : ∀ j ∈ ns, j ≠ g → F j s = s) (hafter : ∀ j ∈ ns, j ≠ g → F j (F g s) = F g s) : s.forEach ns F = F g s := by
  induction ns with
  | nil => cases hg
  | cons n ns ih =>
    obtain ⟨hnew, hrest⟩ := List.nodup_cons.1 hn
    have hstep : s.forEach (n :: ns) F = (F n s).forEach ns F := rfl
    rw [hstep]
    by_cases hng : n = g
    · subst hng
      exact State.forEach_rests _ fun j hj => hafter j (List.mem_cons_of_mem _ hj) fun he => hnew (he ▸ hj)
    · rw [hbefore n List.mem_cons_self hng]
      exact ih hrest ((List.mem_cons.1 hg).resolve_left (Ne.symm hng)) (fun j hj => hbefore j (List.mem_cons_of_mem _ hj))
        fun j hj => hafter j (List.mem_cons_of_mem _ hj)

/-- The runs of a closure where one channel alone has something to do. -/
theorem State.evaluateRuns_one (hk : k < 4) (hbefore : ∀ j < 4, j ≠ k → State.evaluateRun j x = x)
    (hafter : ∀ j < 4, j ≠ k → State.evaluateRun j (State.evaluateRun k x) = State.evaluateRun k x) :
    x.forEach (List.range 4) State.evaluateRun = State.evaluateRun k x :=
  State.forEach_single List.nodup_range (List.mem_range.2 hk) (fun j hj => hbefore j (List.mem_range.1 hj))
    fun j hj => hafter j (List.mem_range.1 hj)

/-- The end of a closure's work. -/
theorem ClosureEnds.of_drains (h : State.settle s y = t) (hdrains : Drains n y z) (hh : z.hushed = false)
    (hlen : z.par.gens.length = 8) (hn : n ≤ Config.workBound := by decide) : ClosureEnds s z t := by
  obtain ⟨t', hend, hgens, -, hstill, hpar, hbreakers, hseq, -⟩ := finish_gensets (s := s) hdrains.work hh hlen
  have hsame : t = t' := by
    rw [← h, hdrains.settle hn]
    exact Host.Outcome.next.inj hend
  rw [hsame]
  exact ⟨hgens, hstill, hpar, hbreakers, hseq⟩

/-- What capture's work at a closure leaves as it was. -/
structure Captured (u y : State) : Prop where
  work : y.work = u.work
  hushed : y.hushed = u.hushed
  par : y.par = u.par
  breakers : y.breakers = u.breakers
  seq : y.seq = u.seq
  mgmt : y.mgmt = u.mgmt
  lines : y.lines = u.lines
  measures : y.measures = u.measures

namespace Captured

theorem gen (h : Captured u y) (j : Nat) : y.gen j = u.gen j := by rw [State.gen, h.par, State.gen]

theorem brk (h : Captured u y) (b : Nat) : y.brk b = u.brk b := State.brk_congr h.breakers b

theorem channel (h : Captured u y) (c : Nat) : y.channel c = u.channel c := by rw [State.channel, h.par, State.channel]

end Captured

theorem closure_captured (h : State.settle s (u.captureWork l) = t) : ∃ y, Captured u y ∧ State.settle s y = t ∧ Grows [] u t := by
  obtain ⟨a, e, c, hshape⟩ := u.captureWork_shape l
  have hgrows := (u.captureWork_finishes l).grows.next (State.settle_finishes s (u.captureWork l)).grows
  rw [h] at hgrows
  refine ⟨u.captureWork l, ?_, h, hgrows⟩
  rw [hshape]
  exact ⟨rfl, rfl, rfl, rfl, rfl, rfl, rfl, rfl⟩

/-! ### The sequencer's run aborts (R130, R163) -/

/-- What the abort of the sequencer's run `r` on channel 0 makes of a state. -/
structure RunDropped (x u : State) (r : SyncRun) : Prop where
  work : u.work = x.work ++ [.seqSyncAborted]
  hushed : u.hushed = x.hushed
  breakers : u.breakers = x.breakers
  seq : u.seq = x.seq
  count : u.par.gens.length = x.par.gens.length
  gen : ∀ j < x.par.gens.length, u.gen j = (x.gen j).unbiased (r.wrote.contains j)
  same : u.channel 0 = none
  other : ∀ j, j ≠ 0 → u.channel j = x.channel j
  tokenList : u.par.tokenList = x.par.tokenList
  records : Grows [] (x.abortEvent 0) u

theorem State.abortRun_dropped (hr : x.channel 0 = some r) (hclient : r.client = .sequencer) : RunDropped x (x.abortRun 0) r := by
  have haborts : x.abortRun 0 = ((x.abortEvent 0).endRun 0).post .seqSyncAborted := by
    rw [State.abortRun, hr]
    dsimp only
    rw [hclient]
  have hpar : (x.abortEvent 0).par = x.par := State.event_par ..
  have hgen : ∀ j, (x.abortEvent 0).gen j = x.gen j := fun j => by rw [State.gen, hpar, State.gen]
  have hchannel : ∀ j, (x.abortEvent 0).channel j = x.channel j := fun j => by rw [State.channel, hpar, State.channel]
  have hwork : (x.abortEvent 0).work = x.work := State.event_work ..
  have hhushed : (x.abortEvent 0).hushed = x.hushed := State.event_hushed ..
  have hbreakers : (x.abortEvent 0).breakers = x.breakers := State.event_breakers ..
  have hseq : (x.abortEvent 0).seq = x.seq := State.event_seq ..
  have hends := State.endRun_ends (s := x.abortEvent 0) (k := 0) ((hchannel 0).trans hr)
  have hrecords : Grows [] (x.abortEvent 0) (((x.abortEvent 0).endRun 0).post .seqSyncAborted) := by
    rw [hends.eq]
    exact (Grows.refl _).same
  rw [haborts]
  clear haborts
  generalize he : x.abortEvent 0 = e at *
  generalize e.endRun 0 = f at *
  exact
    { work := by
        rw [State.post_work, hends.work, hwork]
        exact congrArg (· ++ _) (List.append_nil _)
      hushed := hends.hushed.trans hhushed
      breakers := hends.breakers.trans hbreakers
      seq := hends.seq.trans hseq
      count := hends.length.trans (congrArg (·.gens.length) hpar)
      gen := fun j hj => (hends.gen j (by rw [hpar]; exact hj)).trans (by rw [hgen])
      same := hends.channel_same
      other := fun j hj => (hends.channel_other hj).trans (hchannel j)
      tokenList := hends.tokenList.trans (congrArg Paralleling.tokenList hpar)
      records := he ▸ hrecords }

/-- The unit's work of a closure at which no generator is present and the sequencer's run has an input that is not valid. -/
theorem State.parallelingWork_dropped (habsent : ∀ j < 8, (x.gen j).state = .absent) (hr : x.channel 0 = some r)
    (hclient : r.client = .sequencer) (hphase : r.phase = .running) (hothers : ∀ j < 4, j ≠ 0 → x.channel j = none)
    (hinvalid : ¬ Clause.runValid x r) : x.parallelingWork = (x.abortRun 0).post .tokenGrant := by
  have hattempts : x.forEach x.genOrder (fun g v => (v.closeAttempt g).deadCheck g) = x := State.forEach_rests _ fun j hj => by
    have hj' := habsent j (State.genOrder_lt hj)
    rw [State.closeAttempt_other (by rw [hj']; decide), State.deadCheck_other (.inl (by rw [hj']; decide))]
  have hevaluates := State.evaluateRun_invalid hr hphase hinvalid
  rw [State.parallelingWork_untested fun j hj => State.ratedTest_other (.inl (habsent j hj)), hattempts,
    State.evaluateRuns_one (by decide) (fun j hj hne => State.evaluateRun_none (hothers j hj hne)) (fun j hj hne => ?_), hevaluates]
  rw [hevaluates]
  exact State.evaluateRun_none (((State.abortRun_dropped hr hclient).other j hne).trans (hothers j hj hne))

end

/-- Settles the fifth part of O40. -/
theorem sequencersRunAborts : Clause.SequencersRunAborts := by
  intro s t pin r p hs hdue hexec habsent hr hclient hphase hothers htoken hlist hseq hwait hinvalid
  rw [exec_closure_due hdue] at hexec
  have ht : State.settle s ((s.sampled pin).parallelingWork.captureWork s.closingLabel) = t := Host.Outcome.next.inj hexec
  have hwork := hs.atWork ht fun v hv _ _ _ => State.lockoutGens_rests fun j hj => by
    rw [State.gen, hv, ← State.gen, habsent j hj]
    decide
  generalize s.sampled pin = x at *
  have hgen : ∀ j, x.gen j = s.gen j := fun j => by rw [State.gen, hwork.par, State.gen]
  have hchannel : ∀ c, x.channel c = s.channel c := fun c => by rw [State.channel, hwork.par, State.channel]
  have hdropped := State.abortRun_dropped ((hchannel 0).trans hr) hclient
  rw [State.parallelingWork_dropped (fun j hj => by rw [hgen, habsent j hj]) ((hchannel 0).trans hr) hclient hphase
    (fun j hj hne => (hchannel j).trans (hothers j hj hne)) (by rw [runValid_congr hwork.measures]; exact hinvalid)] at ht
  generalize x.abortRun 0 = u at *
  obtain ⟨y, hy, hsettle, hcaptured⟩ := closure_captured ht
  have hylist : y.par.tokenList = [] := by
    rw [hy.par]
    exact hdropped.tokenList.trans ((congrArg Paralleling.tokenList hwork.par).trans hlist)
  have hyrun : y.seq.state = .running p := by rw [hy.seq, State.post_seq, hdropped.seq, hwork.seq, hseq]
  have hywork : y.work = [.seqSyncAborted, .tokenGrant] := by
    rw [hy.work, State.post_work, hdropped.work, hwork.work]
    rfl
  let z := ({ y with work := [] } : State).waitingFor p (.retry 0)
  have hhandle : State.handle { y with work := [] } .seqSyncAborted = z := by
    have hrun : ({ y with work := [] } : State).run? = some p := State.run_running hyrun
    show State.seqAborted _ = _
    rw [State.seqAborted, hrun]
    exact (if_pos (by rw [hwait]; rfl)).trans (State.setWait_eq (s := { y with work := [] }) hyrun _)
  have hdrains : Drains 2 y z := by
    refine .piece hywork ?_
    rw [hhandle]
    exact .skip rfl (State.handle_tokenGrant hylist) (.done rfl)
  have hlen : x.par.gens.length = 8 := by rw [hwork.par, hs.gens_length]
  have hended := ClosureEnds.of_drains hsettle hdrains (hy.hushed.trans (hdropped.hushed.trans hwork.hushed))
    (by show y.par.gens.length = 8; rw [hy.par]; exact hdropped.count.trans hlen)
  refine ⟨?_, ?_, fun j hj => ?_, fun b _ => ?_, closureRecords_of_holds hwork.closing
    (hdropped.records.next ((Grows.refl u).same.next hcaptured))⟩
  · exact (hended.channel 0).trans ((hy.channel 0).trans hdropped.same)
  · exact congrArg Sequencer.state hended.seq
  · have hzgen : z.gen j = (s.gen j).unbiased (r.wrote.contains j) :=
      (hy.gen j).trans ((hdropped.gen j (hlen.symm ▸ hj)).trans (by rw [hgen]))
    have hnone : z.setpointOf j = none := State.setpointOf_absent (by rw [hzgen]; exact habsent j hj)
    rw [hended.still j fun hc => hc.1 hnone, hzgen, GenRec.unbiased]
    simp only [List.contains_iff_mem]
  · refine (congrArg BreakerRec.slot ((hended.brk b).trans (hy.brk b))).trans ?_
    show (u.brk b).slot = _
    rw [State.brk_congr hdropped.breakers]
    exact hwork.slot b


end Sys2Proof.Machine
end

section
/-! # The evaluation of a run -/

namespace Sys2Proof.Machine

section
variable {s t u v w x y z : State} {g j b k n : Nat} {pin : Bool} {l : Label} {r : SyncRun}

/-! ### The evaluation of a run (R161) -/

/-- What the evaluation of a run finds. -/
structure Evaluation where
  theta : Int
  slip : Int
  advance : Int
  count : Nat
  ready : Bool
  release : Bool

/-- The evaluation of run `r` on the measurements of `m`, with the settings of `s`. -/
def evaluation (m s : State) (r : SyncRun) : Evaluation :=
  let mg := (m.phasor r.gStream 0).magnitude
  let mb := (m.phasor r.bStream 0).magnitude
  let theta := angleBetween (m.phasor r.gStream 0) (m.phasor r.bStream 0)
  let slip : Int := (m.measure r.gStream).tracker.frequency - (m.measure r.bStream).tracker.frequency
  let advance := roundDiv (3 * slip * s.fld .breaker r.breaker 7) (4 * s.aligner.nominal)
  let window : Bool := decide (s.fld .sync r.entry 5 ≤ mg ∧ s.fld .sync r.entry 5 ≤ mb ∧
    theta.natAbs ≤ s.fld .sync r.entry 1 ∧ s.sfld .sync r.entry 2 ≤ slip ∧ slip ≤ s.sfld .sync r.entry 3 ∧
    ((mg : Int) - mb).natAbs ≤ s.fld .sync r.entry 4)
  let count := if window then r.qualify + 1 else 0
  let ready := window && (r.ready || decide (s.fld .sync r.entry 7 ≤ count))
  let release := ready && decide (0 ≤ theta + advance ∧ theta + advance ≤ s.fld .sync r.entry 8)
  { theta := theta, slip := slip, advance := advance, count := count, ready := ready, release := release }

/-- A run with what its evaluation has found. -/
def SyncRun.evaluated (r : SyncRun) (e : Evaluation) (phase : RunPhase) : SyncRun :=
  { r with qualify := e.count, ready := e.ready, theta := some e.theta, slip := some e.slip, advance := some e.advance, phase := phase }

theorem evaluation_congr (hq : x.measures = v.measures) (hf : ∀ d id, x.fld .sync d id = s.fld .sync d id)
    (hb : ∀ d id, x.fld .breaker d id = s.fld .breaker d id) (hn : x.aligner.nominal = s.aligner.nominal) :
    evaluation x x r = evaluation v s r := by
  have hmeasure : x.measure = v.measure := by funext k; rw [State.measure, State.measure, hq]
  have hphasor : x.phasor = v.phasor := by funext k q; rw [State.phasor, State.phasor, hmeasure]
  have hsfld : ∀ d id, x.sfld .sync d id = s.sfld .sync d id := fun d id => by rw [State.sfld, State.sfld, hf]
  rw [evaluation, evaluation]
  simp only [hmeasure, hphasor, hf, hb, hn, hsfld]

theorem State.runValid_of (h : Clause.runValid x r) : x.runValid r = true := by
  have hg := h r.gStream (by simp)
  have hb := h r.bStream (by simp)
  simp [State.runValid, hg.1, hg.2, hb.1, hb.2]

/-- The window of a run. -/
theorem State.windowHolds_eq (theta slip : Int) : x.windowHolds r theta slip =
    decide (x.fld .sync r.entry 5 ≤ (x.phasor r.gStream 0).magnitude ∧ x.fld .sync r.entry 5 ≤ (x.phasor r.bStream 0).magnitude ∧
      theta.natAbs ≤ x.fld .sync r.entry 1 ∧ x.sfld .sync r.entry 2 ≤ slip ∧ slip ≤ x.sfld .sync r.entry 3 ∧
      (((x.phasor r.gStream 0).magnitude : Int) - (x.phasor r.bStream 0).magnitude).natAbs ≤ x.fld .sync r.entry 4) := by
  simp only [State.windowHolds, Bool.decide_and, Bool.and_assoc]

/-- A run whose inputs are valid goes on, or is released. -/
theorem State.evaluateRun_valid (h : x.channel k = some r) (hr : r.phase = .running) (hv : Clause.runValid x r)
    (hc : r.client = .generator g) : State.evaluateRun k x =
      if (evaluation x x r).release then
        (((x.setChannel k (some (r.evaluated (evaluation x x r) .released))).post (.release r.breaker)).event .generator 8 k 7
          (some (unsignedOf 32 (evaluation x x r).theta))).genEnter g .closing
      else x.setChannel k (some (r.evaluated (evaluation x x r) .running)) := by
  have hphase : ∀ (rel : Bool) (F : RunPhase → State) (G : State → State),
      (if rel then G (F (if rel then .released else .running)) else F (if rel then .released else .running)) =
        if rel then G (F .released) else F .running := fun rel F G => by cases rel <;> rfl
  let e := evaluation x x r
  have hrelease : (e.ready && decide (0 ≤ e.theta + e.advance) && decide (e.theta + e.advance ≤ x.fld .sync r.entry 8)) =
      e.release := by
    rw [Bool.and_assoc, ← Bool.decide_and]
    rfl
  rw [State.evaluateRun, h]
  dsimp only
  rw [if_neg (by rw [hr]; decide), if_neg (by rw [State.runValid_of hv]; decide), State.windowHolds_eq]
  refine Eq.trans ?_ (hphase e.release (fun p => x.setChannel k (some (r.evaluated e p))) (fun t =>
    ((t.post (.release r.breaker)).event .generator 8 k 7 (some (unsignedOf 32 e.theta))).genEnter g .closing))
  rw [← hrelease]
  cases r with
  | mk client =>
    cases hc
    rfl

end

end Sys2Proof.Machine
end

section
/-! # Where a generator's run aborts -/

namespace Sys2Proof.Machine

section
variable {s t u v w x y z : State} {g j b k n : Nat} {pin : Bool} {l : Label} {r : SyncRun}

theorem State.genEntered_evolves (new : GenState) (h : Evolves s x) : Evolves s (x.genEntered g new) :=
  State.event_evolves _ _ _ _ _ (State.noting_evolves x ((h.modGen g _).modPar _ rfl))

/-! ### A generator's run aborts (R163) -/

/-- What the abort of run `r` on channel `k` makes of a state in which generator `g` is SYNCING at breaker `b`. -/
structure RunAborted (x u : State) (g b k : Nat) (r : SyncRun) : Prop where
  work : u.work = x.work ++ [.channelFree, .genOutcome g b .closing .sync .withdrawn]
  hushed : u.hushed = x.hushed
  recs : u.breakers.recs = x.breakers.recs.modify b (·.ended .withdrawn)
  count : u.par.gens.length = x.par.gens.length
  gen : u.gen g = ((x.gen g).unbiased (r.wrote.contains g)).retrying (x.fld .sync g 11)
  channel_same : u.channel k = none
  channel_other : ∀ j, j ≠ k → u.channel j = x.channel j
  tokenList : u.par.tokenList = x.par.tokenList.filter (· != .generator g)
  waitList : u.par.waitList = x.par.waitList.filter (· != g)
  mgmt : u.mgmt = x.mgmt
  records : ∃ v : State, v.closing = x.closing ∧ Grows [] (v.event .generator 9 k 8 none) u

theorem State.abortRun_aborted (hg : g < x.par.gens.length) (hstate : (x.gen g).state = .syncing) (hd : (x.gen g).deferred = false)
    (hk : k < 4) (hk0 : k ≠ 0) (hr : x.channel k = some r) (hc : r.client = .generator g) (hphase : r.phase = .running)
    (hothers : ∀ j < 4, j ≠ k → x.channel j = none)
    (hslot : (x.brk (x.genBreaker g)).slot = some (Clause.closeOf g .sync))
    (ht : x.par.token ≠ some (.generator g)) : RunAborted x (x.abortRun k) g (x.genBreaker g) k r := by
  let a := x.modGen g (fun y => { y with retryTimer := x.correctionInterval g, retryDue := false })
  have hagen : a.gen g = { x.gen g with retryTimer := x.correctionInterval g, retryDue := false } := State.gen_modGen_same _ _ hg
  have hachannel : ∀ j, (a.abortEvent k).channel j = x.channel j := fun j => by
    rw [State.abortEvent, State.channel, State.event_par]
    rfl
  have habort : x.abortRun k = a.genEnter g .ready := by
    rw [State.abortRun, hr]
    dsimp only
    rw [hc]
    exact if_pos (by rw [hstate]; rfl)
  have hleave : a.leaveRun (.generator g) = (a.abortEvent k).endRun k := by
    have hof : a.channelOf (.generator g) = some k := State.channelOf_some hk hr hc fun j hj hjk y hy => by
      have hnone : a.channel j = none := hothers j hj hjk
      rw [hnone] at hy
      cases hy
    have hruns : (a.channel k).any (fun r => r.phase == .running) = true := by
      show (x.channel k).any _ = true
      rw [hr]
      simp [hphase]
    rw [State.leaveRun, hof]
    exact if_pos (by rw [hruns, Bool.or_true])
  have hends := State.endRun_ends (s := a.abortEvent k) ((hachannel k).trans hr)
  rw [if_neg hk0] at hends
  have habreakers : (a.abortEvent k).breakers = x.breakers := State.event_breakers ..
  have hawork : (a.abortEvent k).work = x.work := State.event_work ..
  have hahushed : (a.abortEvent k).hushed = x.hushed := State.event_hushed ..
  have hapar : (a.abortEvent k).par = a.par := State.event_par ..
  have hamgmt : (a.abortEvent k).mgmt = x.mgmt := State.event_mgmt ..
  generalize (a.abortEvent k).endRun k = e at *
  have hebrk : ∀ i, e.brk i = x.brk i := fun i => by rw [State.brk, hends.breakers, habreakers, State.brk]
  have hegen : e.gen g = (a.gen g).unbiased (r.wrote.contains g) := by
    rw [hends.gen g (by rw [hapar]; exact (List.length_modify ..).symm ▸ hg), State.gen, hapar, State.gen]
  have hechannel : ∀ i < 4, e.channel i = none := fun i hi => by
    by_cases hik : i = k
    · rw [hik, hends.channel_same]
    · rw [hends.channel_other hik, hachannel, hothers i hi hik]
  have hwithdrawn : a.leaveAttempt g = (e.closeWithdrawn (x.genBreaker g) g (Clause.closeOf g .sync)).leaveToken (.generator g) := by
    have hnone : (e.closeWithdrawn (x.genBreaker g) g (Clause.closeOf g .sync)).channelFor (.generator g) (x.genBreaker g) = none :=
      State.channelFor_none fun i hi y hy => by
        have hsame : (e.closeWithdrawn (x.genBreaker g) g (Clause.closeOf g .sync)).core.channel i = none := by
          rw [State.core_closeWithdrawn]
          exact hechannel i hi
        exact nomatch hsame.symm.trans hy
    have hbreaker : a.genBreaker g = x.genBreaker g := rfl
    rw [State.leaveAttempt, hleave, hbreaker, State.withdrawClose_sync (c := Clause.closeOf g .sync)
      ⟨(hebrk _ ▸ hslot : (e.brk _).slot = _), rfl, rfl, rfl, rfl, rfl⟩ rfl, State.endRunOf, hnone]
  have hcore : (a.leaveAttempt g).core = ((e.core.modBrk (x.genBreaker g) (·.ended .withdrawn)).post
      (.genOutcome g (x.genBreaker g) .closing .sync .withdrawn)).dropRequest (.generator g) := by
    have hheld : (e.par.token == some (.generator g)) = false := by
      rw [hends.token, hapar]
      exact beq_false_of_ne ht
    rw [hwithdrawn, State.core_leaveToken, State.core_closeWithdrawn, State.leaveToken, State.freeToken]
    exact if_neg (by show ¬ (e.par.token == some (.generator g)) = true; rw [hheld]; decide)
  have hevolves : Evolves e (a.leaveAttempt g) := by
    rw [State.leaveAttempt, hleave]
    exact State.leaveToken_evolves _ (State.withdrawClose_evolves _ _ .refl)
  have hkept : (a.leaveAttempt g).par.gens = e.par.gens := by
    show (a.leaveAttempt g).core.par.gens = _
    rw [hcore]
    rfl
  have hkgen : (a.leaveAttempt g).gen g = e.gen g := by rw [State.gen, hkept, State.gen]
  have helen : e.par.gens.length = x.par.gens.length := by
    rw [hends.length, hapar]
    exact List.length_modify ..
  have hentered := State.genEnter_ready (s := a) (g := g) (by rw [hkept, helen]; exact hg) (by rw [hagen]; show GenState.attempting (x.gen g).state = true; rw [hstate]; rfl)
    (by rw [hkgen, hegen]; rfl) (by rw [hkgen, hegen, hagen]; exact hd)
  have hcore' := State.core_genEntered (s := a.leaveAttempt g) (g := g) .ready
  have hevolves' : Evolves e ((a.leaveAttempt g).genEntered g .ready) := State.genEntered_evolves _ hevolves
  rw [habort, hentered]
  rw [hcore] at hcore'
  generalize (a.leaveAttempt g).genEntered g .ready = u at *
  have hpart : ∀ {α : Type} (f : State → α), f u.core = f _ := fun f => congrArg f hcore'
  exact
    { work := by
        refine (hpart State.work).trans ?_
        show e.work ++ [_] = _
        rw [hends.work, hawork, List.append_assoc]
        rfl
      hushed := (hpart State.hushed).trans (hends.hushed.trans hahushed)
      recs := (hpart (·.breakers.recs)).trans (by
        show e.breakers.recs.modify _ _ = _
        rw [hends.breakers, habreakers])
      count := (congrArg List.length (hpart (·.par.gens))).trans ((List.length_modify ..).trans helen)
      gen := by
        refine (hpart (·.gen g)).trans ((nth_modify_same _ (by show g < e.par.gens.length; rw [helen]; exact hg)).trans ?_)
        show (e.gen g).enter .ready = _
        rw [hegen, hagen]
        rfl
      channel_same := (hpart (·.channel k)).trans (hechannel k hk)
      channel_other := fun j hj => (hpart (·.channel j)).trans ((hends.channel_other hj).trans (hachannel j))
      tokenList := (hpart (·.par.tokenList)).trans (by
        show e.par.tokenList.filter _ = _
        rw [hends.tokenList, hapar]
        rfl)
      waitList := (hpart (·.par.waitList)).trans (by
        show e.par.waitList.filter _ = _
        rw [hends.waitList, hapar]
        rfl)
      mgmt := (hpart State.mgmt).trans (hends.mgmt.trans hamgmt)
      records := by
        have hended : Grows [] (a.abortEvent k) e := by
          rw [hends.eq]
          exact (Grows.refl _).same
        exact ⟨a, rfl, hended.work hevolves'⟩ }

end

end Sys2Proof.Machine
end

section
/-! # O40: a run at a closure -/

namespace Sys2Proof.Machine

section
variable {s t u v w x y z : State} {g j b k n : Nat} {pin : Bool} {l : Label} {r : SyncRun}

/-- Point LOCKOUT after a closure (R91). -/
theorem closure_lockout (h : State.settle s ((s.sampled pin).parallelingWork.captureWork s.closingLabel) = t) :
    t.lines.lockout = if s.lines.lastSample = some pin then pin else s.lines.lockout := by
  obtain ⟨-, -, hlines, -⟩ := s.guardedWork_protects.rest
  rw [(closure_end h).lines, State.sampleLockout_moves, hlines, s.measured_touches.stands .lines (by decide)]

namespace AtWork

theorem gen (h : AtWork s t x) (j : Nat) : x.gen j = s.gen j := by rw [State.gen, h.par, State.gen]

theorem channel (h : AtWork s t x) (c : Nat) : x.channel c = s.channel c := by rw [State.channel, h.par, State.channel]

theorem genBreaker (h : AtWork s t x) (g : Nat) : x.genBreaker g = s.fld .generator g 3 := h.fld (by decide) g 3

theorem gens_length (h : AtWork s t x) (hs : s.Quiet) : x.par.gens.length = 8 := by rw [h.par, hs.gens_length]

theorem mayClose (h : AtWork s t x) (hm : Clause.mayClose s b) (hbf : (s.brk b).bf = .idle) (hl : t.lines.lockout = false) :
    Clause.mayClose x b := by
  obtain ⟨hb, hconf, hiso, hlock, htrips, hlatch, -, hpos, hresp, hhealth⟩ := hm
  rw [Clause.mayClose, h.fld (by decide), h.fld (by decide), h.fld (by decide), h.idle b hbf, h.latch, h.lockout]
  exact ⟨hb, hconf, hiso, hlock, htrips, hlatch, hl, hpos, hresp, hhealth⟩

/-- A setpoint record that stands over a closure. -/
theorem setpointOf (h : AtWork s t x) (hm : z.mgmt = x.mgmt) (hstate : (s.gen g).state ≠ .absent) (hz : (z.gen g).state ≠ .absent)
    (hset : (z.gen g).setpoint = (s.gen g).setpoint) : ¬ State.Changed s z g := fun hc => by
  have hconf : z.genConfigured g = s.genConfigured g := by
    rw [State.genConfigured, State.fld, hm, ← State.fld, h.fld (by decide), State.genConfigured]
  refine hc.2 ?_
  rw [State.setpointOf_eq, State.setpointOf_eq, hconf, hset]
  simp [hstate, hz]

/-- A generator at rated on the measurements of a closure. -/
theorem rated (h : AtWork s t x) (g : Nat) : Clause.rated x g = Clause.rated t g := rated_congr h.mgmt h.measures h.aligner

/-- The unit's work where one generator alone is SYNCING, at rated, with the run on channel `k`. -/
theorem evaluates (h : AtWork s t x) (hg : Clause.Alone s g) (hstate : (s.gen g).state = .syncing) (hr : Clause.rated t g = true)
    (hk : k < 4) (hothers : ∀ j < 4, j ≠ k → s.channel j = none)
    (hstands : ∀ j < 4, j ≠ k → (State.evaluateRun k x).channel j = x.channel j) :
    x.parallelingWork = (State.evaluateRun k x).post .tokenGrant := by
  have hother : ∀ j < 8, j ≠ g → (x.gen j).state = .absent := fun j hj hne => by rw [h.gen, hg j hj hne]
  have hown : (x.gen g).state = .syncing := by rw [h.gen, hstate]
  have htests : ∀ j < 8, State.ratedTest j x = x := fun j hj => by
    by_cases hjg : j = g
    · subst hjg
      exact State.ratedTest_rated hown ((h.rated j).trans hr)
    · exact State.ratedTest_other (.inl (hother j hj hjg))
  have hattempts : x.forEach x.genOrder (fun g v => (v.closeAttempt g).deadCheck g) = x := State.forEach_rests _ fun j hj => by
    have hne : (x.gen j).state ≠ .ready ∧ (x.gen j).state ≠ .closing := by
      by_cases hjg : j = g
      · rw [hjg, hown]
        decide
      · rw [hother j (State.genOrder_lt hj) hjg]
        decide
    rw [State.closeAttempt_other hne.1, State.deadCheck_other (.inl hne.2)]
  rw [State.parallelingWork_untested htests, hattempts, State.evaluateRuns_one hk
    (fun j hj hne => State.evaluateRun_none ((h.channel j).trans (hothers j hj hne)))
    fun j hj hne => State.evaluateRun_none ((hstands j hj hne).trans ((h.channel j).trans (hothers j hj hne)))]

end AtWork

/-! ### The release of a queued close -/

/-- A generator's queued close that nothing keeps from its issue is issued, and nobody waits for the token (R103, R105). -/
theorem Drains.closeReleased {c : CloseKind} (hwork : y.work = [.release b, .tokenGrant]) (hmay : Clause.mayClose y b)
    (hslot : (y.brk b).slot = some (Clause.closeOf g c)) (hc : c ≠ .plain)
    (ht : c = .dead → y.fld .breaker b 5 = 1 → y.par.token = some (.generator g)) (hlist : y.par.tokenList = []) :
    Drains 2 y (({ y with work := [] } : State).commandIssued b (Clause.closeOf g c)) := by
  have hpass : y.closeReason b c (.party (.generator g)) = none := State.closeReason_passes hmay hc fun hd hb => by
    rw [State.holdsToken, ht hd hb]
    exact beq_self_eq_true _
  have hnormal : y.isolated b = false := by
    have hiso := hmay.2.2.1
    simpa [State.isolated] using hiso
  have hrelease : State.handle { y with work := [] } (.release b) =
      ({ y with work := [] } : State).commandIssued b (Clause.closeOf g c) :=
    State.releaseClose_issued (s := { y with work := [] }) hslot rfl rfl hpass hnormal
  refine .piece hwork ?_
  rw [hrelease]
  exact .skip rfl (State.handle_tokenGrant hlist) (.done rfl)

/-! ### The run of a SYNCING generator at a closure (R161 to R163) -/

/-- A closure at which generator `g` alone takes part in anything: it is SYNCING, with its run `r` on channel `k` and its close
waiting in the slot of breaker `b`. The closure leads from `x` to `t`. -/
structure Syncing (s t x : State) (g k : Nat) (r : SyncRun) (b : Nat) : Prop where
  quiet : s.Quiet
  work : AtWork s t x
  settles : State.settle s (x.parallelingWork.captureWork s.closingLabel) = t
  lt : g < 8
  alone : Clause.Alone s g
  state : (s.gen g).state = .syncing
  deferred : (s.gen g).deferred = false
  rated : Clause.rated t g = true
  lockout : t.lines.lockout = false
  channel : k < 4 ∧ k ≠ 0
  run : s.channel k = some r
  others : ∀ j < 4, j ≠ k → s.channel j = none
  breaker_eq : s.fld .generator g 3 = b
  breaker_lt : b < 24
  client : r.client = .generator g
  breaker : r.breaker = b
  phase : r.phase = .running
  slot : (s.brk b).slot = some (Clause.closeOf g .sync)
  bf : (s.brk b).bf = .idle
  token : s.par.token = none
  tokenList : s.par.tokenList = []
  waitList : s.par.waitList = []

namespace Syncing

theorem run_at (h : Syncing s t x g k r b) : x.channel k = some r := (h.work.channel k).trans h.run

theorem brk (h : Syncing s t x g k r b) : x.brk b = s.brk b := h.work.idle b h.bf

theorem lt_recs (h : Syncing s t x g k r b) : b < x.breakers.recs.length := h.work.count.symm ▸ h.breaker_lt

theorem lt_gens (h : Syncing s t x g k r b) : g < x.par.gens.length := (h.work.gens_length h.quiet).symm ▸ h.lt

theorem lt_channels (h : Syncing s t x g k r b) : k < x.par.channels.length := by
  rw [h.work.par, h.quiet.channels_length]
  exact h.channel.1

theorem valid (h : Syncing s t x g k r b) : Clause.runValid x r ↔ Clause.runValid t r := runValid_congr h.work.measures

theorem evaluation (h : Syncing s t x g k r b) : evaluation x x r = evaluation t s r :=
  evaluation_congr h.work.measures (fun d id => h.work.fld (by decide) d id) (fun d id => h.work.fld (by decide) d id) h.work.nominal

/-- The closure's end, from the state that the evaluation of the run leads to. -/
theorem ends (h : Syncing s t x g k r b) (hu : State.evaluateRun k x = u) (hstands : ∀ j, j ≠ k → u.channel j = x.channel j) :
    ∃ y, Captured (u.post .tokenGrant) y ∧ State.settle s y = t ∧ Grows [] (u.post .tokenGrant) t := by
  have hmoves := h.work.evaluates h.alone h.state h.rated h.channel.1 h.others fun j _ hjk => by rw [hu]; exact hstands j hjk
  have hsettles := h.settles
  rw [hmoves, hu] at hsettles
  exact closure_captured hsettles

theorem aborts (h : Syncing s t x g k r b) (hinvalid : ¬ Clause.runValid t r) : t.channel k = none ∧
    t.brk b = (s.brk b).ended .withdrawn ∧
    t.gen g = { ((s.gen g).unbiased (r.wrote.contains g)).retrying (s.fld .sync g 11) with refreshTimer := (t.gen g).refreshTimer } ∧
    Clause.ClosureRecords s t .generator 9 k 8 none := by
  have haborts : State.evaluateRun k x = x.abortRun k :=
    State.evaluateRun_invalid h.run_at h.phase fun hv => hinvalid (h.valid.1 hv)
  have hbreaker : x.genBreaker g = b := (h.work.genBreaker g).trans h.breaker_eq
  have haborted := State.abortRun_aborted h.lt_gens (by rw [h.work.gen, h.state]) (by rw [h.work.gen, h.deferred]) h.channel.1
    h.channel.2 h.run_at h.client h.phase (fun j hj hjk => (h.work.channel j).trans (h.others j hj hjk))
    (by rw [hbreaker, h.work.slot]; exact h.slot) (by rw [h.work.par, h.token]; exact nofun)
  rw [hbreaker] at haborted
  obtain ⟨y, hy, hsettle, hcaptured⟩ := h.ends haborts haborted.channel_other
  generalize x.abortRun k = u at *
  have hywork : y.work = [.channelFree, .genOutcome g b .closing .sync .withdrawn, .tokenGrant] := by
    rw [hy.work, State.post_work, haborted.work, h.work.work]
    rfl
  have hywait : y.par.waitList = [] := by
    rw [hy.par]
    show u.par.waitList = []
    rw [haborted.waitList, h.work.par, h.waitList]
    rfl
  have hylist : y.par.tokenList = [] := by
    rw [hy.par]
    show u.par.tokenList = []
    rw [haborted.tokenList, h.work.par, h.tokenList]
    rfl
  have hdrains : Drains 3 y { y with work := [] } :=
    .skip hywork (State.handle_channelFree hywait) (.skip rfl (State.handle_withdrawnClose _)
      (.skip rfl (State.handle_tokenGrant hylist) (.done rfl)))
  have hended := ClosureEnds.of_drains hsettle hdrains (hy.hushed.trans (haborted.hushed.trans h.work.hushed))
    (by show y.par.gens.length = 8; rw [hy.par]; exact haborted.count.trans (h.work.gens_length h.quiet))
  obtain ⟨v, hv, hgrows⟩ := haborted.records
  refine ⟨?_, ?_, ?_, closureRecords_of_holds (hv.trans h.work.closing) (hgrows.next ((Grows.refl u).same.next hcaptured))⟩
  · exact (hended.channel k).trans ((hy.channel k).trans haborted.channel_same)
  · refine (hended.brk b).trans ((hy.brk b).trans ?_)
    show nth u.breakers.recs b = _
    rw [haborted.recs]
    refine (nth_modify_same _ h.lt_recs).trans ?_
    rw [show nth x.breakers.recs b = s.brk b from h.brk]
  · refine (hended.gens g h.lt).trans ?_
    rw [show ({ y with work := [] } : State).gen g = u.gen g from hy.gen g, haborted.gen, h.work.gen, h.work.fld (by decide)]

theorem goesOn (h : Syncing s t x g k r b) (hv : Clause.runValid t r) (hrel : (Machine.evaluation t s r).release = false) :
    t.channel k = some (r.evaluated (Machine.evaluation t s r) .running) ∧ t.gen g = s.gen g ∧ t.brk b = s.brk b := by
  have hgoes : State.evaluateRun k x = x.setChannel k (some (r.evaluated (Machine.evaluation t s r) .running)) := by
    rw [State.evaluateRun_valid h.run_at h.phase (h.valid.2 hv) h.client, h.evaluation, hrel]
    rfl
  generalize Machine.evaluation t s r = e at *
  obtain ⟨y, hy, hsettle, -⟩ := h.ends hgoes fun j hjk => State.setChannel_other hjk _
  have hywork : y.work = [.tokenGrant] := by
    rw [hy.work]
    show x.work ++ [_] = _
    rw [h.work.work]
    rfl
  have hylist : y.par.tokenList = [] := by
    rw [hy.par]
    exact (congrArg Paralleling.tokenList h.work.par).trans h.tokenList
  have hdrains : Drains 1 y { y with work := [] } := .skip hywork (State.handle_tokenGrant hylist) (.done rfl)
  have hended := ClosureEnds.of_drains hsettle hdrains (hy.hushed.trans h.work.hushed)
    (by show y.par.gens.length = 8; rw [hy.par]; exact h.work.gens_length h.quiet)
  have hygen : ({ y with work := [] } : State).gen g = s.gen g := (hy.gen g).trans (h.work.gen g)
  refine ⟨?_, ?_, ?_⟩
  · exact (hended.channel k).trans ((hy.channel k).trans (State.setChannel_same h.lt_channels _))
  · rw [hended.still g (h.work.setpointOf hy.mgmt (by rw [h.state]; decide) (by rw [hygen, h.state]; decide) (by rw [hygen])), hygen]
  · exact (hended.brk b).trans ((hy.brk b).trans h.brk)

/-- What the release of a run makes of a state: its generator is CLOSING, and its close is to be released. -/
structure Released (x u : State) (g k b : Nat) (r : SyncRun) : Prop where
  work : u.work = x.work ++ [.release b]
  hushed : u.hushed = x.hushed
  breakers : u.breakers = x.breakers
  count : u.par.gens.length = x.par.gens.length
  gen : u.gen g = { x.gen g with state := .closing }
  same : u.channel k = some r
  other : ∀ j, j ≠ k → u.channel j = x.channel j
  tokenList : u.par.tokenList = x.par.tokenList
  mgmt : u.mgmt = x.mgmt
  lines : u.lines = x.lines

theorem released (hg : g < x.par.gens.length) (hk : k < x.par.channels.length) (hstate : (x.gen g).state = .syncing)
    (hd : (x.gen g).deferred = false) {v : State} (hv : v.core = (x.core.setChannel k (some r)).post (.release b)) :
    Released x (v.genEnter g .closing) g k b r ∧ Grows [] v (v.genEnter g .closing) := by
  have hpart : ∀ {α : Type} (f : State → α), f v.core = f _ := fun f => congrArg f hv
  have hgen : v.gen g = x.gen g := hpart (·.gen g)
  have hlen : g < v.par.gens.length := by
    rw [show v.par.gens = x.par.gens from hpart (·.par.gens)]
    exact hg
  refine ⟨?_, (Grows.refl v).work (State.genEnter_evolves _ _ .refl)⟩
  rw [State.genEnter_plain hlen (by rw [hgen, hstate]; decide) (by rw [hgen, hstate]; rfl) (by rw [hgen, hstate]; rfl)
    (by rw [hgen, hd]) (by decide) (by decide)]
  have hcore := State.core_genEntered (s := v) (g := g) .closing
  rw [hv] at hcore
  generalize v.genEntered g .closing = u at *
  have hkept : ∀ {α : Type} (f : State → α), f u.core = f _ := fun f => congrArg f hcore
  exact
    { work := hkept State.work
      hushed := hkept State.hushed
      breakers := hkept State.breakers
      count := (congrArg List.length (hkept (·.par.gens))).trans (List.length_modify ..)
      gen := (hkept (·.gen g)).trans (nth_modify_same _ hg)
      same := (hkept (·.channel k)).trans (State.setChannel_same (s := x) hk _)
      other := fun j hj => (hkept (·.channel j)).trans (State.setChannel_other (s := x) hj _)
      tokenList := hkept (·.par.tokenList)
      mgmt := hkept State.mgmt
      lines := hkept State.lines }

theorem releases (h : Syncing s t x g k r b) (hv : Clause.runValid t r) (hrel : (Machine.evaluation t s r).release = true)
    (hmay : Clause.mayClose s b) : t.channel k = some (r.evaluated (Machine.evaluation t s r) .released) ∧
    t.gen g = { s.gen g with state := .closing } ∧ t.brk b = Clause.issued (s.brk b) (Clause.closeOf g .sync) ∧
    Clause.ClosureRecords s t .generator 8 k 7 (some (unsignedOf 32 (Machine.evaluation t s r).theta)) := by
  have hgoes := State.evaluateRun_valid h.run_at h.phase (h.valid.2 hv) h.client
  rw [h.evaluation, hrel, h.breaker, if_pos rfl] at hgoes
  generalize Machine.evaluation t s r = e at *
  have hrelease := released (b := b) h.lt_gens h.lt_channels (by rw [h.work.gen, h.state]) (by rw [h.work.gen, h.deferred])
    (State.core_event (s := (x.setChannel k (some (r.evaluated e .released))).post (.release b)) .generator 8 k 7
      (some (unsignedOf 32 e.theta)))
  rw [← hgoes] at hrelease
  obtain ⟨hu, hgrows⟩ := hrelease
  obtain ⟨y, hy, hsettle, hcaptured⟩ := h.ends rfl hu.other
  generalize State.evaluateRun k x = u at *
  have hywork : y.work = [.release b, .tokenGrant] := by
    rw [hy.work, State.post_work, hu.work, h.work.work]
    rfl
  have hybrk : y.brk b = x.brk b := (hy.brk b).trans (State.brk_congr hu.breakers b)
  have hymay : Clause.mayClose y b := mayClose_of_same (h.work.mayClose hmay h.bf h.lockout)
    (congrArg Management.tables (hy.mgmt.trans hu.mgmt)) (hy.lines.trans hu.lines) ⟨_, hybrk⟩
  have hylist : y.par.tokenList = [] := by
    rw [hy.par]
    exact hu.tokenList.trans ((congrArg Paralleling.tokenList h.work.par).trans h.tokenList)
  have hslot : (y.brk b).slot = some (Clause.closeOf g .sync) := by rw [hybrk, h.brk]; exact h.slot
  have hdrains := Drains.closeReleased hywork hymay hslot (by decide) nofun hylist
  have hended := ClosureEnds.of_drains hsettle hdrains (hy.hushed.trans (hu.hushed.trans h.work.hushed))
    (by show y.par.gens.length = 8; rw [hy.par]; exact hu.count.trans (h.work.gens_length h.quiet))
  have hzgen : (({ y with work := [] } : State).commandIssued b (Clause.closeOf g .sync)).gen g =
      { s.gen g with state := .closing } := (hy.gen g).trans (hu.gen.trans (by rw [h.work.gen]))
  refine ⟨?_, ?_, ?_, ?_⟩
  · exact (hended.channel k).trans ((hy.channel k).trans hu.same)
  · rw [hended.still g (h.work.setpointOf (hy.mgmt.trans hu.mgmt) (by rw [h.state]; decide) (by rw [hzgen]; exact nofun)
      (by rw [hzgen, GenRec.setpoint, GenRec.setpoint, h.state]; rfl)), hzgen]
  · rw [hended.brk, State.commandIssued_brk_same (s := { y with work := [] }) (by show b < y.breakers.recs.length; rw [hy.breakers]; exact hu.breakers ▸ h.lt_recs) hslot]
    show Clause.issued (y.brk b) _ = _
    rw [hybrk, h.brk]
  · exact closureRecords_of_holds (v := (x.setChannel k _).post (.release b)) h.work.closing
      (hgrows.next ((Grows.refl u).same.next hcaptured))

end Syncing

end

/-- Settles the fourth part of O40. -/
theorem runEvaluatesAtAClosure : Clause.RunEvaluatesAtAClosure := by
  intro s t pin g k r hs hdue hexec hg hconf halone hstate hd hrated hlow htlow hkm hr hothers b hb hclient hbreaker hphase hslot hbf
    htoken hlist hwait
  have hk : k < 4 ∧ k ≠ 0 := by
    simp only [List.mem_cons, List.not_mem_nil, or_false] at hkm
    omega
  rw [exec_closure_due hdue] at hexec
  have ht : State.settle s ((s.sampled pin).parallelingWork.captureWork s.closingLabel) = t := Host.Outcome.next.inj hexec
  have hwork := hs.atWork ht fun v _ hsample hpin _ => by
    rw [closure_lockout ht, if_pos hsample, hpin] at htlow
    cases htlow
  have hsyncing : Syncing s t (s.sampled pin) g k r b := ⟨hs, hwork, ht, hg, halone, hstate, hd, hrated, htlow, hk, hr, hothers, rfl, hb,
    hclient, hbreaker, hphase, hslot, hbf, htoken, hlist, hwait⟩
  intro mg mb theta slip advance window count ready release evaluated
  have hfound : evaluation t s r = ⟨theta, slip, advance, count, ready, release⟩ := by
    rw [evaluation, hbreaker]
  refine ⟨fun hinvalid => ?_, fun hv hrel => ?_, fun hv hrel hmay => ?_⟩
  · obtain ⟨hfree, hown, hgen, hrecords⟩ := hsyncing.aborts hinvalid
    refine ⟨hfree, hown, hgen.trans ?_, hrecords⟩
    generalize (t.gen g).refreshTimer = n
    rw [GenRec.retrying, GenRec.unbiased]
    simp only [List.contains_iff_mem]
  · have hgoes := hsyncing.goesOn hv (by rw [hfound]; exact hrel)
    rw [hfound] at hgoes
    exact hgoes
  · have hreleases := hsyncing.releases hv (by rw [hfound]; exact hrel) hmay
    rw [hfound] at hreleases
    exact hreleases


end Sys2Proof.Machine
end

section
/-! # Generators that rest at a closure, and the way back to READY -/

namespace Sys2Proof.Machine

section
variable {s t u v w x y z d : State} {g j b k n : Nat} {pin : Bool} {l : Label} {r : SyncRun}

/-! ### The order of the generators (R146) -/

/-- A generator has one rank at most. -/
theorem State.startOrder_nodup (s : State) : s.startOrder.Nodup := by
  rw [State.startOrder, List.nodup_flatMap]
  refine ⟨fun rank _ => List.nodup_range.filter _, List.nodup_range.imp_of_mem fun _ _ hne => ?_⟩
  intro j hj hj'
  have hrank := (List.mem_filter.1 hj).2
  have hrank' := (List.mem_filter.1 hj').2
  simp only [Bool.and_eq_true, beq_iff_eq] at hrank hrank'
  exact hne (hrank.2.symm.trans hrank'.2)

theorem State.genOrder_nodup (s : State) : s.genOrder.Nodup := by
  rw [State.genOrder]
  refine List.Nodup.append s.startOrder_nodup (List.nodup_range.filter _) fun j hj hj' => ?_
  have hunlisted := (List.mem_filter.1 hj').2
  simp only [Bool.and_eq_true, Bool.not_eq_true', List.contains_eq_mem, decide_eq_false_iff_not] at hunlisted
  exact hunlisted.2 hj

/-- Every configured generator has its place. -/
theorem State.mem_genOrder (hg : g < 8) (hc : s.genConfigured g = true) : g ∈ s.genOrder := by
  rw [State.genOrder, List.mem_append]
  by_cases hlisted : g ∈ s.startOrder
  · exact .inl hlisted
  · exact .inr (List.mem_filter.2 ⟨List.mem_range.2 hg, by simp [hc, hlisted]⟩)

/-! ### Generators that rest at a closure -/

/-- Generator `j` is ABSENT, or CLOSING without a close that waits. -/
def State.Rests (v : State) (j : Nat) : Prop :=
  (v.gen j).state = .absent ∨ ((v.gen j).state = .closing ∧ ∀ c, (v.brk (v.genBreaker j)).slot = some c → c.phase ≠ .queued)

/-- Such a generator makes no attempt, and no dead check. -/
theorem State.Rests.attempts (h : v.Rests j) : (v.closeAttempt j).deadCheck j = v := by
  obtain h | ⟨h, hslot⟩ := h
  · rw [State.closeAttempt_other (by rw [h]; decide), State.deadCheck_other (.inl (by rw [h]; decide))]
  · have hno : v.deadQueued j = false := by
      rw [State.deadQueued, State.closeQueued]
      cases hc : (v.brk (v.genBreaker j)).slot with
      | none => rfl
      | some c => simp [hslot c hc]
    rw [State.closeAttempt_other (by rw [h]; decide), State.deadCheck_other (.inr hno)]

theorem State.Rests.tests (h : v.Rests j) : State.ratedTest j v = v := State.ratedTest_other (h.imp_right And.left)

/-! ### A dead check on a live bus (R159) -/

/-- What the return of generator `g` to READY makes of a state in which its DEAD close waits at breaker `b`. -/
structure Returned (x u : State) (g b : Nat) : Prop where
  work : u.work = x.work ++ [.genOutcome g b .closing .dead .withdrawn, .tokenGrant]
  hushed : u.hushed = x.hushed
  recs : u.breakers.recs = x.breakers.recs.modify b (·.ended .withdrawn)
  gens : u.par.gens = x.par.gens.modify g (fun r => { r with state := .ready })
  token : u.par.token = none
  tokenList : u.par.tokenList = x.par.tokenList.filter (· != .generator g)
  waitList : u.par.waitList = x.par.waitList.filter (· != g)
  channels : u.par.channels = x.par.channels
  mgmt : u.mgmt = x.mgmt
  lines : u.lines = x.lines
  measures : u.measures = x.measures
  aligner : u.aligner = x.aligner

theorem State.genEnter_returned (hg : g < x.par.gens.length) (hstate : (x.gen g).state = .closing) (hd : (x.gen g).deferred = false)
    (hslot : (x.brk (x.genBreaker g)).slot = some (Clause.closeOf g .dead)) (ht : x.par.token = some (.generator g))
    (hruns : x.channelOf (.generator g) = none) : Returned x (x.genEnter g .ready) g (x.genBreaker g) := by
  have hleave : (x.leaveAttempt g).core = ((((x.core.modBrk (x.genBreaker g) (·.ended .withdrawn)).post
      (.genOutcome g (x.genBreaker g) .closing .dead .withdrawn)).modPar (fun p => { p with token := none })).post
        .tokenGrant).dropRequest (.generator g) := by
    have hfree : (((x.core.modBrk (x.genBreaker g) (·.ended .withdrawn)).post
        (.genOutcome g (x.genBreaker g) .closing .dead .withdrawn)).par.token == some (.generator g)) = true := by
      show (x.par.token == _) = true
      simp [ht]
    rw [State.leaveAttempt, State.leaveRun_none hruns, State.withdrawClose_dead (c := Clause.closeOf g .dead)
      ⟨hslot, rfl, rfl, rfl, rfl, rfl⟩ rfl, State.core_leaveToken, State.core_freeToken, State.core_closeWithdrawn]
    rw [show (Clause.closeOf g .dead).closeKind = .dead from rfl, State.freeToken, if_pos hfree, State.leaveToken, State.freeToken]
    exact if_neg Bool.false_ne_true
  have hgens : (x.leaveAttempt g).par.gens = x.par.gens := by
    show (x.leaveAttempt g).core.par.gens = _
    rw [hleave]
    rfl
  have hgen : (x.leaveAttempt g).gen g = x.gen g := by rw [State.gen, hgens, State.gen]
  rw [State.genEnter_ready (by rw [hgens]; exact hg) (by rw [hstate]; rfl) (by rw [hgen]) (by rw [hgen]; exact hd)]
  have hcore := State.core_genEntered (s := x.leaveAttempt g) (g := g) .ready
  rw [hleave] at hcore
  generalize (x.leaveAttempt g).genEntered g .ready = u at *
  have hpart : ∀ {α : Type} (f : State → α), f u.core = f _ := fun f => congrArg f hcore
  exact
    { work := (hpart State.work).trans (List.append_assoc ..)
      hushed := hpart State.hushed
      recs := hpart (·.breakers.recs)
      gens := hpart (·.par.gens)
      token := hpart (·.par.token)
      tokenList := hpart (·.par.tokenList)
      waitList := hpart (·.par.waitList)
      channels := hpart (·.par.channels)
      mgmt := hpart State.mgmt
      lines := hpart State.lines
      measures := hpart State.measures
      aligner := hpart State.aligner }

/-- A queued DEAD close whose bus is live takes its generator back to READY, which seeks a channel (R159, R160). -/
theorem State.deadCheck_live (hstate : (x.gen g).state = .closing)
    (hslot : (x.brk (x.genBreaker g)).slot = some (Clause.closeOf g .dead)) (hlive : Clause.busLive x g) :
    x.deadCheck g = (x.genEnter g .ready).seekChannel g := by
  rw [State.deadCheck, if_neg (by simp [hstate, State.deadQueued_of hslot]), State.busState_of_live hlive]

theorem State.deadCheck_dead (hstate : (x.gen g).state = .closing)
    (hslot : (x.brk (x.genBreaker g)).slot = some (Clause.closeOf g .dead)) (hdead : Clause.busDead x g) :
    x.deadCheck g = x.post (.release (x.genBreaker g)) := by
  rw [State.deadCheck, if_neg (by simp [hstate, State.deadQueued_of hslot]), State.busState_dead hdead]

end

end Sys2Proof.Machine
end

section
/-! # The dead check of a closure -/

namespace Sys2Proof.Machine

section
variable {s t u v w x y z d : State} {g j b k n : Nat} {pin : Bool} {l : Label} {r : SyncRun}

/-! ### The dead check of a closure (R158, R159) -/

/-- A closure at which generator `g` is CLOSING with its DEAD close waiting at breaker `b`, no other generator has anything to
do, and no run is in progress. The closure leads from `x` to `t`. -/
structure Checking (s t x : State) (g b : Nat) : Prop where
  quiet : s.Quiet
  work : AtWork s t x
  settles : State.settle s (x.parallelingWork.captureWork s.closingLabel) = t
  lt : g < 8
  configured : s.fld .generator g 1 = 1
  others : Clause.OthersRest s g
  state : (s.gen g).state = .closing
  deferred : (s.gen g).deferred = false
  breaker : s.fld .generator g 3 = b
  breaker_lt : b < 24
  slot : (s.brk b).slot = some (Clause.closeOf g .dead)
  bf : (s.brk b).bf = .idle
  token : s.par.token = some (.generator g)
  tokenList : s.par.tokenList = []
  waitList : s.par.waitList = []
  runs : ∀ k < 4, ∀ r, s.channel k = some r → r.phase = .released ∧ r.client ≠ .generator g

namespace Checking

theorem brk (h : Checking s t x g b) : x.brk b = s.brk b := h.work.idle b h.bf

theorem genBreaker (h : Checking s t x g b) : x.genBreaker g = b := (h.work.genBreaker g).trans h.breaker

theorem lt_recs (h : Checking s t x g b) : b < x.breakers.recs.length := h.work.count.symm ▸ h.breaker_lt

theorem lt_gens (h : Checking s t x g b) : g < x.par.gens.length := (h.work.gens_length h.quiet).symm ▸ h.lt

theorem state_at (h : Checking s t x g b) : (x.gen g).state = .closing := by rw [h.work.gen, h.state]

theorem slot_at (h : Checking s t x g b) : (x.brk (x.genBreaker g)).slot = some (Clause.closeOf g .dead) := by
  rw [h.genBreaker, h.brk, h.slot]

theorem tokenList_at (h : Checking s t x g b) : x.par.tokenList = [] := by rw [h.work.par, h.tokenList]

/-- The breaker of another generator that is CLOSING is another one. -/
theorem apart (h : Checking s t x g b) (hj : j < 8) (hne : j ≠ g) (hstate : (s.gen j).state = .closing) : x.genBreaker j ≠ b := fun he => by
  obtain habsent | ⟨-, hslot⟩ := h.others j hj hne
  · rw [hstate] at habsent
    cases habsent
  · rw [h.work.genBreaker] at he
    exact hslot (Clause.closeOf g .dead) (by rw [he]; exact h.slot) rfl

/-- The others rest still where their records stand, and the slots of other breakers. -/
theorem rests (h : Checking s t x g b) (hgen : ∀ i, i ≠ g → d.gen i = x.gen i) (hslot : ∀ a, a ≠ b → (d.brk a).slot = (x.brk a).slot)
    (hm : d.mgmt = x.mgmt) (hj : j < 8) (hne : j ≠ g) : d.Rests j := by
  have hbreaker : d.genBreaker j = x.genBreaker j := by rw [State.genBreaker, State.fld, hm, State.genBreaker, State.fld]
  rw [State.Rests, hgen j hne, h.work.gen]
  obtain habsent | ⟨hclosing, hrest⟩ := h.others j hj hne
  · exact .inl habsent
  · refine .inr ⟨hclosing, fun c hc => hrest c ?_⟩
    rw [hbreaker, hslot _ (h.apart hj hne hclosing), h.work.slot, h.work.genBreaker] at hc
    exact hc

/-- The unit's work of the closure: the dead check of `g`, and the runs of the channels. -/
theorem works (h : Checking s t x g b) (hd : x.deadCheck g = d) (hgen : ∀ i, i ≠ g → d.gen i = x.gen i)
    (hslot : ∀ a, a ≠ b → (d.brk a).slot = (x.brk a).slot) (hm : d.mgmt = x.mgmt) :
    x.parallelingWork = (d.forEach (List.range 4) State.evaluateRun).post .tokenGrant := by
  have htests : ∀ j < 8, State.ratedTest j x = x := fun j hj => by
    by_cases hjg : j = g
    · exact State.ratedTest_other (.inr (hjg ▸ h.state_at))
    · exact (h.rests (fun _ _ => rfl) (fun _ _ => rfl) rfl hj hjg).tests
  have hown : (x.closeAttempt g).deadCheck g = d := by
    rw [State.closeAttempt_other (by rw [h.state_at]; decide), hd]
  have hattempts : x.forEach x.genOrder (fun g v => (v.closeAttempt g).deadCheck g) = d := by
    refine (State.forEach_single x.genOrder_nodup (State.mem_genOrder h.lt ?_) (fun j hj hne => ?_) fun j hj hne => ?_).trans hown
    · rw [State.genConfigured, h.work.fld (by decide), h.configured]
      rfl
    · exact (h.rests (fun _ _ => rfl) (fun _ _ => rfl) rfl (State.genOrder_lt hj) hne).attempts
    · show ((State.deadCheck (x.closeAttempt g) g).closeAttempt j).deadCheck j = State.deadCheck (x.closeAttempt g) g
      rw [hown]
      exact (h.rests hgen hslot hm (State.genOrder_lt hj) hne).attempts
  rw [State.parallelingWork_untested htests, hattempts]

/-- Runs that are released are not evaluated. -/
theorem unevaluated (h : Checking s t x g b) (hd : ∀ k, d.channel k = x.channel k) :
    d.forEach (List.range 4) State.evaluateRun = d := State.forEach_rests _ fun k hk => by
  cases hc : d.channel k with
  | none => exact State.evaluateRun_none hc
  | some r =>
    have hs : s.channel k = some r := by rw [← h.work.channel, ← hd, hc]
    exact State.evaluateRun_released hc (h.runs k (List.mem_range.1 hk) r hs).1

/-- The closure's end where no run is evaluated. -/
theorem ends (h : Checking s t x g b) (hd : x.deadCheck g = d) (hgen : ∀ i, i ≠ g → d.gen i = x.gen i)
    (hslot : ∀ a, a ≠ b → (d.brk a).slot = (x.brk a).slot) (hm : d.mgmt = x.mgmt) (hc : ∀ k, d.channel k = x.channel k) :
    ∃ y, Captured (d.post .tokenGrant) y ∧ State.settle s y = t := by
  have hsettles := h.settles
  rw [h.works hd hgen hslot hm, h.unevaluated hc] at hsettles
  obtain ⟨y, hy, hend, -⟩ := closure_captured hsettles
  exact ⟨y, hy, hend⟩

theorem dead (h : Checking s t x g b) (hdead : Clause.busDead t g) (hmay : Clause.mayClose s b) (hlock : t.lines.lockout = false) :
    t.brk b = Clause.issued (s.brk b) (Clause.closeOf g .dead) ∧ t.gen g = s.gen g ∧ t.par.token = s.par.token := by
  have hcheck := State.deadCheck_dead h.state_at h.slot_at
    (busDead_of_same hdead (congrArg Management.tables h.work.mgmt) h.work.measures)
  rw [h.genBreaker] at hcheck
  obtain ⟨y, hy, hsettle⟩ := h.ends hcheck (fun _ _ => rfl) (fun _ _ => rfl) rfl fun _ => rfl
  have hywork : y.work = [.release b, .tokenGrant] := by
    rw [hy.work, State.post_work, State.post_work, h.work.work]
    rfl
  have hybrk : y.brk b = x.brk b := hy.brk b
  have hytoken : y.par.token = s.par.token := by rw [hy.par]; exact congrArg Paralleling.token h.work.par
  have hslot : (y.brk b).slot = some (Clause.closeOf g .dead) := by rw [hybrk, h.brk]; exact h.slot
  have hdrains := Drains.closeReleased hywork
    (mayClose_of_same (h.work.mayClose hmay h.bf hlock) (congrArg Management.tables hy.mgmt) hy.lines ⟨_, hybrk⟩)
    hslot (by decide) (fun _ _ => hytoken.trans h.token) (by rw [hy.par]; exact h.tokenList_at)
  have hended := ClosureEnds.of_drains hsettle hdrains (hy.hushed.trans h.work.hushed)
    (by show y.par.gens.length = 8; rw [hy.par]; exact h.work.gens_length h.quiet)
  have hzgen : (({ y with work := [] } : State).commandIssued b (Clause.closeOf g .dead)).gen g = s.gen g :=
    (hy.gen g).trans (h.work.gen g)
  refine ⟨?_, ?_, ?_⟩
  · rw [hended.brk, State.commandIssued_brk_same (s := { y with work := [] })
      (by show b < y.breakers.recs.length; rw [hy.breakers]; exact h.lt_recs) hslot]
    show Clause.issued (y.brk b) _ = _
    rw [hybrk, h.brk]
  · rw [hended.still g (h.work.setpointOf hy.mgmt (by rw [h.state]; decide) (by rw [hzgen, h.state]; decide) (by rw [hzgen])), hzgen]
  · rw [hended.par]
    exact hytoken

theorem waits (h : Checking s t x g b) (hdead : ¬ Clause.busDead t g) (hlive : ¬ Clause.busLive t g) :
    t.brk b = s.brk b ∧ t.gen g = s.gen g ∧ t.par.token = s.par.token := by
  have htables := congrArg Management.tables h.work.mgmt
  have hcheck : x.deadCheck g = x := State.deadCheck_waits (by rw [busDead_iff_of_same htables h.work.measures]; exact hdead)
    (by rw [busLive_iff_of_same htables h.work.measures]; exact hlive)
  obtain ⟨y, hy, hsettle⟩ := h.ends hcheck (fun _ _ => rfl) (fun _ _ => rfl) rfl fun _ => rfl
  have hywork : y.work = [.tokenGrant] := by
    rw [hy.work, State.post_work, h.work.work]
    rfl
  have hylist : y.par.tokenList = [] := by rw [hy.par]; exact h.tokenList_at
  have hended := ClosureEnds.of_drains hsettle (.skip hywork (State.handle_tokenGrant hylist) (.done rfl))
    (hy.hushed.trans h.work.hushed) (by show y.par.gens.length = 8; rw [hy.par]; exact h.work.gens_length h.quiet)
  have hzgen : ({ y with work := [] } : State).gen g = s.gen g := (hy.gen g).trans (h.work.gen g)
  refine ⟨?_, ?_, ?_⟩
  · exact (hended.brk b).trans ((hy.brk b).trans h.brk)
  · rw [hended.still g (h.work.setpointOf hy.mgmt (by rw [h.state]; decide) (by rw [hzgen, h.state]; decide) (by rw [hzgen])), hzgen]
  · rw [hended.par]
    exact (congrArg Paralleling.token hy.par).trans (congrArg Paralleling.token h.work.par)

end Checking

end

end Sys2Proof.Machine
end

section
/-! # The dead check on a live bus -/

namespace Sys2Proof.Machine

section
variable {s t u v w x y z d : State} {g j b k n : Nat} {pin : Bool} {l : Label} {r : SyncRun}

namespace Returned

theorem gen_same (h : Returned x u g b) (hg : g < x.par.gens.length) : u.gen g = { x.gen g with state := .ready } := by
  rw [State.gen, h.gens]
  exact nth_modify_same _ hg

theorem gen_other (h : Returned x u g b) (hj : j ≠ g) : u.gen j = x.gen j := by
  rw [State.gen, h.gens]
  exact nth_modify_other _ _ hj.symm

theorem brk_same (h : Returned x u g b) (hb : b < x.breakers.recs.length) : u.brk b = (x.brk b).ended .withdrawn := by
  rw [State.brk, h.recs]
  exact nth_modify_same _ hb

theorem brk_other (h : Returned x u g b) {a : Nat} (ha : a ≠ b) : u.brk a = x.brk a := by
  rw [State.brk, h.recs]
  exact nth_modify_other _ _ ha.symm

theorem channel (h : Returned x u g b) (c : Nat) : u.channel c = x.channel c := by rw [State.channel, h.channels, State.channel]

end Returned

namespace Checking

theorem live_at (h : Checking s t x g b) (hlive : Clause.busLive t g) : Clause.busLive x g := by
  rw [busLive_iff_of_same (congrArg Management.tables h.work.mgmt) h.work.measures]
  exact hlive

theorem returned (h : Checking s t x g b) : Returned x (x.genEnter g .ready) g b := by
  have hback := State.genEnter_returned h.lt_gens h.state_at (by rw [h.work.gen, h.deferred]) h.slot_at
    (by rw [h.work.par, h.token]) (State.channelOf_none fun k hk r hr => (h.runs k hk r (h.work.channel k ▸ hr)).2)
  rw [h.genBreaker] at hback
  exact hback

theorem seeks (h : Checking s t x g b) (hlive : Clause.busLive t g) (hbusy : ∀ k ∈ [1, 2, 3], s.channel k ≠ none) :
    t.brk b = (s.brk b).ended .withdrawn ∧ t.gen g = { s.gen g with state := .ready } ∧ t.par.token = none ∧ t.par.waitList = [g] := by
  have hreturned := h.returned
  have hcheck := State.deadCheck_live h.state_at h.slot_at (h.live_at hlive)
  generalize x.genEnter g .ready = u at *
  have hwait : u.par.waitList = [] := by
    rw [hreturned.waitList, h.work.par, h.waitList]
    rfl
  have hfree : u.freeChannel = none := List.find?_eq_none.2 fun k hk => by
    have hc : u.channel k ≠ none := by
      rw [hreturned.channel, h.work.channel]
      exact hbusy k hk
    simp [Option.isNone_iff_eq_none, hc]
  rw [State.seekChannel_waits (by rw [hreturned.gen_same h.lt_gens]) hfree (by rw [hwait]; exact List.not_mem_nil)] at hcheck
  obtain ⟨y, hy, hsettle⟩ := h.ends hcheck (fun i hi => hreturned.gen_other hi)
    (fun a ha => congrArg BreakerRec.slot (hreturned.brk_other ha)) hreturned.mgmt hreturned.channel
  have hywork : y.work = [.genOutcome g b .closing .dead .withdrawn, .tokenGrant, .tokenGrant] := by
    rw [hy.work]
    show u.work ++ [_] = _
    rw [hreturned.work, h.work.work]
    rfl
  have hylist : y.par.tokenList = [] := by
    rw [hy.par]
    show u.par.tokenList = []
    rw [hreturned.tokenList, h.tokenList_at]
    rfl
  have hdrains : Drains 3 y { y with work := [] } := .skip hywork (State.handle_withdrawnClose _)
    (.skip rfl (State.handle_tokenGrant hylist) (.skip rfl (State.handle_tokenGrant hylist) (.done rfl)))
  have hended := ClosureEnds.of_drains hsettle hdrains (hy.hushed.trans (hreturned.hushed.trans h.work.hushed)) (by
    show y.par.gens.length = 8
    rw [hy.par]
    show u.par.gens.length = 8
    rw [hreturned.gens, List.length_modify, h.work.gens_length h.quiet])
  have hzgen : ({ y with work := [] } : State).gen g = { s.gen g with state := .ready } := by
    refine (hy.gen g).trans ((hreturned.gen_same h.lt_gens).trans ?_)
    rw [h.work.gen]
  refine ⟨?_, ?_, ?_, ?_⟩
  · refine (hended.brk b).trans ((hy.brk b).trans ((hreturned.brk_same h.lt_recs).trans ?_))
    rw [h.brk]
  · rw [hended.still g (h.work.setpointOf (hy.mgmt.trans hreturned.mgmt) (by rw [h.state]; decide) (by rw [hzgen]; exact nofun)
      (by rw [hzgen, GenRec.setpoint, GenRec.setpoint, h.state]; rfl)), hzgen]
  · rw [hended.par]
    exact (congrArg Paralleling.token hy.par).trans hreturned.token
  · rw [hended.par]
    refine (congrArg Paralleling.waitList hy.par).trans ?_
    show u.par.waitList ++ [g] = [g]
    rw [hwait]
    rfl

end Checking

end

end Sys2Proof.Machine
end

section
/-! # Where a channel is taken -/

namespace Sys2Proof.Machine

section
variable {s t u v w x y z d : State} {g j b k n : Nat} {pin : Bool} {l : Label} {r : SyncRun}

/-! ### A channel is taken (R160, R161) -/

/-- The tests of a close do not read how the breaker's last command has ended. -/
theorem mayClose_of_ended {o : Outcome} (h : Clause.mayClose s b) (hm : v.mgmt.tables = s.mgmt.tables) (hl : v.lines = s.lines)
    (hb : v.brk b = (s.brk b).ended o) : Clause.mayClose v b := by
  have hfld : v.fld = s.fld := by funext x e id; rw [State.fld, State.fld, hm]
  rw [Clause.mayClose, hfld, hl, hb]
  exact h

/-- The biases of a correction are read of the measurements, the tables, and what the generator has negotiated. -/
theorem biases_congr (hq : v.measures = u.measures) (hm : v.mgmt.tables = u.mgmt.tables)
    (hc : (v.gen g).common = (u.gen g).common) (hp : (v.gen g).params = (u.gen g).params) :
    Clause.speedBias v r g = Clause.speedBias u r g ∧ Clause.voltageBias v r g = Clause.voltageBias u r g := by
  have hfld : v.fld = u.fld := by funext x e id; rw [State.fld, State.fld, hm]
  have hsfld : v.sfld = u.sfld := by funext x e id; rw [State.sfld, State.sfld, hfld]
  have hmeasure : v.measure = u.measure := by funext k; rw [State.measure, State.measure, hq]
  have hphasor : v.phasor = u.phasor := by funext k q; rw [State.phasor, State.phasor, hmeasure]
  simp only [Clause.speedBias, Clause.voltageBias, hc, hp, hfld, hsfld, hmeasure, hphasor, and_self]

/-- The run of generator `g` that starts anew. -/
def State.runOf (s : State) (g : Nat) : SyncRun where
  client := .generator g
  breaker := s.genBreaker g
  gStream := s.fld .generator g 4
  bStream := s.fld .generator g 5
  entry := g

/-- What taking channel 1 makes of a state in which generator `g` is READY. -/
structure Taken (u d : State) (g : Nat) : Prop where
  work : d.work = u.work
  hushed : d.hushed = u.hushed
  recs : d.breakers.recs = u.breakers.recs.modify (u.genBreaker g) (fun r => { r with slot := some (Clause.closeOf g .sync) })
  count : d.par.gens.length = 8
  gen : d.gen g = ({ u.gen g with state := .syncing } : GenRec).biased (Clause.speedBias u (u.runOf g) g) (Clause.voltageBias u (u.runOf g) g)
  others : ∀ j, j ≠ g → d.gen j = u.gen j
  own : d.channel 1 = some { u.runOf g with wrote := if (u.gen g).common.biasControl then [g] else [] }
  channels : ∀ k, k ≠ 1 → ∀ y, d.channel k = some y → ∃ y', u.channel k = some y' ∧ y.phase = y'.phase
  token : d.par.token = u.par.token
  tokenList : d.par.tokenList = u.par.tokenList
  waitList : d.par.waitList = u.par.waitList.filter (· != g)
  mgmt : d.mgmt = u.mgmt
  lines : d.lines = u.lines
  measures : d.measures = u.measures
  aligner : d.aligner = u.aligner

theorem State.takeChannel_taken (hcount : u.par.gens.length = 8) (hg : g < 8) (hstate : (u.gen g).state = .ready)
    (hd : (u.gen g).deferred = false) (hmay : Clause.mayClose u (u.genBreaker g)) (hslot : (u.brk (u.genBreaker g)).slot = none)
    (hfree : u.channel 1 = none) (hlen : 1 < u.par.channels.length) : Taken u (u.takeChannel g 1) g := by
  have hleng : g < u.par.gens.length := hcount.symm ▸ hg
  have henter : u.genEnter g .syncing = u.genEntered g .syncing :=
    State.genEnter_plain hleng (by rw [hstate]; decide) (by rw [hstate]; rfl) (by rw [hstate]; rfl) hd (by decide) (by decide)
  have hcore := State.core_genEntered (s := u) (g := g) .syncing
  have htake : ∀ q n, (u.genEntered g .syncing).genClose g .sync = (q, .taken n) → u.takeChannel g 1 =
      q.startRun 1 (.generator g) (u.genBreaker g) (u.fld .generator g 4) (u.fld .generator g 5) g := fun q n hq => by
    rw [State.takeChannel, henter]
    rw [hq]
  generalize u.genEntered g .syncing = p at *
  have hpart : ∀ {α : Type} (f : State → α), f p.core = f _ := fun f => congrArg f hcore
  have hbreaker : p.genBreaker g = u.genBreaker g := hpart (·.genBreaker g)
  have hbreakers : p.breakers = u.breakers := hpart State.breakers
  have hpbrk : ∀ a, p.brk a = u.brk a := State.brk_congr hbreakers
  have hclose : p.genClose g .sync = (p.slotted (u.genBreaker g) (Clause.closeOf g .sync), .taken (u.brk (u.genBreaker g)).tagCounter) := by
    have htaken := State.genClose_taken (s := p) (g := g) (k := .sync)
      (by rw [hbreaker]; exact mayClose_of_same hmay (congrArg Management.tables (hpart State.mgmt)) (hpart State.lines) ⟨_, hpbrk _⟩)
      (by decide) (by rw [hbreaker, hpbrk]; exact hslot) nofun
    rw [hbreaker, hpbrk] at htaken
    exact htaken
  have hnone : (p.slotted (u.genBreaker g) (Clause.closeOf g .sync)).channel 1 = none := (hpart (·.channel 1)).trans hfree
  obtain ⟨m, hm⟩ : ∃ m, m = (p.slotted (u.genBreaker g) (Clause.closeOf g .sync)).noting
    ((p.slotted (u.genBreaker g) (Clause.closeOf g .sync)).setChannel 1 (some (u.runOf g))) := ⟨_, rfl⟩
  have hstart : u.takeChannel g 1 = m.correct 1 := by
    rw [htake _ _ hclose, State.startRun, hnone, hm]
    rfl
  have hmcore : m.core = (((u.core.modGen g (fun r => r.enter .syncing)).modPar (fun x =>
      { x with waitList := x.waitList.filter (· != g), demandDue := true })).slotted (u.genBreaker g) (Clause.closeOf g .sync)).setChannel
        1 (some (u.runOf g)) := by
    rw [hm, State.core_noting, State.core_setChannel, State.core_slotted, hcore]
  rw [hstart]
  have hmpart : ∀ {α : Type} (f : State → α), f m.core = f _ := fun f => congrArg f hmcore
  have hmgen : m.gen g = { u.gen g with state := .syncing } := (hmpart (·.gen g)).trans (nth_modify_same _ hleng)
  have hmother : ∀ i, i ≠ g → m.gen i = u.gen i := fun i hi => (hmpart (·.gen i)).trans (nth_modify_other _ _ hi.symm)
  have hmchannel : m.channel 1 = some (u.runOf g) := (hmpart (·.channel 1)).trans (State.setChannel_same (s := u) hlen _)
  have hmchannels : ∀ k, k ≠ 1 → m.channel k = u.channel k := fun k hk =>
    (hmpart (·.channel k)).trans (State.setChannel_other (s := u) hk _)
  have hmem : ∀ i, i ∈ m.biased (u.runOf g) ↔ i = g := fun i => State.mem_biased_generator rfl
  have hcorrects := State.corrects (s := m) ((congrArg List.length (hmpart (·.par.gens))).trans ((List.length_modify ..).trans hcount))
    hmchannel (fun i hi => (hmem i).1 hi ▸ hg) (List.nodup_singleton g)
  have howned : m.ownBiased (u.runOf g) = if (u.gen g).common.biasControl then [g] else [] := by
    rw [State.ownBiased_generator (g := g) rfl, hmgen]
  have hbiases := biases_congr (v := m) (u := u) (g := g) (r := u.runOf g) (hmpart State.measures)
    (congrArg Management.tables (hmpart State.mgmt)) (by rw [hmgen]) (by rw [hmgen])
  have heq := hcorrects.eq
  generalize m.correct 1 = d at *
  have hkept : ∀ {α : Type} (f : State → α), f d = f _ := fun f => congrArg f heq
  exact
    { work := (hkept State.work).trans (hmpart State.work)
      hushed := (hkept State.hushed).trans (hmpart State.hushed)
      recs := (hkept (·.breakers.recs)).trans (hmpart (·.breakers.recs))
      count := hcorrects.count
      gen := by
        rw [hcorrects.gen, if_pos ((hmem g).2 rfl), hmgen, hbiases.1, hbiases.2]
      others := fun i hi => by rw [hcorrects.gen, if_neg fun hm => hi ((hmem i).1 hm), hmother i hi]
      own := by
        rw [hcorrects.own, howned]
        split <;> rfl
      channels := fun k hk y hy => by
        rw [hcorrects.other k hk, hmchannels k hk] at hy
        obtain ⟨y', hy', rfl⟩ := Option.map_eq_some_iff.1 hy
        exact ⟨y', hy', rfl⟩
      token := (hkept (·.par.token)).trans (hmpart (·.par.token))
      tokenList := (hkept (·.par.tokenList)).trans (hmpart (·.par.tokenList))
      waitList := (hkept (·.par.waitList)).trans (hmpart (·.par.waitList))
      mgmt := (hkept State.mgmt).trans (hmpart State.mgmt)
      lines := (hkept State.lines).trans (hmpart State.lines)
      measures := (hkept State.measures).trans (hmpart State.measures)
      aligner := (hkept State.aligner).trans (hmpart State.aligner) }

end

end Sys2Proof.Machine
end

section
/-! # O40: the dead check of a closure, and the whole -/

namespace Sys2Proof.Machine

section
variable {m s t u v w x y z d : State} {g j b k n : Nat} {pin : Bool} {l : Label} {r : SyncRun}

/-- A generator that finds a free channel, and nobody who waits, takes it (R160). -/
theorem State.seekChannel_takes (hstate : (s.gen g).state = .ready) (hwait : s.par.waitList = []) (hfree : s.freeChannel = some k) :
    s.seekChannel g = s.takeChannel g k := by
  have hserve : State.serveWaiting 8 s = s := by
    rw [State.serveWaiting, hfree, hwait]
  rw [State.seekChannel, hserve, hfree, hwait]
  simp [hstate]

/-- A run that is evaluated for the first time has still to qualify. -/
theorem evaluation_first (hr : r.ready = false) (hq : r.qualify = 0) (h : 2 ≤ s.fld .sync r.entry 7) :
    (evaluation m s r).ready = false ∧ (evaluation m s r).release = false := by
  have hfirst : ∀ (window : Bool) (p : Bool), let ready := window && (r.ready || decide (s.fld .sync r.entry 7 ≤ if window then r.qualify + 1 else 0))
      ready = false ∧ (ready && p) = false := fun window p => by
    have hno : ¬ s.fld .sync r.entry 7 ≤ 1 := by omega
    cases window <;> simp [hr, hq, hno]
  exact hfirst _ _

namespace Checking

/-- The generator takes channel 1, with its SYNC close in the slot. -/
theorem takesChannel (h : Checking s t x g b) (hlive : Clause.busLive t g) (hfree : ∀ k ∈ [1, 2, 3], s.channel k = none)
    (hmay : Clause.mayClose s b) (hlock : t.lines.lockout = false) :
    ∃ u d, Returned x u g b ∧ Taken u d g ∧ x.deadCheck g = d ∧ u.runOf g = s.runOf g ∧ u.genBreaker g = b := by
  have hreturned := h.returned
  have hcheck := State.deadCheck_live h.state_at h.slot_at (h.live_at hlive)
  generalize x.genEnter g .ready = u at *
  have hufld : ∀ {y : TableId}, y ≠ .element ∧ y ≠ .curve → ∀ e id, u.fld y e id = s.fld y e id := fun {y} hy e id => by
    rw [State.fld, hreturned.mgmt]
    exact h.work.fld hy e id
  have hbreaker : u.genBreaker g = b := (hufld (by decide) g 3).trans h.breaker
  have hrun : u.runOf g = s.runOf g := by
    rw [State.runOf, State.runOf, State.genBreaker, State.genBreaker, hufld (by decide), hufld (by decide), hufld (by decide)]
  have hwait : u.par.waitList = [] := by
    rw [hreturned.waitList, h.work.par, h.waitList]
    rfl
  have hlen : 1 < u.par.channels.length := by
    rw [hreturned.channels, h.work.par, h.quiet.channels_length]
    decide
  have hnone : u.channel 1 = none := (hreturned.channel 1).trans ((h.work.channel 1).trans (hfree 1 (by decide)))
  have hslot : u.brk b = (x.brk b).ended .withdrawn := hreturned.brk_same h.lt_recs
  have hgen := hreturned.gen_same h.lt_gens
  have hfirst : u.freeChannel = some 1 := List.find?_cons_of_pos (by rw [hnone]; simp [hlen])
  rw [State.seekChannel_takes (by rw [hgen]) hwait hfirst] at hcheck
  refine ⟨u, _, hreturned, State.takeChannel_taken ?_ h.lt (by rw [hgen]) ?_ ?_ ?_ hnone hlen, hcheck, hrun, hbreaker⟩
  · rw [hreturned.gens, List.length_modify, h.work.gens_length h.quiet]
  · rw [hgen, h.work.gen]
    exact h.deferred
  · rw [hbreaker]
    exact mayClose_of_ended (h.work.mayClose hmay h.bf hlock) (congrArg Management.tables hreturned.mgmt) hreturned.lines hslot
  · rw [hbreaker, hslot]
    rfl

theorem takes (h : Checking s t x g b) (hlive : Clause.busLive t g) (hfree : ∀ k ∈ [1, 2, 3], s.channel k = none)
    (hmay : Clause.mayClose s b) (hlock : t.lines.lockout = false) (hvalid : Clause.runValid t (s.runOf g))
    (hq : 2 ≤ s.fld .sync g 7) : t.brk b = { (s.brk b).ended .withdrawn with slot := some (Clause.closeOf g .sync) } ∧
      t.gen g = { ({ s.gen g with state := .syncing } : GenRec).biased (Clause.speedBias t (s.runOf g) g)
          (Clause.voltageBias t (s.runOf g) g) with
        refreshTimer := (t.gen g).refreshTimer } ∧
      (∃ e : Evaluation, e.ready = false ∧ t.channel 1 =
        some (({ s.runOf g with wrote := if (s.gen g).common.biasControl then [g] else [] } : SyncRun).evaluated e .running)) ∧
      t.par.token = none ∧ t.par.waitList = [] := by
  obtain ⟨u, d, hreturned, htaken, hcheck, hrun, hbreaker⟩ := h.takesChannel hlive hfree hmay hlock
  have hmgmt : d.mgmt = x.mgmt := htaken.mgmt.trans hreturned.mgmt
  have hmeasures : u.measures = t.measures := hreturned.measures.trans h.work.measures
  have hugen : u.gen g = { s.gen g with state := .ready } := (hreturned.gen_same h.lt_gens).trans (by rw [h.work.gen])
  have hrecs : d.breakers.recs = u.breakers.recs.modify b (fun r => { r with slot := some (Clause.closeOf g .sync) }) := by
    rw [htaken.recs, hbreaker]
  have hlenb : b < u.breakers.recs.length := by
    rw [hreturned.recs, List.length_modify]
    exact h.lt_recs
  have hown := htaken.own
  rw [hrun, hugen] at hown
  dsimp only at hown
  generalize hR : ({ s.runOf g with wrote := if (s.gen g).common.biasControl then [g] else [] } : SyncRun) = R at *
  have hRvalid : Clause.runValid d R := by
    rw [runValid_congr (htaken.measures.trans hmeasures), ← hR]
    exact hvalid
  obtain ⟨hready, hrelease⟩ := evaluation_first (m := d) (s := d) (r := R) (by rw [← hR]; rfl) (by rw [← hR]; rfl) (by
    rw [State.fld, hmgmt, ← State.fld, h.work.fld (by decide), ← hR]
    exact hq)
  have hgoes : State.evaluateRun 1 d = d.setChannel 1 (some (R.evaluated (evaluation d d R) .running)) := by
    rw [State.evaluateRun_valid (g := g) hown (by rw [← hR]; rfl) hRvalid (by rw [← hR]; rfl), hrelease]
    rfl
  generalize evaluation d d R = e at *
  have hothers : ∀ j < 4, j ≠ 1 → ∀ v : State, v.channel j = d.channel j → State.evaluateRun j v = v := fun j hj hne v hv => by
    cases hc : d.channel j with
    | none => exact State.evaluateRun_none (hv.trans hc)
    | some y =>
      obtain ⟨y', hy', hphase⟩ := htaken.channels j hne y hc
      have hs : s.channel j = some y' := by rw [← h.work.channel, ← hreturned.channel, hy']
      exact State.evaluateRun_released (hv.trans hc) (hphase.trans (h.runs j hj y' hs).1)
  have hworks := h.works hcheck (fun i hi => (htaken.others i hi).trans (hreturned.gen_other hi)) (fun a ha => by
    rw [State.brk, hrecs]
    exact congrArg BreakerRec.slot ((nth_modify_other _ _ ha.symm).trans (hreturned.brk_other ha))) hmgmt
  rw [State.evaluateRuns_one (by decide) (fun j hj hne => hothers j hj hne d rfl)
    (fun j hj hne => hothers j hj hne _ (by rw [hgoes]; exact State.setChannel_other hne _)), hgoes] at hworks
  have hsettles := h.settles
  rw [hworks] at hsettles
  obtain ⟨y, hy, hsettle, -⟩ := closure_captured hsettles
  have hypar : y.par = (d.setChannel 1 (some (R.evaluated e .running))).par := hy.par
  have hywork : y.work = [.genOutcome g b .closing .dead .withdrawn, .tokenGrant, .tokenGrant] := by
    rw [hy.work]
    show d.work ++ [_] = _
    rw [htaken.work, hreturned.work, h.work.work]
    rfl
  have hylist : y.par.tokenList = [] := by
    rw [hypar]
    show d.par.tokenList = []
    rw [htaken.tokenList, hreturned.tokenList, h.tokenList_at]
    rfl
  have hdrains : Drains 3 y { y with work := [] } := .skip hywork (State.handle_withdrawnClose _)
    (.skip rfl (State.handle_tokenGrant hylist) (.skip rfl (State.handle_tokenGrant hylist) (.done rfl)))
  have hended := ClosureEnds.of_drains hsettle hdrains
    (hy.hushed.trans (htaken.hushed.trans (hreturned.hushed.trans h.work.hushed)))
    (by show y.par.gens.length = 8; rw [hypar]; exact htaken.count)
  have htgen : t.gen g = { d.gen g with refreshTimer := (t.gen g).refreshTimer } :=
    (hended.gens g h.lt).trans (by rw [show ({ y with work := [] } : State).gen g = d.gen g from hy.gen g])
  have hbiases := biases_congr (v := t) (u := u) (g := g) (r := s.runOf g) hmeasures.symm
    (congrArg Management.tables (h.work.mgmt.symm.trans hreturned.mgmt.symm)) (by rw [htgen, htaken.gen]; rfl)
    (by rw [htgen, htaken.gen]; rfl)
  refine ⟨?_, ?_, ⟨e, hready, ?_⟩, ?_, ?_⟩
  · refine (hended.brk b).trans ((hy.brk b).trans ?_)
    show nth d.breakers.recs b = _
    rw [hrecs]
    refine (nth_modify_same _ hlenb).trans ?_
    rw [show nth u.breakers.recs b = (x.brk b).ended .withdrawn from hreturned.brk_same h.lt_recs, h.brk]
  · refine htgen.trans ?_
    generalize (t.gen g).refreshTimer = n
    rw [htaken.gen, hrun, hbiases.1, hbiases.2, hugen]
  · exact (hended.channel 1).trans ((hy.channel 1).trans (State.setChannel_same (State.channel_lt hown) _))
  · rw [hended.par]
    show y.par.token = none
    rw [hypar]
    exact htaken.token.trans hreturned.token
  · rw [hended.par]
    show y.par.waitList = []
    rw [hypar]
    show d.par.waitList = []
    rw [htaken.waitList, hreturned.waitList, h.work.par, h.waitList]
    rfl

end Checking

end

/-- Settles the third part of O40. -/
theorem deadCheckAtAClosure : Clause.DeadCheckAtAClosure := by
  intro s t pin g hs hdue hexec hg hconf hothers hstate hd b x hb hslot hbf htoken hlist hwait hruns
  rw [exec_closure_due hdue] at hexec
  have ht : State.settle s ((s.sampled pin).parallelingWork.captureWork s.closingLabel) = t := Host.Outcome.next.inj hexec
  have hwork := hs.atWork ht fun v hv _ _ _ => State.lockoutGens_rests fun j hj => by
    rw [State.gen, hv, ← State.gen]
    by_cases hjg : j = g
    · rw [hjg, hstate]
      decide
    · obtain h | ⟨h, -⟩ := hothers j hj hjg <;> rw [h] <;> decide
  have hchecking : Checking s t (s.sampled pin) g b := ⟨hs, hwork, ht, hg, hconf, hothers, hstate, hd, rfl, hb, hslot, hbf, htoken,
    hlist, hwait, hruns⟩
  refine ⟨fun hdead hmay hlock => hchecking.dead hdead hmay hlock, fun hdead hlive => hchecking.waits hdead hlive,
    fun hlive hbusy => hchecking.seeks hlive hbusy, fun hlive hfree hmay hlock hvalid hq => ?_⟩
  obtain ⟨hown, hgen, ⟨e, hready, hchannel⟩, hfreed, hnobody⟩ := hchecking.takes hlive hfree hmay hlock hvalid hq
  refine ⟨hown, ?_, ?_, hfreed, hnobody⟩
  · refine hgen.trans ?_
    generalize (t.gen g).refreshTimer = n
    rfl
  · rw [hchannel, Option.map_some, SyncRun.evaluated, hready]
    rfl

/-- Settles O40. -/
theorem deadCheckTimesOut : Obligations.DeadCheckTimesOut :=
  ⟨deadCheckRunsOut, freedTokenIsGranted, deadCheckAtAClosure, runEvaluatesAtAClosure, sequencersRunAborts, outcomeEndsTheRun,
    outcomeLeavesOtherRuns⟩


end Sys2Proof.Machine
end
